-- ==== Sys2Proof/Word.lean ====
section
/-!
DEFINITION. Bytes and words, and the plainest arithmetic on them.
-/

namespace Sys2Proof

/-- One byte of memory, of a message or of a frame. -/
abbrev Byte := BitVec 8

/-- A 32-bit word. -/
abbrev Word32 := BitVec 32

/-- A 64-bit word: a register's contents, a fault message, a timestamp. -/
abbrev Word := BitVec 64

/-- The three lanes of the module (spec/00_scope.md Table 0.3). -/
inductive LaneId where
  | A
  | B
  | C
deriving DecidableEq, Repr

/-- The code of a lane: 0 A, 1 B, 2 C (spec/18_address_map.md, SY_ID.LANE). -/
def LaneId.code : LaneId → Nat
  | .A => 0
  | .B => 1
  | .C => 2

/-- The next lane in the order A, B, C, A. -/
def LaneId.next : LaneId → LaneId
  | .A => .B
  | .B => .C
  | .C => .A

/-- The previous lane in the order A, B, C, A. -/
def LaneId.prev : LaneId → LaneId
  | .A => .C
  | .B => .A
  | .C => .B

/-- The lane of a code; a code above 2 names no lane. -/
def LaneId.ofCode : Nat → Option LaneId
  | 0 => some .A
  | 1 => some .B
  | 2 => some .C
  | _ => none

/-- The members of the product family (spec/00_scope.md Table 0.3). -/
inductive Part where
  | apx9603
  | apx9602
  | apx9613
deriving DecidableEq, Repr

end Sys2Proof
end

