-- ==== Sys2Proof/Machine/RegMap.lean ====
section
/-!
DEFINITION. The register map of a lane: every register of the spec's register tables, its fields, their access types, resets and
ranges (spec/00_scope.md R10, R11; spec/02_loop_engine.md to spec/16_start_up.md, the register sections; spec/18_address_map.md
R577 to R592). One constant per field names the bits; one descriptor per register says how they are written and what they hold at reset.
-/

namespace Sys2Proof.Machine

/-- The two axes of a lane (spec/00_scope.md Table 0.3). -/
inductive Ax where
  | x0
  | x1
deriving DecidableEq, Repr

/-- The number of an axis. -/
def Ax.idx : Ax → Nat
  | .x0 => 0
  | .x1 => 1

/-- The distance of an axis's blocks from those of axis 0 (R581). -/
def Ax.off : Ax → Nat
  | .x0 => 0
  | .x1 => 0x100000

/-- A field of a register: the register's address, the field's lowest bit and its width. -/
structure Fld where
  addr : Nat
  lo : Nat
  w : Nat
deriving DecidableEq, Repr

/-- The access types of Table 0.9 (R11). -/
inductive Acc where
  | ro
  | rw
  | rl
  | wc
  | wo
  | ow
  | lv
deriving DecidableEq, Repr

/-- The range a register table gives a field (R525, R592). -/
inductive Rng where
  /-- every value of the field's width -/
  | any
  /-- an unsigned number between the bounds, both included -/
  | nat (lo hi : Nat)
  /-- zero, or an unsigned number between the bounds -/
  | zeroOr (lo hi : Nat)
  /-- one of the listed values -/
  | oneOf (l : List Nat)
  /-- bit 0 is zero -/
  | even
  /-- a non-negative Q24.40 number between the raw bounds -/
  | q (lo hi : Nat)
deriving DecidableEq, Repr

/-- Whether a field value lies in a range. -/
def Rng.ok (r : Rng) (v : Nat) : Bool :=
  match r with
  | .any => true
  | .nat lo hi => decide (lo ≤ v) && decide (v ≤ hi)
  | .zeroOr lo hi => decide (v = 0) || (decide (lo ≤ v) && decide (v ≤ hi))
  | .oneOf l => l.contains v
  | .even => decide (v % 2 = 0)
  | .q lo hi => decide (lo ≤ v) && decide (v ≤ hi)

/-- A field as its table gives it. -/
structure FieldDesc where
  lo : Nat
  w : Nat
  acc : Acc
  reset : Nat
  rng : Rng
deriving DecidableEq, Repr

/-- A register, or a family of registers with one layout: offset in the block, width in bits, and up to two strides and counts. -/
structure RegDesc where
  off : Nat
  wide : Nat
  stride1 : Nat
  count1 : Nat
  stride2 : Nat
  count2 : Nat
  fields : List FieldDesc
deriving DecidableEq, Repr

/-- Whether the offset is that of a register of the family. -/
def RegDesc.has (d : RegDesc) (o : Nat) : Bool :=
  decide (d.off ≤ o) &&
    (let r := o - d.off
     let i := r / d.stride1
     let q := r - i * d.stride1
     let j := q / d.stride2
     decide (i < d.count1) && decide (j < d.count2) && decide (q = j * d.stride2))

/-- What the fields of a register hold at reset, together. -/
def RegDesc.resetVal (d : RegDesc) : Nat :=
  d.fields.foldl (fun a f => a + f.reset * 2 ^ f.lo) 0


/-! ### SY (base 0xF00000000) -/

/-- SY_ID.LANE (spec/18_address_map.md, R583). -/
def SY_ID_LANE : Fld := ⟨0xF00000000, 16, 2⟩
/-- SY_ID.DIEREV (spec/18_address_map.md, R583). -/
def SY_ID_DIEREV : Fld := ⟨0xF00000000, 8, 8⟩
/-- SY_ID.PART (spec/18_address_map.md, R583). -/
def SY_ID_PART : Fld := ⟨0xF00000000, 0, 8⟩
/-- SY_MODE.ARUSED (spec/18_address_map.md, R584). -/
def SY_MODE_ARUSED : Fld := ⟨0xF00000008, 28, 1⟩
/-- SY_MODE.MC (spec/18_address_map.md, R584). -/
def SY_MODE_MC : Fld := ⟨0xF00000008, 24, 3⟩
/-- SY_MODE.MB (spec/18_address_map.md, R584). -/
def SY_MODE_MB : Fld := ⟨0xF00000008, 20, 3⟩
/-- SY_MODE.MA (spec/18_address_map.md, R584). -/
def SY_MODE_MA : Fld := ⟨0xF00000008, 16, 3⟩
/-- SY_MODE.LOCAL (spec/18_address_map.md, R584). -/
def SY_MODE_LOCAL : Fld := ⟨0xF00000008, 8, 4⟩
/-- SY_MODE.ANN (spec/18_address_map.md, R584). -/
def SY_MODE_ANN : Fld := ⟨0xF00000008, 4, 3⟩
/-- SY_MODE.OWN (spec/18_address_map.md, R584). -/
def SY_MODE_OWN : Fld := ⟨0xF00000008, 0, 3⟩
/-- SY_POSTURE.DLV1 (spec/18_address_map.md, R584). -/
def SY_POSTURE_DLV1 : Fld := ⟨0xF0000000C, 24, 3⟩
/-- SY_POSTURE.DLV0 (spec/18_address_map.md, R584). -/
def SY_POSTURE_DLV0 : Fld := ⟨0xF0000000C, 20, 3⟩
/-- SY_POSTURE.CNT (spec/18_address_map.md, R584). -/
def SY_POSTURE_CNT : Fld := ⟨0xF0000000C, 16, 3⟩
/-- SY_POSTURE.AX1 (spec/18_address_map.md, R584). -/
def SY_POSTURE_AX1 : Fld := ⟨0xF0000000C, 8, 2⟩
/-- SY_POSTURE.AX0 (spec/18_address_map.md, R584). -/
def SY_POSTURE_AX0 : Fld := ⟨0xF0000000C, 4, 2⟩
/-- SY_POSTURE.DEV (spec/18_address_map.md, R584). -/
def SY_POSTURE_DEV : Fld := ⟨0xF0000000C, 0, 2⟩
/-- SY_CAP0.MRAM_MB (spec/00_scope.md, R2). -/
def SY_CAP0_MRAM_MB : Fld := ⟨0xF00000010, 32, 16⟩
/-- SY_CAP0.HUB (spec/00_scope.md, R2). -/
def SY_CAP0_HUB : Fld := ⟨0xF00000010, 17, 1⟩
/-- SY_CAP0.TQ (spec/00_scope.md, R2). -/
def SY_CAP0_TQ : Fld := ⟨0xF00000010, 16, 1⟩
/-- SY_CAP0.AXES (spec/00_scope.md, R2). -/
def SY_CAP0_AXES : Fld := ⟨0xF00000010, 8, 2⟩
/-- SY_CAP0.LANES (spec/00_scope.md, R2). -/
def SY_CAP0_LANES : Fld := ⟨0xF00000010, 0, 3⟩
/-- SY_CAP1.FLOWS (spec/00_scope.md, R3). -/
def SY_CAP1_FLOWS : Fld := ⟨0xF00000018, 16, 16⟩
/-- SY_CAP1.HAMPERS (spec/00_scope.md, R3). -/
def SY_CAP1_HAMPERS : Fld := ⟨0xF00000018, 0, 8⟩
/-- SY_PROF.NEXT (spec/18_address_map.md, R584). -/
def SY_PROF_NEXT : Fld := ⟨0xF00000020, 16, 2⟩
/-- SY_PROF.INF (spec/18_address_map.md, R584). -/
def SY_PROF_INF : Fld := ⟨0xF00000020, 8, 2⟩
/-- SY_PROF.CEIL (spec/18_address_map.md, R584). -/
def SY_PROF_CEIL : Fld := ⟨0xF00000020, 0, 2⟩
/-- SY_CFG.AUTORST (spec/18_address_map.md, R20). -/
def SY_CFG_AUTORST : Fld := ⟨0xF00000024, 0, 1⟩
/-- SY_DEGBUD.S (spec/18_address_map.md, R36). -/
def SY_DEGBUD_S : Fld := ⟨0xF00000028, 0, 12⟩
/-- SY_DEGUSED.MS (spec/18_address_map.md, R37). -/
def SY_DEGUSED_MS : Fld := ⟨0xF0000002C, 0, 32⟩
/-- SY_DEGREM.MS (spec/18_address_map.md, R40). -/
def SY_DEGREM_MS : Fld := ⟨0xF00000030, 0, 32⟩
/-- SY_ARMTIME.MS (spec/18_address_map.md, R18). -/
def SY_ARMTIME_MS : Fld := ⟨0xF00000034, 0, 11⟩
/-- SY_STILL.V (spec/18_address_map.md, R17). -/
def SY_STILL_V : Fld := ⟨0xF00000038, 0, 16⟩
/-- SY_TWARN.T (spec/18_address_map.md, R49). -/
def SY_TWARN_T : Fld := ⟨0xF0000003C, 0, 16⟩
/-- SY_THOLD.T (spec/18_address_map.md, R49). -/
def SY_THOLD_T : Fld := ⟨0xF00000040, 0, 16⟩
/-- SY_CMDAGE.CYC (spec/18_address_map.md, R49). -/
def SY_CMDAGE_CYC : Fld := ⟨0xF00000044, 0, 8⟩
/-- SY_EVSTAT_k.EV (spec/18_address_map.md, R587). -/
def SY_EVSTAT_EV (k : Nat) : Fld := ⟨0xF00000080 + 0x4 * k, 0, 32⟩
/-- SY_IMGSTAT.KEY (spec/15_configuration_image.md, R529). -/
def SY_IMGSTAT_KEY : Fld := ⟨0xF00000100, 8, 2⟩
/-- SY_IMGSTAT.SLOTWR (spec/15_configuration_image.md, R529). -/
def SY_IMGSTAT_SLOTWR : Fld := ⟨0xF00000100, 6, 1⟩
/-- SY_IMGSTAT.FALLBK (spec/15_configuration_image.md, R529). -/
def SY_IMGSTAT_FALLBK : Fld := ⟨0xF00000100, 5, 1⟩
/-- SY_IMGSTAT.LOCKED (spec/15_configuration_image.md, R529). -/
def SY_IMGSTAT_LOCKED : Fld := ⟨0xF00000100, 4, 1⟩
/-- SY_IMGSTAT.SRC (spec/15_configuration_image.md, R529). -/
def SY_IMGSTAT_SRC : Fld := ⟨0xF00000100, 2, 1⟩
/-- SY_IMGSTAT.SLOT (spec/15_configuration_image.md, R529). -/
def SY_IMGSTAT_SLOT : Fld := ⟨0xF00000100, 1, 1⟩
/-- SY_IMGSTAT.LOADED (spec/15_configuration_image.md, R529). -/
def SY_IMGSTAT_LOADED : Fld := ⟨0xF00000100, 0, 1⟩
/-- SY_IMGSEQ.VAL (spec/15_configuration_image.md, R529). -/
def SY_IMGSEQ : Fld := ⟨0xF00000104, 0, 32⟩
/-- SY_IMGLOAD.US (spec/15_configuration_image.md, R529). -/
def SY_IMGLOAD_US : Fld := ⟨0xF00000108, 0, 20⟩
/-- SY_IMGREJ_n.RID2 (spec/15_configuration_image.md, R529). -/
def SY_IMGREJ_RID2 (n : Nat) : Fld := ⟨0xF00000110 + 0x8 * n, 32, 16⟩
/-- SY_IMGREJ_n.RID1 (spec/15_configuration_image.md, R529). -/
def SY_IMGREJ_RID1 (n : Nat) : Fld := ⟨0xF00000110 + 0x8 * n, 16, 16⟩
/-- SY_IMGREJ_n.VALID (spec/15_configuration_image.md, R529). -/
def SY_IMGREJ_VALID (n : Nat) : Fld := ⟨0xF00000110 + 0x8 * n, 8, 1⟩
/-- SY_IMGREJ_n.CODE (spec/15_configuration_image.md, R529). -/
def SY_IMGREJ_CODE (n : Nat) : Fld := ⟨0xF00000110 + 0x8 * n, 0, 8⟩
/-- SY_IMGWHERE_n.RES (spec/15_configuration_image.md, R529). -/
def SY_IMGWHERE_RES (n : Nat) : Fld := ⟨0xF00000120 + 0x8 * n, 63, 1⟩
/-- SY_IMGWHERE_n.LOC (spec/15_configuration_image.md, R529). -/
def SY_IMGWHERE_LOC (n : Nat) : Fld := ⟨0xF00000120 + 0x8 * n, 0, 40⟩
/-- SY_WTM_x_w0.VAL (spec/18_address_map.md, R585). -/
def SY_WTM_w0 (a : Nat) : Fld := ⟨0xF00000200 + 0x20 * a, 0, 64⟩
/-- SY_WTM_x_w1.VAL (spec/18_address_map.md, R585). -/
def SY_WTM_w1 (a : Nat) : Fld := ⟨0xF00000208 + 0x20 * a, 0, 64⟩
/-- SY_WTM_x_w2.VAL (spec/18_address_map.md, R585). -/
def SY_WTM_w2 (a : Nat) : Fld := ⟨0xF00000210 + 0x20 * a, 0, 64⟩
/-- SY_WTM_x_w3.VAL (spec/18_address_map.md, R585). -/
def SY_WTM_w3 (a : Nat) : Fld := ⟨0xF00000218 + 0x20 * a, 0, 64⟩
/-- SY_MID_n.VAL (spec/18_address_map.md, R586). -/
def SY_MID (n : Nat) : Fld := ⟨0xF00000800 + 0x4 * n, 0, 32⟩

/-! ### PD (base 0xF00010000) -/

/-- PD_CTL.SLEEP (spec/13_power_clocks_wake.md, R451). -/
def PD_CTL_SLEEP : Fld := ⟨0xF00010000, 0, 1⟩
/-- PD_REQ.DOM (spec/13_power_clocks_wake.md, R472). -/
def PD_REQ_DOM : Fld := ⟨0xF00010004, 0, 14⟩
/-- PD_SLPCFG.DOM (spec/13_power_clocks_wake.md, R472). -/
def PD_SLPCFG_DOM : Fld := ⟨0xF00010008, 0, 14⟩
/-- PD_STAT.OFFACC (spec/13_power_clocks_wake.md, R472). -/
def PD_STAT_OFFACC : Fld := ⟨0xF0001000C, 20, 1⟩
/-- PD_STAT.REQREJ (spec/13_power_clocks_wake.md, R472). -/
def PD_STAT_REQREJ : Fld := ⟨0xF0001000C, 19, 1⟩
/-- PD_STAT.REFUSED (spec/13_power_clocks_wake.md, R472). -/
def PD_STAT_REFUSED : Fld := ⟨0xF0001000C, 18, 1⟩
/-- PD_STAT.SLPREJ (spec/13_power_clocks_wake.md, R472). -/
def PD_STAT_SLPREJ : Fld := ⟨0xF0001000C, 17, 1⟩
/-- PD_STAT.ENTRY (spec/13_power_clocks_wake.md, R472). -/
def PD_STAT_ENTRY : Fld := ⟨0xF0001000C, 16, 1⟩
/-- PD_STAT.STATE (spec/13_power_clocks_wake.md, R472). -/
def PD_STAT_STATE : Fld := ⟨0xF0001000C, 0, 14⟩

/-! ### CK (base 0xF00020000) -/

/-- CK_CTL.DIVGO (spec/13_power_clocks_wake.md, R464). -/
def CK_CTL_DIVGO : Fld := ⟨0xF00020000, 3, 1⟩
/-- CK_CTL.DIV (spec/13_power_clocks_wake.md, R464). -/
def CK_CTL_DIV : Fld := ⟨0xF00020000, 1, 2⟩
/-- CK_CTL.CALGO (spec/13_power_clocks_wake.md, R464). -/
def CK_CTL_CALGO : Fld := ⟨0xF00020000, 0, 1⟩
/-- CK_STAT.CALFAIL (spec/13_power_clocks_wake.md, R472). -/
def CK_STAT_CALFAIL : Fld := ⟨0xF00020004, 5, 1⟩
/-- CK_STAT.DIVREJ (spec/13_power_clocks_wake.md, R472). -/
def CK_STAT_DIVREJ : Fld := ⟨0xF00020004, 4, 1⟩
/-- CK_STAT.CALV (spec/13_power_clocks_wake.md, R472). -/
def CK_STAT_CALV : Fld := ⟨0xF00020004, 3, 1⟩
/-- CK_STAT.LOCK (spec/13_power_clocks_wake.md, R472). -/
def CK_STAT_LOCK : Fld := ⟨0xF00020004, 2, 1⟩
/-- CK_STAT.DIV (spec/13_power_clocks_wake.md, R472). -/
def CK_STAT_DIV : Fld := ⟨0xF00020004, 0, 2⟩
/-- CK_LPOCAL.CNT (spec/13_power_clocks_wake.md, R459). -/
def CK_LPOCAL_CNT : Fld := ⟨0xF00020008, 0, 20⟩
/-- CK_FCNT.CNT (spec/13_power_clocks_wake.md, R466). -/
def CK_FCNT_CNT : Fld := ⟨0xF0002000C, 0, 20⟩

/-! ### PM (base 0xF00030000) -/

/-- PM_CTL.CMDGO (spec/13_power_clocks_wake.md, R470). -/
def PM_CTL_CMDGO : Fld := ⟨0xF00030000, 0, 1⟩
/-- PM_CFG.SETTLE (spec/13_power_clocks_wake.md, R472). -/
def PM_CFG_SETTLE : Fld := ⟨0xF00030004, 16, 10⟩
/-- PM_CFG.EN (spec/13_power_clocks_wake.md, R472). -/
def PM_CFG_EN : Fld := ⟨0xF00030004, 15, 1⟩
/-- PM_CFG.POLL (spec/13_power_clocks_wake.md, R472). -/
def PM_CFG_POLL : Fld := ⟨0xF00030004, 14, 1⟩
/-- PM_CFG.ACKSRC (spec/13_power_clocks_wake.md, R472). -/
def PM_CFG_ACKSRC : Fld := ⟨0xF00030004, 13, 1⟩
/-- PM_CFG.EXP (spec/13_power_clocks_wake.md, R472). -/
def PM_CFG_EXP : Fld := ⟨0xF00030004, 8, 5⟩
/-- PM_CFG.ADDR (spec/13_power_clocks_wake.md, R472). -/
def PM_CFG_ADDR : Fld := ⟨0xF00030004, 0, 7⟩
/-- PM_VWIN.MAX (spec/13_power_clocks_wake.md, R468). -/
def PM_VWIN_MAX : Fld := ⟨0xF00030008, 16, 16⟩
/-- PM_VWIN.MIN (spec/13_power_clocks_wake.md, R468). -/
def PM_VWIN_MIN : Fld := ⟨0xF00030008, 0, 16⟩
/-- PM_VREQ.MV (spec/13_power_clocks_wake.md, R468). -/
def PM_VREQ_MV : Fld := ⟨0xF0003000C, 0, 16⟩
/-- PM_CMD.DATA (spec/13_power_clocks_wake.md, R472). -/
def PM_CMD_DATA : Fld := ⟨0xF00030010, 8, 8⟩
/-- PM_CMD.CODE (spec/13_power_clocks_wake.md, R472). -/
def PM_CMD_CODE : Fld := ⟨0xF00030010, 0, 2⟩
/-- PM_STAT.BUSYREJ (spec/13_power_clocks_wake.md, R472). -/
def PM_STAT_BUSYREJ : Fld := ⟨0xF00030014, 7, 1⟩
/-- PM_STAT.BUSERR (spec/13_power_clocks_wake.md, R472). -/
def PM_STAT_BUSERR : Fld := ⟨0xF00030014, 6, 1⟩
/-- PM_STAT.VREJ (spec/13_power_clocks_wake.md, R472). -/
def PM_STAT_VREJ : Fld := ⟨0xF00030014, 5, 1⟩
/-- PM_STAT.NOACK (spec/13_power_clocks_wake.md, R472). -/
def PM_STAT_NOACK : Fld := ⟨0xF00030014, 4, 1⟩
/-- PM_STAT.LATE (spec/13_power_clocks_wake.md, R472). -/
def PM_STAT_LATE : Fld := ⟨0xF00030014, 3, 1⟩
/-- PM_STAT.ALERT (spec/13_power_clocks_wake.md, R472). -/
def PM_STAT_ALERT : Fld := ⟨0xF00030014, 2, 1⟩
/-- PM_STAT.PGOOD (spec/13_power_clocks_wake.md, R472). -/
def PM_STAT_PGOOD : Fld := ⟨0xF00030014, 1, 1⟩
/-- PM_STAT.BUSY (spec/13_power_clocks_wake.md, R472). -/
def PM_STAT_BUSY : Fld := ⟨0xF00030014, 0, 1⟩
/-- PM_VACK.MV (spec/13_power_clocks_wake.md, R472). -/
def PM_VACK_MV : Fld := ⟨0xF00030018, 0, 16⟩
/-- PM_VOUT.MV (spec/13_power_clocks_wake.md, R471). -/
def PM_VOUT_MV : Fld := ⟨0xF0003001C, 0, 16⟩
/-- PM_IOUT.I10MA (spec/13_power_clocks_wake.md, R471). -/
def PM_IOUT_I10MA : Fld := ⟨0xF00030020, 0, 16⟩
/-- PM_SW.OP (spec/13_power_clocks_wake.md, R470). -/
def PM_SW_OP : Fld := ⟨0xF00030024, 16, 8⟩
/-- PM_SW.SW (spec/13_power_clocks_wake.md, R470). -/
def PM_SW_SW : Fld := ⟨0xF00030024, 0, 16⟩

/-! ### WK (base 0xF00040000) -/

/-- WK_CTL.CNTCLR (spec/13_power_clocks_wake.md, R458). -/
def WK_CTL_CNTCLR : Fld := ⟨0xF00040000, 0, 1⟩
/-- WK_CFG.WADDR (spec/13_power_clocks_wake.md, R472). -/
def WK_CFG_WADDR : Fld := ⟨0xF00040004, 16, 16⟩
/-- WK_CFG.SAFEN (spec/13_power_clocks_wake.md, R472). -/
def WK_CFG_SAFEN : Fld := ⟨0xF00040004, 8, 8⟩
/-- WK_CFG.CMDEN (spec/13_power_clocks_wake.md, R472). -/
def WK_CFG_CMDEN : Fld := ⟨0xF00040004, 4, 4⟩
/-- WK_CFG.SAFW (spec/13_power_clocks_wake.md, R472). -/
def WK_CFG_SAFW : Fld := ⟨0xF00040004, 2, 1⟩
/-- WK_CFG.ALW (spec/13_power_clocks_wake.md, R472). -/
def WK_CFG_ALW : Fld := ⟨0xF00040004, 1, 1⟩
/-- WK_CFG.WHW (spec/13_power_clocks_wake.md, R472). -/
def WK_CFG_WHW : Fld := ⟨0xF00040004, 0, 1⟩
/-- WK_WCMD.CMD3 (spec/13_power_clocks_wake.md, R458). -/
def WK_WCMD_CMD3 : Fld := ⟨0xF00040008, 24, 8⟩
/-- WK_WCMD.CMD2 (spec/13_power_clocks_wake.md, R458). -/
def WK_WCMD_CMD2 : Fld := ⟨0xF00040008, 16, 8⟩
/-- WK_WCMD.CMD1 (spec/13_power_clocks_wake.md, R458). -/
def WK_WCMD_CMD1 : Fld := ⟨0xF00040008, 8, 8⟩
/-- WK_WCMD.CMD0 (spec/13_power_clocks_wake.md, R458). -/
def WK_WCMD_CMD0 : Fld := ⟨0xF00040008, 0, 8⟩
/-- WK_STAT.TQ (spec/13_power_clocks_wake.md, R472). -/
def WK_STAT_TQ : Fld := ⟨0xF0004000C, 24, 2⟩
/-- WK_STAT.LASTCMD (spec/13_power_clocks_wake.md, R472). -/
def WK_STAT_LASTCMD : Fld := ⟨0xF0004000C, 8, 8⟩
/-- WK_STAT.BADW (spec/13_power_clocks_wake.md, R472). -/
def WK_STAT_BADW : Fld := ⟨0xF0004000C, 4, 1⟩
/-- WK_STAT.SLPABORT (spec/13_power_clocks_wake.md, R472). -/
def WK_STAT_SLPABORT : Fld := ⟨0xF0004000C, 3, 1⟩
/-- WK_STAT.CAUSE (spec/13_power_clocks_wake.md, R472). -/
def WK_STAT_CAUSE : Fld := ⟨0xF0004000C, 0, 3⟩
/-- WK_CNT.ABORT (spec/13_power_clocks_wake.md, R472). -/
def WK_CNT_ABORT : Fld := ⟨0xF00040010, 16, 8⟩
/-- WK_CNT.MATCH (spec/13_power_clocks_wake.md, R472). -/
def WK_CNT_MATCH : Fld := ⟨0xF00040010, 8, 8⟩
/-- WK_CNT.BADW (spec/13_power_clocks_wake.md, R472). -/
def WK_CNT_BADW : Fld := ⟨0xF00040010, 0, 8⟩
/-- WK_SLOW.VAL (spec/13_power_clocks_wake.md, R473). -/
def WK_SLOW : Fld := ⟨0xF00040040, 0, 64⟩
/-- WK_ALARM.VAL (spec/13_power_clocks_wake.md, R473). -/
def WK_ALARM : Fld := ⟨0xF00040048, 0, 64⟩
/-- WK_SLOWS.VAL (spec/13_power_clocks_wake.md, R473). -/
def WK_SLOWS : Fld := ⟨0xF00040050, 0, 64⟩
/-- WK_TSLEEP.VAL (spec/13_power_clocks_wake.md, R473). -/
def WK_TSLEEP : Fld := ⟨0xF00040058, 0, 64⟩
/-- WK_TWAKE.VAL (spec/13_power_clocks_wake.md, R473). -/
def WK_TWAKE : Fld := ⟨0xF00040060, 0, 64⟩

/-! ### FC (base 0xF00050000) -/

/-- FC_CTL.NBFREE1 (spec/09_fault_collection.md, R345). -/
def FC_CTL_NBFREE1 : Fld := ⟨0xF00050000, 4, 1⟩
/-- FC_CTL.NBFREE0 (spec/09_fault_collection.md, R345). -/
def FC_CTL_NBFREE0 : Fld := ⟨0xF00050000, 3, 1⟩
/-- FC_CTL.DUMPDONE (spec/09_fault_collection.md, R345). -/
def FC_CTL_DUMPDONE : Fld := ⟨0xF00050000, 2, 1⟩
/-- FC_CTL.CNTCLR (spec/09_fault_collection.md, R345). -/
def FC_CTL_CNTCLR : Fld := ⟨0xF00050000, 1, 1⟩
/-- FC_CTL.REARM (spec/09_fault_collection.md, R345). -/
def FC_CTL_REARM : Fld := ⟨0xF00050000, 0, 1⟩
/-- FC_CFG.TCMBASE (spec/09_fault_collection.md, R345). -/
def FC_CFG_TCMBASE : Fld := ⟨0xF00050004, 24, 6⟩
/-- FC_CFG.TCMWIN (spec/09_fault_collection.md, R345). -/
def FC_CFG_TCMWIN : Fld := ⟨0xF00050004, 16, 8⟩
/-- FC_CFG.DTMAX (spec/09_fault_collection.md, R345). -/
def FC_CFG_DTMAX : Fld := ⟨0xF00050004, 8, 8⟩
/-- FC_CFG.DNBPREF (spec/09_fault_collection.md, R345). -/
def FC_CFG_DNBPREF : Fld := ⟨0xF00050004, 1, 1⟩
/-- FC_CFG.DUMPNB (spec/09_fault_collection.md, R345). -/
def FC_CFG_DUMPNB : Fld := ⟨0xF00050004, 0, 1⟩
/-- FC_STAT.LATE (spec/09_fault_collection.md, R345). -/
def FC_STAT_LATE : Fld := ⟨0xF00050008, 6, 1⟩
/-- FC_STAT.DCXREJ (spec/09_fault_collection.md, R345). -/
def FC_STAT_DCXREJ : Fld := ⟨0xF00050008, 5, 1⟩
/-- FC_STAT.BADCLS (spec/09_fault_collection.md, R345). -/
def FC_STAT_BADCLS : Fld := ⟨0xF00050008, 4, 1⟩
/-- FC_STAT.DCX (spec/09_fault_collection.md, R345). -/
def FC_STAT_DCX : Fld := ⟨0xF00050008, 3, 1⟩
/-- FC_STAT.CAPT (spec/09_fault_collection.md, R345). -/
def FC_STAT_CAPT : Fld := ⟨0xF00050008, 2, 1⟩
/-- FC_STAT.OVF (spec/09_fault_collection.md, R345). -/
def FC_STAT_OVF : Fld := ⟨0xF00050008, 1, 1⟩
/-- FC_STAT.FIRSTV (spec/09_fault_collection.md, R345). -/
def FC_STAT_FIRSTV : Fld := ⟨0xF00050008, 0, 1⟩
/-- FC_CNT.FT (spec/09_fault_collection.md, R345). -/
def FC_CNT_FT : Fld := ⟨0xF0005000C, 24, 8⟩
/-- FC_CNT.UC (spec/09_fault_collection.md, R345). -/
def FC_CNT_UC : Fld := ⟨0xF0005000C, 16, 8⟩
/-- FC_CNT.CE (spec/09_fault_collection.md, R345). -/
def FC_CNT_CE : Fld := ⟨0xF0005000C, 0, 16⟩
/-- FC_DROP.CE (spec/09_fault_collection.md, R320). -/
def FC_DROP_CE : Fld := ⟨0xF00050010, 0, 16⟩
/-- FC_LANTCFG.PER (spec/09_fault_collection.md, R329). -/
def FC_LANTCFG_PER : Fld := ⟨0xF00050014, 0, 10⟩
/-- FC_TENDWIN.TMAX (spec/09_fault_collection.md, R345). -/
def FC_TENDWIN_TMAX : Fld := ⟨0xF00050018, 16, 16⟩
/-- FC_TENDWIN.TMIN (spec/09_fault_collection.md, R345). -/
def FC_TENDWIN_TMIN : Fld := ⟨0xF00050018, 0, 16⟩
/-- FC_LANTTEND.KEY (spec/09_fault_collection.md, R331). -/
def FC_LANTTEND_KEY : Fld := ⟨0xF0005001C, 0, 8⟩
/-- FC_LANTSTAT.LASTKEY (spec/09_fault_collection.md, R345). -/
def FC_LANTSTAT_LASTKEY : Fld := ⟨0xF00050020, 16, 8⟩
/-- FC_LANTSTAT.LATE (spec/09_fault_collection.md, R345). -/
def FC_LANTSTAT_LATE : Fld := ⟨0xF00050020, 12, 1⟩
/-- FC_LANTSTAT.PREV (spec/09_fault_collection.md, R345). -/
def FC_LANTSTAT_PREV : Fld := ⟨0xF00050020, 10, 2⟩
/-- FC_LANTSTAT.NEXT (spec/09_fault_collection.md, R345). -/
def FC_LANTSTAT_NEXT : Fld := ⟨0xF00050020, 8, 2⟩
/-- FC_LANTSTAT.STOPC (spec/09_fault_collection.md, R345). -/
def FC_LANTSTAT_STOPC : Fld := ⟨0xF00050020, 2, 3⟩
/-- FC_LANTSTAT.RUN (spec/09_fault_collection.md, R345). -/
def FC_LANTSTAT_RUN : Fld := ⟨0xF00050020, 1, 1⟩
/-- FC_LANTSTAT.LEVEL (spec/09_fault_collection.md, R345). -/
def FC_LANTSTAT_LEVEL : Fld := ⟨0xF00050020, 0, 1⟩
/-- FC_NBSTAT_n.LATE (spec/09_fault_collection.md, R345). -/
def FC_NBSTAT_LATE (n : Nat) : Fld := ⟨0xF00050024 + 0x4 * n, 20, 1⟩
/-- FC_NBSTAT_n.REFUSED (spec/09_fault_collection.md, R345). -/
def FC_NBSTAT_REFUSED (n : Nat) : Fld := ⟨0xF00050024 + 0x4 * n, 19, 1⟩
/-- FC_NBSTAT_n.BAD (spec/09_fault_collection.md, R345). -/
def FC_NBSTAT_BAD (n : Nat) : Fld := ⟨0xF00050024 + 0x4 * n, 18, 1⟩
/-- FC_NBSTAT_n.BUSY (spec/09_fault_collection.md, R345). -/
def FC_NBSTAT_BUSY (n : Nat) : Fld := ⟨0xF00050024 + 0x4 * n, 17, 1⟩
/-- FC_NBSTAT_n.FULL (spec/09_fault_collection.md, R345). -/
def FC_NBSTAT_FULL (n : Nat) : Fld := ⟨0xF00050024 + 0x4 * n, 16, 1⟩
/-- FC_NBSTAT_n.CHUNKS (spec/09_fault_collection.md, R345). -/
def FC_NBSTAT_CHUNKS (n : Nat) : Fld := ⟨0xF00050024 + 0x4 * n, 0, 14⟩
/-- FC_DUMPSTAT.VALID (spec/09_fault_collection.md, R345). -/
def FC_DUMPSTAT_VALID : Fld := ⟨0xF0005002C, 31, 1⟩
/-- FC_DUMPSTAT.RESULT (spec/09_fault_collection.md, R345). -/
def FC_DUMPSTAT_RESULT : Fld := ⟨0xF0005002C, 8, 4⟩
/-- FC_DUMPSTAT.LATE (spec/09_fault_collection.md, R345). -/
def FC_DUMPSTAT_LATE : Fld := ⟨0xF0005002C, 7, 1⟩
/-- FC_DUMPSTAT.WHY (spec/09_fault_collection.md, R345). -/
def FC_DUMPSTAT_WHY : Fld := ⟨0xF0005002C, 4, 3⟩
/-- FC_DUMPSTAT.PATH (spec/09_fault_collection.md, R345). -/
def FC_DUMPSTAT_PATH : Fld := ⟨0xF0005002C, 0, 2⟩
/-- FC_INJCTL.SUPPRESS (spec/09_fault_collection.md, R345). -/
def FC_INJCTL_SUPPRESS : Fld := ⟨0xF00050030, 1, 1⟩
/-- FC_INJCTL.GO (spec/09_fault_collection.md, R345). -/
def FC_INJCTL_GO : Fld := ⟨0xF00050030, 0, 1⟩
/-- FC_CAPSEL.PAGE (spec/09_fault_collection.md, R345). -/
def FC_CAPSEL_PAGE : Fld := ⟨0xF00050034, 8, 8⟩
/-- FC_CAPSEL.SECT (spec/09_fault_collection.md, R345). -/
def FC_CAPSEL_SECT : Fld := ⟨0xF00050034, 0, 3⟩
/-- FC_FIRST.VAL (spec/09_fault_collection.md, R346). -/
def FC_FIRST : Fld := ⟨0xF00050040, 0, 64⟩
/-- FC_FIRSTTIME.VAL (spec/09_fault_collection.md, R346). -/
def FC_FIRSTTIME : Fld := ⟨0xF00050048, 0, 64⟩
/-- FC_CAPMSG.VAL (spec/09_fault_collection.md, R346). -/
def FC_CAPMSG : Fld := ⟨0xF00050050, 0, 64⟩
/-- FC_CAPTIME.VAL (spec/09_fault_collection.md, R346). -/
def FC_CAPTIME : Fld := ⟨0xF00050058, 0, 64⟩
/-- FC_DUMPVEC.VAL (spec/09_fault_collection.md, R346). -/
def FC_DUMPVEC : Fld := ⟨0xF00050060, 0, 64⟩
/-- FC_INJMSG.VAL (spec/09_fault_collection.md, R346). -/
def FC_INJMSG : Fld := ⟨0xF00050068, 0, 64⟩

/-! ### PC (base 0xF00060000) -/

/-- PC_CTL.CNTCLR (spec/07_paired_execution.md, R283). -/
def PC_CTL_CNTCLR : Fld := ⟨0xF00060000, 2, 1⟩
/-- PC_CTL.REJOIN (spec/07_paired_execution.md, R283). -/
def PC_CTL_REJOIN : Fld := ⟨0xF00060000, 1, 1⟩
/-- PC_CTL.SPLIT (spec/07_paired_execution.md, R283). -/
def PC_CTL_SPLIT : Fld := ⟨0xF00060000, 0, 1⟩
/-- PC_CFG.SPLITEN (spec/07_paired_execution.md, R283). -/
def PC_CFG_SPLITEN : Fld := ⟨0xF00060004, 0, 1⟩
/-- PC_STAT.SHBIST (spec/07_paired_execution.md, R283). -/
def PC_STAT_SHBIST : Fld := ⟨0xF00060008, 10, 1⟩
/-- PC_STAT.FWDREJ (spec/07_paired_execution.md, R283). -/
def PC_STAT_FWDREJ : Fld := ⟨0xF00060008, 9, 1⟩
/-- PC_STAT.SBCE (spec/07_paired_execution.md, R283). -/
def PC_STAT_SBCE : Fld := ⟨0xF00060008, 8, 1⟩
/-- PC_STAT.REJREJ (spec/07_paired_execution.md, R283). -/
def PC_STAT_REJREJ : Fld := ⟨0xF00060008, 7, 1⟩
/-- PC_STAT.SPLITREJ (spec/07_paired_execution.md, R283). -/
def PC_STAT_SPLITREJ : Fld := ⟨0xF00060008, 6, 1⟩
/-- PC_STAT.EARLY (spec/07_paired_execution.md, R283). -/
def PC_STAT_EARLY : Fld := ⟨0xF00060008, 5, 1⟩
/-- PC_STAT.ROLLED (spec/07_paired_execution.md, R283). -/
def PC_STAT_ROLLED : Fld := ⟨0xF00060008, 4, 1⟩
/-- PC_STAT.PAIR (spec/07_paired_execution.md, R283). -/
def PC_STAT_PAIR : Fld := ⟨0xF00060008, 0, 1⟩
/-- PC_RBCNT.WIN (spec/07_paired_execution.md, R283). -/
def PC_RBCNT_WIN : Fld := ⟨0xF0006000C, 16, 2⟩
/-- PC_RBCNT.TOTAL (spec/07_paired_execution.md, R283). -/
def PC_RBCNT_TOTAL : Fld := ⟨0xF0006000C, 0, 16⟩
/-- PC_CKCNT.EARLY (spec/07_paired_execution.md, R283). -/
def PC_CKCNT_EARLY : Fld := ⟨0xF00060010, 24, 8⟩
/-- PC_CKCNT.COMMITS (spec/07_paired_execution.md, R283). -/
def PC_CKCNT_COMMITS : Fld := ⟨0xF00060010, 0, 24⟩
/-- PC_SBUSE.LAST (spec/07_paired_execution.md, R283). -/
def PC_SBUSE_LAST : Fld := ⟨0xF00060014, 16, 10⟩
/-- PC_SBUSE.HWM (spec/07_paired_execution.md, R283). -/
def PC_SBUSE_HWM : Fld := ⟨0xF00060014, 0, 10⟩
/-- PC_CKDUR.MAX_NS (spec/07_paired_execution.md, R283). -/
def PC_CKDUR_MAX_NS : Fld := ⟨0xF00060018, 16, 16⟩
/-- PC_CKDUR.LAST_NS (spec/07_paired_execution.md, R283). -/
def PC_CKDUR_LAST_NS : Fld := ⟨0xF00060018, 0, 16⟩
/-- PC_MMINFO.VALID (spec/07_paired_execution.md, R283). -/
def PC_MMINFO_VALID : Fld := ⟨0xF0006001C, 31, 1⟩
/-- PC_MMINFO.POINT (spec/07_paired_execution.md, R283). -/
def PC_MMINFO_POINT : Fld := ⟨0xF0006001C, 28, 3⟩
/-- PC_MMINFO.SLOT (spec/07_paired_execution.md, R283). -/
def PC_MMINFO_SLOT : Fld := ⟨0xF0006001C, 23, 1⟩
/-- PC_MMINFO.REG (spec/07_paired_execution.md, R283). -/
def PC_MMINFO_REG : Fld := ⟨0xF0006001C, 16, 7⟩
/-- PC_LOST.T10NS (spec/07_paired_execution.md, R283). -/
def PC_LOST_T10NS : Fld := ⟨0xF00060020, 0, 24⟩
/-- PC_MMADDR.VAL (spec/07_paired_execution.md, R284). -/
def PC_MMADDR : Fld := ⟨0xF00060040, 0, 64⟩
/-- PC_MMTIME.VAL (spec/07_paired_execution.md, R284). -/
def PC_MMTIME : Fld := ⟨0xF00060048, 0, 64⟩
/-- PC_CKTIME.VAL (spec/07_paired_execution.md, R284). -/
def PC_CKTIME : Fld := ⟨0xF00060050, 0, 64⟩

/-! ### GL (base 0xF00070000) -/

/-- GL_CTL.CNTCLR (spec/08_leadership_guyline.md, R312). -/
def GL_CTL_CNTCLR : Fld := ⟨0xF00070000, 6, 1⟩
/-- GL_CTL.ELIG (spec/08_leadership_guyline.md, R312). -/
def GL_CTL_ELIG : Fld := ⟨0xF00070000, 5, 1⟩
/-- GL_CTL.INELIG (spec/08_leadership_guyline.md, R312). -/
def GL_CTL_INELIG : Fld := ⟨0xF00070000, 4, 1⟩
/-- GL_CTL.HANDTO (spec/08_leadership_guyline.md, R312). -/
def GL_CTL_HANDTO : Fld := ⟨0xF00070000, 2, 2⟩
/-- GL_CTL.HANDGO (spec/08_leadership_guyline.md, R312). -/
def GL_CTL_HANDGO : Fld := ⟨0xF00070000, 1, 1⟩
/-- GL_CTL.ABDICATE (spec/08_leadership_guyline.md, R312). -/
def GL_CTL_ABDICATE : Fld := ⟨0xF00070000, 0, 1⟩
/-- GL_CFG.ELECTWIN (spec/08_leadership_guyline.md, R312). -/
def GL_CFG_ELECTWIN : Fld := ⟨0xF00070004, 8, 6⟩
/-- GL_CFG.LEADEN (spec/08_leadership_guyline.md, R312). -/
def GL_CFG_LEADEN : Fld := ⟨0xF00070004, 4, 1⟩
/-- GL_CFG.RANK (spec/08_leadership_guyline.md, R312). -/
def GL_CFG_RANK : Fld := ⟨0xF00070004, 0, 2⟩
/-- GL_STAT.INELIG (spec/08_leadership_guyline.md, R312). -/
def GL_STAT_INELIG : Fld := ⟨0xF00070008, 14, 1⟩
/-- GL_STAT.ALIGN (spec/08_leadership_guyline.md, R312). -/
def GL_STAT_ALIGN : Fld := ⟨0xF00070008, 13, 1⟩
/-- GL_STAT.FWD (spec/08_leadership_guyline.md, R312). -/
def GL_STAT_FWD : Fld := ⟨0xF00070008, 12, 1⟩
/-- GL_STAT.RANKDUP (spec/08_leadership_guyline.md, R312). -/
def GL_STAT_RANKDUP : Fld := ⟨0xF00070008, 11, 1⟩
/-- GL_STAT.HANDFAIL (spec/08_leadership_guyline.md, R312). -/
def GL_STAT_HANDFAIL : Fld := ⟨0xF00070008, 10, 1⟩
/-- GL_STAT.CPVOID (spec/08_leadership_guyline.md, R312). -/
def GL_STAT_CPVOID : Fld := ⟨0xF00070008, 9, 1⟩
/-- GL_STAT.LATE (spec/08_leadership_guyline.md, R312). -/
def GL_STAT_LATE : Fld := ⟨0xF00070008, 8, 1⟩
/-- GL_STAT.TSTATE (spec/08_leadership_guyline.md, R312). -/
def GL_STAT_TSTATE : Fld := ⟨0xF00070008, 4, 3⟩
/-- GL_STAT.VOTE (spec/08_leadership_guyline.md, R312). -/
def GL_STAT_VOTE : Fld := ⟨0xF00070008, 2, 2⟩
/-- GL_STAT.LEADER (spec/08_leadership_guyline.md, R312). -/
def GL_STAT_LEADER : Fld := ⟨0xF00070008, 0, 2⟩
/-- GL_EPOCH.VAL (spec/08_leadership_guyline.md, R300). -/
def GL_EPOCH : Fld := ⟨0xF0007000C, 0, 32⟩
/-- GL_CYCLE.VAL (spec/08_leadership_guyline.md, R295). -/
def GL_CYCLE : Fld := ⟨0xF00070010, 0, 32⟩
/-- GL_CPCFG.CHUNKS (spec/08_leadership_guyline.md, R312). -/
def GL_CPCFG_CHUNKS : Fld := ⟨0xF00070014, 24, 6⟩
/-- GL_CPCFG.BASE (spec/08_leadership_guyline.md, R312). -/
def GL_CPCFG_BASE : Fld := ⟨0xF00070014, 8, 14⟩
/-- GL_LINK_n.LOSS (spec/08_leadership_guyline.md, R312). -/
def GL_LINK_LOSS (n : Nat) : Fld := ⟨0xF00070020 + 0x4 * n, 16, 8⟩
/-- GL_LINK_n.DELAY (spec/08_leadership_guyline.md, R312). -/
def GL_LINK_DELAY (n : Nat) : Fld := ⟨0xF00070020 + 0x4 * n, 8, 8⟩
/-- GL_LINK_n.FWD (spec/08_leadership_guyline.md, R312). -/
def GL_LINK_FWD (n : Nat) : Fld := ⟨0xF00070020 + 0x4 * n, 3, 1⟩
/-- GL_LINK_n.LOOPBK (spec/08_leadership_guyline.md, R312). -/
def GL_LINK_LOOPBK (n : Nat) : Fld := ⟨0xF00070020 + 0x4 * n, 2, 1⟩
/-- GL_LINK_n.UP (spec/08_leadership_guyline.md, R312). -/
def GL_LINK_UP (n : Nat) : Fld := ⟨0xF00070020 + 0x4 * n, 1, 1⟩
/-- GL_LINK_n.LOCK (spec/08_leadership_guyline.md, R312). -/
def GL_LINK_LOCK (n : Nat) : Fld := ⟨0xF00070020 + 0x4 * n, 0, 1⟩
/-- GL_LANES.VRDY (spec/08_leadership_guyline.md, R299). -/
def GL_LANES_VRDY : Fld := ⟨0xF00070028, 24, 3⟩
/-- GL_LANES.CAUSEA (spec/08_leadership_guyline.md, R299). -/
def GL_LANES_CAUSEA : Fld := ⟨0xF00070028, 5, 3⟩
/-- GL_LANES.MODEA (spec/08_leadership_guyline.md, R299). -/
def GL_LANES_MODEA : Fld := ⟨0xF00070028, 2, 3⟩
/-- GL_LANES.LIVEA (spec/08_leadership_guyline.md, R299). -/
def GL_LANES_LIVEA : Fld := ⟨0xF00070028, 1, 1⟩
/-- GL_LANES.HEARDA (spec/08_leadership_guyline.md, R299). -/
def GL_LANES_HEARDA : Fld := ⟨0xF00070028, 0, 1⟩
/-- GL_LANES.CAUSEB (spec/08_leadership_guyline.md, R299). -/
def GL_LANES_CAUSEB : Fld := ⟨0xF00070028, 13, 3⟩
/-- GL_LANES.MODEB (spec/08_leadership_guyline.md, R299). -/
def GL_LANES_MODEB : Fld := ⟨0xF00070028, 10, 3⟩
/-- GL_LANES.LIVEB (spec/08_leadership_guyline.md, R299). -/
def GL_LANES_LIVEB : Fld := ⟨0xF00070028, 9, 1⟩
/-- GL_LANES.HEARDB (spec/08_leadership_guyline.md, R299). -/
def GL_LANES_HEARDB : Fld := ⟨0xF00070028, 8, 1⟩
/-- GL_LANES.CAUSEC (spec/08_leadership_guyline.md, R299). -/
def GL_LANES_CAUSEC : Fld := ⟨0xF00070028, 21, 3⟩
/-- GL_LANES.MODEC (spec/08_leadership_guyline.md, R299). -/
def GL_LANES_MODEC : Fld := ⟨0xF00070028, 18, 3⟩
/-- GL_LANES.LIVEC (spec/08_leadership_guyline.md, R299). -/
def GL_LANES_LIVEC : Fld := ⟨0xF00070028, 17, 1⟩
/-- GL_LANES.HEARDC (spec/08_leadership_guyline.md, R299). -/
def GL_LANES_HEARDC : Fld := ⟨0xF00070028, 16, 1⟩
/-- GL_CNT.CLAIMS (spec/08_leadership_guyline.md, R312). -/
def GL_CNT_CLAIMS : Fld := ⟨0xF0007002C, 24, 8⟩
/-- GL_CNT.HBLATE (spec/08_leadership_guyline.md, R312). -/
def GL_CNT_HBLATE : Fld := ⟨0xF0007002C, 16, 8⟩
/-- GL_CNT.COPYINC (spec/08_leadership_guyline.md, R312). -/
def GL_CNT_COPYINC : Fld := ⟨0xF0007002C, 8, 8⟩
/-- GL_CNT.CRC (spec/08_leadership_guyline.md, R312). -/
def GL_CNT_CRC : Fld := ⟨0xF0007002C, 0, 8⟩
/-- GL_CPSTAT.CHUNKS (spec/08_leadership_guyline.md, R312). -/
def GL_CPSTAT_CHUNKS : Fld := ⟨0xF00070030, 8, 6⟩
/-- GL_CPSTAT.FROZEN (spec/08_leadership_guyline.md, R312). -/
def GL_CPSTAT_FROZEN : Fld := ⟨0xF00070030, 3, 1⟩
/-- GL_CPSTAT.VALID1 (spec/08_leadership_guyline.md, R312). -/
def GL_CPSTAT_VALID1 : Fld := ⟨0xF00070030, 2, 1⟩
/-- GL_CPSTAT.VALID0 (spec/08_leadership_guyline.md, R312). -/
def GL_CPSTAT_VALID0 : Fld := ⟨0xF00070030, 1, 1⟩
/-- GL_CPSTAT.LATEST (spec/08_leadership_guyline.md, R312). -/
def GL_CPSTAT_LATEST : Fld := ⟨0xF00070030, 0, 1⟩
/-- GL_CPCYC_n.VAL (spec/08_leadership_guyline.md, R308). -/
def GL_CPCYC (n : Nat) : Fld := ⟨0xF00070034 + 0x4 * n, 0, 32⟩
/-- GL_SHARE_x.VAL (spec/08_leadership_guyline.md, R313). -/
def GL_SHARE (a : Nat) : Fld := ⟨0xF00070040 + 0x8 * a, 0, 64⟩
/-- GL_HASH_n.VAL (spec/08_leadership_guyline.md, R313). -/
def GL_HASH (n : Nat) : Fld := ⟨0xF00070060 + 0x8 * n, 0, 64⟩
/-- GL_TICK.VAL (spec/08_leadership_guyline.md, R313). -/
def GL_TICK : Fld := ⟨0xF00070080, 0, 64⟩

/-! ### SC (base 0xF00080000) -/

/-- SC_CTL.CNTCLR (spec/10_flow_scheduler.md, R356). -/
def SC_CTL_CNTCLR : Fld := ⟨0xF00080000, 0, 1⟩
/-- SC_CFG.RESV (spec/10_flow_scheduler.md, R373). -/
def SC_CFG_RESV : Fld := ⟨0xF00080004, 16, 11⟩
/-- SC_CFG.PTHR (spec/10_flow_scheduler.md, R373). -/
def SC_CFG_PTHR : Fld := ⟨0xF00080004, 0, 4⟩
/-- SC_STAT.TAKEERR (spec/10_flow_scheduler.md, R373). -/
def SC_STAT_TAKEERR : Fld := ⟨0xF00080008, 10, 1⟩
/-- SC_STAT.POSTREJ (spec/10_flow_scheduler.md, R373). -/
def SC_STAT_POSTREJ : Fld := ⟨0xF00080008, 9, 1⟩
/-- SC_STAT.POOLSTALL (spec/10_flow_scheduler.md, R373). -/
def SC_STAT_POOLSTALL : Fld := ⟨0xF00080008, 8, 1⟩
/-- SC_STAT.REQ (spec/10_flow_scheduler.md, R373). -/
def SC_STAT_REQ : Fld := ⟨0xF00080008, 6, 2⟩
/-- SC_STAT.LEVEL (spec/10_flow_scheduler.md, R373). -/
def SC_STAT_LEVEL : Fld := ⟨0xF00080008, 0, 4⟩
/-- SC_HEAD.H (spec/10_flow_scheduler.md, R373). -/
def SC_HEAD_H : Fld := ⟨0xF0008000C, 8, 3⟩
/-- SC_HEAD.HH (spec/10_flow_scheduler.md, R373). -/
def SC_HEAD_HH : Fld := ⟨0xF0008000C, 4, 3⟩
/-- SC_HEAD.HE (spec/10_flow_scheduler.md, R373). -/
def SC_HEAD_HE : Fld := ⟨0xF0008000C, 0, 3⟩
/-- SC_HCFG.DAGE (spec/10_flow_scheduler.md, R373). -/
def SC_HCFG_DAGE : Fld := ⟨0xF00080010, 8, 16⟩
/-- SC_HCFG.RISE (spec/10_flow_scheduler.md, R373). -/
def SC_HCFG_RISE : Fld := ⟨0xF00080010, 0, 8⟩
/-- SC_EBUD.UJ (spec/10_flow_scheduler.md, R368). -/
def SC_EBUD_UJ : Fld := ⟨0xF00080014, 0, 24⟩
/-- SC_TLIM.TLIMD (spec/10_flow_scheduler.md, R369). -/
def SC_TLIM_TLIMD : Fld := ⟨0xF00080018, 16, 16⟩
/-- SC_TLIM.TLIMC (spec/10_flow_scheduler.md, R369). -/
def SC_TLIM_TLIMC : Fld := ⟨0xF00080018, 0, 16⟩
/-- SC_TSPAN.SPAN (spec/10_flow_scheduler.md, R369). -/
def SC_TSPAN_SPAN : Fld := ⟨0xF0008001C, 0, 12⟩
/-- SC_PROFTH.HOLD (spec/10_flow_scheduler.md, R373). -/
def SC_PROFTH_HOLD : Fld := ⟨0xF00080020, 16, 16⟩
/-- SC_PROFTH.HIGH (spec/10_flow_scheduler.md, R373). -/
def SC_PROFTH_HIGH : Fld := ⟨0xF00080020, 8, 3⟩
/-- SC_PROFTH.BAL (spec/10_flow_scheduler.md, R373). -/
def SC_PROFTH_BAL : Fld := ⟨0xF00080020, 0, 3⟩
/-- SC_PROFSEL.SEL (spec/10_flow_scheduler.md, R373). -/
def SC_PROFSEL_SEL : Fld := ⟨0xF00080024, 8, 2⟩
/-- SC_PROFSEL.LC (spec/10_flow_scheduler.md, R373). -/
def SC_PROFSEL_LC : Fld := ⟨0xF00080024, 6, 2⟩
/-- SC_PROFSEL.LB (spec/10_flow_scheduler.md, R373). -/
def SC_PROFSEL_LB : Fld := ⟨0xF00080024, 4, 2⟩
/-- SC_PROFSEL.LA (spec/10_flow_scheduler.md, R373). -/
def SC_PROFSEL_LA : Fld := ⟨0xF00080024, 2, 2⟩
/-- SC_PROFSEL.OWN (spec/10_flow_scheduler.md, R373). -/
def SC_PROFSEL_OWN : Fld := ⟨0xF00080024, 0, 2⟩
/-- SC_POOL.POSTS (spec/10_flow_scheduler.md, R352). -/
def SC_POOL_POSTS : Fld := ⟨0xF00080028, 16, 12⟩
/-- SC_POOL.FREE (spec/10_flow_scheduler.md, R352). -/
def SC_POOL_FREE : Fld := ⟨0xF00080028, 0, 12⟩
/-- SC_CNT.PREEMPT (spec/10_flow_scheduler.md, R373). -/
def SC_CNT_PREEMPT : Fld := ⟨0xF0008002C, 24, 8⟩
/-- SC_CNT.SLIP (spec/10_flow_scheduler.md, R373). -/
def SC_CNT_SLIP : Fld := ⟨0xF0008002C, 16, 8⟩
/-- SC_CNT.TFULL (spec/10_flow_scheduler.md, R373). -/
def SC_CNT_TFULL : Fld := ⟨0xF0008002C, 8, 8⟩
/-- SC_CNT.POSTREJ (spec/10_flow_scheduler.md, R373). -/
def SC_CNT_POSTREJ : Fld := ⟨0xF0008002C, 0, 8⟩
/-- SC_PDAUTO.DOM (spec/10_flow_scheduler.md, R372). -/
def SC_PDAUTO_DOM : Fld := ⟨0xF00080030, 0, 7⟩
/-- SC_PDREQ.DOM (spec/10_flow_scheduler.md, R372). -/
def SC_PDREQ_DOM : Fld := ⟨0xF00080034, 0, 14⟩
/-- SC_PDCFG.LEAD (spec/10_flow_scheduler.md, R372). -/
def SC_PDCFG_LEAD : Fld := ⟨0xF00080038, 0, 16⟩
/-- SC_BISTUSE.US (spec/10_flow_scheduler.md, R355). -/
def SC_BISTUSE_US : Fld := ⟨0xF0008003C, 0, 16⟩
/-- SC_ENTER.VAL (spec/10_flow_scheduler.md, R374). -/
def SC_ENTER : Fld := ⟨0xF00080040, 0, 64⟩
/-- SC_NEXT.VAL (spec/10_flow_scheduler.md, R374). -/
def SC_NEXT : Fld := ⟨0xF00080048, 0, 64⟩
/-- SC_TICK.VAL (spec/10_flow_scheduler.md, R374). -/
def SC_TICK : Fld := ⟨0xF00080050, 0, 64⟩
/-- SC_POST.VAL (spec/10_flow_scheduler.md, R374). -/
def SC_POST : Fld := ⟨0xF00080058, 0, 64⟩
/-- SC_FLOWCFG_n.CHAIN (spec/10_flow_scheduler.md, R374). -/
def SC_FLOWCFG_CHAIN (n : Nat) : Fld := ⟨0xF00080100 + 0x4 * n, 24, 8⟩
/-- SC_FLOWCFG_n.CHEN (spec/10_flow_scheduler.md, R374). -/
def SC_FLOWCFG_CHEN (n : Nat) : Fld := ⟨0xF00080100 + 0x4 * n, 23, 1⟩
/-- SC_FLOWCFG_n.PRIO (spec/10_flow_scheduler.md, R374). -/
def SC_FLOWCFG_PRIO (n : Nat) : Fld := ⟨0xF00080100 + 0x4 * n, 16, 4⟩
/-- SC_FLOWCFG_n.FIXED (spec/10_flow_scheduler.md, R374). -/
def SC_FLOWCFG_FIXED (n : Nat) : Fld := ⟨0xF00080100 + 0x4 * n, 15, 1⟩
/-- SC_FLOWCFG_n.ORDER (spec/10_flow_scheduler.md, R374). -/
def SC_FLOWCFG_ORDER (n : Nat) : Fld := ⟨0xF00080100 + 0x4 * n, 14, 1⟩
/-- SC_FLOWCFG_n.ATOMIC (spec/10_flow_scheduler.md, R374). -/
def SC_FLOWCFG_ATOMIC (n : Nat) : Fld := ⟨0xF00080100 + 0x4 * n, 13, 1⟩
/-- SC_FLOWCFG_n.BIST (spec/10_flow_scheduler.md, R374). -/
def SC_FLOWCFG_BIST (n : Nat) : Fld := ⟨0xF00080100 + 0x4 * n, 12, 1⟩
/-- SC_FLOWCFG_n.COST (spec/10_flow_scheduler.md, R374). -/
def SC_FLOWCFG_COST (n : Nat) : Fld := ⟨0xF00080100 + 0x4 * n, 8, 3⟩
/-- SC_FLOWCFG_n.DOM (spec/10_flow_scheduler.md, R374). -/
def SC_FLOWCFG_DOM (n : Nat) : Fld := ⟨0xF00080100 + 0x4 * n, 0, 7⟩
/-- SC_FLOWEN_k.EN (spec/10_flow_scheduler.md, R358). -/
def SC_FLOWEN_EN (k : Nat) : Fld := ⟨0xF00080500 + 0x4 * k, 0, 32⟩
/-- SC_FLOWSTAT_n.AGED (spec/10_flow_scheduler.md, R374). -/
def SC_FLOWSTAT_AGED (n : Nat) : Fld := ⟨0xF00080600 + 0x4 * n, 27, 1⟩
/-- SC_FLOWSTAT_n.HELD (spec/10_flow_scheduler.md, R374). -/
def SC_FLOWSTAT_HELD (n : Nat) : Fld := ⟨0xF00080600 + 0x4 * n, 26, 1⟩
/-- SC_FLOWSTAT_n.DEFER (spec/10_flow_scheduler.md, R374). -/
def SC_FLOWSTAT_DEFER (n : Nat) : Fld := ⟨0xF00080600 + 0x4 * n, 25, 1⟩
/-- SC_FLOWSTAT_n.INSVC (spec/10_flow_scheduler.md, R374). -/
def SC_FLOWSTAT_INSVC (n : Nat) : Fld := ⟨0xF00080600 + 0x4 * n, 24, 1⟩
/-- SC_FLOWSTAT_n.PEND (spec/10_flow_scheduler.md, R374). -/
def SC_FLOWSTAT_PEND (n : Nat) : Fld := ⟨0xF00080600 + 0x4 * n, 0, 12⟩
/-- SC_EVMAP_s.EN (spec/10_flow_scheduler.md, R350). -/
def SC_EVMAP_EN (s : Nat) : Fld := ⟨0xF00080A00 + 0x4 * s, 8, 1⟩
/-- SC_EVMAP_s.FLOW (spec/10_flow_scheduler.md, R350). -/
def SC_EVMAP_FLOW (s : Nat) : Fld := ⟨0xF00080A00 + 0x4 * s, 0, 8⟩
/-- SC_HQMAP_h.EN (spec/10_flow_scheduler.md, R350). -/
def SC_HQMAP_EN (h : Nat) : Fld := ⟨0xF00080D00 + 0x4 * h, 8, 1⟩
/-- SC_HQMAP_h.FLOW (spec/10_flow_scheduler.md, R350). -/
def SC_HQMAP_FLOW (h : Nat) : Fld := ⟨0xF00080D00 + 0x4 * h, 0, 8⟩
/-- SC_TLCFG_l.CAP (spec/10_flow_scheduler.md, R364). -/
def SC_TLCFG_CAP (l : Nat) : Fld := ⟨0xF00080E00 + 0x4 * l, 0, 11⟩
/-- SC_TMRSTAT.PAST (spec/10_flow_scheduler.md, R365). -/
def SC_TMRSTAT_PAST : Fld := ⟨0xF00080E10, 0, 8⟩
/-- SC_TMREXP_t.VAL (spec/10_flow_scheduler.md, R374). -/
def SC_TMREXP (t : Nat) : Fld := ⟨0xF00081000 + 0x10 * t, 0, 64⟩
/-- SC_TMRCFG_t.ARM (spec/10_flow_scheduler.md, R374). -/
def SC_TMRCFG_ARM (t : Nat) : Fld := ⟨0xF00081008 + 0x10 * t, 31, 1⟩
/-- SC_TMRCFG_t.PERIODIC (spec/10_flow_scheduler.md, R374). -/
def SC_TMRCFG_PERIODIC (t : Nat) : Fld := ⟨0xF00081008 + 0x10 * t, 30, 1⟩
/-- SC_TMRCFG_t.LIST (spec/10_flow_scheduler.md, R374). -/
def SC_TMRCFG_LIST (t : Nat) : Fld := ⟨0xF00081008 + 0x10 * t, 28, 2⟩
/-- SC_TMRCFG_t.PRIO (spec/10_flow_scheduler.md, R374). -/
def SC_TMRCFG_PRIO (t : Nat) : Fld := ⟨0xF00081008 + 0x10 * t, 24, 4⟩
/-- SC_TMRCFG_t.FLOW (spec/10_flow_scheduler.md, R374). -/
def SC_TMRCFG_FLOW (t : Nat) : Fld := ⟨0xF00081008 + 0x10 * t, 0, 8⟩
/-- SC_TMRPER_t.US (spec/10_flow_scheduler.md, R366). -/
def SC_TMRPER_US (t : Nat) : Fld := ⟨0xF0008100C + 0x10 * t, 0, 32⟩

/-! ### HQ (base 0xF00090000) -/

/-- HQ_CTL.CNTCLR (spec/11_hamper_host.md, R382). -/
def HQ_CTL_CNTCLR : Fld := ⟨0xF00090000, 0, 1⟩
/-- HQ_GSTAT.FREE (spec/11_hamper_host.md, R406). -/
def HQ_GSTAT_FREE : Fld := ⟨0xF00090004, 16, 13⟩
/-- HQ_GSTAT.STWR (spec/11_hamper_host.md, R406). -/
def HQ_GSTAT_STWR : Fld := ⟨0xF00090004, 1, 1⟩
/-- HQ_GSTAT.PRODREJ (spec/11_hamper_host.md, R406). -/
def HQ_GSTAT_PRODREJ : Fld := ⟨0xF00090004, 0, 1⟩
/-- HQ_OVRCNT.CNT0 (spec/11_hamper_host.md, R382). -/
def HQ_OVRCNT_CNT0 : Fld := ⟨0xF00090008, 0, 4⟩
/-- HQ_OVRCNT.CNT1 (spec/11_hamper_host.md, R382). -/
def HQ_OVRCNT_CNT1 : Fld := ⟨0xF00090008, 4, 4⟩
/-- HQ_OVRCNT.CNT2 (spec/11_hamper_host.md, R382). -/
def HQ_OVRCNT_CNT2 : Fld := ⟨0xF00090008, 8, 4⟩
/-- HQ_OVRCNT.CNT3 (spec/11_hamper_host.md, R382). -/
def HQ_OVRCNT_CNT3 : Fld := ⟨0xF00090008, 12, 4⟩
/-- HQ_OVRCNT.CNT4 (spec/11_hamper_host.md, R382). -/
def HQ_OVRCNT_CNT4 : Fld := ⟨0xF00090008, 16, 4⟩
/-- HQ_OVRCNT.CNT5 (spec/11_hamper_host.md, R382). -/
def HQ_OVRCNT_CNT5 : Fld := ⟨0xF00090008, 20, 4⟩
/-- HQ_OVRCNT.CNT6 (spec/11_hamper_host.md, R382). -/
def HQ_OVRCNT_CNT6 : Fld := ⟨0xF00090008, 24, 4⟩
/-- HQ_OVRCNT.CNT7 (spec/11_hamper_host.md, R382). -/
def HQ_OVRCNT_CNT7 : Fld := ⟨0xF00090008, 28, 4⟩
/-- HQ_CFG_h.HFLOWEN (spec/11_hamper_host.md, R406). -/
def HQ_CFG_HFLOWEN (h : Nat) : Fld := ⟨0xF00090100 + 0x4 * h, 21, 1⟩
/-- HQ_CFG_h.NOTICE (spec/11_hamper_host.md, R406). -/
def HQ_CFG_NOTICE (h : Nat) : Fld := ⟨0xF00090100 + 0x4 * h, 20, 1⟩
/-- HQ_CFG_h.PROD (spec/11_hamper_host.md, R406). -/
def HQ_CFG_PROD (h : Nat) : Fld := ⟨0xF00090100 + 0x4 * h, 16, 2⟩
/-- HQ_CFG_h.CAP (spec/11_hamper_host.md, R406). -/
def HQ_CFG_CAP (h : Nat) : Fld := ⟨0xF00090100 + 0x4 * h, 0, 13⟩
/-- HQ_WM_h.HWM (spec/11_hamper_host.md, R406). -/
def HQ_WM_HWM (h : Nat) : Fld := ⟨0xF00090120 + 0x4 * h, 16, 13⟩
/-- HQ_WM_h.LWM (spec/11_hamper_host.md, R406). -/
def HQ_WM_LWM (h : Nat) : Fld := ⟨0xF00090120 + 0x4 * h, 0, 13⟩
/-- HQ_STAT_h.OVR (spec/11_hamper_host.md, R406). -/
def HQ_STAT_OVR (h : Nat) : Fld := ⟨0xF00090140 + 0x4 * h, 31, 1⟩
/-- HQ_STAT_h.FULL (spec/11_hamper_host.md, R406). -/
def HQ_STAT_FULL (h : Nat) : Fld := ⟨0xF00090140 + 0x4 * h, 30, 1⟩
/-- HQ_STAT_h.FLOW (spec/11_hamper_host.md, R406). -/
def HQ_STAT_FLOW (h : Nat) : Fld := ⟨0xF00090140 + 0x4 * h, 29, 1⟩
/-- HQ_STAT_h.QUEUED (spec/11_hamper_host.md, R406). -/
def HQ_STAT_QUEUED (h : Nat) : Fld := ⟨0xF00090140 + 0x4 * h, 16, 13⟩
/-- HQ_STAT_h.OCC (spec/11_hamper_host.md, R406). -/
def HQ_STAT_OCC (h : Nat) : Fld := ⟨0xF00090140 + 0x4 * h, 0, 13⟩
/-- HQ_MARK_h.LEN (spec/11_hamper_host.md, R390). -/
def HQ_MARK_LEN (h : Nat) : Fld := ⟨0xF00090180 + 0x4 * h, 0, 13⟩
/-- HQ_REWIND_h.MOVED (spec/11_hamper_host.md, R391). -/
def HQ_REWIND_MOVED (h : Nat) : Fld := ⟨0xF000901A0 + 0x4 * h, 0, 13⟩
/-- HQ_TAKE_h.VAL (spec/11_hamper_host.md, R407). -/
def HQ_TAKE (h : Nat) : Fld := ⟨0xF00090200 + 0x8 * h, 0, 64⟩
/-- HQ_PUT_h_n.VAL (spec/11_hamper_host.md, R407). -/
def HQ_PUT (h n : Nat) : Fld := ⟨0xF00091000 + 0x40 * h + 0x8 * n, 0, 64⟩
/-- HQ_PUSH_h.PRIO (spec/11_hamper_host.md, R407). -/
def HQ_PUSH_PRIO (h : Nat) : Fld := ⟨0xF00091038 + 0x40 * h, 8, 3⟩
/-- HQ_PUSH_h.LEN (spec/11_hamper_host.md, R407). -/
def HQ_PUSH_LEN (h : Nat) : Fld := ⟨0xF00091038 + 0x40 * h, 0, 6⟩

/-! ### HP (base 0xF000A0000) -/

/-- HP_CTL.IRQCLR (spec/11_hamper_host.md, R407). -/
def HP_CTL_IRQCLR : Fld := ⟨0xF000A0000, 2, 1⟩
/-- HP_CTL.IRQSET (spec/11_hamper_host.md, R407). -/
def HP_CTL_IRQSET : Fld := ⟨0xF000A0000, 1, 1⟩
/-- HP_CTL.CNTCLR (spec/11_hamper_host.md, R407). -/
def HP_CTL_CNTCLR : Fld := ⟨0xF000A0000, 0, 1⟩
/-- HP_CFG.SVCHQ (spec/11_hamper_host.md, R407). -/
def HP_CFG_SVCHQ : Fld := ⟨0xF000A0004, 8, 3⟩
/-- HP_CFG.SVCEN (spec/11_hamper_host.md, R407). -/
def HP_CFG_SVCEN : Fld := ⟨0xF000A0004, 2, 1⟩
/-- HP_CFG.IRQERR (spec/11_hamper_host.md, R407). -/
def HP_CFG_IRQERR : Fld := ⟨0xF000A0004, 1, 1⟩
/-- HP_CFG.EN (spec/11_hamper_host.md, R407). -/
def HP_CFG_EN : Fld := ⟨0xF000A0004, 0, 1⟩
/-- HP_STAT.MODE3 (spec/11_hamper_host.md, R407). -/
def HP_STAT_MODE3 : Fld := ⟨0xF000A0008, 8, 1⟩
/-- HP_STAT.RSTPEND (spec/11_hamper_host.md, R407). -/
def HP_STAT_RSTPEND : Fld := ⟨0xF000A0008, 7, 1⟩
/-- HP_STAT.BUSY (spec/11_hamper_host.md, R407). -/
def HP_STAT_BUSY : Fld := ⟨0xF000A0008, 6, 1⟩
/-- HP_STAT.IRQ (spec/11_hamper_host.md, R407). -/
def HP_STAT_IRQ : Fld := ⟨0xF000A0008, 5, 1⟩
/-- HP_STAT.ERR (spec/11_hamper_host.md, R407). -/
def HP_STAT_ERR : Fld := ⟨0xF000A0008, 4, 1⟩
/-- HP_STAT.LAST (spec/11_hamper_host.md, R407). -/
def HP_STAT_LAST : Fld := ⟨0xF000A0008, 0, 4⟩
/-- HP_CNT.SVC (spec/11_hamper_host.md, R407). -/
def HP_CNT_SVC : Fld := ⟨0xF000A000C, 24, 8⟩
/-- HP_CNT.ERR (spec/11_hamper_host.md, R407). -/
def HP_CNT_ERR : Fld := ⟨0xF000A000C, 16, 8⟩
/-- HP_CNT.PUT (spec/11_hamper_host.md, R407). -/
def HP_CNT_PUT : Fld := ⟨0xF000A000C, 0, 16⟩
/-- HP_SVCKEY.KEY (spec/11_hamper_host.md, R403). -/
def HP_SVCKEY_KEY : Fld := ⟨0xF000A0010, 0, 16⟩
/-- HP_MBOX.VAL (spec/11_hamper_host.md, R399). -/
def HP_MBOX : Fld := ⟨0xF000A0040, 0, 64⟩

/-! ### TT (base 0xF000B0000) -/

/-- TT_CTL.UNMUTE (spec/12_tt_network.md, R442). -/
def TT_CTL_UNMUTE : Fld := ⟨0xF000B0000, 4, 4⟩
/-- TT_CTL.CNTCLR (spec/12_tt_network.md, R442). -/
def TT_CTL_CNTCLR : Fld := ⟨0xF000B0000, 0, 1⟩
/-- TT_CFG.PORTEN (spec/12_tt_network.md, R442). -/
def TT_CFG_PORTEN : Fld := ⟨0xF000B0004, 24, 4⟩
/-- TT_CFG.GUARD (spec/12_tt_network.md, R442). -/
def TT_CFG_GUARD : Fld := ⟨0xF000B0004, 16, 7⟩
/-- TT_CFG.SENDER (spec/12_tt_network.md, R442). -/
def TT_CFG_SENDER : Fld := ⟨0xF000B0004, 8, 8⟩
/-- TT_CFG.HUB (spec/12_tt_network.md, R442). -/
def TT_CFG_HUB : Fld := ⟨0xF000B0004, 1, 1⟩
/-- TT_CFG.EN (spec/12_tt_network.md, R442). -/
def TT_CFG_EN : Fld := ⟨0xF000B0004, 0, 1⟩
/-- TT_STAT.SLATE (spec/12_tt_network.md, R442). -/
def TT_STAT_SLATE : Fld := ⟨0xF000B0008, 14, 1⟩
/-- TT_STAT.RXERR (spec/12_tt_network.md, R442). -/
def TT_STAT_RXERR : Fld := ⟨0xF000B0008, 13, 1⟩
/-- TT_STAT.TXREJ (spec/12_tt_network.md, R442). -/
def TT_STAT_TXREJ : Fld := ⟨0xF000B0008, 12, 1⟩
/-- TT_STAT.TXLATE (spec/12_tt_network.md, R442). -/
def TT_STAT_TXLATE : Fld := ⟨0xF000B0008, 11, 1⟩
/-- TT_STAT.MSRC (spec/12_tt_network.md, R442). -/
def TT_STAT_MSRC : Fld := ⟨0xF000B0008, 8, 2⟩
/-- TT_STAT.TQ (spec/12_tt_network.md, R442). -/
def TT_STAT_TQ : Fld := ⟨0xF000B0008, 4, 2⟩
/-- TT_STAT.SSTATE (spec/12_tt_network.md, R442). -/
def TT_STAT_SSTATE : Fld := ⟨0xF000B0008, 0, 3⟩
/-- TT_MCFG.STEP (spec/12_tt_network.md, R442). -/
def TT_MCFG_STEP : Fld := ⟨0xF000B000C, 16, 16⟩
/-- TT_MCFG.TAKE (spec/12_tt_network.md, R442). -/
def TT_MCFG_TAKE : Fld := ⟨0xF000B000C, 12, 4⟩
/-- TT_MCFG.LOSS (spec/12_tt_network.md, R442). -/
def TT_MCFG_LOSS : Fld := ⟨0xF000B000C, 8, 4⟩
/-- TT_MCFG.RANK (spec/12_tt_network.md, R442). -/
def TT_MCFG_RANK : Fld := ⟨0xF000B000C, 0, 2⟩
/-- TT_CORR.KI (spec/12_tt_network.md, R412). -/
def TT_CORR_KI : Fld := ⟨0xF000B0010, 8, 8⟩
/-- TT_CORR.KP (spec/12_tt_network.md, R412). -/
def TT_CORR_KP : Fld := ⟨0xF000B0010, 0, 8⟩
/-- TT_CYCLE.SLOT (spec/12_tt_network.md, R410). -/
def TT_CYCLE_SLOT : Fld := ⟨0xF000B0014, 16, 5⟩
/-- TT_CYCLE.CYCLE (spec/12_tt_network.md, R410). -/
def TT_CYCLE_CYCLE : Fld := ⟨0xF000B0014, 0, 16⟩
/-- TT_THETA.TH (spec/12_tt_network.md, R412). -/
def TT_THETA_TH : Fld := ⟨0xF000B0018, 0, 32⟩
/-- TT_RATE.FR (spec/12_tt_network.md, R412). -/
def TT_RATE_FR : Fld := ⟨0xF000B001C, 0, 32⟩
/-- TT_CNT.PTFULL (spec/12_tt_network.md, R442). -/
def TT_CNT_PTFULL : Fld := ⟨0xF000B0020, 24, 8⟩
/-- TT_CNT.TXREP (spec/12_tt_network.md, R442). -/
def TT_CNT_TXREP : Fld := ⟨0xF000B0020, 16, 8⟩
/-- TT_CNT.OTHER (spec/12_tt_network.md, R442). -/
def TT_CNT_OTHER : Fld := ⟨0xF000B0020, 8, 8⟩
/-- TT_CNT.RXERR (spec/12_tt_network.md, R442). -/
def TT_CNT_RXERR : Fld := ⟨0xF000B0020, 0, 8⟩
/-- TT_TXREJCNT.TXREJ (spec/12_tt_network.md, R420). -/
def TT_TXREJCNT_TXREJ : Fld := ⟨0xF000B0024, 0, 8⟩
/-- TT_PDLY_p.NS (spec/12_tt_network.md, R411). -/
def TT_PDLY_NS (p : Nat) : Fld := ⟨0xF000B0030 + 0x4 * p, 0, 16⟩
/-- TT_PORTCFG_p.TEST (spec/12_tt_network.md, R442). -/
def TT_PORTCFG_TEST (p : Nat) : Fld := ⟨0xF000B0040 + 0x4 * p, 1, 3⟩
/-- TT_PORTCFG_p.MS (spec/12_tt_network.md, R442). -/
def TT_PORTCFG_MS (p : Nat) : Fld := ⟨0xF000B0040 + 0x4 * p, 0, 1⟩
/-- TT_PORTSTAT_p.VCNT (spec/12_tt_network.md, R442). -/
def TT_PORTSTAT_VCNT (p : Nat) : Fld := ⟨0xF000B0050 + 0x4 * p, 24, 8⟩
/-- TT_PORTSTAT_p.CLEAN (spec/12_tt_network.md, R442). -/
def TT_PORTSTAT_CLEAN (p : Nat) : Fld := ⟨0xF000B0050 + 0x4 * p, 16, 5⟩
/-- TT_PORTSTAT_p.VIOL (spec/12_tt_network.md, R442). -/
def TT_PORTSTAT_VIOL (p : Nat) : Fld := ⟨0xF000B0050 + 0x4 * p, 8, 3⟩
/-- TT_PORTSTAT_p.DRIFT (spec/12_tt_network.md, R442). -/
def TT_PORTSTAT_DRIFT (p : Nat) : Fld := ⟨0xF000B0050 + 0x4 * p, 2, 1⟩
/-- TT_PORTSTAT_p.MUTED (spec/12_tt_network.md, R442). -/
def TT_PORTSTAT_MUTED (p : Nat) : Fld := ⟨0xF000B0050 + 0x4 * p, 1, 1⟩
/-- TT_PORTSTAT_p.LINK (spec/12_tt_network.md, R442). -/
def TT_PORTSTAT_LINK (p : Nat) : Fld := ⟨0xF000B0050 + 0x4 * p, 0, 1⟩
/-- TT_EDGE_p.SLOT (spec/12_tt_network.md, R432). -/
def TT_EDGE_SLOT (p : Nat) : Fld := ⟨0xF000B0060 + 0x4 * p, 24, 5⟩
/-- TT_EDGE_p.E_NS (spec/12_tt_network.md, R432). -/
def TT_EDGE_E_NS (p : Nat) : Fld := ⟨0xF000B0060 + 0x4 * p, 0, 16⟩
/-- TT_ROLL.ABS (spec/12_tt_network.md, R442). -/
def TT_ROLL_ABS : Fld := ⟨0xF000B0070, 16, 8⟩
/-- TT_ROLL.N (spec/12_tt_network.md, R442). -/
def TT_ROLL_N : Fld := ⟨0xF000B0070, 8, 8⟩
/-- TT_ROLL.IDX (spec/12_tt_network.md, R442). -/
def TT_ROLL_IDX : Fld := ⟨0xF000B0070, 0, 8⟩
/-- TT_TXRDY.LEN (spec/12_tt_network.md, R420). -/
def TT_TXRDY_LEN : Fld := ⟨0xF000B0080, 16, 9⟩
/-- TT_TXRDY.SLOT (spec/12_tt_network.md, R420). -/
def TT_TXRDY_SLOT : Fld := ⟨0xF000B0080, 0, 5⟩
/-- TT_TXPEND.RDY (spec/12_tt_network.md, R420). -/
def TT_TXPEND_RDY : Fld := ⟨0xF000B0084, 0, 32⟩
/-- TT_RXAGE_k.CYCLE (spec/12_tt_network.md, R442). -/
def TT_RXAGE_CYCLE (k : Nat) : Fld := ⟨0xF000B0100 + 0x4 * k, 16, 16⟩
/-- TT_RXAGE_k.VALID (spec/12_tt_network.md, R442). -/
def TT_RXAGE_VALID (k : Nat) : Fld := ⟨0xF000B0100 + 0x4 * k, 13, 1⟩
/-- TT_RXAGE_k.BUF (spec/12_tt_network.md, R442). -/
def TT_RXAGE_BUF (k : Nat) : Fld := ⟨0xF000B0100 + 0x4 * k, 12, 1⟩
/-- TT_RXAGE_k.AGE (spec/12_tt_network.md, R442). -/
def TT_RXAGE_AGE (k : Nat) : Fld := ⟨0xF000B0100 + 0x4 * k, 8, 4⟩
/-- TT_RXAGE_k.EAGE (spec/12_tt_network.md, R442). -/
def TT_RXAGE_EAGE (k : Nat) : Fld := ⟨0xF000B0100 + 0x4 * k, 0, 8⟩
/-- TT_SLOTA_k.KIND (spec/12_tt_network.md, R442). -/
def TT_SLOTA_KIND (k : Nat) : Fld := ⟨0xF000B0200 + 0x8 * k, 28, 2⟩
/-- TT_SLOTA_k.MAXLEN (spec/12_tt_network.md, R442). -/
def TT_SLOTA_MAXLEN (k : Nat) : Fld := ⟨0xF000B0200 + 0x8 * k, 16, 9⟩
/-- TT_SLOTA_k.START (spec/12_tt_network.md, R442). -/
def TT_SLOTA_START (k : Nat) : Fld := ⟨0xF000B0200 + 0x8 * k, 0, 16⟩
/-- TT_SLOTB_k.ALLAGE (spec/12_tt_network.md, R442). -/
def TT_SLOTB_ALLAGE (k : Nat) : Fld := ⟨0xF000B0204 + 0x8 * k, 23, 1⟩
/-- TT_SLOTB_k.PRIO (spec/12_tt_network.md, R442). -/
def TT_SLOTB_PRIO (k : Nat) : Fld := ⟨0xF000B0204 + 0x8 * k, 20, 3⟩
/-- TT_SLOTB_k.HQEN (spec/12_tt_network.md, R442). -/
def TT_SLOTB_HQEN (k : Nat) : Fld := ⟨0xF000B0204 + 0x8 * k, 19, 1⟩
/-- TT_SLOTB_k.HQ (spec/12_tt_network.md, R442). -/
def TT_SLOTB_HQ (k : Nat) : Fld := ⟨0xF000B0204 + 0x8 * k, 16, 3⟩
/-- TT_SLOTB_k.FWD (spec/12_tt_network.md, R442). -/
def TT_SLOTB_FWD (k : Nat) : Fld := ⟨0xF000B0204 + 0x8 * k, 12, 4⟩
/-- TT_SLOTB_k.PORTS (spec/12_tt_network.md, R442). -/
def TT_SLOTB_PORTS (k : Nat) : Fld := ⟨0xF000B0204 + 0x8 * k, 8, 4⟩
/-- TT_SLOTB_k.SENDER (spec/12_tt_network.md, R442). -/
def TT_SLOTB_SENDER (k : Nat) : Fld := ⟨0xF000B0204 + 0x8 * k, 0, 8⟩
/-- TT_PTAB_m.LASTCYC (spec/12_tt_network.md, R442). -/
def TT_PTAB_LASTCYC (m : Nat) : Fld := ⟨0xF000B0300 + 0x4 * m, 16, 16⟩
/-- TT_PTAB_m.DRIFT (spec/12_tt_network.md, R442). -/
def TT_PTAB_DRIFT (m : Nat) : Fld := ⟨0xF000B0300 + 0x4 * m, 14, 1⟩
/-- TT_PTAB_m.PORT (spec/12_tt_network.md, R442). -/
def TT_PTAB_PORT (m : Nat) : Fld := ⟨0xF000B0300 + 0x4 * m, 12, 2⟩
/-- TT_PTAB_m.STATE (spec/12_tt_network.md, R442). -/
def TT_PTAB_STATE (m : Nat) : Fld := ⟨0xF000B0300 + 0x4 * m, 8, 2⟩
/-- TT_PTAB_m.SENDER (spec/12_tt_network.md, R442). -/
def TT_PTAB_SENDER (m : Nat) : Fld := ⟨0xF000B0300 + 0x4 * m, 0, 8⟩
/-- TT_NTIME.VAL (spec/12_tt_network.md, R443). -/
def TT_NTIME : Fld := ⟨0xF000B0400, 0, 64⟩
/-- TT_LASTREF.VAL (spec/12_tt_network.md, R443). -/
def TT_LASTREF : Fld := ⟨0xF000B0408, 0, 64⟩

/-! ### CN (base 0xF000C0000) -/

/-- CN_CTL.RECOVER (spec/12_tt_network.md, R439). -/
def CN_CTL_RECOVER : Fld := ⟨0xF000C0000, 1, 1⟩
/-- CN_CTL.CNTCLR (spec/12_tt_network.md, R439). -/
def CN_CTL_CNTCLR : Fld := ⟨0xF000C0000, 0, 1⟩
/-- CN_CFG.ONESHOT (spec/12_tt_network.md, R443). -/
def CN_CFG_ONESHOT : Fld := ⟨0xF000C0004, 5, 1⟩
/-- CN_CFG.TDCEN (spec/12_tt_network.md, R443). -/
def CN_CFG_TDCEN : Fld := ⟨0xF000C0004, 4, 1⟩
/-- CN_CFG.AUTOREC (spec/12_tt_network.md, R443). -/
def CN_CFG_AUTOREC : Fld := ⟨0xF000C0004, 3, 1⟩
/-- CN_CFG.LISTEN (spec/12_tt_network.md, R443). -/
def CN_CFG_LISTEN : Fld := ⟨0xF000C0004, 2, 1⟩
/-- CN_CFG.FD (spec/12_tt_network.md, R443). -/
def CN_CFG_FD : Fld := ⟨0xF000C0004, 1, 1⟩
/-- CN_CFG.EN (spec/12_tt_network.md, R443). -/
def CN_CFG_EN : Fld := ⟨0xF000C0004, 0, 1⟩
/-- CN_NBT.SJW (spec/12_tt_network.md, R443). -/
def CN_NBT_SJW : Fld := ⟨0xF000C0008, 25, 7⟩
/-- CN_NBT.TSEG1 (spec/12_tt_network.md, R443). -/
def CN_NBT_TSEG1 : Fld := ⟨0xF000C0008, 17, 8⟩
/-- CN_NBT.TSEG2 (spec/12_tt_network.md, R443). -/
def CN_NBT_TSEG2 : Fld := ⟨0xF000C0008, 10, 7⟩
/-- CN_NBT.BRP (spec/12_tt_network.md, R443). -/
def CN_NBT_BRP : Fld := ⟨0xF000C0008, 0, 5⟩
/-- CN_DBT.SJW (spec/12_tt_network.md, R440). -/
def CN_DBT_SJW : Fld := ⟨0xF000C000C, 25, 7⟩
/-- CN_DBT.TSEG1 (spec/12_tt_network.md, R440). -/
def CN_DBT_TSEG1 : Fld := ⟨0xF000C000C, 17, 8⟩
/-- CN_DBT.TSEG2 (spec/12_tt_network.md, R440). -/
def CN_DBT_TSEG2 : Fld := ⟨0xF000C000C, 10, 7⟩
/-- CN_DBT.BRP (spec/12_tt_network.md, R440). -/
def CN_DBT_BRP : Fld := ⟨0xF000C000C, 0, 5⟩
/-- CN_TDC.TDCO (spec/12_tt_network.md, R440). -/
def CN_TDC_TDCO : Fld := ⟨0xF000C0010, 0, 7⟩
/-- CN_STAT.TEC (spec/12_tt_network.md, R443). -/
def CN_STAT_TEC : Fld := ⟨0xF000C0014, 24, 8⟩
/-- CN_STAT.REC (spec/12_tt_network.md, R443). -/
def CN_STAT_REC : Fld := ⟨0xF000C0014, 16, 8⟩
/-- CN_STAT.LEC (spec/12_tt_network.md, R443). -/
def CN_STAT_LEC : Fld := ⟨0xF000C0014, 8, 3⟩
/-- CN_STAT.BUSOFF (spec/12_tt_network.md, R443). -/
def CN_STAT_BUSOFF : Fld := ⟨0xF000C0014, 2, 1⟩
/-- CN_STAT.PASSIVE (spec/12_tt_network.md, R443). -/
def CN_STAT_PASSIVE : Fld := ⟨0xF000C0014, 1, 1⟩
/-- CN_STAT.WARN (spec/12_tt_network.md, R443). -/
def CN_STAT_WARN : Fld := ⟨0xF000C0014, 0, 1⟩
/-- CN_CNT.PROTO (spec/12_tt_network.md, R443). -/
def CN_CNT_PROTO : Fld := ⟨0xF000C0018, 16, 8⟩
/-- CN_CNT.NOMATCH (spec/12_tt_network.md, R443). -/
def CN_CNT_NOMATCH : Fld := ⟨0xF000C0018, 8, 8⟩
/-- CN_CNT.TXDONE (spec/12_tt_network.md, R443). -/
def CN_CNT_TXDONE : Fld := ⟨0xF000C0018, 0, 8⟩
/-- CN_TXREQ.REQ (spec/12_tt_network.md, R442). -/
def CN_TXREQ_REQ : Fld := ⟨0xF000C001C, 0, 8⟩
/-- CN_TXSTAT.DONE (spec/12_tt_network.md, R442). -/
def CN_TXSTAT_DONE : Fld := ⟨0xF000C0020, 8, 8⟩
/-- CN_TXSTAT.PEND (spec/12_tt_network.md, R442). -/
def CN_TXSTAT_PEND : Fld := ⟨0xF000C0020, 0, 8⟩
/-- CN_TXHDR_n.VAL (spec/12_tt_network.md, R442). -/
def CN_TXHDR (n : Nat) : Fld := ⟨0xF000C0100 + 0x4 * n, 0, 32⟩
/-- CN_TXDLC_n.RTR (spec/12_tt_network.md, R442). -/
def CN_TXDLC_RTR (n : Nat) : Fld := ⟨0xF000C0120 + 0x4 * n, 4, 1⟩
/-- CN_TXDLC_n.DLC (spec/12_tt_network.md, R442). -/
def CN_TXDLC_DLC (n : Nat) : Fld := ⟨0xF000C0120 + 0x4 * n, 0, 4⟩
/-- CN_FID_n.IDE (spec/12_tt_network.md, R441). -/
def CN_FID_IDE (n : Nat) : Fld := ⟨0xF000C0200 + 0x4 * n, 29, 1⟩
/-- CN_FID_n.ID (spec/12_tt_network.md, R441). -/
def CN_FID_ID (n : Nat) : Fld := ⟨0xF000C0200 + 0x4 * n, 0, 29⟩
/-- CN_FMASK_n.IDE (spec/12_tt_network.md, R441). -/
def CN_FMASK_IDE (n : Nat) : Fld := ⟨0xF000C0280 + 0x4 * n, 29, 1⟩
/-- CN_FMASK_n.ID (spec/12_tt_network.md, R441). -/
def CN_FMASK_ID (n : Nat) : Fld := ⟨0xF000C0280 + 0x4 * n, 0, 29⟩
/-- CN_FMAP_n.EN (spec/12_tt_network.md, R441). -/
def CN_FMAP_EN (n : Nat) : Fld := ⟨0xF000C0300 + 0x4 * n, 8, 1⟩
/-- CN_FMAP_n.PRIO (spec/12_tt_network.md, R441). -/
def CN_FMAP_PRIO (n : Nat) : Fld := ⟨0xF000C0300 + 0x4 * n, 4, 3⟩
/-- CN_FMAP_n.HQ (spec/12_tt_network.md, R441). -/
def CN_FMAP_HQ (n : Nat) : Fld := ⟨0xF000C0300 + 0x4 * n, 0, 3⟩

/-! ### ST (base 0xF000D0000) -/

/-- ST_CTL.CNTCLR (spec/14_self_test_lifecycle.md, R496). -/
def ST_CTL_CNTCLR : Fld := ⟨0xF000D0000, 3, 1⟩
/-- ST_CTL.ABORT (spec/14_self_test_lifecycle.md, R496). -/
def ST_CTL_ABORT : Fld := ⟨0xF000D0000, 2, 1⟩
/-- ST_CTL.PROGGO (spec/14_self_test_lifecycle.md, R496). -/
def ST_CTL_PROGGO : Fld := ⟨0xF000D0000, 1, 1⟩
/-- ST_CTL.SWEEP (spec/14_self_test_lifecycle.md, R496). -/
def ST_CTL_SWEEP : Fld := ⟨0xF000D0000, 0, 1⟩
/-- ST_CFG.HCMAX (spec/14_self_test_lifecycle.md, R496). -/
def ST_CFG_HCMAX : Fld := ⟨0xF000D0004, 8, 5⟩
/-- ST_CFG.LOGMAX (spec/14_self_test_lifecycle.md, R496). -/
def ST_CFG_LOGMAX : Fld := ⟨0xF000D0004, 0, 5⟩
/-- ST_STAT.ACAUSE (spec/14_self_test_lifecycle.md, R496). -/
def ST_STAT_ACAUSE : Fld := ⟨0xF000D0008, 8, 4⟩
/-- ST_STAT.TOKEN (spec/14_self_test_lifecycle.md, R496). -/
def ST_STAT_TOKEN : Fld := ⟨0xF000D0008, 5, 1⟩
/-- ST_STAT.PROG (spec/14_self_test_lifecycle.md, R496). -/
def ST_STAT_PROG : Fld := ⟨0xF000D0008, 4, 1⟩
/-- ST_STAT.BUSY (spec/14_self_test_lifecycle.md, R496). -/
def ST_STAT_BUSY : Fld := ⟨0xF000D0008, 3, 1⟩
/-- ST_STAT.SWSKIP (spec/14_self_test_lifecycle.md, R496). -/
def ST_STAT_SWSKIP : Fld := ⟨0xF000D0008, 2, 1⟩
/-- ST_STAT.SWDONE (spec/14_self_test_lifecycle.md, R496). -/
def ST_STAT_SWDONE : Fld := ⟨0xF000D0008, 1, 1⟩
/-- ST_SLICE.UNIT (spec/14_self_test_lifecycle.md, R487). -/
def ST_SLICE_UNIT : Fld := ⟨0xF000D000C, 16, 5⟩
/-- ST_SLICE.INDEX (spec/14_self_test_lifecycle.md, R487). -/
def ST_SLICE_INDEX : Fld := ⟨0xF000D000C, 0, 16⟩
/-- ST_RESULT.RES (spec/14_self_test_lifecycle.md, R496). -/
def ST_RESULT_RES : Fld := ⟨0xF000D0010, 29, 3⟩
/-- ST_RESULT.UNIT (spec/14_self_test_lifecycle.md, R496). -/
def ST_RESULT_UNIT : Fld := ⟨0xF000D0010, 24, 5⟩
/-- ST_RESULT.COV (spec/14_self_test_lifecycle.md, R496). -/
def ST_RESULT_COV : Fld := ⟨0xF000D0010, 14, 10⟩
/-- ST_RESULT.DUR (spec/14_self_test_lifecycle.md, R496). -/
def ST_RESULT_DUR : Fld := ⟨0xF000D0010, 0, 14⟩
/-- ST_SWRAN.U (spec/14_self_test_lifecycle.md, R485). -/
def ST_SWRAN_U : Fld := ⟨0xF000D0014, 0, 18⟩
/-- ST_SWFAIL.U (spec/14_self_test_lifecycle.md, R485). -/
def ST_SWFAIL_U : Fld := ⟨0xF000D0018, 0, 18⟩
/-- ST_FAILMAP.U (spec/14_self_test_lifecycle.md, R492). -/
def ST_FAILMAP_U : Fld := ⟨0xF000D001C, 0, 18⟩
/-- ST_TOK.SEQ (spec/14_self_test_lifecycle.md, R495). -/
def ST_TOK_SEQ : Fld := ⟨0xF000D0020, 0, 32⟩
/-- ST_CNT.REGEN (spec/14_self_test_lifecycle.md, R496). -/
def ST_CNT_REGEN : Fld := ⟨0xF000D0024, 24, 8⟩
/-- ST_CNT.ABORT (spec/14_self_test_lifecycle.md, R496). -/
def ST_CNT_ABORT : Fld := ⟨0xF000D0024, 16, 8⟩
/-- ST_CNT.SKIP (spec/14_self_test_lifecycle.md, R496). -/
def ST_CNT_SKIP : Fld := ⟨0xF000D0024, 8, 8⟩
/-- ST_CNT.PASS (spec/14_self_test_lifecycle.md, R496). -/
def ST_CNT_PASS : Fld := ⟨0xF000D0024, 0, 8⟩
/-- ST_PROG_n.VAL (spec/14_self_test_lifecycle.md, R491). -/
def ST_PROG (n : Nat) : Fld := ⟨0xF000D0400 + 0x8 * n, 0, 64⟩

/-! ### LC (base 0xF000E0000) -/

/-- LC_CTL.FTMON (spec/14_self_test_lifecycle.md, R496). -/
def LC_CTL_FTMON : Fld := ⟨0xF000E0000, 4, 1⟩
/-- LC_CTL.TARGET (spec/14_self_test_lifecycle.md, R496). -/
def LC_CTL_TARGET : Fld := ⟨0xF000E0000, 1, 3⟩
/-- LC_CTL.GO (spec/14_self_test_lifecycle.md, R496). -/
def LC_CTL_GO : Fld := ⟨0xF000E0000, 0, 1⟩
/-- LC_STAT.RESULT (spec/14_self_test_lifecycle.md, R496). -/
def LC_STAT_RESULT : Fld := ⟨0xF000E0004, 8, 4⟩
/-- LC_STAT.BUSY (spec/14_self_test_lifecycle.md, R496). -/
def LC_STAT_BUSY : Fld := ⟨0xF000E0004, 4, 1⟩
/-- LC_STAT.FTM (spec/14_self_test_lifecycle.md, R496). -/
def LC_STAT_FTM : Fld := ⟨0xF000E0004, 3, 1⟩
/-- LC_STAT.STATE (spec/14_self_test_lifecycle.md, R496). -/
def LC_STAT_STATE : Fld := ⟨0xF000E0004, 0, 3⟩
/-- LC_KEYCFG.PROG3 (spec/14_self_test_lifecycle.md, R480). -/
def LC_KEYCFG_PROG3 : Fld := ⟨0xF000E0008, 15, 1⟩
/-- LC_KEYCFG.REV3 (spec/14_self_test_lifecycle.md, R480). -/
def LC_KEYCFG_REV3 : Fld := ⟨0xF000E0008, 14, 1⟩
/-- LC_KEYCFG.IMG3 (spec/14_self_test_lifecycle.md, R480). -/
def LC_KEYCFG_IMG3 : Fld := ⟨0xF000E0008, 13, 1⟩
/-- LC_KEYCFG.RTN3 (spec/14_self_test_lifecycle.md, R480). -/
def LC_KEYCFG_RTN3 : Fld := ⟨0xF000E0008, 12, 1⟩
/-- LC_KEYCFG.PROG2 (spec/14_self_test_lifecycle.md, R480). -/
def LC_KEYCFG_PROG2 : Fld := ⟨0xF000E0008, 11, 1⟩
/-- LC_KEYCFG.REV2 (spec/14_self_test_lifecycle.md, R480). -/
def LC_KEYCFG_REV2 : Fld := ⟨0xF000E0008, 10, 1⟩
/-- LC_KEYCFG.IMG2 (spec/14_self_test_lifecycle.md, R480). -/
def LC_KEYCFG_IMG2 : Fld := ⟨0xF000E0008, 9, 1⟩
/-- LC_KEYCFG.RTN2 (spec/14_self_test_lifecycle.md, R480). -/
def LC_KEYCFG_RTN2 : Fld := ⟨0xF000E0008, 8, 1⟩
/-- LC_KEYCFG.PROG1 (spec/14_self_test_lifecycle.md, R480). -/
def LC_KEYCFG_PROG1 : Fld := ⟨0xF000E0008, 7, 1⟩
/-- LC_KEYCFG.REV1 (spec/14_self_test_lifecycle.md, R480). -/
def LC_KEYCFG_REV1 : Fld := ⟨0xF000E0008, 6, 1⟩
/-- LC_KEYCFG.IMG1 (spec/14_self_test_lifecycle.md, R480). -/
def LC_KEYCFG_IMG1 : Fld := ⟨0xF000E0008, 5, 1⟩
/-- LC_KEYCFG.RTN1 (spec/14_self_test_lifecycle.md, R480). -/
def LC_KEYCFG_RTN1 : Fld := ⟨0xF000E0008, 4, 1⟩
/-- LC_KEYCFG.PROG0 (spec/14_self_test_lifecycle.md, R480). -/
def LC_KEYCFG_PROG0 : Fld := ⟨0xF000E0008, 3, 1⟩
/-- LC_KEYCFG.REV0 (spec/14_self_test_lifecycle.md, R480). -/
def LC_KEYCFG_REV0 : Fld := ⟨0xF000E0008, 2, 1⟩
/-- LC_KEYCFG.IMG0 (spec/14_self_test_lifecycle.md, R480). -/
def LC_KEYCFG_IMG0 : Fld := ⟨0xF000E0008, 1, 1⟩
/-- LC_KEYCFG.RTN0 (spec/14_self_test_lifecycle.md, R480). -/
def LC_KEYCFG_RTN0 : Fld := ⟨0xF000E0008, 0, 1⟩
/-- LC_NONCE.VAL (spec/14_self_test_lifecycle.md, R478). -/
def LC_NONCE : Fld := ⟨0xF000E000C, 0, 32⟩
/-- LC_UID.VAL (spec/14_self_test_lifecycle.md, R479). -/
def LC_UID : Fld := ⟨0xF000E0010, 0, 64⟩
/-- LC_KEYHASH_k_n.VAL (spec/14_self_test_lifecycle.md, R480). -/
def LC_KEYHASH (k n : Nat) : Fld := ⟨0xF000E0100 + 0x20 * k + 0x8 * n, 0, 64⟩

/-! ### SF (base 0xF000F0000) -/

/-- SF_CTL.CLR (spec/06_feedback.md, R248). -/
def SF_CTL_CLR : Fld := ⟨0xF000F0000, 0, 2⟩
/-- SF_SSCFG_n.PULSE (spec/06_feedback.md, R256). -/
def SF_SSCFG_PULSE (n : Nat) : Fld := ⟨0xF000F0004 + 0x4 * n, 2, 1⟩
/-- SF_SSCFG_n.V5 (spec/06_feedback.md, R256). -/
def SF_SSCFG_V5 (n : Nat) : Fld := ⟨0xF000F0004 + 0x4 * n, 1, 1⟩
/-- SF_SSCFG_n.EN (spec/06_feedback.md, R256). -/
def SF_SSCFG_EN (n : Nat) : Fld := ⟨0xF000F0004 + 0x4 * n, 0, 1⟩
/-- SF_SSMAP.G3 (spec/06_feedback.md, R248). -/
def SF_SSMAP_G3 : Fld := ⟨0xF000F000C, 6, 2⟩
/-- SF_SSMAP.G2 (spec/06_feedback.md, R248). -/
def SF_SSMAP_G2 : Fld := ⟨0xF000F000C, 4, 2⟩
/-- SF_SSMAP.G1 (spec/06_feedback.md, R248). -/
def SF_SSMAP_G1 : Fld := ⟨0xF000F000C, 2, 2⟩
/-- SF_SSMAP.G0 (spec/06_feedback.md, R248). -/
def SF_SSMAP_G0 : Fld := ⟨0xF000F000C, 0, 2⟩
/-- SF_SSSTAT.PROVEN0 (spec/06_feedback.md, R248). -/
def SF_SSSTAT_PROVEN0 : Fld := ⟨0xF000F0010, 5, 1⟩
/-- SF_SSSTAT.XSH0 (spec/06_feedback.md, R248). -/
def SF_SSSTAT_XSH0 : Fld := ⟨0xF000F0010, 4, 1⟩
/-- SF_SSSTAT.PULSEF0 (spec/06_feedback.md, R248). -/
def SF_SSSTAT_PULSEF0 : Fld := ⟨0xF000F0010, 3, 1⟩
/-- SF_SSSTAT.UV0 (spec/06_feedback.md, R248). -/
def SF_SSSTAT_UV0 : Fld := ⟨0xF000F0010, 2, 1⟩
/-- SF_SSSTAT.OCL0 (spec/06_feedback.md, R248). -/
def SF_SSSTAT_OCL0 : Fld := ⟨0xF000F0010, 1, 1⟩
/-- SF_SSSTAT.ON0 (spec/06_feedback.md, R248). -/
def SF_SSSTAT_ON0 : Fld := ⟨0xF000F0010, 0, 1⟩
/-- SF_SSSTAT.PROVEN1 (spec/06_feedback.md, R248). -/
def SF_SSSTAT_PROVEN1 : Fld := ⟨0xF000F0010, 13, 1⟩
/-- SF_SSSTAT.XSH1 (spec/06_feedback.md, R248). -/
def SF_SSSTAT_XSH1 : Fld := ⟨0xF000F0010, 12, 1⟩
/-- SF_SSSTAT.PULSEF1 (spec/06_feedback.md, R248). -/
def SF_SSSTAT_PULSEF1 : Fld := ⟨0xF000F0010, 11, 1⟩
/-- SF_SSSTAT.UV1 (spec/06_feedback.md, R248). -/
def SF_SSSTAT_UV1 : Fld := ⟨0xF000F0010, 10, 1⟩
/-- SF_SSSTAT.OCL1 (spec/06_feedback.md, R248). -/
def SF_SSSTAT_OCL1 : Fld := ⟨0xF000F0010, 9, 1⟩
/-- SF_SSSTAT.ON1 (spec/06_feedback.md, R248). -/
def SF_SSSTAT_ON1 : Fld := ⟨0xF000F0010, 8, 1⟩
/-- SF_SSMON_n.MA (spec/06_feedback.md, R248). -/
def SF_SSMON_MA (n : Nat) : Fld := ⟨0xF000F0014 + 0x4 * n, 16, 16⟩
/-- SF_SSMON_n.MV (spec/06_feedback.md, R248). -/
def SF_SSMON_MV (n : Nat) : Fld := ⟨0xF000F0014 + 0x4 * n, 0, 16⟩
/-- SF_XSTAT.VALID (spec/06_feedback.md, R256). -/
def SF_XSTAT_VALID : Fld := ⟨0xF000F001C, 8, 1⟩
/-- SF_XSTAT.WHICH (spec/06_feedback.md, R256). -/
def SF_XSTAT_WHICH : Fld := ⟨0xF000F001C, 7, 1⟩
/-- SF_XSTAT.SLOT (spec/06_feedback.md, R256). -/
def SF_XSTAT_SLOT : Fld := ⟨0xF000F001C, 4, 3⟩
/-- SF_XSTAT.GROUP (spec/06_feedback.md, R256). -/
def SF_XSTAT_GROUP : Fld := ⟨0xF000F001C, 0, 2⟩
/-- SF_SAFCFG_n.DISC (spec/16_start_up.md, R554). -/
def SF_SAFCFG_DISC (n : Nat) : Fld := ⟨0xF000F0100 + 0x4 * n, 24, 8⟩
/-- SF_SAFCFG_n.FILT (spec/16_start_up.md, R554). -/
def SF_SAFCFG_FILT (n : Nat) : Fld := ⟨0xF000F0100 + 0x4 * n, 16, 8⟩
/-- SF_SAFCFG_n.PROOF (spec/16_start_up.md, R554). -/
def SF_SAFCFG_PROOF (n : Nat) : Fld := ⟨0xF000F0100 + 0x4 * n, 5, 2⟩
/-- SF_SAFCFG_n.PAIR (spec/16_start_up.md, R554). -/
def SF_SAFCFG_PAIR (n : Nat) : Fld := ⟨0xF000F0100 + 0x4 * n, 2, 1⟩
/-- SF_SAFCFG_n.ACT (spec/16_start_up.md, R554). -/
def SF_SAFCFG_ACT (n : Nat) : Fld := ⟨0xF000F0100 + 0x4 * n, 1, 1⟩
/-- SF_SAFCFG_n.EN (spec/16_start_up.md, R554). -/
def SF_SAFCFG_EN (n : Nat) : Fld := ⟨0xF000F0100 + 0x4 * n, 0, 1⟩
/-- SF_SAFSTAT.PROVEN0 (spec/16_start_up.md, R540). -/
def SF_SAFSTAT_PROVEN0 : Fld := ⟨0xF000F0110, 7, 1⟩
/-- SF_SAFSTAT.INJF0 (spec/16_start_up.md, R540). -/
def SF_SAFSTAT_INJF0 : Fld := ⟨0xF000F0110, 6, 1⟩
/-- SF_SAFSTAT.DISCF0 (spec/16_start_up.md, R540). -/
def SF_SAFSTAT_DISCF0 : Fld := ⟨0xF000F0110, 5, 1⟩
/-- SF_SAFSTAT.SEENI0 (spec/16_start_up.md, R540). -/
def SF_SAFSTAT_SEENI0 : Fld := ⟨0xF000F0110, 4, 1⟩
/-- SF_SAFSTAT.SEENA0 (spec/16_start_up.md, R540). -/
def SF_SAFSTAT_SEENA0 : Fld := ⟨0xF000F0110, 3, 1⟩
/-- SF_SAFSTAT.LVB0 (spec/16_start_up.md, R540). -/
def SF_SAFSTAT_LVB0 : Fld := ⟨0xF000F0110, 2, 1⟩
/-- SF_SAFSTAT.LVA0 (spec/16_start_up.md, R540). -/
def SF_SAFSTAT_LVA0 : Fld := ⟨0xF000F0110, 1, 1⟩
/-- SF_SAFSTAT.STATE0 (spec/16_start_up.md, R540). -/
def SF_SAFSTAT_STATE0 : Fld := ⟨0xF000F0110, 0, 1⟩
/-- SF_SAFSTAT.PROVEN1 (spec/16_start_up.md, R540). -/
def SF_SAFSTAT_PROVEN1 : Fld := ⟨0xF000F0110, 15, 1⟩
/-- SF_SAFSTAT.INJF1 (spec/16_start_up.md, R540). -/
def SF_SAFSTAT_INJF1 : Fld := ⟨0xF000F0110, 14, 1⟩
/-- SF_SAFSTAT.DISCF1 (spec/16_start_up.md, R540). -/
def SF_SAFSTAT_DISCF1 : Fld := ⟨0xF000F0110, 13, 1⟩
/-- SF_SAFSTAT.SEENI1 (spec/16_start_up.md, R540). -/
def SF_SAFSTAT_SEENI1 : Fld := ⟨0xF000F0110, 12, 1⟩
/-- SF_SAFSTAT.SEENA1 (spec/16_start_up.md, R540). -/
def SF_SAFSTAT_SEENA1 : Fld := ⟨0xF000F0110, 11, 1⟩
/-- SF_SAFSTAT.LVB1 (spec/16_start_up.md, R540). -/
def SF_SAFSTAT_LVB1 : Fld := ⟨0xF000F0110, 10, 1⟩
/-- SF_SAFSTAT.LVA1 (spec/16_start_up.md, R540). -/
def SF_SAFSTAT_LVA1 : Fld := ⟨0xF000F0110, 9, 1⟩
/-- SF_SAFSTAT.STATE1 (spec/16_start_up.md, R540). -/
def SF_SAFSTAT_STATE1 : Fld := ⟨0xF000F0110, 8, 1⟩
/-- SF_SAFSTAT.PROVEN2 (spec/16_start_up.md, R540). -/
def SF_SAFSTAT_PROVEN2 : Fld := ⟨0xF000F0110, 23, 1⟩
/-- SF_SAFSTAT.INJF2 (spec/16_start_up.md, R540). -/
def SF_SAFSTAT_INJF2 : Fld := ⟨0xF000F0110, 22, 1⟩
/-- SF_SAFSTAT.DISCF2 (spec/16_start_up.md, R540). -/
def SF_SAFSTAT_DISCF2 : Fld := ⟨0xF000F0110, 21, 1⟩
/-- SF_SAFSTAT.SEENI2 (spec/16_start_up.md, R540). -/
def SF_SAFSTAT_SEENI2 : Fld := ⟨0xF000F0110, 20, 1⟩
/-- SF_SAFSTAT.SEENA2 (spec/16_start_up.md, R540). -/
def SF_SAFSTAT_SEENA2 : Fld := ⟨0xF000F0110, 19, 1⟩
/-- SF_SAFSTAT.LVB2 (spec/16_start_up.md, R540). -/
def SF_SAFSTAT_LVB2 : Fld := ⟨0xF000F0110, 18, 1⟩
/-- SF_SAFSTAT.LVA2 (spec/16_start_up.md, R540). -/
def SF_SAFSTAT_LVA2 : Fld := ⟨0xF000F0110, 17, 1⟩
/-- SF_SAFSTAT.STATE2 (spec/16_start_up.md, R540). -/
def SF_SAFSTAT_STATE2 : Fld := ⟨0xF000F0110, 16, 1⟩
/-- SF_SAFSTAT.PROVEN3 (spec/16_start_up.md, R540). -/
def SF_SAFSTAT_PROVEN3 : Fld := ⟨0xF000F0110, 31, 1⟩
/-- SF_SAFSTAT.INJF3 (spec/16_start_up.md, R540). -/
def SF_SAFSTAT_INJF3 : Fld := ⟨0xF000F0110, 30, 1⟩
/-- SF_SAFSTAT.DISCF3 (spec/16_start_up.md, R540). -/
def SF_SAFSTAT_DISCF3 : Fld := ⟨0xF000F0110, 29, 1⟩
/-- SF_SAFSTAT.SEENI3 (spec/16_start_up.md, R540). -/
def SF_SAFSTAT_SEENI3 : Fld := ⟨0xF000F0110, 28, 1⟩
/-- SF_SAFSTAT.SEENA3 (spec/16_start_up.md, R540). -/
def SF_SAFSTAT_SEENA3 : Fld := ⟨0xF000F0110, 27, 1⟩
/-- SF_SAFSTAT.LVB3 (spec/16_start_up.md, R540). -/
def SF_SAFSTAT_LVB3 : Fld := ⟨0xF000F0110, 26, 1⟩
/-- SF_SAFSTAT.LVA3 (spec/16_start_up.md, R540). -/
def SF_SAFSTAT_LVA3 : Fld := ⟨0xF000F0110, 25, 1⟩
/-- SF_SAFSTAT.STATE3 (spec/16_start_up.md, R540). -/
def SF_SAFSTAT_STATE3 : Fld := ⟨0xF000F0110, 24, 1⟩
/-- SF_SAFCTL.INJGO (spec/16_start_up.md, R554). -/
def SF_SAFCTL_INJGO : Fld := ⟨0xF000F0114, 8, 4⟩
/-- SF_SAFCTL.DISCCLR (spec/16_start_up.md, R554). -/
def SF_SAFCTL_DISCCLR : Fld := ⟨0xF000F0114, 0, 4⟩
/-- SF_ARMCFG.QUORUM (spec/16_start_up.md, R554). -/
def SF_ARMCFG_QUORUM : Fld := ⟨0xF000F0120, 0, 2⟩
/-- SF_ARMSTAT.LATE (spec/16_start_up.md, R554). -/
def SF_ARMSTAT_LATE : Fld := ⟨0xF000F0124, 16, 1⟩
/-- SF_ARMSTAT.ESTAB (spec/16_start_up.md, R554). -/
def SF_ARMSTAT_ESTAB : Fld := ⟨0xF000F0124, 15, 1⟩
/-- SF_ARMSTAT.DONE (spec/16_start_up.md, R554). -/
def SF_ARMSTAT_DONE : Fld := ⟨0xF000F0124, 14, 1⟩
/-- SF_ARMSTAT.REGF (spec/16_start_up.md, R554). -/
def SF_ARMSTAT_REGF : Fld := ⟨0xF000F0124, 11, 1⟩
/-- SF_ARMSTAT.GDF1 (spec/16_start_up.md, R554). -/
def SF_ARMSTAT_GDF1 : Fld := ⟨0xF000F0124, 10, 1⟩
/-- SF_ARMSTAT.GDF0 (spec/16_start_up.md, R554). -/
def SF_ARMSTAT_GDF0 : Fld := ⟨0xF000F0124, 9, 1⟩
/-- SF_ARMSTAT.SAFF (spec/16_start_up.md, R554). -/
def SF_ARMSTAT_SAFF : Fld := ⟨0xF000F0124, 8, 1⟩
/-- SF_ARMSTAT.QUORUM (spec/16_start_up.md, R554). -/
def SF_ARMSTAT_QUORUM : Fld := ⟨0xF000F0124, 4, 1⟩
/-- SF_ARMSTAT.REG (spec/16_start_up.md, R554). -/
def SF_ARMSTAT_REG : Fld := ⟨0xF000F0124, 3, 1⟩
/-- SF_ARMSTAT.GD1 (spec/16_start_up.md, R554). -/
def SF_ARMSTAT_GD1 : Fld := ⟨0xF000F0124, 2, 1⟩
/-- SF_ARMSTAT.GD0 (spec/16_start_up.md, R554). -/
def SF_ARMSTAT_GD0 : Fld := ⟨0xF000F0124, 1, 1⟩
/-- SF_ARMSTAT.SAFSS (spec/16_start_up.md, R554). -/
def SF_ARMSTAT_SAFSS : Fld := ⟨0xF000F0124, 0, 1⟩
/-- SF_GDCHK.GATE0 (spec/16_start_up.md, R546). -/
def SF_GDCHK_GATE0 : Fld := ⟨0xF000F0128, 7, 1⟩
/-- SF_GDCHK.CP0 (spec/16_start_up.md, R546). -/
def SF_GDCHK_CP0 : Fld := ⟨0xF000F0128, 6, 1⟩
/-- SF_GDCHK.COMP0 (spec/16_start_up.md, R546). -/
def SF_GDCHK_COMP0 : Fld := ⟨0xF000F0128, 0, 6⟩
/-- SF_GDCHK.GATE1 (spec/16_start_up.md, R546). -/
def SF_GDCHK_GATE1 : Fld := ⟨0xF000F0128, 15, 1⟩
/-- SF_GDCHK.CP1 (spec/16_start_up.md, R546). -/
def SF_GDCHK_CP1 : Fld := ⟨0xF000F0128, 14, 1⟩
/-- SF_GDCHK.COMP1 (spec/16_start_up.md, R546). -/
def SF_GDCHK_COMP1 : Fld := ⟨0xF000F0128, 8, 6⟩

/-! ### DL (base 0xF00100000) -/

/-- DL_CTL.CNTCLR (spec/05_gate_drive.md, R214). -/
def DL_CTL_CNTCLR : Fld := ⟨0xF00100000, 1, 1⟩
/-- DL_CTL.CHCLR (spec/05_gate_drive.md, R214). -/
def DL_CTL_CHCLR : Fld := ⟨0xF00100000, 0, 1⟩
/-- DL_CFG.VSRC (spec/05_gate_drive.md, R214). -/
def DL_CFG_VSRC : Fld := ⟨0xF00100004, 1, 2⟩
/-- DL_CFG.EN (spec/05_gate_drive.md, R214). -/
def DL_CFG_EN : Fld := ⟨0xF00100004, 0, 1⟩
/-- DL_OV.OV2 (spec/05_gate_drive.md, R214). -/
def DL_OV_OV2 : Fld := ⟨0xF00100008, 16, 10⟩
/-- DL_OV.OV1 (spec/05_gate_drive.md, R214). -/
def DL_OV_OV1 : Fld := ⟨0xF00100008, 0, 10⟩
/-- DL_HYST.V (spec/05_gate_drive.md, R209). -/
def DL_HYST_V : Fld := ⟨0xF0010000C, 0, 6⟩
/-- DL_CHPER.US (spec/05_gate_drive.md, R210). -/
def DL_CHPER_US : Fld := ⟨0xF00100010, 0, 10⟩
/-- DL_DUTY.VAL (spec/05_gate_drive.md, R210). -/
def DL_DUTY : Fld := ⟨0xF00100014, 0, 16⟩
/-- DL_ENVDUTY.VAL (spec/05_gate_drive.md, R210). -/
def DL_ENVDUTY : Fld := ⟨0xF00100018, 0, 16⟩
/-- DL_CHI.CHOC (spec/05_gate_drive.md, R214). -/
def DL_CHI_CHOC : Fld := ⟨0xF0010001C, 16, 16⟩
/-- DL_CHI.CHMIN (spec/05_gate_drive.md, R214). -/
def DL_CHI_CHMIN : Fld := ⟨0xF0010001C, 0, 16⟩
/-- DL_STAT.CLAMP (spec/05_gate_drive.md, R214). -/
def DL_STAT_CLAMP : Fld := ⟨0xF00100020, 7, 1⟩
/-- DL_STAT.LATE (spec/05_gate_drive.md, R214). -/
def DL_STAT_LATE : Fld := ⟨0xF00100020, 6, 1⟩
/-- DL_STAT.CHOCF (spec/05_gate_drive.md, R214). -/
def DL_STAT_CHOCF : Fld := ⟨0xF00100020, 5, 1⟩
/-- DL_STAT.NOCUR (spec/05_gate_drive.md, R214). -/
def DL_STAT_NOCUR : Fld := ⟨0xF00100020, 4, 1⟩
/-- DL_STAT.CHFAULT (spec/05_gate_drive.md, R214). -/
def DL_STAT_CHFAULT : Fld := ⟨0xF00100020, 3, 1⟩
/-- DL_STAT.CHON (spec/05_gate_drive.md, R214). -/
def DL_STAT_CHON : Fld := ⟨0xF00100020, 2, 1⟩
/-- DL_STAT.OV2 (spec/05_gate_drive.md, R214). -/
def DL_STAT_OV2 : Fld := ⟨0xF00100020, 1, 1⟩
/-- DL_STAT.OV1 (spec/05_gate_drive.md, R214). -/
def DL_STAT_OV1 : Fld := ⟨0xF00100020, 0, 1⟩
/-- DL_CNT.CLAMP (spec/05_gate_drive.md, R214). -/
def DL_CNT_CLAMP : Fld := ⟨0xF00100024, 16, 8⟩
/-- DL_CNT.OV2 (spec/05_gate_drive.md, R214). -/
def DL_CNT_OV2 : Fld := ⟨0xF00100024, 8, 8⟩
/-- DL_CNT.OV1 (spec/05_gate_drive.md, R214). -/
def DL_CNT_OV1 : Fld := ⟨0xF00100024, 0, 8⟩

/-! ### LE (base 0xF01000000) -/

/-- LE_CTL_x.CNTCLR (spec/02_loop_engine.md, R94). -/
def LE_CTL_CNTCLR (x : Ax) : Fld := ⟨0xF01000000 + x.off, 3, 1⟩
/-- LE_CTL_x.INTCLR (spec/02_loop_engine.md, R94). -/
def LE_CTL_INTCLR (x : Ax) : Fld := ⟨0xF01000000 + x.off, 2, 1⟩
/-- LE_CTL_x.CLOSE (spec/02_loop_engine.md, R94). -/
def LE_CTL_CLOSE (x : Ax) : Fld := ⟨0xF01000000 + x.off, 1, 1⟩
/-- LE_CTL_x.OPEN (spec/02_loop_engine.md, R94). -/
def LE_CTL_OPEN (x : Ax) : Fld := ⟨0xF01000000 + x.off, 0, 1⟩
/-- LE_CFG_x.VLPRIO (spec/02_loop_engine.md, R94). -/
def LE_CFG_VLPRIO (x : Ax) : Fld := ⟨0xF01000004 + x.off, 16, 1⟩
/-- LE_CFG_x.ZSEQ (spec/02_loop_engine.md, R94). -/
def LE_CFG_ZSEQ (x : Ax) : Fld := ⟨0xF01000004 + x.off, 15, 1⟩
/-- LE_CFG_x.BUMPLESS (spec/02_loop_engine.md, R94). -/
def LE_CFG_BUMPLESS (x : Ax) : Fld := ⟨0xF01000004 + x.off, 14, 1⟩
/-- LE_CFG_x.COG_EN (spec/02_loop_engine.md, R94). -/
def LE_CFG_COG_EN (x : Ax) : Fld := ⟨0xF01000004 + x.off, 13, 1⟩
/-- LE_CFG_x.FRIC_EN (spec/02_loop_engine.md, R94). -/
def LE_CFG_FRIC_EN (x : Ax) : Fld := ⟨0xF01000004 + x.off, 12, 1⟩
/-- LE_CFG_x.NPOS (spec/02_loop_engine.md, R94). -/
def LE_CFG_NPOS (x : Ax) : Fld := ⟨0xF01000004 + x.off, 8, 3⟩
/-- LE_CFG_x.NSPD (spec/02_loop_engine.md, R94). -/
def LE_CFG_NSPD (x : Ax) : Fld := ⟨0xF01000004 + x.off, 4, 3⟩
/-- LE_CFG_x.MODE (spec/02_loop_engine.md, R94). -/
def LE_CFG_MODE (x : Ax) : Fld := ⟨0xF01000004 + x.off, 0, 2⟩
/-- LE_STAT_x.LATE (spec/02_loop_engine.md, R94). -/
def LE_STAT_LATE (x : Ax) : Fld := ⟨0xF01000008 + x.off, 19, 1⟩
/-- LE_STAT_x.OVF (spec/02_loop_engine.md, R94). -/
def LE_STAT_OVF (x : Ax) : Fld := ⟨0xF01000008 + x.off, 18, 1⟩
/-- LE_STAT_x.FRICEND (spec/02_loop_engine.md, R94). -/
def LE_STAT_FRICEND (x : Ax) : Fld := ⟨0xF01000008 + x.off, 17, 1⟩
/-- LE_STAT_x.HOLD (spec/02_loop_engine.md, R94). -/
def LE_STAT_HOLD (x : Ax) : Fld := ⟨0xF01000008 + x.off, 16, 1⟩
/-- LE_STAT_x.IQLIM (spec/02_loop_engine.md, R94). -/
def LE_STAT_IQLIM (x : Ax) : Fld := ⟨0xF01000008 + x.off, 12, 1⟩
/-- LE_STAT_x.SLEW (spec/02_loop_engine.md, R94). -/
def LE_STAT_SLEW (x : Ax) : Fld := ⟨0xF01000008 + x.off, 11, 1⟩
/-- LE_STAT_x.SATP (spec/02_loop_engine.md, R94). -/
def LE_STAT_SATP (x : Ax) : Fld := ⟨0xF01000008 + x.off, 10, 1⟩
/-- LE_STAT_x.SATS (spec/02_loop_engine.md, R94). -/
def LE_STAT_SATS (x : Ax) : Fld := ⟨0xF01000008 + x.off, 9, 1⟩
/-- LE_STAT_x.SATC (spec/02_loop_engine.md, R94). -/
def LE_STAT_SATC (x : Ax) : Fld := ⟨0xF01000008 + x.off, 8, 1⟩
/-- LE_STAT_x.FORCED (spec/02_loop_engine.md, R94). -/
def LE_STAT_FORCED (x : Ax) : Fld := ⟨0xF01000008 + x.off, 3, 1⟩
/-- LE_STAT_x.DRIVE (spec/02_loop_engine.md, R94). -/
def LE_STAT_DRIVE (x : Ax) : Fld := ⟨0xF01000008 + x.off, 2, 1⟩
/-- LE_STAT_x.STATE (spec/02_loop_engine.md, R94). -/
def LE_STAT_STATE (x : Ax) : Fld := ⟨0xF01000008 + x.off, 0, 2⟩
/-- LE_REJ_x.CLOSEREJ (spec/02_loop_engine.md, R94). -/
def LE_REJ_CLOSEREJ (x : Ax) : Fld := ⟨0xF0100000C + x.off, 24, 8⟩
/-- LE_REJ_x.RANGE (spec/02_loop_engine.md, R94). -/
def LE_REJ_RANGE (x : Ax) : Fld := ⟨0xF0100000C + x.off, 16, 8⟩
/-- LE_REJ_x.HALFWR (spec/02_loop_engine.md, R94). -/
def LE_REJ_HALFWR (x : Ax) : Fld := ⟨0xF0100000C + x.off, 8, 8⟩
/-- LE_REJ_x.OWREJ (spec/02_loop_engine.md, R94). -/
def LE_REJ_OWREJ (x : Ax) : Fld := ⟨0xF0100000C + x.off, 0, 8⟩
/-- LE_RBCNT_x.WIN (spec/02_loop_engine.md, R94). -/
def LE_RBCNT_WIN (x : Ax) : Fld := ⟨0xF01000010 + x.off, 16, 2⟩
/-- LE_RBCNT_x.TOTAL (spec/02_loop_engine.md, R94). -/
def LE_RBCNT_TOTAL (x : Ax) : Fld := ⟨0xF01000010 + x.off, 0, 16⟩
/-- LE_CLAMPCNT_x.ARM (spec/02_loop_engine.md, R94). -/
def LE_CLAMPCNT_ARM (x : Ax) : Fld := ⟨0xF01000014 + x.off, 24, 8⟩
/-- LE_CLAMPCNT_x.SHARE (spec/02_loop_engine.md, R94). -/
def LE_CLAMPCNT_SHARE (x : Ax) : Fld := ⟨0xF01000014 + x.off, 16, 8⟩
/-- LE_CLAMPCNT_x.SLEW (spec/02_loop_engine.md, R94). -/
def LE_CLAMPCNT_SLEW (x : Ax) : Fld := ⟨0xF01000014 + x.off, 8, 8⟩
/-- LE_CLAMPCNT_x.IREF (spec/02_loop_engine.md, R94). -/
def LE_CLAMPCNT_IREF (x : Ax) : Fld := ⟨0xF01000014 + x.off, 0, 8⟩
/-- LE_OPENMAX_x.MAX_US (spec/02_loop_engine.md, R94). -/
def LE_OPENMAX_MAX_US (x : Ax) : Fld := ⟨0xF01000018 + x.off, 0, 20⟩
/-- LE_OPENTIME_x.USED_US (spec/02_loop_engine.md, R94). -/
def LE_OPENTIME_USED_US (x : Ax) : Fld := ⟨0xF0100001C + x.off, 0, 20⟩
/-- LE_IDREF_x.VAL (spec/02_loop_engine.md, R95). -/
def LE_IDREF (x : Ax) : Fld := ⟨0xF01000020 + x.off, 0, 64⟩
/-- LE_KPD_x.VAL (spec/02_loop_engine.md, R95). -/
def LE_KPD (x : Ax) : Fld := ⟨0xF01000028 + x.off, 0, 64⟩
/-- LE_KID_x.VAL (spec/02_loop_engine.md, R95). -/
def LE_KID (x : Ax) : Fld := ⟨0xF01000030 + x.off, 0, 64⟩
/-- LE_KPQ_x.VAL (spec/02_loop_engine.md, R95). -/
def LE_KPQ (x : Ax) : Fld := ⟨0xF01000038 + x.off, 0, 64⟩
/-- LE_KIQ_x.VAL (spec/02_loop_engine.md, R95). -/
def LE_KIQ (x : Ax) : Fld := ⟨0xF01000040 + x.off, 0, 64⟩
/-- LE_VLIM_x.VAL (spec/02_loop_engine.md, R95). -/
def LE_VLIM (x : Ax) : Fld := ⟨0xF01000048 + x.off, 0, 64⟩
/-- LE_IDLIM_x.VAL (spec/02_loop_engine.md, R95). -/
def LE_IDLIM (x : Ax) : Fld := ⟨0xF01000050 + x.off, 0, 64⟩
/-- LE_IQLIM_x.VAL (spec/02_loop_engine.md, R95). -/
def LE_IQLIM (x : Ax) : Fld := ⟨0xF01000058 + x.off, 0, 64⟩
/-- LE_KPS_x.VAL (spec/02_loop_engine.md, R95). -/
def LE_KPS (x : Ax) : Fld := ⟨0xF01000060 + x.off, 0, 64⟩
/-- LE_KIS_x.VAL (spec/02_loop_engine.md, R95). -/
def LE_KIS (x : Ax) : Fld := ⟨0xF01000068 + x.off, 0, 64⟩
/-- LE_TLIM_x.VAL (spec/02_loop_engine.md, R95). -/
def LE_TLIM (x : Ax) : Fld := ⟨0xF01000070 + x.off, 0, 64⟩
/-- LE_SPDFLT_x.VAL (spec/02_loop_engine.md, R95). -/
def LE_SPDFLT (x : Ax) : Fld := ⟨0xF01000078 + x.off, 0, 64⟩
/-- LE_KPP_x.VAL (spec/02_loop_engine.md, R95). -/
def LE_KPP (x : Ax) : Fld := ⟨0xF01000080 + x.off, 0, 64⟩
/-- LE_KIP_x.VAL (spec/02_loop_engine.md, R95). -/
def LE_KIP (x : Ax) : Fld := ⟨0xF01000088 + x.off, 0, 64⟩
/-- LE_SPDLIM_x.VAL (spec/02_loop_engine.md, R95). -/
def LE_SPDLIM (x : Ax) : Fld := ⟨0xF01000090 + x.off, 0, 64⟩
/-- LE_KTINV_x.VAL (spec/02_loop_engine.md, R95). -/
def LE_KTINV (x : Ax) : Fld := ⟨0xF01000098 + x.off, 0, 64⟩
/-- LE_ADV_x.VAL (spec/02_loop_engine.md, R95). -/
def LE_ADV (x : Ax) : Fld := ⟨0xF010000A0 + x.off, 0, 64⟩
/-- LE_FRICORG_x.VAL (spec/02_loop_engine.md, R95). -/
def LE_FRICORG (x : Ax) : Fld := ⟨0xF010000A8 + x.off, 0, 64⟩
/-- LE_FRICSTEP_x.VAL (spec/02_loop_engine.md, R95). -/
def LE_FRICSTEP (x : Ax) : Fld := ⟨0xF010000B0 + x.off, 0, 64⟩
/-- LE_FRICSCL_x.VAL (spec/02_loop_engine.md, R95). -/
def LE_FRICSCL (x : Ax) : Fld := ⟨0xF010000B8 + x.off, 0, 64⟩
/-- LE_FRICVEL_x.VAL (spec/02_loop_engine.md, R95). -/
def LE_FRICVEL (x : Ax) : Fld := ⟨0xF010000C0 + x.off, 0, 64⟩
/-- LE_COGSCL_x.VAL (spec/02_loop_engine.md, R95). -/
def LE_COGSCL (x : Ax) : Fld := ⟨0xF010000C8 + x.off, 0, 64⟩
/-- LE_SETP_x.VAL (spec/02_loop_engine.md, R95). -/
def LE_SETP (x : Ax) : Fld := ⟨0xF01000100 + x.off, 0, 64⟩
/-- LE_SHARE_x.VAL (spec/02_loop_engine.md, R95). -/
def LE_SHARE (x : Ax) : Fld := ⟨0xF01000108 + x.off, 0, 64⟩
/-- LE_FFS_x.VAL (spec/02_loop_engine.md, R95). -/
def LE_FFS (x : Ax) : Fld := ⟨0xF01000110 + x.off, 0, 64⟩
/-- LE_IQTRIM_x.VAL (spec/02_loop_engine.md, R95). -/
def LE_IQTRIM (x : Ax) : Fld := ⟨0xF01000118 + x.off, 0, 64⟩
/-- LE_OPENOUT0_x.VAL (spec/02_loop_engine.md, R95). -/
def LE_OPENOUT0 (x : Ax) : Fld := ⟨0xF01000140 + x.off, 0, 64⟩
/-- LE_OPENOUT1_x.VAL (spec/02_loop_engine.md, R95). -/
def LE_OPENOUT1 (x : Ax) : Fld := ⟨0xF01000148 + x.off, 0, 64⟩
/-- LE_ENVIQ_x.VAL (spec/02_loop_engine.md, R95). -/
def LE_ENVIQ (x : Ax) : Fld := ⟨0xF01000180 + x.off, 0, 64⟩
/-- LE_ENVID_x.VAL (spec/02_loop_engine.md, R95). -/
def LE_ENVID (x : Ax) : Fld := ⟨0xF01000188 + x.off, 0, 64⟩
/-- LE_ENVSLEW_x.VAL (spec/02_loop_engine.md, R95). -/
def LE_ENVSLEW (x : Ax) : Fld := ⟨0xF01000190 + x.off, 0, 64⟩
/-- LE_ENVSHARE_x.VAL (spec/02_loop_engine.md, R95). -/
def LE_ENVSHARE (x : Ax) : Fld := ⟨0xF01000198 + x.off, 0, 64⟩
/-- LE_ARMI_x.VAL (spec/02_loop_engine.md, R95). -/
def LE_ARMI (x : Ax) : Fld := ⟨0xF010001A0 + x.off, 0, 64⟩
/-- LE_ID_x.VAL (spec/02_loop_engine.md, R95). -/
def LE_ID (x : Ax) : Fld := ⟨0xF01000200 + x.off, 0, 64⟩
/-- LE_IQ_x.VAL (spec/02_loop_engine.md, R95). -/
def LE_IQ (x : Ax) : Fld := ⟨0xF01000208 + x.off, 0, 64⟩
/-- LE_VD_x.VAL (spec/02_loop_engine.md, R95). -/
def LE_VD (x : Ax) : Fld := ⟨0xF01000210 + x.off, 0, 64⟩
/-- LE_VQ_x.VAL (spec/02_loop_engine.md, R95). -/
def LE_VQ (x : Ax) : Fld := ⟨0xF01000218 + x.off, 0, 64⟩
/-- LE_IDREFE_x.VAL (spec/02_loop_engine.md, R95). -/
def LE_IDREFE (x : Ax) : Fld := ⟨0xF01000220 + x.off, 0, 64⟩
/-- LE_IQREFE_x.VAL (spec/02_loop_engine.md, R95). -/
def LE_IQREFE (x : Ax) : Fld := ⟨0xF01000228 + x.off, 0, 64⟩
/-- LE_TREF_x.VAL (spec/02_loop_engine.md, R95). -/
def LE_TREF (x : Ax) : Fld := ⟨0xF01000230 + x.off, 0, 64⟩
/-- LE_WREF_x.VAL (spec/02_loop_engine.md, R95). -/
def LE_WREF (x : Ax) : Fld := ⟨0xF01000238 + x.off, 0, 64⟩
/-- LE_SETPEFF_x.VAL (spec/02_loop_engine.md, R95). -/
def LE_SETPEFF (x : Ax) : Fld := ⟨0xF01000240 + x.off, 0, 64⟩
/-- LE_INTD_x.VAL (spec/02_loop_engine.md, R95). -/
def LE_INTD (x : Ax) : Fld := ⟨0xF01000248 + x.off, 0, 64⟩
/-- LE_INTQ_x.VAL (spec/02_loop_engine.md, R95). -/
def LE_INTQ (x : Ax) : Fld := ⟨0xF01000250 + x.off, 0, 64⟩
/-- LE_INTS_x.VAL (spec/02_loop_engine.md, R95). -/
def LE_INTS (x : Ax) : Fld := ⟨0xF01000258 + x.off, 0, 64⟩
/-- LE_INTP_x.VAL (spec/02_loop_engine.md, R95). -/
def LE_INTP (x : Ax) : Fld := ⟨0xF01000260 + x.off, 0, 64⟩
/-- LE_SPDF_x.VAL (spec/02_loop_engine.md, R95). -/
def LE_SPDF (x : Ax) : Fld := ⟨0xF01000268 + x.off, 0, 64⟩
/-- LE_FFT_x.VAL (spec/02_loop_engine.md, R95). -/
def LE_FFT (x : Ax) : Fld := ⟨0xF01000270 + x.off, 0, 64⟩

/-! ### MOD (base 0xF01010000) -/

/-- MOD_CTL_x.CNTCLR (spec/03_modulator.md, R143). -/
def MOD_CTL_CNTCLR (x : Ax) : Fld := ⟨0xF01010000 + x.off, 4, 1⟩
/-- MOD_CTL_x.PASSOFF (spec/03_modulator.md, R143). -/
def MOD_CTL_PASSOFF (x : Ax) : Fld := ⟨0xF01010000 + x.off, 3, 1⟩
/-- MOD_CTL_x.PASSON (spec/03_modulator.md, R143). -/
def MOD_CTL_PASSON (x : Ax) : Fld := ⟨0xF01010000 + x.off, 2, 1⟩
/-- MOD_CTL_x.DISCARD (spec/03_modulator.md, R143). -/
def MOD_CTL_DISCARD (x : Ax) : Fld := ⟨0xF01010000 + x.off, 1, 1⟩
/-- MOD_CTL_x.COMMIT (spec/03_modulator.md, R143). -/
def MOD_CTL_COMMIT (x : Ax) : Fld := ⟨0xF01010000 + x.off, 0, 1⟩
/-- MOD_CFG_x.SRC (spec/03_modulator.md, R143). -/
def MOD_CFG_SRC (x : Ax) : Fld := ⟨0xF01010004 + x.off, 0, 2⟩
/-- MOD_STAT_x.UNPAIRED (spec/03_modulator.md, R143). -/
def MOD_STAT_UNPAIRED (x : Ax) : Fld := ⟨0xF01010008 + x.off, 24, 8⟩
/-- MOD_STAT_x.LATEWR (spec/03_modulator.md, R143). -/
def MOD_STAT_LATEWR (x : Ax) : Fld := ⟨0xF01010008 + x.off, 7, 1⟩
/-- MOD_STAT_x.OVERLAP (spec/03_modulator.md, R143). -/
def MOD_STAT_OVERLAP (x : Ax) : Fld := ⟨0xF01010008 + x.off, 6, 1⟩
/-- MOD_STAT_x.HRFAIL (spec/03_modulator.md, R143). -/
def MOD_STAT_HRFAIL (x : Ax) : Fld := ⟨0xF01010008 + x.off, 5, 1⟩
/-- MOD_STAT_x.HRDEG (spec/03_modulator.md, R143). -/
def MOD_STAT_HRDEG (x : Ax) : Fld := ⟨0xF01010008 + x.off, 4, 1⟩
/-- MOD_STAT_x.NOWIN (spec/03_modulator.md, R143). -/
def MOD_STAT_NOWIN (x : Ax) : Fld := ⟨0xF01010008 + x.off, 3, 1⟩
/-- MOD_STAT_x.PASS (spec/03_modulator.md, R143). -/
def MOD_STAT_PASS (x : Ax) : Fld := ⟨0xF01010008 + x.off, 2, 1⟩
/-- MOD_STAT_x.PEND (spec/03_modulator.md, R143). -/
def MOD_STAT_PEND (x : Ax) : Fld := ⟨0xF01010008 + x.off, 1, 1⟩
/-- MOD_STAT_x.PERWAIT (spec/03_modulator.md, R143). -/
def MOD_STAT_PERWAIT (x : Ax) : Fld := ⟨0xF01010008 + x.off, 0, 1⟩
/-- MOD_PER_x.TICKS (spec/03_modulator.md, R143). -/
def MOD_PER_TICKS (x : Ax) : Fld := ⟨0xF0101000C + x.off, 0, 25⟩
/-- MOD_REJ_x.RANGE (spec/03_modulator.md, R143). -/
def MOD_REJ_RANGE (x : Ax) : Fld := ⟨0xF01010010 + x.off, 8, 8⟩
/-- MOD_REJ_x.SRCREJ (spec/03_modulator.md, R143). -/
def MOD_REJ_SRCREJ (x : Ax) : Fld := ⟨0xF01010010 + x.off, 0, 8⟩
/-- MOD_PERA_x.TICKS (spec/03_modulator.md, R116). -/
def MOD_PERA_TICKS (x : Ax) : Fld := ⟨0xF01010014 + x.off, 0, 25⟩
/-- MOD_DT_x.DTL (spec/03_modulator.md, R143). -/
def MOD_DT_DTL (x : Ax) : Fld := ⟨0xF01010018 + x.off, 16, 16⟩
/-- MOD_DT_x.DTH (spec/03_modulator.md, R143). -/
def MOD_DT_DTH (x : Ax) : Fld := ⟨0xF01010018 + x.off, 0, 16⟩
/-- MOD_MINPW_x.TICKS (spec/03_modulator.md, R143). -/
def MOD_MINPW_TICKS (x : Ax) : Fld := ⟨0xF0101001C + x.off, 0, 15⟩
/-- MOD_MINWIN_x.NS (spec/03_modulator.md, R143). -/
def MOD_MINWIN_NS (x : Ax) : Fld := ⟨0xF01010020 + x.off, 0, 13⟩
/-- MOD_ENVD_x.DMAX (spec/03_modulator.md, R143). -/
def MOD_ENVD_DMAX (x : Ax) : Fld := ⟨0xF01010024 + x.off, 16, 16⟩
/-- MOD_ENVD_x.DMIN (spec/03_modulator.md, R143). -/
def MOD_ENVD_DMIN (x : Ax) : Fld := ⟨0xF01010024 + x.off, 0, 16⟩
/-- MOD_CLAMPCNT_x.ENVD (spec/03_modulator.md, R143). -/
def MOD_CLAMPCNT_ENVD (x : Ax) : Fld := ⟨0xF01010028 + x.off, 0, 8⟩
/-- MOD_SHIFT_x.PHASE (spec/03_modulator.md, R143). -/
def MOD_SHIFT_PHASE (x : Ax) : Fld := ⟨0xF0101002C + x.off, 30, 2⟩
/-- MOD_SHIFT_x.S (spec/03_modulator.md, R143). -/
def MOD_SHIFT_S (x : Ax) : Fld := ⟨0xF0101002C + x.off, 0, 25⟩
/-- MOD_SAMPV_x.PEAK (spec/03_modulator.md, R143). -/
def MOD_SAMPV_PEAK (x : Ax) : Fld := ⟨0xF01010030 + x.off, 4, 3⟩
/-- MOD_SAMPV_x.VALLEY (spec/03_modulator.md, R143). -/
def MOD_SAMPV_VALLEY (x : Ax) : Fld := ⟨0xF01010030 + x.off, 0, 3⟩
/-- MOD_HRCAL_x.AGE_US (spec/03_modulator.md, R143). -/
def MOD_HRCAL_AGE_US (x : Ax) : Fld := ⟨0xF01010034 + x.off, 16, 16⟩
/-- MOD_HRCAL_x.TAPS (spec/03_modulator.md, R143). -/
def MOD_HRCAL_TAPS (x : Ax) : Fld := ⟨0xF01010034 + x.off, 0, 7⟩
/-- MOD_PASS_x.HSRC (spec/03_modulator.md, R143). -/
def MOD_PASS_HSRC (x : Ax) : Fld := ⟨0xF01010038 + x.off, 17, 1⟩
/-- MOD_PASS_x.DIR (spec/03_modulator.md, R143). -/
def MOD_PASS_DIR (x : Ax) : Fld := ⟨0xF01010038 + x.off, 16, 1⟩
/-- MOD_PASS_x.DUTY (spec/03_modulator.md, R143). -/
def MOD_PASS_DUTY (x : Ax) : Fld := ⟨0xF01010038 + x.off, 0, 16⟩
/-- MOD_CMPR_x_n.CYC (spec/03_modulator.md, R114). -/
def MOD_CMPR_CYC (x : Ax) (n : Nat) : Fld := ⟨0xF01010040 + x.off + 0x8 * n, 6, 19⟩
/-- MOD_CMPR_x_n.TAP (spec/03_modulator.md, R114). -/
def MOD_CMPR_TAP (x : Ax) (n : Nat) : Fld := ⟨0xF01010040 + x.off + 0x8 * n, 0, 6⟩
/-- MOD_CMPF_x_n.CYC (spec/03_modulator.md, R114). -/
def MOD_CMPF_CYC (x : Ax) (n : Nat) : Fld := ⟨0xF01010044 + x.off + 0x8 * n, 6, 19⟩
/-- MOD_CMPF_x_n.TAP (spec/03_modulator.md, R114). -/
def MOD_CMPF_TAP (x : Ax) (n : Nat) : Fld := ⟨0xF01010044 + x.off + 0x8 * n, 0, 6⟩
/-- MOD_DUTY_x_n.VAL (spec/03_modulator.md, R114). -/
def MOD_DUTY (x : Ax) (n : Nat) : Fld := ⟨0xF01010070 + x.off + 0x4 * n, 0, 32⟩
/-- MOD_ACMPR_x_n.CYC (spec/03_modulator.md, R116). -/
def MOD_ACMPR_CYC (x : Ax) (n : Nat) : Fld := ⟨0xF01010080 + x.off + 0x8 * n, 6, 19⟩
/-- MOD_ACMPR_x_n.TAP (spec/03_modulator.md, R116). -/
def MOD_ACMPR_TAP (x : Ax) (n : Nat) : Fld := ⟨0xF01010080 + x.off + 0x8 * n, 0, 6⟩
/-- MOD_ACMPF_x_n.CYC (spec/03_modulator.md, R116). -/
def MOD_ACMPF_CYC (x : Ax) (n : Nat) : Fld := ⟨0xF01010084 + x.off + 0x8 * n, 6, 19⟩
/-- MOD_ACMPF_x_n.TAP (spec/03_modulator.md, R116). -/
def MOD_ACMPF_TAP (x : Ax) (n : Nat) : Fld := ⟨0xF01010084 + x.off + 0x8 * n, 0, 6⟩
/-- MOD_TRIPCFG_n.FILT (spec/03_modulator.md, R143). -/
def MOD_TRIPCFG_FILT (n : Nat) : Fld := ⟨0xF01010400 + 0x4 * n, 16, 9⟩
/-- MOD_TRIPCFG_n.BLANK (spec/03_modulator.md, R143). -/
def MOD_TRIPCFG_BLANK (n : Nat) : Fld := ⟨0xF01010400 + 0x4 * n, 2, 3⟩
/-- MOD_TRIPCFG_n.POL (spec/03_modulator.md, R143). -/
def MOD_TRIPCFG_POL (n : Nat) : Fld := ⟨0xF01010400 + 0x4 * n, 1, 1⟩
/-- MOD_TRIPCFG_n.EN (spec/03_modulator.md, R143). -/
def MOD_TRIPCFG_EN (n : Nat) : Fld := ⟨0xF01010400 + 0x4 * n, 0, 1⟩
/-- MOD_TRIPMAP_n.GRP (spec/03_modulator.md, R143). -/
def MOD_TRIPMAP_GRP (n : Nat) : Fld := ⟨0xF01010420 + 0x4 * n, 0, 7⟩
/-- MOD_GRPACT.ACT (spec/03_modulator.md, R143). -/
def MOD_GRPACT_ACT : Fld := ⟨0xF01010440, 0, 14⟩
/-- MOD_AUXCFG_n.LEN (spec/03_modulator.md, R143). -/
def MOD_AUXCFG_LEN (n : Nat) : Fld := ⟨0xF01010450 + 0x4 * n, 16, 12⟩
/-- MOD_AUXCFG_n.GATE (spec/03_modulator.md, R143). -/
def MOD_AUXCFG_GATE (n : Nat) : Fld := ⟨0xF01010450 + 0x4 * n, 2, 3⟩
/-- MOD_AUXCFG_n.AXIS (spec/03_modulator.md, R143). -/
def MOD_AUXCFG_AXIS (n : Nat) : Fld := ⟨0xF01010450 + 0x4 * n, 1, 1⟩
/-- MOD_AUXCFG_n.EN (spec/03_modulator.md, R143). -/
def MOD_AUXCFG_EN (n : Nat) : Fld := ⟨0xF01010450 + 0x4 * n, 0, 1⟩
/-- MOD_TRIPSTAT.LATCHED (spec/03_modulator.md, R143). -/
def MOD_TRIPSTAT_LATCHED : Fld := ⟨0xF01010460, 8, 8⟩
/-- MOD_TRIPSTAT.ACTIVE (spec/03_modulator.md, R143). -/
def MOD_TRIPSTAT_ACTIVE : Fld := ⟨0xF01010460, 0, 8⟩
/-- MOD_BLANKCNT.CNT0 (spec/03_modulator.md, R132). -/
def MOD_BLANKCNT_CNT0 : Fld := ⟨0xF01010464, 0, 4⟩
/-- MOD_BLANKCNT.CNT1 (spec/03_modulator.md, R132). -/
def MOD_BLANKCNT_CNT1 : Fld := ⟨0xF01010464, 4, 4⟩
/-- MOD_BLANKCNT.CNT2 (spec/03_modulator.md, R132). -/
def MOD_BLANKCNT_CNT2 : Fld := ⟨0xF01010464, 8, 4⟩
/-- MOD_BLANKCNT.CNT3 (spec/03_modulator.md, R132). -/
def MOD_BLANKCNT_CNT3 : Fld := ⟨0xF01010464, 12, 4⟩
/-- MOD_BLANKCNT.CNT4 (spec/03_modulator.md, R132). -/
def MOD_BLANKCNT_CNT4 : Fld := ⟨0xF01010464, 16, 4⟩
/-- MOD_BLANKCNT.CNT5 (spec/03_modulator.md, R132). -/
def MOD_BLANKCNT_CNT5 : Fld := ⟨0xF01010464, 20, 4⟩
/-- MOD_BLANKCNT.CNT6 (spec/03_modulator.md, R132). -/
def MOD_BLANKCNT_CNT6 : Fld := ⟨0xF01010464, 24, 4⟩
/-- MOD_BLANKCNT.CNT7 (spec/03_modulator.md, R132). -/
def MOD_BLANKCNT_CNT7 : Fld := ⟨0xF01010464, 28, 4⟩
/-- MOD_TRIPCLR.REL (spec/03_modulator.md, R137). -/
def MOD_TRIPCLR_REL : Fld := ⟨0xF01010468, 0, 8⟩
/-- MOD_GRPSTAT.ASCCONF (spec/03_modulator.md, R143). -/
def MOD_GRPSTAT_ASCCONF : Fld := ⟨0xF0101046C, 21, 1⟩
/-- MOD_GRPSTAT.GRP (spec/03_modulator.md, R143). -/
def MOD_GRPSTAT_GRP : Fld := ⟨0xF0101046C, 0, 21⟩
/-- MOD_TRIPFIRST.VALID (spec/03_modulator.md, R143). -/
def MOD_TRIPFIRST_VALID : Fld := ⟨0xF01010470, 3, 1⟩
/-- MOD_TRIPFIRST.TRIP (spec/03_modulator.md, R143). -/
def MOD_TRIPFIRST_TRIP : Fld := ⟨0xF01010470, 0, 3⟩

/-! ### TQ (base 0xF01020000) -/

/-- TQ_CTL_x.CNTCLR (spec/04_torque_table_sensorless.md, R177). -/
def TQ_CTL_CNTCLR (x : Ax) : Fld := ⟨0xF01020000 + x.off, 0, 1⟩
/-- TQ_CFG_x.PP (spec/04_torque_table_sensorless.md, R177). -/
def TQ_CFG_PP (x : Ax) : Fld := ⟨0xF01020004 + x.off, 8, 5⟩
/-- TQ_CFG_x.CATCHEN (spec/04_torque_table_sensorless.md, R177). -/
def TQ_CFG_CATCHEN (x : Ax) : Fld := ⟨0xF01020004 + x.off, 4, 1⟩
/-- TQ_CFG_x.SECT12 (spec/04_torque_table_sensorless.md, R177). -/
def TQ_CFG_SECT12 (x : Ax) : Fld := ⟨0xF01020004 + x.off, 2, 1⟩
/-- TQ_CFG_x.SLMODE (spec/04_torque_table_sensorless.md, R177). -/
def TQ_CFG_SLMODE (x : Ax) : Fld := ⟨0xF01020004 + x.off, 0, 2⟩
/-- TQ_STAT_x.CLATE (spec/04_torque_table_sensorless.md, R177). -/
def TQ_STAT_CLATE (x : Ax) : Fld := ⟨0xF01020008 + x.off, 19, 1⟩
/-- TQ_STAT_x.CATCHOK (spec/04_torque_table_sensorless.md, R177). -/
def TQ_STAT_CATCHOK (x : Ax) : Fld := ⟨0xF01020008 + x.off, 18, 1⟩
/-- TQ_STAT_x.HOLD (spec/04_torque_table_sensorless.md, R177). -/
def TQ_STAT_HOLD (x : Ax) : Fld := ⟨0xF01020008 + x.off, 17, 1⟩
/-- TQ_STAT_x.LATE (spec/04_torque_table_sensorless.md, R177). -/
def TQ_STAT_LATE (x : Ax) : Fld := ⟨0xF01020008 + x.off, 16, 1⟩
/-- TQ_STAT_x.IMAXACT (spec/04_torque_table_sensorless.md, R177). -/
def TQ_STAT_IMAXACT (x : Ax) : Fld := ⟨0xF01020008 + x.off, 14, 1⟩
/-- TQ_STAT_x.CP (spec/04_torque_table_sensorless.md, R177). -/
def TQ_STAT_CP (x : Ax) : Fld := ⟨0xF01020008 + x.off, 13, 1⟩
/-- TQ_STAT_x.CT (spec/04_torque_table_sensorless.md, R177). -/
def TQ_STAT_CT (x : Ax) : Fld := ⟨0xF01020008 + x.off, 11, 2⟩
/-- TQ_STAT_x.VEC (spec/04_torque_table_sensorless.md, R177). -/
def TQ_STAT_VEC (x : Ax) : Fld := ⟨0xF01020008 + x.off, 8, 3⟩
/-- TQ_STAT_x.SECTOR (spec/04_torque_table_sensorless.md, R177). -/
def TQ_STAT_SECTOR (x : Ax) : Fld := ⟨0xF01020008 + x.off, 4, 4⟩
/-- TQ_STAT_x.LOCK (spec/04_torque_table_sensorless.md, R177). -/
def TQ_STAT_LOCK (x : Ax) : Fld := ⟨0xF01020008 + x.off, 3, 1⟩
/-- TQ_STAT_x.SLSTATE (spec/04_torque_table_sensorless.md, R177). -/
def TQ_STAT_SLSTATE (x : Ax) : Fld := ⟨0xF01020008 + x.off, 0, 3⟩
/-- TQ_TIME_x.LOCKN (spec/04_torque_table_sensorless.md, R177). -/
def TQ_TIME_LOCKN (x : Ax) : Fld := ⟨0xF0102000C + x.off, 16, 7⟩
/-- TQ_TIME_x.DWELL (spec/04_torque_table_sensorless.md, R177). -/
def TQ_TIME_DWELL (x : Ax) : Fld := ⟨0xF0102000C + x.off, 0, 8⟩
/-- TQ_CATCH_x.NCONS (spec/04_torque_table_sensorless.md, R177). -/
def TQ_CATCH_NCONS (x : Ax) : Fld := ⟨0xF01020010 + x.off, 20, 4⟩
/-- TQ_CATCH_x.PER (spec/04_torque_table_sensorless.md, R177). -/
def TQ_CATCH_PER (x : Ax) : Fld := ⟨0xF01020010 + x.off, 8, 12⟩
/-- TQ_CATCH_x.PW (spec/04_torque_table_sensorless.md, R177). -/
def TQ_CATCH_PW (x : Ax) : Fld := ⟨0xF01020010 + x.off, 0, 8⟩
/-- TQ_CNT_x.OWREJ (spec/04_torque_table_sensorless.md, R177). -/
def TQ_CNT_OWREJ (x : Ax) : Fld := ⟨0xF01020014 + x.off, 24, 8⟩
/-- TQ_CNT_x.RANGE (spec/04_torque_table_sensorless.md, R177). -/
def TQ_CNT_RANGE (x : Ax) : Fld := ⟨0xF01020014 + x.off, 16, 8⟩
/-- TQ_CNT_x.LOCKLOSS (spec/04_torque_table_sensorless.md, R177). -/
def TQ_CNT_LOCKLOSS (x : Ax) : Fld := ⟨0xF01020014 + x.off, 8, 8⟩
/-- TQ_CNT_x.HALFWR (spec/04_torque_table_sensorless.md, R177). -/
def TQ_CNT_HALFWR (x : Ax) : Fld := ⟨0xF01020014 + x.off, 0, 8⟩
/-- TQ_RBCNT_x.WIN (spec/04_torque_table_sensorless.md, R177). -/
def TQ_RBCNT_WIN (x : Ax) : Fld := ⟨0xF01020018 + x.off, 16, 2⟩
/-- TQ_RBCNT_x.TOTAL (spec/04_torque_table_sensorless.md, R177). -/
def TQ_RBCNT_TOTAL (x : Ax) : Fld := ⟨0xF01020018 + x.off, 0, 16⟩
/-- TQ_SWCNT_x.CATCHES (spec/04_torque_table_sensorless.md, R177). -/
def TQ_SWCNT_CATCHES (x : Ax) : Fld := ⟨0xF0102001C + x.off, 24, 8⟩
/-- TQ_SWCNT_x.TRANS (spec/04_torque_table_sensorless.md, R177). -/
def TQ_SWCNT_TRANS (x : Ax) : Fld := ⟨0xF0102001C + x.off, 0, 16⟩
/-- TQ_TBAND_x.VAL (spec/04_torque_table_sensorless.md, R178). -/
def TQ_TBAND (x : Ax) : Fld := ⟨0xF01020040 + x.off, 0, 64⟩
/-- TQ_PBAND_x.VAL (spec/04_torque_table_sensorless.md, R178). -/
def TQ_PBAND (x : Ax) : Fld := ⟨0xF01020048 + x.off, 0, 64⟩
/-- TQ_PSIREF_x.VAL (spec/04_torque_table_sensorless.md, R178). -/
def TQ_PSIREF (x : Ax) : Fld := ⟨0xF01020050 + x.off, 0, 64⟩
/-- TQ_RS_x.VAL (spec/04_torque_table_sensorless.md, R178). -/
def TQ_RS (x : Ax) : Fld := ⟨0xF01020058 + x.off, 0, 64⟩
/-- TQ_LS_x.VAL (spec/04_torque_table_sensorless.md, R178). -/
def TQ_LS (x : Ax) : Fld := ⟨0xF01020060 + x.off, 0, 64⟩
/-- TQ_PSIM_x.VAL (spec/04_torque_table_sensorless.md, R178). -/
def TQ_PSIM (x : Ax) : Fld := ⟨0xF01020068 + x.off, 0, 64⟩
/-- TQ_DRIFT_x.VAL (spec/04_torque_table_sensorless.md, R178). -/
def TQ_DRIFT (x : Ax) : Fld := ⟨0xF01020070 + x.off, 0, 64⟩
/-- TQ_PLLKP_x.VAL (spec/04_torque_table_sensorless.md, R178). -/
def TQ_PLLKP (x : Ax) : Fld := ⟨0xF01020078 + x.off, 0, 64⟩
/-- TQ_PLLKI_x.VAL (spec/04_torque_table_sensorless.md, R178). -/
def TQ_PLLKI (x : Ax) : Fld := ⟨0xF01020080 + x.off, 0, 64⟩
/-- TQ_RESMAG_x.VAL (spec/04_torque_table_sensorless.md, R178). -/
def TQ_RESMAG (x : Ax) : Fld := ⟨0xF01020088 + x.off, 0, 64⟩
/-- TQ_RESPH_x.VAL (spec/04_torque_table_sensorless.md, R178). -/
def TQ_RESPH (x : Ax) : Fld := ⟨0xF01020090 + x.off, 0, 64⟩
/-- TQ_ALIGNI_x.VAL (spec/04_torque_table_sensorless.md, R178). -/
def TQ_ALIGNI (x : Ax) : Fld := ⟨0xF01020098 + x.off, 0, 64⟩
/-- TQ_ALIGNANG_x.VAL (spec/04_torque_table_sensorless.md, R178). -/
def TQ_ALIGNANG (x : Ax) : Fld := ⟨0xF010200A0 + x.off, 0, 64⟩
/-- TQ_ALIGNT_x.VAL (spec/04_torque_table_sensorless.md, R178). -/
def TQ_ALIGNT (x : Ax) : Fld := ⟨0xF010200A8 + x.off, 0, 64⟩
/-- TQ_RAMPI_x.VAL (spec/04_torque_table_sensorless.md, R178). -/
def TQ_RAMPI (x : Ax) : Fld := ⟨0xF010200B0 + x.off, 0, 64⟩
/-- TQ_RAMPACC_x.VAL (spec/04_torque_table_sensorless.md, R178). -/
def TQ_RAMPACC (x : Ax) : Fld := ⟨0xF010200B8 + x.off, 0, 64⟩
/-- TQ_HOSPD_x.VAL (spec/04_torque_table_sensorless.md, R178). -/
def TQ_HOSPD (x : Ax) : Fld := ⟨0xF010200C0 + x.off, 0, 64⟩
/-- TQ_HOLDT_x.VAL (spec/04_torque_table_sensorless.md, R178). -/
def TQ_HOLDT (x : Ax) : Fld := ⟨0xF010200C8 + x.off, 0, 64⟩
/-- TQ_IHB_x.VAL (spec/04_torque_table_sensorless.md, R178). -/
def TQ_IHB (x : Ax) : Fld := ⟨0xF010200D0 + x.off, 0, 64⟩
/-- TQ_CATCHIMAX_x.VAL (spec/04_torque_table_sensorless.md, R178). -/
def TQ_CATCHIMAX (x : Ax) : Fld := ⟨0xF010200D8 + x.off, 0, 64⟩
/-- TQ_IMAX_x.VAL (spec/04_torque_table_sensorless.md, R178). -/
def TQ_IMAX (x : Ax) : Fld := ⟨0xF01020100 + x.off, 0, 64⟩
/-- TQ_TE_x.VAL (spec/04_torque_table_sensorless.md, R178). -/
def TQ_TE (x : Ax) : Fld := ⟨0xF01020200 + x.off, 0, 64⟩
/-- TQ_PSI_x.VAL (spec/04_torque_table_sensorless.md, R178). -/
def TQ_PSI (x : Ax) : Fld := ⟨0xF01020208 + x.off, 0, 64⟩
/-- TQ_TREFU_x.VAL (spec/04_torque_table_sensorless.md, R178). -/
def TQ_TREFU (x : Ax) : Fld := ⟨0xF01020210 + x.off, 0, 64⟩
/-- TQ_THE_x.VAL (spec/04_torque_table_sensorless.md, R178). -/
def TQ_THE (x : Ax) : Fld := ⟨0xF01020218 + x.off, 0, 64⟩
/-- TQ_WE_x.VAL (spec/04_torque_table_sensorless.md, R178). -/
def TQ_WE (x : Ax) : Fld := ⟨0xF01020220 + x.off, 0, 64⟩
/-- TQ_RESM_x.VAL (spec/04_torque_table_sensorless.md, R178). -/
def TQ_RESM (x : Ax) : Fld := ⟨0xF01020228 + x.off, 0, 64⟩
/-- TQ_RESP_x.VAL (spec/04_torque_table_sensorless.md, R178). -/
def TQ_RESP (x : Ax) : Fld := ⟨0xF01020230 + x.off, 0, 64⟩

/-! ### GD (base 0xF01030000) -/

/-- GD_CTL_x.CNTCLR (spec/05_gate_drive.md, R214). -/
def GD_CTL_CNTCLR (x : Ax) : Fld := ⟨0xF01030000 + x.off, 3, 1⟩
/-- GD_CTL_x.SAFE (spec/05_gate_drive.md, R214). -/
def GD_CTL_SAFE (x : Ax) : Fld := ⟨0xF01030000 + x.off, 2, 1⟩
/-- GD_CTL_x.DIS (spec/05_gate_drive.md, R214). -/
def GD_CTL_DIS (x : Ax) : Fld := ⟨0xF01030000 + x.off, 1, 1⟩
/-- GD_CTL_x.EN (spec/05_gate_drive.md, R214). -/
def GD_CTL_EN (x : Ax) : Fld := ⟨0xF01030000 + x.off, 0, 1⟩
/-- GD_CFG_x.ARMEN (spec/05_gate_drive.md, R214). -/
def GD_CFG_ARMEN (x : Ax) : Fld := ⟨0xF01030004 + x.off, 8, 1⟩
/-- GD_CFG_x.SAFEMODE (spec/05_gate_drive.md, R214). -/
def GD_CFG_SAFEMODE (x : Ax) : Fld := ⟨0xF01030004 + x.off, 5, 1⟩
/-- GD_CFG_x.VG (spec/05_gate_drive.md, R214). -/
def GD_CFG_VG (x : Ax) : Fld := ⟨0xF01030004 + x.off, 4, 1⟩
/-- GD_STAT_x.CAUSE (spec/05_gate_drive.md, R214). -/
def GD_STAT_CAUSE (x : Ax) : Fld := ⟨0xF01030008 + x.off, 16, 4⟩
/-- GD_STAT_x.PASS (spec/05_gate_drive.md, R214). -/
def GD_STAT_PASS (x : Ax) : Fld := ⟨0xF01030008 + x.off, 11, 1⟩
/-- GD_STAT_x.ENREJ (spec/05_gate_drive.md, R214). -/
def GD_STAT_ENREJ (x : Ax) : Fld := ⟨0xF01030008 + x.off, 10, 1⟩
/-- GD_STAT_x.OV2OVR (spec/05_gate_drive.md, R214). -/
def GD_STAT_OV2OVR (x : Ax) : Fld := ⟨0xF01030008 + x.off, 9, 1⟩
/-- GD_STAT_x.XHOLD (spec/05_gate_drive.md, R214). -/
def GD_STAT_XHOLD (x : Ax) : Fld := ⟨0xF01030008 + x.off, 8, 1⟩
/-- GD_STAT_x.LATE (spec/05_gate_drive.md, R214). -/
def GD_STAT_LATE (x : Ax) : Fld := ⟨0xF01030008 + x.off, 7, 1⟩
/-- GD_STAT_x.KALOSS (spec/05_gate_drive.md, R214). -/
def GD_STAT_KALOSS (x : Ax) : Fld := ⟨0xF01030008 + x.off, 6, 1⟩
/-- GD_STAT_x.CPUV (spec/05_gate_drive.md, R214). -/
def GD_STAT_CPUV (x : Ax) : Fld := ⟨0xF01030008 + x.off, 5, 1⟩
/-- GD_STAT_x.NOSAFE (spec/05_gate_drive.md, R214). -/
def GD_STAT_NOSAFE (x : Ax) : Fld := ⟨0xF01030008 + x.off, 4, 1⟩
/-- GD_STAT_x.SIDE (spec/05_gate_drive.md, R214). -/
def GD_STAT_SIDE (x : Ax) : Fld := ⟨0xF01030008 + x.off, 2, 2⟩
/-- GD_STAT_x.SAFE (spec/05_gate_drive.md, R214). -/
def GD_STAT_SAFE (x : Ax) : Fld := ⟨0xF01030008 + x.off, 1, 1⟩
/-- GD_STAT_x.ENA (spec/05_gate_drive.md, R214). -/
def GD_STAT_ENA (x : Ax) : Fld := ⟨0xF01030008 + x.off, 0, 1⟩
/-- GD_SNSRATIO_x.N (spec/05_gate_drive.md, R214). -/
def GD_SNSRATIO_N (x : Ax) : Fld := ⟨0xF0103000C + x.off, 0, 15⟩
/-- GD_OCTH_x.AMPS (spec/05_gate_drive.md, R214). -/
def GD_OCTH_AMPS (x : Ax) : Fld := ⟨0xF01030010 + x.off, 0, 14⟩
/-- GD_SCTH_x.AMPS (spec/05_gate_drive.md, R214). -/
def GD_SCTH_AMPS (x : Ax) : Fld := ⟨0xF01030014 + x.off, 0, 14⟩
/-- GD_SOFTOFF_x.SNK (spec/05_gate_drive.md, R214). -/
def GD_SOFTOFF_SNK (x : Ax) : Fld := ⟨0xF01030018 + x.off, 0, 3⟩
/-- GD_TRIPSTAT_x.OC (spec/05_gate_drive.md, R214). -/
def GD_TRIPSTAT_OC (x : Ax) : Fld := ⟨0xF0103001C + x.off, 8, 6⟩
/-- GD_TRIPSTAT_x.HS (spec/05_gate_drive.md, R214). -/
def GD_TRIPSTAT_HS (x : Ax) : Fld := ⟨0xF0103001C + x.off, 0, 6⟩
/-- GD_XCNT_x.DTCLIP (spec/05_gate_drive.md, R214). -/
def GD_XCNT_DTCLIP (x : Ax) : Fld := ⟨0xF01030020 + x.off, 24, 8⟩
/-- GD_XCNT_x.WIN (spec/05_gate_drive.md, R214). -/
def GD_XCNT_WIN (x : Ax) : Fld := ⟨0xF01030020 + x.off, 16, 2⟩
/-- GD_XCNT_x.TOTAL (spec/05_gate_drive.md, R214). -/
def GD_XCNT_TOTAL (x : Ax) : Fld := ⟨0xF01030020 + x.off, 0, 16⟩
/-- GD_COMM_x.ILL (spec/05_gate_drive.md, R214). -/
def GD_COMM_ILL (x : Ax) : Fld := ⟨0xF01030024 + x.off, 8, 8⟩
/-- GD_COMM_x.HALL (spec/05_gate_drive.md, R214). -/
def GD_COMM_HALL (x : Ax) : Fld := ⟨0xF01030024 + x.off, 0, 3⟩
/-- GD_CPMON_x.MV (spec/05_gate_drive.md, R214). -/
def GD_CPMON_MV (x : Ax) : Fld := ⟨0xF01030028 + x.off, 0, 16⟩
/-- GD_DRV_x_n.SNK (spec/05_gate_drive.md, R214). -/
def GD_DRV_SNK (x : Ax) (n : Nat) : Fld := ⟨0xF01030040 + x.off + 0x4 * n, 4, 3⟩
/-- GD_DRV_x_n.SRC (spec/05_gate_drive.md, R214). -/
def GD_DRV_SRC (x : Ax) (n : Nat) : Fld := ⟨0xF01030040 + x.off + 0x4 * n, 0, 3⟩

/-! ### FB (base 0xF01040000) -/

/-- FB_CTL_x.FLTCLR (spec/06_feedback.md, R255). -/
def FB_CTL_FLTCLR (x : Ax) : Fld := ⟨0xF01040000 + x.off, 1, 1⟩
/-- FB_CTL_x.CNTCLR (spec/06_feedback.md, R255). -/
def FB_CTL_CNTCLR (x : Ax) : Fld := ⟨0xF01040000 + x.off, 0, 1⟩
/-- FB_CFG_x.HFILT (spec/06_feedback.md, R255). -/
def FB_CFG_HFILT (x : Ax) : Fld := ⟨0xF01040004 + x.off, 16, 8⟩
/-- FB_CFG_x.PP (spec/06_feedback.md, R255). -/
def FB_CFG_PP (x : Ax) : Fld := ⟨0xF01040004 + x.off, 8, 5⟩
/-- FB_CFG_x.NBPREF (spec/06_feedback.md, R255). -/
def FB_CFG_NBPREF (x : Ax) : Fld := ⟨0xF01040004 + x.off, 6, 1⟩
/-- FB_CFG_x.PTMODE (spec/06_feedback.md, R255). -/
def FB_CFG_PTMODE (x : Ax) : Fld := ⟨0xF01040004 + x.off, 4, 2⟩
/-- FB_CFG_x.SENS (spec/06_feedback.md, R255). -/
def FB_CFG_SENS (x : Ax) : Fld := ⟨0xF01040004 + x.off, 0, 2⟩
/-- FB_STAT_x.MASK (spec/06_feedback.md, R255). -/
def FB_STAT_MASK (x : Ax) : Fld := ⟨0xF01040008 + x.off, 13, 1⟩
/-- FB_STAT_x.POSOVF (spec/06_feedback.md, R255). -/
def FB_STAT_POSOVF (x : Ax) : Fld := ⟨0xF01040008 + x.off, 12, 1⟩
/-- FB_STAT_x.NBPB (spec/06_feedback.md, R255). -/
def FB_STAT_NBPB (x : Ax) : Fld := ⟨0xF01040008 + x.off, 11, 1⟩
/-- FB_STAT_x.NBNB (spec/06_feedback.md, R255). -/
def FB_STAT_NBNB (x : Ax) : Fld := ⟨0xF01040008 + x.off, 10, 1⟩
/-- FB_STAT_x.HOLD (spec/06_feedback.md, R255). -/
def FB_STAT_HOLD (x : Ax) : Fld := ⟨0xF01040008 + x.off, 9, 1⟩
/-- FB_STAT_x.NOSRC (spec/06_feedback.md, R255). -/
def FB_STAT_NOSRC (x : Ax) : Fld := ⟨0xF01040008 + x.off, 8, 1⟩
/-- FB_STAT_x.NBPV (spec/06_feedback.md, R255). -/
def FB_STAT_NBPV (x : Ax) : Fld := ⟨0xF01040008 + x.off, 7, 1⟩
/-- FB_STAT_x.NBNV (spec/06_feedback.md, R255). -/
def FB_STAT_NBNV (x : Ax) : Fld := ⟨0xF01040008 + x.off, 6, 1⟩
/-- FB_STAT_x.HF (spec/06_feedback.md, R255). -/
def FB_STAT_HF (x : Ax) : Fld := ⟨0xF01040008 + x.off, 5, 1⟩
/-- FB_STAT_x.SCF (spec/06_feedback.md, R255). -/
def FB_STAT_SCF (x : Ax) : Fld := ⟨0xF01040008 + x.off, 4, 1⟩
/-- FB_STAT_x.SRC (spec/06_feedback.md, R255). -/
def FB_STAT_SRC (x : Ax) : Fld := ⟨0xF01040008 + x.off, 0, 3⟩
/-- FB_SCCFG_x.SCN (spec/06_feedback.md, R255). -/
def FB_SCCFG_SCN (x : Ax) : Fld := ⟨0xF0104000C + x.off, 8, 8⟩
/-- FB_SCCFG_x.SCPER (spec/06_feedback.md, R255). -/
def FB_SCCFG_SCPER (x : Ax) : Fld := ⟨0xF0104000C + x.off, 0, 8⟩
/-- FB_SCWIN_x.HI (spec/06_feedback.md, R255). -/
def FB_SCWIN_HI (x : Ax) : Fld := ⟨0xF01040010 + x.off, 16, 16⟩
/-- FB_SCWIN_x.LO (spec/06_feedback.md, R255). -/
def FB_SCWIN_LO (x : Ax) : Fld := ⟨0xF01040010 + x.off, 0, 16⟩
/-- FB_SCOFS_x.COS (spec/06_feedback.md, R255). -/
def FB_SCOFS_COS (x : Ax) : Fld := ⟨0xF01040014 + x.off, 16, 16⟩
/-- FB_SCOFS_x.SIN (spec/06_feedback.md, R255). -/
def FB_SCOFS_SIN (x : Ax) : Fld := ⟨0xF01040014 + x.off, 0, 16⟩
/-- FB_SCAMP_x.COS (spec/06_feedback.md, R255). -/
def FB_SCAMP_COS (x : Ax) : Fld := ⟨0xF01040018 + x.off, 16, 16⟩
/-- FB_SCAMP_x.SIN (spec/06_feedback.md, R255). -/
def FB_SCAMP_SIN (x : Ax) : Fld := ⟨0xF01040018 + x.off, 0, 16⟩
/-- FB_ANG_x.HOFS (spec/06_feedback.md, R255). -/
def FB_ANG_HOFS (x : Ax) : Fld := ⟨0xF0104001C + x.off, 16, 16⟩
/-- FB_ANG_x.EOFS (spec/06_feedback.md, R255). -/
def FB_ANG_EOFS (x : Ax) : Fld := ⟨0xF0104001C + x.off, 0, 16⟩
/-- FB_NBOFS_x.PREV (spec/06_feedback.md, R255). -/
def FB_NBOFS_PREV (x : Ax) : Fld := ⟨0xF01040020 + x.off, 16, 16⟩
/-- FB_NBOFS_x.NEXT (spec/06_feedback.md, R255). -/
def FB_NBOFS_NEXT (x : Ax) : Fld := ⟨0xF01040020 + x.off, 0, 16⟩
/-- FB_TRK_x.HSTOP (spec/06_feedback.md, R255). -/
def FB_TRK_HSTOP (x : Ax) : Fld := ⟨0xF01040024 + x.off, 24, 8⟩
/-- FB_TRK_x.BW (spec/06_feedback.md, R255). -/
def FB_TRK_BW (x : Ax) : Fld := ⟨0xF01040024 + x.off, 0, 20⟩
/-- FB_CNT_x.SRCCHG (spec/06_feedback.md, R255). -/
def FB_CNT_SRCCHG (x : Ax) : Fld := ⟨0xF01040028 + x.off, 16, 8⟩
/-- FB_CNT_x.SCOUT (spec/06_feedback.md, R255). -/
def FB_CNT_SCOUT (x : Ax) : Fld := ⟨0xF01040028 + x.off, 8, 8⟩
/-- FB_CNT_x.ILL (spec/06_feedback.md, R255). -/
def FB_CNT_ILL (x : Ax) : Fld := ⟨0xF01040028 + x.off, 0, 8⟩
/-- FB_HCODE_x.PT (spec/06_feedback.md, R255). -/
def FB_HCODE_PT (x : Ax) : Fld := ⟨0xF0104002C + x.off, 12, 3⟩
/-- FB_HCODE_x.PREV (spec/06_feedback.md, R255). -/
def FB_HCODE_PREV (x : Ax) : Fld := ⟨0xF0104002C + x.off, 8, 3⟩
/-- FB_HCODE_x.NEXT (spec/06_feedback.md, R255). -/
def FB_HCODE_NEXT (x : Ax) : Fld := ⟨0xF0104002C + x.off, 4, 3⟩
/-- FB_HCODE_x.OWN (spec/06_feedback.md, R255). -/
def FB_HCODE_OWN (x : Ax) : Fld := ⟨0xF0104002C + x.off, 0, 3⟩
/-- FB_CMPSTAT_x.BEYOND (spec/06_feedback.md, R255). -/
def FB_CMPSTAT_BEYOND (x : Ax) : Fld := ⟨0xF01040030 + x.off, 16, 4⟩
/-- FB_CMPSTAT_x.BEHIND (spec/06_feedback.md, R255). -/
def FB_CMPSTAT_BEHIND (x : Ax) : Fld := ⟨0xF01040030 + x.off, 8, 4⟩
/-- FB_CMPSTAT_x.FIRED (spec/06_feedback.md, R255). -/
def FB_CMPSTAT_FIRED (x : Ax) : Fld := ⟨0xF01040030 + x.off, 0, 4⟩
/-- FB_CMPCFG_x_n.ONESHOT (spec/06_feedback.md, R255). -/
def FB_CMPCFG_ONESHOT (x : Ax) (n : Nat) : Fld := ⟨0xF01040040 + x.off + 0x4 * n, 4, 1⟩
/-- FB_CMPCFG_x_n.SIDE (spec/06_feedback.md, R255). -/
def FB_CMPCFG_SIDE (x : Ax) (n : Nat) : Fld := ⟨0xF01040040 + x.off + 0x4 * n, 3, 1⟩
/-- FB_CMPCFG_x_n.MODE (spec/06_feedback.md, R255). -/
def FB_CMPCFG_MODE (x : Ax) (n : Nat) : Fld := ⟨0xF01040040 + x.off + 0x4 * n, 1, 2⟩
/-- FB_CMPCFG_x_n.EN (spec/06_feedback.md, R255). -/
def FB_CMPCFG_EN (x : Ax) (n : Nat) : Fld := ⟨0xF01040040 + x.off + 0x4 * n, 0, 1⟩
/-- FB_POS_x.VAL (spec/06_feedback.md, R256). -/
def FB_POS (x : Ax) : Fld := ⟨0xF01040080 + x.off, 0, 64⟩
/-- FB_THE_x.VAL (spec/06_feedback.md, R256). -/
def FB_THE (x : Ax) : Fld := ⟨0xF01040088 + x.off, 0, 64⟩
/-- FB_WM_x.VAL (spec/06_feedback.md, R256). -/
def FB_WM (x : Ax) : Fld := ⟨0xF01040090 + x.off, 0, 64⟩
/-- FB_WE_x.VAL (spec/06_feedback.md, R256). -/
def FB_WE (x : Ax) : Fld := ⟨0xF01040098 + x.off, 0, 64⟩
/-- FB_SCM2_x.VAL (spec/06_feedback.md, R256). -/
def FB_SCM2 (x : Ax) : Fld := ⟨0xF010400A0 + x.off, 0, 64⟩
/-- FB_POSADJ_x.VAL (spec/06_feedback.md, R256). -/
def FB_POSADJ (x : Ax) : Fld := ⟨0xF010400C0 + x.off, 0, 64⟩
/-- FB_CMP_x_n.VAL (spec/06_feedback.md, R256). -/
def FB_CMP (x : Ax) (n : Nat) : Fld := ⟨0xF01040100 + x.off + 0x8 * n, 0, 64⟩

/-! ### AD (base 0xF01050000) -/

/-- AD_CTL_x.CNTCLR (spec/06_feedback.md, R254). -/
def AD_CTL_CNTCLR (x : Ax) : Fld := ⟨0xF01050000 + x.off, 0, 1⟩
/-- AD_CFG_x.SOFS (spec/06_feedback.md, R254). -/
def AD_CFG_SOFS (x : Ax) : Fld := ⟨0xF01050004 + x.off, 0, 4⟩
/-- AD_STAT_x.CLIP (spec/06_feedback.md, R254). -/
def AD_STAT_CLIP (x : Ax) : Fld := ⟨0xF01050008 + x.off, 1, 1⟩
/-- AD_STAT_x.HELD (spec/06_feedback.md, R254). -/
def AD_STAT_HELD (x : Ax) : Fld := ⟨0xF01050008 + x.off, 0, 1⟩
/-- AD_CNT_x.CLIP (spec/06_feedback.md, R254). -/
def AD_CNT_CLIP (x : Ax) : Fld := ⟨0xF0105000C + x.off, 16, 8⟩
/-- AD_CNT_x.HELD (spec/06_feedback.md, R254). -/
def AD_CNT_HELD (x : Ax) : Fld := ⟨0xF0105000C + x.off, 8, 8⟩
/-- AD_CNT_x.RECON (spec/06_feedback.md, R254). -/
def AD_CNT_RECON (x : Ax) : Fld := ⟨0xF0105000C + x.off, 0, 8⟩
/-- AD_IOFS_x_n.VAL (spec/06_feedback.md, R219). -/
def AD_IOFS (x : Ax) (n : Nat) : Fld := ⟨0xF01050010 + x.off + 0x4 * n, 0, 16⟩
/-- AD_RAW_x_n.CODE (spec/06_feedback.md, R219). -/
def AD_RAW_CODE (x : Ax) (n : Nat) : Fld := ⟨0xF01050020 + x.off + 0x4 * n, 0, 16⟩
/-- AD_IGAIN_x_n.VAL (spec/06_feedback.md, R255). -/
def AD_IGAIN (x : Ax) (n : Nat) : Fld := ⟨0xF01050040 + x.off + 0x8 * n, 0, 64⟩
/-- AD_VGAIN_x.VAL (spec/06_feedback.md, R255). -/
def AD_VGAIN (x : Ax) : Fld := ⟨0xF01050058 + x.off, 0, 64⟩
/-- AD_IA_x.VAL (spec/06_feedback.md, R255). -/
def AD_IA (x : Ax) : Fld := ⟨0xF01050080 + x.off, 0, 64⟩
/-- AD_IB_x.VAL (spec/06_feedback.md, R255). -/
def AD_IB (x : Ax) : Fld := ⟨0xF01050088 + x.off, 0, 64⟩
/-- AD_IC_x.VAL (spec/06_feedback.md, R255). -/
def AD_IC (x : Ax) : Fld := ⟨0xF01050090 + x.off, 0, 64⟩
/-- AD_VDC_x.VAL (spec/06_feedback.md, R255). -/
def AD_VDC (x : Ax) : Fld := ⟨0xF01050098 + x.off, 0, 64⟩
/-- AD_MON_n.VAL (spec/06_feedback.md, R225). -/
def AD_MON (n : Nat) : Fld := ⟨0xF01050400 + 0x4 * n, 0, 16⟩
/-- AD_MONLIM_n.HI (spec/06_feedback.md, R255). -/
def AD_MONLIM_HI (n : Nat) : Fld := ⟨0xF01050440 + 0x4 * n, 16, 16⟩
/-- AD_MONLIM_n.LO (spec/06_feedback.md, R255). -/
def AD_MONLIM_LO (n : Nat) : Fld := ⟨0xF01050440 + 0x4 * n, 0, 16⟩
/-- AD_MONSTAT.OUT (spec/06_feedback.md, R226). -/
def AD_MONSTAT_OUT : Fld := ⟨0xF01050480, 0, 16⟩

/-- The registers of the SY block, by offset. -/
def regsSY : List RegDesc := [
  ⟨0x0, 32, 0x10000, 1, 0x10000, 1, [⟨16, 2, .ro, 0, .any⟩, ⟨8, 8, .ro, 0, .any⟩, ⟨0, 8, .ro, 0, .any⟩]⟩,
  ⟨0x8, 32, 0x10000, 1, 0x10000, 1, [⟨28, 1, .ro, 0, .any⟩, ⟨24, 3, .ro, 7, .any⟩, ⟨20, 3, .ro, 7, .any⟩, ⟨16, 3, .ro, 7, .any⟩, ⟨8, 4, .ro, 0, .any⟩, ⟨4, 3, .ro, 7, .any⟩, ⟨0, 3, .ro, 0, .any⟩]⟩,
  ⟨0xC, 32, 0x10000, 1, 0x10000, 1, [⟨24, 3, .ro, 0, .any⟩, ⟨20, 3, .ro, 0, .any⟩, ⟨16, 3, .ro, 0, .any⟩, ⟨8, 2, .ro, 0, .any⟩, ⟨4, 2, .ro, 0, .any⟩, ⟨0, 2, .ro, 0, .any⟩]⟩,
  ⟨0x10, 64, 0x10000, 1, 0x10000, 1, [⟨32, 16, .ro, 0, .any⟩, ⟨17, 1, .ro, 0, .any⟩, ⟨16, 1, .ro, 0, .any⟩, ⟨8, 2, .ro, 0, .any⟩, ⟨0, 3, .ro, 0, .any⟩]⟩,
  ⟨0x18, 64, 0x10000, 1, 0x10000, 1, [⟨16, 16, .ro, 0x100, .any⟩, ⟨0, 8, .ro, 8, .any⟩]⟩,
  ⟨0x20, 32, 0x10000, 1, 0x10000, 1, [⟨16, 2, .ro, 1, .any⟩, ⟨8, 2, .ro, 1, .any⟩, ⟨0, 2, .rw, 0, .nat 0 2⟩]⟩,
  ⟨0x24, 32, 0x10000, 1, 0x10000, 1, [⟨0, 1, .rl, 0, .any⟩]⟩,
  ⟨0x28, 32, 0x10000, 1, 0x10000, 1, [⟨0, 12, .rl, 0x12C, .nat 10 3600⟩]⟩,
  ⟨0x2C, 32, 0x10000, 1, 0x10000, 1, [⟨0, 32, .ro, 0, .any⟩]⟩,
  ⟨0x30, 32, 0x10000, 1, 0x10000, 1, [⟨0, 32, .ro, 0xFFFFFFFF, .any⟩]⟩,
  ⟨0x34, 32, 0x10000, 1, 0x10000, 1, [⟨0, 11, .rl, 0xFA, .nat 50 2000⟩]⟩,
  ⟨0x38, 32, 0x10000, 1, 0x10000, 1, [⟨0, 16, .rl, 0xC8, .any⟩]⟩,
  ⟨0x3C, 32, 0x10000, 1, 0x10000, 1, [⟨0, 16, .rl, 0x870, .any⟩]⟩,
  ⟨0x40, 32, 0x10000, 1, 0x10000, 1, [⟨0, 16, .rl, 0x910, .any⟩]⟩,
  ⟨0x44, 32, 0x10000, 1, 0x10000, 1, [⟨0, 8, .rl, 8, .nat 1 255⟩]⟩,
  ⟨0x80, 32, 0x4, 6, 0x10000, 1, [⟨0, 32, .wc, 0, .any⟩]⟩,
  ⟨0x100, 32, 0x10000, 1, 0x10000, 1, [⟨8, 2, .ro, 0, .any⟩, ⟨6, 1, .wc, 0, .any⟩, ⟨5, 1, .ro, 0, .any⟩, ⟨4, 1, .ro, 0, .any⟩, ⟨2, 1, .ro, 0, .any⟩, ⟨1, 1, .ro, 0, .any⟩, ⟨0, 1, .ro, 0, .any⟩]⟩,
  ⟨0x104, 32, 0x10000, 1, 0x10000, 1, [⟨0, 32, .ro, 0, .any⟩]⟩,
  ⟨0x108, 32, 0x10000, 1, 0x10000, 1, [⟨0, 20, .ro, 0, .any⟩]⟩,
  ⟨0x110, 64, 0x8, 2, 0x10000, 1, [⟨32, 16, .ro, 0, .any⟩, ⟨16, 16, .ro, 0, .any⟩, ⟨8, 1, .ro, 0, .any⟩, ⟨0, 8, .ro, 0, .any⟩]⟩,
  ⟨0x120, 64, 0x8, 2, 0x10000, 1, [⟨63, 1, .ro, 0, .any⟩, ⟨0, 40, .ro, 0, .any⟩]⟩,
  ⟨0x200, 64, 0x20, 2, 0x10000, 1, [⟨0, 64, .rl, 0, .q 0x0 0xA0000000000⟩]⟩,
  ⟨0x208, 64, 0x20, 2, 0x10000, 1, [⟨0, 64, .rl, 0, .q 0x0 0x640000000000⟩]⟩,
  ⟨0x210, 64, 0x20, 2, 0x10000, 1, [⟨0, 64, .rl, 0x10000000000, .q 0x10000000000 0x27100000000000⟩]⟩,
  ⟨0x218, 64, 0x20, 2, 0x10000, 1, [⟨0, 64, .rl, 0, .q 0x0 0xFA0000000000⟩]⟩,
  ⟨0x800, 32, 0x4, 96, 0x10000, 1, [⟨0, 32, .ro, 0, .any⟩]⟩]

/-- The registers of the PD block, by offset. -/
def regsPD : List RegDesc := [
  ⟨0x0, 32, 0x10000, 1, 0x10000, 1, [⟨0, 1, .wo, 0, .any⟩]⟩,
  ⟨0x4, 32, 0x10000, 1, 0x10000, 1, [⟨0, 14, .rw, 0, .any⟩]⟩,
  ⟨0x8, 32, 0x10000, 1, 0x10000, 1, [⟨0, 14, .rl, 0x1555, .any⟩]⟩,
  ⟨0xC, 32, 0x10000, 1, 0x10000, 1, [⟨20, 1, .wc, 0, .any⟩, ⟨19, 1, .wc, 0, .any⟩, ⟨18, 1, .wc, 0, .any⟩, ⟨17, 1, .wc, 0, .any⟩, ⟨16, 1, .ro, 0, .any⟩, ⟨0, 14, .ro, 0, .any⟩]⟩]

/-- The registers of the CK block, by offset. -/
def regsCK : List RegDesc := [
  ⟨0x0, 32, 0x10000, 1, 0x10000, 1, [⟨3, 1, .wo, 0, .any⟩, ⟨1, 2, .wo, 0, .any⟩, ⟨0, 1, .wo, 0, .any⟩]⟩,
  ⟨0x4, 32, 0x10000, 1, 0x10000, 1, [⟨5, 1, .wc, 0, .any⟩, ⟨4, 1, .wc, 0, .any⟩, ⟨3, 1, .ro, 0, .any⟩, ⟨2, 1, .ro, 0, .any⟩, ⟨0, 2, .ro, 1, .any⟩]⟩,
  ⟨0x8, 32, 0x10000, 1, 0x10000, 1, [⟨0, 20, .ro, 0xC3500, .any⟩]⟩,
  ⟨0xC, 32, 0x10000, 1, 0x10000, 1, [⟨0, 20, .ro, 0, .any⟩]⟩]

/-- The registers of the PM block, by offset. -/
def regsPM : List RegDesc := [
  ⟨0x0, 32, 0x10000, 1, 0x10000, 1, [⟨0, 1, .wo, 0, .any⟩]⟩,
  ⟨0x4, 32, 0x10000, 1, 0x10000, 1, [⟨16, 10, .rl, 0x64, .nat 0 400⟩, ⟨15, 1, .rl, 0, .any⟩, ⟨14, 1, .rl, 0, .any⟩, ⟨13, 1, .rl, 0, .any⟩, ⟨8, 5, .rl, 0x14, .nat 16 24⟩, ⟨0, 7, .rl, 0, .any⟩]⟩,
  ⟨0x8, 32, 0x10000, 1, 0x10000, 1, [⟨16, 16, .rl, 0, .any⟩, ⟨0, 16, .rl, 0, .any⟩]⟩,
  ⟨0xC, 32, 0x10000, 1, 0x10000, 1, [⟨0, 16, .rw, 0, .any⟩]⟩,
  ⟨0x10, 32, 0x10000, 1, 0x10000, 1, [⟨8, 8, .rw, 0, .any⟩, ⟨0, 2, .rw, 0, .any⟩]⟩,
  ⟨0x14, 32, 0x10000, 1, 0x10000, 1, [⟨7, 1, .wc, 0, .any⟩, ⟨6, 1, .wc, 0, .any⟩, ⟨5, 1, .wc, 0, .any⟩, ⟨4, 1, .wc, 0, .any⟩, ⟨3, 1, .wc, 0, .any⟩, ⟨2, 1, .ro, 0, .any⟩, ⟨1, 1, .ro, 0, .any⟩, ⟨0, 1, .ro, 0, .any⟩]⟩,
  ⟨0x18, 32, 0x10000, 1, 0x10000, 1, [⟨0, 16, .ro, 0x2EE, .any⟩]⟩,
  ⟨0x1C, 32, 0x10000, 1, 0x10000, 1, [⟨0, 16, .ro, 0, .any⟩]⟩,
  ⟨0x20, 32, 0x10000, 1, 0x10000, 1, [⟨0, 16, .ro, 0, .any⟩]⟩,
  ⟨0x24, 32, 0x10000, 1, 0x10000, 1, [⟨16, 8, .ro, 0, .any⟩, ⟨0, 16, .ro, 0, .any⟩]⟩]

/-- The registers of the WK block, by offset. -/
def regsWK : List RegDesc := [
  ⟨0x0, 32, 0x10000, 1, 0x10000, 1, [⟨0, 1, .wo, 0, .any⟩]⟩,
  ⟨0x4, 32, 0x10000, 1, 0x10000, 1, [⟨16, 16, .rl, 0, .any⟩, ⟨8, 8, .rl, 0, .any⟩, ⟨4, 4, .rl, 0, .any⟩, ⟨2, 1, .rl, 0, .any⟩, ⟨1, 1, .rl, 0, .any⟩, ⟨0, 1, .rl, 0, .any⟩]⟩,
  ⟨0x8, 32, 0x10000, 1, 0x10000, 1, [⟨24, 8, .rl, 0, .any⟩, ⟨16, 8, .rl, 0, .any⟩, ⟨8, 8, .rl, 0, .any⟩, ⟨0, 8, .rl, 0, .any⟩]⟩,
  ⟨0xC, 32, 0x10000, 1, 0x10000, 1, [⟨24, 2, .ro, 3, .any⟩, ⟨8, 8, .ro, 0, .any⟩, ⟨4, 1, .wc, 0, .any⟩, ⟨3, 1, .wc, 0, .any⟩, ⟨0, 3, .ro, 0, .any⟩]⟩,
  ⟨0x10, 32, 0x10000, 1, 0x10000, 1, [⟨16, 8, .ro, 0, .any⟩, ⟨8, 8, .ro, 0, .any⟩, ⟨0, 8, .ro, 0, .any⟩]⟩,
  ⟨0x40, 64, 0x10000, 1, 0x10000, 1, [⟨0, 64, .ro, 0, .any⟩]⟩,
  ⟨0x48, 64, 0x10000, 1, 0x10000, 1, [⟨0, 64, .rw, 0, .any⟩]⟩,
  ⟨0x50, 64, 0x10000, 1, 0x10000, 1, [⟨0, 64, .ro, 0, .any⟩]⟩,
  ⟨0x58, 64, 0x10000, 1, 0x10000, 1, [⟨0, 64, .ro, 0, .any⟩]⟩,
  ⟨0x60, 64, 0x10000, 1, 0x10000, 1, [⟨0, 64, .ro, 0, .any⟩]⟩]

/-- The registers of the FC block, by offset. -/
def regsFC : List RegDesc := [
  ⟨0x0, 32, 0x10000, 1, 0x10000, 1, [⟨4, 1, .wo, 0, .any⟩, ⟨3, 1, .wo, 0, .any⟩, ⟨2, 1, .wo, 0, .any⟩, ⟨1, 1, .wo, 0, .any⟩, ⟨0, 1, .wo, 0, .any⟩]⟩,
  ⟨0x4, 32, 0x10000, 1, 0x10000, 1, [⟨24, 6, .rl, 0, .any⟩, ⟨16, 8, .rl, 4, .nat 0 16⟩, ⟨8, 8, .rl, 0x32, .nat 10 255⟩, ⟨1, 1, .rl, 0, .any⟩, ⟨0, 1, .rl, 0, .any⟩]⟩,
  ⟨0x8, 32, 0x10000, 1, 0x10000, 1, [⟨6, 1, .wc, 0, .any⟩, ⟨5, 1, .wc, 0, .any⟩, ⟨4, 1, .wc, 0, .any⟩, ⟨3, 1, .ro, 0, .any⟩, ⟨2, 1, .ro, 0, .any⟩, ⟨1, 1, .wc, 0, .any⟩, ⟨0, 1, .ro, 0, .any⟩]⟩,
  ⟨0xC, 32, 0x10000, 1, 0x10000, 1, [⟨24, 8, .ro, 0, .any⟩, ⟨16, 8, .ro, 0, .any⟩, ⟨0, 16, .ro, 0, .any⟩]⟩,
  ⟨0x10, 32, 0x10000, 1, 0x10000, 1, [⟨0, 16, .ro, 0, .any⟩]⟩,
  ⟨0x14, 32, 0x10000, 1, 0x10000, 1, [⟨0, 10, .rl, 0x64, .nat 10 1000⟩]⟩,
  ⟨0x18, 32, 0x10000, 1, 0x10000, 1, [⟨16, 16, .rl, 0x64, .nat 1 65535⟩, ⟨0, 16, .rl, 4, .any⟩]⟩,
  ⟨0x1C, 32, 0x10000, 1, 0x10000, 1, [⟨0, 8, .wo, 0, .any⟩]⟩,
  ⟨0x20, 32, 0x10000, 1, 0x10000, 1, [⟨16, 8, .ro, 0xA5, .any⟩, ⟨12, 1, .wc, 0, .any⟩, ⟨10, 2, .ro, 0, .any⟩, ⟨8, 2, .ro, 0, .any⟩, ⟨2, 3, .ro, 0, .any⟩, ⟨1, 1, .ro, 0, .any⟩, ⟨0, 1, .ro, 0, .any⟩]⟩,
  ⟨0x24, 32, 0x4, 2, 0x10000, 1, [⟨20, 1, .wc, 0, .any⟩, ⟨19, 1, .wc, 0, .any⟩, ⟨18, 1, .wc, 0, .any⟩, ⟨17, 1, .ro, 0, .any⟩, ⟨16, 1, .ro, 0, .any⟩, ⟨0, 14, .ro, 0, .any⟩]⟩,
  ⟨0x2C, 32, 0x10000, 1, 0x10000, 1, [⟨31, 1, .ro, 0, .any⟩, ⟨8, 4, .ro, 0, .any⟩, ⟨7, 1, .ro, 0, .any⟩, ⟨4, 3, .ro, 0, .any⟩, ⟨0, 2, .ro, 0, .any⟩]⟩,
  ⟨0x30, 32, 0x10000, 1, 0x10000, 1, [⟨1, 1, .wo, 0, .any⟩, ⟨0, 1, .wo, 0, .any⟩]⟩,
  ⟨0x34, 32, 0x10000, 1, 0x10000, 1, [⟨8, 8, .rw, 0, .any⟩, ⟨0, 3, .rw, 1, .nat 1 6⟩]⟩,
  ⟨0x40, 64, 0x10000, 1, 0x10000, 1, [⟨0, 64, .ro, 0, .any⟩]⟩,
  ⟨0x48, 64, 0x10000, 1, 0x10000, 1, [⟨0, 64, .ro, 0, .any⟩]⟩,
  ⟨0x50, 64, 0x10000, 1, 0x10000, 1, [⟨0, 64, .ro, 0, .any⟩]⟩,
  ⟨0x58, 64, 0x10000, 1, 0x10000, 1, [⟨0, 64, .ro, 0, .any⟩]⟩,
  ⟨0x60, 64, 0x10000, 1, 0x10000, 1, [⟨0, 64, .rl, 0, .any⟩]⟩,
  ⟨0x68, 64, 0x10000, 1, 0x10000, 1, [⟨0, 64, .wo, 0, .any⟩]⟩]

/-- The registers of the PC block, by offset. -/
def regsPC : List RegDesc := [
  ⟨0x0, 32, 0x10000, 1, 0x10000, 1, [⟨2, 1, .wo, 0, .any⟩, ⟨1, 1, .wo, 0, .any⟩, ⟨0, 1, .wo, 0, .any⟩]⟩,
  ⟨0x4, 32, 0x10000, 1, 0x10000, 1, [⟨0, 1, .rl, 0, .any⟩]⟩,
  ⟨0x8, 32, 0x10000, 1, 0x10000, 1, [⟨10, 1, .ro, 0, .any⟩, ⟨9, 1, .wc, 0, .any⟩, ⟨8, 1, .wc, 0, .any⟩, ⟨7, 1, .wc, 0, .any⟩, ⟨6, 1, .wc, 0, .any⟩, ⟨5, 1, .wc, 0, .any⟩, ⟨4, 1, .wc, 0, .any⟩, ⟨0, 1, .ro, 0, .any⟩]⟩,
  ⟨0xC, 32, 0x10000, 1, 0x10000, 1, [⟨16, 2, .ro, 0, .any⟩, ⟨0, 16, .ro, 0, .any⟩]⟩,
  ⟨0x10, 32, 0x10000, 1, 0x10000, 1, [⟨24, 8, .ro, 0, .any⟩, ⟨0, 24, .ro, 0, .any⟩]⟩,
  ⟨0x14, 32, 0x10000, 1, 0x10000, 1, [⟨16, 10, .ro, 0, .any⟩, ⟨0, 10, .ro, 0, .any⟩]⟩,
  ⟨0x18, 32, 0x10000, 1, 0x10000, 1, [⟨16, 16, .ro, 0, .any⟩, ⟨0, 16, .ro, 0, .any⟩]⟩,
  ⟨0x1C, 32, 0x10000, 1, 0x10000, 1, [⟨31, 1, .ro, 0, .any⟩, ⟨28, 3, .ro, 0, .any⟩, ⟨23, 1, .ro, 0, .any⟩, ⟨16, 7, .ro, 0, .any⟩]⟩,
  ⟨0x20, 32, 0x10000, 1, 0x10000, 1, [⟨0, 24, .ro, 0, .any⟩]⟩,
  ⟨0x40, 64, 0x10000, 1, 0x10000, 1, [⟨0, 64, .ro, 0, .any⟩]⟩,
  ⟨0x48, 64, 0x10000, 1, 0x10000, 1, [⟨0, 64, .ro, 0, .any⟩]⟩,
  ⟨0x50, 64, 0x10000, 1, 0x10000, 1, [⟨0, 64, .ro, 0, .any⟩]⟩]

/-- The registers of the GL block, by offset. -/
def regsGL : List RegDesc := [
  ⟨0x0, 32, 0x10000, 1, 0x10000, 1, [⟨6, 1, .wo, 0, .any⟩, ⟨5, 1, .wo, 0, .any⟩, ⟨4, 1, .wo, 0, .any⟩, ⟨2, 2, .wo, 0, .any⟩, ⟨1, 1, .wo, 0, .any⟩, ⟨0, 1, .wo, 0, .any⟩]⟩,
  ⟨0x4, 32, 0x10000, 1, 0x10000, 1, [⟨8, 6, .rl, 8, .nat 2 63⟩, ⟨4, 1, .rl, 0, .any⟩, ⟨0, 2, .rl, 0, .nat 1 3⟩]⟩,
  ⟨0x8, 32, 0x10000, 1, 0x10000, 1, [⟨14, 1, .ro, 0, .any⟩, ⟨13, 1, .ro, 0, .any⟩, ⟨12, 1, .ro, 0, .any⟩, ⟨11, 1, .wc, 0, .any⟩, ⟨10, 1, .wc, 0, .any⟩, ⟨9, 1, .wc, 0, .any⟩, ⟨8, 1, .wc, 0, .any⟩, ⟨4, 3, .ro, 0, .any⟩, ⟨2, 2, .ro, 0, .any⟩, ⟨0, 2, .ro, 3, .any⟩]⟩,
  ⟨0xC, 32, 0x10000, 1, 0x10000, 1, [⟨0, 32, .ro, 0, .any⟩]⟩,
  ⟨0x10, 32, 0x10000, 1, 0x10000, 1, [⟨0, 32, .ro, 0, .any⟩]⟩,
  ⟨0x14, 32, 0x10000, 1, 0x10000, 1, [⟨24, 6, .rl, 0, .nat 0 32⟩, ⟨8, 14, .rl, 0, .any⟩]⟩,
  ⟨0x20, 32, 0x4, 2, 0x10000, 1, [⟨16, 8, .ro, 0, .any⟩, ⟨8, 8, .ro, 0, .any⟩, ⟨3, 1, .ro, 0, .any⟩, ⟨2, 1, .ro, 0, .any⟩, ⟨1, 1, .ro, 0, .any⟩, ⟨0, 1, .ro, 0, .any⟩]⟩,
  ⟨0x28, 32, 0x10000, 1, 0x10000, 1, [⟨24, 3, .ro, 0, .any⟩, ⟨5, 3, .ro, 0, .any⟩, ⟨2, 3, .ro, 0, .any⟩, ⟨1, 1, .ro, 0, .any⟩, ⟨0, 1, .ro, 0, .any⟩, ⟨13, 3, .ro, 0, .any⟩, ⟨10, 3, .ro, 0, .any⟩, ⟨9, 1, .ro, 0, .any⟩, ⟨8, 1, .ro, 0, .any⟩, ⟨21, 3, .ro, 0, .any⟩, ⟨18, 3, .ro, 0, .any⟩, ⟨17, 1, .ro, 0, .any⟩, ⟨16, 1, .ro, 0, .any⟩]⟩,
  ⟨0x2C, 32, 0x10000, 1, 0x10000, 1, [⟨24, 8, .ro, 0, .any⟩, ⟨16, 8, .ro, 0, .any⟩, ⟨8, 8, .ro, 0, .any⟩, ⟨0, 8, .ro, 0, .any⟩]⟩,
  ⟨0x30, 32, 0x10000, 1, 0x10000, 1, [⟨8, 6, .ro, 0, .any⟩, ⟨3, 1, .ro, 0, .any⟩, ⟨2, 1, .ro, 0, .any⟩, ⟨1, 1, .ro, 0, .any⟩, ⟨0, 1, .ro, 0, .any⟩]⟩,
  ⟨0x34, 32, 0x4, 2, 0x10000, 1, [⟨0, 32, .ro, 0xFFFFFFFF, .any⟩]⟩,
  ⟨0x40, 64, 0x8, 2, 0x10000, 1, [⟨0, 64, .ro, 0, .any⟩]⟩,
  ⟨0x60, 64, 0x8, 4, 0x10000, 1, [⟨0, 64, .ro, 0, .any⟩]⟩,
  ⟨0x80, 64, 0x10000, 1, 0x10000, 1, [⟨0, 64, .ro, 0, .any⟩]⟩]

/-- The registers of the SC block, by offset. -/
def regsSC : List RegDesc := [
  ⟨0x0, 32, 0x10000, 1, 0x10000, 1, [⟨0, 1, .wo, 0, .any⟩]⟩,
  ⟨0x4, 32, 0x10000, 1, 0x10000, 1, [⟨16, 11, .rl, 0x100, .nat 64 1024⟩, ⟨0, 4, .rl, 0xF, .any⟩]⟩,
  ⟨0x8, 32, 0x10000, 1, 0x10000, 1, [⟨10, 1, .wc, 0, .any⟩, ⟨9, 1, .wc, 0, .any⟩, ⟨8, 1, .ro, 0, .any⟩, ⟨6, 2, .ro, 0, .any⟩, ⟨0, 4, .ro, 0, .any⟩]⟩,
  ⟨0xC, 32, 0x10000, 1, 0x10000, 1, [⟨8, 3, .ro, 7, .any⟩, ⟨4, 3, .ro, 7, .any⟩, ⟨0, 3, .ro, 7, .any⟩]⟩,
  ⟨0x10, 32, 0x10000, 1, 0x10000, 1, [⟨8, 16, .rl, 0x3E8, .nat 1 65535⟩, ⟨0, 8, .rl, 0xA, .nat 1 255⟩]⟩,
  ⟨0x14, 32, 0x10000, 1, 0x10000, 1, [⟨0, 24, .rl, 0xEA60, .nat 1000 16777215⟩]⟩,
  ⟨0x18, 32, 0x10000, 1, 0x10000, 1, [⟨16, 16, .rl, 0x870, .any⟩, ⟨0, 16, .rl, 0x820, .any⟩]⟩,
  ⟨0x1C, 32, 0x10000, 1, 0x10000, 1, [⟨0, 12, .rl, 0x280, .nat 16 4095⟩]⟩,
  ⟨0x20, 32, 0x10000, 1, 0x10000, 1, [⟨16, 16, .rl, 0x32, .any⟩, ⟨8, 3, .rl, 6, .any⟩, ⟨0, 3, .rl, 2, .any⟩]⟩,
  ⟨0x24, 32, 0x10000, 1, 0x10000, 1, [⟨8, 2, .ro, 2, .any⟩, ⟨6, 2, .ro, 2, .any⟩, ⟨4, 2, .ro, 2, .any⟩, ⟨2, 2, .ro, 2, .any⟩, ⟨0, 2, .ro, 2, .any⟩]⟩,
  ⟨0x28, 32, 0x10000, 1, 0x10000, 1, [⟨16, 12, .ro, 0, .any⟩, ⟨0, 12, .ro, 0x800, .any⟩]⟩,
  ⟨0x2C, 32, 0x10000, 1, 0x10000, 1, [⟨24, 8, .ro, 0, .any⟩, ⟨16, 8, .ro, 0, .any⟩, ⟨8, 8, .ro, 0, .any⟩, ⟨0, 8, .ro, 0, .any⟩]⟩,
  ⟨0x30, 32, 0x10000, 1, 0x10000, 1, [⟨0, 7, .rl, 0, .any⟩]⟩,
  ⟨0x34, 32, 0x10000, 1, 0x10000, 1, [⟨0, 14, .ro, 0, .any⟩]⟩,
  ⟨0x38, 32, 0x10000, 1, 0x10000, 1, [⟨0, 16, .rl, 0xC8, .any⟩]⟩,
  ⟨0x3C, 32, 0x10000, 1, 0x10000, 1, [⟨0, 16, .ro, 0, .any⟩]⟩,
  ⟨0x40, 64, 0x10000, 1, 0x10000, 1, [⟨0, 64, .ro, 0, .any⟩]⟩,
  ⟨0x48, 64, 0x10000, 1, 0x10000, 1, [⟨0, 64, .ro, 0, .any⟩]⟩,
  ⟨0x50, 64, 0x10000, 1, 0x10000, 1, [⟨0, 64, .ro, 0, .any⟩]⟩,
  ⟨0x58, 64, 0x10000, 1, 0x10000, 1, [⟨0, 64, .wo, 0, .any⟩]⟩,
  ⟨0x100, 32, 0x4, 256, 0x10000, 1, [⟨24, 8, .rl, 0, .any⟩, ⟨23, 1, .rl, 0, .any⟩, ⟨16, 4, .rl, 0xF, .any⟩, ⟨15, 1, .rl, 1, .any⟩, ⟨14, 1, .rl, 0, .any⟩, ⟨13, 1, .rl, 0, .any⟩, ⟨12, 1, .rl, 0, .any⟩, ⟨8, 3, .rl, 7, .any⟩, ⟨0, 7, .rl, 0, .any⟩]⟩,
  ⟨0x500, 32, 0x4, 8, 0x10000, 1, [⟨0, 32, .rw, 0, .any⟩]⟩,
  ⟨0x600, 32, 0x4, 256, 0x10000, 1, [⟨27, 1, .wc, 0, .any⟩, ⟨26, 1, .ro, 0, .any⟩, ⟨25, 1, .ro, 0, .any⟩, ⟨24, 1, .ro, 0, .any⟩, ⟨0, 12, .ro, 0, .any⟩]⟩,
  ⟨0xA00, 32, 0x4, 192, 0x10000, 1, [⟨8, 1, .rl, 0, .any⟩, ⟨0, 8, .rl, 0, .any⟩]⟩,
  ⟨0xD00, 32, 0x4, 8, 0x10000, 1, [⟨8, 1, .rl, 0, .any⟩, ⟨0, 8, .rl, 0, .any⟩]⟩,
  ⟨0xE00, 32, 0x4, 4, 0x10000, 1, [⟨0, 11, .rl, 0x100, .nat 0 1024⟩]⟩,
  ⟨0xE10, 32, 0x10000, 1, 0x10000, 1, [⟨0, 8, .ro, 0, .any⟩]⟩,
  ⟨0x1000, 64, 0x10, 1024, 0x10000, 1, [⟨0, 64, .rw, 0, .any⟩]⟩,
  ⟨0x1008, 32, 0x10, 1024, 0x10000, 1, [⟨31, 1, .rw, 0, .any⟩, ⟨30, 1, .rw, 0, .any⟩, ⟨28, 2, .rw, 0, .any⟩, ⟨24, 4, .rw, 0, .any⟩, ⟨0, 8, .rw, 0, .any⟩]⟩,
  ⟨0x100C, 32, 0x10, 1024, 0x10000, 1, [⟨0, 32, .rw, 0x3E8, .nat 1 4294967295⟩]⟩]

/-- The registers of the HQ block, by offset. -/
def regsHQ : List RegDesc := [
  ⟨0x0, 32, 0x10000, 1, 0x10000, 1, [⟨0, 1, .wo, 0, .any⟩]⟩,
  ⟨0x4, 32, 0x10000, 1, 0x10000, 1, [⟨16, 13, .ro, 0x1000, .any⟩, ⟨1, 1, .wc, 0, .any⟩, ⟨0, 1, .wc, 0, .any⟩]⟩,
  ⟨0x8, 32, 0x10000, 1, 0x10000, 1, [⟨0, 4, .ro, 0, .any⟩, ⟨4, 4, .ro, 0, .any⟩, ⟨8, 4, .ro, 0, .any⟩, ⟨12, 4, .ro, 0, .any⟩, ⟨16, 4, .ro, 0, .any⟩, ⟨20, 4, .ro, 0, .any⟩, ⟨24, 4, .ro, 0, .any⟩, ⟨28, 4, .ro, 0, .any⟩]⟩,
  ⟨0x100, 32, 0x4, 8, 0x10000, 1, [⟨21, 1, .rl, 0, .any⟩, ⟨20, 1, .rl, 0, .any⟩, ⟨16, 2, .rl, 0, .any⟩, ⟨0, 13, .rl, 0, .nat 0 4096⟩]⟩,
  ⟨0x120, 32, 0x4, 8, 0x10000, 1, [⟨16, 13, .rl, 0, .any⟩, ⟨0, 13, .rl, 0, .any⟩]⟩,
  ⟨0x140, 32, 0x4, 8, 0x10000, 1, [⟨31, 1, .wc, 0, .any⟩, ⟨30, 1, .ro, 0, .any⟩, ⟨29, 1, .ro, 0, .any⟩, ⟨16, 13, .ro, 0, .any⟩, ⟨0, 13, .ro, 0, .any⟩]⟩,
  ⟨0x180, 32, 0x4, 8, 0x10000, 1, [⟨0, 13, .ro, 0, .any⟩]⟩,
  ⟨0x1A0, 32, 0x4, 8, 0x10000, 1, [⟨0, 13, .ro, 0, .any⟩]⟩,
  ⟨0x200, 64, 0x8, 8, 0x10000, 1, [⟨0, 64, .ro, 0, .any⟩]⟩,
  ⟨0x1000, 64, 0x40, 8, 0x8, 7, [⟨0, 64, .wo, 0, .any⟩]⟩,
  ⟨0x1038, 32, 0x40, 8, 0x10000, 1, [⟨8, 3, .wo, 0, .any⟩, ⟨0, 6, .wo, 0, .any⟩]⟩]

/-- The registers of the HP block, by offset. -/
def regsHP : List RegDesc := [
  ⟨0x0, 32, 0x10000, 1, 0x10000, 1, [⟨2, 1, .wo, 0, .any⟩, ⟨1, 1, .wo, 0, .any⟩, ⟨0, 1, .wo, 0, .any⟩]⟩,
  ⟨0x4, 32, 0x10000, 1, 0x10000, 1, [⟨8, 3, .rl, 0, .any⟩, ⟨2, 1, .rl, 0, .any⟩, ⟨1, 1, .rl, 0, .any⟩, ⟨0, 1, .rl, 0, .any⟩]⟩,
  ⟨0x8, 32, 0x10000, 1, 0x10000, 1, [⟨8, 1, .ro, 0, .any⟩, ⟨7, 1, .ro, 0, .any⟩, ⟨6, 1, .ro, 0, .any⟩, ⟨5, 1, .ro, 0, .any⟩, ⟨4, 1, .wc, 0, .any⟩, ⟨0, 4, .ro, 0, .any⟩]⟩,
  ⟨0xC, 32, 0x10000, 1, 0x10000, 1, [⟨24, 8, .ro, 0, .any⟩, ⟨16, 8, .ro, 0, .any⟩, ⟨0, 16, .ro, 0, .any⟩]⟩,
  ⟨0x10, 32, 0x10000, 1, 0x10000, 1, [⟨0, 16, .rl, 0, .any⟩]⟩,
  ⟨0x40, 64, 0x10000, 1, 0x10000, 1, [⟨0, 64, .rw, 0, .any⟩]⟩]

/-- The registers of the TT block, by offset. -/
def regsTT : List RegDesc := [
  ⟨0x0, 32, 0x10000, 1, 0x10000, 1, [⟨4, 4, .wo, 0, .any⟩, ⟨0, 1, .wo, 0, .any⟩]⟩,
  ⟨0x4, 32, 0x10000, 1, 0x10000, 1, [⟨24, 4, .rl, 0, .any⟩, ⟨16, 7, .rl, 0xA, .nat 2 40⟩, ⟨8, 8, .rl, 0, .any⟩, ⟨1, 1, .rl, 0, .any⟩, ⟨0, 1, .rl, 0, .any⟩]⟩,
  ⟨0x8, 32, 0x10000, 1, 0x10000, 1, [⟨14, 1, .wc, 0, .any⟩, ⟨13, 1, .wc, 0, .any⟩, ⟨12, 1, .wc, 0, .any⟩, ⟨11, 1, .wc, 0, .any⟩, ⟨8, 2, .ro, 3, .any⟩, ⟨4, 2, .ro, 2, .any⟩, ⟨0, 3, .ro, 0, .any⟩]⟩,
  ⟨0xC, 32, 0x10000, 1, 0x10000, 1, [⟨16, 16, .rl, 0xC8, .nat 10 65535⟩, ⟨12, 4, .rl, 2, .nat 1 15⟩, ⟨8, 4, .rl, 8, .nat 1 15⟩, ⟨0, 2, .rl, 0, .any⟩]⟩,
  ⟨0x10, 32, 0x10000, 1, 0x10000, 1, [⟨8, 8, .rl, 0x40, .nat 1 255⟩, ⟨0, 8, .rl, 0x80, .nat 1 255⟩]⟩,
  ⟨0x14, 32, 0x10000, 1, 0x10000, 1, [⟨16, 5, .ro, 0, .any⟩, ⟨0, 16, .ro, 0, .any⟩]⟩,
  ⟨0x18, 32, 0x10000, 1, 0x10000, 1, [⟨0, 32, .ro, 0, .any⟩]⟩,
  ⟨0x1C, 32, 0x10000, 1, 0x10000, 1, [⟨0, 32, .ro, 0, .any⟩]⟩,
  ⟨0x20, 32, 0x10000, 1, 0x10000, 1, [⟨24, 8, .ro, 0, .any⟩, ⟨16, 8, .ro, 0, .any⟩, ⟨8, 8, .ro, 0, .any⟩, ⟨0, 8, .ro, 0, .any⟩]⟩,
  ⟨0x24, 32, 0x10000, 1, 0x10000, 1, [⟨0, 8, .ro, 0, .any⟩]⟩,
  ⟨0x30, 32, 0x4, 4, 0x10000, 1, [⟨0, 16, .rl, 0, .any⟩]⟩,
  ⟨0x40, 32, 0x4, 4, 0x10000, 1, [⟨1, 3, .rl, 0, .oneOf [0, 1, 2, 4, 5]⟩, ⟨0, 1, .rl, 0, .any⟩]⟩,
  ⟨0x50, 32, 0x4, 4, 0x10000, 1, [⟨24, 8, .ro, 0, .any⟩, ⟨16, 5, .ro, 0, .any⟩, ⟨8, 3, .ro, 0, .any⟩, ⟨2, 1, .wc, 0, .any⟩, ⟨1, 1, .ro, 0, .any⟩, ⟨0, 1, .ro, 0, .any⟩]⟩,
  ⟨0x60, 32, 0x4, 4, 0x10000, 1, [⟨24, 5, .ro, 0, .any⟩, ⟨0, 16, .ro, 0, .any⟩]⟩,
  ⟨0x70, 32, 0x10000, 1, 0x10000, 1, [⟨16, 8, .rl, 0x40, .nat 2 255⟩, ⟨8, 8, .rl, 0x20, .nat 1 64⟩, ⟨0, 8, .rl, 0, .any⟩]⟩,
  ⟨0x80, 32, 0x10000, 1, 0x10000, 1, [⟨16, 9, .wo, 0, .any⟩, ⟨0, 5, .wo, 0, .any⟩]⟩,
  ⟨0x84, 32, 0x10000, 1, 0x10000, 1, [⟨0, 32, .ro, 0, .any⟩]⟩,
  ⟨0x100, 32, 0x4, 32, 0x10000, 1, [⟨16, 16, .ro, 0, .any⟩, ⟨13, 1, .ro, 0, .any⟩, ⟨12, 1, .ro, 0, .any⟩, ⟨8, 4, .ro, 0, .any⟩, ⟨0, 8, .ro, 0xFF, .any⟩]⟩,
  ⟨0x200, 32, 0x8, 32, 0x10000, 1, [⟨28, 2, .rl, 0, .any⟩, ⟨16, 9, .rl, 0, .nat 0 256⟩, ⟨0, 16, .rl, 0, .nat 0 49199⟩]⟩,
  ⟨0x204, 32, 0x8, 32, 0x10000, 1, [⟨23, 1, .rl, 0, .any⟩, ⟨20, 3, .rl, 0, .any⟩, ⟨19, 1, .rl, 0, .any⟩, ⟨16, 3, .rl, 0, .any⟩, ⟨12, 4, .rl, 0, .any⟩, ⟨8, 4, .rl, 0, .any⟩, ⟨0, 8, .rl, 0, .any⟩]⟩,
  ⟨0x300, 32, 0x4, 64, 0x10000, 1, [⟨16, 16, .ro, 0, .any⟩, ⟨14, 1, .ro, 0, .any⟩, ⟨12, 2, .ro, 0, .any⟩, ⟨8, 2, .ro, 0, .any⟩, ⟨0, 8, .ro, 0, .any⟩]⟩,
  ⟨0x400, 64, 0x10000, 1, 0x10000, 1, [⟨0, 64, .ro, 0, .any⟩]⟩,
  ⟨0x408, 64, 0x10000, 1, 0x10000, 1, [⟨0, 64, .ro, 0, .any⟩]⟩]

/-- The registers of the CN block, by offset. -/
def regsCN : List RegDesc := [
  ⟨0x0, 32, 0x10000, 1, 0x10000, 1, [⟨1, 1, .wo, 0, .any⟩, ⟨0, 1, .wo, 0, .any⟩]⟩,
  ⟨0x4, 32, 0x10000, 1, 0x10000, 1, [⟨5, 1, .rl, 0, .any⟩, ⟨4, 1, .rl, 0, .any⟩, ⟨3, 1, .rl, 1, .any⟩, ⟨2, 1, .rl, 0, .any⟩, ⟨1, 1, .rl, 0, .any⟩, ⟨0, 1, .rl, 0, .any⟩]⟩,
  ⟨0x8, 32, 0x10000, 1, 0x10000, 1, [⟨25, 7, .rl, 3, .any⟩, ⟨17, 8, .rl, 0xF, .nat 2 255⟩, ⟨10, 7, .rl, 3, .nat 1 127⟩, ⟨0, 5, .rl, 9, .any⟩]⟩,
  ⟨0xC, 32, 0x10000, 1, 0x10000, 1, [⟨25, 7, .rl, 3, .nat 0 15⟩, ⟨17, 8, .rl, 0xF, .nat 1 31⟩, ⟨10, 7, .rl, 4, .nat 1 15⟩, ⟨0, 5, .rl, 0, .any⟩]⟩,
  ⟨0x10, 32, 0x10000, 1, 0x10000, 1, [⟨0, 7, .rl, 0x10, .any⟩]⟩,
  ⟨0x14, 32, 0x10000, 1, 0x10000, 1, [⟨24, 8, .ro, 0, .any⟩, ⟨16, 8, .ro, 0, .any⟩, ⟨8, 3, .ro, 0, .any⟩, ⟨2, 1, .ro, 0, .any⟩, ⟨1, 1, .ro, 0, .any⟩, ⟨0, 1, .ro, 0, .any⟩]⟩,
  ⟨0x18, 32, 0x10000, 1, 0x10000, 1, [⟨16, 8, .ro, 0, .any⟩, ⟨8, 8, .ro, 0, .any⟩, ⟨0, 8, .ro, 0, .any⟩]⟩,
  ⟨0x1C, 32, 0x10000, 1, 0x10000, 1, [⟨0, 8, .wo, 0, .any⟩]⟩,
  ⟨0x20, 32, 0x10000, 1, 0x10000, 1, [⟨8, 8, .ro, 0, .any⟩, ⟨0, 8, .ro, 0, .any⟩]⟩,
  ⟨0x100, 32, 0x4, 8, 0x10000, 1, [⟨0, 32, .rw, 0, .any⟩]⟩,
  ⟨0x120, 32, 0x4, 8, 0x10000, 1, [⟨4, 1, .rw, 0, .any⟩, ⟨0, 4, .rw, 0, .any⟩]⟩,
  ⟨0x200, 32, 0x4, 32, 0x10000, 1, [⟨29, 1, .rl, 0, .any⟩, ⟨0, 29, .rl, 0, .any⟩]⟩,
  ⟨0x280, 32, 0x4, 32, 0x10000, 1, [⟨29, 1, .rl, 0, .any⟩, ⟨0, 29, .rl, 0, .any⟩]⟩,
  ⟨0x300, 32, 0x4, 32, 0x10000, 1, [⟨8, 1, .rl, 0, .any⟩, ⟨4, 3, .rl, 0, .any⟩, ⟨0, 3, .rl, 0, .any⟩]⟩]

/-- The registers of the ST block, by offset. -/
def regsST : List RegDesc := [
  ⟨0x0, 32, 0x10000, 1, 0x10000, 1, [⟨3, 1, .wo, 0, .any⟩, ⟨2, 1, .wo, 0, .any⟩, ⟨1, 1, .wo, 0, .any⟩, ⟨0, 1, .wo, 0, .any⟩]⟩,
  ⟨0x4, 32, 0x10000, 1, 0x10000, 1, [⟨8, 5, .rl, 0x19, .nat 5 25⟩, ⟨0, 5, .rl, 0x19, .nat 5 25⟩]⟩,
  ⟨0x8, 32, 0x10000, 1, 0x10000, 1, [⟨8, 4, .ro, 0, .any⟩, ⟨5, 1, .ro, 0, .any⟩, ⟨4, 1, .ro, 0, .any⟩, ⟨3, 1, .ro, 0, .any⟩, ⟨2, 1, .ro, 0, .any⟩, ⟨1, 1, .ro, 0, .any⟩]⟩,
  ⟨0xC, 32, 0x10000, 1, 0x10000, 1, [⟨16, 5, .wo, 0, .any⟩, ⟨0, 16, .wo, 0, .any⟩]⟩,
  ⟨0x10, 32, 0x10000, 1, 0x10000, 1, [⟨29, 3, .ro, 0, .any⟩, ⟨24, 5, .ro, 0, .any⟩, ⟨14, 10, .ro, 0, .any⟩, ⟨0, 14, .ro, 0, .any⟩]⟩,
  ⟨0x14, 32, 0x10000, 1, 0x10000, 1, [⟨0, 18, .ro, 0, .any⟩]⟩,
  ⟨0x18, 32, 0x10000, 1, 0x10000, 1, [⟨0, 18, .ro, 0, .any⟩]⟩,
  ⟨0x1C, 32, 0x10000, 1, 0x10000, 1, [⟨0, 18, .wc, 0, .any⟩]⟩,
  ⟨0x20, 32, 0x10000, 1, 0x10000, 1, [⟨0, 32, .ro, 0, .any⟩]⟩,
  ⟨0x24, 32, 0x10000, 1, 0x10000, 1, [⟨24, 8, .ro, 0, .any⟩, ⟨16, 8, .ro, 0, .any⟩, ⟨8, 8, .ro, 0, .any⟩, ⟨0, 8, .ro, 0, .any⟩]⟩,
  ⟨0x400, 64, 0x8, 64, 0x10000, 1, [⟨56, 8, .rw, 0, .any⟩, ⟨52, 4, .rw, 0, .any⟩, ⟨40, 8, .rw, 0, .any⟩, ⟨24, 16, .rw, 0, .any⟩, ⟨0, 24, .rw, 0, .any⟩]⟩]

/-- The registers of the LC block, by offset. -/
def regsLC : List RegDesc := [
  ⟨0x0, 32, 0x10000, 1, 0x10000, 1, [⟨4, 1, .wo, 0, .any⟩, ⟨1, 3, .wo, 0, .any⟩, ⟨0, 1, .wo, 0, .any⟩]⟩,
  ⟨0x4, 32, 0x10000, 1, 0x10000, 1, [⟨8, 4, .ro, 0, .any⟩, ⟨4, 1, .ro, 0, .any⟩, ⟨3, 1, .ro, 0, .any⟩, ⟨0, 3, .ro, 0, .any⟩]⟩,
  ⟨0x8, 32, 0x10000, 1, 0x10000, 1, [⟨15, 1, .ro, 0, .any⟩, ⟨14, 1, .ro, 0, .any⟩, ⟨13, 1, .ro, 0, .any⟩, ⟨12, 1, .ro, 0, .any⟩, ⟨11, 1, .ro, 0, .any⟩, ⟨10, 1, .ro, 0, .any⟩, ⟨9, 1, .ro, 0, .any⟩, ⟨8, 1, .ro, 0, .any⟩, ⟨7, 1, .ro, 0, .any⟩, ⟨6, 1, .ro, 0, .any⟩, ⟨5, 1, .ro, 0, .any⟩, ⟨4, 1, .ro, 0, .any⟩, ⟨3, 1, .ro, 0, .any⟩, ⟨2, 1, .ro, 0, .any⟩, ⟨1, 1, .ro, 0, .any⟩, ⟨0, 1, .ro, 0, .any⟩]⟩,
  ⟨0xC, 32, 0x10000, 1, 0x10000, 1, [⟨0, 32, .ro, 0, .any⟩]⟩,
  ⟨0x10, 64, 0x10000, 1, 0x10000, 1, [⟨0, 64, .ro, 0, .any⟩]⟩,
  ⟨0x100, 64, 0x20, 4, 0x8, 4, [⟨0, 64, .ro, 0, .any⟩]⟩]

/-- The registers of the SF block, by offset. -/
def regsSF : List RegDesc := [
  ⟨0x0, 32, 0x10000, 1, 0x10000, 1, [⟨0, 2, .wo, 0, .any⟩]⟩,
  ⟨0x4, 32, 0x4, 2, 0x10000, 1, [⟨2, 1, .rl, 1, .any⟩, ⟨1, 1, .rl, 1, .any⟩, ⟨0, 1, .rl, 0, .any⟩]⟩,
  ⟨0xC, 32, 0x10000, 1, 0x10000, 1, [⟨6, 2, .rl, 0, .nat 0 2⟩, ⟨4, 2, .rl, 0, .nat 0 2⟩, ⟨2, 2, .rl, 0, .nat 0 2⟩, ⟨0, 2, .rl, 0, .nat 0 2⟩]⟩,
  ⟨0x10, 32, 0x10000, 1, 0x10000, 1, [⟨5, 1, .ro, 0, .any⟩, ⟨4, 1, .wc, 0, .any⟩, ⟨3, 1, .wc, 0, .any⟩, ⟨2, 1, .ro, 0, .any⟩, ⟨1, 1, .ro, 0, .any⟩, ⟨0, 1, .ro, 0, .any⟩, ⟨13, 1, .ro, 0, .any⟩, ⟨12, 1, .wc, 0, .any⟩, ⟨11, 1, .wc, 0, .any⟩, ⟨10, 1, .ro, 0, .any⟩, ⟨9, 1, .ro, 0, .any⟩, ⟨8, 1, .ro, 0, .any⟩]⟩,
  ⟨0x14, 32, 0x4, 2, 0x10000, 1, [⟨16, 16, .ro, 0, .any⟩, ⟨0, 16, .ro, 0, .any⟩]⟩,
  ⟨0x1C, 32, 0x10000, 1, 0x10000, 1, [⟨8, 1, .ro, 0, .any⟩, ⟨7, 1, .ro, 0, .any⟩, ⟨4, 3, .ro, 0, .any⟩, ⟨0, 2, .ro, 0, .any⟩]⟩,
  ⟨0x100, 32, 0x4, 4, 0x10000, 1, [⟨24, 8, .rl, 0xA, .nat 1 255⟩, ⟨16, 8, .rl, 5, .any⟩, ⟨5, 2, .rl, 0, .nat 0 2⟩, ⟨2, 1, .rl, 0, .any⟩, ⟨1, 1, .rl, 1, .any⟩, ⟨0, 1, .rl, 0, .any⟩]⟩,
  ⟨0x110, 32, 0x10000, 1, 0x10000, 1, [⟨7, 1, .ro, 0, .any⟩, ⟨6, 1, .wc, 0, .any⟩, ⟨5, 1, .ro, 0, .any⟩, ⟨4, 1, .ro, 0, .any⟩, ⟨3, 1, .ro, 0, .any⟩, ⟨2, 1, .ro, 0, .any⟩, ⟨1, 1, .ro, 0, .any⟩, ⟨0, 1, .ro, 0, .any⟩, ⟨15, 1, .ro, 0, .any⟩, ⟨14, 1, .wc, 0, .any⟩, ⟨13, 1, .ro, 0, .any⟩, ⟨12, 1, .ro, 0, .any⟩, ⟨11, 1, .ro, 0, .any⟩, ⟨10, 1, .ro, 0, .any⟩, ⟨9, 1, .ro, 0, .any⟩, ⟨8, 1, .ro, 0, .any⟩, ⟨23, 1, .ro, 0, .any⟩, ⟨22, 1, .wc, 0, .any⟩, ⟨21, 1, .ro, 0, .any⟩, ⟨20, 1, .ro, 0, .any⟩, ⟨19, 1, .ro, 0, .any⟩, ⟨18, 1, .ro, 0, .any⟩, ⟨17, 1, .ro, 0, .any⟩, ⟨16, 1, .ro, 0, .any⟩, ⟨31, 1, .ro, 0, .any⟩, ⟨30, 1, .wc, 0, .any⟩, ⟨29, 1, .ro, 0, .any⟩, ⟨28, 1, .ro, 0, .any⟩, ⟨27, 1, .ro, 0, .any⟩, ⟨26, 1, .ro, 0, .any⟩, ⟨25, 1, .ro, 0, .any⟩, ⟨24, 1, .ro, 0, .any⟩]⟩,
  ⟨0x114, 32, 0x10000, 1, 0x10000, 1, [⟨8, 4, .wo, 0, .any⟩, ⟨0, 4, .wo, 0, .any⟩]⟩,
  ⟨0x120, 32, 0x10000, 1, 0x10000, 1, [⟨0, 2, .rl, 2, .nat 1 3⟩]⟩,
  ⟨0x124, 32, 0x10000, 1, 0x10000, 1, [⟨16, 1, .wc, 0, .any⟩, ⟨15, 1, .ro, 0, .any⟩, ⟨14, 1, .ro, 0, .any⟩, ⟨11, 1, .wc, 0, .any⟩, ⟨10, 1, .wc, 0, .any⟩, ⟨9, 1, .wc, 0, .any⟩, ⟨8, 1, .wc, 0, .any⟩, ⟨4, 1, .ro, 0, .any⟩, ⟨3, 1, .ro, 0, .any⟩, ⟨2, 1, .ro, 0, .any⟩, ⟨1, 1, .ro, 0, .any⟩, ⟨0, 1, .ro, 0, .any⟩]⟩,
  ⟨0x128, 32, 0x10000, 1, 0x10000, 1, [⟨7, 1, .ro, 0, .any⟩, ⟨6, 1, .ro, 0, .any⟩, ⟨0, 6, .ro, 0, .any⟩, ⟨15, 1, .ro, 0, .any⟩, ⟨14, 1, .ro, 0, .any⟩, ⟨8, 6, .ro, 0, .any⟩]⟩]

/-- The registers of the DL block, by offset. -/
def regsDL : List RegDesc := [
  ⟨0x0, 32, 0x10000, 1, 0x10000, 1, [⟨1, 1, .wo, 0, .any⟩, ⟨0, 1, .wo, 0, .any⟩]⟩,
  ⟨0x4, 32, 0x10000, 1, 0x10000, 1, [⟨1, 2, .rl, 0, .nat 0 2⟩, ⟨0, 1, .rl, 0, .any⟩]⟩,
  ⟨0x8, 32, 0x10000, 1, 0x10000, 1, [⟨16, 10, .rl, 0, .zeroOr 80 640⟩, ⟨0, 10, .rl, 0, .zeroOr 80 640⟩]⟩,
  ⟨0xC, 32, 0x10000, 1, 0x10000, 1, [⟨0, 6, .rl, 0xA, .nat 5 50⟩]⟩,
  ⟨0x10, 32, 0x10000, 1, 0x10000, 1, [⟨0, 10, .rl, 0x64, .nat 10 1000⟩]⟩,
  ⟨0x14, 32, 0x10000, 1, 0x10000, 1, [⟨0, 16, .rw, 0x8000, .nat 0 32768⟩]⟩,
  ⟨0x18, 32, 0x10000, 1, 0x10000, 1, [⟨0, 16, .rl, 0, .nat 0 32768⟩]⟩,
  ⟨0x1C, 32, 0x10000, 1, 0x10000, 1, [⟨16, 16, .rl, 0, .any⟩, ⟨0, 16, .rl, 0, .any⟩]⟩,
  ⟨0x20, 32, 0x10000, 1, 0x10000, 1, [⟨7, 1, .ro, 0, .any⟩, ⟨6, 1, .wc, 0, .any⟩, ⟨5, 1, .wc, 0, .any⟩, ⟨4, 1, .wc, 0, .any⟩, ⟨3, 1, .ro, 0, .any⟩, ⟨2, 1, .ro, 0, .any⟩, ⟨1, 1, .ro, 0, .any⟩, ⟨0, 1, .ro, 0, .any⟩]⟩,
  ⟨0x24, 32, 0x10000, 1, 0x10000, 1, [⟨16, 8, .ro, 0, .any⟩, ⟨8, 8, .ro, 0, .any⟩, ⟨0, 8, .ro, 0, .any⟩]⟩]

/-- The registers of the LE block, by offset. -/
def regsLE : List RegDesc := [
  ⟨0x0, 32, 0x10000, 1, 0x10000, 1, [⟨3, 1, .wo, 0, .any⟩, ⟨2, 1, .wo, 0, .any⟩, ⟨1, 1, .wo, 0, .any⟩, ⟨0, 1, .wo, 0, .any⟩]⟩,
  ⟨0x4, 32, 0x10000, 1, 0x10000, 1, [⟨16, 1, .ow, 0, .any⟩, ⟨15, 1, .ow, 0, .any⟩, ⟨14, 1, .ow, 1, .any⟩, ⟨13, 1, .ow, 0, .any⟩, ⟨12, 1, .ow, 0, .any⟩, ⟨8, 3, .ow, 2, .nat 0 5⟩, ⟨4, 3, .ow, 2, .nat 0 5⟩, ⟨0, 2, .ow, 0, .nat 0 2⟩]⟩,
  ⟨0x8, 32, 0x10000, 1, 0x10000, 1, [⟨19, 1, .wc, 0, .any⟩, ⟨18, 1, .wc, 0, .any⟩, ⟨17, 1, .wc, 0, .any⟩, ⟨16, 1, .wc, 0, .any⟩, ⟨12, 1, .ro, 0, .any⟩, ⟨11, 1, .ro, 0, .any⟩, ⟨10, 1, .ro, 0, .any⟩, ⟨9, 1, .ro, 0, .any⟩, ⟨8, 1, .ro, 0, .any⟩, ⟨3, 1, .ro, 1, .any⟩, ⟨2, 1, .ro, 0, .any⟩, ⟨0, 2, .ro, 0, .any⟩]⟩,
  ⟨0xC, 32, 0x10000, 1, 0x10000, 1, [⟨24, 8, .ro, 0, .any⟩, ⟨16, 8, .ro, 0, .any⟩, ⟨8, 8, .ro, 0, .any⟩, ⟨0, 8, .ro, 0, .any⟩]⟩,
  ⟨0x10, 32, 0x10000, 1, 0x10000, 1, [⟨16, 2, .ro, 0, .any⟩, ⟨0, 16, .ro, 0, .any⟩]⟩,
  ⟨0x14, 32, 0x10000, 1, 0x10000, 1, [⟨24, 8, .ro, 0, .any⟩, ⟨16, 8, .ro, 0, .any⟩, ⟨8, 8, .ro, 0, .any⟩, ⟨0, 8, .ro, 0, .any⟩]⟩,
  ⟨0x18, 32, 0x10000, 1, 0x10000, 1, [⟨0, 20, .rl, 0x7D0, .nat 10 100000⟩]⟩,
  ⟨0x1C, 32, 0x10000, 1, 0x10000, 1, [⟨0, 20, .ro, 0, .any⟩]⟩,
  ⟨0x20, 64, 0x10000, 1, 0x10000, 1, [⟨0, 64, .ow, 0, .any⟩]⟩,
  ⟨0x28, 64, 0x10000, 1, 0x10000, 1, [⟨0, 64, .ow, 0, .q 0x0 0x3E80000000000⟩]⟩,
  ⟨0x30, 64, 0x10000, 1, 0x10000, 1, [⟨0, 64, .ow, 0, .q 0x0 0xF42400000000000⟩]⟩,
  ⟨0x38, 64, 0x10000, 1, 0x10000, 1, [⟨0, 64, .ow, 0, .q 0x0 0x3E80000000000⟩]⟩,
  ⟨0x40, 64, 0x10000, 1, 0x10000, 1, [⟨0, 64, .ow, 0, .q 0x0 0xF42400000000000⟩]⟩,
  ⟨0x48, 64, 0x10000, 1, 0x10000, 1, [⟨0, 64, .ow, 0, .q 0x0 0x10000000000⟩]⟩,
  ⟨0x50, 64, 0x10000, 1, 0x10000, 1, [⟨0, 64, .ow, 0, .q 0x0 0x7D00000000000⟩]⟩,
  ⟨0x58, 64, 0x10000, 1, 0x10000, 1, [⟨0, 64, .ow, 0, .q 0x0 0x7D00000000000⟩]⟩,
  ⟨0x60, 64, 0x10000, 1, 0x10000, 1, [⟨0, 64, .ow, 0, .q 0 0x7FFFFFFFFFFFFFFF⟩]⟩,
  ⟨0x68, 64, 0x10000, 1, 0x10000, 1, [⟨0, 64, .ow, 0, .q 0 0x7FFFFFFFFFFFFFFF⟩]⟩,
  ⟨0x70, 64, 0x10000, 1, 0x10000, 1, [⟨0, 64, .ow, 0, .q 0 0x7FFFFFFFFFFFFFFF⟩]⟩,
  ⟨0x78, 64, 0x10000, 1, 0x10000, 1, [⟨0, 64, .ow, 0, .any⟩]⟩,
  ⟨0x80, 64, 0x10000, 1, 0x10000, 1, [⟨0, 64, .ow, 0, .q 0 0x7FFFFFFFFFFFFFFF⟩]⟩,
  ⟨0x88, 64, 0x10000, 1, 0x10000, 1, [⟨0, 64, .ow, 0, .q 0 0x7FFFFFFFFFFFFFFF⟩]⟩,
  ⟨0x90, 64, 0x10000, 1, 0x10000, 1, [⟨0, 64, .ow, 0, .q 0 0x7FFFFFFFFFFFFFFF⟩]⟩,
  ⟨0x98, 64, 0x10000, 1, 0x10000, 1, [⟨0, 64, .ow, 0, .q 0 0x7FFFFFFFFFFFFFFF⟩]⟩,
  ⟨0xA0, 64, 0x10000, 1, 0x10000, 1, [⟨0, 64, .ow, 0, .q 0x0 0x4189374B⟩]⟩,
  ⟨0xA8, 64, 0x10000, 1, 0x10000, 1, [⟨0, 64, .ow, 0, .any⟩]⟩,
  ⟨0xB0, 64, 0x10000, 1, 0x10000, 1, [⟨0, 64, .ow, 0x10000000000, .q 1 0x7FFFFFFFFFFFFFFF⟩]⟩,
  ⟨0xB8, 64, 0x10000, 1, 0x10000, 1, [⟨0, 64, .ow, 0, .any⟩]⟩,
  ⟨0xC0, 64, 0x10000, 1, 0x10000, 1, [⟨0, 64, .ow, 0, .any⟩]⟩,
  ⟨0xC8, 64, 0x10000, 1, 0x10000, 1, [⟨0, 64, .ow, 0, .any⟩]⟩,
  ⟨0x100, 64, 0x10000, 1, 0x10000, 1, [⟨0, 64, .lv, 0, .any⟩]⟩,
  ⟨0x108, 64, 0x10000, 1, 0x10000, 1, [⟨0, 64, .lv, 0, .q 0x0 0x10000000000⟩]⟩,
  ⟨0x110, 64, 0x10000, 1, 0x10000, 1, [⟨0, 64, .lv, 0x10000000000, .q 0x0 0x20000000000⟩]⟩,
  ⟨0x118, 64, 0x10000, 1, 0x10000, 1, [⟨0, 64, .lv, 0x10000000000, .q 0x0 0x18000000000⟩]⟩,
  ⟨0x140, 64, 0x10000, 1, 0x10000, 1, [⟨0, 64, .ow, 0, .any⟩]⟩,
  ⟨0x148, 64, 0x10000, 1, 0x10000, 1, [⟨0, 64, .ow, 0, .any⟩]⟩,
  ⟨0x180, 64, 0x10000, 1, 0x10000, 1, [⟨0, 64, .rl, 0, .q 0 0x7FFFFFFFFFFFFFFF⟩]⟩,
  ⟨0x188, 64, 0x10000, 1, 0x10000, 1, [⟨0, 64, .rl, 0, .q 0 0x7FFFFFFFFFFFFFFF⟩]⟩,
  ⟨0x190, 64, 0x10000, 1, 0x10000, 1, [⟨0, 64, .rl, 0, .q 0 0x7FFFFFFFFFFFFFFF⟩]⟩,
  ⟨0x198, 64, 0x10000, 1, 0x10000, 1, [⟨0, 64, .rl, 0, .q 0x0 0x10000000000⟩]⟩,
  ⟨0x1A0, 64, 0x10000, 1, 0x10000, 1, [⟨0, 64, .rl, 0, .q 0 0x7FFFFFFFFFFFFFFF⟩]⟩,
  ⟨0x200, 64, 0x10000, 1, 0x10000, 1, [⟨0, 64, .ro, 0, .any⟩]⟩,
  ⟨0x208, 64, 0x10000, 1, 0x10000, 1, [⟨0, 64, .ro, 0, .any⟩]⟩,
  ⟨0x210, 64, 0x10000, 1, 0x10000, 1, [⟨0, 64, .ro, 0, .any⟩]⟩,
  ⟨0x218, 64, 0x10000, 1, 0x10000, 1, [⟨0, 64, .ro, 0, .any⟩]⟩,
  ⟨0x220, 64, 0x10000, 1, 0x10000, 1, [⟨0, 64, .ro, 0, .any⟩]⟩,
  ⟨0x228, 64, 0x10000, 1, 0x10000, 1, [⟨0, 64, .ro, 0, .any⟩]⟩,
  ⟨0x230, 64, 0x10000, 1, 0x10000, 1, [⟨0, 64, .ro, 0, .any⟩]⟩,
  ⟨0x238, 64, 0x10000, 1, 0x10000, 1, [⟨0, 64, .ro, 0, .any⟩]⟩,
  ⟨0x240, 64, 0x10000, 1, 0x10000, 1, [⟨0, 64, .ro, 0, .any⟩]⟩,
  ⟨0x248, 64, 0x10000, 1, 0x10000, 1, [⟨0, 64, .ro, 0, .any⟩]⟩,
  ⟨0x250, 64, 0x10000, 1, 0x10000, 1, [⟨0, 64, .ro, 0, .any⟩]⟩,
  ⟨0x258, 64, 0x10000, 1, 0x10000, 1, [⟨0, 64, .ro, 0, .any⟩]⟩,
  ⟨0x260, 64, 0x10000, 1, 0x10000, 1, [⟨0, 64, .ro, 0, .any⟩]⟩,
  ⟨0x268, 64, 0x10000, 1, 0x10000, 1, [⟨0, 64, .ro, 0, .any⟩]⟩,
  ⟨0x270, 64, 0x10000, 1, 0x10000, 1, [⟨0, 64, .ro, 0, .any⟩]⟩]

/-- The registers of the MOD block, by offset. -/
def regsMOD : List RegDesc := [
  ⟨0x0, 32, 0x10000, 1, 0x10000, 1, [⟨4, 1, .wo, 0, .any⟩, ⟨3, 1, .wo, 0, .any⟩, ⟨2, 1, .wo, 0, .any⟩, ⟨1, 1, .wo, 0, .any⟩, ⟨0, 1, .wo, 0, .any⟩]⟩,
  ⟨0x4, 32, 0x10000, 1, 0x10000, 1, [⟨0, 2, .rl, 0, .nat 0 2⟩]⟩,
  ⟨0x8, 32, 0x10000, 1, 0x10000, 1, [⟨24, 8, .ro, 0, .any⟩, ⟨7, 1, .wc, 0, .any⟩, ⟨6, 1, .wc, 0, .any⟩, ⟨5, 1, .wc, 0, .any⟩, ⟨4, 1, .ro, 0, .any⟩, ⟨3, 1, .wc, 0, .any⟩, ⟨2, 1, .ro, 0, .any⟩, ⟨1, 1, .ro, 0, .any⟩, ⟨0, 1, .ro, 0, .any⟩]⟩,
  ⟨0xC, 32, 0x10000, 1, 0x10000, 1, [⟨0, 25, .rw, 0x9C400, .nat 51200 25600000⟩]⟩,
  ⟨0x10, 32, 0x10000, 1, 0x10000, 1, [⟨8, 8, .ro, 0, .any⟩, ⟨0, 8, .ro, 0, .any⟩]⟩,
  ⟨0x14, 32, 0x10000, 1, 0x10000, 1, [⟨0, 25, .ro, 0x9C400, .any⟩]⟩,
  ⟨0x18, 32, 0x10000, 1, 0x10000, 1, [⟨16, 16, .rl, 0xA00, .nat 520 65535⟩, ⟨0, 16, .rl, 0xA00, .nat 520 65535⟩]⟩,
  ⟨0x1C, 32, 0x10000, 1, 0x10000, 1, [⟨0, 15, .rl, 0, .nat 0 25600⟩]⟩,
  ⟨0x20, 32, 0x10000, 1, 0x10000, 1, [⟨0, 13, .rl, 0x258, .nat 0 5000⟩]⟩,
  ⟨0x24, 32, 0x10000, 1, 0x10000, 1, [⟨16, 16, .rl, 0, .nat 0 32768⟩, ⟨0, 16, .rl, 0, .nat 0 32768⟩]⟩,
  ⟨0x28, 32, 0x10000, 1, 0x10000, 1, [⟨0, 8, .ro, 0, .any⟩]⟩,
  ⟨0x2C, 32, 0x10000, 1, 0x10000, 1, [⟨30, 2, .ro, 0, .any⟩, ⟨0, 25, .ro, 0, .any⟩]⟩,
  ⟨0x30, 32, 0x10000, 1, 0x10000, 1, [⟨4, 3, .ro, 0, .any⟩, ⟨0, 3, .ro, 0, .any⟩]⟩,
  ⟨0x34, 32, 0x10000, 1, 0x10000, 1, [⟨16, 16, .ro, 0, .any⟩, ⟨0, 7, .ro, 0, .any⟩]⟩,
  ⟨0x38, 32, 0x10000, 1, 0x10000, 1, [⟨17, 1, .rw, 0, .any⟩, ⟨16, 1, .rw, 0, .any⟩, ⟨0, 16, .rw, 0, .nat 0 32768⟩]⟩,
  ⟨0x40, 32, 0x8, 6, 0x10000, 1, [⟨6, 19, .rw, 0, .any⟩, ⟨0, 6, .rw, 0, .any⟩]⟩,
  ⟨0x44, 32, 0x8, 6, 0x10000, 1, [⟨6, 19, .rw, 0, .any⟩, ⟨0, 6, .rw, 0, .any⟩]⟩,
  ⟨0x70, 32, 0x4, 3, 0x10000, 1, [⟨0, 32, .ro, 0, .any⟩]⟩,
  ⟨0x80, 32, 0x8, 6, 0x10000, 1, [⟨6, 19, .ro, 0, .any⟩, ⟨0, 6, .ro, 0, .any⟩]⟩,
  ⟨0x84, 32, 0x8, 6, 0x10000, 1, [⟨6, 19, .ro, 0, .any⟩, ⟨0, 6, .ro, 0, .any⟩]⟩,
  ⟨0x400, 32, 0x4, 8, 0x10000, 1, [⟨16, 9, .rl, 0, .nat 0 400⟩, ⟨2, 3, .rl, 0, .nat 0 4⟩, ⟨1, 1, .rl, 0, .any⟩, ⟨0, 1, .rl, 0, .any⟩]⟩,
  ⟨0x420, 32, 0x4, 8, 0x10000, 1, [⟨0, 7, .rl, 0, .any⟩]⟩,
  ⟨0x440, 32, 0x10000, 1, 0x10000, 1, [⟨0, 14, .rl, 0x1555, .any⟩]⟩,
  ⟨0x450, 32, 0x4, 4, 0x10000, 1, [⟨16, 12, .rl, 0, .nat 1 4095⟩, ⟨2, 3, .rl, 0, .nat 0 5⟩, ⟨1, 1, .rl, 0, .any⟩, ⟨0, 1, .rl, 0, .any⟩]⟩,
  ⟨0x460, 32, 0x10000, 1, 0x10000, 1, [⟨8, 8, .ro, 0, .any⟩, ⟨0, 8, .ro, 0, .any⟩]⟩,
  ⟨0x464, 32, 0x10000, 1, 0x10000, 1, [⟨0, 4, .ro, 0, .any⟩, ⟨4, 4, .ro, 0, .any⟩, ⟨8, 4, .ro, 0, .any⟩, ⟨12, 4, .ro, 0, .any⟩, ⟨16, 4, .ro, 0, .any⟩, ⟨20, 4, .ro, 0, .any⟩, ⟨24, 4, .ro, 0, .any⟩, ⟨28, 4, .ro, 0, .any⟩]⟩,
  ⟨0x468, 32, 0x10000, 1, 0x10000, 1, [⟨0, 8, .wo, 0, .any⟩]⟩,
  ⟨0x46C, 32, 0x10000, 1, 0x10000, 1, [⟨21, 1, .ro, 0, .any⟩, ⟨0, 21, .ro, 0, .any⟩]⟩,
  ⟨0x470, 32, 0x10000, 1, 0x10000, 1, [⟨3, 1, .ro, 0, .any⟩, ⟨0, 3, .ro, 0, .any⟩]⟩]

/-- The registers of the TQ block, by offset. -/
def regsTQ : List RegDesc := [
  ⟨0x0, 32, 0x10000, 1, 0x10000, 1, [⟨0, 1, .wo, 0, .any⟩]⟩,
  ⟨0x4, 32, 0x10000, 1, 0x10000, 1, [⟨8, 5, .ow, 1, .nat 1 31⟩, ⟨4, 1, .ow, 1, .any⟩, ⟨2, 1, .ow, 0, .any⟩, ⟨0, 2, .ow, 0, .nat 0 2⟩]⟩,
  ⟨0x8, 32, 0x10000, 1, 0x10000, 1, [⟨19, 1, .wc, 0, .any⟩, ⟨18, 1, .wc, 0, .any⟩, ⟨17, 1, .wc, 0, .any⟩, ⟨16, 1, .wc, 0, .any⟩, ⟨14, 1, .ro, 0, .any⟩, ⟨13, 1, .ro, 0, .any⟩, ⟨11, 2, .ro, 0, .any⟩, ⟨8, 3, .ro, 0, .any⟩, ⟨4, 4, .ro, 0, .any⟩, ⟨3, 1, .ro, 0, .any⟩, ⟨0, 3, .ro, 0, .any⟩]⟩,
  ⟨0xC, 32, 0x10000, 1, 0x10000, 1, [⟨16, 7, .ow, 0x40, .nat 1 125⟩, ⟨0, 8, .ow, 5, .nat 1 255⟩]⟩,
  ⟨0x10, 32, 0x10000, 1, 0x10000, 1, [⟨20, 4, .ow, 3, .nat 2 8⟩, ⟨8, 12, .ow, 0xFA, .nat 100 4095⟩, ⟨0, 8, .ow, 0x32, .nat 1 255⟩]⟩,
  ⟨0x14, 32, 0x10000, 1, 0x10000, 1, [⟨24, 8, .ro, 0, .any⟩, ⟨16, 8, .ro, 0, .any⟩, ⟨8, 8, .ro, 0, .any⟩, ⟨0, 8, .ro, 0, .any⟩]⟩,
  ⟨0x18, 32, 0x10000, 1, 0x10000, 1, [⟨16, 2, .ro, 0, .any⟩, ⟨0, 16, .ro, 0, .any⟩]⟩,
  ⟨0x1C, 32, 0x10000, 1, 0x10000, 1, [⟨24, 8, .ro, 0, .any⟩, ⟨0, 16, .ro, 0, .any⟩]⟩,
  ⟨0x40, 64, 0x10000, 1, 0x10000, 1, [⟨0, 64, .ow, 0, .q 0x0 0x640000000000⟩]⟩,
  ⟨0x48, 64, 0x10000, 1, 0x10000, 1, [⟨0, 64, .ow, 0, .q 0x0 0x10000000000⟩]⟩,
  ⟨0x50, 64, 0x10000, 1, 0x10000, 1, [⟨0, 64, .ow, 0, .q 0x0 0xA0000000000⟩]⟩,
  ⟨0x58, 64, 0x10000, 1, 0x10000, 1, [⟨0, 64, .ow, 0, .q 0x0 0xA0000000000⟩]⟩,
  ⟨0x60, 64, 0x10000, 1, 0x10000, 1, [⟨0, 64, .ow, 0, .q 0x0 0x1999999999⟩]⟩,
  ⟨0x68, 64, 0x10000, 1, 0x10000, 1, [⟨0, 64, .ow, 0, .q 0x0 0xA0000000000⟩]⟩,
  ⟨0x70, 64, 0x10000, 1, 0x10000, 1, [⟨0, 64, .ow, 0, .q 0x0 0x3E80000000000⟩]⟩,
  ⟨0x78, 64, 0x10000, 1, 0x10000, 1, [⟨0, 64, .ow, 0, .q 0x0 0xF42400000000000⟩]⟩,
  ⟨0x80, 64, 0x10000, 1, 0x10000, 1, [⟨0, 64, .ow, 0, .q 0 0x7FFFFFFFFFFFFFFF⟩]⟩,
  ⟨0x88, 64, 0x10000, 1, 0x10000, 1, [⟨0, 64, .ow, 0x4000000000, .q 0x0 0x10000000000⟩]⟩,
  ⟨0x90, 64, 0x10000, 1, 0x10000, 1, [⟨0, 64, .ow, 0x599999999A, .q 0x0 0x3243F6A8885⟩]⟩,
  ⟨0x98, 64, 0x10000, 1, 0x10000, 1, [⟨0, 64, .ow, 0, .q 0x0 0x7D00000000000⟩]⟩,
  ⟨0xA0, 64, 0x10000, 1, 0x10000, 1, [⟨0, 64, .ow, 0, .q 0x0 0x6487ED5110B⟩]⟩,
  ⟨0xA8, 64, 0x10000, 1, 0x10000, 1, [⟨0, 64, .ow, 0x199999999A, .q 0x4189374C 0x10000000000⟩]⟩,
  ⟨0xB0, 64, 0x10000, 1, 0x10000, 1, [⟨0, 64, .ow, 0, .q 0x0 0x7D00000000000⟩]⟩,
  ⟨0xB8, 64, 0x10000, 1, 0x10000, 1, [⟨0, 64, .ow, 0, .any⟩]⟩,
  ⟨0xC0, 64, 0x10000, 1, 0x10000, 1, [⟨0, 64, .ow, 0x640000000000, .q 1 0x7FFFFFFFFFFFFFFF⟩]⟩,
  ⟨0xC8, 64, 0x10000, 1, 0x10000, 1, [⟨0, 64, .ow, 0xCCCCCCCCD, .q 0x4189374C 0x10000000000⟩]⟩,
  ⟨0xD0, 64, 0x10000, 1, 0x10000, 1, [⟨0, 64, .ow, 0, .q 0x0 0x640000000000⟩]⟩,
  ⟨0xD8, 64, 0x10000, 1, 0x10000, 1, [⟨0, 64, .ow, 0, .q 0x0 0x7D00000000000⟩]⟩,
  ⟨0x100, 64, 0x10000, 1, 0x10000, 1, [⟨0, 64, .rl, 0, .q 0x0 0x7D00000000000⟩]⟩,
  ⟨0x200, 64, 0x10000, 1, 0x10000, 1, [⟨0, 64, .ro, 0, .any⟩]⟩,
  ⟨0x208, 64, 0x10000, 1, 0x10000, 1, [⟨0, 64, .ro, 0, .any⟩]⟩,
  ⟨0x210, 64, 0x10000, 1, 0x10000, 1, [⟨0, 64, .ro, 0, .any⟩]⟩,
  ⟨0x218, 64, 0x10000, 1, 0x10000, 1, [⟨0, 64, .ro, 0, .any⟩]⟩,
  ⟨0x220, 64, 0x10000, 1, 0x10000, 1, [⟨0, 64, .ro, 0, .any⟩]⟩,
  ⟨0x228, 64, 0x10000, 1, 0x10000, 1, [⟨0, 64, .ro, 0, .any⟩]⟩,
  ⟨0x230, 64, 0x10000, 1, 0x10000, 1, [⟨0, 64, .ro, 0, .any⟩]⟩]

/-- The registers of the GD block, by offset. -/
def regsGD : List RegDesc := [
  ⟨0x0, 32, 0x10000, 1, 0x10000, 1, [⟨3, 1, .wo, 0, .any⟩, ⟨2, 1, .wo, 0, .any⟩, ⟨1, 1, .wo, 0, .any⟩, ⟨0, 1, .wo, 0, .any⟩]⟩,
  ⟨0x4, 32, 0x10000, 1, 0x10000, 1, [⟨8, 1, .rl, 0, .any⟩, ⟨5, 1, .rl, 0, .any⟩, ⟨4, 1, .rl, 1, .any⟩]⟩,
  ⟨0x8, 32, 0x10000, 1, 0x10000, 1, [⟨16, 4, .ro, 0, .any⟩, ⟨11, 1, .ro, 0, .any⟩, ⟨10, 1, .wc, 0, .any⟩, ⟨9, 1, .ro, 0, .any⟩, ⟨8, 1, .ro, 0, .any⟩, ⟨7, 1, .wc, 0, .any⟩, ⟨6, 1, .wc, 0, .any⟩, ⟨5, 1, .ro, 0, .any⟩, ⟨4, 1, .ro, 0, .any⟩, ⟨2, 2, .ro, 0, .any⟩, ⟨1, 1, .ro, 0, .any⟩, ⟨0, 1, .ro, 0, .any⟩]⟩,
  ⟨0xC, 32, 0x10000, 1, 0x10000, 1, [⟨0, 15, .rl, 0, .zeroOr 500 20000⟩]⟩,
  ⟨0x10, 32, 0x10000, 1, 0x10000, 1, [⟨0, 14, .rl, 0, .zeroOr 4 8000⟩]⟩,
  ⟨0x14, 32, 0x10000, 1, 0x10000, 1, [⟨0, 14, .rl, 0, .nat 0 16383⟩]⟩,
  ⟨0x18, 32, 0x10000, 1, 0x10000, 1, [⟨0, 3, .rl, 1, .any⟩]⟩,
  ⟨0x1C, 32, 0x10000, 1, 0x10000, 1, [⟨8, 6, .wc, 0, .any⟩, ⟨0, 6, .ro, 0, .any⟩]⟩,
  ⟨0x20, 32, 0x10000, 1, 0x10000, 1, [⟨24, 8, .ro, 0, .any⟩, ⟨16, 2, .ro, 0, .any⟩, ⟨0, 16, .ro, 0, .any⟩]⟩,
  ⟨0x24, 32, 0x10000, 1, 0x10000, 1, [⟨8, 8, .ro, 0, .any⟩, ⟨0, 3, .ro, 0, .any⟩]⟩,
  ⟨0x28, 32, 0x10000, 1, 0x10000, 1, [⟨0, 16, .ro, 0, .any⟩]⟩,
  ⟨0x40, 32, 0x4, 6, 0x10000, 1, [⟨4, 3, .rl, 3, .any⟩, ⟨0, 3, .rl, 3, .any⟩]⟩]

/-- The registers of the FB block, by offset. -/
def regsFB : List RegDesc := [
  ⟨0x0, 32, 0x10000, 1, 0x10000, 1, [⟨1, 1, .wo, 0, .any⟩, ⟨0, 1, .wo, 0, .any⟩]⟩,
  ⟨0x4, 32, 0x10000, 1, 0x10000, 1, [⟨16, 8, .rl, 0xA, .nat 1 255⟩, ⟨8, 5, .rl, 1, .nat 1 31⟩, ⟨6, 1, .rl, 0, .any⟩, ⟨4, 2, .rl, 0, .any⟩, ⟨0, 2, .rl, 0, .any⟩]⟩,
  ⟨0x8, 32, 0x10000, 1, 0x10000, 1, [⟨13, 1, .ro, 0, .any⟩, ⟨12, 1, .wc, 0, .any⟩, ⟨11, 1, .ro, 0, .any⟩, ⟨10, 1, .ro, 0, .any⟩, ⟨9, 1, .ro, 0, .any⟩, ⟨8, 1, .ro, 1, .any⟩, ⟨7, 1, .ro, 0, .any⟩, ⟨6, 1, .ro, 0, .any⟩, ⟨5, 1, .ro, 0, .any⟩, ⟨4, 1, .ro, 0, .any⟩, ⟨0, 3, .ro, 0, .any⟩]⟩,
  ⟨0xC, 32, 0x10000, 1, 0x10000, 1, [⟨8, 8, .rl, 4, .nat 1 255⟩, ⟨0, 8, .rl, 1, .nat 1 255⟩]⟩,
  ⟨0x10, 32, 0x10000, 1, 0x10000, 1, [⟨16, 16, .rl, 0xC000, .nat 32769 65535⟩, ⟨0, 16, .rl, 0x4000, .nat 0 32767⟩]⟩,
  ⟨0x14, 32, 0x10000, 1, 0x10000, 1, [⟨16, 16, .rl, 0, .any⟩, ⟨0, 16, .rl, 0, .any⟩]⟩,
  ⟨0x18, 32, 0x10000, 1, 0x10000, 1, [⟨16, 16, .rl, 0, .any⟩, ⟨0, 16, .rl, 0, .any⟩]⟩,
  ⟨0x1C, 32, 0x10000, 1, 0x10000, 1, [⟨16, 16, .rl, 0, .any⟩, ⟨0, 16, .rl, 0, .any⟩]⟩,
  ⟨0x20, 32, 0x10000, 1, 0x10000, 1, [⟨16, 16, .rl, 0, .any⟩, ⟨0, 16, .rl, 0, .any⟩]⟩,
  ⟨0x24, 32, 0x10000, 1, 0x10000, 1, [⟨24, 8, .rl, 0x32, .nat 1 255⟩, ⟨0, 20, .rl, 0x7D0, .nat 100 100000⟩]⟩,
  ⟨0x28, 32, 0x10000, 1, 0x10000, 1, [⟨16, 8, .ro, 0, .any⟩, ⟨8, 8, .ro, 0, .any⟩, ⟨0, 8, .ro, 0, .any⟩]⟩,
  ⟨0x2C, 32, 0x10000, 1, 0x10000, 1, [⟨12, 3, .ro, 0, .any⟩, ⟨8, 3, .ro, 0, .any⟩, ⟨4, 3, .ro, 0, .any⟩, ⟨0, 3, .ro, 0, .any⟩]⟩,
  ⟨0x30, 32, 0x10000, 1, 0x10000, 1, [⟨16, 4, .ro, 0, .any⟩, ⟨8, 4, .ro, 0, .any⟩, ⟨0, 4, .wc, 0, .any⟩]⟩,
  ⟨0x40, 32, 0x4, 4, 0x10000, 1, [⟨4, 1, .rw, 0, .any⟩, ⟨3, 1, .rw, 0, .any⟩, ⟨1, 2, .rw, 0, .any⟩, ⟨0, 1, .rw, 0, .any⟩]⟩,
  ⟨0x80, 64, 0x10000, 1, 0x10000, 1, [⟨0, 64, .ro, 0, .any⟩]⟩,
  ⟨0x88, 64, 0x10000, 1, 0x10000, 1, [⟨0, 64, .ro, 0, .any⟩]⟩,
  ⟨0x90, 64, 0x10000, 1, 0x10000, 1, [⟨0, 64, .ro, 0, .any⟩]⟩,
  ⟨0x98, 64, 0x10000, 1, 0x10000, 1, [⟨0, 64, .ro, 0, .any⟩]⟩,
  ⟨0xA0, 64, 0x10000, 1, 0x10000, 1, [⟨0, 64, .ro, 0, .any⟩]⟩,
  ⟨0xC0, 64, 0x10000, 1, 0x10000, 1, [⟨0, 64, .ow, 0, .any⟩]⟩,
  ⟨0x100, 64, 0x8, 4, 0x10000, 1, [⟨0, 64, .rw, 0, .any⟩]⟩]

/-- The registers of the AD block, by offset. -/
def regsAD : List RegDesc := [
  ⟨0x0, 32, 0x10000, 1, 0x10000, 1, [⟨0, 1, .wo, 0, .any⟩]⟩,
  ⟨0x4, 32, 0x10000, 1, 0x10000, 1, [⟨0, 4, .rl, 0, .any⟩]⟩,
  ⟨0x8, 32, 0x10000, 1, 0x10000, 1, [⟨1, 1, .wc, 0, .any⟩, ⟨0, 1, .wc, 0, .any⟩]⟩,
  ⟨0xC, 32, 0x10000, 1, 0x10000, 1, [⟨16, 8, .ro, 0, .any⟩, ⟨8, 8, .ro, 0, .any⟩, ⟨0, 8, .ro, 0, .any⟩]⟩,
  ⟨0x10, 32, 0x4, 3, 0x10000, 1, [⟨0, 16, .rl, 0, .any⟩]⟩,
  ⟨0x20, 32, 0x4, 4, 0x10000, 1, [⟨0, 16, .ro, 0, .any⟩]⟩,
  ⟨0x40, 64, 0x8, 3, 0x10000, 1, [⟨0, 64, .rl, 0, .q 0x0 0x10000000000⟩]⟩,
  ⟨0x58, 64, 0x10000, 1, 0x10000, 1, [⟨0, 64, .rl, 0x140000000, .q 0x0 0x28F5C28F5⟩]⟩,
  ⟨0x80, 64, 0x10000, 1, 0x10000, 1, [⟨0, 64, .ro, 0, .any⟩]⟩,
  ⟨0x88, 64, 0x10000, 1, 0x10000, 1, [⟨0, 64, .ro, 0, .any⟩]⟩,
  ⟨0x90, 64, 0x10000, 1, 0x10000, 1, [⟨0, 64, .ro, 0, .any⟩]⟩,
  ⟨0x98, 64, 0x10000, 1, 0x10000, 1, [⟨0, 64, .ro, 0, .any⟩]⟩,
  ⟨0x400, 32, 0x4, 16, 0x10000, 1, [⟨0, 16, .ro, 0, .any⟩]⟩,
  ⟨0x440, 32, 0x4, 16, 0x10000, 1, [⟨16, 16, .rl, 0, .any⟩, ⟨0, 16, .rl, 0, .any⟩]⟩,
  ⟨0x480, 32, 0x10000, 1, 0x10000, 1, [⟨0, 16, .ro, 0, .any⟩]⟩]

/-- The blocks of Table 18.2 (R581). -/
inductive Blk where

  | sy
  | pd
  | ck
  | pm
  | wk
  | fc
  | pc
  | gl
  | sc
  | hq
  | hp
  | tt
  | cn
  | st
  | lc
  | sf
  | dl
  | le
  | mod
  | tq
  | gd
  | fb
  | ad
deriving DecidableEq, Repr

/-- The registers of a block. -/
def Blk.regs : Blk → List RegDesc
  | .sy => regsSY
  | .pd => regsPD
  | .ck => regsCK
  | .pm => regsPM
  | .wk => regsWK
  | .fc => regsFC
  | .pc => regsPC
  | .gl => regsGL
  | .sc => regsSC
  | .hq => regsHQ
  | .hp => regsHP
  | .tt => regsTT
  | .cn => regsCN
  | .st => regsST
  | .lc => regsLC
  | .sf => regsSF
  | .dl => regsDL
  | .le => regsLE
  | .mod => regsMOD
  | .tq => regsTQ
  | .gd => regsGD
  | .fb => regsFB
  | .ad => regsAD

/-- The block a register address lies in, the axis it belongs to (axis 0 for a lane block) and the offset in the block: Table 18.2,
with the loop-engine tables of Table 18.3 inside the LE block (R581, R582). -/
def blockOf (a : Nat) : Option (Blk × Ax × Nat) :=
  let o := a % 0x10000
  if a < 0xF00000000 then none
  else if a < 0xF00110000 then
    match (a - 0xF00000000) / 0x10000 with
    | 0 => some (.sy, .x0, o)
    | 1 => some (.pd, .x0, o)
    | 2 => some (.ck, .x0, o)
    | 3 => some (.pm, .x0, o)
    | 4 => some (.wk, .x0, o)
    | 5 => some (.fc, .x0, o)
    | 6 => some (.pc, .x0, o)
    | 7 => some (.gl, .x0, o)
    | 8 => some (.sc, .x0, o)
    | 9 => some (.hq, .x0, o)
    | 10 => some (.hp, .x0, o)
    | 11 => some (.tt, .x0, o)
    | 12 => some (.cn, .x0, o)
    | 13 => some (.st, .x0, o)
    | 14 => some (.lc, .x0, o)
    | 15 => some (.sf, .x0, o)
    | 16 => some (.dl, .x0, o)
    | _ => none
  else if a < 0xF01000000 then none
  else if a < 0xF01200000 then
    let x := if a < 0xF01100000 then Ax.x0 else Ax.x1
    let r := (a - 0xF01000000) % 0x100000
    match r / 0x10000 with
    | 0 => some (.le, x, o)
    | 1 => some (.mod, x, o)
    | 2 => some (.tq, x, o)
    | 3 => some (.gd, x, o)
    | 4 => some (.fb, x, o)
    | 5 => some (.ad, x, o)
    | _ => if 0x80000 ≤ r ∧ r < 0xB0000 then some (.le, x, r) else none
  else none

/-- The descriptor of the register at an address, if the address names one. The lane-level registers of the MOD and AD blocks lie in
the axis 0 block only (spec/03_modulator.md and spec/06_feedback.md, register sections). -/
def descOf (a : Nat) : Option RegDesc :=
  match blockOf a with
  | none => none
  | some (b, x, o) =>
    if x = .x1 ∧ (b = .mod ∨ b = .ad) ∧ 0x400 ≤ o ∧ o < 0x500 then none
    else b.regs.find? (fun d => d.has o)

/-- What a register that nothing has written since its reset holds: the resets of its table; 0 at an address that names no register. -/
@[irreducible] def resetReg (a : Nat) : BitVec 64 :=
  match descOf a with
  | none => 0#64
  | some d => BitVec.ofNat 64 d.resetVal

end Sys2Proof.Machine
end

