-- ==== Sys2Proof/Syntax.lean ====
section
/-!
DEFINITION. The commands of the block: one constructor per row of spec/opcode_table.json, and the data they carry. The rows have no
fields, so every operand is the model's own (log entry 2): the lane the command happens on, the axis or the index it concerns, and what
comes from outside the lane (a sample, a message, a frame, the level of a pin).
-/

namespace Sys2Proof

open Machine (Ax)

/-- The two Guyline ports of a lane, and its two neighbours (spec/08_leadership_guyline.md R287). -/
inductive Port where
  | next
  | prev
deriving DecidableEq, Repr

/-- A Guyline message (R291, Table 8.1): the header fields, the payload, the bytes that pad it, and the trailer of 8 bytes as a number. -/
structure GlMsg where
  type : Nat
  route : Nat
  len : Nat
  cycle : Nat
  epoch : Nat
  chunk : Nat
  chunks : Nat
  payload : List Byte
  pad : List Byte
  trailer : Nat
deriving DecidableEq, Repr

/-- An Ethernet frame on a Crelas port (spec/12_tt_network.md R417, Table 12.1): its bytes from the first after the SFD up to the FCS, and
whether the FCS checks. -/
structure CrelasFrame where
  bytes : List Byte
  fcsOk : Bool
deriving DecidableEq, Repr

/-- A CAN frame (spec/12_tt_network.md, Table 12.7): `header` has the layout of bytes 0 to 3 of the table. -/
structure CanFrame where
  header : Nat
  dlc : Nat
  esi : Bool
  rtr : Bool
  data : List Byte
deriving DecidableEq, Repr

/-- The PMBus transactions of the voltage master (spec/13_power_clocks_wake.md R467 to R471). -/
inductive PmTrans where
  | voutCommand (mv : Nat)
  | operationWrite (data : Nat)
  | clearFaults
  | statusWord
  | operationRead
  | readVout
  | readIout
deriving DecidableEq, Repr

/-- What a commit meets in its drain: the entries in which the ECC of the checkpoint store buffer finds a correctable error, the entry in
which it finds an uncorrectable one (spec/07_paired_execution.md R267), and the number of entries after which the command leaves the commit
in progress, so that an FT can be accepted there (spec/09_fault_collection.md R326). -/
structure DrainEcc where
  corrected : List Nat
  failed : Option Nat
  pause : Option Nat
deriving DecidableEq, Repr

/-- When the event that a deadline waits for arrived, as the command that judges the deadline reports it (spec/01_lanes_modes_faults.md
R13). -/
inductive Arrival where
  | before
  | inExpiry
  | never
deriving DecidableEq, Repr

/-- What the pair compare of an engine finds by the end of a period (spec/02_loop_engine.md R91 to R93): agreement, a mismatch of the output
compare, in a state write, or in a fault message or event request of the period; or one in a compared write, message or request made since
the last input latch outside its period (a load of LE_OPENOUT_x, the preset of a handover, a refused write, the end of the open
time, which then leaves nothing and is not commanded). -/
inductive Compare where
  | agree
  | output
  | stateWrite
  | message
  | between
deriving DecidableEq, Repr

/-- A register of the modulator's write stage: the period, or a rising or falling compare (spec/03_modulator.md R114). -/
inductive StageReg where
  | period
  | rise (n : Fin 6)
  | fall (n : Fin 6)
deriving DecidableEq, Repr

/-- The codes of one conversion of an axis: the three phase currents and the link voltage (spec/06_feedback.md Table 6.1). -/
structure AdcCodes where
  u : BitVec 14
  v : BitVec 14
  w : BitVec 14
  link : BitVec 14
deriving DecidableEq, Repr

/-- The codes of the three phase currents of one conversion of an axis; its link voltage comes beside them (spec/06_feedback.md Table 6.1). -/
structure PhaseCodes where
  u : BitVec 14
  v : BitVec 14
  w : BitVec 14
deriving DecidableEq, Repr

/-- A change of a trip's source (spec/03_modulator.md R129, R130): for the pins of trips 0 to 3, their new level and how many CLK_PWM cycles
they kept it; for the overcurrent trips 4 and 5, the switches that see it. -/
structure TripPulse where
  sw : BitVec 6
  high : Bool
  cyc : BitVec 12
deriving DecidableEq, Repr

/-- What can be readmitted: an own sensor group, or a neighbour source (spec/06_feedback.md R230). -/
inductive FbGroup where
  | halls
  | sinCos
  | nextNb
  | prevNb
deriving DecidableEq, Repr

/-- A register of a compare unit (spec/06_feedback.md R245). -/
inductive CmpReg where
  | value
  | config
deriving DecidableEq, Repr

/-- The LV registers of a loop engine (spec/02_loop_engine.md R83). -/
inductive LvReg where
  | setp
  | share
  | ffs
  | iqtrim
deriving DecidableEq, Repr

/-- A pulse of a Whistle frame (spec/13_power_clocks_wake.md R457): a bit, or both rails high at once. -/
inductive WhistlePulse where
  | bit (b : Bool)
  | illegal
deriving DecidableEq, Repr

/-- How a self-test slice or program step ends by itself (spec/14_self_test_lifecycle.md R492). -/
inductive SliceResult where
  | pass
  | fail
  | skip
deriving DecidableEq, Repr

/-- The memories with ECC whose reads report to the fault collector (spec/09_fault_collection.md Table 9.5, and the kinds HQ_CE and HQ_UE of
spec/11_hamper_host.md). -/
inductive EccMem where
  | tcm
  | mram
  | hamper
deriving DecidableEq, Repr

/-- A core-debug request (spec/14_self_test_lifecycle.md Table 14.1): halt, single step, resume, and accesses of `n` bytes. -/
inductive DebugOp where
  | halt
  | step
  | resume
  | read (a n : Nat)
  | write (a n : Nat) (v : Word)
deriving DecidableEq, Repr

/-- The commands, one per row of the opcode table, in the table's order; `l` is the lane the command happens on. -/
inductive Instr where
  /-- POWER_UP (R472): Power-up of the always-on domain: PM_VACK reads 750 mV, WK_STAT.TQ reads 3 and the lane is held in reset until the conditions of R530 hold. -/
  | powerUp (l : LaneId)
  /-- RESET_RELEASE (R530): The last reset condition is met and the lane enters BOOT within 50 µs, resetting every domain except AO. -/
  | resetRelease (l : LaneId) (straps : Fin 4)
  /-- NRST_ASSERT (R530): A_NRST low resets every domain except AO and drives the Lantern low. -/
  | nrstAssert (l : LaneId)
  /-- SUPPLY_OUT_OF_RANGE (R568): A_VIO, A_VANA or A_VMRAM out of range for 2 µs, or A_PGOOD falling, resets the lane as if A_NRST were low. -/
  | supplyOutOfRange (l : LaneId)
  /-- VBAT_LOW (R49): VBAT below 6 V on a lane for 1 ms sends that lane to SAFE-HOLD. -/
  | vbatLow (l : LaneId)
  /-- VBAT_BROWN_OUT (R569): VBAT below 4.5 V resets AO; the driver die holds the gates off by passive pull-downs only. -/
  | vbatBrownOut (l : LaneId)
  /-- PLL_LOCK (R531): The PLL locks, either first in BOOT or at wake; the clocks run and the next start or wake step begins. -/
  | pllLock (l : LaneId)
  /-- SWEEP_END (R485): The start-up sweep completes, sets SWDONE and records per-unit results; the image loader starts. -/
  | sweepEnd (l : LaneId) (fails : BitVec 18)
  /-- IMAGE_LOAD_END (R527): The image loader finishes trying the slots: it checks the phases, falls back and writes the final register values. -/
  | imageLoadEnd (l : LaneId) (qspi : List (Nat × List Byte))
  /-- IMAGE_LOCK (R528): At the first boundary tick after the last write, the RL registers lock, the lane enters ARMING, the core leaves reset, the carrier and Lantern start and the BOOT latches clear. -/
  | imageLock (l : LaneId)
  /-- GATE_DRIVER_CHECK_END (R546): The ARMING-entry gate-driver check of an axis completes and records pass or SF_GDCHK. -/
  | gateDriverCheckEnd (l : LaneId) (x : Ax) (comp : BitVec 6) (gate : Bool)
  /-- OUTER_CYCLE_BOUNDARY (R27): Outer-cycle boundary tick: postures are evaluated and mode transitions, profile application, SYNC sending, forwarding and thermal-model updates take effect. -/
  | outerCycleBoundary (l : LaneId) (d0 : Fin 23) (d1 : Fin 23)
  /-- ARM_TIMEOUT (R18): SY_ARMTIME expires without arming complete, and the lane enters SAFE-HOLD. -/
  | armTimeout (l : LaneId)
  /-- DEGRADED_TIME_EXPIRY (R40): The degraded time remaining reaches zero, and the lane enters SAFE-HOLD with DEG_BUDGET or WIND_THERM. -/
  | degradedTimeExpiry (l : LaneId)
  /-- DIE_TEMPERATURE_HOLD (R49): A die stays above SY_THOLD for 10 ms, and the lane enters SAFE-HOLD. -/
  | dieTemperatureHold (l : LaneId)
  /-- COMMAND_AGE_LIMIT (R49): The vehicle commands age to SY_CMDAGE on every channel, and the leader holds, ramps the torque down and announces DEGRADED. -/
  | commandAgeLimit (l : LaneId)
  /-- AUTO_RESTART (R20): At the first boundary tick after SAFE-HOLD entry, or at the end of a dump, an enabled auto-restart enters BOOT. -/
  | autoRestart (l : LaneId)
  /-- PARTITION_DECISION (R29): A partitioned lane decides at the boundary 1.25 P + 1 µs later whether to continue or to enter SAFE-HOLD with PARTITION. -/
  | partitionDecision (l : LaneId)
  /-- LE_INNER_PERIOD (R56): The input latch after the last current conversion starts the loop-engine period: the output part writes the duties and commit, then the reference part runs. -/
  | leInnerPeriod (l : LaneId) (x : Ax) (c : AdcCodes) (cmp : Compare)
  /-- LE_OPEN (R77): LE_CTL.OPEN requests OPEN at the next input latch, freezing the integrators and starting the open timer. -/
  | leOpen (l : LaneId) (x : Ax)
  /-- LE_CLOSE (R79): LE_CTL.CLOSE requests CLOSED, with a bumpless preset, or it is refused while FORCED. -/
  | leClose (l : LaneId) (x : Ax)
  /-- LE_INTCLR (R80): LE_CTL.INTCLR clears the four integrators while OPEN; otherwise it is counted in OWREJ. -/
  | leIntclr (l : LaneId) (x : Ax)
  /-- LE_CNTCLR (R77): LE_CTL.CNTCLR clears LE_REJ_x, LE_RBCNT_x.TOTAL and LE_CLAMPCNT_x. -/
  | leCntclr (l : LaneId) (x : Ax)
  /-- LE_OW_WRITE (R81): A write to an OW loop-engine register is accepted only while OPEN; otherwise it is refused and counted. -/
  | leOwWrite (l : LaneId) (x : Ax) (a : Nat) (n : Nat) (v : Word)
  /-- LE_LV_WRITE (R83): A write to LE_SHARE_x, LE_FFS_x, LE_SETP_x or LE_IQTRIM_x takes effect at the next input latch, or is ignored while SPLIT. -/
  | leLvWrite (l : LaneId) (x : Ax) (r : LvReg) (n : Nat) (v : Word)
  /-- LE_OPENMAX_EXPIRY (R77): The open timer reaches LE_OPENMAX_x without a CLOSE: LE_OPENMAX, axis safe state and FAULT. -/
  | leOpenmaxExpiry (l : LaneId) (x : Ax)
  /-- MOD_RELOAD (R116): At a valley or peak reload, the committed group transfers and the sampling mask is passed on. -/
  | modReload (l : LaneId) (x : Ax) (peak : Bool) (cmp : Compare)
  /-- MOD_WRITE_STAGE_WRITE (R114): A write to MOD_PER_x or to a compare goes to the write stage, or is refused by source or range. -/
  | modWriteStageWrite (l : LaneId) (x : Ax) (r : StageReg) (v : Word32)
  /-- MOD_COMMIT (R115): COMMIT processes the write stage through the output path into the committed stage. -/
  | modCommit (l : LaneId) (x : Ax)
  /-- MOD_DISCARD (R120): DISCARD empties the committed stage and copies the active group into the write stage. -/
  | modDiscard (l : LaneId) (x : Ax)
  /-- MOD_PASSON (R142): PASSON requests passthrough at the next valley reload. -/
  | modPasson (l : LaneId) (x : Ax)
  /-- MOD_PASSOFF (R143): PASSOFF requests the end of passthrough at the next valley reload, and wins over PASSON. -/
  | modPassoff (l : LaneId) (x : Ax)
  /-- MOD_CNTCLR (R121): MOD_CTL_x.CNTCLR clears UNPAIRED, MOD_REJ_x and MOD_CLAMPCNT_x. -/
  | modCntclr (l : LaneId) (x : Ax)
  /-- DELAY_LINE_CALIBRATION (R105): The 1 ms background replica recalibration succeeds, or fails and degrades to 2.5 ns edges. -/
  | delayLineCalibration (l : LaneId) (x : Ax) (ok : Bool) (taps : Fin 128)
  /-- TRIP_ONSET (R133): A trip input becomes active after its filter and outside blanking, and its routed group actions take effect. -/
  | tripOnset (l : LaneId) (n : Fin 8) (p : TripPulse)
  /-- TRIP_INPUT_INACTIVE (R132): A trip input goes inactive; a pulse ending within its blanking window increments MOD_BLANKCNT. -/
  | tripInputInactive (l : LaneId) (n : Fin 8)
  /-- AUX_WINDOW_START (R131): A blanking window opens or restarts when its chosen gate rises after dead time. -/
  | auxWindowStart (l : LaneId) (k : Fin 4)
  /-- AUX_WINDOW_END (R132): The blanking window ends, and a trip still active acts in that cycle. -/
  | auxWindowEnd (l : LaneId) (k : Fin 4)
  /-- MOD_TRIPCLR (R137): A write to MOD_TRIPCLR requests release of latched trips, ignored while the trip is active. -/
  | modTripclr (l : LaneId) (m : BitVec 8)
  /-- BLANKCNT_READ (R132): A read of MOD_BLANKCNT returns the counts and clears them. -/
  | blankcntRead (l : LaneId)
  /-- TQ_DECISION (R149): Each 80 ns conversion starts a decision: estimators, comparators, switching table, current ceiling, dwell and observer. -/
  | tqDecision (l : LaneId) (x : Ax) (c : PhaseCodes) (link : BitVec 14) (ext : Fin 128) (mm : Bool)
  /-- ALIGN_TIMER_EXPIRY (R169): The align timer reaches TQ_ALIGNT_x, and the axis moves from ALIGN to RAMP. -/
  | alignTimerExpiry (l : LaneId) (x : Ax)
  /-- HOLD_TIMER_EXPIRY (R169): The RAMP hold timer reaches TQ_HOLDT_x without LOCK: TQ_STARTFAIL and axis safe state. -/
  | holdTimerExpiry (l : LaneId) (x : Ax)
  /-- LOW_SPEED_TIMER_EXPIRY (R169): Observer speed below half the handover speed for TQ_HOLDT_x returns RUN to ALIGN. -/
  | lowSpeedTimerExpiry (l : LaneId) (x : Ax)
  /-- CATCH_PULSE (R175): Every PER decisions in CATCH, a V0 pulse is applied and judged; NCONS consistent pulses seed the observer. -/
  | catchPulse (l : LaneId) (x : Ax) (c : AdcCodes)
  /-- CATCH_TIMEOUT (R169): 500 µs after loss of lock without success: TQ_LOCKLOST, ASC and FAILED. -/
  | catchTimeout (l : LaneId) (x : Ax)
  /-- TQ_OW_WRITE (R177): A write to an OW TQ register is accepted only while the loop is OPEN; otherwise it is refused and counted. -/
  | tqOwWrite (l : LaneId) (x : Ax) (a : Nat) (n : Nat) (v : Word)
  /-- TQ_CNTCLR (R177): TQ_CTL_x.CNTCLR clears TQ_CNT_x and TQ_RBCNT_x.TOTAL. -/
  | tqCntclr (l : LaneId) (x : Ax)
  /-- GATE_ENABLE_REQUEST (R186): GD_CTL_x.EN requests the gate enable, or is refused by mode, ARMEN or configuration. -/
  | gateEnableRequest (l : LaneId) (x : Ax)
  /-- GATE_ENABLE_DROP (R187): GD_CTL_x.DIS drops the gate enable and wins over EN. -/
  | gateEnableDrop (l : LaneId) (x : Ax)
  /-- GD_SAFE_REQUEST (R199): GD_CTL_x.SAFE puts the axis into axis safe state with SAFEMODE. -/
  | gdSafeRequest (l : LaneId) (x : Ax)
  /-- GD_CNTCLR (R190): GD_CTL_x.CNTCLR clears GD_XCNT_x and GD_COMM_x.ILL. -/
  | gdCntclr (l : LaneId) (x : Ax)
  /-- INTERLOCK_REFUSAL (R190): A command with both gates of a leg on is refused and the leg is held off to the next valley. -/
  | interlockRefusal (l : LaneId) (x : Ax) (leg : Fin 3)
  /-- MINIMUM_GAP_DELAY (R192): An on edge within 20 ns of the partner's off edge is delayed and counted in DTCLIP. -/
  | minimumGapDelay (l : LaneId) (x : Ax)
  /-- HARD_SHORT (R196): A switch's sense current crosses its hard-short threshold: soft turn-off, leg latched, ASC by the side rule and GD_HSHORT. -/
  | hardShort (l : LaneId) (x : Ax) (gate : Fin 6)
  /-- CPUV_CHANGE (R185): High-side supply headroom crosses VG − 2 V, changing CPUV and the ASC choice. -/
  | cpuvChange (l : LaneId) (x : Ax) (mv : BitVec 16)
  /-- KEEP_ALIVE_LOSS (R205): No valid keep-alive arrives within the window: KALOSS and axis safe state on both axes. -/
  | keepAliveLoss (l : LaneId)
  /-- KEEP_ALIVE_RECEIVE (R207): A valid keep-alive arrives; after a loss without a lane reset it raises GD_KALOSS. -/
  | keepAliveReceive (l : LaneId)
  /-- OV1_ASSERT (R209): The link crosses OV1; the comparator asserts and the chopper starts. -/
  | ov1Assert (l : LaneId)
  /-- OV1_RELEASE (R209): The link falls below OV1 minus hysteresis; the comparator releases and chopping stops. -/
  | ov1Release (l : LaneId)
  /-- OV2_ASSERT (R212): The link crosses OV2; trip 6 asserts and held-off routed axes go to ASC. -/
  | ov2Assert (l : LaneId)
  /-- OV2_RELEASE (R209): The link falls below OV2 minus hysteresis and trip 6 releases. -/
  | ov2Release (l : LaneId)
  /-- CHOPPER_PERIOD (R210): A chopper period starts with an on-pulse of the clamped on-time. -/
  | chopperPeriod (l : LaneId)
  /-- CHOPPER_ON_END (R210): The chopper on-time ends and A_CHG turns off. -/
  | chopperOnEnd (l : LaneId)
  /-- CHOPPER_WATCH_EXPIRY (R211): No chopper current within 2 µs of turn-on: chopper fault, trip 7. -/
  | chopperWatchExpiry (l : LaneId) (seen : Arrival)
  /-- CHOPPER_OVERCURRENT (R211): A_CHS exceeds CHOC: chopper fault latched, trip 7. -/
  | chopperOvercurrent (l : LaneId)
  /-- DL_CHCLR (R211): DL_CTL.CHCLR releases the chopper fault latch unless OV1 is asserted. -/
  | dlChclr (l : LaneId)
  /-- DL_CNTCLR (R210): DL_CTL.CNTCLR clears DL_CNT. -/
  | dlCntclr (l : LaneId)
  /-- COMMUTATOR_HALL_CHANGE (R213): In passthrough, a hall code change selects the commutation state; an illegal code turns all gates off. -/
  | commutatorHallChange (l : LaneId) (x : Ax) (code : Fin 8)
  /-- MONITOR_CONVERSION (R225): A monitor channel converts its next source and checks its bounds. -/
  | monitorConversion (l : LaneId) (n : Fin 16) (v : BitVec 16)
  /-- AD_CNTCLR (R219): AD_CTL_x.CNTCLR clears AD_CNT_x. -/
  | adCntclr (l : LaneId) (x : Ax)
  /-- HALL_EDGE (R234): A filtered hall code changes: a legal edge updates angle, speed and position. -/
  | hallEdge (l : LaneId) (x : Ax) (code : Fin 8) (raw : Fin 8)
  /-- NEIGHBOUR_CODE (R243): A new code or valid bit arrives from a neighbour's pass-through. -/
  | neighbourCode (l : LaneId) (x : Ax) (n : Port) (code : Fin 8) (valid : Bool)
  /-- SINCOS_SAMPLE (R237): A sine and cosine result becomes available and is processed by the tracker or counted out of window. -/
  | sincosSample (l : LaneId) (x : Ax) (cs : BitVec 16) (cc : BitVec 16)
  /-- POSITION_COMPARE_TICK (R244): At each 640 ns tick, the compare units test for a crossing and fire. -/
  | positionCompareTick (l : LaneId) (x : Ax)
  /-- COMPARE_WRITE (R245): A write of FB_CMP_x_n or FB_CMPCFG_x_n evaluates BEHIND and may fire an ENDSTOP. -/
  | compareWrite (l : LaneId) (x : Ax) (n : Fin 4) (r : CmpReg) (v : Word)
  /-- FB_POSADJ_WRITE (R240): A write to FB_POSADJ_x adds to pos, re-evaluates compares and may fire ENDSTOP units. -/
  | fbPosadjWrite (l : LaneId) (x : Ax) (v : Word)
  /-- FB_FLTCLR (R230): FB_CTL_x.FLTCLR starts readmission of faulty groups and barred neighbours. -/
  | fbFltclr (l : LaneId) (x : Ax)
  /-- READMISSION (R230): After 1,024 consecutive clean ticks from FLTCLR, a group is readmitted. -/
  | readmission (l : LaneId) (x : Ax) (g : FbGroup)
  /-- FB_CNTCLR (R229): FB_CTL_x.CNTCLR clears FB_CNT_x. -/
  | fbCntclr (l : LaneId) (x : Ax)
  /-- SUPPLY_OVERCURRENT (R248): A sensor supply above 60 mA for 100 µs latches off and its groups become faulty. -/
  | supplyOvercurrent (l : LaneId) (k : Fin 2) (ma : BitVec 16)
  /-- SUPPLY_UNDERVOLTAGE (R248): A sensor supply below 90 % for 10 µs sets UV and its groups become faulty. -/
  | supplyUndervoltage (l : LaneId) (k : Fin 2) (mv : BitVec 16)
  /-- SF_SUPPLY_CLR (R248): SF_CTL.CLR releases the OCL latch of a supply, which restarts. -/
  | sfSupplyClr (l : LaneId) (k : Fin 2)
  /-- SUPPLY_PULSE_START (R250): A supply's off-pulse slot begins and the mask of its groups starts. -/
  | supplyPulseStart (l : LaneId) (slot : Fin 6)
  /-- PULSE_CHECK (R251): The supply fall and recovery checks of an own pulse are judged. -/
  | pulseCheck (l : LaneId) (k : Fin 2) (recovery : Bool) (mv : BitVec 16)
  /-- CROSS_SHORT_CHECK (R252): 15 µs into a slot, every own group is judged collapsed or not; PROVEN may set. -/
  | crossShortCheck (l : LaneId) (slot : Fin 6)
  /-- PULSE_MASK_END (R253): The 30 µs supply-pulse mask ends and the hall codes are compared with those before it. -/
  | pulseMaskEnd (l : LaneId) (k : Fin 2)
  /-- BOUNDARY_COMMIT (R263): The commit sequence at an outer-cycle boundary drains and releases the buffer and sends HEARTBEAT, COMMAND and STATECOPY. -/
  | boundaryCommit (l : LaneId) (e : DrainEcc)
  /-- INTERMEDIATE_COMMIT (R266): A store that finds the buffer full stalls and an intermediate commit is taken. -/
  | intermediateCommit (l : LaneId) (e : DrainEcc) (addr : Nat) (width : Nat) (v : Word)
  /-- PAIR_MISMATCH (R273): A flagged core mismatch rolls the pair back to the checkpoint and rewinds Hampers and scheduler. -/
  | pairMismatch (l : LaneId) (point : Fin 5) (slot : Bool) (reg : Fin 128) (addr : Word)
  /-- PC_SPLIT (R279): SPLIT released at a commit splits the pair, or is ignored. -/
  | pcSplit (l : LaneId)
  /-- PC_REJOIN (R279): REJOIN released at a commit rejoins the pair, or is ignored. -/
  | pcRejoin (l : LaneId)
  /-- PC_CNTCLR (R279): PC_CTL.CNTCLR clears the PC counters and the mismatch record. -/
  | pcCntclr (l : LaneId)
  /-- LINK_LOSS_OF_LOCK (R288): A port sees no valid block for 80 block times, loses lock and loops back. -/
  | linkLossOfLock (l : LaneId) (p : Port)
  /-- BLOCK_LOCK (R290): A retraining port regains block lock after 64 valid headers. -/
  | blockLock (l : LaneId) (p : Port)
  /-- LINK_UP (R290): After 1,024 further valid blocks the port is UP and measures its delay. -/
  | linkUp (l : LaneId) (p : Port) (ns : Byte)
  /-- MESSAGE_FORWARD (R289): A message not addressed to this lane is forwarded cut-through. -/
  | messageForward (l : LaneId) (p : Port) (m : GlMsg)
  /-- SYNC_RECEIVE (R591): A SYNC block arrives; the boundary tick moves towards the token holder's tick. -/
  | syncReceive (l : LaneId) (p : Port) (sender : LaneId) (dly : BitVec 16) (own : Fin 64)
  /-- HEARTBEAT_RECEIVE (R299): A HEARTBEAT updates liveness, mode, token holder, VRDY, proposals and the copy status. -/
  | heartbeatReceive (l : LaneId) (m : GlMsg)
  /-- HEARTBEAT_DUE (R297): A heartbeat due instant passes; a second miss declares the lane silent. -/
  | heartbeatDue (l : LaneId)
  /-- FTANN_RECEIVE (R298): An FTANN stops the receiver counting the sender. -/
  | ftannReceive (l : LaneId) (m : GlMsg)
  /-- CLAIM_RECEIVE (R300): A CLAIM sets the token holder and the epoch, and drops a lower-epoch token. -/
  | claimReceive (l : LaneId) (m : GlMsg)
  /-- ABDICATE_RECEIVE (R594): An ABDICATE ends the token holder count; the highest eligible follower claims. -/
  | abdicateReceive (l : LaneId) (m : GlMsg)
  /-- HANDOVER_RECEIVE (R302): A HANDOVER naming this eligible lane with a complete copy makes it claim. -/
  | handoverReceive (l : LaneId) (m : GlMsg)
  /-- COMMAND_RECEIVE (R306): A COMMAND updates GL_RXCMD, the announced mode, profile fields and shares. -/
  | commandReceive (l : LaneId) (m : GlMsg)
  /-- CFGHASH_RECEIVE (R305): A CFGHASH is recorded for the configuration vote. -/
  | cfghashReceive (l : LaneId) (m : GlMsg)
  /-- STATECOPY_RECEIVE (R308): A STATECOPY chunk is stored; a complete copy switches LATEST. -/
  | statecopyReceive (l : LaneId) (m : GlMsg)
  /-- ELECTION_WINDOW_END (R302): The election window ends; the vote is decided and the highest eligible lane claims. -/
  | electionWindowEnd (l : LaneId)
  /-- VOTE_TIMEOUT (R305): ELECTWIN cycles pass without the token holder's CFGHASH: vote fails, SAFE-HOLD. -/
  | voteTimeout (l : LaneId)
  /-- GL_ABDICATE (R303): GL_CTL.ABDICATE released at a commit drops the token and sets INELIG. -/
  | glAbdicate (l : LaneId)
  /-- GL_HANDGO (R304): GL_CTL.HANDGO with HANDTO hands the token to the target, or sets HANDFAIL. -/
  | glHandgo (l : LaneId) (target : Fin 4)
  /-- HANDOVER_TIMEOUT (R304): The next heartbeat due instant passes without the target's CLAIM: back to LEADER. -/
  | handoverTimeout (l : LaneId)
  /-- GL_ELIG (R303): GL_CTL.ELIG clears INELIG. -/
  | glElig (l : LaneId)
  /-- GL_INELIG (R303): GL_CTL.INELIG sets INELIG; a leader abdicates within 1 µs. -/
  | glInelig (l : LaneId)
  /-- GL_CNTCLR (R293): GL_CTL.CNTCLR clears GL_CNT and the LOSS counts. -/
  | glCntclr (l : LaneId)
  /-- FAULT_MESSAGE_ACCEPT (R319): The collector accepts one fault message, latching the first and counting the class. -/
  | faultMessageAccept (l : LaneId)
  /-- FC_REARM (R325): FC_CTL.REARM clears FIRSTV. -/
  | fcRearm (l : LaneId)
  /-- FC_CNTCLR (R324): FC_CTL.CNTCLR clears FC_CNT and FC_DROP. -/
  | fcCntclr (l : LaneId)
  /-- FC_DUMPDONE (R339): DUMPDONE ends the dump context and halts the cores. -/
  | fcDumpdone (l : LaneId)
  /-- FC_NBFREE (R344): NBFREE clears FULL of a neighbour dump slot. -/
  | fcNbfree (l : LaneId) (n : Port)
  /-- FAULT_INJECTION (R335): FC_INJCTL.GO presents FC_INJMSG with INJ set, suppressed or not. -/
  | faultInjection (l : LaneId) (suppress : Bool)
  /-- LANTERN_TOGGLE (R329): At each PER / 2, the Lantern toggles or, if stopped, falls and stays low. -/
  | lanternToggle (l : LaneId)
  /-- LANTERN_TEND (R331): A key written to FC_LANTTEND is checked for value and TMIN. -/
  | lanternTend (l : LaneId) (key : Byte)
  /-- TEND_TIMEOUT (R331): TMAX passes without a tend: tend fault FC_TEND. -/
  | tendTimeout (l : LaneId)
  /-- NEIGHBOUR_LANTERN_EDGE (R332): An edge of a neighbour's Lantern updates its watch. -/
  | neighbourLanternEdge (l : LaneId) (n : Port)
  /-- NEIGHBOUR_WATCH_TIMEOUT (R332): 3P / 4 without an edge: the watch enters STOPPED, FC_NBLANT. -/
  | neighbourWatchTimeout (l : LaneId) (n : Port)
  /-- DUMP_CONTEXT_START (R338): The pair restarts in the dump context at FC_DUMPVEC within 20 µs of acceptance. -/
  | dumpContextStart (l : LaneId)
  /-- DUMP_CONTEXT_TIMEOUT (R340): DTMAX passes without DUMPDONE; the dump engine takes over. -/
  | dumpContextTimeout (l : LaneId)
  /-- DUMP_ENGINE_START (R342): The dump engine builds the record and sends OFFER to a neighbour. -/
  | dumpEngineStart (l : LaneId)
  /-- DUMP_ANSWER_TIMEOUT (R343): No answer within 100 µs: offer the other neighbour or end the transfer. -/
  | dumpAnswerTimeout (l : LaneId)
  /-- DUMP_DATA_SEND (R342): A DATA chunk is sent at most once per 2 µs, then END. -/
  | dumpDataSend (l : LaneId)
  /-- DUMP_OFFER_RECEIVE (R344): A received OFFER is answered ACCEPT or REFUSE. -/
  | dumpOfferReceive (l : LaneId) (m : GlMsg)
  /-- DUMP_ACCEPT_RECEIVE (R343): The sender receives ACCEPT and starts sending DATA. -/
  | dumpAcceptReceive (l : LaneId) (m : GlMsg)
  /-- DUMP_REFUSE_RECEIVE (R343): The sender receives REFUSE and offers the other neighbour or ends. -/
  | dumpRefuseReceive (l : LaneId) (m : GlMsg)
  /-- DUMP_DATA_RECEIVE (R344): The receiver writes a DATA chunk to its slot. -/
  | dumpDataReceive (l : LaneId) (m : GlMsg)
  /-- DUMP_END_RECEIVE (R344): The receiver checks the record at END. -/
  | dumpEndReceive (l : LaneId) (m : GlMsg)
  /-- DUMP_STORE_COMPLETE (R344): The last MRAM write completes; the receiver sends DONE and sets FULL. -/
  | dumpStoreComplete (l : LaneId) (n : Port)
  /-- DUMP_RECEIVE_TIMEOUT (R344): A transfer stops for 100 µs before END; BAD and DE_RXFAIL. -/
  | dumpReceiveTimeout (l : LaneId) (n : Port)
  /-- DUMP_DONE_RECEIVE (R343): The sender receives DONE and records the dump result. -/
  | dumpDoneReceive (l : LaneId) (m : GlMsg)
  /-- SC_POST (R353): A write of SC_POST posts an item, or is refused for the reserve. -/
  | scPost (l : LaneId) (v : Word)
  /-- SC_ENTER (R361): A read of SC_ENTER takes the best eligible item onto a new level. -/
  | scEnter (l : LaneId)
  /-- SC_NEXT (R361): A read of SC_NEXT completes the top item and takes another or pops the level. -/
  | scNext (l : LaneId)
  /-- SC_CNTCLR (R356): SC_CTL.CNTCLR clears SC_CNT and the AGED bits. -/
  | scCntclr (l : LaneId)
  /-- FLOW_ENABLE_WRITE (R358): A write of SC_FLOWEN_k changes flow enables, never clearing a class-0 flow. -/
  | flowEnableWrite (l : LaneId) (k : Fin 8) (v : Word32)
  /-- TIMER_ARM (R364): A released SC_TMRCFG_t write arms or removes a timer. -/
  | timerArm (l : LaneId) (t : Fin 1024) (v : Word32)
  /-- TIMER_INSERTION (R365): A timer's insertion walk completes; a past expiry fires at the next tick. -/
  | timerInsertion (l : LaneId) (t : Fin 1024)
  /-- TIMER_EXPIRY (R366): A timer's expiry reaches SC_TICK; its item becomes pending and a periodic timer is reinserted. -/
  | timerExpiry (l : LaneId)
  /-- HEADROOM_UPDATE (R367): Each millisecond the energy and heat levels, H, the profile proposal and domain requests are updated. -/
  | headroomUpdate (l : LaneId)
  /-- DEFERRAL_AGE (R356): The oldest deferred item of a flow waits longer than DAGE: AGED, SC_DEFER. -/
  | deferralAge (l : LaneId) (n : Fin 256)
  /-- HQ_PUT_WRITE (R386): A staging write to HQ_PUT_h_n is stored, or ignored for a non-core producer. -/
  | hqPutWrite (l : LaneId) (h : Fin 8) (n : Fin 7) (v : Word)
  /-- HQ_PUSH (R385): A released HQ_PUSH_h copies the staging window into a slot, or is refused as FULL. -/
  | hqPush (l : LaneId) (h : Fin 8) (v : Word32)
  /-- HQ_TAKE (R388): A read of HQ_TAKE_h takes an entry from the replay list or by priority. -/
  | hqTake (l : LaneId) (h : Fin 8)
  /-- HQ_MARK (R390): A read of HQ_MARK_h sets the soft mark. -/
  | hqMark (l : LaneId) (h : Fin 8)
  /-- HQ_REWIND (R391): A read of HQ_REWIND_h moves entries after the soft mark to the replay list. -/
  | hqRewind (l : LaneId) (h : Fin 8)
  /-- HQ_CNTCLR (R382): HQ_CTL.CNTCLR clears HQ_OVRCNT. -/
  | hqCntclr (l : LaneId)
  /-- HOST_NOP (R399): A NOP frame returns the status byte. -/
  | hostNop (l : LaneId) (rest : List Byte) (mode3 : Bool)
  /-- HOST_PUT (R402): A PUT frame is checked and pushed into Hamper h within 200 ns. -/
  | hostPut (l : LaneId) (h : Fin 8) (rest : List Byte) (mode3 : Bool)
  /-- HOST_STATUS (R399): A STATUS frame returns the status snapshot of Table 11.6. -/
  | hostStatus (l : LaneId) (rest : List Byte) (mode3 : Bool)
  /-- HOST_BAD_COMMAND (R400): A frame with an unknown command byte or a broken byte count ends with BADCMD or ABORT. -/
  | hostBadCommand (l : LaneId) (bytes : List Byte) (whole : Bool) (mode3 : Bool)
  /-- ENTER_SERVICE (R403): SERVICE code 0x01 takes the lane to SERVICE at the next boundary, if allowed. -/
  | enterService (l : LaneId) (rest : List Byte) (mode3 : Bool)
  /-- RESTART (R403): SERVICE code 0x02 takes the lane to BOOT at the next boundary, or after a dump. -/
  | restart (l : LaneId) (rest : List Byte) (mode3 : Bool)
  /-- HANDOVER (R403): SERVICE code 0x03 is pushed to the service Hamper for firmware to hand over. -/
  | handover (l : LaneId) (rest : List Byte) (mode3 : Bool)
  /-- CEILING (R403): SERVICE code 0x04 is pushed to the service Hamper for firmware to set the ceiling. -/
  | ceiling (l : LaneId) (rest : List Byte) (mode3 : Bool)
  /-- INTEGRATOR_CODE (R404): SERVICE codes 0x80 to 0xFF are pushed to the service Hamper. -/
  | integratorCode (l : LaneId) (code : Fin 128) (rest : List Byte) (mode3 : Bool)
  /-- HP_IRQSET (R406): HP_CTL.IRQSET sets IRQ and drives A_HIRQ low. -/
  | hpIrqset (l : LaneId)
  /-- HP_IRQCLR (R406): HP_CTL.IRQCLR clears IRQ unless a hardware set wins. -/
  | hpIrqclr (l : LaneId)
  /-- HP_CNTCLR (R401): HP_CTL.CNTCLR clears HP_CNT. -/
  | hpCntclr (l : LaneId)
  /-- CYCLE_START (R410): A Crelas cycle starts; ages advance and cycle counts are judged. -/
  | cycleStart (l : LaneId)
  /-- SYNC_LOSS_EXPIRY (R429): LOSS cycles without a usable reference: SYNC to HOLD, TT_SYNCLOST. -/
  | syncLossExpiry (l : LaneId)
  /-- MASTER_TAKE_EXPIRY (R429): TAKE cycles without a usable reference: the lane becomes MASTER. -/
  | masterTakeExpiry (l : LaneId)
  /-- PORT_MUTE (R434): A fourth consecutive violating cycle mutes the port. -/
  | portMute (l : LaneId) (p : Fin 4)
  /-- PORT_UNMUTE (R434): Sixteen consecutive clean cycles unmute the port. -/
  | portUnmute (l : LaneId) (p : Fin 4)
  /-- PARTNER_ABSENCE (R437): ABS cycles without a frame make a partner ABSENT or free a GUEST entry. -/
  | partnerAbsence (l : LaneId) (m : Fin 64)
  /-- FETCH_POINT (R419): 2 µs before an own action point, the frame is decided: fresh, stale repeat or no data. -/
  | fetchPoint (l : LaneId) (k : Fin 32)
  /-- FRAME_SEND (R420): At an own action point, or a roll-call turn, the frame is sent on the named ports. -/
  | frameSend (l : LaneId) (k : Fin 32)
  /-- TT_TXRDY (R420): A released TT_TXRDY marks an own slot ready, or is refused. -/
  | ttTxrdy (l : LaneId) (k : Fin 32) (len : Fin 512)
  /-- CRELAS_FRAME_RECEIVE (R422): A frame arriving at a port is judged by the guardian and checks, accepted, forwarded or counted. -/
  | crelasFrameReceive (l : LaneId) (p : Fin 4) (f : CrelasFrame) (ago : BitVec 16)
  /-- TT_UNMUTE (R434): TT_CTL.UNMUTE unmutes a port. -/
  | ttUnmute (l : LaneId) (m : BitVec 4)
  /-- TT_CNTCLR (R422): TT_CTL.CNTCLR clears TT_CNT and the VCNT fields. -/
  | ttCntclr (l : LaneId)
  /-- PORT_LINK_CHANGE (R438): A 100BASE-T1 link goes up or down, raising TT_LINK. -/
  | portLinkChange (l : LaneId) (p : Fin 4) (up : Bool)
  /-- CAN_FRAME_RECEIVE (R441): A CAN frame is matched against the filters and pushed as entries. -/
  | canFrameReceive (l : LaneId) (f : CanFrame)
  /-- CAN_FRAME_SENT (R442): A transmit buffer's frame completes or fails arbitration. -/
  | canFrameSent (l : LaneId) (ok : Bool)
  /-- CAN_PROTOCOL_ERROR (R439): A CAN protocol error updates the error counters and bus state. -/
  | canProtocolError (l : LaneId) (lec : Fin 8) (tx : Bool) (heavy : Bool)
  /-- BUS_OFF_RECOVERY (R439): 128 occurrences of 11 recessive bits complete bus-off recovery. -/
  | busOffRecovery (l : LaneId)
  /-- CN_TXREQ (R442): A released CN_TXREQ makes transmit buffers pending. -/
  | cnTxreq (l : LaneId) (m : Byte)
  /-- CN_RECOVER (R439): CN_CTL.RECOVER starts bus-off recovery. -/
  | cnRecover (l : LaneId)
  /-- CN_CNTCLR (R439): CN_CTL.CNTCLR clears CN_CNT. -/
  | cnCntclr (l : LaneId)
  /-- PD_REQ_WRITE (R449): A PD_REQ write requests domain states, refused where not permitted. -/
  | pdReqWrite (l : LaneId) (v : Word32)
  /-- DOMAIN_TRANSITION (R447): A domain completes its transition and PD_STAT.STATE shows it. -/
  | domainTransition (l : LaneId) (d : Fin 7)
  /-- SLEEP (R451): A released PD_CTL.SLEEP is accepted and starts the entry, or is rejected. -/
  | sleep (l : LaneId)
  /-- LPO_CALIBRATION_END (R459): An LPO calibration over 8,192 cycles ends, passing or failing. -/
  | lpoCalibrationEnd (l : LaneId) (cnt : BitVec 20)
  /-- CK_CALGO (R459): CK_CTL.CALGO starts an LPO calibration. -/
  | ckCalgo (l : LaneId)
  /-- CK_DIVGO (R464): CK_CTL.DIVGO in SERVICE changes the CLK_CPU divisor at the commit, or is refused. -/
  | ckDivgo (l : LaneId) (div : BitVec 2)
  /-- ROOT_LOSS (R465): The root monitor declares root loss and raises CK_ROOTLOSS on the LPO path. -/
  | rootLoss (l : LaneId) (lockDetector : Bool)
  /-- FREQUENCY_CHECK (R466): Every 1,024 LPO cycles, CLK_PER is compared with the LPO count. -/
  | frequencyCheck (l : LaneId) (cnt : BitVec 20)
  /-- WHISTLE_FRAME (R458): A Whistle frame ends, matching, waking or aborting sleep, or is discarded. -/
  | whistleFrame (l : LaneId) (pulses : List WhistlePulse)
  /-- SLOW_ALARM (R455): WK_SLOW reaches WK_ALARM, a wake event. -/
  | slowAlarm (l : LaneId)
  /-- SAFETY_INPUT_WAKE (R455): An enabled safety-input edge on the AO path is a wake event. -/
  | safetyInputWake (l : LaneId) (n : Fin 4) (rail : Bool)
  /-- WK_CNTCLR (R458): WK_CTL.CNTCLR clears WK_CNT. -/
  | wkCntclr (l : LaneId)
  /-- VOLTAGE_REQUEST (R468): A profile change or PM_VREQ write checks the window and sends VOUT_COMMAND. -/
  | voltageRequest (l : LaneId) (mv : BitVec 16)
  /-- VOLTAGE_ACKNOWLEDGE (R468): The regulator acknowledges; PM_VACK takes the request and the regulator proof may pass. -/
  | voltageAcknowledge (l : LaneId)
  /-- VOLTAGE_ACK_TIMEOUT (R468): 500 µs without acknowledgement: NOACK, PM_NOACK and PROF_REFUSED. -/
  | voltageAckTimeout (l : LaneId)
  /-- TRANSACTION_FAIL (R470): A PMBus transaction fails, and is repeated 10 µs later or reported BUSERR. -/
  | transactionFail (l : LaneId)
  /-- TRANSACTION_RETRY (R470): 10 µs after a first failure the transaction is repeated. -/
  | transactionRetry (l : LaneId)
  /-- OPERATION_WRITE (R470): PM_CMD code 0 issues OPERATION write, refused unless on. -/
  | operationWrite (l : LaneId) (d : Byte)
  /-- CLEAR_FAULTS (R470): PM_CMD code 1 issues CLEAR_FAULTS. -/
  | clearFaults (l : LaneId)
  /-- STATUS_WORD_READ (R470): PM_CMD code 2 reads STATUS_WORD into PM_SW. -/
  | statusWordRead (l : LaneId)
  /-- OPERATION_READ (R470): PM_CMD code 3 reads OPERATION into PM_SW. -/
  | operationRead (l : LaneId)
  /-- PM_POLL (R471): Each millisecond with POLL = 1, READ_VOUT and READ_IOUT are read. -/
  | pmPoll (l : LaneId)
  /-- PM_ALERT (R471): A_PMALT falls and a STATUS_WORD read begins. -/
  | pmAlert (l : LaneId) (low : Bool)
  /-- ST_SLICE (R487): A released ST_SLICE requests one slice, started within 1 µs or refused. -/
  | stSlice (l : LaneId) (unit : Fin 32) (index : BitVec 16)
  /-- SLICE_END (R492): A slice or program step ends and ST_RESULT takes its result. -/
  | sliceEnd (l : LaneId) (res : SliceResult) (cov : Fin 1024)
  /-- SLICE_BUDGET_EXPIRY (R488): A slice reaches its budget and is stopped, restored and ABORT or SKIP. -/
  | sliceBudgetExpiry (l : LaneId)
  /-- SLICE_ACCESS_ABORT (R489): A functional access to a block under test stops and restores the slice. -/
  | sliceAccessAbort (l : LaneId)
  /-- ST_SWEEP (R486): ST_CTL.SWEEP in SERVICE sets the sweep flag and restarts the lane. -/
  | stSweep (l : LaneId)
  /-- ST_PROGGO (R491): ST_CTL.PROGGO runs the custom program steps. -/
  | stProggo (l : LaneId)
  /-- ST_ABORT (R491): ST_CTL.ABORT stops the program after its running slice. -/
  | stAbort (l : LaneId)
  /-- ST_CNTCLR (R492): ST_CTL.CNTCLR clears ST_CNT. -/
  | stCntclr (l : LaneId)
  /-- MEMTOK_RECEIVE (R495): A MEMTOK naming this lane passes the memory token, or a higher SEQ drops it. -/
  | memtokReceive (l : LaneId) (m : GlMsg)
  /-- MEMTOK_REGEN (R496): No MEMTOK for 4 outer cycles, or a lost holder, makes the earliest participant send REGEN. -/
  | memtokRegen (l : LaneId)
  /-- LCADV (R477): JTAG LCADV advances BLANK to MANUFACTURE, or is refused without a key. -/
  | lcadv (l : LaneId)
  /-- LCTERM (R478): JTAG LCTERM requests TERMINATED. -/
  | lcterm (l : LaneId)
  /-- KEYPROG (R480): JTAG KEYPROG programs a key slot in BLANK or MANUFACTURE. -/
  | keyprog (l : LaneId) (slot : Fin 4) (img : Bool) (rtn : Bool) (hash : List Byte)
  /-- KEYREV (R480): JTAG KEYREV revokes a key slot, unless none would remain. -/
  | keyrev (l : LaneId) (slot : Fin 4)
  /-- FTMODE (R483): JTAG FTMODE turns factory test mode on in MANUFACTURE. -/
  | ftmode (l : LaneId)
  /-- JTAG_SWEEP (R486): JTAG SWEEP in BLANK restarts the lane through BOOT with a sweep. -/
  | jtagSweep (l : LaneId)
  /-- LC_GO (R478): LC_CTL.GO in SERVICE requests a life-cycle transition to TARGET, with token checks. -/
  | lcGo (l : LaneId) (target : Fin 8)
  /-- LC_FTMON (R483): LC_CTL.FTMON in SERVICE turns factory test mode on. -/
  | lcFtmon (l : LaneId)
  /-- OTP_WRITE_COMPLETE (R478): The life-cycle OTP write completes and the lane enters BOOT. -/
  | otpWriteComplete (l : LaneId) (ok : Bool)
  /-- SAFETY_INPUT_CHANGE (R540): A safety channel's accepted level changes and STATE or disagreement updates. -/
  | safetyInputChange (l : LaneId) (n : Fin 4) (chanB : Bool) (level : Bool)
  /-- SAFETY_DISCREPANCY (R541): Disagreement for DISC ms sets DISCF and raises SF_SAFDISC. -/
  | safetyDiscrepancy (l : LaneId) (n : Fin 4)
  /-- SF_DISCCLR (R541): SF_SAFCTL.DISCCLR clears DISCF while the channels agree. -/
  | sfDiscclr (l : LaneId) (m : BitVec 4)
  /-- SF_INJGO (R542): SF_SAFCTL.INJGO starts an injection test of an input. -/
  | sfInjgo (l : LaneId) (m : BitVec 4)
  /-- INJECTION_PHASE_END (R542): A 50 µs injection phase ends and the channel is judged. -/
  | injectionPhaseEnd (l : LaneId) (ok : Bool)
  /-- REGISTER_WRITE (R580): A write to a register without a row of its own changes its writable fields under its types and range. -/
  | registerWrite (l : LaneId) (issued : Bool) (a : Nat) (n : Nat) (v : Word)
  /-- PMBUS_TRANSACTION_END (R468): A PMBus transaction reaches its stop condition: results land in the PM registers, the VOUT_COMMAND acknowledgement timer starts, and the regulator-check READ_VOUT is judged. -/
  | pmbusTransactionEnd (l : LaneId) (v : BitVec 16)
  /-- GD_SLICE_INJECTION (R487): A requested GD slice finds an off interval of its switch of at least 400 ns and injects the test current into both comparators for 200 ns. -/
  | gdSliceInjection (l : LaneId)
  /-- ECC_ERROR (R323): A TCM, MRAM or Hamper-storage read finds an ECC error: a correctable one is fixed and raises a CE message, an uncorrectable one raises TM_UE (FT), MC_UE or HQ_UE. -/
  | eccError (l : LaneId) (mem : EccMem) (corrected : Bool) (addr : BitVec 40)
  /-- MRAM_CONTROLLER_FAILURE (R323): The MRAM controller self-check fails, or the die does not acknowledge a write within 50 µs, raising MC_FAIL (FT). -/
  | mramControllerFailure (l : LaneId) (cause : Byte)
  /-- BUS_PARITY_ERROR (R323): A parity error on an address or control path of the interconnect raises BI_PARITY (FT). -/
  | busParityError (l : LaneId) (addr : BitVec 40)
  /-- DEVICE_ACCESS_TIMEOUT (R323): A device access left unanswered for 2 µs completes with a bus error and raises BI_TIMEOUT. -/
  | deviceAccessTimeout (l : LaneId) (addr : BitVec 40)
  /-- CORE_DEBUG (R476): A JTAG core-debug halt, step or memory access is granted or refused according to the life-cycle state. -/
  | coreDebug (l : LaneId) (op : DebugOp)
deriving DecidableEq, Repr

end Sys2Proof
end

