-- ==== Sys2Proof/Decode.lean ====
section
/-!
DEFINITION. The command a word spells. The rows of spec/opcode_table.json give no bits, so no word spells one: a command comes from a bus,
a pin or a link, not from a code.
-/

namespace Sys2Proof

/-- The command that the bits of the table spell. -/
def decodeTableWord (_nbits _w : Nat) : Option Instr := none

end Sys2Proof
end

