-- ==== Sys2Proof/Config.lean ====
section
/-!
DEFINITION. What the spec leaves to the silicon, to the part on the bench or to nobody: values with no body, of which nothing can be
proved. Each is named in a log entry.
-/

namespace Sys2Proof.Config

/-- What a byte of TCM that nothing has written since the memory last lost its contents reads as (log entry 4). -/
opaque tcmByte (l : LaneId) (gen addr : Nat) : Byte

/-- What a byte of Hamper storage that nothing has written since BOOT reads as (spec/11_hamper_host.md R384; log entry 4). -/
opaque hamperByte (l : LaneId) (gen addr : Nat) : Byte

/-- SY_ID.DIEREV, which the silicon gives (spec/18_address_map.md). -/
opaque dieRev (l : LaneId) : BitVec 8

/-- The module-identity words that the module's OTP holds (R586). -/
opaque midWord (n : Nat) : Word32

/-- LC_UID, from the lane's OTP (spec/14_self_test_lifecycle.md). -/
opaque laneUid (l : LaneId) : Word

/-- LC_NONCE, new at each BOOT (spec/14_self_test_lifecycle.md); the argument counts the lane's passes through BOOT. -/
opaque nonce (l : LaneId) (boots : Nat) : Word32

/-- The levels of A_BOOT1 and A_BOOT0 that a BOOT entry samples which no RESET_RELEASE tells of (spec/16_start_up.md R533; log entry 13); `n`
counts the lane's passes through BOOT. -/
opaque straps (l : LaneId) (n : Nat) : BitVec 2

/-- A byte of a capture section whose layout the spec leaves open: a function of the registers captured, the section and the offset
(spec/09_fault_collection.md R336, R347; log entry 45). -/
opaque capByte (l : LaneId) (regs : List (Nat × Word)) (drained : List Nat) (sect offset : Nat) : Byte

/-- The angle (k = 0), w_e (1) and w_m (2) of an axis at an instant at which no position source is in force (spec/06_feedback.md R231,
R241; log entry 24). -/
opaque noSource (l : LaneId) (x t k : Nat) : Word

/-- A choice the spec leaves to the silicon: which free slot a push takes (spec/11_hamper_host.md R385; log entry 5), how an inexact reading
is rounded (log entry 30), what an interrupted OTP write leaves (log entry 44). -/
opaque pick (l : LaneId) (n : Nat) : Nat

end Sys2Proof.Config
end

