-- ==== Sys2Proof/Machine/Fixed.lean ====
section
/-!
DEFINITION. The Q24.40 arithmetic of the engines (spec/02_loop_engine.md R53 to R55, R589): every operation forms its exact result, rounds
it to the nearest representable value with ties away from zero, and saturates at the ends of the range, which it remembers in a flag.
-/

namespace Sys2Proof.Machine

/-- A Q24.40 value, by its raw integer (R53), with the saturation flag of the computation that gave it (R55). -/
structure Q where
  raw : Int
  ovf : Bool
deriving DecidableEq, Repr

namespace Q

/-- 1.0 (Table 2.1). -/
def unit : Int := 1099511627776

/-- The largest raw value. -/
def top : Int := 9223372036854775807

/-- The smallest raw value. -/
def bot : Int := -9223372036854775808

/-- Saturation of an exact raw result (R55). -/
def sat (v : Int) (o : Bool) : Q :=
  if v > top then ⟨top, true⟩ else if v < bot then ⟨bot, true⟩ else ⟨v, o⟩

/-- A raw value read from a register or taken from an input. -/
def of (v : Int) : Q := ⟨v, false⟩

/-- A whole number. -/
def int (n : Int) : Q := sat (n * unit) false

/-- Zero. -/
def zero : Q := ⟨0, false⟩

/-- One. -/
def one : Q := ⟨unit, false⟩

/-- 0.5, exact (R589). -/
def half : Q := ⟨unit / 2, false⟩

/-- The quotient of two whole numbers, rounded to the nearest with ties away from zero; the divisor is not 0. -/
def roundDiv (n d : Int) : Int :=
  let m := n.natAbs
  let k := d.natAbs
  let r : Nat := (2 * m + k) / (2 * k)
  if (n < 0) = (d < 0) then (r : Int) else -(r : Int)

/-- An exact quotient of whole numbers as a raw result, rounded; it saturates where the exact quotient lies outside the range (R55). The
divisor is not 0. -/
def ratio (n d : Int) (o : Bool) : Q :=
  let m := if d < 0 then -n else n
  let k : Int := d.natAbs
  if m > top * k then ⟨top, true⟩ else if m < bot * k then ⟨bot, true⟩ else ⟨roundDiv m k, o⟩

def add (a b : Q) : Q := sat (a.raw + b.raw) (a.ovf || b.ovf)
def sub (a b : Q) : Q := sat (a.raw - b.raw) (a.ovf || b.ovf)
def mul (a b : Q) : Q := ratio (a.raw * b.raw) unit (a.ovf || b.ovf)
def neg (a : Q) : Q := sat (-a.raw) a.ovf

/-- Division; by zero it saturates with the sign of the dividend, 0 / 0 is 0, and both set the flag (R589). -/
def div (a b : Q) : Q :=
  if b.raw = 0 then
    if a.raw = 0 then ⟨0, true⟩ else if a.raw > 0 then ⟨top, true⟩ else ⟨bot, true⟩
  else ratio (a.raw * unit) b.raw (a.ovf || b.ovf)

/-- Conjunction of a flag into a value: an operand that did not reach the result still was an operation of the computation. -/
def flag (a : Q) (o : Bool) : Q := ⟨a.raw, a.ovf || o⟩

def min (a b : Q) : Q := (if a.raw ≤ b.raw then a else b).flag (a.ovf || b.ovf)
def max (a b : Q) : Q := (if a.raw ≥ b.raw then a else b).flag (a.ovf || b.ovf)
def abs (a : Q) : Q := if a.raw < 0 then neg a else a

/-- clamp(x, lo, hi): the lower bound is taken first, so that with crossed bounds the upper bound governs. -/
def clamp (x lo hi : Q) : Q := min (max x lo) hi

/-- clamp(x, −m, m). -/
def clampSym (x m : Q) : Q := clamp x (neg m) m

/-- floor, a whole number. -/
def floor (a : Q) : Int := a.raw / unit

/-- The floor of a square root by its bits, from bit `k - 1` down. -/
def isqrtBits (n : Nat) : Nat → Nat → Nat
  | 0, r => r
  | k + 1, r => isqrtBits n k (if (r + 2 ^ k) * (r + 2 ^ k) ≤ n then r + 2 ^ k else r)

/-- The floor of the square root of a number below 2^512. -/
def isqrt (n : Nat) : Nat := isqrtBits n 256 0

/-- Square root, rounded; of a negative argument it is 0 and sets nothing (R589). -/
def sqrt (a : Q) : Q :=
  if a.raw ≤ 0 then ⟨0, a.ovf⟩
  else
    let n := a.raw.toNat * 2 ^ 40
    let s := isqrtBits n 64 0
    ⟨((if n > s * s + s then s + 1 else s : Nat) : Int), a.ovf⟩

/-- The square root of 3, rounded (R589). -/
def sqrt3 : Q := sqrt ⟨3 * unit, false⟩

/-- The nearest representable value of π (R589). -/
def piRaw : Int := 3454217652358

def pi : Q := ⟨piRaw, false⟩

/-- 2*pi is twice that value (R589). -/
def twoPiRaw : Int := 2 * piRaw

def twoPi : Q := ⟨twoPiRaw, false⟩

/-- x mod 2*pi, between 0 and 2*pi (R589). -/
def mod2pi (a : Q) : Q := ⟨a.raw % twoPiRaw, a.ovf⟩

/-- wrap(x), between −pi and pi (R589). -/
def wrap (a : Q) : Q := ⟨(a.raw + piRaw) % twoPiRaw - piRaw, a.ovf⟩

/-! ### The transcendental functions, on integers scaled by 2^160 (DESIGN CHOICE, log entry 8: the series carry far more places than
the result, so the rounded value is that of the exact one but where it lies within 2^-140 of a tie). -/

/-- π scaled by 2^160. -/
def piBig : Int := 0x3243f6a8885a308d313198a2e03707344a4093822

/-- ln 2 scaled by 2^160. -/
def ln2Big : Int := 0xb17217f7d1cf79abc9e3b39803f2f6af40f34326

def big : Int := 0x10000000000000000000000000000000000000000

def mulBig (a b : Int) : Int := (a * b) / big

/-- The terms of a power series whose ratio is −y² / ((k + 1)(k + 2)), summed. -/
def sinTerms (y2 : Int) : Nat → Nat → Int → Int → Int
  | 0, _, _, s => s
  | f + 1, k, t, s =>
    let t' := -(mulBig t y2) / (((k + 1) * (k + 2) : Nat) : Int)
    sinTerms y2 f (k + 2) t' (s + t')

/-- sin and cos of an angle scaled by 2^160, between −π and π, by their series. -/
def sinBig (y : Int) : Int := sinTerms (mulBig y y) 40 1 y y

def cosBig (y : Int) : Int := sinTerms (mulBig y y) 40 0 big big

/-- The raw angle of a Q24.40 value at the scale of the series, reduced to −π .. π. -/
def reduceBig (a : Int) : Int :=
  let y := a * 0x1000000000000000000000000000000
  (y + piBig) % (2 * piBig) - piBig

/-- Rounding from the scale of the series to Q24.40. -/
def fromBig (v : Int) : Int := roundDiv v 0x1000000000000000000000000000000

def sin (a : Q) : Q := sat (fromBig (sinBig (reduceBig a.raw))) a.ovf
def cos (a : Q) : Q := sat (fromBig (cosBig (reduceBig a.raw))) a.ovf

/-- The terms of the arctangent series t − t³/3 + t⁵/5 − …, summed. -/
def atanTerms (t2 : Int) : Nat → Nat → Int → Int → Int
  | 0, _, _, s => s
  | f + 1, k, p, s =>
    let p' := -(mulBig p t2)
    atanTerms t2 f (k + 2) p' (s + p' / (((k + 2 : Nat)) : Int))

/-- t ↦ t / (1 + sqrt(1 + t²)), which halves an arctangent. -/
def halfAtan (t : Int) : Int :=
  let r : Int := (isqrt ((big + mulBig t t) * big).toNat : Nat)
  (t * big) / (big + r)

/-- The arctangent of t between 0 and 1. -/
def atanBig (t : Int) : Int :=
  let u := halfAtan (halfAtan (halfAtan t))
  8 * atanTerms (mulBig u u) 45 1 u u

/-- atan2(y, x), in −π < r ≤ π, with atan2(0, 0) = 0 (R589). -/
def atan2 (y x : Q) : Q :=
  let o := y.ovf || x.ovf
  let ay : Int := y.raw.natAbs
  let ax : Int := x.raw.natAbs
  if ay = 0 ∧ ax = 0 then ⟨0, o⟩
  else
    let a := if ay ≤ ax then atanBig ((ay * big) / ax) else piBig / 2 - atanBig ((ax * big) / ay)
    let b := if x.raw < 0 then piBig - a else a
    sat (fromBig (if y.raw < 0 then -b else b)) o

/-- The terms of 2·(z + z³/3 + z⁵/5 + …), summed. -/
def lnTerms (z2 : Int) : Nat → Nat → Int → Int → Int
  | 0, _, _, s => s
  | f + 1, k, p, s =>
    let p' := mulBig p z2
    lnTerms z2 f (k + 2) p' (s + p' / (((k + 2 : Nat)) : Int))

/-- The natural logarithm of a positive raw Q24.40 value, rounded; of a value not above 0 it is not asked by any rule. -/
def ln (a : Q) : Q :=
  let n := a.raw.toNat
  if n = 0 then ⟨0, true⟩
  else
    let e := Nat.log2 n
    let m : Int := (n : Int) * 2 ^ (160 - e)
    let z := ((m - big) * big) / (m + big)
    let s := 2 * lnTerms (mulBig z z) 90 1 z z
    sat (fromBig (s + ((e : Int) - 40) * ln2Big)) a.ovf

end Q

/-- The signed value of the low `w` bits of a number. -/
def signed (w v : Nat) : Int :=
  let m := v % 2 ^ w
  if m ≥ 2 ^ (w - 1) then (m : Int) - 2 ^ w else m

/-- The `w`-bit two's-complement code of a whole number. -/
def unsign (w : Nat) (v : Int) : Nat := (v % 2 ^ w).toNat

end Sys2Proof.Machine
end

