-- ==== Sys2Proof/Machine/State.lean ====
section
/-!
DEFINITION. The state of the module: three lanes, each with its registers, its memory and the state of its blocks that no register
holds, and the queue of waiting commands. Everything is plain data.
-/

namespace Sys2Proof.Machine

/-- Why the machine stops with a fault: no rule of the spec stops the module, and no command of the table raises one. -/
inductive Fault where
deriving DecidableEq, Repr

/-- Why a command is refused. -/
inductive Refusal where
  /-- Raised by the dispatch for a command that has no meaning yet; safe, because nothing is claimed of it. -/
  | notModelled (mnemonic : String)
deriving DecidableEq, Repr

/-- What a lane has put on one of its outputs, oldest first in `Lane.out`. -/
inductive Sent where
  /-- a Guyline message on a port (spec/08_leadership_guyline.md R291) -/
  | gl (port : Port) (m : GlMsg)
  /-- a SYNC block on a port, with its DLY field (R591) -/
  | sync (port : Port) (lane : LaneId) (dly : Nat)
  /-- a Crelas frame on the ports of a mask (spec/12_tt_network.md R420) -/
  | crelas (ports : Nat) (f : CrelasFrame)
  /-- a CAN frame of a transmit buffer (R442) -/
  | can (buffer : Nat) (f : CanFrame)
  /-- a PMBus transaction started, with the bytes that the master puts on the bus: the address of the regulator, the command code, and the data
  and PEC of a write (spec/13_power_clocks_wake.md R467, R470) -/
  | pmbus (t : PmTrans) (wire : List Byte)
  /-- the response of a host frame (spec/11_hamper_host.md R399) -/
  | host (bytes : List Byte)
deriving DecidableEq, Repr

/-! ### Paired execution (spec/07_paired_execution.md) -/

/-- An entry of the checkpoint store buffer (R265, Table 7.2): a 32-byte line with the bytes its mask names, or one device write. -/
inductive Store where
  | line (base : Nat) (cells : List Host.Cell)
  | device (addr : Nat) (width : Nat) (val : Word)
deriving DecidableEq, Repr

/-- What the cores of a lane are doing. -/
inductive CoreRun where
  /-- held in reset, from the reset of the lane to its entry into ARMING (spec/16_start_up.md R528) -/
  | held
  | running
  /-- stopped by an accepted FT, or halted at the end of a dump (spec/09_fault_collection.md R326, R339, R340) -/
  | stopped
  /-- running in the dump context (R338) -/
  | dump
  /-- halted by the debugger (spec/14_self_test_lifecycle.md R476) -/
  | halted
deriving DecidableEq, Repr

/-- A commit in progress (Table 7.3): whether it is a boundary commit, its edge and the network time of its edge, and the entries that the
buffer held at its start, lines and device writes. -/
structure Commit where
  boundary : Bool
  edge : Nat
  time : Nat
  lines : Nat
  devices : Nat
  /-- the copy buffers were frozen when the commit started (spec/08_leadership_guyline.md R308) -/
  thaw : Bool
deriving DecidableEq, Repr

/-- The state of the core pair that no register holds. -/
structure PcSt where
  /-- what the cores of the lane do (R263; spec/16_start_up.md R528) -/
  core : CoreRun := .held
  /-- the store buffer, oldest entry first (R265) -/
  store : List Store := []
  /-- the entries that a commit in progress, or one that an error has ended, has drained, by their indices (R267, R336 of 09_fault_collection) -/
  drained : List Nat := []
  /-- the times of the last rollbacks, newest first, at most two (R275) -/
  rbTimes : List Nat := []
  /-- when the first instruction after the last commit issued (R273) -/
  firstIssue : Nat := 0
  /-- the fault messages of rollbacks, held until the next commit (R273) -/
  held : List Word := []
  /-- a SPLIT or REJOIN released by the commit under way, applied at its step 6 (R279) -/
  reqSplit : Bool := false
  reqRejoin : Bool := false
  /-- the commit in progress, whose drain has not ended (R326 of 09_fault_collection; Table 7.3) -/
  mid : Option Commit := none
  /-- the last core self-test of the shadow passed (R279, R490) -/
  shadowOk : Bool := true
deriving DecidableEq, Repr

/-! ### The fault collector (spec/09_fault_collection.md) -/

/-- A fault message at the collector's input (R317); `supp` is set for one injected with SUPPRESS = 1 (R335). -/
structure Msg where
  bits : Word
  supp : Bool
deriving DecidableEq, Repr

/-- What the acceptance of an FT message froze (R336, Table 9.8): the registers, the store buffer and the memory of the copy buffer. -/
structure Capture where
  regs : List (Nat × Word)
  store : List Store
  /-- the entries of the store buffer that a commit in progress had drained, by their indices -/
  drained : List Nat
  copy : List Host.Cell
deriving DecidableEq, Repr

/-- The sending side of the dump engine (R342, R343). -/
inductive DumpPhase where
  | idle
  /-- an OFFER waits for its answer -/
  | offered (p : Port)
  /-- DATA is being sent -/
  | sending (p : Port)
  /-- END has been sent; DONE is awaited -/
  | ended (p : Port)
deriving DecidableEq, Repr

/-- The receiving side of the dump engine for one neighbour slot (R344). -/
structure DumpRx where
  busy : Bool := false
  /-- the length offered, and the chunks received -/
  chunks : Nat := 0
  got : Nat := 0
  /-- when the last message of the transfer arrived -/
  at_ : Nat := 0
  /-- END has arrived and the record has passed its check -/
  ended : Bool := false
deriving DecidableEq, Repr

/-- The watch of one neighbour's Lantern (R332): the time of the last edge, and the consecutive valid spacings. -/
structure Watch where
  edgeAt : Option Nat := none
  valid : Nat := 0
deriving DecidableEq, Repr

/-- The last acceptance of the fault collector: the cycle of it (Lane.accCycle), the message, the lane's timestamp, whether it was latched as
the first, and whether OVF read 1 before it (R319, R325). -/
structure Accepted where
  cycle : Nat
  bits : Word
  time : Nat
  first : Bool
  ovf : Bool
deriving DecidableEq, Repr

/-- The state of the fault collector, the Lantern and the dump engine that no register holds. -/
structure FcSt where
  /-- messages presented and not yet accepted, in the order presented (R319, R320) -/
  wait : List Msg := []
  /-- the last acceptance since BOOT (R319, R325) -/
  acc : Option Accepted := none
  /-- the CE kinds raised since the last outer-cycle boundary, by source, kind and axis (R51) -/
  ceDone : List (Nat × Nat × Nat) := []
  /-- an FT message has been accepted since BOOT (R329) -/
  ftSeen : Bool := false
  /-- a tend fault has occurred since BOOT (R329) -/
  tendFault : Bool := false
  /-- the next toggle instant of the Lantern, while its timer runs (R329) -/
  lantNext : Option Nat := none
  /-- the tend watch runs, and the time of the last accepted tend or of the entry to ARMING (R331) -/
  tendWatch : Bool := false
  /-- the time of the last accepted tend, or of the entry to ARMING (R331) -/
  tendAt : Nat := 0
  /-- a tend has been accepted since BOOT (R331) -/
  tended : Bool := false
  /-- the watch of the next neighbour's Lantern (R332) -/
  next : Watch := {}
  /-- the watch of the previous neighbour's Lantern (R332) -/
  prev : Watch := {}
  /-- the capture held (R336) -/
  cap : Option Capture := none
  /-- a dump context is to start, and when the running one started (R338, R340) -/
  dcxDue : Bool := false
  /-- when the running dump context started (R338) -/
  dcxAt : Nat := 0
  /-- a dump engine transfer is to start, for the reason WHY of Table 9.10 (R340) -/
  deDue : Bool := false
  /-- the reason WHY of the transfer (R340, Table 9.10) -/
  why : Nat := 0
  /-- the sending side of the dump engine (R342) -/
  tx : DumpPhase := .idle
  /-- when the sender's running 100 µs limit began (R343) -/
  txAt : Nat := 0
  /-- the ports this transfer has tried (R342, R343) -/
  tried : List Port := []
  /-- the chunks sent (R342) -/
  txSent : Nat := 0
  /-- when the last chunk was sent (R342) -/
  txLast : Option Nat := none
  /-- an answer arrived in the expiry cycle of a limit of the running transfer (R345) -/
  txLate : Bool := false
  /-- the receiving side for the neighbour of port NEXT (R344) -/
  rx0 : DumpRx := {}
  /-- the receiving side for the neighbour of port PREV (R344) -/
  rx1 : DumpRx := {}
  /-- a host restart waits for the end of the dump (R341) -/
  restartWait : Bool := false
deriving DecidableEq, Repr

/-! ### The flow scheduler (spec/10_flow_scheduler.md) -/

/-- Where a work item comes from (Table 10.1). -/
inductive ItemKind where
  | event
  | timer
  | hamper
  | post
deriving DecidableEq, Repr

/-- A work item (R351): `src` is the event source, the timer, the Hamper or the posted word; `prio` is the priority the item brings
itself (SC_POST.PRIO, SC_TMRCFG_t.PRIO), used where its flow has FIXED = 0 (R354); `count` is COUNT; `stamp` is the 32-bit arrival stamp;
`since` is when it became pending. -/
structure Item where
  kind : ItemKind
  src : Nat
  flow : Nat
  prio : Nat
  count : Nat
  stamp : Nat
  since : Nat
deriving DecidableEq, Repr

/-- A timer in a delay list, or on its way into one (R364, R365). -/
structure Armed where
  timer : Nat
  expiry : Nat
  /-- a timer inserted with a past expiry is not removed before this tick (R365) -/
  notBefore : Nat
deriving DecidableEq, Repr

/-- An insertion walk that has not ended (R365): the timer and its expiry, its list, and when the walk ends. -/
structure Insertion where
  timer : Nat
  expiry : Nat
  list : Nat
  due : Nat
deriving DecidableEq, Repr

/-- The state of the flow scheduler that no register holds. -/
structure ScSt where
  /-- the CLK_BUS cycle of the last occurrence of an event source, and the sources that occurred in it (SY_EVSTAT_k of 18_address_map) -/
  evCyc : Nat := 0
  /-- the event sources that occurred in that cycle (SY_EVSTAT_k of 18_address_map) -/
  evNow : List Nat := []
  /-- the pending items, in order of arrival (R351) -/
  items : List Item := []
  /-- the in-service stack, its top first (R360) -/
  stack : List Item := []
  /-- items completed since the last commit, which keep their slots until the next (R352) -/
  done : Nat := 0
  /-- the stack at the mark of the last commit (R362) -/
  markStack : List Item := []
  /-- the items taken since the mark, in the order taken (R362) -/
  taken : List Item := []
  /-- the next arrival stamp, of 32 bits (R351) -/
  nextStamp : Nat := 0
  /-- the four delay lists, each in order of expiry (R364) -/
  tl0 : List Armed := []
  tl1 : List Armed := []
  tl2 : List Armed := []
  tl3 : List Armed := []
  /-- the insertion walks under way (R365) -/
  walks : List Insertion := []
  /-- SC_TICK at the root time `tickAt` (R363, R460) -/
  tick0 : Nat := 0
  tickAt : Nat := 0
  /-- false while the PLL is stopped, in sleep (R460) -/
  tickRun : Bool := true
  /-- the energy of the running 1 ms bin, in 10 pJ units, accounted up to root time `binAt` (R367) -/
  bin : Nat := 0
  binAt : Nat := 0
  /-- the last 1 ms bins in µJ, newest first, at most ten (R367) -/
  bins : List Nat := []
  /-- the millisecond of SC_TICK of the last headroom update (R367) -/
  lastMs : Nat := 0
  /-- the milliseconds for which h_new has stayed above H (R368) -/
  riseMs : Nat := 0
  /-- the consecutive updates that called for HIGH, and for BALANCED or HIGH (R370) -/
  hold0 : Nat := 0
  hold1 : Nat := 0
  /-- while this root time has not come, the proposal is no less quiet than `capProf` (R34, R370) -/
  capUntil : Nat := 0
  capProf : Nat := 0
  /-- whether the over-temperature condition of Table 1.8 holds the proposal at QUIET (R370) -/
  hot : Bool := false
  /-- the 10 ms window of SC_BISTUSE, by its number, the root time up to which BIST service has been charged, and the time charged in that
  window, in root periods (R355, R488) -/
  bistWin : Nat := 0
  bistAt : Nat := 0
  bistAcc : Nat := 0
deriving DecidableEq, Repr
/-! ### The Guyline (spec/08_leadership_guyline.md) -/

/-- What a lane knows of another lane beyond GL_LANES and SY_MODE. -/
structure Peer where
  /-- a heartbeat has arrived since the last due instant, and the due instants in a row without one (R297) -/
  fresh : Bool := false
  /-- its heartbeats make it live, and it is counted in OPERATE or DEGRADED (R26, R299) -/
  hb : Bool := false
  counted : Bool := false
  miss : Nat := 0
  /-- the CYCLE of an FTANN after which the lane has not passed BOOT (R299) -/
  ftann : Option Nat := none
  /-- the flags and fields of the last heartbeat (Table 8.3) -/
  elig : Bool := false
  axdel : Nat := 0
  rank : Nat := 0
  cpcyc : Nat := 0xFFFFFFFF
  /-- consecutive heartbeats with TOKEN = 0 while it is counted as the token holder (R594) -/
  tok0 : Nat := 0
  /-- the hash of its CFGHASH (R305) -/
  hash : Option (List Byte) := none
  /-- it has been counted live since this lane's last BOOT (R305, R548, R549) -/
  known : Bool := false
deriving DecidableEq, Repr

/-- A state copy being received (R308). -/
structure CopyRx where
  sender : Nat
  cycle : Nat
  epoch : Nat
  chunks : Nat
  /-- the chunks that have arrived, one bit each -/
  got : Nat
  bad : Bool
deriving DecidableEq, Repr

/-- A state copy being sent (R306, R307): its cycle, its chunks, and until when the last of the chunks that have started occupies its port, in
1/1000 root periods. -/
structure CopyTx where
  cycle : Nat
  chunks : Nat
  ends : Nat
deriving DecidableEq, Repr

/-- A message that waits for a port (R292): one passed on for another lane leaves by the port `dest`, one of this lane is for the neighbour
of that port. The payload of a STATECOPY chunk of this lane is read when it starts. -/
structure GlWait where
  dest : Port
  passed : Bool
  m : GlMsg
deriving DecidableEq, Repr

/-- The state of the GL block that no register or window holds. -/
structure GlSt where
  /-- what this lane knows of lane A beyond its registers (R26, R297, R299, Table 8.3) -/
  pa : Peer := {}
  /-- what this lane knows of lane B (R26, R297, R299, Table 8.3) -/
  pb : Peer := {}
  /-- what this lane knows of lane C (R26, R297, R299, Table 8.3) -/
  pc : Peer := {}
  /-- the next heartbeat due instant (R296) -/
  dueAt : Option Nat := none
  /-- the due instants in a row at which no heartbeat of any lane had arrived (R29) -/
  alone : Nat := 0
  /-- outer-cycle boundaries since ARMING entry (R302, R305) -/
  armCycles : Nat := 0
  /-- CFGHASH is owed after a port came up or a new lane was heard (R305) -/
  hashOwed : Bool := false
  /-- a direct route is to be restored at the next boundary (R290) -/
  restore0 : Bool := false
  restore1 : Bool := false
  /-- a message was forwarded since the last boundary, which FWD of GL_LINK_p shows (R289, R290) -/
  fwdNow : Bool := false
  /-- released at the commit under way: ABDICATE, and HANDGO with its target (R303, R304) -/
  abdicate : Bool := false
  /-- HANDGO with its target, released at the commit under way (R303, R304) -/
  handGo : Option Nat := none
  /-- the target of a handover under way, and the due instant that ends it (Table 8.5) -/
  handTo : Nat := 3
  /-- the due instant that ends a handover under way (Table 8.5) -/
  handDue : Option Nat := none
  /-- the cycle of a HANDOVER that names this lane, until the next boundary tick (R304, Table 8.5) -/
  handFrom : Option Nat := none
  /-- the state copy being received (R308) -/
  rx : Option CopyRx := none
  /-- the state copy being sent (R306, R307) -/
  tx : Option CopyTx := none
  /-- the cycle of the last copy sent (R304, R307) -/
  lastCopy : Nat := 0xFFFFFFFF
  /-- the addresses of the chunks that have just been read from the copy region, whose access the ST engine has still to see
  (R306, spec/14_self_test_lifecycle.md R489) -/
  reads : List Nat := []
  /-- a COMMAND has been accepted since BOOT, and since the last boundary tick (R310, R312) -/
  cmdSeen : Bool := false
  /-- a COMMAND has been accepted since the last boundary tick (R310) -/
  cmdNew : Bool := false
  /-- the messages that wait for a port, in the order in which they became ready (R292) -/
  txq : List GlWait := []
  /-- until when each port sends, in 1/1000 root periods (R292) -/
  busy0 : Nat := 0
  busy1 : Nat := 0
  /-- the COMMAND released by a commit, until it starts on its ports (R306) -/
  cmdOut : Option (List Byte) := none
  /-- its start has come, and it has still to be handled as if received (R306) -/
  cmdBegun : Bool := false
  /-- the target of the HANDOVER that follows that COMMAND (Table 8.5) -/
  handOut : Option Nat := none
  /-- the last boundary tick since BOOT (R294) -/
  tickAt : Option Nat := none
  /-- what this lane adds to its network time to have that of the token holder, for the place of its boundary ticks, in units of 10^-12/512 ns
  (R294, spec/12_tt_network.md R412) -/
  shift : Int := 0
  /-- the token holder's tick relative to the last boundary tick, in root periods (R591) -/
  syncErr : Int := 0
  /-- how much later the next boundary tick comes for the last SYNC, in root periods (R294, R591) -/
  adjust : Int := 0
  /-- how much later the tick after the next one comes, where the next one cannot come as much earlier as the last SYNC asks (R294) -/
  carry : Int := 0
  /-- SYNC has arrived directly since the last tick (R591); the next one is followed at once (R537) -/
  syncDirect : Bool := false
  /-- the next SYNC is followed at once (R537) -/
  step : Bool := false
deriving DecidableEq, Repr


/-! ### Hamper queues and the host port (spec/11_hamper_host.md) -/

/-- An entry of a Hamper (R380, Table 11.1), with the slot that holds it. -/
structure Entry where
  prio : Nat
  prod : Nat
  len : Nat
  seq : Nat
  time : Nat
  /-- LEN bytes -/
  payload : List Byte
  slot : Nat
  /-- when it was pushed -/
  at_ : Nat := 0
deriving DecidableEq, Repr

/-- Who learns what became of a push: nobody, the host port for a PUT frame with its byte 0, or the host port for a SERVICE frame (R401, R402,
R404). -/
inductive PushFor where
  | none
  | put (byte0 : Nat)
  | service
deriving DecidableEq, Repr

/-- A push that found no room, until the releases of its CLK_BUS cycle are over (R383): the Hamper, the priority, and the payloads of its
entries. -/
structure LatePush where
  hamper : Nat
  prio : Nat
  payloads : List (List Byte)
  for_ : PushFor
deriving DecidableEq, Repr

/-- One Hamper: the queued entries in order of their pushes, the replay list, the take log, and the two marks in it (R381, R388 to R392). -/
structure Hamper where
  queue : List Entry := []
  replay : List Entry := []
  log : List Entry := []
  ckpt : Nat := 0
  soft : Nat := 0
  /-- pushes accepted since BOOT -/
  seq : Nat := 0
deriving DecidableEq, Repr

/-- The Hampers of a lane, and the contents of the slots of Hamper storage that have been written since BOOT, by slot (R377, R384). -/
structure HqSt where
  /-- Hamper 0: its queue, replay list, take log and marks (R380, R381, R388 to R392) -/
  h0 : Hamper := {}
  /-- Hamper 1: its queue, replay list, take log and marks (R380, R381, R388 to R392) -/
  h1 : Hamper := {}
  /-- Hamper 2: its queue, replay list, take log and marks (R380, R381, R388 to R392) -/
  h2 : Hamper := {}
  /-- Hamper 3: its queue, replay list, take log and marks (R380, R381, R388 to R392) -/
  h3 : Hamper := {}
  /-- Hamper 4: its queue, replay list, take log and marks (R380, R381, R388 to R392) -/
  h4 : Hamper := {}
  /-- Hamper 5: its queue, replay list, take log and marks (R380, R381, R388 to R392) -/
  h5 : Hamper := {}
  /-- Hamper 6: its queue, replay list, take log and marks (R380, R381, R388 to R392) -/
  h6 : Hamper := {}
  /-- Hamper 7: its queue, replay list, take log and marks (R380, R381, R388 to R392) -/
  h7 : Hamper := {}
  /-- the contents of the slots of Hamper storage that have been written since BOOT, by slot (R377, R384) -/
  stored : List (Nat × Entry) := []
  /-- the pushes of this CLK_BUS cycle that wait for its releases (R383) -/
  late : List LatePush := []
  /-- some Hamper has changed in this CLK_BUS cycle: FULL and the watermark states are evaluated at its end (R383) -/
  evalDue : Bool := false
  /-- the CLK_BUS cycle, by its number, in which hardware last set HP_STAT.IRQ (R406) -/
  irqCyc : Option Nat := none
deriving DecidableEq, Repr

/-! ### The Crelas network port (spec/12_tt_network.md) -/

/-- The frame of an own slot, as its fetch point decided it (R419). -/
structure TxFrame where
  slot : Nat
  age : Nat
  nodata : Bool
  data : List Byte
deriving DecidableEq, Repr

/-- The state of one slot of the sender (R419). -/
structure TxSlot where
  rdylen : Nat := 0
  len : Nat := 0
  age : Nat := 0
  sent : Bool := false
  /-- when its last TT_TXRDY was released (R419) -/
  rdyAt : Option Nat := none
deriving DecidableEq, Repr

/-- The state of the Crelas port that no register holds. Network time is kept in units of 10^-12/512 ns, so that every correction of
R427 is exact. -/
structure TtSt where
  /-- network time at root time `ntAt`, which is a CLK_PER edge (R410, R427) -/
  nt0 : Int := 0
  ntAt : Nat := 0
  /-- false while the PLL is stopped (spec/13_power_clocks_wake.md R452, R460) -/
  ntRun : Bool := true
  /-- ADD, the advance per CLK_PER cycle; nominally 10 ns (R427) -/
  add : Int := 5120000000000000
  /-- fr in units of 10^-12/512 (R427) -/
  fr : Int := 0
  /-- the offset th at the last correction, in ns; 0 after a step (R427) -/
  thPrev : Int := 0
  /-- the number of the cycle in progress, counted from network time 0 (R410) -/
  cyc : Option Nat := none
  /-- whole cycles without a usable reference, and whether one was accepted in this cycle (R429) -/
  noRef : Nat := 0
  refSeen : Bool := false
  /-- consecutive corrections with |th| at most 100 ns in ACQUIRE (Table 12.4) -/
  close : Nat := 0
  /-- the lane has been in SYNC since BOOT, and a usable reference has been accepted since AO powered up (R431, R462) -/
  wasSync : Bool := false
  /-- the ports with a violation in this cycle, one bit each (R434) -/
  viol : Nat := 0
  /-- the last window in which each port received a frame, and when each port last forwarded in UNSYNC or ACQUIRE (R432, R435) -/
  wins : List (Nat × Nat) := []
  fwdAt : List (Nat × Nat) := []
  /-- the sending side: own slots by number, and the frame fetched (R419) -/
  tx : List (Nat × TxSlot) := []
  fetched : Option TxFrame := none
  /-- the last fetch point and the last action point passed: 32 times the number of the cycle, plus the slot (R419, R420) -/
  fetchAt : Option Nat := none
  sentAt : Option Nat := none
deriving DecidableEq, Repr

/-! ### The CAN FD controller (spec/12_tt_network.md R439) -/

/-- Whether bus-off recovery runs. -/
structure CnSt where
  /-- bus-off recovery runs (R439) -/
  recovering : Bool := false
deriving DecidableEq, Repr

/-! ### The regulator control (spec/13_power_clocks_wake.md R467 to R472) -/

/-- Why a voltage request was made: a preparation (R34), a profile that lowers VCORE (R33), firmware, the start (R532), or the regulator
check (R547). -/
inductive PmWhy where
  | prepare
  | lower
  | firmware
  | start
  | check
deriving DecidableEq, Repr

/-- What a transaction serves. -/
inductive PmUse where
  | request
  | ack
  | alert
  | command
  | poll
  | check (mv : Nat)
deriving DecidableEq, Repr

/-- A transaction with its use. -/
structure PmTask where
  t : PmTrans
  use : PmUse
deriving DecidableEq, Repr

/-- A voltage request in progress. -/
structure PmReq where
  mv : Nat
  why : PmWhy
  /-- the stop condition of its VOUT_COMMAND, and when the next STATUS_WORD read is due (Table 13.8) -/
  stopAt : Option Nat := none
  readAt : Nat := 0
deriving DecidableEq, Repr

/-- The state of the PMBus master that no register holds. -/
structure PmSt where
  /-- the voltage request in progress (R468, Table 13.8) -/
  req : Option PmReq := none
  /-- the transaction on the bus, whether it is the repeat, and when the repeat of a failed one is due (R470) -/
  cur : Option PmTask := none
  again : Bool := false
  retryAt : Option Nat := none
  todo : List PmTask := []
  /-- the start waits for VCORE, and how often it has requested it (R532) -/
  bootWait : Bool := false
  bootTries : Nat := 0
deriving DecidableEq, Repr

/-- What the always-on domain keeps through BOOT beside registers: the shadows of PM_CFG and PM_VWIN of the last image (R532). -/
structure AoSt where
  /-- the shadow of PM_CFG of the last image (R532) -/
  pmCfg : Word := 0x641400#64
  /-- the shadow of PM_VWIN of the last image (R532) -/
  pmWin : Word := 0#64
  /-- a usable reference has been accepted since the power-up of AO (R462) -/
  tqKnown : Bool := false
deriving DecidableEq, Repr

/-! ### Power domains, sleep and clocks (spec/13_power_clocks_wake.md R446 to R466) -/

/-- Where a lane stands between waking and sleeping (Table 13.2, R456). -/
inductive SleepStep where
  | awake
  /-- step 2, the LPO calibration -/
  | calib
  /-- step 4, the domains on their way down -/
  | domains
  /-- step 5, until the keep-alive has moved -/
  | keepAlive (due : Nat)
  /-- step 6, CP on its way to RETAIN -/
  | cp
  /-- step 7, until the PLL has stopped -/
  | stop (due : Nat)
  | asleep
  /-- the crystal starts; the PLL lock is awaited (R456) -/
  | lock
  /-- the PLL is locked; CP is on its way to ON -/
  | cpUp
deriving DecidableEq, Repr

/-- A domain on its way to a state (R447): the domain, the state's code, and when the transition is complete at the latest. -/
structure DomMove where
  dom : Nat
  target : Nat
  due : Nat
deriving DecidableEq, Repr

/-- A core access of `n` bytes that waits until its domain is ON (R450): a write with its value, or a read. -/
structure RegAcc where
  addr : Nat
  n : Nat
  val : Option Word
deriving DecidableEq, Repr

/-- The state of the PD, CK and WK blocks that no register holds. -/
structure PwSt where
  /-- the divisor code of a DIVGO that a commit has released, until its step 7 (R464) -/
  divReq : Option Nat := none
  /-- the domains on their way to a state (R447, R448) -/
  moves : List DomMove := []
  /-- the accepted request of each domain, two bits each (R448, R449) -/
  want : Nat := 0
  /-- the core accesses that wait for their domain (R450) -/
  waits : List RegAcc := []
  /-- the step of the sleep entry or of the wake exit under way (R452, R456, Table 13.2) -/
  step : SleepStep := .awake
  /-- the state of every domain at t_r, two bits each (R453, R456) -/
  back : Nat := 0
  /-- TT_STAT.TQ at step 3 was 0 (R460) -/
  tq0 : Bool := false
  /-- an LPO calibration runs (R459) -/
  cal : Bool := false
  /-- when CLK_PER was last compared with the LPO (R466) -/
  freqAt : Nat := 0
  /-- the slow alarm lies ahead (log entry 40) -/
  alarm : Bool := false
  /-- the last wake event while awake: its time and its cause (R453) -/
  wakeAt : Option (Nat × Nat) := none
  /-- the AO generator sends the keep-alive (R454) -/
  kaAo : Bool := false
  /-- the PLL root has been lost (R465) -/
  rootLost : Bool := false
deriving DecidableEq, Repr

/-- Whether the lane's clocks stand still: in sleep, or after a root loss. -/
def PwSt.stopped (p : PwSt) : Bool := p.rootLost || decide (p.step = .asleep) || decide (p.step = .lock)

/-! ### Self-test (spec/14_self_test_lifecycle.md) -/

/-- A slice under way, of its own or a run of a program step (R487, R491). -/
structure SliceRun where
  unit : Nat
  index : Nat
  start : Nat
  /-- a run of a step of a custom program -/
  prog : Bool
  /-- a GD slice has found its off interval (R487) -/
  began : Bool := false
deriving DecidableEq, Repr

/-- Where a custom program stands (R491): its step, the runs of the step that have ended, and their result, coverage and run time so far. -/
structure ProgAt where
  step : Nat
  done : Nat := 0
  res : Nat := 0
  cov : Nat := 0
  time : Nat := 0
deriving DecidableEq, Repr

/-- The state of the ST engine that no register holds. -/
structure StSt where
  /-- the slice or run under way (R487, R491) -/
  run : Option SliceRun := none
  /-- the program under way, whose next run a high-current unit may keep waiting (R491), and a stop asked for -/
  prog : Option ProgAt := none
  progStop : Bool := false
  /-- the flag in AO that asks for a sweep at the next BOOT (R486) -/
  swNext : Bool := false
  /-- the JTAG instruction SWEEP has restarted the lane in BLANK, and the sweep is still to start (R486) -/
  swJtag : Bool := false
  /-- a sweep runs -/
  sweep : Bool := false
  /-- a high-current slice has been started in this holding of the token, and the pass waits for its end (R495) -/
  sliced : Bool := false
  passDue : Bool := false
  /-- no slice starts before this time, after a REGEN (R496) -/
  waitUntil : Nat := 0
  /-- when the last MEMTOK arrived, and the holder last named; 3 is none (R496) -/
  tokAt : Nat := 0
  holder : Nat := 3
  /-- the lane has entered ARMING since power-up (R496); kept in AO -/
  born : Bool := false
deriving DecidableEq, Repr

/-- An OTP write under way (R478, R480). -/
inductive OtpWrite where
  /-- a new life-cycle state -/
  | state (code : Nat)
  /-- key slot `k` with its flags IMG and RTN and its hash -/
  | program (k : Nat) (img rtn : Bool) (hash : List Byte)
  /-- the revocation of key slot `k` -/
  | revoke (k : Nat)
deriving DecidableEq, Repr

/-- The state of the LC block that no register holds. -/
structure LcSt where
  /-- the OTP write under way (R478, R480) -/
  write : Option OtpWrite := none
deriving DecidableEq, Repr

/-! ### The configuration image (spec/15_configuration_image.md) -/

/-- Where a lane stands in BOOT (spec/16_start_up.md R530 to R535). -/
inductive BootPhase where
  /-- the first PLL lock is awaited -/
  | lock
  /-- the acknowledgement of R532 is awaited -/
  | vcore
  | sweep
  /-- the loader runs -/
  | load
  /-- an image has been loaded; the lock is awaited (R528) -/
  | loaded
  /-- the lane stays in BOOT until the next reset or power-up (R503, R532) -/
  | stay
  /-- the lane has left BOOT -/
  | done
deriving DecidableEq, Repr

/-- The start of a lane that no register holds. -/
structure ImSt where
  /-- where the lane stands in BOOT (R530 to R535) -/
  phase : BootPhase := .lock
  /-- the strap code sampled at the last BOOT entry (R533) -/
  straps : Nat := 0
  /-- the firmware slot and the entry address of the loaded image (R504, R514) -/
  fwSlot : Nat := 0
  entry : Nat := 0
  /-- the axes whose gate-driver check runs, one bit each (R546) -/
  gdRun : Nat := 0
deriving DecidableEq, Repr

/-! ### Safety inputs (spec/16_start_up.md R540 to R545) -/

/-- One safety input: the levels of its channels that the filter has accepted, and since when they have disagreed without a break (R540,
R541). -/
structure SafIn where
  a : Bool := false
  b : Bool := false
  /-- when the accepted level of channel A last changed, and that of channel B (R540) -/
  atA : Option Nat := none
  atB : Option Nat := none
  disc : Option Nat := none
  /-- a channel has failed in the running test -/
  bad : Bool := false
deriving DecidableEq, Repr

/-- An injection under way (R542): the input, the channel, which half, when that half ends, and whether the first half failed. -/
structure Inject where
  input : Nat
  chanB : Bool
  release : Bool
  due : Nat
  failed : Bool
deriving DecidableEq, Repr

/-- The state of the safety inputs that no register holds. -/
structure SafSt where
  /-- safety input 0 (R540, R541) -/
  s0 : SafIn := {}
  /-- safety input 1 (R540, R541) -/
  s1 : SafIn := {}
  /-- safety input 2 (R540, R541) -/
  s2 : SafIn := {}
  /-- safety input 3 (R540, R541) -/
  s3 : SafIn := {}
  /-- the injection under way (R542) -/
  inj : Option Inject := none
  /-- the inputs whose injection has still to run, lowest first -/
  todo : List Nat := []
  /-- the proofs SAF and SSUP have passed (R538) -/
  okSaf : Bool := false
  okSsup : Bool := false
deriving DecidableEq, Repr


/-! ### The modulator and the trips (spec/03_modulator.md) -/

/-- A processed update group (R115): the period, the rising and falling compare of each gate, whether step 3 changed an on-time (R111),
the phase shifted with its shift (R125), whether the profile in force at the COMMIT has peak reloads (R102), and the duties that formed it
(R120). -/
structure Grp where
  per : Nat
  cr : List Nat
  cf : List Nat
  clamped : Bool
  phase : Nat
  shift : Nat
  peaks : Bool := true
  duty : List Nat := [0, 0, 0]
deriving DecidableEq, Repr

/-- The state of one modulator that no register holds. -/
structure ModSt where
  /-- the carrier runs, from ARMING entry (R99) -/
  running : Bool := false
  /-- the write stage holds a write since the last COMMIT, and one that was already there at the previous reload (R118) -/
  dirty : Bool := false
  dirtySeen : Bool := false
  /-- the committed stage (R115, R116) -/
  committed : Option Grp := none
  /-- the period has a peak reload, and the periods from the next valley on have one (R102) -/
  peaks : Bool := true
  peaksTo : Bool := true
  /-- the duties of the active group (R120) -/
  duty : List Nat := [0, 0, 0]
  /-- the valley at which the running period started, and the tick of it at which the last reload came (R99, R128) -/
  valleyAt : Nat := 0
  splitAt : Nat := 0
  /-- for each gate, since which tick of the lane's time its demand was on when the last reload came, or when the switching state changed
  last; none while it was off (R101, R113, R128) -/
  rose : List (Option Nat) := [none, none, none, none, none, none]
  /-- the time of the last reload, for the reload cycle of R119 -/
  reloadAt : Option Nat := none
  /-- the masks of the sample instants to come, and the mask of the present one (R127) -/
  maskV : Nat := 7
  maskP : Nat := 7
  mask : Nat := 7
  /-- the group transferred last was clamped (event 14) -/
  clampOn : Bool := false
  /-- a PASSON or PASSOFF waits for the next valley reload (R142, R143) -/
  passReq : Option Bool := none
  /-- when the replica was last calibrated since the reset, the trim of the output lines, and a new trim on its way to them (R105) -/
  calAt : Option Nat := none
  trim : Nat := 64
  trimNew : Option Nat := none
deriving DecidableEq, Repr

/-- The state of the lane's trips that no register holds. -/
structure TripSt where
  /-- the levels of A_TRIP0 to A_TRIP3, each with the time since which it has stood, as far as they are known (R129, R130) -/
  pins : List (Option (Bool × Nat)) := [none, none, none, none]
  /-- the comparators and the chopper fault behind trips 4 to 7 that stand active, one bit each (R129) -/
  raw : Nat := 0
  /-- enabled trip inputs that are active after their filters, one bit each (R130) -/
  input : Nat := 0
  /-- trips that became active inside their blanking windows and are ignored until the window ends (R132) -/
  blanked : Nat := 0
  /-- accepted releases that wait for a valley reload (R137) -/
  release : Nat := 0
  /-- when the windows of MOD_AUX0 to MOD_AUX3 end, while they are open (R131) -/
  aux0 : Option Nat := none
  aux1 : Option Nat := none
  aux2 : Option Nat := none
  aux3 : Option Nat := none
  /-- the ASC action in force on each axis, by its code of MOD_GRPSTAT (R135) -/
  asc0 : Nat := 0
  asc1 : Nat := 0
deriving DecidableEq, Repr

/-! ### The gate driver (spec/05_gate_drive.md) -/

/-- What decides the gates of an axis beside the demand (Table 5.1, R133, R135, R142, R175). -/
structure GateCtl where
  /-- the hard-short latches -/
  hs : Nat := 0
  /-- axis safe state, and the code of its side rule -/
  safe : Bool := false
  side : Nat := 0
  /-- the gate enable -/
  ena : Bool := false
  /-- the legs held off after a refusal -/
  legs : Nat := 0
  /-- the ASC action of a trip, and the actions on the whole axis, its high sides and its low sides -/
  asc : Nat := 0
  whole : Nat := 0
  high : Nat := 0
  low : Nat := 0
  /-- a catch commands the gates; the commutator commands them -/
  catching : Bool := false
  pass : Bool := false
deriving DecidableEq, Repr

/-- The state of the driver die for one axis that no register holds. -/
structure GdSt where
  /-- the latched axis safe state asks for ASC whatever SAFEMODE says (Table 5.4) -/
  asc : Bool := false
  /-- the times of the last interlock refusals, newest first, at most three (R191) -/
  refusals : List Nat := []
  /-- the legs held off after a refusal, bit 0 U (R190) -/
  legs : Nat := 0
  /-- when GD_XCNT_x was last cleared, from which its WIN counts -/
  winFrom : Nat := 0
  /-- the phases that the commutator drove before the last change, and the time of that change (R213) -/
  commWas : Option (Nat × Nat) := none
  commAt : Nat := 0
  /-- the high-side supply headroom has been measured since power-up (R185) -/
  told : Bool := false
  /-- what decided the gates at the last change, when something last changed that decides them or their demands, and when each gate, and the
  command of each gate, was last known to go off up to that change (R192, R202) -/
  ctl : GateCtl := {}
  keptAt : Nat := 0
  offAt : List (Option Nat) := [none, none, none, none, none, none]
  cmdOff : List (Option Nat) := [none, none, none, none, none, none]
deriving DecidableEq, Repr

/-- The state of the DC link, the chopper and the keep-alive watch that no register holds. -/
structure DlSt where
  /-- the start of the running chopper period (R210) -/
  perAt : Nat := 0
  /-- when the on-pulse ends (R210) -/
  onEnd : Nat := 0
  /-- no turn-on of the chopper since OV1 asserted (R211) -/
  first : Bool := false
  /-- when the 2 µs watch of the first turn-on after OV1 expires, while it runs (R211) -/
  watch : Option Nat := none
  /-- when the keep-alive window ends, while the watch is armed (R204, R534) -/
  kaEnd : Option Nat := none
  /-- keep-alive has been lost, and the control link has not resumed since, without a lane reset (R207) -/
  kaLost : Bool := false
  /-- the configuration that the driver die keeps in its own storage while the controller's registers are reset; none while the registers
  give it -/
  cfg : Option (List (Nat × Word)) := none
deriving DecidableEq, Repr

/-! ### Feedback (spec/06_feedback.md) -/

/-- A source of hall codes: the own lines, or one neighbour's pass-through (R234, R235, R595). Angles, speeds and positions are raw
Q24.40. -/
structure HallSrc where
  /-- the present code, and the last legal code since BOOT -/
  code : Nat := 0
  legal : Option Nat := none
  /-- a code has been received -/
  seen : Bool := false
  /-- the legal edges since BOOT or since the end of a hold, newest first, at most seven: time and direction -/
  edges : List (Nat × Int) := []
  /-- the last legal edge: its time, thb, posb and w -/
  tb : Nat := 0
  thb : Int := 0
  posb : Int := 0
  w : Int := 0
  /-- the angle is held at an illegal transition, with the values held (R235) -/
  hold : Bool := false
  heldTh : Int := 0
  heldW : Int := 0
  /-- the times of the last illegal transitions, newest first, at most two (R236) -/
  ills : List Nat := []
  /-- since when every tick has been clean, while a readmission runs (R230) -/
  clean : Option Nat := none
deriving DecidableEq, Repr

/-- The own sine and cosine (R237, R238, R240). -/
structure SinCos where
  /-- an in-window sample has been processed since BOOT, or since the readmission -/
  started : Bool := false
  /-- an in-window sample has been processed since BOOT -/
  booted : Bool := false
  tht : Int := 0
  wt : Int := 0
  phi : Int := 0
  the : Int := 0
  wm : Int := 0
  we : Int := 0
  pos : Int := 0
  /-- the sample instant of the latest in-window sample -/
  tu : Nat := 0
  nout : Nat := 0
  /-- the latest sample had m2 below LO (R252) -/
  low : Bool := true
  clean : Option Nat := none
deriving DecidableEq, Repr

/-- The state of one FB block that no register holds. -/
structure FbSt where
  /-- the hall source of the own lines (R234) -/
  own : HallSrc := {}
  /-- the hall source passed through by the next neighbour (R595) -/
  nextNb : HallSrc := {}
  /-- the hall source passed through by the previous neighbour (R595) -/
  prevNb : HallSrc := {}
  /-- the own sine and cosine (R237, R238, R240) -/
  sc : SinCos := {}
  /-- a source has been selected since BOOT (R229) -/
  selected : Bool := false
  /-- a boundary after ARMING entry has chosen a source or found none (R228, R231) -/
  judged : Bool := false
  /-- the axis is a lost actuator path for want of a source: FB_NOSRC has been raised (R231, R173) -/
  lost : Bool := false
  /-- pos less the count of the source in force, and pos as last evaluated (R229, R240) -/
  base : Int := 0
  pos : Int := 0
  /-- the count of the observer (log entry 24) -/
  obs : Int := 0
  /-- pos at the last tick (R244) -/
  tick : Int := 0
  /-- the code before a supply-pulse mask, while one is in force on the halls, and whether one is on sine and cosine (R253) -/
  maskHall : Option Nat := none
  maskSc : Bool := false
  /-- the raw hall lines (R232, R242) -/
  raw : Nat := 0
deriving DecidableEq, Repr

/-- The state of one AD block that no register holds. -/
structure AdSt where
  /-- the last sample instant (R220) -/
  sampAt : Nat := 0
  /-- the currents of the last sample with two measurable phases, raw Q24.40 (R223) -/
  ia : Int := 0
  ib : Int := 0
  ic : Int := 0
  /-- the values of the last decision, which the observation registers take at a boundary in TABLE drive mode (R255) -/
  dec : List Int := [0, 0, 0, 0]
  /-- the instant of the last conversion that was used, so that one sample with two uses counts once (R219) -/
  takenAt : Option Nat := none
deriving DecidableEq, Repr

/-- The monitor channels: for each source the run of conversions that speak against its bit of AD_MONSTAT (R226). -/
structure MonSt where
  /-- for each monitor source the run of conversions that speak against its bit of AD_MONSTAT (R226) -/
  run : List Nat := List.replicate 16 0
deriving DecidableEq, Repr

/-- A pulse slot under way (R250 to R253): its number, its start, and what was found at 10 µs and 15 µs into it. -/
structure Pulse where
  slot : Nat
  start : Nat
  fell : Bool := false
  crossOk : Bool := false
deriving DecidableEq, Repr

/-- The state of the sensor supplies that no register holds. -/
structure SfSt where
  /-- the running own pulse of supply 0 (R250 to R253) -/
  p0 : Option Pulse := none
  /-- the running own pulse of supply 1 (R250 to R253) -/
  p1 : Option Pulse := none
  /-- the slot of another lane that is checked (R250) -/
  other : Option Pulse := none
deriving DecidableEq, Repr

/-! ### The torque-table engine (spec/04_torque_table_sensorless.md) -/

/-- The state of one TQ engine that no register holds; quantities are raw Q24.40. -/
structure TqSt where
  /-- the engine has made a decision since it started (R148, R153) -/
  started : Bool := false
  /-- the number of decisions since the engine started, the clock of Table 4.5 -/
  n : Nat := 0
  /-- the alpha component of the estimated stator flux (R150) -/
  psAl : Int := 0
  /-- the beta component of the estimated stator flux (R150) -/
  psBe : Int := 0
  /-- the angle of the observer (R150) -/
  thPll : Int := 0
  /-- the speed of the observer (R150) -/
  wPll : Int := 0
  /-- w_pll of the last clean decision (Table 4.5) -/
  wClean : Int := 0
  /-- the values of the last decision, which the observation registers take at a boundary (R178) -/
  te : Int := 0
  /-- the flux magnitude of the last decision (R178) -/
  psi : Int := 0
  /-- the residual of the last decision (R178) -/
  rm : Int := 0
  /-- the PLL residual of the last decision (R178) -/
  rp : Int := 0
  /-- the torque comparator, and the decisions for which the present state has been applied (R153, R158) -/
  ct : Int := 0
  /-- the decisions for which the present state has been applied (R158) -/
  dwell : Nat := 0
  /-- consecutive clean and dirty decisions (R166) -/
  cleanN : Nat := 0
  dirtyN : Nat := 0
  /-- the torque reference delivered by the loop engine (R161) -/
  tref : Int := 0
  /-- the torque reference that the last decision used (R178) -/
  trefU : Int := 0
  /-- when the align, hold and low-speed timers started, in decisions (Table 4.5) -/
  alignAt : Nat := 0
  holdAt : Option Nat := none
  lowAt : Option Nat := none
  /-- the forced angle and speed (R170) -/
  thFo : Int := 0
  wFo : Int := 0
  /-- the electrical speed of the last sensor source (Table 4.5) -/
  wSens : Int := 0
  /-- when CATCH was entered (R175) -/
  catchAt : Nat := 0
  /-- the speed that the catch-or-ASC decision used (R174) -/
  catchW : Int := 0
  /-- the pulses judged in CATCH (R175) -/
  pulses : Nat := 0
  /-- the angle of the last pulse (R175) -/
  phi : Int := 0
  /-- the speed of the last pulse (R175) -/
  wk : Int := 0
  /-- the consistent pulses in a row (R175) -/
  cons : Nat := 0
  /-- when the last catch succeeded (R174) -/
  caughtAt : Option Nat := none
  /-- the times of the last rollbacks, newest first, at most two (R164) -/
  rbTimes : List Nat := []
  /-- the leg transitions of the running millisecond (TQ_SWCNT_x of Table 4.9) -/
  trans : Nat := 0
  /-- the number of the running millisecond (TQ_SWCNT_x of Table 4.9) -/
  transMs : Nat := 0
deriving DecidableEq, Repr

/-! ### The loop engine (spec/02_loop_engine.md) -/

/-- The snapshot of a loop engine at its last input latch (R56): what a rollback gives back of `LeSt`, and of the fields of its registers in
the order of `leSnapFlds`. -/
structure LeSnap where
  intd : Int
  intq : Int
  ints : Int
  intp : Int
  wf : Int
  setpEff : Int
  idref : Int
  iqref : Int
  iqclamp : Bool
  tref : Int
  wref : Int
  vd : Int
  vq : Int
  tout : Int
  nIn : Nat
  req : Option Bool
  openAt : Option Nat
  out : Nat
  clampOn : Bool
  flds : List Nat
deriving DecidableEq, Repr

/-- The state of one loop engine that no register holds; quantities are raw Q24.40. -/
structure LeSt where
  /-- the integrator of the d-axis current loop (R71) -/
  intd : Int := 0
  /-- the integrator of the q-axis current loop (R71) -/
  intq : Int := 0
  /-- the integrator of the speed loop (R71) -/
  ints : Int := 0
  /-- the integrator of the position loop (R71) -/
  intp : Int := 0
  /-- the filtered speed (R64) -/
  wf : Int := 0
  /-- the effective set-point after the slew limit (R64) -/
  setpEff : Int := 0
  /-- the d-axis current reference (R66, R71) -/
  idref : Int := 0
  /-- the q-axis current reference (R66, R71) -/
  iqref : Int := 0
  /-- the q-axis reference was clamped (R71) -/
  iqclamp : Bool := false
  /-- the torque reference of the speed loop (R64) -/
  tref : Int := 0
  /-- the speed reference of the position loop (R64) -/
  wref : Int := 0
  /-- the last vd and vq, and the last torque reference delivered in TABLE drive mode (Table 2.5) -/
  vd : Int := 0
  vq : Int := 0
  /-- the last torque reference delivered in TABLE drive mode (Table 2.5) -/
  tout : Int := 0
  /-- the cascade counter (R63) -/
  nIn : Nat := 0
  /-- a request that waits for the next input latch: true for CLOSE (R77) -/
  req : Option Bool := none
  /-- when the open timer started, while it runs (Table 2.5) -/
  openAt : Option Nat := none
  /-- the gate groups of the axis out of modulator control: bit 0 high sides, 1 low sides, 2 the axis (R189, R138) -/
  out : Nat := 7
  /-- the times of the last rollbacks, newest first, at most two (R94) -/
  rbTimes : List Nat := []
  /-- an envelope bound was binding in the last inner period (Table 2.10) -/
  clampOn : Bool := false
  /-- the snapshot of the last input latch (R56, R92) -/
  snap : Option LeSnap := none
deriving DecidableEq, Repr

/-- The blocks of one axis. -/
structure AxSt where
  le : LeSt := {}
  md : ModSt := {}
  tq : TqSt := {}
  gd : GdSt := {}
  fb : FbSt := {}
  ad : AdSt := {}
deriving DecidableEq, Repr

/-! ### Lane modes, postures, profiles and the degraded budget (spec/01_lanes_modes_faults.md) -/

/-- A profile announced for application at an outer-cycle number (R32). -/
structure ProfApply where
  prof : Nat
  cycle : Nat
deriving DecidableEq, Repr

/-- Why a lane is to enter SAFE-HOLD at the next boundary (Table 1.2). -/
inductive HoldCause where
  | announced
  | armTimeout
  | degBudget
  | windTherm
  | partition
  | temperature
  | vbat
  | quorum
  | vote
deriving DecidableEq, Repr

/-- The lane-mode state that no register holds. -/
structure SySt where
  /-- the lane is held in reset (spec/16_start_up.md R530) -/
  held : Bool := true
  /-- A_VBAT has fallen below 4.5 V, and no power-up has come since: neither AO nor the driver die works (spec/17_package_electrical.md R569) -/
  dead : Bool := false
  /-- how often the lane has entered BOOT (R18) -/
  boots : Nat := 0
  /-- transitions of Table 1.2 that wait for the first boundary after their event (R18) -/
  reqHold : Option HoldCause := none
  reqService : Bool := false
  reqRestart : Bool := false
  /-- an auto-restart is due at the first boundary tick after SAFE-HOLD entry (R20) -/
  autoDue : Bool := false
  /-- a boundary tick has come since that entry (R20) -/
  autoTick : Bool := false
  /-- the entry into ARMING, from which SY_ARMTIME is measured (R18) -/
  armedAt : Nat := 0
  /-- an announced profile change (R32) -/
  apply : Option ProfApply := none
  /-- the profile being prepared (R34) -/
  prep : Option Nat := none
  /-- the preparation's VCORE request has failed (R34) -/
  prepLost : Bool := false
  /-- the present rise of winding 0, raw Q24.40 (R38) -/
  dth0 : Int := 0
  /-- the present rise of winding 1, raw Q24.40 (R38) -/
  dth1 : Int := 0
  /-- the time of the last boundary tick, and the degraded time not yet counted as a millisecond (R37) -/
  lastTick : Nat := 0
  /-- the degraded time not yet counted as a millisecond (R37) -/
  degPart : Nat := 0
  /-- an outer cycle has ended since ARMING entry, so that commits are taken (R536 of 16_start_up) -/
  cycled : Bool := false
  /-- the due instant at which the lane became partitioned (R29) -/
  partAt : Option Nat := none
  /-- the lane has decided to continue while it stays partitioned (R29) -/
  partGone : Bool := false
  /-- since when a die has stayed above SY_THOLD (R49) -/
  hotSince : Option Nat := none
  /-- axes in SAFE-HOLD per axis, held until the next BOOT (R28, R46) -/
  axHeld0 : Bool := false
  axHeld1 : Bool := false
  /-- the announcement in SY_MODE.ANN came in ARMING, OPERATE or DEGRADED; in the other modes it is ignored (R24) -/
  annHeard : Bool := false
  /-- the leader has found the vehicle commands aged on every channel (R49) -/
  cmdAged : Bool := false
  /-- the profile before the one applied last, until the boundary commit at which the CPU divisor follows (R33; R464 of 13) -/
  divFrom : Option Nat := none
  /-- t_th in ms as last computed, while it is finite (R39) -/
  thermRem : Option Nat := none
deriving DecidableEq, Repr

/-! ### A lane, and the module -/

/-- One lane: its registers, its memory and the state of its blocks. -/
structure Lane where
  /-- which lane this is (spec/00_scope.md Table 0.3) -/
  me : LaneId
  /-- the variant of the part (spec/00_scope.md Table 0.3) -/
  part : Part
  /-- the time since power-up in periods of the PLL root, 0.625 ns each (log entry 3) -/
  now : Nat := 0
  /-- the lane's registers, in order of address, without those that hold their reset value -/
  regs : List (Nat × Word) := []
  /-- the bytes of TCM, MRAM, windows and tables, in order of address, without those that read as an unlisted byte -/
  mem : List Host.Cell := []
  /-- how often TCM has lost its contents, which selects the free values an unlisted byte of it reads as (log entry 4) -/
  tcmGen : Nat := 0
  /-- the argument of the next fresh free value: the model's own field (log entry 5) -/
  fresh : Nat := 0
  /-- what the last read returned, and whether the last access ended with a bus error (R578) -/
  rdata : Word := 0#64
  /-- whether the last access ended with a bus error (R578) -/
  busErr : Bool := false
  /-- what the lane has sent on its outputs, oldest first: the model's own record (log entry 3) -/
  out : List Sent := []
  sy : SySt := {}
  pc : PcSt := {}
  gl : GlSt := {}
  fc : FcSt := {}
  sc : ScSt := {}
  hq : HqSt := {}
  tt : TtSt := {}
  cn : CnSt := {}
  ao : AoSt := {}
  pm : PmSt := {}
  pw : PwSt := {}
  st : StSt := {}
  lc : LcSt := {}
  im : ImSt := {}
  saf : SafSt := {}
  trip : TripSt := {}
  dl : DlSt := {}
  mon : MonSt := {}
  sf : SfSt := {}
  ax0 : AxSt := {}
  ax1 : AxSt := {}
deriving DecidableEq, Repr

/-- The module: its variant, its three lanes (an absent lane stays in reset), and the commands that wait, oldest first. -/
structure State where
  /-- the variant of the module (spec/00_scope.md Table 0.3) -/
  part : Part
  la : Lane
  lb : Lane
  lc : Lane
  /-- the commands that wait, first in first out: the model's own queue -/
  pending : List Instr
deriving DecidableEq, Repr

/-- A lane right after power-up of its always-on domain, held in reset (spec/13_power_clocks_wake.md R472, spec/16_start_up.md R530). -/
def Lane.reset (p : Part) (i : LaneId) : Lane := { me := i, part := p }

/-- The module right after power-up (the variant is a DESIGN CHOICE, log entry 1). -/
def State.reset : State where
  part := .apx9603
  la := Lane.reset .apx9603 .A
  lb := Lane.reset .apx9603 .B
  lc := Lane.reset .apx9603 .C
  pending := []

end Sys2Proof.Machine
end

