-- ==== Sys2Proof/Machine/Ops.lean ====
section
/-!
DEFINITION. The named operations over the registers, the memory, the time, the events and the fault messages of a lane.
-/

namespace Sys2Proof

open Machine (Ax)

/-- Whether a lane of the part has an axis (R5 of 00_scope). -/
def Part.hasAxis (p : Part) (x : Ax) : Bool :=
  match p, x with
  | .apx9613, .x1 => false
  | _, _ => true

/-- Whether the module has a lane. -/
def Part.hasLane (p : Part) (i : LaneId) : Bool :=
  match p, i with
  | .apx9602, .C => false
  | _, _ => true

/-- Whether the module has torque-table engines. -/
def Part.hasTq : Part → Bool
  | .apx9613 => false
  | _ => true

/-- The other port. -/
def Port.other : Port → Port
  | .next => .prev
  | .prev => .next

/-- The index of a port, 0 NEXT and 1 PREV (spec/08_leadership_guyline.md, GL_LINK_n). -/
def Port.idx : Port → Nat
  | .next => 0
  | .prev => 1

end Sys2Proof

namespace Sys2Proof.Machine

/-! ### The register file -/

/-- The contents of the register at an address: the entry of the list, or else the reset value. -/
def regGet : List (Nat × Word) → Nat → Word
  | [], a => resetReg a
  | (b, v) :: r, a => if a = b then v else regGet r a

/-- Insertion of a pair into a list in order of address. -/
def insertSorted {α : Type} (a : Nat) (v : α) : List (Nat × α) → List (Nat × α)
  | [] => [(a, v)]
  | (b, w) :: r => if a < b then (a, v) :: (b, w) :: r else (b, w) :: insertSorted a v r

/-- A write of the register at an address: an entry equal to the reset value is left out, so equal register files are equal lists. -/
def regPut (r : List (Nat × Word)) (a : Nat) (v : Word) : List (Nat × Word) :=
  if v = resetReg a then r.filter (fun p => p.1 ≠ a) else insertSorted a v (r.filter (fun p => p.1 ≠ a))

/-- The addresses of a list of pairs rise strictly. -/
def rising {α : Type} : List (Nat × α) → Bool
  | [] => true
  | [_] => true
  | (a, _) :: (b, w) :: r => decide (a < b) && rising ((b, w) :: r)

/-- The canonical form of a register file. -/
def regsWf (r : List (Nat × Word)) : Bool := rising r && r.all (fun p => p.2 ≠ resetReg p.1)

/-- A field of a word. -/
@[irreducible] def getBits (o : Word) (lo w : Nat) : Nat := (o.extractLsb' lo w).toNat

/-- A word with one field replaced. -/
@[irreducible] def setBits (o : Word) (lo w : Nat) (v : Nat) : Word :=
  (o &&& ~~~(((BitVec.allOnes w).setWidth 64) <<< lo)) ||| (((BitVec.ofNat w v).setWidth 64) <<< lo)

/-- The whole register at an address. -/
def Lane.reg (l : Lane) (a : Nat) : Word := regGet l.regs a

/-- The whole register at an address as a message's data. -/
def Lane.dataOf (l : Lane) (a : Nat) : Nat := (l.reg a).toNat

/-- A write of the whole register at an address, by the hardware. -/
def Lane.setReg (l : Lane) (a : Nat) (v : Word) : Lane := { l with regs := regPut l.regs a v }

/-- A field of a register, as an unsigned number. -/
def Lane.rd (l : Lane) (f : Fld) : Nat := getBits (l.reg f.addr) f.lo f.w

/-- A field of a register, as a signed number. -/
def Lane.rdS (l : Lane) (f : Fld) : Int := signed f.w (l.rd f)

/-- Whether a one-bit field is 1. -/
def Lane.on (l : Lane) (f : Fld) : Bool := decide (l.rd f ≠ 0)

/-- A write of a field by the hardware. -/
def Lane.wr (l : Lane) (f : Fld) (v : Nat) : Lane := l.setReg f.addr (setBits (l.reg f.addr) f.lo f.w v)

/-- A write of a field by the hardware, of a signed number. -/
def Lane.wrS (l : Lane) (f : Fld) (v : Int) : Lane := l.wr f (unsign f.w v)

/-- A field becomes 1. -/
def Lane.set (l : Lane) (f : Fld) : Lane := l.wr f 1

/-- A field becomes 0. -/
def Lane.clr (l : Lane) (f : Fld) : Lane := l.wr f 0

/-- A one-bit field takes a truth value. -/
def Lane.put (l : Lane) (f : Fld) (b : Bool) : Lane := l.wr f (if b then 1 else 0)

/-- A counter field steps up and stays at its highest value. -/
def Lane.bump (l : Lane) (f : Fld) : Lane := if l.rd f + 1 < 2 ^ f.w then l.wr f (l.rd f + 1) else l

/-- A 64-bit register as a Q24.40 value. -/
def Lane.q (l : Lane) (f : Fld) : Q := .of (l.rdS f)

/-- A Q24.40 value into its 64-bit register. -/
def Lane.wq (l : Lane) (f : Fld) (v : Q) : Lane := l.wrS f v.raw

/-! ### Memory (spec/18_address_map.md R577 to R583) -/

/-- What an unlisted byte reads as, where that is known: MRAM, the windows and the tables read 0 (R502 of 15_configuration_image for
MRAM; the resets of the windows), a byte of TCM has no known value (log entry 4). -/
@[irreducible] def memDefault (a : Nat) : Option Byte := if a < 0x400000 then none else some 0#8

/-- The listed byte at an address. -/
def memFind : List Host.Cell → Nat → Option Byte
  | [], _ => none
  | (b, v) :: r, a => if a = b then some v else memFind r a

/-- A write of one byte: an entry equal to what an unlisted byte reads as is left out. -/
def memPut (m : List Host.Cell) (a : Nat) (v : Byte) : List Host.Cell :=
  if some v = memDefault a then m.filter (fun p => p.1 ≠ a) else insertSorted a v (m.filter (fun p => p.1 ≠ a))

/-- The canonical form of a memory. -/
def Memory.wf (m : List Host.Cell) : Bool := rising m && m.all (fun p => some p.2 ≠ memDefault p.1)

/-- One byte of the lane's memory; an unlisted byte of TCM is a free value (log entry 4). -/
def Lane.byte (l : Lane) (a : Nat) : Byte :=
  match memFind l.mem a with
  | some v => v
  | none =>
    match memDefault a with
    | some v => v
    | none => Config.tcmByte l.me l.tcmGen a

/-- A write of one byte. -/
def Lane.setByte (l : Lane) (a : Nat) (v : Byte) : Lane := { l with mem := memPut l.mem a v }

/-- `n` bytes from an address upwards. -/
def Lane.bytes (l : Lane) (a : Nat) : Nat → List Byte
  | 0 => []
  | n + 1 => l.byte a :: l.bytes (a + 1) n

/-- A write of bytes from an address upwards. -/
def Lane.setBytes (l : Lane) (a : Nat) : List Byte → Lane
  | [] => l
  | v :: r => (l.setByte a v).setBytes (a + 1) r

/-- The number that bytes spell, least significant byte first (log entry 9). -/
def leNat : List Byte → Nat
  | [] => 0
  | b :: r => b.toNat + 256 * leNat r

/-- The `n` bytes of a number, least significant first. -/
def leBytes : Nat → Nat → List Byte
  | 0, _ => []
  | n + 1, v => BitVec.ofNat 8 v :: leBytes n (v / 256)

/-- The number that bytes spell, most significant byte first. -/
def beNat (l : List Byte) : Nat := l.foldl (fun a b => a * 256 + b.toNat) 0

/-- The `i`-th byte of a list, 0 past its end. -/
def byteAt (l : List Byte) (i : Nat) : Nat := ((l[i]?).getD 0#8).toNat

/-- The field of `n` bytes at an offset of a little-endian payload. -/
def leField (l : List Byte) (i n : Nat) : Nat := leNat ((l.drop i).take n ++ List.replicate (n - (l.length - i)) 0#8)

/-! ### Time (log entry 3) -/

/-- One microsecond, millisecond and nanosecond-step of the PLL root. -/
def usec : Nat := 1600
def msec : Nat := 1600000

/-- The cycle lengths of the clocks, in root periods: CLK_LE and CLK_PWM 400 MHz, CLK_BUS 200 MHz, CLK_PER 100 MHz. -/
def cycLe : Nat := 4
def cycBus : Nat := 8
def cycPer : Nat := 16

/-- Whole nanoseconds of a span of root periods. -/
def toNs (t : Nat) : Nat := t * 5 / 8

/-- The root periods of a number of nanoseconds, rounded up. -/
def ofNs (n : Nat) : Nat := (n * 8 + 4) / 5

/-- Whether a deadline has come. -/
def Lane.due (l : Lane) (t : Nat) : Bool := decide (t ≤ l.now)

/-- Whether the present instant lies in the clock cycle in which a deadline expires: an event that arrives then counts as arrived, and
sets LATE (R13, R14 of 01_lanes_modes_faults). -/
def Lane.inExpiry (l : Lane) (t cyc : Nat) : Bool := decide (t ≤ l.now) && decide (l.now < t + cyc)

/-- One nanosecond of network time. -/
def ntUnit : Int := 512000000000000

/-- The network time, in units of 10^-12/512 ns (spec/12_tt_network.md R410, R427). -/
def Lane.ntFine (l : Lane) : Int :=
  if l.tt.ntRun then l.tt.nt0 + l.tt.add * (((l.now - l.tt.ntAt) / cycPer : Nat) : Int) else l.tt.nt0

/-- The network time in whole nanoseconds, a 64-bit count; every timestamp is read from it (R410). -/
def Lane.ntime (l : Lane) : Nat := ((l.ntFine / ntUnit) % 0x10000000000000000).toNat

/-- Whether a time, in units of 10^-12/512 ns, first reached a mark of every period within the present CLK_PER cycle, in which the network time
advances by ADD (spec/12_tt_network.md R427, log entry 64): the mark and the period are in ns. -/
def Lane.reaches (l : Lane) (t : Int) (mark period : Nat) : Bool :=
  decide ((t - (mark : Int) * ntUnit) % ((period : Int) * ntUnit) < l.tt.add)

/-- Whether the network time first reached a mark of every period within the present CLK_PER cycle. -/
def Lane.ntMark (l : Lane) (mark period : Nat) : Bool := l.reaches l.ntFine mark period

/-- The count so far becomes the base, at the last CLK_PER edge. -/
def Lane.ntRebase (l : Lane) : Lane :=
  { l with tt := { l.tt with nt0 := l.ntFine, ntAt := l.tt.ntAt + cycPer * ((l.now - l.tt.ntAt) / cycPer) } }

/-- Network time moves by a number of units of 10^-12/512 ns. -/
def Lane.ntMove (l : Lane) (d : Int) : Lane :=
  let l := l.ntRebase
  { l with tt := { l.tt with nt0 := l.tt.nt0 + d } }

/-- Whether an address lies in a range. -/
def inRange (a base size : Nat) : Bool := decide (base ≤ a) && decide (a < base + size)

/-- Whether an address lies in MRAM (spec/18_address_map.md Table 18.1). -/
def inMram (p : Part) (a : Nat) : Bool := decide (0x100000000 ≤ a) && decide (a < (if p = .apx9613 then 0x102000000 else 0x104000000))

/-- SC_TICK: the microseconds since BOOT (spec/10_flow_scheduler.md R363). -/
def Lane.scTick (l : Lane) : Nat :=
  if l.sc.tickRun then l.sc.tick0 + (l.now - l.sc.tickAt) / usec else l.sc.tick0

/-- The energy drawn up to now, from AD_MON_6 (10 mV) and AD_MON_7 (mA) as they stood in each microsecond (spec/10_flow_scheduler.md R367): the
bin holds units of 10 pJ. While SC_TICK stands, nothing is added. -/
def Lane.energyAccount (l : Lane) : Lane :=
  if l.sc.tickRun then
    let us := (l.now - l.sc.binAt) / usec
    { l with sc := { l.sc with
      bin := l.sc.bin + us * (l.rd (AD_MON 6) * l.rd (AD_MON 7))
      binAt := l.sc.binAt + us * usec } }
  else l

/-! ### Modes and profiles (R584) -/

/-- The codes of the lane modes. -/
def mBoot : Nat := 0
def mArming : Nat := 1
def mOperate : Nat := 2
def mDegraded : Nat := 3
def mSafeHold : Nat := 4
def mService : Nat := 5

/-- The lane's own mode. -/
def Lane.mode (l : Lane) : Nat := l.rd SY_MODE_OWN

/-- The profile in force: 0 HIGH, 1 BALANCED, 2 QUIET. -/
def Lane.prof (l : Lane) : Nat := l.rd SY_PROF_INF

/-- The outer cycle of a profile, in root periods (Table 1.4). -/
def outerCycle : Nat → Nat
  | 0 => 50 * usec
  | 1 => 100 * usec
  | _ => 400 * usec

/-- The outer cycle of a profile, in microseconds. -/
def outerUs : Nat → Nat
  | 0 => 50
  | 1 => 100
  | _ => 400

/-- The VCORE request of a profile, in mV (Table 1.4). -/
def profMv : Nat → Nat
  | 0 => 800
  | 1 => 750
  | _ => 680

/-- The axes that the lane has. -/
def Lane.axes (l : Lane) : List Ax := if l.part.hasAxis .x1 then [.x0, .x1] else [.x0]

/-- The lane in a port's direction. -/
def Lane.neighbour (l : Lane) : Port → LaneId
  | .next => l.me.next
  | .prev => l.me.prev

/-- The port that faces a lane. -/
def Lane.portOf (l : Lane) (i : LaneId) : Port := if i = l.me.next then .next else .prev

/-- Something the lane sends. -/
def Lane.send (l : Lane) (o : Sent) : Lane := { l with out := l.out ++ [o] }

/-! ### Pending items and events (spec/10_flow_scheduler.md R351) -/

/-- An item among others of its CLK_BUS cycle, in ascending order of flow (R351). -/
def insertFlow (n : Item) : List Item → List Item
  | [] => [n]
  | i :: r => if n.flow < i.flow then n :: i :: r else i :: insertFlow n r

/-- Items that take the stamps of a list in turn. -/
def restamp : List Item → List Nat → List Item
  | i :: r, t :: ts => { i with stamp := t } :: restamp r ts
  | _, _ => []

/-- Whether one 32-bit arrival stamp lies before another, by their distance modulo 2^32 (R351, log entry 17). -/
def stampBefore (a b : Nat) : Bool := decide (a ≠ b) && decide ((b + 2 ^ 32 - a) % 2 ^ 32 < 2 ^ 31)

/-- An occurrence for an item: it is coalesced into the pending item of the same source, or becomes a new item with the next stamp. A
post is never coalesced (Table 10.1). -/
def Lane.arise (l : Lane) (k : ItemKind) (src flow prio : Nat) : Lane :=
  let s := l.sc
  if k ≠ .post ∧ s.items.any (fun i => i.kind = k ∧ i.src = src) then
    if k = .hamper then l
    else
      { l with sc := { s with items := s.items.map (fun i =>
          if i.kind = k ∧ i.src = src then { i with count := if i.count < 255 then i.count + 1 else 255 } else i) } }
  else
    let n : Item := { kind := k, src := src, flow := flow, prio := prio, count := 1, stamp := s.nextStamp, since := l.now }
    let now := fun (i : Item) => decide (i.since / cycBus = l.now / cycBus)
    let same := s.items.filter now
    { l with sc := { s with
        items := s.items.filter (fun i => !now i) ++ restamp (insertFlow n same) (same.map (fun i => i.stamp) ++ [s.nextStamp])
        nextStamp := (s.nextStamp + 1) % 2 ^ 32 } }

/-- The sources that occurred in the CLK_BUS cycle that runs now. -/
def Lane.evHere (l : Lane) : List Nat := if l.sc.evCyc = l.now / cycBus then l.sc.evNow else []

/-- An occurrence of an event source noted with its CLK_BUS cycle (SY_EVSTAT_k of 18_address_map). -/
def Lane.evNote (l : Lane) (s : Nat) : Lane :=
  { l with sc := { l.sc with
      evCyc := l.now / cycBus
      evNow := if l.evHere.contains s then l.evHere else s :: l.evHere } }

/-- The bits of an event bank, by its address, whose sources occurred in the CLK_BUS cycle that runs now; no other register has any. -/
def Lane.evFresh (l : Lane) (a : Nat) : Nat :=
  l.evHere.foldl (fun m s => if a = (SY_EVSTAT_EV (s / 32)).addr then m ||| 2 ^ (s % 32) else m) 0

/-- An occurrence of an event source: its bit of SY_EVSTAT sets, and the flow scheduler takes it where SC_EVMAP maps it (R351, and R587
of 18_address_map). -/
def Lane.event (l : Lane) (s : Nat) : Lane :=
  let a := SY_EVSTAT_EV (s / 32)
  let l := l.wr a ((l.rd a) ||| (2 ^ (s % 32)))
  let l := l.evNote s
  if l.on (SC_EVMAP_EN s) then l.arise .event s (l.rd (SC_EVMAP_FLOW s)) 0 else l

/-! ### Fault messages (spec/09_fault_collection.md R317 to R322) -/

/-- The classes of Table 9.3, by their codes. -/
def clsCE : Nat := 1
def clsUC : Nat := 2
def clsFT : Nat := 3

/-- The source IDs of Table 9.4 (R322). -/
def srcSY : Nat := 0x001
def srcPD : Nat := 0x002
def srcCK : Nat := 0x003
def srcPM : Nat := 0x004
def srcWK : Nat := 0x005
def srcFC : Nat := 0x006
def srcPC : Nat := 0x007
def srcGL : Nat := 0x008
def srcSC : Nat := 0x009
def srcHQ : Nat := 0x00A
def srcHP : Nat := 0x00B
def srcTT : Nat := 0x00C
def srcCN : Nat := 0x00D
def srcST : Nat := 0x00E
def srcLC : Nat := 0x00F
def srcSF : Nat := 0x010
def srcDL : Nat := 0x011
def srcTM : Nat := 0x020
def srcMC : Nat := 0x021
def srcBI : Nat := 0x022
def srcDE : Nat := 0x023
def srcLE : Nat := 0x040
def srcMOD : Nat := 0x041
def srcTQ : Nat := 0x042
def srcGD : Nat := 0x043
def srcFB : Nat := 0x044
def srcAD : Nat := 0x045

/-- The fields of a message (Table 9.1). -/
def msgSrc (m : Word) : Nat := getBits m 54 10
def msgKind (m : Word) : Nat := getBits m 48 6
def msgClass (m : Word) : Nat := getBits m 46 2
def msgAxv (m : Word) : Nat := getBits m 43 1
def msgAxis (m : Word) : Nat := getBits m 42 1

/-- A message of this lane: source, kind, class, the axis it concerns if it concerns one, and its data (Tables 9.1 and 9.2). -/
@[irreducible] def Lane.mkMsg (l : Lane) (src kind cls : Nat) (x : Option Ax) (data : Nat) : Word :=
  BitVec.ofNat 64 (src * 2 ^ 54 + kind * 2 ^ 48 + cls * 2 ^ 46 + l.me.code * 2 ^ 44 +
    (match x with | none => 0 | some a => 2 ^ 43 + a.idx * 2 ^ 42) + data % 2 ^ 40)

/-- The messages of a source that wait. -/
def Lane.waiting (l : Lane) (src : Nat) : Nat := (l.fc.wait.filter (fun m => msgSrc m.bits = src)).length

/-- A message is presented at the collector's input: a CE message that finds both places of its source taken is dropped and counted; a UC
or FT message is never dropped (R320). -/
def Lane.present (l : Lane) (m : Msg) : Lane :=
  if msgClass m.bits = clsCE ∧ 2 ≤ l.waiting (msgSrc m.bits) then l.bump FC_DROP_CE
  else { l with fc := { l.fc with wait := l.fc.wait ++ [m] } }

/-- A block raises a kind. -/
def Lane.raise (l : Lane) (src kind cls : Nat) (x : Option Ax) (data : Nat) : Lane :=
  l.present ⟨l.mkMsg src kind cls x data, false⟩

/-- The key under which a kind is raised at most once per outer cycle. -/
def ceKey (src kind : Nat) (x : Option Ax) : Nat × Nat × Nat :=
  (src, kind, match x with | none => 2 | some a => a.idx)

/-- A block raises a kind at most once per outer cycle (R51 of 01_lanes_modes_faults, log entry 7). -/
def Lane.raiseOnce (l : Lane) (src kind cls : Nat) (x : Option Ax) (data : Nat) : Lane :=
  if l.fc.ceDone.contains (ceKey src kind x) then l
  else
    let l := l.raise src kind cls x data
    { l with fc := { l.fc with ceDone := ceKey src kind x :: l.fc.ceDone } }

/-! ### The Hampers (spec/11_hamper_host.md) -/

/-- A Hamper of the lane. -/
def HqSt.get (s : HqSt) : Nat → Hamper
  | 0 => s.h0
  | 1 => s.h1
  | 2 => s.h2
  | 3 => s.h3
  | 4 => s.h4
  | 5 => s.h5
  | 6 => s.h6
  | _ => s.h7

/-- The Hampers with one replaced. -/
def HqSt.set (s : HqSt) (i : Nat) (h : Hamper) : HqSt :=
  match i with
  | 0 => { s with h0 := h }
  | 1 => { s with h1 := h }
  | 2 => { s with h2 := h }
  | 3 => { s with h3 := h }
  | 4 => { s with h4 := h }
  | 5 => { s with h5 := h }
  | 6 => { s with h6 := h }
  | _ => { s with h7 := h }

/-- QUEUED: the entries that wait, the replay list among them (R381). -/
def Hamper.queued (h : Hamper) : Nat := h.queue.length + h.replay.length

/-- OCC: queued and taken entries (R381). -/
def Hamper.occ (h : Hamper) : Nat := h.queued + h.log.length

/-- Whether a Hamper is non-empty (R381). -/
def Lane.hamperHolds (l : Lane) (i : Nat) : Bool := decide ((l.hq.get i).queued ≠ 0)

/-! ### CRC-32C (spec/12_tt_network.md R417): polynomial 0x1EDC6F41, reflected, initial value and final XOR all ones -/

/-- One bit of the reflected division. -/
def crcBit (c : BitVec 32) : BitVec 32 := if c.getLsbD 0 then (c >>> 1) ^^^ 0x82F63B78#32 else c >>> 1

/-- One byte of the reflected division. -/
def crcByte (c : BitVec 32) (b : Byte) : BitVec 32 :=
  crcBit (crcBit (crcBit (crcBit (crcBit (crcBit (crcBit (crcBit (c ^^^ b.setWidth 32))))))))

/-- The CRC-32 of Ethernet over a list of bytes, the same division by the polynomial 0x04C11DB7. -/
def crc32 (l : List Byte) : BitVec 32 :=
  let bit := fun (c : BitVec 32) => if c.getLsbD 0 then (c >>> 1) ^^^ 0xEDB88320#32 else c >>> 1
  l.foldl (fun c b => (List.range 8).foldl (fun c _ => bit c) (c ^^^ b.setWidth 32)) 0xFFFFFFFF#32 ^^^ 0xFFFFFFFF#32

/-- CRC-32C of a list of bytes. -/
def crc32c (l : List Byte) : Nat := (l.foldl crcByte 0xFFFFFFFF#32 ^^^ 0xFFFFFFFF#32).toNat

/-! ### Guyline messages as they stand on the link (spec/08_leadership_guyline.md R291, Table 8.1) -/

end Sys2Proof.Machine

namespace Sys2Proof

open Machine (leBytes crc32c)

/-- The zeros that fill a payload up to whole blocks of 8 bytes. -/
def padOf (n : Nat) : List Byte := List.replicate ((8 - n % 8) % 8) 0#8

/-- What the CRC-32C of a message covers: the header, the payload and the padding. -/
def GlMsg.covered (m : GlMsg) : List Byte :=
  leBytes 1 m.type ++ leBytes 1 m.route ++ leBytes 2 m.len ++ leBytes 4 m.cycle ++ leBytes 4 m.epoch ++ leBytes 2 m.chunk ++
    leBytes 2 m.chunks ++ m.payload ++ m.pad

/-- A message with its trailer: the CRC-32C in bytes 0 to 3, and zeros. -/
def GlMsg.sealed (m : GlMsg) : GlMsg := { m with trailer := crc32c m.covered }

/-- Whether the CRC-32C of a message checks. -/
def GlMsg.intact (m : GlMsg) : Bool := decide (m.trailer % 2 ^ 32 = crc32c m.covered)

/-- Whether the payload has the length that LEN gives, at most 256 bytes, and is padded to whole blocks. -/
def GlMsg.measured (m : GlMsg) : Bool :=
  decide (m.len ≤ 256) && decide (m.payload.length = m.len) && decide (m.pad.length = (8 - m.len % 8) % 8)

/-- The blocks that a message occupies. -/
def GlMsg.blocks (m : GlMsg) : Nat := 3 + (m.len + 7) / 8

end Sys2Proof

namespace Sys2Proof.Machine

/-! ### The lanes of the module -/

/-- The lane of an identity. -/
def State.lane (s : State) : LaneId → Lane
  | .A => s.la
  | .B => s.lb
  | .C => s.lc

/-- The module with one lane replaced. -/
def State.setLane (s : State) : LaneId → Lane → State
  | .A, l => { s with la := l }
  | .B, l => { s with lb := l }
  | .C, l => { s with lc := l }

/-- A command takes effect in one lane; a lane the module does not have takes none (R5 of 00_scope). -/
def State.onLane (s : State) (i : LaneId) (f : Lane → Lane) : State :=
  if s.part.hasLane i then s.setLane i (f (s.lane i)) else s

/-- The outcome of a command that takes effect in one lane, whatever it is held in. -/
def State.actAo (s : State) (i : LaneId) (f : Lane → Lane) : Host.Outcome State Fault Refusal := .next (s.onLane i f)

/-- The outcome of a command that needs no clock of the PLL root: a lane held in reset keeps its state (R530 of 16_start_up). -/
def State.actWake (s : State) (i : LaneId) (f : Lane → Lane) : Host.Outcome State Fault Refusal :=
  .next (s.onLane i (fun l => if l.sy.held then l else f l))

/-- Whether a lane is out of reset with its clocks running. -/
def Lane.clocks (l : Lane) : Bool := !l.sy.held && !l.pw.stopped

/-- The outcome of a change at a pin: the lane keeps its level whatever it is in; what the change does needs what `ok` says. -/
def State.actPin (s : State) (i : LaneId) (ok : Lane → Bool) (pin f : Lane → Lane) : Host.Outcome State Fault Refusal :=
  s.actAo i (fun l => if ok l then f l else pin l)

/-- The outcome of a command that takes effect in one lane: a lane held in reset, or without its clocks, keeps its state (R530 of
16_start_up, R454 of 13_power_clocks_wake). -/
def State.act (s : State) (i : LaneId) (f : Lane → Lane) : Host.Outcome State Fault Refusal :=
  s.actWake i (fun l => if l.pw.stopped then l else f l)

/-! ### Axes and power domains -/

/-- The blocks of an axis. -/
def Lane.ax (l : Lane) : Ax → AxSt
  | .x0 => l.ax0
  | .x1 => l.ax1

/-- The lane with the blocks of an axis replaced. -/
def Lane.setAx (l : Lane) : Ax → AxSt → Lane
  | .x0, a => { l with ax0 := a }
  | .x1, a => { l with ax1 := a }

/-- An event source of an axis bank (R97, R145, R180, R216, R258). -/
def Lane.eventAx (l : Lane) (x : Ax) (off : Nat) : Lane := l.event (32 + 32 * x.idx + off)

/-- The power domains of Table 13.1 (spec/13_power_clocks_wake.md R446). -/
inductive Dom where
  | cp
  | le (x : Ax)
  | pg (x : Ax)
  | fb
  | nw
deriving DecidableEq, Repr

/-- The number of a domain, in the order of SC_PDAUTO. -/
def Dom.idx : Dom → Nat
  | .cp => 0
  | .le x => 1 + x.idx
  | .pg x => 3 + x.idx
  | .fb => 5
  | .nw => 6

/-- The state of a domain by its number: 0 ON, 1 RETAIN, 2 OFF, 3 in transition (PD_STAT.STATE). -/
def Lane.domState (l : Lane) (d : Nat) : Nat := l.rd PD_STAT_STATE / 4 ^ d % 4

/-- Whether a domain is ON: one that is not performs none of its functions (R450). -/
def Lane.domOn (l : Lane) (d : Dom) : Bool := decide (l.domState d.idx = 0)

/-- The outcome of a command that takes effect in one lane, in a domain of it. -/
def State.actD (s : State) (i : LaneId) (d : Dom) (f : Lane → Lane) : Host.Outcome State Fault Refusal :=
  s.act i (fun l => if l.domOn d then f l else l)

/-- The outcome of a command of a block of an axis: an absent axis takes none (R5 of 00_scope). -/
def State.actX (s : State) (i : LaneId) (x : Ax) (d : Dom) (f : Lane → Lane) : Host.Outcome State Fault Refusal :=
  s.actD i d (fun l => if l.part.hasAxis x then f l else l)

/-- A read that returns a value. -/
def Lane.returns (l : Lane) (v : Word) : Lane := { l with rdata := v, busErr := false }

/-- A core access to a domain that is not ON and not on its way there (spec/13_power_clocks_wake.md R450). -/
def Lane.offAccess (l : Lane) (a : Nat) : Lane := ((l.set PD_STAT_OFFACC).raiseOnce srcPD 2 clsCE none a).event 161

/-- Whether a domain is on its way to ON. -/
def Lane.coming (l : Lane) (d : Dom) : Bool := l.pw.moves.any (fun m => m.dom = d.idx && m.target = 0)

/-- A core access to a register or memory of a domain that is not ON (R450): it waits while the domain is on its way to ON, and otherwise
completes at once, a read with 0. -/
def Lane.downAccess (l : Lane) (d : Dom) (r : RegAcc) : Lane :=
  if l.coming d then { l with pw := { l.pw with waits := l.pw.waits ++ [r] } }
  else if r.val.isSome then l.offAccess r.addr else (l.offAccess r.addr).returns 0#64

/-- The access that writes a value. -/
def wrAcc (a n : Nat) (v : Word) : RegAcc := ⟨a, n, some v⟩

/-- The access that writes 1 into some bits of a 32-bit register, and 0 into the others. -/
def bitAcc (a m : Nat) : RegAcc := wrAcc a 4 (BitVec.ofNat 64 m)

/-- The outcome of a command that is a core access to a register of a domain. -/
def State.accD (s : State) (i : LaneId) (d : Dom) (r : RegAcc) (f : Lane → Lane) : Host.Outcome State Fault Refusal :=
  s.act i (fun l => if l.domOn d then f l else l.downAccess d r)

/-- The outcome of a command that is a core access to a register of a block of an axis: the registers of an absent axis ignore writes (R5 of
00_scope). -/
def State.accX (s : State) (i : LaneId) (x : Ax) (d : Dom) (r : RegAcc) (f : Lane → Lane) : Host.Outcome State Fault Refusal :=
  s.act i (fun l => if l.part.hasAxis x then (if l.domOn d then f l else l.downAccess d r) else l)

/-- A step over a list of lane operations. -/
def Lane.each {α : Type} (l : Lane) (xs : List α) (f : Lane → α → Lane) : Lane := xs.foldl f l

/-- An operation that applies where a condition holds. -/
def Lane.when (l : Lane) (c : Bool) (f : Lane → Lane) : Lane := if c then f l else l

end Sys2Proof.Machine
end

