-- ==== Sys2Proof/Machine/Share.lean ====
section
/-!
DEFINITION. The lanes that a lane counts, and the torque shares that follow from them (spec/01_lanes_modes_faults.md R25, R26;
spec/08_leadership_guyline.md R299, R301, R310, R311).
-/

namespace Sys2Proof.Machine

/-! ### Other lanes -/

/-- What the lane knows of a lane. -/
def GlSt.peer (s : GlSt) : LaneId → Peer
  | .A => s.pa
  | .B => s.pb
  | .C => s.pc

/-- What the lane knows of a lane, replaced. -/
def Lane.setPeer (l : Lane) (i : LaneId) (p : Peer) : Lane :=
  match i with
  | .A => { l with gl := { l.gl with pa := p } }
  | .B => { l with gl := { l.gl with pb := p } }
  | .C => { l with gl := { l.gl with pc := p } }

/-- The fields of a lane in GL_LANES, and of its mode in SY_MODE. -/
def laneCause (i : LaneId) : Fld := ⟨GL_LANES_CAUSEA.addr, 8 * i.code + 5, 3⟩
def laneMode (i : LaneId) : Fld := ⟨GL_LANES_CAUSEA.addr, 8 * i.code + 2, 3⟩
def laneLive (i : LaneId) : Fld := ⟨GL_LANES_CAUSEA.addr, 8 * i.code + 1, 1⟩
def laneHeard (i : LaneId) : Fld := ⟨GL_LANES_CAUSEA.addr, 8 * i.code, 1⟩
def laneVrdy (i : LaneId) : Fld := ⟨GL_LANES_CAUSEA.addr, 24 + i.code, 1⟩
def syModeOf (i : LaneId) : Fld := ⟨SY_MODE_OWN.addr, 16 + 4 * i.code, 3⟩

/-- The other lanes of the module. -/
def Lane.others (l : Lane) : List LaneId := [l.me.next, l.me.prev].filter l.part.hasLane

/-- The watch of a neighbour's Lantern: 0 OFF, 1 UNSEEN, 2 TOGGLING, 3 STOPPED (FC_LANTSTAT). -/
def Lane.watchOf (l : Lane) (i : LaneId) : Nat :=
  match l.portOf i with
  | .next => l.rd FC_LANTSTAT_NEXT
  | .prev => l.rd FC_LANTSTAT_PREV

/-- The modes in which a lane is live, and in which it is counted (R299, R25). -/
def modeLive (m : Nat) : Bool := decide (1 ≤ m) && decide (m ≤ 3)
def modeCounts (m : Nat) : Bool := decide (m = 2) || decide (m = 3)

/-- Whether a lane is counted live; each lane counts itself by its own mode (R299). -/
def Lane.isLive (l : Lane) (i : LaneId) : Bool := if i = l.me then modeLive l.mode else l.on (laneLive i)

/-- Whether a lane is counted in OPERATE or DEGRADED (R25, R26). -/
def Lane.isCounted (l : Lane) (i : LaneId) : Bool := if i = l.me then modeCounts l.mode else (l.gl.peer i).counted

/-- Whether a lane delivers torque on an axis, as this lane counts it (R25). -/
def Lane.delivers (l : Lane) (i : LaneId) (x : Ax) : Bool :=
  l.isCounted i && (if i = l.me then l.rd (GD_STAT_SAFE x) = 0 && l.part.hasAxis x else (l.gl.peer i).axdel.testBit x.idx)

/-- The lanes of the module, in their order. -/
def Lane.lanes (l : Lane) : List LaneId := [LaneId.A, .B, .C].filter l.part.hasLane

/-- A mask of the lanes that satisfy a test. -/
def Lane.laneMask (l : Lane) (f : LaneId → Bool) : Nat := l.lanes.foldl (fun a i => if f i then a + 2 ^ i.code else a) 0

/-- The rank that a lane reports. -/
def Lane.rankOf (l : Lane) (i : LaneId) : Nat := if i = l.me then l.rd GL_CFG_RANK else (l.gl.peer i).rank

/-- Whether a lane outranks another; of equal ranks the earlier lane does (R301). -/
def Lane.outranks (l : Lane) (a b : LaneId) : Bool :=
  decide (l.rankOf a < l.rankOf b) || (decide (l.rankOf a = l.rankOf b) && decide (a.code < b.code))

/-! ### Torque sharing (R310, R311) -/

/-- The windows of COMMAND payloads and the copy buffers (Table 8.9). -/
def txCmd : Nat := 0xF00070100
def rxCmd : Nat := 0xF00070200
def cpBuf (n : Nat) : Nat := 0xF00078000 + 0x2000 * n

/-- The SHARE field of a lane in the last COMMAND; 1 before the first (R310). -/
def Lane.shareField (l : Lane) (i : LaneId) (x : Ax) : Q :=
  if l.gl.cmdSeen then .of (signed 64 (leNat (l.bytes (rxCmd + 24 + 32 * i.code + 16 * x.idx) 8))) else Q.one

/-- The share of this lane on an axis (R310). -/
def Lane.shareCalc (l : Lane) (x : Ax) : Q :=
  let d := l.lanes.filter (fun i => l.delivers i x)
  if d.contains l.me then
    let sum := d.foldl (fun a i => a.add (l.shareField i x)) Q.zero
    if 0 < sum.raw then (l.shareField l.me x).div sum else Q.one.div (Q.int d.length)
  else Q.zero

/-- GL_SHARE_x is computed again; a change drives the event (R311). -/
def Lane.glShares (l : Lane) : Lane :=
  l.each l.axes (fun l x =>
    let v := l.shareCalc x
    if l.rdS (GL_SHARE x.idx) = v.raw then l else (l.wq (GL_SHARE x.idx) v).event 177)

/-! ### SAFE-HOLD per axis (spec/01_lanes_modes_faults.md R28, R46) -/

/-- Whether an axis is held until the next BOOT. -/
def Lane.axHeld (l : Lane) : Ax → Bool
  | .x0 => l.sy.axHeld0
  | .x1 => l.sy.axHeld1

/-- The axis is marked as held until the next BOOT. -/
def Lane.markHeld (l : Lane) (x : Ax) : Lane :=
  match x with
  | .x0 => { l with sy := { l.sy with axHeld0 := true } }
  | .x1 => { l with sy := { l.sy with axHeld1 := true } }

/-- Whether two lanes counted have an actuator-path fault on an axis (R46). -/
def Lane.twoFaults (l : Lane) (x : Ax) : Bool := decide (2 ≤ (l.lanes.filter (fun i => l.isCounted i && !l.delivers i x)).length)

/-- What an entry of an own axis into axis safe state changes at once: the lanes that deliver torque on it, with them the share, and the hold
of R46 where the fault is the second on the axis (R311). -/
def Lane.axisLost (l : Lane) (x : Ax) : Lane := (l.when (l.twoFaults x) (fun l => l.markHeld x)).glShares

end Sys2Proof.Machine
end

