-- ==== Sys2Proof/Machine/Gates.lean ====
section
/-!
DEFINITION. The gates of an axis as they are read from the state: the gate groups and the sensorless codes, the on-intervals of a period and
the demand (spec/03_modulator.md R100, R101, R107), the modulator's output with its dead time and its trip actions (R108 step 6, R113, R133,
R135), the internal commutator (spec/05_gate_drive.md R213, R214), and the precedence of the driver die with its minimum gap (Table 5.1,
R188, R192, R202). Gates are numbered as in Table 3.1.
-/

namespace Sys2Proof.Machine

/-! ### Gate groups, the states of the sensorless start, and the configuration of the driver die -/

/-- The action in force on a group, by its code: 0 none, 1 HOLD, 2 OFF, 3 ASC-LOW, 4 ASC-HIGH (MOD_GRPSTAT). -/
def Lane.grpCode (l : Lane) (k : Nat) : Nat := l.rd MOD_GRPSTAT_GRP / 8 ^ k % 8

/-- The first group of an axis: the high sides; the low sides and the whole axis follow it (R133). -/
def axGroup (x : Ax) : Nat := 3 * x.idx

/-- The sensorless states of TQ_STAT_x.SLSTATE. -/
def slOff : Nat := 0

def slAlign : Nat := 1

def slRamp : Nat := 2

def slRun : Nat := 3

def slCatch : Nat := 4

def slFailed : Nat := 5

/-- A field as the die holds it: the copy of its own storage while the controller's registers are reset. -/
def Lane.dieRd (l : Lane) (f : Fld) : Nat :=
  match l.dl.cfg with
  | some r => getBits (regGet r f.addr) f.lo f.w
  | none => l.rd f

/-- Whether a one-bit field that the die holds is 1. -/
def Lane.dieOn (l : Lane) (f : Fld) : Bool := decide (l.dieRd f ≠ 0)

/-- The ASC action in force on an axis (R135). -/
def TripSt.asc (t : TripSt) : Ax → Nat
  | .x0 => t.asc0
  | .x1 => t.asc1

/-! ### The on-intervals of a period (Table 3.3) -/

/-- The sources of MOD_CFG_x.SRC (R103). -/
def srcIsLe (l : Lane) (x : Ax) : Bool := decide (l.rd (MOD_CFG_SRC x) = 0)

def srcIsDirect (l : Lane) (x : Ax) : Bool := decide (l.rd (MOD_CFG_SRC x) = 1)

def srcIsTable (l : Lane) (x : Ax) : Bool := decide (l.rd (MOD_CFG_SRC x) = 2)

/-- The compares of a gate in the active stage, rising and falling. -/
def actR (x : Ax) (n : Nat) : Fld := ⟨(MOD_ACMPR_TAP x n).addr, 0, 25⟩

def actF (x : Ax) (n : Nat) : Fld := ⟨(MOD_ACMPF_TAP x n).addr, 0, 25⟩

/-- The on-interval of a gate: its compares, in a period of `p` ticks (R100). -/
structure Ival where
  cr : Nat
  cf : Nat
deriving DecidableEq, Repr

/-- The on-time of an interval. -/
def Ival.len (i : Ival) (p : Nat) : Nat := if i.cr < i.cf then i.cf - i.cr else if i.cr > i.cf then p - i.cr + i.cf else 0

/-- Whether the demand of an interval is on at a tick of the period (R100). -/
def Ival.at (i : Ival) (t : Nat) : Bool :=
  if i.cr < i.cf then decide (i.cr ≤ t) && decide (t < i.cf)
  else if i.cf < i.cr then decide (i.cr ≤ t) || decide (t < i.cf)
  else false

/-- The tick of the period from which a demand that is on at a tick has been on; 0 where it came over the valley. -/
def Ival.since (i : Ival) (t : Nat) : Nat := if i.cr ≤ t then i.cr else 0

/-- Always on, and always off. -/
def Ival.full (p : Nat) : Ival := ⟨0, p⟩

def Ival.none (p : Nat) : Ival := ⟨p / 2, p / 2⟩

/-- The low side as the complement of its high side. -/
def Ival.complement (i : Ival) (p : Nat) : Ival :=
  if i.len p = 0 then Ival.full p else if i.len p = p then Ival.none p else ⟨i.cf, i.cr⟩

/-- Step 4 in the LE source, with the sampling shift of the phase. -/
def leIval (on p s : Nat) : Ival :=
  if on = 0 then Ival.none p else if on = p then Ival.full p else ⟨p / 2 - on / 2 - s, p / 2 - on / 2 - s + on⟩

/-! ### The demand of the gates (R100, R101, R107, R141) -/

/-- The tick of the running period at the present instant. While HRDEG, each edge falls on the CLK_PWM edge below it, so that the whole CLK_PWM
cycle shows what its end would show (R107). -/
def Lane.pwmTick (l : Lane) (x : Ax) : Nat :=
  let t := 16 * (l.now - (l.ax x).md.valleyAt)
  Nat.min (if l.on (MOD_STAT_HRDEG x) then t / 64 * 64 + 63 else t) (l.rd (MOD_PERA_TICKS x) - 1)

/-- The compares of a gate in the active stage. -/
def Lane.gateIval (l : Lane) (x : Ax) (n : Nat) : Ival := ⟨l.rd (actR x n), l.rd (actF x n)⟩

/-- Since when the demand of a gate had been on at the last reload, or change of the switching state. -/
def ModSt.roseAt (m : ModSt) (n : Nat) : Option Nat := (m.rose[n]?).getD none

/-- Since which tick of the lane's time the demand of a gate has been on at a tick of the running period; none while it is off. A demand that a
transfer changes rises at the instant of the reload (R101). -/
def Lane.demandAt (l : Lane) (x : Ax) (t n : Nat) : Option Nat :=
  let m := (l.ax x).md
  let i := l.gateIval x n
  if m.running = false then none
  else if srcIsTable l x then m.roseAt n
  else if i.at t then
    let s := i.since t
    some (if s ≤ m.splitAt then (m.roseAt n).getD (16 * m.valleyAt + m.splitAt) else 16 * m.valleyAt + s)
  else none

/-- The demand of a gate at the present instant. -/
def Lane.demand (l : Lane) (x : Ax) (n : Nat) : Option Nat := l.demandAt x (l.pwmTick x) n

/-! ### The output of the modulator -/

/-- The delay of a gate's rising demand edges (R108, step 6). -/
def Lane.deadTime (l : Lane) (x : Ax) (n : Nat) : Nat := if n % 2 = 0 then l.dieRd (MOD_DT_DTH x) else l.dieRd (MOD_DT_DTL x)

/-- A gate under the demand of the active group, or of the switching state: on once its demand has stood for the dead time (R108 step 6, R113,
R141). -/
def Lane.driven (l : Lane) (x : Ax) (n : Nat) : Bool :=
  match l.demand x n with
  | some r => decide (r + l.deadTime x n ≤ 16 * (l.ax x).md.valleyAt + l.pwmTick x) || decide (r + l.deadTime x n ≤ 16 * l.now)
  | none => false

/-- Whether a catch applies V0 at the present decision (R175, steps 1 and 2). -/
def Lane.catchPulsing (l : Lane) (x : Ax) : Bool :=
  let d := (l.ax x).tq.n - (l.ax x).tq.catchAt
  let per := l.rd (TQ_CATCH_PER x)
  decide (per ≤ d) && decide (d % per < l.rd (TQ_CATCH_PW x))

/-! ### The internal commutator (R142, R213, R214) -/

/-- The high phase and the low phase of a hall code with DIR = 0, U 0, V 1, W 2 (Table 5.7); none for an illegal code. -/
def commRow : Nat → Option (Nat × Nat)
  | 5 => some (0, 2)
  | 4 => some (1, 2)
  | 6 => some (1, 0)
  | 2 => some (2, 0)
  | 3 => some (2, 1)
  | 1 => some (0, 1)
  | _ => none

/-- The commutation state that the die drives: the phase that switches with the PWM and the phase whose low side is on; none while every gate
is off (R213, R214). -/
def Lane.commutation (l : Lane) (x : Ax) : Option (Nat × Nat) :=
  match commRow (l.rd (GD_COMM_HALL x)) with
  | some (h, w) => if l.dieOn (MOD_PASS_DIR x) then some (w, h) else some (h, w)
  | none => none

/-- The PWM of a passthrough: round(DUTY / 32,768 × P), about the peak as step 4 of Table 3.3 places an on-time (the place is a DESIGN CHOICE,
log entry 63). -/
def Lane.passIval (l : Lane) (x : Ax) : Ival :=
  let p := l.rd (MOD_PERA_TICKS x)
  leIval (Nat.min p ((2 * l.dieRd (MOD_PASS_DUTY x) * p + 32768) / 65536)) p 0

/-- Whether an interval that repeats every period has been on for a time. -/
def Ival.steady (i : Ival) (p t d : Nat) : Bool :=
  i.at t && (decide (i.len p = p) || decide (d ≤ (if i.cr ≤ t then t - i.cr else t + p - i.cr)))

/-- A gate under the commutator: the high phase switches with the PWM and its complement, each rising edge after the dead time, the low side
of the low phase is on, and the third phase is off; a gate that a change of the commutation turns on waits for its dead time. -/
def Lane.commGate (l : Lane) (x : Ax) (n : Nat) : Bool :=
  match l.commutation x with
  | none => false
  | some (h, w) =>
    let p := l.rd (MOD_PERA_TICKS x)
    let dt := l.deadTime x n
    let kept := match (l.ax x).gd.commWas with
      | some (h0, w0) => (decide (n / 2 = h) && decide (h0 = h)) || (decide (n / 2 = w) && decide (w0 = w))
      | none => false
    (kept || decide (16 * (l.ax x).gd.commAt + dt ≤ 16 * l.now)) &&
      (if n / 2 = h then (if n % 2 = 0 then l.passIval x else (l.passIval x).complement p).steady p (l.pwmTick x) dt
       else decide (n / 2 = w) && decide (n % 2 = 1))

/-! ### The gates -/

/-- What decides a gate beside its demand, at the present instant: the conditions of rank 1 to 4 of Table 5.1, the trip actions in force on the
axis, and whether a catch or the commutator commands it. -/
def Lane.gateCtl (l : Lane) (x : Ax) : GateCtl :=
  { hs := l.rd (GD_TRIPSTAT_HS x), safe := l.on (GD_STAT_SAFE x), side := l.rd (GD_STAT_SIDE x), ena := l.on (GD_STAT_ENA x)
    legs := (l.ax x).gd.legs, asc := l.trip.asc x, whole := l.grpCode (axGroup x + 2), high := l.grpCode (axGroup x)
    low := l.grpCode (axGroup x + 1), catching := decide (l.rd (TQ_STAT_SLSTATE x) = slCatch), pass := l.on (GD_STAT_PASS x) }

/-- Whether a trip action holds a gate off: OFF or HOLD on its side or on the whole axis (R133). -/
def GateCtl.tripHeld (c : GateCtl) (n : Nat) : Bool := decide (c.whole ≠ 0) || decide ((if n % 2 = 0 then c.high else c.low) ≠ 0)

/-- What a gate is commanded to be: an ASC action, OFF or HOLD of a trip (R135), a catch (R175), the commutator in passthrough (R142), or
else the demand. -/
def Lane.lineUnder (l : Lane) (x : Ax) (c : GateCtl) (n : Nat) : Bool :=
  match c.asc with
  | 3 => decide (n % 2 = 1)
  | 4 => decide (n % 2 = 0)
  | _ =>
    if c.tripHeld n then false
    else if c.catching then decide (n % 2 = 1) && l.catchPulsing x
    else if c.pass then l.commGate x n
    else l.driven x n

/-- What a gate is commanded to be at the present instant. -/
def Lane.line (l : Lane) (x : Ax) (n : Nat) : Bool := l.lineUnder x (l.gateCtl x) n

/-- The other gate of a leg. -/
def otherGate (n : Nat) : Nat := if n % 2 = 0 then n + 1 else n - 1

/-- The minimum gap of a leg, 20 ns. -/
def gateGap : Nat := 32

/-- A gate by the ranks of Table 5.1 other than the minimum gap: the hard-short latch, axis safe state by the side rule, the gate enable, the
interlock with its hold, and the command (R188, R190, R200). -/
def Lane.gateRanked (l : Lane) (x : Ax) (c : GateCtl) (n : Nat) : Bool :=
  if c.hs.testBit n then false
  else if c.safe then (if c.side = 1 then decide (n % 2 = 1) else if c.side = 2 then decide (n % 2 = 0) else false)
  else if c.ena = false then false
  else if c.legs.testBit (n / 2) then false
  else l.lineUnder x c n && !l.lineUnder x c (otherGate n)

/-- What the minimum gap runs from: in axis safe state the gate itself (R202), and else its command (R192). -/
def Lane.gapSource (l : Lane) (x : Ax) (c : GateCtl) (gate : Bool) (n : Nat) : Bool := if gate then l.gateRanked x c n else l.lineUnder x c n

/-- When a gate, or its command, last went off, as far as the minimum gap asks: the present instant while it is on, unless a change
of this very instant put it on; else the end of the instants of the last 20 ns at which it was on, since the last change; else what that change
noted. -/
def Lane.lastOff (l : Lane) (x : Ax) (c : GateCtl) (gate : Bool) (n : Nat) : Option Nat :=
  let g := (l.ax x).gd
  if decide (g.keptAt < l.now) && l.gapSource x c gate n then some l.now
  else
    match (List.range (Nat.min (gateGap - 1) (l.now - g.keptAt))).find?
      (fun k => ({ l with now := l.now - (k + 1) } : Lane).gapSource x c gate n) with
    | some k => some (l.now - k)
    | none => ((if gate then g.offAt else g.cmdOff)[n]?).getD none

/-- Whether the minimum gap holds a gate off: the other gate of its leg, or the command of that gate, went off less than 20 ns ago (rank 5, R192,
R202). A gate is taken as off with what turns it off; its fall below 2 V is not computed (log entry 62). -/
def Lane.gapHeld (l : Lane) (x : Ax) (c : GateCtl) (n : Nat) : Bool :=
  match l.lastOff x c c.safe (otherGate n) with
  | some t => decide (l.now < t + gateGap)
  | none => false

/-- A gate as the driver die sets it under what decides it, by the highest-ranked condition of Table 5.1 (R188, R190, R192, R200, R202). -/
def Lane.gateUnder (l : Lane) (x : Ax) (c : GateCtl) (n : Nat) : Bool := l.gateRanked x c n && !l.gapHeld x c n

/-- A gate at the present instant. -/
def Lane.gate (l : Lane) (x : Ax) (n : Nat) : Bool := l.gateUnder x (l.gateCtl x) n

/-- The six gates of an axis, one bit each. -/
def Lane.gates (l : Lane) (x : Ax) : Nat := (List.range 6).foldl (fun a n => if l.gate x n then a + 2 ^ n else a) 0

/-- Something that decides the gates of an axis is about to change: when each gate and each command last went off is noted, from which the
minimum gap of their legs runs (R192, R202). -/
def Lane.gateMark (l : Lane) (x : Ax) : Lane :=
  let g := (l.ax x).gd
  let last := fun gate => (List.range 6).map (l.lastOff x g.ctl gate)
  l.setAx x { l.ax x with gd := { g with keptAt := l.now, offAt := last true, cmdOff := last false } }

/-- What decides the gates of an axis has changed. An on edge of a command that the minimum gap then delays counts in GD_XCNT_x.DTCLIP (R192);
a change into ASC of axis safe state is sequenced by R202 and counts nothing (DESIGN CHOICE, log entry 62). -/
def Lane.gateNote (l : Lane) (x : Ax) : Lane :=
  let old := (l.ax x).gd.ctl
  let c := l.gateCtl x
  if old = c then l
  else
    let l := l.gateMark x
    let l := l.setAx x { l.ax x with gd := { (l.ax x).gd with ctl := c } }
    l.each (List.range 6) (fun l n =>
      l.when (!c.safe && l.gateRanked x c n && !l.gateRanked x old n && l.gapHeld x c n) (fun l => l.bump (GD_XCNT_DTCLIP x)))

end Sys2Proof.Machine
end

