-- ==== Sys2Proof/Machine/Gate.lean ====
section
/-!
DEFINITION. The gate driver: gate enable, axis safe state and its side rule, the interlock, hard shorts, the keep-alive and the internal
commutator (spec/05_gate_drive.md), and what leaving modulator control does to the loop (spec/02_loop_engine.md Table 2.5) and to the
sensorless state (spec/04_torque_table_sensorless.md Table 4.5).
-/

namespace Sys2Proof.Machine

/-! ### The parts of an axis replaced -/

def Lane.setLe (l : Lane) (x : Ax) (v : LeSt) : Lane := l.setAx x { l.ax x with le := v }
def Lane.setMd (l : Lane) (x : Ax) (v : ModSt) : Lane := l.setAx x { l.ax x with md := v }
def Lane.setTq (l : Lane) (x : Ax) (v : TqSt) : Lane := l.setAx x { l.ax x with tq := v }
def Lane.setGd (l : Lane) (x : Ax) (v : GdSt) : Lane := l.setAx x { l.ax x with gd := v }
def Lane.setFb (l : Lane) (x : Ax) (v : FbSt) : Lane := l.setAx x { l.ax x with fb := v }
def Lane.setAd (l : Lane) (x : Ax) (v : AdSt) : Lane := l.setAx x { l.ax x with ad := v }

/-! ### Gate groups and modulator control (R138 of 03_modulator, R189) -/

/-- The action in force on a group replaced. -/
def Lane.setGrpCode (l : Lane) (k c : Nat) : Lane :=
  l.wr MOD_GRPSTAT_GRP (l.rd MOD_GRPSTAT_GRP - l.grpCode k * 8 ^ k + c * 8 ^ k)

/-- The gate groups of an axis that have left modulator control: bit 0 the high sides, 1 the low sides, 2 the axis. A condition of rank 1
to 3, passthrough or CATCH takes all three (R138, R175, R189). -/
def Lane.groupsOut (l : Lane) (x : Ax) : Nat :=
  if l.rd (GD_TRIPSTAT_HS x) ≠ 0 ∨ l.on (GD_STAT_SAFE x) ∨ l.rd (GD_STAT_ENA x) = 0 ∨ l.on (GD_STAT_PASS x) ∨
      l.rd (TQ_STAT_SLSTATE x) = slCatch then 7
  else
    (if 2 ≤ l.grpCode (axGroup x) then 1 else 0) + (if 2 ≤ l.grpCode (axGroup x + 1) then 2 else 0) +
      (if 2 ≤ l.grpCode (axGroup x + 2) then 4 else 0)

/-! ### What it does to the loop (Table 2.5) -/

/-- The codes of LE_STAT_x.STATE. -/
def leOpen : Nat := 0
def leClosed : Nat := 1
def leFault : Nat := 2

/-- The open timer, in µs: LE_OPENTIME_x while it runs (Table 2.5). -/
def Lane.openUs (l : Lane) (x : Ax) : Nat :=
  match (l.ax x).le.openAt with
  | some t => (l.now - t) / usec
  | none => l.rd (LE_OPENTIME_USED_US x)

/-- The open timer stops; LE_OPENTIME_x holds its last value. -/
def Lane.openStop (l : Lane) (x : Ax) : Lane :=
  (l.wr (LE_OPENTIME_USED_US x) (l.openUs x)).setLe x { (l.ax x).le with openAt := none }

/-- The open timer starts at 0. -/
def Lane.openStart (l : Lane) (x : Ax) : Lane :=
  (l.wr (LE_OPENTIME_USED_US x) 0).setLe x { (l.ax x).le with openAt := some l.now }

/-- A change of SLSTATE drives its event (R180). -/
def Lane.slSet (l : Lane) (x : Ax) (v : Nat) : Lane :=
  if l.rd (TQ_STAT_SLSTATE x) = v then l else (l.wr (TQ_STAT_SLSTATE x) v).eventAx x 26

/-- The loop leaves CLOSED: ALIGN and RAMP end (Table 4.5). -/
def Lane.slLeave (l : Lane) (x : Ax) : Lane :=
  if l.rd (TQ_STAT_SLSTATE x) = slAlign ∨ l.rd (TQ_STAT_SLSTATE x) = slRamp then l.slSet x slOff else l

/-- A gate group of the axis leaves modulator control: the loop is OPEN with FORCED = 1 and LE_OPENOUT_x = 0 (R77). -/
def Lane.leForce (l : Lane) (x : Ax) : Lane :=
  let was := l.rd (LE_STAT_STATE x)
  let l := ((l.openStop x).wr (LE_OPENOUT0 x) 0).wr (LE_OPENOUT1 x) 0
  let l := (l.set (LE_STAT_FORCED x)).wr (LE_STAT_STATE x) leOpen
  if was = leClosed then (l.eventAx x 2).slLeave x else l

/-- All gate groups of the axis are back under modulator control (R77). -/
def Lane.leReturn (l : Lane) (x : Ax) : Lane :=
  if l.on (LE_STAT_FORCED x) then (l.clr (LE_STAT_FORCED x)).openStart x else l

/-- A change at the gates of an axis is noted, and the loop follows the gate groups (Table 2.5); in FAULT the loop does not change. -/
def Lane.leSettle (l : Lane) (x : Ax) : Lane :=
  let l := l.gateNote x
  let old := (l.ax x).le.out
  let new := l.groupsOut x
  let l := l.setLe x { (l.ax x).le with out := new }
  if l.rd (LE_STAT_STATE x) = leFault then l
  else if new &&& (7 - old % 8) ≠ 0 then l.leForce x
  else if new = 0 then l.leReturn x
  else l

/-! ### What it does to the sensorless state (Table 4.5) -/

/-- Axis safe state, or loop FAULT, takes any sensorless state to FAILED (Table 4.5); a catch under way ends (Table 4.11). -/
def Lane.slFail (l : Lane) (x : Ax) : Lane :=
  if l.part.hasTq then
    let was := l.rd (TQ_STAT_SLSTATE x)
    let l := l.slSet x slFailed
    if was = slCatch then l.eventAx x 25 else l
  else l

/-! ### The configuration of the driver die -/

/-- The registers whose contents the die holds (GD, DL, the dead times, the passthrough command and the routing of trip 6). -/
def dieReg (a : Nat) : Bool :=
  a = (MOD_TRIPMAP_GRP 6).addr || [Ax.x0, Ax.x1].any (fun x => a = (MOD_DT_DTL x).addr || a = (MOD_PASS_DIR x).addr) ||
  (decide (0xF00100000 ≤ a) && decide (a < 0xF00100020)) ||
  [0xF01030000, 0xF01130000].any (fun b => decide (b ≤ a) && decide (a < b + 0x1C))

/-- The copy that the die keeps over a reset of the controller; an older one stays. -/
def Lane.dieCopy (l : Lane) : Option (List (Nat × Word)) := some (l.dl.cfg.getD (l.regs.filter (fun p => dieReg p.1)))

/-! ### The side rule (R200) -/

/-- The high-side gates of a mask of Table 3.1, and the low-side ones. -/
def highSides (m : Nat) : Nat := m &&& 21
def lowSides (m : Nat) : Nat := m &&& 42

/-- The side rule: the code of GD_STAT_x.SIDE, and whether all gates are off in place of a required ASC. `asc` tells that the entry asks
for ASC, `off` that SAFEMODE is OFF. -/
def sideRule (hs : Nat) (cpuv asc off : Bool) : Nat × Bool :=
  if hs = 0 then (if off && !asc then (3, false) else (1, false))
  else if lowSides hs = 0 then (1, false)
  else if highSides hs = 0 then (if cpuv then (3, true) else (2, false))
  else (3, true)

/-- The side rule is evaluated on an axis in axis safe state; each rise of NOSAFE raises GD_NOSAFE (R200). -/
def Lane.sideEval (l : Lane) (x : Ax) : Lane :=
  if l.rd (GD_STAT_SAFE x) = 0 then l
  else
    let r := sideRule (l.rd (GD_TRIPSTAT_HS x)) (l.on (GD_STAT_CPUV x)) (l.ax x).gd.asc (l.dieOn (GD_CFG_SAFEMODE x))
    let rose := r.2 && decide (l.rd (GD_STAT_NOSAFE x) = 0)
    let l := (l.wr (GD_STAT_SIDE x) r.1).put (GD_STAT_NOSAFE x) r.2
    if rose then l.raise srcGD 2 clsUC (some x) (l.dataOf (GD_TRIPSTAT_HS x).addr) else l

/-- An entry into axis safe state with its cause (R199): the first entry is recorded, and a later one can still ask for ASC. -/
def Lane.safeEnter (l : Lane) (x : Ax) (cause : Nat) (asc : Bool) : Lane :=
  let first := decide (l.rd (GD_STAT_SAFE x) = 0)
  let g := (l.ax x).gd
  let l := l.setGd x { g with asc := asc || (g.asc && !first) }
  let l := if first then (((l.set (GD_STAT_SAFE x)).wr (GD_STAT_CAUSE x) cause).eventAx x 30).axisLost x else l
  (l.sideEval x).slFail x

/-- Whether the trip 6 routing names the AX group of an axis (R212). -/
def Lane.ov2Routed (l : Lane) (x : Ax) : Bool := (l.dieRd (MOD_TRIPMAP_GRP 6)).testBit (axGroup x + 2)

/-- While OV2 is asserted, a routed axis that the die holds off enters axis safe state with ASC (R212). -/
def Lane.ov2Check (l : Lane) (x : Ax) : Lane :=
  if l.on DL_STAT_OV2 ∧ l.ov2Routed x ∧
      ((l.rd (GD_STAT_SAFE x) = 0 ∧ l.rd (GD_STAT_ENA x) = 0) ∨
        (l.on (GD_STAT_SAFE x) ∧ l.rd (GD_STAT_SIDE x) = 3 ∧ l.rd (GD_STAT_NOSAFE x) = 0)) then
    (l.set (GD_STAT_OV2OVR x)).safeEnter x 9 true
  else l

/-- After a change at the gates of an axis: OV2, then the loop. -/
def Lane.gateSettle (l : Lane) (x : Ax) : Lane := (l.ov2Check x).leSettle x

/-- A request for axis safe state, from whatever asks for it. -/
def Lane.axisSafe (l : Lane) (x : Ax) (cause : Nat) (asc : Bool) : Lane := (l.safeEnter x cause asc).gateSettle x

/-! ### Gate enable (R186, R187) -/

/-- Whether a request for the gate enable is refused (R186). -/
def Lane.enableRefused (l : Lane) (x : Ax) : Bool :=
  (l.mode ≠ mOperate && l.mode ≠ mDegraded && l.mode ≠ mArming) ||
  (l.mode = mArming && !l.on (GD_CFG_ARMEN x)) ||
  (decide (l.rd (GD_SNSRATIO_N x) = 0) || decide (l.rd (GD_OCTH_AMPS x) = 0) || decide (l.rd (MOD_ENVD_DMAX x) = 0))

/-- GD_CTL_x.EN. In ARMING no request reaches the driver die before its check has ended (spec/16_start_up.md R539): one that came sooner changes
nothing (log entry 58). -/
def Lane.gateEnable (l : Lane) (x : Ax) : Lane :=
  if l.mode = mArming ∧ l.im.gdRun ≠ 0 then l
  else if l.enableRefused x then (l.set (GD_STAT_ENREJ x)).raiseOnce srcGD 7 clsCE (some x) (l.dataOf SY_MODE_OWN.addr)
  else (l.set (GD_STAT_ENA x)).gateSettle x

/-- The gate enable drops: GD_CTL_x.DIS, or a lane mode that has none (R187). -/
def Lane.gateDrop (l : Lane) (x : Ax) : Lane := (l.clr (GD_STAT_ENA x)).gateSettle x

/-- The lane mode leaves OPERATE, DEGRADED and ARMING: the gate enable drops on every axis (R187). -/
def Lane.gateDropAll (l : Lane) : Lane := l.each l.axes Lane.gateDrop

/-- GD_CTL_x.CNTCLR (R190, R214). -/
def Lane.gdCntClr (l : Lane) (x : Ax) : Lane :=
  let l := (l.wr (GD_XCNT_DTCLIP x) 0).wr (GD_XCNT_TOTAL x) 0
  (l.setGd x { (l.ax x).gd with winFrom := l.now }).wr (GD_COMM_ILL x) 0

/-! ### The interlock (R190 to R192) -/

/-- GD_XCNT_x as it reads, with the refusals of the last 1 ms since it was cleared. -/
def Lane.xcnt (l : Lane) (x : Ax) : Nat :=
  let ts := (l.ax x).gd.refusals.filter (fun t => decide ((l.ax x).gd.winFrom ≤ t) && decide (l.now ≤ t + msec))
  (l.wr (GD_XCNT_WIN x) ts.length).dataOf (GD_XCNT_WIN x).addr

/-- A refused command state of a leg: the leg is held off to the next valley, and a refusal 1 ms or less after the one three before it is an
axis fault (R190, R191). -/
def Lane.interlock (l : Lane) (x : Ax) (leg : Nat) : Lane :=
  let g := (l.ax x).gd
  let fourth := match g.refusals with
    | [_, _, t] => decide (l.now - t ≤ msec)
    | _ => false
  let l := (l.setGd x { g with legs := g.legs ||| 2 ^ leg, refusals := (l.now :: g.refusals).take 3 }).gateNote x
  let l := (l.set (GD_STAT_XHOLD x)).bump (GD_XCNT_TOTAL x)
  let l := (l.raiseOnce srcGD 3 clsUC (some x) (l.xcnt x)).eventAx x 29
  if fourth then (l.raise srcGD 4 clsUC (some x) (l.xcnt x)).axisSafe x 2 true else l

/-- A valley reload of the axis ends the interlock refusal holds (R190). -/
def Lane.interlockEnd (l : Lane) (x : Ax) : Lane := ((l.setGd x { (l.ax x).gd with legs := 0 }).gateNote x).clr (GD_STAT_XHOLD x)

/-! ### Hard shorts, the high-side supply and the keep-alive -/

/-- A switch's sense current crosses its hard-short threshold (R196). -/
def Lane.hardShort (l : Lane) (x : Ax) (gate : Nat) : Lane :=
  let before := l.rd (GD_TRIPSTAT_HS x)
  let l := l.wr (GD_TRIPSTAT_HS x) (before ||| 2 ^ gate)
  let l := l.safeEnter x 1 true
  let l := if before.testBit gate then l else
    (l.raise srcGD 1 clsUC (some x) (l.rd (GD_TRIPSTAT_HS x) + 256 * l.rd (GD_STAT_SIDE x))).eventAx x 28
  l.gateSettle x

/-- VG − 2.0 V, in mV (R185). -/
def Lane.cpuvLevel (l : Lane) (x : Ax) : Nat := if l.dieOn (GD_CFG_VG x) then 10000 else 8000

/-- CPUV follows the headroom measured last, and the side rule is evaluated (R185, R200). -/
def Lane.cpuvEval (l : Lane) (x : Ax) : Lane :=
  let was := l.on (GD_STAT_CPUV x)
  let new := decide (l.rd (GD_CPMON_MV x) < l.cpuvLevel x)
  let l := l.put (GD_STAT_CPUV x) new
  let l := if new && !was then (l.raise srcGD 6 clsUC (some x) (l.dataOf (GD_CPMON_MV x).addr)).eventAx x 31 else l
  (l.sideEval x).gateSettle x

/-- The lowest high-side supply headroom of an axis changes (R185). -/
def Lane.cpuvChange (l : Lane) (x : Ax) (mv : Nat) : Lane :=
  ((l.wr (GD_CPMON_MV x) mv).setGd x { (l.ax x).gd with told := true }).cpuvEval x

/-- The locked configuration reaches the die: it takes the place of the copy that it kept, and what depends on it is evaluated again (R185,
R200). -/
def Lane.dieLoad (l : Lane) : Lane :=
  let l := { l with dl := { l.dl with cfg := none } }
  l.each l.axes (fun l x => if (l.ax x).gd.told then l.cpuvEval x else l.gateSettle x)

/-- The keep-alive window: 150 cycles of the 80 MHz oscillator (R204, at its nominal rate, log entry 16). -/
def kaWindow : Nat := 3000
def kaCycle : Nat := 20

/-- No valid keep-alive arrived within the window: both axes enter axis safe state with their SAFEMODE (R205). -/
def Lane.keepAliveLoss (l : Lane) : Lane :=
  match l.dl.kaEnd with
  | some t =>
    if l.due t then
      let l := { l with dl := { l.dl with kaEnd := none, kaLost := true } }
      l.each l.axes (fun l x => ((l.set (GD_STAT_KALOSS x)).axisSafe x 3 false).eventAx x 31)
    else l
  | none => l

/-- A valid keep-alive arrives: the watch is armed again; one in the expiry cycle sets LATE, and the first after a loss without a lane reset
raises GD_KALOSS (R206, R207, R534). -/
def Lane.keepAlive (l : Lane) : Lane :=
  let late := match l.dl.kaEnd with
    | some t => l.inExpiry t kaCycle
    | none => false
  let lost := l.dl.kaLost
  let l := { l with dl := { l.dl with kaEnd := some (l.now + kaWindow), kaLost := false } }
  let l := if late then l.each l.axes (fun l x => l.set (GD_STAT_LATE x)) else l
  if lost then l.raise srcGD 5 clsFT none (l.dataOf (GD_STAT_ENA .x0).addr) else l

/-! ### The internal commutator (R213, R214) -/

/-- An operation that may change the commutation: the phases driven before it and its time are kept, because a gate that turns on then waits
for its dead time (R213). -/
def Lane.commChange (l : Lane) (x : Ax) (f : Lane → Lane) : Lane :=
  let was := if l.on (GD_STAT_PASS x) then l.commutation x else none
  let g := ((l.gateMark x).ax x).gd
  let l := f l
  if l.commutation x = was then l
  else l.setGd x { (l.ax x).gd with commWas := was, commAt := l.now, keptAt := g.keptAt, offAt := g.offAt, cmdOff := g.cmdOff }

/-- A hall code reaches the commutator (R213, R214); an illegal one is counted. -/
def Lane.commHall (l : Lane) (x : Ax) (code : Nat) : Lane :=
  if l.rd (GD_STAT_PASS x) = 0 then l
  else
    let l := l.commChange x (fun l => l.wr (GD_COMM_HALL x) code)
    match commRow code with
    | some _ => l
    | none =>
      let l := l.bump (GD_COMM_ILL x)
      l.raiseOnce srcGD 8 clsCE (some x) (l.dataOf (GD_COMM_ILL x).addr)

/-! ### What the die does on its own supply and clock (R181, R205) -/

/-- A change in the die while the lane is held in reset: the die's latches, measurements and timers change; the controller takes part in
nothing. -/
def Lane.dieOnly (l : Lane) (f : Lane → Lane) : Lane :=
  let d := f l
  let r := [Ax.x0, Ax.x1].flatMap (fun x => [GD_STAT_ENA x, GD_TRIPSTAT_HS x, GD_CPMON_MV x]) ++ [DL_STAT_OV1, DL_CNT_OV1]
  let l := l.each r (fun l f => l.setReg f.addr (d.reg f.addr))
  let l := { l with dl := d.dl, trip := { l.trip with raw := d.trip.raw } }
  l.each [Ax.x0, Ax.x1] (fun l x => l.setGd x (d.ax x).gd)

/-- What an event in the die does to a lane: while the lane is held in reset the die alone changes, and without its supply nothing
(spec/17_package_electrical.md R569). -/
def Lane.inDie (l : Lane) (f : Lane → Lane) : Lane := if l.sy.held then (if l.sy.dead then l else l.dieOnly f) else f l

/-- The outcome of an event in the driver die, which times its watches on an oscillator of its own and acts without the controller (R181). -/
def State.actDie (s : State) (i : LaneId) (f : Lane → Lane) : Host.Outcome State Fault Refusal := s.actAo i (fun l => l.inDie f)

/-! ### The meanings -/

def execGateEnableRequest (i : LaneId) (x : Ax) (s : State) : Host.Outcome State Fault Refusal :=
  s.accX i x (.pg x) (bitAcc (GD_CTL_EN x).addr 1) (fun l => l.gateEnable x)
def execGateEnableDrop (i : LaneId) (x : Ax) (s : State) : Host.Outcome State Fault Refusal :=
  s.accX i x (.pg x) (bitAcc (GD_CTL_EN x).addr 2) (fun l => l.gateDrop x)
def execGdSafeRequest (i : LaneId) (x : Ax) (s : State) : Host.Outcome State Fault Refusal :=
  s.accX i x (.pg x) (bitAcc (GD_CTL_EN x).addr 4) (fun l => l.axisSafe x 8 false)
def execGdCntclr (i : LaneId) (x : Ax) (s : State) : Host.Outcome State Fault Refusal :=
  s.accX i x (.pg x) (bitAcc (GD_CTL_EN x).addr 8) (fun l => l.gdCntClr x)
def execInterlockRefusal (i : LaneId) (x : Ax) (leg : Fin 3) (s : State) : Host.Outcome State Fault Refusal :=
  s.actX i x (.pg x) (fun l => l.interlock x leg)
def execMinimumGapDelay (i : LaneId) (x : Ax) (s : State) : Host.Outcome State Fault Refusal :=
  s.actX i x (.pg x) (fun l => l.bump (GD_XCNT_DTCLIP x))
def execHardShort (i : LaneId) (x : Ax) (gate : Fin 6) (s : State) : Host.Outcome State Fault Refusal :=
  s.actDie i (fun l => if l.part.hasAxis x then l.hardShort x gate else l)
def execCpuvChange (i : LaneId) (x : Ax) (mv : BitVec 16) (s : State) : Host.Outcome State Fault Refusal :=
  s.actDie i (fun l => if l.part.hasAxis x then l.cpuvChange x mv.toNat else l)
def execKeepAliveLoss (i : LaneId) (s : State) : Host.Outcome State Fault Refusal := s.actDie i Lane.keepAliveLoss
def execKeepAliveReceive (i : LaneId) (s : State) : Host.Outcome State Fault Refusal :=
  s.actDie i (fun l => if l.pw.rootLost || l.sy.held then l else l.keepAlive)

end Sys2Proof.Machine
end

