-- ==== Sys2Proof/Machine/Feedback.lean ====
section
/-!
DEFINITION. Current and position feedback: the scaled currents, the monitor channels, hall, sine-and-cosine and neighbour sources, the
choice of the position source, and position compare (spec/06_feedback.md R217 to R247).
-/

namespace Sys2Proof.Machine

/-! ### Numbers -/

/-- A span of root periods in seconds, to the nearest value (R53). -/
def spanQ (t : Int) : Q := Q.sat (Q.roundDiv (t * 625 * Q.unit) 1000000000000) false

/-- π/3, rounded (R55). -/
def piThird : Q := Q.div Q.pi (Q.int 3)

/-- A fraction of a full turn, raw / 65,536. -/
def turnQ (v : Nat) : Q := ⟨Q.roundDiv ((v : Int) * Q.twoPiRaw) 65536, false⟩

/-- The sign of a value. -/
def signQ (a : Q) : Q := if a.raw > 0 then Q.one else if a.raw < 0 then Q.neg Q.one else Q.zero

/-! ### Converters (R217 to R219, R223) -/

/-- The converted currents and link voltage of an axis, as the AD block scales them (R218). -/
structure AdVals where
  ia : Q
  ib : Q
  ic : Q
  vdc : Q
deriving DecidableEq, Repr

/-- A scaled phase current (R218). -/
def Lane.adCurrent (l : Lane) (x : Ax) (n : Nat) (code : BitVec 14) : Q :=
  ((Q.int code.toInt).sub (Q.int (l.rdS (AD_IOFS x n)))).mul (l.q (AD_IGAIN x n))

/-- The scaled sample (R218). -/
def Lane.adScale (l : Lane) (x : Ax) (c : AdcCodes) : AdVals :=
  ⟨l.adCurrent x 0 c.u, l.adCurrent x 1 c.v, l.adCurrent x 2 c.w, (Q.int c.link.toNat).mul (l.q (AD_VGAIN x))⟩

/-- Whether a code is at the end of its range (R219). -/
def clipped (c : AdcCodes) : Bool :=
  [c.u, c.v, c.w].any (fun k => decide (k.toInt = -8192) || decide (k.toInt = 8191)) || decide (c.link.toNat = 16383)

/-- A conversion that is used: its codes are kept, and a clipped sample is counted, once where the loop engine and the estimation part use the
same sample at one latch (R219, R222). -/
def Lane.adTake (l : Lane) (x : Ax) (c : AdcCodes) : Lane :=
  let l := (l.wr (AD_RAW_CODE x 0) (unsign 16 c.u.toInt)).wr (AD_RAW_CODE x 1) (unsign 16 c.v.toInt)
  let l := (l.wr (AD_RAW_CODE x 2) (unsign 16 c.w.toInt)).wr (AD_RAW_CODE x 3) c.link.toNat
  let again := decide ((l.ax x).ad.takenAt = some l.now)
  let l := l.setAd x { (l.ax x).ad with takenAt := some l.now }
  if clipped c && !again then
    let l := (l.set (AD_STAT_CLIP x)).bump (AD_CNT_CLIP x)
    l.raiseOnce srcAD 1 clsCE (some x) (l.dataOf (AD_CNT_CLIP x).addr)
  else l

/-- The currents that a mask of measurable phases leaves: all three, one of them rebuilt from the others, or the last ones used (R223). -/
def maskCurrents (m : Nat) (v : AdVals) (old : AdSt) : AdVals :=
  match m % 8 with
  | 7 => v
  | 3 => { v with ic := (v.ia.add v.ib).neg }
  | 5 => { v with ib := (v.ia.add v.ic).neg }
  | 6 => { v with ia := (v.ib.add v.ic).neg }
  | _ => { v with ia := .of old.ia, ib := .of old.ib, ic := .of old.ic }

/-- The currents of the loop engine at a sample instant, with what the AD block records (R223, R255). -/
def Lane.adSample (l : Lane) (x : Ax) (c : AdcCodes) : Lane :=
  let m := (l.ax x).md.mask % 8
  let l := l.adTake x c
  let v := maskCurrents m (l.adScale x c) (l.ax x).ad
  let l := if m = 7 then l else if m = 3 ∨ m = 5 ∨ m = 6 then l.bump (AD_CNT_RECON x)
    else (l.set (AD_STAT_HELD x)).bump (AD_CNT_HELD x)
  let l := l.setAd x { (l.ax x).ad with ia := v.ia.raw, ib := v.ib.raw, ic := v.ic.raw }
  (((l.wq (AD_IA x) v.ia).wq (AD_IB x) v.ib).wq (AD_IC x) v.ic).wq (AD_VDC x) v.vdc

/-! ### Monitor channels (R225, R226) -/

/-- Whether a value of a monitor source lies outside its bounds; temperatures are signed (Table 6.3). -/
def Lane.monOut (l : Lane) (n v : Nat) : Bool :=
  let lo := l.rd (AD_MONLIM_LO n)
  let hi := l.rd (AD_MONLIM_HI n)
  if lo = 0 ∧ hi = 0 then false
  else if n < 6 then decide (signed 16 v < signed 16 lo) || decide (signed 16 hi < signed 16 v)
  else decide (v < lo) || decide (hi < v)

/-- Whether some die is above SY_THOLD (Table 1.8). -/
def Lane.dieHot (l : Lane) : Bool := (List.range 6).any (fun n => decide (l.rdS SY_THOLD_T < l.rdS (AD_MON n)))

/-- One conversion of a monitor source (R225, R226), and the watch of the die temperatures (Table 1.8). -/
def Lane.monitor (l : Lane) (n v : Nat) : Lane :=
  if 14 ≤ n then l
  else
    let l := l.energyAccount.wr (AD_MON n) v
    let bit := (l.rd AD_MONSTAT_OUT).testBit n
    let against := decide (l.monOut n v ≠ bit)
    let r := if against then (l.mon.run[n]?).getD 0 + 1 else 0
    let l := { l with mon := { l.mon with run := l.mon.run.set n (if r < 8 then r else 0) } }
    let l := if r < 8 then l
      else if bit then l.wr AD_MONSTAT_OUT (l.rd AD_MONSTAT_OUT - 2 ^ n)
      else
        let l := l.wr AD_MONSTAT_OUT (l.rd AD_MONSTAT_OUT + 2 ^ n)
        l.raiseOnce srcAD 2 clsCE (some .x0) (l.rd AD_MONSTAT_OUT)
    { l with sy := { l.sy with hotSince := if l.dieHot then some (l.sy.hotSince.getD l.now) else none } }

/-! ### Hall sources (R232 to R236, R595) -/

/-- The place of a legal code in the order of Table 6.4, 0 for the code centred on 0°. -/
def hallIdx : Nat → Option Nat
  | 4 => some 0
  | 6 => some 1
  | 2 => some 2
  | 3 => some 3
  | 1 => some 4
  | 5 => some 5
  | _ => none

/-- The code of a place of Table 6.4. -/
def hallCode : Nat → Nat
  | 0 => 4
  | 1 => 6
  | 2 => 2
  | 3 => 3
  | 4 => 1
  | _ => 5

/-- The centre of a code, and the boundary of its forward side. -/
def hallCentre (k : Nat) : Q := ⟨Q.roundDiv ((k : Int) * Q.piRaw) 3, false⟩
def hallBound (k : Nat) : Q := ⟨Q.roundDiv ((2 * (k : Int) + 1) * Q.piRaw) 6, false⟩

/-- The signed difference in steps from one place to another, −2 to 3. -/
def hallDiff (a b : Nat) : Int := if (b + 6 - a) % 6 ≤ 3 then (((b + 6 - a) % 6 : Nat) : Int) else (((b + 6 - a) % 6 : Nat) : Int) - 6

/-- How many lines differ between two codes. -/
def linesChanged (a b : Nat) : Nat :=
  let m := a ^^^ b
  m % 2 + m / 2 % 2 + m / 4 % 2

/-- What a source answers: electrical angle, electrical and mechanical speed, and its position count, or pos. The counts themselves have no
end; only pos does (R240). -/
structure Posn where
  th : Q
  we : Q
  wm : Q
  pos : Q
deriving DecidableEq, Repr

/-- The values of a hall source at an instant (R234, R235, R595); `ofs` is what is added to the table's angles. -/
def HallSrc.eval (s : HallSrc) (ofs : Q) (pp hstop : Nat) (t : Nat) : Posn :=
  if s.hold then ⟨.of s.heldTh, .of s.heldW, (Q.of s.heldW).div (Q.int pp), .of s.posb⟩
  else
    match s.legal with
    | none => ⟨.zero, .zero, .zero, .of s.posb⟩
    | some k =>
      match s.edges with
      | [] => ⟨((hallCentre k).add ofs).mod2pi, .zero, .zero, .of s.posb⟩
      | _ =>
        let dt := spanQ ((t : Int) - (s.tb : Int))
        let w := Q.of s.w
        let mv := Q.of (Q.clampSym (w.mul dt) piThird).raw
        let we := if ((Q.abs w).mul dt).raw > piThird.raw then ((signQ w).mul piThird).div dt else w
        let we := if s.tb + hstop * msec ≤ t then Q.zero else we
        ⟨((Q.of s.thb).add mv).mod2pi, we, we.div (Q.int pp), .of (s.posb + (mv.div (Q.int pp)).raw)⟩

/-- A legal edge to a place, at time `tb` (R234). -/
def HallSrc.edge (s : HallSrc) (ofs : Q) (pp : Nat) (k0 k : Nat) (tb : Nat) : HallSrc :=
  let fwd := decide (k = (k0 + 1) % 6)
  let dir : Int := if fwd then 1 else -1
  let es := ((tb, dir) :: s.edges).take 7
  let w := match es with
    | [_, _, _, _, _, _, (t6, _)] =>
      if es.all (fun e => e.2 = dir) then ((Q.int dir).mul Q.twoPi).div (spanQ ((tb : Int) - t6))
      else (match s.edges with | (tp, _) :: _ => ((Q.int dir).mul piThird).div (spanQ ((tb : Int) - tp)) | [] => Q.zero)
    | _ => (match s.edges with | (tp, _) :: _ => ((Q.int dir).mul piThird).div (spanQ ((tb : Int) - tp)) | [] => Q.zero)
  { s with code := hallCode k, legal := some k, edges := es, tb := tb, w := w.raw
           thb := ((if fwd then hallBound k0 else hallBound k).add ofs).raw, posb := s.posb + (((Q.int dir).mul piThird).div (Q.int pp)).raw }

/-- The next 640 ns tick. -/
def nextTick (now : Nat) : Nat := (now / 1024 + 1) * 1024

/-- An illegal transition: the angle, position and speed of that instant are held (R235). -/
def HallSrc.illegal (s : HallSrc) (ofs : Q) (pp hstop : Nat) (now code : Nat) : HallSrc :=
  let p := s.eval ofs pp hstop now
  { s with code := code, hold := true, heldTh := p.th.raw, heldW := p.we.raw, posb := p.pos.raw, ills := (now :: s.ills).take 2
           clean := s.clean.map (fun _ => nextTick now) }

/-- The first legal code, or the end of a hold: th_e restarts at the code's centre (R235, R595). -/
def HallSrc.restart (s : HallSrc) (ofs : Q) (pp : Nat) (k : Nat) (d : Int) (now : Nat) : HallSrc :=
  { s with code := hallCode k, legal := some k, edges := [], hold := false, tb := now, w := 0
           thb := ((hallCentre k).add ofs).raw, posb := s.posb + (((Q.int d).mul piThird).div (Q.int pp)).raw }

/-- What a new code does to a source: the source after it, and whether the transition was illegal. `tb` is the time of the edge. The ticks at which 0 0 0
or 1 1 1 stood are not clean (R230). -/
def HallSrc.next (s : HallSrc) (ofs : Q) (pp hstop : Nat) (now tb code : Nat) : HallSrc × Bool :=
  if s.seen ∧ s.code = code then (s, false)
  else
    let s := { s with seen := true, clean := if (hallIdx s.code).isNone then s.clean.map (fun _ => nextTick now) else s.clean }
    match s.legal, hallIdx code with
    | none, none => ({ s with code := code }, false)
    | none, some k => (s.restart ofs pp k 0 tb, false)
    | some _, none => (s.illegal ofs pp hstop now code, true)
    | some k0, some k =>
      if linesChanged s.code code ≠ 1 then (s.illegal ofs pp hstop now code, true)
      else if s.hold then
        let d := hallDiff k0 k
        if d = 3 then (s.illegal ofs pp hstop now code, true) else (s.restart ofs pp k d tb, false)
      else (s.edge ofs pp k0 k tb, false)

/-- The hall parameters of an axis. -/
def Lane.pp (l : Lane) (x : Ax) : Nat := l.rd (FB_CFG_PP x)
def Lane.hofs (l : Lane) (x : Ax) : Q := turnQ (l.rd (FB_ANG_HOFS x))
def Lane.hstop (l : Lane) (x : Ax) : Nat := l.rd (FB_TRK_HSTOP x)

/-- The angle added to the table's angles for a source: the offset of a neighbour, or less HOFS for the own lines (R234). -/
def Lane.hallOfs (l : Lane) (x : Ax) : FbGroup → Q
  | .nextNb => turnQ (l.rd (FB_NBOFS_NEXT x))
  | .prevNb => turnQ (l.rd (FB_NBOFS_PREV x))
  | _ => (l.hofs x).neg

/-- A hall source of an axis. -/
def FbSt.hall (s : FbSt) : FbGroup → HallSrc
  | .nextNb => s.nextNb
  | .prevNb => s.prevNb
  | _ => s.own

def FbSt.setHall (s : FbSt) (g : FbGroup) (h : HallSrc) : FbSt :=
  match g with
  | .nextNb => { s with nextNb := h }
  | .prevNb => { s with prevNb := h }
  | _ => { s with own := h }

/-- FB_STAT_x.HOLD: some source's angle is held. -/
def Lane.holdFlag (l : Lane) (x : Ax) : Lane :=
  let f := (l.ax x).fb
  l.put (FB_STAT_HOLD x) (f.own.hold || f.nextNb.hold || f.prevNb.hold)

/-- Whether the sine and cosine group is configured, and the hall group. -/
def Lane.hasSc (l : Lane) (x : Ax) : Bool := decide (2 ≤ l.rd (FB_CFG_SENS x))
def Lane.hasHall (l : Lane) (x : Ax) : Bool := decide (l.rd (FB_CFG_SENS x) % 2 = 1)

/-- The flag of a faulty own group. -/
def groupFlag (x : Ax) (sinCos : Bool) : Fld := if sinCos then FB_STAT_SCF x else FB_STAT_HF x

/-- An own sensor group becomes faulty (R230); one that is faulty already does not become so again (Table 6.10). -/
def Lane.groupFault (l : Lane) (x : Ax) (sinCos : Bool) : Lane :=
  if l.on (groupFlag x sinCos) then l else (l.set (groupFlag x sinCos)).eventAx x 15

/-- FB_POSOVF (R240). -/
def Lane.posOvf (l : Lane) (x : Ax) : Lane := (l.set (FB_STAT_POSOVF x)).raiseOnce srcFB 6 clsCE (some x) 0

/-- The values of a source at an instant, with its own position count (R241); with no source the angle and the speeds are free values (log
entry 24), and pos stands (R229). -/
def Lane.srcEval (l : Lane) (x : Ax) (src t : Nat) : Posn :=
  let f := (l.ax x).fb
  let hall := fun g => (f.hall g).eval (l.hallOfs x g) (l.pp x) (l.hstop x) t
  match src with
  | 1 =>
    let dt := spanQ ((t : Int) - (f.sc.tu : Int))
    ⟨((Q.of f.sc.the).add ((Q.of f.sc.we).mul dt)).mod2pi, .of f.sc.we, .of f.sc.wm, .of (f.sc.pos + ((Q.of f.sc.wm).mul dt).raw)⟩
  | 2 => hall .halls
  | 3 => hall .nextNb
  | 4 => hall .prevNb
  | 5 =>
    let w := Q.of (l.ax x).tq.wPll
    ⟨.of (l.ax x).tq.thPll, w, w.div (Q.int (l.pp x)), .of f.obs⟩
  | _ =>
    let v := fun (k : Nat) => Q.of (Config.noSource l.me x.idx t k).toInt
    ⟨(v 0).mod2pi, v 1, v 2, .of (f.pos - f.base)⟩

/-- What the FB block answers at an instant (R241): the source in force, with pos. -/
def Lane.fbEval (l : Lane) (x : Ax) (t : Nat) : Posn :=
  let p := l.srcEval x (l.rd (FB_STAT_SRC x)) t
  { p with pos := Q.sat (p.pos.raw + (l.ax x).fb.base) false }

/-- A change of the count in force that takes pos out of its range: pos stays at the end of it. What is added to the count is cut, so that pos
moves back with the count (R240). -/
def Lane.posSettle (l : Lane) (x : Ax) : Lane :=
  let pos := (l.fbEval x l.now).pos
  let n := (l.srcEval x (l.rd (FB_STAT_SRC x)) l.now).pos.raw
  if pos.ovf then (l.setFb x { (l.ax x).fb with base := pos.raw - n }).posOvf x else l

/-- An illegal transition is counted; the third within 1 ms is a hall fault, which bars a neighbour or makes the own group faulty (R235,
R236). -/
def Lane.illCount (l : Lane) (x : Ax) (g : FbGroup) (before : List Nat) : Lane :=
  let l := l.bump (FB_CNT_ILL x)
  let l := l.raiseOnce srcFB 1 clsCE (some x) (l.dataOf (FB_CNT_ILL x).addr)
  match before with
  | [_, t] =>
    if l.now - t ≤ msec then
      match g with
      | .nextNb => (l.set (FB_STAT_NBNB x)).raise srcFB 2 clsUC (some x) 3
      | .prevNb => (l.set (FB_STAT_NBPB x)).raise srcFB 2 clsUC (some x) 4
      | _ => (l.groupFault x false).raise srcFB 2 clsUC (some x) 2
    else l
  | _ => l

/-- A new code of a source is evaluated (R234 to R236). -/
def Lane.hallTake (l : Lane) (x : Ax) (g : FbGroup) (tb code : Nat) : Lane :=
  let f := (l.ax x).fb
  let h := f.hall g
  let r := h.next (l.hallOfs x g) (l.pp x) (l.hstop x) l.now tb code
  let l := (l.setFb x (f.setHall g r.1)).holdFlag x
  match r.2 with
  | false => l.posSettle x
  | true => l.illCount x g h.ills

/-! ### Pass-through (R242, R243) -/

/-- The hall code of an angle th_h (Table 6.4). -/
def codeOfAngle (th : Q) : Nat := hallCode ((((th.add (Q.div Q.pi (Q.int 6))).mod2pi.raw * 3) / Q.piRaw).toNat % 6)

/-- The code that own sine and cosine give. -/
def Lane.scCode (l : Lane) (x : Ax) : Nat := codeOfAngle ((Q.of (l.ax x).fb.sc.the).add (l.hofs x))

/-- The external pass-through lines follow; they hold during a mask and carry 0 0 0 while their group is faulty (R242). Those of a group that
becomes faulty while its own mask is in force hold until the mask ends, of which R242 gives no order (DESIGN CHOICE, log entry 63). -/
def Lane.passThrough (l : Lane) (x : Ax) : Lane :=
  let f := (l.ax x).fb
  match l.rd (FB_CFG_PTMODE x) with
  | 0 => l.wr (FB_HCODE_PT x) 0
  | 3 =>
    if f.maskSc then l
    else l.wr (FB_HCODE_PT x) (if l.on (FB_STAT_SCF x) ∨ f.sc.started = false then 0 else l.scCode x)
  | m =>
    match f.maskHall with
    | some _ => l
    | none => l.wr (FB_HCODE_PT x) (if l.on (FB_STAT_HF x) then 0 else if m = 1 then f.raw else f.own.code)

/-- The code and the valid bit that the lane sends both neighbours for an axis (R243). -/
def Lane.linkCode (l : Lane) (x : Ax) : Nat × Bool :=
  let f := (l.ax x).fb
  if l.hasSc x && !l.on (FB_STAT_SCF x) && f.sc.started then (l.scCode x, l.domOn .fb)
  else if l.hasHall x && !l.on (FB_STAT_HF x) then (f.maskHall.getD f.own.code, l.domOn .fb)
  else (0, false)

/-! ### Hall edges and neighbour codes -/

/-- A filtered own code changes (R232, R234); during a supply-pulse mask it is only noted (R253), and so it is where the halls are no own group
(R227). -/
def Lane.hallEdge (l : Lane) (x : Ax) (code raw : Nat) : Lane :=
  let l := l.setFb x { (l.ax x).fb with raw := raw }
  let l := l.wr (FB_HCODE_OWN x) code
  let l := match (l.ax x).fb.maskHall with
    | some _ => l.setFb x { (l.ax x).fb with own := { (l.ax x).fb.own with code := code } }
    | none =>
      if l.hasHall x = false then l.setFb x { (l.ax x).fb with own := { (l.ax x).fb.own with code := code } }
      else l.hallTake x .halls (l.now - 16 * l.rd (FB_CFG_HFILT x)) code
  l.passThrough x

/-- The hall lines of an axis as they stand, where the block begins to evaluate them. -/
def Lane.hallsStanding (l : Lane) (x : Ax) : Lane := l.hallEdge x (l.ax x).fb.raw (l.ax x).fb.raw

/-- The code and the valid bit as a neighbour lane receives them: none of them valid without the lane, while it is held in reset or without its
clocks, or without the carrier of the link between the two (R243). -/
def State.linkFrom (s : State) (i : LaneId) (n : Port) (x : Ax) : Nat × Bool :=
  let l := s.lane i
  let src := l.neighbour n
  let r := (s.lane src).linkCode x
  (r.1, r.2 && l.part.hasLane src && !(s.lane src).sy.held && !(s.lane src).pw.stopped && l.on (GL_LINK_LOCK n.idx))

/-- A new code or valid bit of a neighbour (R243). -/
def Lane.nbCode (l : Lane) (x : Ax) (n : Port) (code : Nat) (valid : Bool) : Lane :=
  match n with
  | .next =>
    let l := (l.wr (FB_HCODE_NEXT x) code).put (FB_STAT_NBNV x) valid
    if valid then l.hallTake x .nextNb l.now code else l
  | .prev =>
    let l := (l.wr (FB_HCODE_PREV x) code).put (FB_STAT_NBPV x) valid
    if valid then l.hallTake x .prevNb l.now code else l

/-! ### Sine and cosine (R237, R238) -/

/-- The tracker's constants: ts = 640 ns, and the limits of m2. -/
def scTs : Q := spanQ 1024
def winQ (v : Nat) : Q := ⟨(v : Int) * 33554432, false⟩

/-- The squared magnitude of a sample. -/
def Lane.scNorm (l : Lane) (x : Ax) (cs cc : Int) : Q × Q × Q :=
  let s := ((Q.int cs).sub (Q.int (l.rdS (FB_SCOFS_SIN x)))).div (Q.int (l.rd (FB_SCAMP_SIN x)))
  let c := ((Q.int cc).sub (Q.int (l.rdS (FB_SCOFS_COS x)))).div (Q.int (l.rd (FB_SCAMP_COS x)))
  (s, c, (s.mul s).add (c.mul c))

/-- An in-window sample moves the tracker (R237, R240). -/
def SinCos.track (t : SinCos) (phi eofs : Q) (pp scper bw : Nat) (tu : Nat) : SinCos :=
  let first := !t.started
  let pos0 := if first ∧ t.booted = false then (if scper = 1 then phi.raw else 0) else t.pos
  let prev := if first then phi else Q.of t.phi
  let tht := if first then phi else Q.of t.tht
  let wt := if first then Q.zero else Q.of t.wt
  let b := Q.int bw
  let pos := pos0 + ((phi.sub prev).wrap.div (Q.int scper)).raw
  let e := (phi.sub tht).wrap
  let wt := wt.add (((scTs.mul b).mul b).mul e)
  let tht := tht.add (scTs.mul (wt.add (((Q.int 2).mul b).mul e)))
  let wm := wt.div (Q.int scper)
  { t with started := true, booted := true, tht := tht.raw, wt := wt.raw, phi := phi.raw
           the := ((((Q.int pp).div (Q.int scper)).mul phi).add eofs).mod2pi.raw
           wm := wm.raw, we := ((Q.int pp).mul wm).raw, pos := pos, tu := tu, nout := 0, low := false }

/-- A sine and cosine result becomes available (R237, R238). -/
def Lane.scSample (l : Lane) (x : Ax) (cs cc : Int) : Lane :=
  let (s, c, m2) := l.scNorm x cs cc
  let f := (l.ax x).fb
  let low := decide (m2.raw < (winQ (l.rd (FB_SCWIN_LO x))).raw)
  let l := (l.wq (FB_SCM2 x) m2).setFb x { f with sc := { f.sc with low := low } }
  if f.maskSc ∨ l.hasSc x = false then l
  else if low ∨ (winQ (l.rd (FB_SCWIN_HI x))).raw < m2.raw then
    let n := f.sc.nout + 1
    let l := l.bump (FB_CNT_SCOUT x)
    let l := l.setFb x { f with sc := { f.sc with nout := n, low := low, clean := f.sc.clean.map (fun _ => nextTick l.now) } }
    let l := if n = l.rd (FB_SCCFG_SCN x) then
        (l.groupFault x true).raise srcFB 3 clsUC (some x) (l.dataOf (FB_CNT_SCOUT x).addr)
      else l
    l.passThrough x
  else
    let r := f.sc.track (Q.atan2 s c) (turnQ (l.rd (FB_ANG_EOFS x))) (l.pp x) (l.rd (FB_SCCFG_SCPER x)) (l.rd (FB_TRK_BW x)) (l.now - 1024)
    ((l.setFb x { f with sc := r }).passThrough x).posSettle x

/-! ### The source in force (R228 to R231, R241) -/

/-- Whether a neighbour source is valid and not barred. -/
def Lane.nbOk (l : Lane) (x : Ax) : Port → Bool
  | .next => l.on (FB_STAT_NBNV x) && !l.on (FB_STAT_NBNB x)
  | .prev => l.on (FB_STAT_NBPV x) && !l.on (FB_STAT_NBPB x)

/-- SRC of a neighbour. -/
def srcOfPort : Port → Nat
  | .next => 3
  | .prev => 4

/-- The first available sensor source of the list of R228; 0 is none. -/
def Lane.sensorPick (l : Lane) (x : Ax) : Nat :=
  let pref : Port := if l.on (FB_CFG_NBPREF x) then .prev else .next
  if l.hasSc x && !l.on (FB_STAT_SCF x) && (l.ax x).fb.sc.started then 1
  else if l.hasHall x && !l.on (FB_STAT_HF x) then 2
  else if l.rd (FB_STAT_SRC x) = 3 ∧ l.nbOk x .next then 3
  else if l.rd (FB_STAT_SRC x) = 4 ∧ l.nbOk x .prev then 4
  else if l.nbOk x pref then srcOfPort pref
  else if l.nbOk x pref.other then srcOfPort pref.other
  else 0

/-- Whether the angle of the hall source in force is held (R235). -/
def Lane.srcHeld (l : Lane) (x : Ax) : Bool :=
  match l.rd (FB_STAT_SRC x) with
  | 2 => (l.ax x).fb.own.hold
  | 3 => (l.ax x).fb.nextNb.hold
  | 4 => (l.ax x).fb.prevNb.hold
  | _ => false

/-- The source in force changes at an instant (R229). -/
def Lane.srcChange (l : Lane) (x : Ax) (new t : Nat) : Lane :=
  let old := l.rd (FB_STAT_SRC x)
  if old = new then l
  else
    let f := (l.ax x).fb
    let here := l.fbEval x t
    let f := if new = 0 then { f with pos := here.pos.raw }
      else if f.selected then { f with base := here.pos.raw - (l.srcEval x new t).pos.raw }
      else { f with selected := true, base := 0 }
    let l := (l.setFb x f).wr (FB_STAT_SRC x) new
    let l := l.bump (FB_CNT_SRCCHG x)
    (l.raiseOnce srcFB 5 clsCE (some x) (new + 16 * old)).eventAx x 7

/-- Whether sensorless operation is available on an axis (R231). -/
def Lane.slAvailable (l : Lane) (x : Ax) : Bool := l.part.hasTq && decide (l.rd (TQ_CFG_SLMODE x) ≠ 0)

/-- Whether an axis runs sensorless: SLSTATE is ALIGN, RAMP, RUN or CATCH. -/
def Lane.sensorless (l : Lane) (x : Ax) : Bool :=
  decide (1 ≤ l.rd (TQ_STAT_SLSTATE x)) && decide (l.rd (TQ_STAT_SLSTATE x) ≤ 4)

/-- The choice of the position source at an inner-period boundary (R228, R231; Table 4.5: with SLMODE = 1 a restored sensor ends sensorless
operation). -/
def Lane.srcSelect (l : Lane) (x : Ax) (t : Nat) : Lane :=
  let pick := l.sensorPick x
  let l := if pick ≠ 0 ∧ l.sensorless x ∧ l.rd (TQ_STAT_SLSTATE x) ≠ slCatch ∧ l.rd (TQ_CFG_SLMODE x) = 1 then l.slSet x slOff else l
  let gone := decide (pick = 0) && !l.slAvailable x
  let was := (l.ax x).fb.lost
  let l := l.srcChange x (if l.sensorless x then 5 else pick) t
  let l := (l.put (FB_STAT_NOSRC x) (pick = 0)).setFb x { (l.ax x).fb with judged := true, lost := gone }
  if gone && !was then
    (l.raise srcFB 4 clsUC (some x) (l.dataOf (FB_STAT_SRC x).addr)).axisSafe x 6 false
  else l

/-! ### Position compare (R244 to R246) -/

/-- A compare unit fires (R244). -/
def Lane.cmpFire (l : Lane) (x : Ax) (n : Nat) : Lane :=
  let l := l.wr (FB_CMPSTAT_FIRED x) (l.rd (FB_CMPSTAT_FIRED x) ||| 2 ^ n)
  let l := if l.on (FB_CMPCFG_ONESHOT x n) then l.clr (FB_CMPCFG_EN x n) else l
  l.eventAx x 6

/-- Whether a unit fires between two ticks (R244). -/
def Lane.cmpCross (l : Lane) (x : Ax) (n : Nat) (prev new : Int) : Bool :=
  let c := l.rdS (FB_CMP x n)
  let up := decide (prev < c) && decide (c ≤ new)
  let down := decide (c < prev) && decide (new ≤ c)
  match l.rd (FB_CMPCFG_MODE x n) with
  | 0 => up
  | 1 => down
  | 2 => up || down
  | _ => if l.on (FB_CMPCFG_SIDE x n) then up else down

/-- Whether pos is at or past the value of an ENDSTOP unit on its side (R246). -/
def Lane.cmpBeyond (l : Lane) (x : Ax) (n : Nat) (pos : Int) : Bool :=
  let c := l.rdS (FB_CMP x n)
  decide (l.rd (FB_CMPCFG_MODE x n) = 3) && (if l.on (FB_CMPCFG_SIDE x n) then decide (c ≤ pos) else decide (pos ≤ c))

/-- Whether a unit's value lies behind the motion (R245). -/
def Lane.cmpBehind (l : Lane) (x : Ax) (n : Nat) (pos wm : Int) : Bool :=
  let c := l.rdS (FB_CMP x n)
  match l.rd (FB_CMPCFG_MODE x n) with
  | 0 => decide (c ≤ pos)
  | 1 => decide (pos ≤ c)
  | 2 => (decide (0 < wm) && decide (c ≤ pos)) || (decide (wm < 0) && decide (pos ≤ c))
  | _ => false

/-- One bit of a field of FB_CMPSTAT_x. -/
def Lane.putBit (l : Lane) (f : Fld) (n : Nat) (b : Bool) : Lane := l.put ⟨f.addr, f.lo + n, 1⟩ b

/-- The 640 ns tick: the observation registers take the values of the instant, and the units test for a crossing; while the hall angle in
force is held, no unit fires (R244, R246, R256). -/
def Lane.posTick (l : Lane) (x : Ax) : Lane :=
  let p := l.fbEval x l.now
  let held := l.srcHeld x
  let l := l.posSettle x
  let prev := (l.ax x).fb.tick
  let l := (((l.wq (FB_POS x) p.pos).wq (FB_THE x) p.th).wq (FB_WM x) p.wm).wq (FB_WE x) p.we
  let l := l.setFb x { (l.ax x).fb with tick := p.pos.raw, pos := p.pos.raw }
  l.each (List.range 4) (fun l n =>
    let l := l.putBit (FB_CMPSTAT_BEYOND x) n (l.cmpBeyond x n p.pos.raw)
    if l.on (FB_CMPCFG_EN x n) && l.cmpCross x n prev p.pos.raw && !held then l.cmpFire x n else l)

/-- A unit is judged at a write: BEHIND, BEYOND, and an ENDSTOP unit already beyond fires unless the hall angle in force is held (R245,
R246). -/
def Lane.cmpJudge (l : Lane) (x : Ax) (n : Nat) : Lane :=
  let pos := (l.ax x).fb.tick
  let l := l.putBit (FB_CMPSTAT_BEHIND x) n (l.cmpBehind x n pos (l.rdS (FB_WM x)))
  let b := l.cmpBeyond x n pos
  let l := l.putBit (FB_CMPSTAT_BEYOND x) n b
  if b && l.on (FB_CMPCFG_EN x n) && !l.srcHeld x then l.cmpFire x n else l

/-- A write of a compare value, or of a unit's configuration (R245). -/
def Lane.cmpWrite (l : Lane) (x : Ax) (n : Nat) (r : CmpReg) (v : Word) : Lane :=
  let l := match r with
    | .value => l.setReg (FB_CMP x n).addr v
    | .config => l.setReg (FB_CMPCFG_EN x n).addr (v &&& 31#64)
  l.cmpJudge x n

/-- The access of a compare write. -/
def cmpAcc (x : Ax) (n : Nat) (r : CmpReg) (v : Word) : RegAcc :=
  match r with
  | .value => wrAcc (FB_CMP x n).addr 8 v
  | .config => wrAcc (FB_CMPCFG_EN x n).addr 4 v

/-- An OW write that the loop's state refuses (R82). -/
def Lane.owReject (l : Lane) (x : Ax) : Lane :=
  let l := l.bump (LE_REJ_OWREJ x)
  (l.raiseOnce srcLE 5 clsCE (some x) (l.dataOf (LE_REJ_OWREJ x).addr)).eventAx x 4

/-- A write to FB_POSADJ_x adds to pos; it is never itself a crossing (R240, R246). -/
def Lane.posAdj (l : Lane) (x : Ax) (v : Word) : Lane :=
  if l.rd (LE_STAT_STATE x) ≠ leOpen then l.owReject x
  else
    let f := (l.ax x).fb
    let p := (Q.of f.tick).add (.of v.toInt)
    let d := p.raw - f.tick
    let l := l.setFb x { f with base := f.base + d, tick := p.raw, pos := p.raw }
    let l := if p.ovf then l.posOvf x else l
    l.each (List.range 4) (fun l n => l.cmpJudge x n)

/-! ### Readmission (R230) -/

/-- The supply that SF_SSMAP assigns to a group: 0 external, 1 SSUP0, 2 SSUP1 (R249). -/
def Lane.ssMap (l : Lane) (g : Nat) : Nat := l.rd ⟨SF_SSMAP_G0.addr, 2 * g, 2⟩

/-- The status field of a supply at an offset: 0 ON, 1 OCL, 2 UV, 3 PULSEF, 4 XSH, 5 PROVEN. -/
def ssStat (s k : Nat) : Fld := ⟨SF_SSSTAT_ON0.addr, 8 * s + k, 1⟩

/-- Whether the supply of a group is latched off or low, so that FLTCLR is ignored. -/
def Lane.supplyBad (l : Lane) (g : Nat) : Bool :=
  match l.ssMap g with
  | 1 => l.on (ssStat 0 1) || l.on (ssStat 0 2)
  | 2 => l.on (ssStat 1 1) || l.on (ssStat 1 2)
  | _ => false

/-- FLTCLR: the clean ticks of each faulty group and barred neighbour count from now. -/
def Lane.fltClr (l : Lane) (x : Ax) : Lane :=
  let f := (l.ax x).fb
  let go := fun (b : Bool) (old : Option Nat) => if b then some l.now else old
  l.setFb x { f with
    own := { f.own with clean := go (l.on (FB_STAT_HF x) && !l.supplyBad (2 * x.idx)) f.own.clean }
    sc := { f.sc with clean := go (l.on (FB_STAT_SCF x) && !l.supplyBad (2 * x.idx + 1)) f.sc.clean }
    nextNb := { f.nextNb with clean := go (l.on (FB_STAT_NBNB x)) f.nextNb.clean }
    prevNb := { f.prevNb with clean := go (l.on (FB_STAT_NBPB x)) f.prevNb.clean } }

/-- 1,024 clean ticks, 655.36 µs. -/
def cleanSpan : Nat := 1048576

/-- Whether the clean ticks of a source are complete; an illegal code standing on the lines is not clean. -/
def Lane.cleanDone (l : Lane) (c : Option Nat) : Bool :=
  match c with
  | some t => l.due (t + cleanSpan)
  | none => false

/-- A group is readmitted (R230). -/
def Lane.readmit (l : Lane) (x : Ax) (g : FbGroup) : Lane :=
  let f := (l.ax x).fb
  match g with
  | .sinCos =>
    if l.cleanDone f.sc.clean then
      (l.setFb x { f with sc := { f.sc with clean := none, started := false, nout := 0 } }).clr (FB_STAT_SCF x)
    else l
  | g =>
    let h := f.hall g
    if l.cleanDone h.clean && (hallIdx h.code).isSome then
      let l := l.setFb x (f.setHall g { h with clean := none })
      match g with
      | .nextNb => l.clr (FB_STAT_NBNB x)
      | .prevNb => l.clr (FB_STAT_NBPB x)
      | _ => (l.clr (FB_STAT_HF x)).passThrough x
    else l

/-! ### The meanings -/

def execMonitorConversion (i : LaneId) (n : Fin 16) (v : BitVec 16) (s : State) : Host.Outcome State Fault Refusal :=
  s.actD i .fb (fun l => l.monitor n v.toNat)
def execAdCntclr (i : LaneId) (x : Ax) (s : State) : Host.Outcome State Fault Refusal :=
  s.accX i x .fb (bitAcc (AD_CTL_CNTCLR x).addr 1) (fun l => l.setReg (AD_CNT_CLIP x).addr 0#64)
def execHallEdge (i : LaneId) (x : Ax) (code raw : Fin 8) (s : State) : Host.Outcome State Fault Refusal :=
  s.actPin i (fun l => l.clocks && l.domOn .fb && l.part.hasAxis x)
    (fun l => if l.part.hasAxis x then l.setFb x { (l.ax x).fb with raw := raw } else l) (fun l => l.hallEdge x code raw)
def execNeighbourCode (i : LaneId) (x : Ax) (n : Port) (code : Fin 8) (valid : Bool) (s : State) : Host.Outcome State Fault Refusal :=
  s.actX i x .fb (fun l => if s.linkFrom i n x = (code.val, valid) then l.nbCode x n code valid else l)
def execSincosSample (i : LaneId) (x : Ax) (cs cc : BitVec 16) (s : State) : Host.Outcome State Fault Refusal :=
  s.actX i x .fb (fun l => l.scSample x cs.toInt cc.toInt)
def execPositionCompareTick (i : LaneId) (x : Ax) (s : State) : Host.Outcome State Fault Refusal :=
  s.actX i x .fb (fun l => l.posTick x)
def execCompareWrite (i : LaneId) (x : Ax) (n : Fin 4) (r : CmpReg) (v : Word) (s : State) : Host.Outcome State Fault Refusal :=
  s.accX i x .fb (cmpAcc x n r v) (fun l => l.cmpWrite x n r v)
def execFbPosadjWrite (i : LaneId) (x : Ax) (v : Word) (s : State) : Host.Outcome State Fault Refusal :=
  s.accX i x .fb (wrAcc (FB_POSADJ x).addr 8 v) (fun l => l.posAdj x v)
def execFbFltclr (i : LaneId) (x : Ax) (s : State) : Host.Outcome State Fault Refusal :=
  s.accX i x .fb (bitAcc (FB_CTL_CNTCLR x).addr 2) (fun l => l.fltClr x)
def execReadmission (i : LaneId) (x : Ax) (g : FbGroup) (s : State) : Host.Outcome State Fault Refusal :=
  s.actX i x .fb (fun l => l.readmit x g)
def execFbCntclr (i : LaneId) (x : Ax) (s : State) : Host.Outcome State Fault Refusal :=
  s.accX i x .fb (bitAcc (FB_CTL_CNTCLR x).addr 1) (fun l => l.setReg (FB_CNT_ILL x).addr 0#64)

end Sys2Proof.Machine
end

