-- ==== Sys2Proof/Machine/Sched.lean ====
section
/-!
DEFINITION. The flow scheduler: items, eligibility, dispatch, timers, headroom and the profile proposal (spec/10_flow_scheduler.md).
-/

namespace Sys2Proof.Machine

/-! ### Flows and items -/

/-- Whether a flow is enabled (R350). -/
def Lane.flowOn (l : Lane) (n : Nat) : Bool := (l.rd (SC_FLOWEN_EN (n / 32))).testBit (n % 32)

/-- The priority of an item (R354). -/
def Lane.itemPrio (l : Lane) (i : Item) : Nat :=
  if l.rd (SC_FLOWCFG_FIXED i.flow) = 0 ∧ (i.kind = .post ∨ i.kind = .timer) then i.prio else l.rd (SC_FLOWCFG_PRIO i.flow)

/-- The slots of the item pool in use: pending posts, items in service, and items completed since the last commit (R352). -/
def ScSt.used (s : ScSt) : Nat := (s.items.filter (fun i => i.kind = .post)).length + s.stack.length + s.done

/-- The free slots of the item pool (R352). -/
def ScSt.free (s : ScSt) : Nat := 2048 - s.used

/-- The BIST slice allowance of a profile, in µs per 10 ms (Table 1.4). -/
def bistAllowance : Nat → Nat
  | 0 => 50
  | 1 => 200
  | _ => 1000

/-- Whether the item on top of the stack belongs to a BIST flow, whose service time is charged (R355). -/
def Lane.bistRunning (l : Lane) : Bool :=
  match l.sc.stack with
  | [] => false
  | i :: _ => l.on (SC_FLOWCFG_BIST i.flow)

/-- The time charged in the present 10 ms window of SC_TICK up to now, in root periods: what was charged before, and the service of a BIST
flow that runs (R355 (8)). -/
def Lane.bistTime (l : Lane) : Nat :=
  let same := decide (l.sc.bistWin = l.scTick / 10000)
  let run := l.now - l.sc.bistAt
  let run := if same then run else Nat.min run (l.scTick % 10000 * usec + (l.now - l.sc.tickAt) % usec)
  (if same then l.sc.bistAcc else 0) + (if l.bistRunning then run else 0)

/-- SC_BISTUSE.US as it reads: the charged time in whole µs. -/
def Lane.bistUse (l : Lane) : Nat := Nat.min 65535 (l.bistTime / usec)

/-- Charges the service time of a running BIST flow up to now, and starts a new count in a new window. -/
def Lane.bistCharge (l : Lane) : Lane :=
  ({ l with sc := { l.sc with bistAcc := l.bistTime, bistWin := l.scTick / 10000, bistAt := l.now } }).wr SC_BISTUSE_US l.bistUse

/-- Condition 1 of R355: the lane is out of BOOT, the pair is not stopped by an FT and no dump context runs. -/
def Lane.dispatching (l : Lane) : Bool := l.mode ≠ mBoot && (decide (l.pc.core = .running) || decide (l.pc.core = .halted))

/-- Conditions 3 and 8 of R355, whose failure defers an item (R356). -/
def Lane.headroomOk (l : Lane) (i : Item) : Bool :=
  (l.rd (SC_FLOWCFG_COST i.flow) = 0 || decide (l.rd (SC_FLOWCFG_COST i.flow) ≤ l.rd SC_HEAD_H)) &&
  (l.rd (SC_FLOWCFG_BIST i.flow) = 0 || decide (l.bistUse < bistAllowance l.prof))

/-- Condition 4 of R355: a class-0 item needs the pair joined. -/
def Lane.joinOk (l : Lane) (i : Item) : Bool := l.rd (SC_FLOWCFG_COST i.flow) ≠ 0 || l.rd PC_STAT_PAIR = 0

/-- The remaining conditions of R355: the flow is enabled, and ORDER, CHAIN and ATOMIC allow the item. -/
def Lane.orderOk (l : Lane) (i : Item) : Bool :=
  l.flowOn i.flow &&
  (l.rd (SC_FLOWCFG_ORDER i.flow) = 0 || l.sc.items.all (fun j => j.flow ≠ i.flow || !stampBefore j.stamp i.stamp)) &&
  (l.rd (SC_FLOWCFG_CHEN i.flow) = 0 ||
    (l.sc.items ++ l.sc.stack).all (fun j => j.flow ≠ l.rd (SC_FLOWCFG_CHAIN i.flow) || !stampBefore j.stamp i.stamp)) &&
  (l.rd (SC_FLOWCFG_ATOMIC i.flow) = 0 || l.sc.stack.all (fun j => j.flow ≠ i.flow))

/-- Whether a pending item is eligible for dispatch (R355). -/
def Lane.eligible (l : Lane) (i : Item) : Bool :=
  l.dispatching && l.headroomOk i && l.joinOk i && l.orderOk i

/-- The better of two items: the lower priority number, then the earlier stamp (R359). -/
def Lane.better (l : Lane) (a b : Item) : Bool :=
  decide (l.itemPrio a < l.itemPrio b) || (decide (l.itemPrio a = l.itemPrio b) && stampBefore a.stamp b.stamp)

/-- The best eligible item (R359). -/
def Lane.best (l : Lane) : Option Item :=
  (l.sc.items.filter l.eligible).foldl (fun o i =>
    match o with
    | none => some i
    | some b => if l.better i b then some i else some b) none

/-- Whether an item may pre-empt another (R360). -/
def Lane.canPreempt (l : Lane) (i top : Item) : Bool :=
  decide (l.itemPrio i < l.itemPrio top) && decide (l.itemPrio i < l.rd SC_CFG_PTHR + 1)

/-- The dispatch request line: 0 none, 1 dispatch, 2 pre-emption (R360); none while dispatch is stalled for slots (R353). -/
def Lane.scReq (l : Lane) : Nat :=
  if l.on SC_STAT_POOLSTALL then 0
  else
    match l.best, l.sc.stack with
    | none, _ => 0
    | some _, [] => 1
    | some i, t :: _ => if l.sc.stack.length < 8 ∧ l.canPreempt i t then 2 else 0

/-- The code of an item's kind (Table 10.2). -/
def ItemKind.code : ItemKind → Nat
  | .event => 1
  | .timer => 2
  | .hamper => 3
  | .post => 4

/-- The descriptor of an item taken onto a level (Table 10.2). -/
def Lane.descriptor (l : Lane) (i : Item) (level : Nat) : Word :=
  BitVec.ofNat 64 (2 ^ 63 + i.kind.code * 2 ^ 60 + l.itemPrio i * 2 ^ 56 + i.count * 2 ^ 48 + i.flow * 2 ^ 40 + level * 2 ^ 36 +
    i.src % 2 ^ 32)

/-- The best eligible item moves from the pending items to the top of the stack; a Hamper that still holds entries has a new item
(R351). -/
def Lane.take (l : Lane) (i : Item) : Lane :=
  let s := l.sc
  let l := { l with sc := { s with
    items := s.items.filter (fun j => j.stamp ≠ i.stamp)
    stack := i :: s.stack
    taken := s.taken ++ [i] } }
  if i.kind = .hamper ∧ l.hamperHolds i.src then l.arise .hamper i.src i.flow i.prio else l

/-- A take that finds no free slot: dispatch stalls until the next commit (R353). -/
def Lane.stall (l : Lane) : Lane :=
  let l := l.set SC_STAT_POOLSTALL
  (l.raiseOnce srcSC 1 clsCE none (l.rd SC_POOL_FREE + 0x10000 * l.rd SC_POOL_POSTS)).event 128

/-- SC_POOL as it reads (R352). -/
def Lane.poolView (l : Lane) : Lane :=
  (l.wr SC_POOL_FREE l.sc.free).wr SC_POOL_POSTS (l.sc.items.filter (fun i => i.kind = .post)).length

/-- Whether a take of an item finds a slot; a post keeps the one it has (R352, R353). -/
def Lane.hasSlot (l : Lane) (i : Item) : Bool := decide (i.kind = .post) || decide (l.sc.free ≠ 0)

/-- A take onto the given level of the stack, whose lower levels stand (R352, R361). -/
def Lane.takeOnto (l : Lane) (i : Item) : Lane :=
  if l.hasSlot i = false then (l.poolView.stall).returns 0#64
  else
    let l := l.take i
    (l.poolView).returns (l.descriptor i l.sc.stack.length)

/-- A read of SC_ENTER (R361). -/
def Lane.scEnter (l : Lane) : Lane :=
  let l := l.bistCharge
  if 8 ≤ l.sc.stack.length ∨ l.on SC_STAT_POOLSTALL then l.returns 0#64
  else
    match l.best with
    | none => l.returns 0#64
    | some i => (l.when (l.sc.stack ≠ [] && l.hasSlot i) (fun l => l.bump SC_CNT_PREEMPT)).takeOnto i

/-- A read of SC_NEXT: the top item completes; another is taken onto its level where it could have pre-empted the level below (R361). -/
def Lane.scNext (l : Lane) : Lane :=
  let l := l.bistCharge
  match l.sc.stack with
  | [] => (l.set SC_STAT_TAKEERR).returns 0#64
  | _ :: rest =>
    let l := ({ l with sc := { l.sc with stack := rest, done := l.sc.done + 1 } }).poolView
    if l.on SC_STAT_POOLSTALL then l.returns 0#64
    else
      match l.best, rest with
      | none, _ => l.returns 0#64
      | some i, [] => l.takeOnto i
      | some i, t :: _ => if l.canPreempt i t then l.takeOnto i else l.returns 0#64

/-- A released write of SC_POST (R353). -/
def Lane.scPost (l : Lane) (v : Word) : Lane :=
  if l.sc.free < l.rd SC_CFG_RESV + 1 then
    let l := (l.set SC_STAT_POSTREJ).bump SC_CNT_POSTREJ
    (l.raiseOnce srcSC 2 clsCE none (l.reg SC_CNT_POSTREJ.addr).toNat).event 129
  else (l.arise .post (getBits v 0 32) (getBits v 40 8) (getBits v 32 4)).poolView

/-- SC_CTL.CNTCLR (register section). -/
def Lane.scCntClr (l : Lane) : Lane :=
  (l.setReg SC_CNT_POSTREJ.addr 0#64).each (List.range 256) (fun l n => l.clr (SC_FLOWSTAT_AGED n))

/-- A released write of SC_FLOWEN_k: after the lock at the end of BOOT, the enable of a class-0 flow stays at 1 (R358). -/
def Lane.flowEnWrite (l : Lane) (k : Nat) (v : Nat) : Lane :=
  let keep := (List.range 32).foldl (fun m j =>
    if (l.rd (SC_FLOWEN_EN k)).testBit j ∧ l.rd (SC_FLOWCFG_COST (32 * k + j)) = 0 ∧ l.on SY_IMGSTAT_LOCKED then m + 2 ^ j else m) 0
  l.wr (SC_FLOWEN_EN k) (v ||| keep)

/-- The deferral age alarm of a flow: an item of it that fails condition 3 or 8 has waited longer than DAGE (R356). -/
def Lane.deferralAge (l : Lane) (n : Nat) : Lane :=
  let l := l.bistCharge
  let old := l.sc.items.any (fun i => i.flow = n && !l.headroomOk i && decide (i.since + l.rd SC_HCFG_DAGE * msec < l.now))
  if old && !l.on (SC_FLOWSTAT_AGED n) then ((l.set (SC_FLOWSTAT_AGED n)).raise srcSC 4 clsCE none n).event 133 else l

/-! ### Commit and rollback (R271, R273, R352, R362) -/

/-- The mark of step 3 of a commit. -/
def Lane.scMark (l : Lane) : Lane := { l with sc := { l.sc with markStack := l.sc.stack, taken := [] } }

/-- Step 6 of a commit: the slots of completed items return, and a stall ends. -/
def Lane.scFree (l : Lane) : Lane := ({ l with sc := { l.sc with done := 0 } }.clr SC_STAT_POOLSTALL).poolView

/-- An item taken since the mark returns to the pending items; where its source has become pending again, the two merge with the sum of the
counts and the stamp of the one taken first, which is the earlier (R362). -/
def returnItem (items : List Item) (i : Item) : List Item :=
  match items.find? (fun j => j.kind = i.kind ∧ j.src = i.src ∧ i.kind ≠ .post) with
  | none => items ++ [i]
  | some j =>
    let f := if stampBefore j.stamp i.stamp then j else i
    items.filter (fun k => k.stamp ≠ j.stamp) ++ [{ f with count := Nat.min 255 (i.count + j.count) }]

/-- The pending items in order of arrival. -/
def insertItem (i : Item) : List Item → List Item
  | [] => [i]
  | j :: r => if stampBefore i.stamp j.stamp then i :: j :: r else j :: insertItem i r

def sortItems (l : List Item) : List Item := l.foldr insertItem []

/-- A rollback restores the mark: the stack as it was, and the items taken since back in their flows (R362). -/
def Lane.scRollback (l : Lane) : Lane :=
  let l := l.bistCharge
  let s := l.sc
  ({ l with sc := { s with
    items := sortItems (s.taken.foldl returnItem s.items)
    stack := s.markStack
    taken := []
    done := 0 } }).poolView

/-! ### Timers (R363 to R366) -/

/-- The delay list of a number. -/
def ScSt.list (s : ScSt) : Nat → List Armed
  | 0 => s.tl0
  | 1 => s.tl1
  | 2 => s.tl2
  | _ => s.tl3

/-- The state with a delay list replaced. -/
def ScSt.setList (s : ScSt) (n : Nat) (l : List Armed) : ScSt :=
  match n with
  | 0 => { s with tl0 := l }
  | 1 => { s with tl1 := l }
  | 2 => { s with tl2 := l }
  | _ => { s with tl3 := l }

/-- Insertion in order of expiry, behind entries of the same expiry. -/
def insertArmed (a : Armed) : List Armed → List Armed
  | [] => [a]
  | b :: r => if a.expiry < b.expiry then a :: b :: r else b :: insertArmed a r

/-- A timer leaves its list, and any insertion of it ends; a pending item of it stays pending. -/
def ScSt.disarm (s : ScSt) (t : Nat) : ScSt :=
  { s with
    tl0 := s.tl0.filter (fun a => a.timer ≠ t)
    tl1 := s.tl1.filter (fun a => a.timer ≠ t)
    tl2 := s.tl2.filter (fun a => a.timer ≠ t)
    tl3 := s.tl3.filter (fun a => a.timer ≠ t)
    walks := s.walks.filter (fun a => a.timer ≠ t) }

/-- Whether a timer is in a list, or on its way into one. -/
def ScSt.armed (s : ScSt) (t : Nat) : Bool :=
  (s.tl0 ++ s.tl1 ++ s.tl2 ++ s.tl3).any (fun a => a.timer = t) || s.walks.any (fun a => a.timer = t)

/-- The timers in a list or on their way into it. -/
def ScSt.occupancy (s : ScSt) (n : Nat) : Nat := (s.list n).length + (s.walks.filter (fun a => a.list = n)).length

/-- A timer starts its insertion walk: (n + 4) × 5 ns, n being the list's occupancy (R365). -/
def Lane.startWalk (l : Lane) (t expiry n : Nat) : Lane :=
  let w : Insertion := ⟨t, expiry, n, l.now + ((l.sc.list n).length + 4) * cycBus⟩
  { l with sc := { l.sc with walks := l.sc.walks ++ [w] } }

/-- A released write of SC_TMRCFG_t arms or removes the timer; a timer armed into a full list is not armed (R364). -/
def Lane.timerArm (l : Lane) (t : Nat) (v : Word) : Lane :=
  let l := { (l.setReg (SC_TMRCFG_ARM t).addr (v &&& 0xFF0000FF#64)) with sc := l.sc.disarm t }
  if l.rd (SC_TMRCFG_ARM t) = 0 then l
  else
    let n := l.rd (SC_TMRCFG_LIST t)
    if l.rd (SC_TLCFG_CAP n) ≤ l.sc.occupancy n then l.bump SC_CNT_TFULL
    else l.startWalk t (l.reg (SC_TMREXP t).addr).toNat n

/-- A released write of SC_TMREXP_t: the expiry of an armed timer changes by a new insertion (R364). -/
def Lane.timerExpWrite (l : Lane) (t : Nat) (v : Word) : Lane :=
  let l := l.setReg (SC_TMREXP t).addr v
  if l.sc.armed t then
    ({ l with sc := l.sc.disarm t }).startWalk t v.toNat (l.rd (SC_TMRCFG_LIST t))
  else l

/-- An insertion walk ends: the timer stands in its list; one whose expiry is not later than the tick counts in PAST and fires at the
next tick (R365). -/
def Lane.timerInsert (l : Lane) (t : Nat) : Lane :=
  match l.sc.walks.find? (fun w => w.timer = t) with
  | none => l
  | some w =>
    if !l.due w.due then l
    else
      let s := { l.sc with walks := l.sc.walks.filter (fun a => a.timer ≠ t) }
      let past := decide (w.expiry ≤ l.scTick)
      let a : Armed := { timer := t, expiry := w.expiry, notBefore := if past then l.scTick + 1 else 0 }
      let l := { l with sc := s.setList w.list (insertArmed a (s.list w.list)) }
      l.when past (fun l => l.bump SC_TMRSTAT_PAST)

/-- The timer that the scheduler removes next: the first of lists 0 to 3 whose expiry has come, past one that was inserted too late for this
tick (R365, R366). -/
def Lane.dueTimer (l : Lane) : Option (Nat × Armed) :=
  (List.range 4).findSome? (fun n =>
    ((l.sc.list n).find? (fun a => decide (a.expiry ≤ l.scTick) && decide (a.notBefore ≤ l.scTick))).map (fun a => (n, a)))

/-- The root periods since BOOT for which SC_TICK has counted. -/
def Lane.scTime (l : Lane) : Nat := l.sc.tick0 * usec + (if l.sc.tickRun then l.now - l.sc.tickAt else 0)

/-- The first timer whose expiry has come is removed and its item becomes pending; a periodic one is inserted again at its previous
expiry plus its period; one removed after the tick that follows its expiry counts in SLIP (R366). -/
def Lane.timerExpire (l : Lane) : Lane :=
  match l.dueTimer with
  | none => l
  | some (n, a) =>
    let late := decide ((a.expiry + 1) * usec < l.scTime)
    let l := { l with sc := l.sc.setList n ((l.sc.list n).filter (fun b => b.timer ≠ a.timer)) }
    let l := l.arise .timer a.timer (l.rd (SC_TMRCFG_FLOW a.timer)) (l.rd (SC_TMRCFG_PRIO a.timer))
    let l := if l.on (SC_TMRCFG_PERIODIC a.timer) then
        let b : Armed := { timer := a.timer, expiry := a.expiry + l.rd (SC_TMRPER_US a.timer), notBefore := 0 }
        { l with sc := l.sc.setList n (insertArmed b (l.sc.list n)) }
      else l
    l.when late (fun l => ((l.bump SC_CNT_SLIP).raiseOnce srcSC 3 clsCE none a.timer).event 130)

/-! ### Headroom and the profile proposal (R367 to R372) -/

/-- The 1 ms bin closes, rounded down to µJ. -/
def Lane.closeBin (l : Lane) : Lane :=
  let l := l.energyAccount
  { l with sc := { l.sc with bins := (l.sc.bin / 100000 :: l.sc.bins).take 10, bin := 0 } }

/-- floor(8 × n / d), kept between 0 and 7. -/
def level8 (n d : Int) : Nat := if n ≤ 0 then 0 else Nat.min 7 ((8 * n / d).toNat)

/-- H_E (R367): the last ten bins against the budget, scaled while fewer than ten exist. -/
def Lane.levelE (l : Lane) : Nat :=
  let k := l.sc.bins.length
  let b : Int := l.rd SC_EBUD_UJ
  if k = 0 then 7
  else
    let e : Int := (l.sc.bins.foldl (· + ·) 0 : Nat)
    level8 (b * k - e * 10) (b * k)

/-- The largest of the signed readings of some monitor sources. -/
def Lane.hottest (l : Lane) : List Nat → Int
  | [] => -32768
  | n :: r => Max.max (l.rdS (AD_MON n)) (l.hottest r)

/-- H_H (R367): the temperature margins against the span. -/
def Lane.levelH (l : Lane) : Nat :=
  let sp : Int := l.rd SC_TSPAN_SPAN
  Nat.min (level8 (l.rdS SC_TLIM_TLIMC - l.hottest [0, 1, 2, 3]) sp) (level8 (l.rdS SC_TLIM_TLIMD - l.hottest [4, 5]) sp)

/-- H follows h_new: it falls at once, and rises one level when h_new has stayed above it for RISE ms (R368). -/
def Lane.stepH (l : Lane) : Lane :=
  let he := l.levelE
  let hh := l.levelH
  let n := Nat.min he hh
  let l := (l.wr SC_HEAD_HE he).wr SC_HEAD_HH hh
  let h := l.rd SC_HEAD_H
  if n < h then ({ l with sc := { l.sc with riseMs := 0 } }.wr SC_HEAD_H n).event 131
  else if n = h then { l with sc := { l.sc with riseMs := 0 } }
  else if l.sc.riseMs < l.rd SC_HCFG_RISE then { l with sc := { l.sc with riseMs := l.sc.riseMs + 1 } }
  else ({ l with sc := { l.sc with riseMs := if h + 1 < n then 1 else 0 } }.wr SC_HEAD_H (h + 1)).event 131

/-- The over-temperature condition of Table 1.8: it holds from a reading above SY_TWARN until all are below SY_TWARN − 10 °C (R370). -/
def Lane.stepHot (l : Lane) : Lane :=
  let t := l.hottest [0, 1, 2, 3, 4, 5]
  let w := l.rdS SY_TWARN_T
  { l with sc := { l.sc with hot := if l.sc.hot then decide (w - 160 ≤ t) else decide (w < t) } }

/-- The proposal that H and the limits call for at an update (R370). -/
def Lane.wantProf (l : Lane) : Nat :=
  let h := l.rd SC_HEAD_H
  let p := if l.sc.hot then 2 else if l.rd SC_PROFTH_HIGH ≤ h then 0 else if l.rd SC_PROFTH_BAL ≤ h then 1 else 2
  let p := Nat.max p (l.rd SY_PROF_CEIL)
  if l.now < l.sc.capUntil then Nat.max p l.sc.capProf else p

/-- The quietest of the ceiling, the own proposal and the proposals of the lanes counted live (R371). -/
def Lane.updateSel (l : Lane) : Lane :=
  let f := fun (live : Fld) (p : Fld) => if l.on live then l.rd p else 0
  let others := Nat.max (if l.me = .A then 0 else f GL_LANES_LIVEA SC_PROFSEL_LA)
    (Nat.max (if l.me = .B then 0 else f GL_LANES_LIVEB SC_PROFSEL_LB) (if l.me = .C then 0 else f GL_LANES_LIVEC SC_PROFSEL_LC))
  l.wr SC_PROFSEL_SEL (Nat.max (l.rd SY_PROF_CEIL) (Nat.max (l.rd SC_PROFSEL_OWN) others))

/-- The own proposal: a quieter one applies at once, a less quiet one when it has held for HOLD ms (R370). -/
def Lane.stepProposal (l : Lane) : Lane :=
  let w := l.wantProf
  let own := l.rd SC_PROFSEL_OWN
  let c0 := if w = 0 then l.sc.hold0 + 1 else 0
  let c1 := if w ≤ 1 then l.sc.hold1 + 1 else 0
  let h := l.rd SC_PROFTH_HOLD
  let l := { l with sc := { l.sc with hold0 := c0, hold1 := c1 } }
  let p := if own < w then w
    else if w = 0 ∧ h < c0 then 0
    else if w ≤ 1 ∧ h < c1 then Nat.min own 1
    else own
  if p = own then l else (l.wr SC_PROFSEL_OWN p).event 132

/-- Whether some flow with the domain in its mask has an item pending or in service, or a timer due within LEAD, in its list or on the way
into it (R372). -/
def Lane.domainWanted (l : Lane) (d : Nat) : Bool :=
  let has := fun (n : Nat) => (l.rd (SC_FLOWCFG_DOM n)).testBit d
  let soon := fun (t e : Nat) => has (l.rd (SC_TMRCFG_FLOW t)) && decide (e ≤ l.scTick + l.rd SC_PDCFG_LEAD)
  (l.sc.items ++ l.sc.stack).any (fun i => has i.flow) ||
  (l.sc.tl0 ++ l.sc.tl1 ++ l.sc.tl2 ++ l.sc.tl3).any (fun a => soon a.timer a.expiry) || l.sc.walks.any (fun w => soon w.timer w.expiry)

/-- Whether an axis is absent, in axis safe state, or its loop in FAULT (Table 10.4). -/
def Lane.axisIdle (l : Lane) (x : Ax) : Bool :=
  !l.part.hasAxis x || l.on (GD_STAT_SAFE x) || l.rd (LE_STAT_STATE x) = 2

/-- Table 10.4: whether the scheduler may request a domain down. PG of an axis that the part does not have may always go down where the table
asks nothing else (DESIGN CHOICE, log entry 42). -/
def Lane.domainAllowed (l : Lane) (d : Nat) : Bool :=
  let out := l.mode = mSafeHold || l.mode = mService
  match d with
  | 1 => l.axisIdle .x0
  | 2 => l.axisIdle .x1
  | 3 => out && l.on (GD_STAT_SAFE .x0)
  | 4 => out && (!l.part.hasAxis .x1 || l.on (GD_STAT_SAFE .x1))
  | 5 => out && l.on (GD_STAT_SAFE .x0) && (l.on (GD_STAT_SAFE .x1) || !l.part.hasAxis .x1)
  | 6 => l.mode = mSafeHold
  | _ => false

/-- The request of a domain: 0 ON, 1 RETAIN, 2 OFF (R372). -/
def Lane.domainRequest (l : Lane) (d : Nat) : Nat :=
  if (l.rd SC_PDAUTO_DOM).testBit d ∧ l.domainAllowed d ∧ !l.domainWanted d then (if l.rd SC_HEAD_HH = 0 then 2 else 1) else 0

/-- SC_PDREQ follows the requests; a change drives the domain-request event (R372). -/
def Lane.stepDomains (l : Lane) : Lane :=
  let v := (List.range 7).foldl (fun a d => a + l.domainRequest d * 4 ^ d) 0
  if l.rd SC_PDREQ_DOM = v then l else (l.wr SC_PDREQ_DOM v).event 134

/-- The update of every millisecond of SC_TICK (R367). -/
def Lane.headroomUpdate (l : Lane) : Lane :=
  let m := l.scTick / 1000
  if l.sc.lastMs < m then
    let l := { l with sc := { l.sc with lastMs := m } }
    (((l.closeBin.stepH).stepHot).stepProposal).updateSel.stepDomains
  else l

end Sys2Proof.Machine
end

