-- ==== Sys2Proof/Machine/Voltage.lean ====
section
/-!
DEFINITION. Regulator control: voltage requests, PMBus transactions and the regulator check (spec/13_power_clocks_wake.md R467 to R472,
spec/16_start_up.md R532 and R547), and what a request that is not acknowledged does to a profile (spec/01_lanes_modes_faults.md R34).
-/

namespace Sys2Proof.Machine

/-! ### Settings -/

/-- PM_CFG and PM_VWIN in use: the AO shadows of the last image in BOOT, the registers afterwards (R532). -/
def Lane.pmCfg (l : Lane) (f : Fld) : Nat :=
  if l.mode = mBoot then getBits (if f.addr = PM_CFG_EN.addr then l.ao.pmCfg else l.ao.pmWin) f.lo f.w else l.rd f

/-- Whether the PMBus master is enabled. -/
def Lane.pmOn (l : Lane) : Bool := decide (l.pmCfg PM_CFG_EN = 1)

/-- The acknowledgement timeout, the retry delay and the spacing of STATUS_WORD reads (R468, R470, Table 13.8). -/
def pmTimeout : Nat := 500 * usec
def pmRetry : Nat := 10 * usec
def pmReadStep : Nat := 50 * usec

/-- The command code of a transaction (Table 13.7). -/
def pmCode : PmTrans → Nat
  | .voutCommand _ => 0x21
  | .operationWrite _ => 0x01
  | .clearFaults => 0x03
  | .statusWord => 0x79
  | .operationRead => 0x01
  | .readVout => 0x8B
  | .readIout => 0x8C

/-- One bit of the PEC of SMBus, a CRC-8 with the polynomial x^8 + x^2 + x + 1. -/
def pecBit (c : Byte) : Byte := if c.getLsbD 7 then (c <<< 1) ^^^ 0x07#8 else c <<< 1

/-- The PEC of the bytes of a transaction. -/
def pec (b : List Byte) : Byte := b.foldl (fun c v => (List.range 8).foldl (fun c _ => pecBit c) (c ^^^ v)) 0#8

/-- A number of units times a power of two, as a fraction: its numerator and its denominator. -/
def linearFrac (m x : Int) : Int × Nat := if x < 0 then (m, 2 ^ x.natAbs) else (m * 2 ^ x.toNat, 1)

/-- A LINEAR16 reading in mV (Table 13.7). -/
def linear16Mv (e v : Nat) : Int × Nat := linearFrac (v * 1000) (signed 5 e)

/-- A LINEAR11 reading in 10 mA units (Table 13.7). -/
def linear11Ma (v : Nat) : Int × Nat := linearFrac (signed 11 (v % 2048) * 100) (signed 5 (v / 2048))

/-- A reading as a 16-bit register takes it: an inexact one is rounded down or up, and one outside the register has no stated value; both are
free values (log entry 30). -/
def Lane.reading (l : Lane) (r : Int × Nat) : Nat :=
  let n := l.fresh
  let z := r.1 / r.2 + (if r.1 % r.2 = 0 then 0 else (Config.pick l.me n % 2 : Nat))
  if 0 ≤ z ∧ z < 65536 then z.toNat else Config.pick l.me n % 65536

/-- A field takes a reading. -/
def Lane.takeReading (l : Lane) (f : Fld) (r : Int × Nat) : Lane := { (l.wr f (l.reading r)) with fresh := l.fresh + 1 }

/-! ### Transactions -/

/-- The nearest whole number to a fraction that is not negative; which of two equally near ones is a free value (log entry 30). -/
def Lane.nearest (l : Lane) (r : Int × Nat) : Nat :=
  let n := r.1.toNat
  n / r.2 + (if 2 * (n % r.2) < r.2 then 0 else if 2 * (n % r.2) = r.2 then Config.pick l.me l.fresh % 2 else 1)

/-- The LINEAR16 word of a voltage in mV, round(V x 2^-EXP) (Table 13.7); one that 16 bits cannot hold has no stated value, and is a free value
(log entry 30). -/
def Lane.linear16 (l : Lane) (mv : Nat) : Nat :=
  let f := linearFrac mv (-signed 5 (l.pmCfg PM_CFG_EXP))
  let z := l.nearest (f.1, f.2 * 1000)
  if z < 65536 then z else Config.pick l.me l.fresh % 65536

/-- The data bytes that a transaction writes, least significant first; none for a read. -/
def Lane.pmData (l : Lane) : PmTrans → Option (List Byte)
  | .voutCommand mv => some (leBytes 2 (l.linear16 mv))
  | .operationWrite d => some (leBytes 1 d)
  | .clearFaults => some []
  | _ => none

/-- The bytes of the master in a transaction: a write ends with its PEC; a read goes on with the address and the read bit, after which the
regulator sends (R467, Table 13.7). -/
def Lane.pmWire (l : Lane) (t : PmTrans) : List Byte :=
  let a := l.pmCfg PM_CFG_ADDR * 2
  let head := [BitVec.ofNat 8 a, BitVec.ofNat 8 (pmCode t)]
  match l.pmData t with
  | some d => head ++ d ++ [pec (head ++ d)]
  | none => head ++ [BitVec.ofNat 8 (a + 1)]

/-- A transaction starts on the bus. -/
def Lane.pmSend (l : Lane) (k : PmTask) : Lane :=
  { (({ l with pm := { l.pm with cur := some k, retryAt := none } }).send (.pmbus k.t (l.pmWire k.t))) with fresh := l.fresh + 1 }

/-- A transaction starts, or waits for the bus. -/
def Lane.pmStart (l : Lane) (k : PmTask) : Lane :=
  if l.pm.cur.isNone then ({ l with pm := { l.pm with again := false } }).pmSend k
  else { l with pm := { l.pm with todo := l.pm.todo ++ [k] } }

/-- The bus is free: the next waiting transaction starts. -/
def Lane.pmFree (l : Lane) : Lane :=
  let l := { l with pm := { l.pm with cur := none, again := false, retryAt := none } }
  match l.pm.todo with
  | [] => l
  | k :: r => ({ l with pm := { l.pm with todo := r } }).pmSend k

/-! ### The arming proofs (spec/16_start_up.md R538) -/

/-- The end of SY_ARMTIME. -/
def Lane.armEnd (l : Lane) : Nat := l.sy.armedAt + l.rd SY_ARMTIME_MS * msec

/-- Whether every proof reads passed. -/
def Lane.armComplete (l : Lane) : Bool :=
  l.on SF_ARMSTAT_SAFSS && l.on SF_ARMSTAT_GD0 && l.on SF_ARMSTAT_GD1 && l.on SF_ARMSTAT_REG && l.on SF_ARMSTAT_QUORUM

/-- A change of the proofs; where it completes arming in the expiry cycle of SY_ARMTIME it sets LATE (R13 of 01_lanes_modes_faults). -/
def Lane.proofPass (l : Lane) (f : Lane → Lane) : Lane :=
  let was := l.armComplete
  let l := f l
  l.when (decide (l.mode = mArming) && !was && l.armComplete && l.inExpiry l.armEnd cycPer) (fun l => l.set SF_ARMSTAT_LATE)

/-- A proof passes: its bit sets and stays until BOOT. -/
def Lane.provenBy (l : Lane) (f : Fld) (c : Bool) : Lane := if c && !l.on f then l.proofPass (fun l => (l.set f).event 191) else l

/-! ### The regulator check and requests that are not acknowledged -/

/-- The regulator check fails (R547): READ_VOUT in mV, or 0 with the reason. -/
def Lane.regFail (l : Lane) (mv : Nat) (noAck refused : Bool) : Lane :=
  let d := mv + (if noAck then 65536 else 0) + (if refused then 131072 else 0)
  ((l.set SF_ARMSTAT_REGF).raise srcSF 8 clsUC none d).event 191

/-- A preparation's request is not acknowledged: the profile stands, and the proposal is held for HOLD ms (R34). -/
def Lane.profRefused (l : Lane) : Lane :=
  let l := { l with sy := { l.sy with prepLost := true } }
  let l := { l with sc := { l.sc with capUntil := l.now + l.rd SC_PROFTH_HOLD * msec, capProf := l.prof } }
  l.raise srcSY 5 clsCE none 0

/-- A voltage request ends without acknowledgement. -/
def Lane.pmNotAck (l : Lane) (why : PmWhy) (refused : Bool) : Lane :=
  let l := if why = .prepare then l.profRefused else l
  if l.mode = mArming ∧ l.rd SF_ARMSTAT_REG = 0 then l.regFail 0 true refused else l

/-! ### Voltage requests (R468, R472) -/

/-- A request that the PM block refuses without a transaction. -/
def Lane.pmRefuse (l : Lane) (f : Fld) (why : PmWhy) : Lane := ((l.set f).event 165).pmNotAck why true

/-- A request of a voltage in mV (R468). With PM_CFG.EN = 0 none is sent, and the profile proceeds as if acknowledged at once (R472). -/
def Lane.pmRequest (l : Lane) (mv : Nat) (why : PmWhy) : Lane :=
  if l.pmOn = false then l
  else if l.on PM_STAT_BUSY then l.pmRefuse PM_STAT_BUSYREJ why
  else if mv < l.pmCfg PM_VWIN_MIN ∨ l.pmCfg PM_VWIN_MAX < mv then (l.raiseOnce srcPM 1 clsCE none mv).pmRefuse PM_STAT_VREJ why
  else
    (({ l with pm := { l.pm with req := some { mv := mv, why := why } } }).set PM_STAT_BUSY).pmStart ⟨.voutCommand mv, .request⟩

/-- The start's request of 750 mV, which is made twice at most (R532). -/
def Lane.pmBoot (l : Lane) : Lane :=
  ({ l with pm := { l.pm with bootWait := true, bootTries := l.pm.bootTries + 1 } }).pmRequest 750 .start

/-- The next step of BOOT (R532; spec/14_self_test_lifecycle.md R485, R486; spec/15_configuration_image.md R500): the start-up sweep in
PRODUCTION or where the flag in AO asks for one, but none in TERMINATED, else the loader; in BLANK and TERMINATED there is none
(spec/14_self_test_lifecycle.md R476). -/
def Lane.bootLoad (l : Lane) : Lane :=
  let c := l.rd LC_STAT_STATE
  { l with im := { l.im with phase := if c = 1 ∨ c = 2 ∨ c = 3 then .load else .stay } }

/-- Whether this BOOT has a start-up sweep: always in PRODUCTION, in MANUFACTURE and RETURN after ST_CTL.SWEEP, in BLANK after the JTAG
instruction, in TERMINATED never (R485, R486 of 14_self_test_lifecycle). -/
def Lane.sweepHere (l : Lane) : Bool :=
  match l.rd LC_STAT_STATE with
  | 0 => l.st.swJtag
  | 1 => l.st.swNext
  | 2 => true
  | 3 => l.st.swNext
  | _ => false

/-- The step after the clock, or after the acknowledgement of R532. -/
def Lane.bootNext (l : Lane) : Lane :=
  if l.sweepHere then
    ({ l with im := { l.im with phase := .sweep }, st := { l.st with sweep := true, swNext := false, swJtag := false } }).set ST_STAT_BUSY
  else (l.set ST_STAT_SWSKIP).bootLoad

/-- The request in progress ends without acknowledgement. -/
def Lane.pmLost (l : Lane) (r : PmReq) : Lane :=
  let l := (({ l with pm := { l.pm with req := none } }).clr PM_STAT_BUSY).pmNotAck r.why false
  if r.why = .start ∧ l.pm.bootTries < 2 then l.pmBoot else l

/-- The regulator acknowledges (R468): PM_VACK takes the request, and the regulator check reads VOUT (R547). -/
def Lane.pmAck (l : Lane) (r : PmReq) (late : Bool) : Lane :=
  let l := { l with pm := { l.pm with req := none, bootWait := l.pm.bootWait && decide (r.why ≠ PmWhy.start) } }
  let l := (((l.clr PM_STAT_BUSY).wr PM_VACK_MV r.mv).event 164).when late (fun l => l.set PM_STAT_LATE)
  let l := if r.why = .start ∧ l.im.phase = .vcore then l.bootNext else l
  if l.mode = mArming ∧ l.rd SF_ARMSTAT_REG = 0 ∧ r.mv = profMv l.prof then l.pmStart ⟨.readVout, .check r.mv⟩ else l

/-- Whether an acknowledgement arrives in time, and whether in the cycle of expiry (R13). -/
def Lane.pmInTime (l : Lane) (r : PmReq) : Option Bool :=
  match r.stopAt with
  | some t => if l.now < t + pmTimeout then some false else if l.inExpiry (t + pmTimeout) cycPer then some true else none
  | none => none

/-- The regulator acknowledges by A_PGOOD (Table 13.8). -/
def Lane.voltageAck (l : Lane) : Lane :=
  match l.pm.req with
  | none => l
  | some r =>
    match r.stopAt, l.pmInTime r with
    | some t, some late =>
      if l.pmCfg PM_CFG_ACKSRC = 0 ∧ l.on PM_STAT_PGOOD ∧ t + l.pmCfg PM_CFG_SETTLE * usec ≤ l.now then l.pmAck r late else l
    | _, _ => l

/-- 500 µs pass without acknowledgement (R468). -/
def Lane.voltageTimeout (l : Lane) : Lane :=
  match l.pm.req with
  | none => l
  | some r =>
    match r.stopAt with
    | some t =>
      if l.due (t + pmTimeout) then ((((l.set PM_STAT_NOACK).raise srcPM 2 clsUC none r.mv).event 165).pmLost r) else l
    | none => l

/-! ### The end of a transaction -/

/-- A READ_VOUT of the regulator check is judged against ±3 %, before any rounding (R547). -/
def Lane.regJudge (l : Lane) (r : Int × Nat) (want : Nat) : Lane :=
  if 97 * (want * r.2 : Nat) ≤ 100 * r.1 ∧ 100 * r.1 ≤ 103 * (want * r.2 : Nat) then l.proofPass (fun l => (l.set SF_ARMSTAT_REG).event 191)
  else l.regFail (l.rd PM_VOUT_MV) false false

/-- A STATUS_WORD read for the acknowledgement ends (Table 13.8): it acknowledges, or the next read is due 50 µs after the last. -/
def Lane.statusAck (l : Lane) (v : Nat) : Lane :=
  match l.pm.req with
  | none => l
  | some r =>
    if v.testBit 15 || v.testBit 11 then l
    else match l.pmInTime r with
      | some late => l.pmAck r late
      | none => l

/-- PM_ALERT, which A_PMALT has raised by its fall, with PM_SW as the read it began left it (R471, Table 13.10). -/
def Lane.alertRaise (l : Lane) : Lane := l.raise srcPM 4 clsCE none (l.dataOf PM_SW_SW.addr)

/-- The transaction on the bus reaches its stop condition; `v` is the data it read. -/
def Lane.pmEnd (l : Lane) (v : Nat) : Lane :=
  match l.pm.cur with
  | none => l
  | some k =>
    if l.pm.retryAt.isSome then l
    else
      let l := l.pmFree
      let l := match k.t with
        | .statusWord => l.wr PM_SW_SW v
        | .operationRead => l.wr PM_SW_OP v
        | .readVout => l.takeReading PM_VOUT_MV (linear16Mv (l.rd PM_CFG_EXP) v)
        | .readIout => l.takeReading PM_IOUT_I10MA (linear11Ma v)
        | _ => l
      match k.use with
      | .request =>
        match l.pm.req with
        | some r => { l with pm := { l.pm with req := some { r with stopAt := some l.now
                                                                    readAt := l.now + l.pmCfg PM_CFG_SETTLE * usec } } }
        | none => l
      | .ack => l.statusAck v
      | .alert => l.alertRaise
      | .command => l.clr PM_STAT_BUSY
      | .poll => l
      | .check want => l.regJudge (linear16Mv (l.rd PM_CFG_EXP) v) want

/-- The transaction on the bus fails: it is repeated once 10 µs later, or reported (R470). -/
def Lane.pmFail (l : Lane) : Lane :=
  match l.pm.cur with
  | none => l
  | some k =>
    if l.pm.retryAt.isSome then l
    else if l.pm.again = false then { l with pm := { l.pm with retryAt := some (l.now + pmRetry), again := true } }
    else
      let l := (((l.set PM_STAT_BUSERR).raise srcPM 3 clsUC none (pmCode k.t)).event 165).pmFree
      match k.use, l.pm.req with
      | .request, some r => l.pmLost r
      | .command, _ => l.clr PM_STAT_BUSY
      | .check _, _ => l.regFail 0 true false
      | .alert, _ => l.alertRaise
      | _, _ => l

/-- The repeat of a failed transaction is due (R470). -/
def Lane.pmRepeat (l : Lane) : Lane :=
  match l.pm.cur, l.pm.retryAt with
  | some k, some t => if l.due t then l.pmSend k else l
  | _, _ => l

/-- Reads of STATUS_WORD for an acknowledgement start every 50 µs (Table 13.8). -/
def Lane.pmTick (l : Lane) : Lane :=
  match l.pm.req with
  | some r =>
    if l.pmCfg PM_CFG_ACKSRC = 1 ∧ r.stopAt.isSome ∧ l.due r.readAt ∧ l.pm.cur.isNone then
      ({ l with pm := { l.pm with req := some { r with readAt := r.readAt + pmReadStep } } }).pmStart ⟨.statusWord, .ack⟩
    else l
  | none => l

/-! ### Commands, polls and alerts (R470, R471) -/

/-- PM_CMD is issued. -/
def Lane.pmCommand (l : Lane) : Lane :=
  let data := l.rd PM_CMD_DATA
  if l.pmOn = false then l
  else if l.on PM_STAT_BUSY then (l.set PM_STAT_BUSYREJ).event 165
  else
    match l.rd PM_CMD_CODE with
    | 0 =>
      if data / 64 = 2 then (l.set PM_STAT_BUSY).pmStart ⟨.operationWrite data, .command⟩
      else ((l.set PM_STAT_VREJ).raiseOnce srcPM 1 clsCE none data).event 165
    | 1 => (l.set PM_STAT_BUSY).pmStart ⟨.clearFaults, .command⟩
    | 2 => (l.set PM_STAT_BUSY).pmStart ⟨.statusWord, .command⟩
    | _ => (l.set PM_STAT_BUSY).pmStart ⟨.operationRead, .command⟩

/-- The readings of each millisecond, between requests (R471). -/
def Lane.pmPoll (l : Lane) : Lane :=
  if l.pmOn ∧ l.rd PM_CFG_POLL = 1 ∧ l.rd PM_STAT_BUSY = 0 ∧ l.mode ≠ mBoot then
    (l.pmStart ⟨.readVout, .poll⟩).pmStart ⟨.readIout, .poll⟩
  else l

/-- The level of A_PMALT changes; its fall begins a STATUS_WORD read, after which PM_ALERT is raised (R471). With PM_CFG.EN = 0 no read is made,
and PM_ALERT is raised at once (DEDUCED, log entry 39). -/
def Lane.pmAlert (l : Lane) (low : Bool) : Lane :=
  if low then
    if l.on PM_STAT_ALERT then l
    else
      let l := (l.set PM_STAT_ALERT).event 166
      if l.pmOn then l.pmStart ⟨.statusWord, .alert⟩ else l.alertRaise
  else l.clr PM_STAT_ALERT

/-! ### The meanings -/

def execVoltageRequest (i : LaneId) (mv : BitVec 16) (s : State) : Host.Outcome State Fault Refusal :=
  s.act i (fun l => (l.wr PM_VREQ_MV mv.toNat).pmRequest mv.toNat .firmware)
def execVoltageAcknowledge (i : LaneId) (s : State) : Host.Outcome State Fault Refusal := s.act i Lane.voltageAck
def execVoltageAckTimeout (i : LaneId) (s : State) : Host.Outcome State Fault Refusal := s.act i Lane.voltageTimeout
def execTransactionFail (i : LaneId) (s : State) : Host.Outcome State Fault Refusal := s.act i Lane.pmFail
def execTransactionRetry (i : LaneId) (s : State) : Host.Outcome State Fault Refusal := s.act i Lane.pmRepeat
def execPmbusTransactionEnd (i : LaneId) (v : BitVec 16) (s : State) : Host.Outcome State Fault Refusal :=
  s.act i (fun l => l.pmEnd v.toNat)
def execOperationWrite (i : LaneId) (d : Byte) (s : State) : Host.Outcome State Fault Refusal :=
  s.act i (fun l => ((l.wr PM_CMD_CODE 0).wr PM_CMD_DATA d.toNat).pmCommand)
def execClearFaults (i : LaneId) (s : State) : Host.Outcome State Fault Refusal := s.act i (fun l => (l.wr PM_CMD_CODE 1).pmCommand)
def execStatusWordRead (i : LaneId) (s : State) : Host.Outcome State Fault Refusal := s.act i (fun l => (l.wr PM_CMD_CODE 2).pmCommand)
def execOperationRead (i : LaneId) (s : State) : Host.Outcome State Fault Refusal := s.act i (fun l => (l.wr PM_CMD_CODE 3).pmCommand)
def execPmPoll (i : LaneId) (s : State) : Host.Outcome State Fault Refusal := s.act i Lane.pmPoll
def execPmAlert (i : LaneId) (low : Bool) (s : State) : Host.Outcome State Fault Refusal :=
  s.actPin i Lane.clocks (fun l => l.put PM_STAT_ALERT low) (fun l => l.pmAlert low)

end Sys2Proof.Machine
end

