-- ==== Sys2Proof/Machine/Guyline.lean ====
section
/-!
DEFINITION. The Guyline: links, heartbeats, the leader token, the configuration vote, the leader's outer cycle, state copies and torque
sharing (spec/08_leadership_guyline.md), with the lanes counted under spec/01_lanes_modes_faults.md R25, R26 and R46.
-/

namespace Sys2Proof.Machine

/-! ### Sending (R289, R291, R292) -/

/-- The message types of Table 8.2. -/
def tHeartbeat : Nat := 0x01
def tCommand : Nat := 0x02
def tCopy : Nat := 0x03
def tClaim : Nat := 0x04
def tAbdicate : Nat := 0x05
def tHandover : Nat := 0x06
def tFtann : Nat := 0x07
def tCfgHash : Nat := 0x08
def tMemtok : Nat := 0x10
def tDump : Nat := 0x20

/-- The port on which messages for a neighbour leave: the other one while its link is looped back (R289). -/
def Lane.routePort (l : Lane) (p : Port) : Port := if l.on (GL_LINK_LOOPBK p.idx) then p.other else p

/-- The priority of a type (Table 8.2). -/
def glPrio (type : Nat) : Nat :=
  if type = tFtann then 1 else if type = tHeartbeat then 2 else if type = tClaim ∨ type = tAbdicate ∨ type = tHandover then 3
  else if type = tCommand then 4 else if type = tCfgHash then 5 else if type = tMemtok then 6 else if type = tCopy then 7 else 8

/-- One 66-bit block of 21.12 ns (R287), in 1/1000 root periods. -/
def blockSpan : Nat := 33792

/-- Until when a port sends, in 1/1000 root periods. -/
def GlSt.busy (s : GlSt) : Port → Nat
  | .next => s.busy0
  | .prev => s.busy1

/-- A port sends until a time. -/
def Lane.setBusy (l : Lane) (p : Port) (t : Nat) : Lane :=
  match p with
  | .next => { l with gl := { l.gl with busy0 := t } }
  | .prev => { l with gl := { l.gl with busy1 := t } }

/-- The port by which a waiting message leaves (R289). -/
def Lane.wayOut (l : Lane) (w : GlWait) : Port := if w.passed then w.dest else l.routePort w.dest

/-- The message that a port sends next, of those that wait for it: the highest priority, and of equal ones the first (R292); with the others
in their order. -/
def Lane.glPick (l : Lane) (p : Port) : List GlWait → Option (GlWait × List GlWait)
  | [] => none
  | w :: r =>
    match l.glPick p r with
    | none => if l.wayOut w = p then some (w, r) else none
    | some (b, k) => if l.wayOut w = p ∧ glPrio w.m.type ≤ glPrio b.m.type then some (w, r) else some (b, w :: k)

/-- A message as it leaves: a chunk of a copy of this lane takes its payload from the copy region at its start (R306). -/
def Lane.glFill (l : Lane) (w : GlWait) : GlMsg :=
  if w.m.type = tCopy ∧ w.passed = false then
    ({ w.m with payload := l.bytes (256 * (l.rd GL_CPCFG_BASE + w.m.chunk)) 256 }).sealed
  else w.m

/-- A message starts on a port at a time in 1/1000 root periods: the port sends it until its blocks have left. -/
def Lane.glStart (l : Lane) (p : Port) (w : GlWait) (t : Nat) : Lane :=
  let ends := t + blockSpan * w.m.blocks
  let l := (l.setBusy p ends).send (.gl p (l.glFill w))
  let own := !w.passed
  let copy := own && decide (w.m.type = tCopy)
  { l with gl := { l.gl with cmdBegun := l.gl.cmdBegun || (own && decide (w.m.type = tCommand) && l.gl.cmdOut.isSome)
                             tx := if copy then l.gl.tx.map (fun c => { c with ends := Nat.max c.ends ends }) else l.gl.tx
                             reads := if copy then l.gl.reads ++ [256 * (l.rd GL_CPCFG_BASE + w.m.chunk)] else l.gl.reads } }

/-- A port that sends nothing starts the next message that waits for it; one whose port is down is lost (R292, R293). -/
def Lane.portStep (l : Lane) (p : Port) : Lane :=
  if 1000 * l.now < l.gl.busy p then l
  else
    match l.glPick p l.gl.txq with
    | none => l
    | some (w, r) =>
      let l := { l with gl := { l.gl with txq := r } }
      if l.on (GL_LINK_UP p.idx) then l.glStart p w (if 1000 * l.now < l.gl.busy p + 1000 then l.gl.busy p else 1000 * l.now) else l

/-- A message is ready to leave: it starts at once where its port sends nothing. -/
def Lane.glReady (l : Lane) (w : GlWait) : Lane :=
  ({ l with gl := { l.gl with txq := l.gl.txq ++ [w] } }).portStep (l.wayOut w)

/-- A message of this lane for one neighbour, ready to leave where its port is up. -/
def Lane.glTo (l : Lane) (p : Port) (type cycle chunk chunks : Nat) (payload : List Byte) : Lane :=
  let i := l.neighbour p
  if l.part.hasLane i && l.on (GL_LINK_UP (l.routePort p).idx) then
    l.glReady ⟨p, false, GlMsg.sealed ⟨type, l.me.code + 16 * 2 ^ i.code, payload.length, cycle, l.rd GL_EPOCH, chunk, chunks, payload,
      padOf payload.length, 0⟩⟩
  else l

/-- A message for both neighbours. -/
def Lane.glSend (l : Lane) (type : Nat) (payload : List Byte) : Lane :=
  (l.glTo .next type (l.rd GL_CYCLE) 0 0 payload).glTo .prev type (l.rd GL_CYCLE) 0 0 payload

/-- SYNC is inserted on a port: one block, also in the middle of a message (R292, R591). -/
def Lane.glSync (l : Lane) (p : Port) (lane : LaneId) (dly : Nat) : Lane :=
  (l.setBusy p (Nat.max (l.gl.busy p) (1000 * l.now) + blockSpan)).send (.sync p lane dly)

/-- The waiting messages of this lane that satisfy a test are withdrawn. -/
def Lane.glWithdraw (l : Lane) (f : Nat → Bool) : Lane :=
  { l with gl := { l.gl with txq := l.gl.txq.filter (fun w => w.passed || !f w.m.type) } }

/-! ### SAFE-HOLD per axis (spec/01_lanes_modes_faults.md R28, R46) -/

/-- The axis is held in its configured safe state until the next BOOT (R28). -/
def Lane.holdAxis (l : Lane) (x : Ax) : Lane := (l.markHeld x).axisSafe x 5 false

/-- Two actuator-path faults on one axis in different lanes put it into SAFE-HOLD per axis, in every lane out of BOOT (R28, R46). -/
def Lane.perAxis (l : Lane) : Lane :=
  l.each l.axes (fun l x => if l.twoFaults x ∧ l.axHeld x = false ∧ l.mode ≠ mBoot then l.holdAxis x else l)

/-! ### The leader token (R300 to R304, R594) -/

/-- The token states of GL_STAT.TSTATE. -/
def tsNone : Nat := 0
def tsCandidate : Nat := 1
def tsFollower : Nat := 2
def tsLeader : Nat := 3
def tsHanding : Nat := 4

/-- Whether the lane holds the token. -/
def Lane.holdsToken (l : Lane) : Bool := decide (tsLeader ≤ l.rd GL_STAT_TSTATE)

/-- Whether the lane is eligible to lead (R301). -/
def Lane.mayLead (l : Lane) : Bool :=
  modeLive l.mode && decide (l.rd PC_STAT_PAIR = 0) && decide (l.rd GL_STAT_VOTE = 1) && l.on GL_CFG_LEADEN &&
    decide (l.rd GL_STAT_INELIG = 0)

/-- Whether this lane is the highest eligible one (R302). -/
def Lane.highest (l : Lane) : Bool :=
  l.mayLead && l.others.all (fun i => !(l.isLive i && (l.gl.peer i).elig) || l.outranks l.me i)

/-- The lane that is counted as the token holder changes; 3 is none (R594). One that comes to hold the token itself places its ticks in its own
network time from then on (R294). -/
def Lane.setHolder (l : Lane) (c : Nat) : Lane :=
  if l.rd GL_STAT_LEADER = c then l
  else
    let l := (l.wr GL_STAT_LEADER c).event 178
    if c = l.me.code then { l with gl := { l.gl with adjust := 0, carry := 0, shift := 0 } } else l

/-- A copy received in part is not complete, and counts so (R308). -/
def Lane.copyBreak (l : Lane) : Lane :=
  match l.gl.rx with
  | some _ => (({ l with gl := { l.gl with rx := none } }).bump GL_CNT_COPYINC).event 181
  | none => l

/-- The lane claims the token; both copy buffers freeze, so that a copy received in part stays incomplete (R302, R308, R309). -/
def Lane.claim (l : Lane) : Lane :=
  let l := l.wr GL_EPOCH ((l.rd GL_EPOCH + 1) % 2 ^ 32)
  let l := ((l.wr GL_STAT_TSTATE tsLeader).bump GL_CNT_CLAIMS).glSend tClaim (leBytes 8 (l.rd GL_CFG_RANK))
  let l := ((({ l with gl := { l.gl with handFrom := none } }).copyBreak).set GL_CPSTAT_FROZEN).set GL_STAT_ALIGN
  ((l.raise srcGL 5 clsCE none (l.rd GL_EPOCH)).event 179).setHolder l.me.code

/-- ABDICATE, with the cycle of the last copy sent and the cause (Table 8.2). -/
def Lane.sendAbdicate (l : Lane) (cause : Nat) : Lane := l.glSend tAbdicate (leBytes 4 l.gl.lastCopy ++ leBytes 4 cause)

/-- The lane drops the token it holds (Table 8.5); `holder` is the lane it counts from then on. -/
def Lane.dropToken (l : Lane) (cause next : Nat) (tell : Bool) (holder : Nat := 3) : Lane :=
  let l := ({ l with gl := { l.gl with handGo := none, abdicate := false, handDue := none, cmdOut := none, cmdBegun := false
                                       handOut := none } }).glWithdraw (fun k => k = tCommand || k = tHandover)
  let l := l.when tell (fun l => l.sendAbdicate cause)
  (((l.wr GL_STAT_TSTATE next).raise srcGL 6 clsCE none cause).event 179).setHolder holder

/-- A follower that counts no token holder claims where it is the highest eligible lane. -/
def Lane.elect (l : Lane) : Lane :=
  if l.rd GL_STAT_TSTATE = tsFollower ∧ l.rd GL_STAT_LEADER = 3 ∧ l.highest then l.claim else l

/-- A leader that is no longer eligible abdicates; else an election may follow. -/
def Lane.tokenCheck (l : Lane) : Lane :=
  if l.rd GL_STAT_TSTATE = tsLeader ∧ l.mayLead = false then (l.dropToken 2 tsFollower true).elect else l.elect

/-- The lane enters BOOT, SAFE-HOLD or SERVICE, or has accepted an FT: its token state is NONE (Table 8.5); `tell` is false where FTANN takes
the place of ABDICATE. -/
def Lane.tokenLeave (l : Lane) (tell : Bool) : Lane :=
  let l := if l.holdsToken then l.dropToken 5 tsNone tell else l
  l.wr GL_STAT_TSTATE tsNone

/-- A lane that a reset is about to take to BOOT drops the token it holds; its ABDICATE leaves at once, because nothing that waits for a port
outlives the reset (Table 8.5; DESIGN CHOICE, log entry 33). -/
def Lane.abdicateNow (l : Lane) : Lane :=
  if l.holdsToken then
    let l := l.tokenLeave true
    let q := l.gl.txq.filter (fun w => !w.passed && decide (w.m.type = tAbdicate))
    (({ l with gl := { l.gl with txq := q, busy0 := 0, busy1 := 0 } }).portStep .next).portStep .prev
  else l

/-- The lane's own mode changes, as GL_LANES and SY_MODE show it. -/
def Lane.showMode (l : Lane) : Lane :=
  let m := l.mode
  ((l.wr (syModeOf l.me) m).wr (laneMode l.me) m).put (laneLive l.me) (modeLive m)

/-- GL_EPOCH is the highest epoch seen (R300). -/
def Lane.seeEpoch (l : Lane) (m : GlMsg) : Lane := if l.rd GL_EPOCH < m.epoch then l.wr GL_EPOCH m.epoch else l

/-- A token holder is heard: a CLAIM, or a heartbeat with TOKEN = 1, of an epoch not below the highest (R300, R594). -/
def Lane.hearHolder (l : Lane) (i : LaneId) (epoch : Nat) : Lane :=
  let old := l.rd GL_EPOCH
  let up := decide (old < epoch)
  let l := l.wr GL_EPOCH epoch
  if l.holdsToken then
    if up || l.outranks i l.me then
      let cause := if l.rd GL_STAT_TSTATE = tsHanding ∧ l.gl.handTo = i.code then 4 else 3
      l.dropToken cause tsFollower false i.code
    else l
  else
    let cur := l.rd GL_STAT_LEADER
    let take := up || decide (cur = 3) || decide (cur = i.code) ||
      (match LaneId.ofCode cur with
        | some j => l.outranks i j
        | none => true)
    if take then
      let l := (l.setHolder i.code).setPeer i { l.gl.peer i with tok0 := 0 }
      if l.rd GL_STAT_TSTATE = tsCandidate then
        { (l.wr GL_STAT_TSTATE tsFollower) with gl := { l.gl with step := true } }
      else l
    else l

/-! ### Lanes counted (R26, R297, R299, spec/09_fault_collection.md R333) -/

/-- One lane is counted again from what is known of it; a lane no longer counted is recorded with its cause. -/
def Lane.countLane (l : Lane) (i : LaneId) (cause : Nat) : Lane :=
  let p := l.gl.peer i
  let m := l.rd (laneMode i)
  let live := p.hb && modeLive m && decide (l.watchOf i ≠ 3)
  let counted := live && modeCounts m
  let lost := (l.on (laneLive i) && !live) || (p.counted && !counted)
  let l := (l.put (laneLive i) live).setPeer i { p with counted := counted, known := p.known || live }
  let l := if lost then
      (((l.wr (laneCause i) cause).raise srcGL 4 clsCE none (i.code + 16 * cause)).event 177)
    else l
  if live = false ∧ l.rd GL_STAT_LEADER = i.code then l.setHolder 3 else l

/-- What follows any change of the lanes counted. -/
def Lane.recount (l : Lane) (i : LaneId) (cause : Nat) : Lane := (((l.countLane i cause).perAxis).glShares).tokenCheck

/-! ### Receiving (R291, R293) -/

/-- A message that is intact, well formed, from another lane and addressed to this one: its sender. -/
def Lane.glAccept (l : Lane) (m : GlMsg) (len : Nat) : Option LaneId :=
  let r := m.route
  if m.intact = false ∨ m.measured = false ∨ m.len ≠ len ∨ r / 4 % 4 ≠ 0 ∨ 128 ≤ r ∨ (r / 16).testBit l.me.code = false then none
  else match LaneId.ofCode (r % 4) with
    | some i => if i = l.me then none else some i
    | none => none

/-- A message is discarded and counted (R293). -/
def Lane.glDiscard (l : Lane) : Lane :=
  let l := l.bump GL_CNT_CRC
  l.raiseOnce srcGL 3 clsCE none (l.dataOf GL_CNT_CRC.addr)

/-- A message of a fixed length, handled by its sender. -/
def Lane.glHear (l : Lane) (m : GlMsg) (len : Nat) (f : Lane → LaneId → Lane) : Lane :=
  match l.glAccept m len with
  | some i => f l i
  | none => l.glDiscard

/-- As `glHear`; its epoch counts as seen (R300). -/
def Lane.glIn (l : Lane) (m : GlMsg) (len : Nat) (f : Lane → LaneId → Lane) : Lane := l.glHear m len (fun l i => f (l.seeEpoch m) i)

/-- As `glHear`, for a type that an epoch below the highest discards (R300); the handling takes the epoch. -/
def Lane.glEpochHear (l : Lane) (m : GlMsg) (len : Nat) (f : Lane → LaneId → Lane) : Lane :=
  l.glHear m len (fun l i => if m.epoch < l.rd GL_EPOCH then l else f l i)

/-- As `glEpochHear`; its epoch counts as seen. -/
def Lane.glEpochIn (l : Lane) (m : GlMsg) (len : Nat) (f : Lane → LaneId → Lane) : Lane :=
  l.glEpochHear m len (fun l i => f (l.seeEpoch m) i)

/-! ### Heartbeats (R295 to R299) -/

/-- VRDY: PM_VACK covers the profile last prepared (R34). -/
def Lane.vrdy (l : Lane) : Bool :=
  match l.sy.prep with
  | some p => decide (profMv p ≤ l.rd PM_VACK_MV)
  | none => false

/-- A Boolean as a bit of a byte. -/
def flagBit (b : Bool) (n : Nat) : Nat := if b then 2 ^ n else 0

/-- The payload of a heartbeat (Table 8.3). -/
def Lane.heartbeat (l : Lane) : List Byte :=
  let flags := flagBit l.holdsToken 0 + flagBit (l.rd PC_STAT_PAIR = 0) 1 + flagBit l.mayLead 2 + flagBit (l.rd GL_STAT_VOTE = 1) 3 +
    flagBit (l.delivers l.me .x0) 4 + flagBit (l.delivers l.me .x1) 5 + flagBit l.vrdy 6
  let b := l.rd GL_CPSTAT_LATEST
  let valid := if b = 0 then l.on GL_CPSTAT_VALID0 else l.on GL_CPSTAT_VALID1
  leBytes 1 l.mode ++ leBytes 1 flags ++ leBytes 1 (l.rd GL_CFG_RANK) ++
    leBytes 1 (l.laneMask l.isLive + 8 * l.rd SC_PROFSEL_OWN) ++
    leBytes 4 (if valid then l.rd (GL_CPCYC b) else 0xFFFFFFFF) ++ leBytes 8 (l.rd GL_TICK)

/-- The proposal of another lane, as the scheduler keeps it (spec/10_flow_scheduler.md R371). -/
def propOf : LaneId → Fld
  | .A => SC_PROFSEL_LA
  | .B => SC_PROFSEL_LB
  | .C => SC_PROFSEL_LC

/-- Equal ranks are heard (R301); a lane that has reported no rank yet has rank 0 here, which no lane reports (GL_CFG). -/
def Lane.rankCheck (l : Lane) (i : LaneId) : Lane :=
  let same := l.lanes.filter (fun j => j ≠ i && l.rankOf j = l.rankOf i)
  if same.isEmpty || l.on GL_STAT_RANKDUP then l
  else (l.set GL_STAT_RANKDUP).raise srcGL 9 clsCE none ((i :: same).foldl (fun a j => a + 2 ^ j.code) 0)

/-- A copy that is not complete before its sender's next heartbeat (R308). -/
def Lane.copyEnd (l : Lane) (c : Nat) : Lane := if l.gl.rx.any (fun r => decide (r.sender = c)) then l.copyBreak else l

/-- Whether the pair executes: it runs, or the debugger holds it between steps (spec/14_self_test_lifecycle.md Table 14.1). -/
def Lane.pairLives (l : Lane) : Bool := decide (l.pc.core = .running) || decide (l.pc.core = .halted)

/-! ### The place of the boundary ticks (R294, R412) -/

/-- The sync states (TT_STAT.SSTATE). -/
def ssUnsync : Nat := 0
def ssAcquire : Nat := 1
def ssSync : Nat := 2
def ssHold : Nat := 3
def ssMaster : Nat := 4

/-- One root period in units of 10^-12/512 ns. -/
def rootUnit : Int := 320000000000000

/-- The network time of the token holder, as far as this lane places its boundary ticks by it: its own with what it adds to it, less how much
later the last SYNC puts the next tick (R294, R591; log entry 33). -/
def Lane.tickTime (l : Lane) : Int := l.ntFine + l.gl.shift - l.gl.adjust * rootUnit

/-- Whether a boundary tick of the lane falls into the present CLK_PER cycle: the first at a time that is a whole multiple of t_out
(spec/12_tt_network.md R412, R294), and not the last tick once more after a correction. While CP is not ON there are no ticks
(spec/13_power_clocks_wake.md R454). -/
def Lane.tickHere (l : Lane) : Bool :=
  l.domOn .cp && l.reaches l.tickTime 0 (1000 * outerUs l.prof) && match l.gl.tickAt with
  | none => true
  | some t => decide ((t : Int) + 25 * usec + Max.max l.gl.adjust 0 ≤ l.now)

/-- A boundary tick that moved under R294 moves the network time with it in HOLD and MASTER, unless this lane holds the token: after a tick
that came later the network time is set back, so that the tick keeps its place in it. In the other states the move stands beside the network
time (spec/12_tt_network.md R430, R412). -/
def Lane.tickFollow (l : Lane) : Lane :=
  let s := l.rd TT_STAT_SSTATE
  let d := l.gl.adjust * rootUnit
  let l' := { l with gl := { l.gl with adjust := l.gl.carry, carry := 0 } }
  if (s = ssHold ∨ s = ssMaster) ∧ l.holdsToken = false then l'.ntMove (-d)
  else { l' with gl := { l'.gl with shift := l.gl.shift - d } }

/-- The TICK of the token holder's heartbeat tells which of its outer cycles the last tick began: what this lane adds to its network time moves
by whole outer cycles, and no tick moves (R295; DESIGN CHOICE, log entry 33). -/
def Lane.tickCount (l : Lane) (tick : Nat) : Lane :=
  let c : Int := 1000 * (outerUs l.prof : Int) * ntUnit
  let n := Q.roundDiv ((tick : Int) * ntUnit - (l.rd GL_TICK : Int) * ntUnit - l.gl.shift) c
  { l with gl := { l.gl with shift := l.gl.shift + n * c } }

/-! ### What a heartbeat tells -/

/-- The fields of a heartbeat are taken (R295, R299). -/
def Lane.heartTake (l : Lane) (i : LaneId) (m : GlMsg) : Lane :=
  let p := l.gl.peer i
  let flags := byteAt m.payload 1
  let mode := byteAt m.payload 0 % 8
  let fresh := !p.known && decide (mode = mArming)
  let l := (l.wr (laneMode i) mode).wr (syModeOf i) mode
  let l := (l.put (laneVrdy i) (flags.testBit 6)).wr (propOf i) (byteAt m.payload 3 / 8 % 4)
  let l := l.setPeer i { p with ftann := none, hb := true, elig := flags.testBit 2, axdel := flags / 16 % 4
                                rank := byteAt m.payload 2, cpcyc := leField m.payload 4 4 }
  let l := l.when fresh (fun l => { l with gl := { l.gl with hashOwed := true } })
  let l := (l.copyEnd i.code).rankCheck i
  let l := if flags.testBit 0 then l else l.seeEpoch m
  let l :=
    if flags.testBit 0 then (l.hearHolder i m.epoch)
    else if l.rd GL_STAT_LEADER = i.code then
      let q := l.gl.peer i
      if q.tok0 = 0 then l.setPeer i { q with tok0 := 1 } else (l.setPeer i { q with tok0 := 0 }).setHolder 3
    else l
  let l := if l.rd GL_STAT_LEADER = i.code ∧ flags.testBit 0 then (l.wr GL_CYCLE m.cycle).tickCount (leField m.payload 8 8) else l
  (l.recount i 1).updateSel

/-- A heartbeat arrives (R296, R299). -/
def Lane.heartIn (l : Lane) (m : GlMsg) : Lane :=
  l.glEpochHear m 16 (fun l i =>
    let late := match l.gl.dueAt with
      | some t => l.inExpiry t cycBus
      | none => false
    let p := l.gl.peer i
    let l := (l.when late (fun l => l.set GL_STAT_LATE)).setPeer i { p with fresh := true }
    let l := { l with sy := { l.sy with partAt := none, partGone := false }, gl := { l.gl with alone := 0 } }
    match p.ftann with
    | some c => if m.cycle ≤ c then l else l.heartTake i m
    | none => l.heartTake i m)

/-- One lane at a due instant (R297). -/
def Lane.heartMiss (l : Lane) (i : LaneId) : Lane :=
  let p := l.gl.peer i
  if p.fresh then (l.set (laneHeard i)).setPeer i { p with fresh := false, miss := 0 }
  else
    let l := (l.clr (laneHeard i)).when (l.on (laneLive i)) (fun l => l.bump GL_CNT_HBLATE)
    let l := l.setPeer i { p with miss := Nat.min 2 (p.miss + 1), hb := p.hb && decide (p.miss = 0) }
    if 1 ≤ p.miss then l.recount i 4 else l

/-- A heartbeat due instant (R29, R297). -/
def Lane.heartDue (l : Lane) : Lane :=
  match l.gl.dueAt with
  | some t =>
    if l.due t then
      let quiet := l.others.all (fun i => !(l.gl.peer i).fresh)
      let n := if quiet then l.gl.alone + 1 else 0
      let known := l.others.any (fun i => (l.gl.peer i).known)
      let part := decide (n = 2) && known && !l.sy.partGone && modeLive l.mode
      let l := { l with gl := { l.gl with dueAt := none, alone := n }
                        sy := if part then { l.sy with partAt := some t } else l.sy }
      l.each l.others Lane.heartMiss
    else l
  | none => l

/-- FTANN arrives (R298, R299). -/
def Lane.ftannIn (l : Lane) (m : GlMsg) : Lane :=
  l.glIn m 8 (fun l i =>
    let l := l.setPeer i { l.gl.peer i with ftann := some m.cycle, hb := false }
    l.recount i 2)

/-! ### Token messages -/

/-- CLAIM arrives (R300, R304). -/
def Lane.claimIn (l : Lane) (m : GlMsg) : Lane :=
  l.glEpochHear m 8 (fun l i =>
    let late := match l.gl.handDue with
      | some t => l.rd GL_STAT_TSTATE = tsHanding && l.gl.handTo = i.code && l.inExpiry t cycBus
      | none => false
    let l := (l.bump GL_CNT_CLAIMS).when late (fun l => l.set GL_STAT_LATE)
    let l := (l.setPeer i { l.gl.peer i with rank := byteAt m.payload 0 }).hearHolder i m.epoch
    (if l.rd GL_STAT_LEADER = i.code then l.wr GL_CYCLE m.cycle else l).tokenCheck)

/-- ABDICATE arrives (R594). -/
def Lane.abdicateIn (l : Lane) (m : GlMsg) : Lane :=
  l.glIn m 8 (fun l i => if l.rd GL_STAT_LEADER = i.code then (l.setHolder 3).tokenCheck else l)

/-- The handover completes where the copy of its cycle is complete (Table 8.5). -/
def Lane.handTry (l : Lane) : Lane :=
  match l.gl.handFrom with
  | some c =>
    let b := l.rd GL_CPSTAT_LATEST
    let valid := if b = 0 then l.on GL_CPSTAT_VALID0 else l.on GL_CPSTAT_VALID1
    if l.rd GL_STAT_TSTATE = tsFollower ∧ l.mayLead ∧ valid ∧ l.rd (GL_CPCYC b) = c then l.claim else l
  | none => l

/-- HANDOVER arrives (Table 8.5). -/
def Lane.handoverIn (l : Lane) (m : GlMsg) : Lane :=
  l.glEpochIn m 8 (fun l i =>
    if byteAt m.payload 0 = l.me.code ∧ l.rd GL_STAT_LEADER = i.code then
      ({ l with gl := { l.gl with handFrom := some m.cycle } }).handTry
    else l)

/-- The due instant passes without the target's CLAIM (R304). -/
def Lane.handTimeout (l : Lane) : Lane :=
  match l.gl.handDue with
  | some t =>
    if l.rd GL_STAT_TSTATE = tsHanding ∧ l.due t then
      let l := ({ l with gl := { l.gl with handDue := none } }).wr GL_STAT_TSTATE tsLeader
      ((l.set GL_STAT_HANDFAIL).raise srcGL 10 clsCE none l.gl.handTo).tokenCheck
    else l
  | none => l

/-- GL_CTL.INELIG and GL_CTL.ELIG (R303). -/
def Lane.glInelig (l : Lane) : Lane := (l.set GL_STAT_INELIG).tokenCheck
def Lane.glElig (l : Lane) : Lane := (l.clr GL_STAT_INELIG).tokenCheck

/-- GL_CTL.CNTCLR. -/
def Lane.glCntClr (l : Lane) : Lane := ((l.setReg GL_CNT_CRC.addr 0#64).wr (GL_LINK_LOSS 0) 0).wr (GL_LINK_LOSS 1) 0

/-! ### COMMAND (R306, R32, R34) -/

/-- The profile fields of a COMMAND. -/
def Lane.cmdProfile (l : Lane) (pl : List Byte) : Lane :=
  let p := byteAt pl 1
  if 3 ≤ p then l
  else if byteAt pl 2 % 2 = 1 then
    if l.sy.prep = some p ∧ l.sy.prepLost = false then l
    else ({ l with sy := { l.sy with prep := some p, prepLost := false } }).pmRequest (profMv p) .prepare
  else ({ l with sy := { l.sy with apply := some ⟨p, leField pl 4 4⟩ } }).wr SY_PROF_NEXT p

/-- A COMMAND is handled, received or sent (R306). In BOOT, SAFE-HOLD and SERVICE its MODE reads in SY_MODE.ANN and is ignored (R24 of
01_lanes_modes_faults). -/
def Lane.cmdTake (l : Lane) (pl : List Byte) : Lane :=
  let l := (l.setBytes rxCmd pl).wr SY_MODE_ANN (byteAt pl 0 % 8)
  let l := ({ l with gl := { l.gl with cmdSeen := true, cmdNew := true }, sy := { l.sy with annHeard := modeLive l.mode } }).cmdProfile pl
  l.glShares.event 183

/-- COMMAND arrives (R300, R306). -/
def Lane.commandIn (l : Lane) (m : GlMsg) : Lane :=
  l.glEpochIn m 112 (fun l _ => (l.wr GL_CYCLE m.cycle).cmdTake m.payload)

/-- The set-point forwarding of a split pair at a boundary tick (R281, R312). -/
def Lane.glForward (l : Lane) : Lane :=
  if l.on GL_STAT_FWD ∧ l.gl.cmdNew then
    l.each l.axes (fun l x =>
      let v := BitVec.ofNat 64 (leNat (l.bytes (rxCmd + 16 + 32 * l.me.code + 16 * x.idx) 8))
      (l.setReg (LE_SETP x).addr v).setReg (LE_SHARE x).addr (l.reg (GL_SHARE x.idx).addr))
  else l

/-! ### State copies (R306 to R308) -/

/-- Whether a chunk of the running copy still waits for a port. -/
def Lane.copyWaits (l : Lane) : Bool := l.gl.txq.any (fun w => w.m.type = tCopy && !w.passed)

/-- A copy whose last chunk has left both ports has ended. -/
def Lane.copyOver (l : Lane) : Lane :=
  match l.gl.tx with
  | some t => if l.copyWaits = false ∧ t.ends ≤ 1000 * l.now then { l with gl := { l.gl with tx := none } } else l
  | none => l

/-- A copy that has not ended is voided: no further chunk of it leaves (R307). -/
def Lane.copyVoid (l : Lane) : Lane :=
  let l := l.copyOver
  match l.gl.tx with
  | none => l
  | some t =>
    let l := ({ l with gl := { l.gl with tx := none } }).glWithdraw (fun k => k = tCopy)
    ((l.set GL_STAT_CPVOID).raise srcGL 7 clsCE none t.cycle).event 181

/-- A copy begins at a boundary commit: its chunks wait for both ports, chunk 0 first (R306). -/
def Lane.copyStart (l : Lane) : Lane :=
  let c := l.rd GL_CPCFG_CHUNKS
  if c = 0 then l
  else
    let cyc := l.rd GL_CYCLE
    let l := { l with gl := { l.gl with tx := some ⟨cyc, c, 0⟩, lastCopy := cyc } }
    l.each (List.range c) (fun l n => [Port.next, .prev].foldl (fun l p =>
      if l.part.hasLane (l.neighbour p) && l.on (GL_LINK_UP (l.routePort p).idx) then
        l.glReady ⟨p, false, ⟨tCopy, l.me.code + 16 * 2 ^ (l.neighbour p).code, 256, cyc, l.rd GL_EPOCH, n, c, [], [], 0⟩⟩
      else l) l)

/-- The buffer that a copy is received into (R308). -/
def Lane.rxBuf (l : Lane) : Nat := 1 - l.rd GL_CPSTAT_LATEST

/-- The VALID bit of a copy buffer. -/
def cpValid (b : Nat) : Fld := ⟨GL_CPSTAT_VALID0.addr, 1 + b, 1⟩

/-- A chunk is stored (R308). -/
def Lane.copyChunk (l : Lane) (c : Nat) (m : GlMsg) : Lane :=
  let l := match l.gl.rx with
    | some r => if r.cycle = m.cycle ∧ r.epoch = m.epoch ∧ r.sender = c then l else l.copyEnd r.sender
    | none => l
  let b := l.rxBuf
  let r := l.gl.rx.getD ⟨c, m.cycle, m.epoch, m.chunks, 0, false⟩
  let bad := r.bad || decide (m.chunks ≠ r.chunks) || decide (m.chunks = 0) || decide (32 < m.chunks) || decide (m.chunks ≤ m.chunk)
  let l := if bad then l else (l.setBytes (cpBuf b + 256 * m.chunk) m.payload).clr (cpValid b)
  let r := { r with bad := bad, got := if bad then r.got else r.got ||| 2 ^ m.chunk }
  if bad = false ∧ r.got + 1 = 2 ^ r.chunks then
    let l := { l with gl := { l.gl with rx := none } }
    let l := ((l.set (cpValid b)).wr GL_CPSTAT_LATEST b).wr (GL_CPCYC b) m.cycle
    ((l.wr GL_CPSTAT_CHUNKS r.chunks).event 180).handTry
  else { l with gl := { l.gl with rx := some r } }

/-- STATECOPY arrives (R300, R308). -/
def Lane.copyIn (l : Lane) (m : GlMsg) : Lane :=
  l.glEpochIn m 256 (fun l i => if l.on GL_CPSTAT_FROZEN then l else l.copyChunk i.code m)

/-! ### The commit signal (R295, R306, Table 8.5) -/

/-- The HANDGO released by the commit (R304): the lane, and the target of the HANDOVER that follows its COMMAND. -/
def Lane.handStep (l : Lane) : Lane × Option Nat :=
  match l.gl.handGo with
  | none => (l, none)
  | some t =>
    let l := { l with gl := { l.gl with handGo := none } }
    let ok := match LaneId.ofCode t with
      | some i => decide (i ≠ l.me) && l.part.hasLane i && l.isLive i && (l.gl.peer i).elig
      | none => false
    if l.rd GL_STAT_TSTATE ≠ tsLeader then (l, none)
    else if ok then
      let l := { l with gl := { l.gl with handTo := t, handDue := none } }
      (l.wr GL_STAT_TSTATE tsHanding, some t)
    else ((l.set GL_STAT_HANDFAIL).raise srcGL 10 clsCE none t, none)

/-- A set point that is held, or ramped to zero at the envelope slew where it is a torque (spec/01_lanes_modes_faults.md Table 1.8). -/
def Lane.agedSetp (l : Lane) (x : Ax) (v : Int) : Int :=
  let s := l.rdS (LE_ENVSLEW x)
  if l.rd (LE_CFG_MODE x) ≠ 0 then v else if s < v then v - s else if v < -s then v + s else 0

/-- The entry of a lane and an axis in a COMMAND payload. -/
def setpAt (i : LaneId) (x : Ax) : Nat := 16 + 32 * i.code + 16 * x.idx

/-- A payload with the bytes from an offset on replaced. -/
def spliceBytes (pl : List Byte) (o : Nat) (b : List Byte) : List Byte := pl.take o ++ b ++ pl.drop (o + b.length)

/-- The COMMAND of a leader whose vehicle commands have aged on every channel: DEGRADED in place of OPERATE, and the last set points (R49 of
01_lanes_modes_faults, log entry 51). -/
def Lane.agedCommand (l : Lane) (pl : List Byte) : List Byte :=
  let pl := if byteAt pl 0 = 2 then spliceBytes pl 0 (leBytes 1 3) else pl
  [LaneId.A, .B, .C].foldl (fun pl i => [Ax.x0, .x1].foldl (fun pl x =>
    let old := signed 64 (leNat (l.bytes (rxCmd + setpAt i x) 8))
    spliceBytes pl (setpAt i x) (leBytes 8 (unsign 64 (l.agedSetp x old)))) pl) pl

/-- The payload of the COMMAND that the leader sends. -/
def Lane.commandOut (l : Lane) : List Byte :=
  let pl := l.bytes txCmd 112
  if l.sy.cmdAged then l.agedCommand pl else pl

/-- The COMMAND of a commit has started on its ports: it is handled as if received, and the HANDOVER that follows it is ready (R306,
Table 8.5). -/
def Lane.cmdStarted (l : Lane) : Lane :=
  match l.gl.cmdBegun, l.gl.cmdOut with
  | true, some pl =>
    let l := ({ l with gl := { l.gl with cmdBegun := false, cmdOut := none } }).cmdTake pl
    match l.gl.handOut with
    | some t => ({ l with gl := { l.gl with handOut := none } }).glSend tHandover (leBytes 8 t)
    | none => l
  | _, _ => l

/-- The ports go on: each that is free starts the next message, and a COMMAND that has started is handled. -/
def Lane.glPorts (l : Lane) : Lane := (((l.portStep .next).portStep .prev).cmdStarted).copyOver

/-- COMMAND as the leader's commit sends it, with the HANDOVER that may follow; where no port takes it, it is handled at once (R306). -/
def Lane.commandSend (l : Lane) (hand : Option Nat) : Lane :=
  let pl := l.commandOut
  let l := ({ l with gl := { l.gl with cmdOut := some pl, cmdBegun := false, handOut := hand } }).glSend tCommand pl
  if l.gl.cmdBegun || !l.gl.txq.any (fun w => w.m.type = tCommand && !w.passed) then
    ({ l with gl := { l.gl with cmdBegun := true } }).cmdStarted
  else l

/-- What the GL block does at the commit signal of a boundary commit. -/
def Lane.glSignal (l : Lane) : Lane :=
  if l.mode = mBoot then l
  else if l.gl.abdicate ∧ l.rd GL_STAT_TSTATE = tsLeader then
    let l := (l.set GL_STAT_INELIG).dropToken 1 tsFollower false
    ((l.glSend tHeartbeat l.heartbeat).sendAbdicate 1).elect
  else
    let l := ({ l with gl := { l.gl with abdicate := false } }).glSend tHeartbeat l.heartbeat
    if l.holdsToken then
      let r := l.handStep
      (r.1.commandSend r.2).copyStart
    else { l with gl := { l.gl with handGo := none } }

/-! ### The configuration vote (R305) -/

/-- The lane's own hash. -/
def Lane.ownHash (l : Lane) : List Byte :=
  (List.range 4).flatMap (fun n => (leBytes 8 (l.rd (GL_HASH n))).reverse)

/-- CFGHASH arrives. -/
def Lane.hashIn (l : Lane) (m : GlMsg) : Lane := l.glIn m 32 (fun l i => l.setPeer i { l.gl.peer i with hash := some m.payload })

/-- CFGHASH is sent in every outer cycle of ARMING, and where it is owed: with the commit signal, or at the boundary tick while no commits are
taken. -/
def Lane.hashSend (l : Lane) : Lane :=
  if l.mode = mArming ∨ (l.gl.hashOwed ∧ l.mode ≠ mBoot) then
    ({ l with gl := { l.gl with hashOwed := false } }).glSend tCfgHash l.ownHash
  else l

/-- The hashes heard, this lane's own among them. -/
def Lane.hashes (l : Lane) : List (LaneId × List Byte) :=
  l.lanes.filterMap (fun i => if i = l.me then some (i, l.ownHash) else ((l.gl.peer i).hash).map (fun h => (i, h)))

/-- The lanes whose hash matches none. -/
def Lane.oddHashes (l : Lane) : Nat :=
  let hs := l.hashes
  hs.foldl (fun a p => if hs.any (fun q => q.1 ≠ p.1 && q.2 = p.2) then a else a + 2 ^ p.1.code) 0

/-- The vote is decided; a lane that fails enters SAFE-HOLD at the next boundary. -/
def Lane.voteSet (l : Lane) (pass : Bool) : Lane :=
  let l := (l.wr GL_STAT_VOTE (if pass then 1 else 2)).event 182
  if pass then l
  else ({ l with sy := { l.sy with reqHold := some .vote } }).raise srcGL 8 clsUC none l.oddHashes

/-- The election window ends (R302, R305). -/
def Lane.windowEnd (l : Lane) : Lane :=
  if l.rd GL_STAT_TSTATE = tsCandidate ∧ l.rd GL_CFG_ELECTWIN ≤ l.gl.armCycles then
    let hs := l.hashes
    let l := if l.rd GL_STAT_VOTE = 0 then l.voteSet (hs.length = 1 || (hs.any (fun p => p.1 ≠ l.me && p.2 = l.ownHash))) else l
    if l.highest then l.claim else l.wr GL_STAT_TSTATE tsFollower
  else l

/-- The hash of the counted token holder, where it is another lane whose CFGHASH has arrived. -/
def Lane.holderHash (l : Lane) : Option (List Byte) :=
  match LaneId.ofCode (l.rd GL_STAT_LEADER) with
  | some i => if i = l.me then none else (l.gl.peer i).hash
  | none => none

/-- A lane that has adopted a token holder decides its vote at a boundary after the holder's CFGHASH. -/
def Lane.voteStep (l : Lane) : Lane :=
  if l.mode = mArming ∧ l.rd GL_STAT_VOTE = 0 ∧ l.rd GL_STAT_TSTATE = tsFollower then
    match l.holderHash with
    | some h => (l.voteSet (h = l.ownHash)).tokenCheck
    | none => l
  else l

/-- ELECTWIN cycles pass from ARMING entry without the token holder's CFGHASH. -/
def Lane.voteTimeout (l : Lane) : Lane :=
  if l.mode = mArming ∧ l.rd GL_STAT_VOTE = 0 ∧ l.rd GL_STAT_TSTATE = tsFollower ∧ l.rd GL_CFG_ELECTWIN ≤ l.gl.armCycles ∧
      l.holderHash = none then l.voteSet false
  else l

/-- What ARMING entry does in the GL block (Table 8.5). -/
def Lane.glArming (l : Lane) : Lane :=
  let l := { l with gl := { l.gl with armCycles := 0 } }
  if l.rd GL_STAT_LEADER = 3 then l.wr GL_STAT_TSTATE tsCandidate
  else { (l.wr GL_STAT_TSTATE tsFollower) with gl := { l.gl with step := true } }

/-! ### Boundaries and SYNC (R294, R591) -/

/-- Whether the lane stands at a boundary tick: one is due, or the last has just come. -/
def Lane.atTick (l : Lane) : Bool :=
  l.tickHere || (match l.gl.tickAt with
    | some t => decide (l.now < t + cycPer)
    | none => false)

/-- A direct route is restored at a boundary (R290). -/
def Lane.restorePort (l : Lane) (p : Port) : Lane :=
  let due := match p with
    | .next => l.gl.restore0
    | .prev => l.gl.restore1
  if due then
    let l := match p with
      | .next => { l with gl := { l.gl with restore0 := false } }
      | .prev => { l with gl := { l.gl with restore1 := false } }
    ((l.clr (GL_LINK_LOOPBK p.idx)).raise srcGL 2 clsCE none p.idx).event 176
  else l

/-- What a boundary tick does in the GL block: the cycle number, the due instant, restored routes, forwarding and SYNC. `d0` and `d1` are
the times in ns from the tick to the next block boundary of each port (R591). -/
def Lane.glBoundary (l : Lane) (d0 d1 : Nat) : Lane :=
  let l := l.tickFollow
  let l := (l.wr GL_CYCLE ((l.rd GL_CYCLE + 1) % 2 ^ 32)).wr GL_TICK l.ntime
  let hand := decide (l.rd GL_STAT_TSTATE = tsHanding)
  let l := { l with gl := { l.gl with tickAt := some l.now, dueAt := some (l.now + 8 * usec), syncDirect := false, handFrom := none
                                      armCycles := l.gl.armCycles + 1
                                      handDue := if hand then some (l.gl.handDue.getD (l.now + 8 * usec)) else none } }
  let l := (l.restorePort .next).restorePort .prev
  let l := if l.gl.fwdNow then l else (l.clr (GL_LINK_FWD 0)).clr (GL_LINK_FWD 1)
  let l := l.glForward
  let l := { l with gl := { l.gl with fwdNow := false, cmdNew := false } }
  if l.holdsToken then
    let l := l.when (l.on (GL_LINK_UP 0)) (fun l => l.glSync .next l.me d0)
    l.when (l.on (GL_LINK_UP 1)) (fun l => l.glSync .prev l.me d1)
  else l

/-- The next boundary tick comes `m` root periods later than the network time alone places it. One that would have come before the present instant
is due in the present CLK_PER cycle, and the tick after it moves by what is left (R294; DESIGN CHOICE, log entry 33). -/
def Lane.tickMove (l : Lane) (m : Int) : Lane :=
  let t := { l with gl := { l.gl with adjust := m, carry := 0 } }
  let p := 1000 * (outerUs l.prof : Int) * ntUnit
  let r := l.tickTime % p
  let k := if r < l.tt.add then 0 else (p - r + rootUnit - 1) / rootUnit
  let next := l.gl.tickAt.all (fun u => decide (u + 25 * usec ≤ l.now))
  if next && decide (m < l.gl.adjust - k) && !t.tickHere then
    { l with gl := { l.gl with adjust := l.gl.adjust - k, carry := m - (l.gl.adjust - k) } }
  else t

/-- SYNC arrives (R294, R591): the tick moves towards the token holder's, and a lane that forwards for the others passes SYNC on, `own` ns
after its arrival. -/
def Lane.syncIn (l : Lane) (p : Port) (sender : LaneId) (dly own : Nat) : Lane :=
  let direct := decide (l.neighbour p = sender)
  let delay := l.rd (GL_LINK_DELAY p.idx)
  let l := if l.on (GL_LINK_FWD p.idx) ∧ direct ∧ l.on (GL_LINK_UP p.other.idx) then
      l.glSync p.other sender ((dly + delay + own) % 65536)
    else l
  match l.gl.tickAt with
  | none => l
  | some tick =>
    if l.rd GL_STAT_LEADER ≠ sender.code ∨ sender = l.me ∨ (!direct && l.gl.syncDirect) then l else
    let c : Int := outerCycle l.prof
    let e0 : Int := (l.now : Int) - (ofNs (dly + delay) : Int) - (tick : Int)
    let e := (e0 + c / 2) % c - c / 2
    let m : Int := if l.gl.step then e else if 80 < e then 80 else if e < -80 then -80 else e
    let a := { l with gl := { l.gl with syncErr := e, step := false, syncDirect := l.gl.syncDirect || direct } }
    (if l.gl.step then { a with gl := { a.gl with adjust := m, carry := 0 } } else a.tickMove m).put GL_STAT_ALIGN
      (decide (-160 ≤ e) && decide (e ≤ 160))

/-! ### Links (R288 to R290) -/

/-- A port loses block lock. -/
def Lane.linkLoss (l : Lane) (p : Port) : Lane :=
  if l.rd (GL_LINK_LOCK p.idx) = 0 then l
  else
    let l := ((l.clr (GL_LINK_LOCK p.idx)).clr (GL_LINK_UP p.idx)).bump (GL_LINK_LOSS p.idx)
    let l := match p with
      | .next => { l with gl := { l.gl with restore0 := false } }
      | .prev => { l with gl := { l.gl with restore1 := false } }
    ((l.set (GL_LINK_LOOPBK p.idx)).raise srcGL 1 clsCE none p.idx).event 176

/-- A port comes up, with its one-way delay in ns; CFGHASH is owed (R290, R305). -/
def Lane.linkUp (l : Lane) (p : Port) (ns : Nat) : Lane :=
  if l.on (GL_LINK_LOCK p.idx) ∧ l.rd (GL_LINK_UP p.idx) = 0 then
    let l := (l.set (GL_LINK_UP p.idx)).wr (GL_LINK_DELAY p.idx) ns
    match p with
    | .next => { l with gl := { l.gl with restore0 := true, hashOwed := true } }
    | .prev => { l with gl := { l.gl with restore1 := true, hashOwed := true } }
  else l

/-- A message that arrives on a port for the lane on the other one is passed on (R289); a malformed one is discarded (R293). -/
def Lane.glPass (l : Lane) (p : Port) (m : GlMsg) : Lane :=
  let dest := l.neighbour p.other
  if m.intact = false ∨ m.measured = false ∨ m.route / 4 % 4 ≠ 0 ∨ 128 ≤ m.route ∨ 2 < m.route % 4 then l.glDiscard
  else if (m.route / 16).testBit l.me.code ∨ (m.route / 16).testBit dest.code = false then l
  else
    let l := ({ l with gl := { l.gl with fwdNow := true } }).set (GL_LINK_FWD 0)
    let l := l.set (GL_LINK_FWD 1)
    if l.on (GL_LINK_UP p.other.idx) then l.glReady ⟨p.other, true, m⟩ else l

/-- Whether the ports train: from the first PLL lock of BOOT on (spec/16_start_up.md R537). -/
def Lane.training (l : Lane) : Bool := decide (l.mode ≠ mBoot) || decide (l.im.phase ≠ .lock)

/-! ### The meanings -/

def execLinkLossOfLock (i : LaneId) (p : Port) (s : State) : Host.Outcome State Fault Refusal := s.actD i .cp (fun l => l.linkLoss p)
def execBlockLock (i : LaneId) (p : Port) (s : State) : Host.Outcome State Fault Refusal :=
  s.actD i .cp (fun l => if l.training then l.set (GL_LINK_LOCK p.idx) else l)
def execLinkUp (i : LaneId) (p : Port) (ns : Byte) (s : State) : Host.Outcome State Fault Refusal :=
  s.actD i .cp (fun l => if l.training then l.linkUp p ns.toNat else l)
def execMessageForward (i : LaneId) (p : Port) (m : GlMsg) (s : State) : Host.Outcome State Fault Refusal :=
  s.actD i .cp (fun l => l.glPass p m)
def execSyncReceive (i : LaneId) (p : Port) (sender : LaneId) (dly : BitVec 16) (own : Fin 64) (s : State) :
    Host.Outcome State Fault Refusal := s.actD i .cp (fun l => l.syncIn p sender dly.toNat own)
def execHeartbeatReceive (i : LaneId) (m : GlMsg) (s : State) : Host.Outcome State Fault Refusal := s.actD i .cp (fun l => l.heartIn m)
def execHeartbeatDue (i : LaneId) (s : State) : Host.Outcome State Fault Refusal := s.actD i .cp Lane.heartDue
def execFtannReceive (i : LaneId) (m : GlMsg) (s : State) : Host.Outcome State Fault Refusal := s.actD i .cp (fun l => l.ftannIn m)
def execClaimReceive (i : LaneId) (m : GlMsg) (s : State) : Host.Outcome State Fault Refusal := s.actD i .cp (fun l => l.claimIn m)
def execAbdicateReceive (i : LaneId) (m : GlMsg) (s : State) : Host.Outcome State Fault Refusal := s.actD i .cp (fun l => l.abdicateIn m)
def execHandoverReceive (i : LaneId) (m : GlMsg) (s : State) : Host.Outcome State Fault Refusal := s.actD i .cp (fun l => l.handoverIn m)
def execCommandReceive (i : LaneId) (m : GlMsg) (s : State) : Host.Outcome State Fault Refusal := s.actD i .cp (fun l => l.commandIn m)
def execCfghashReceive (i : LaneId) (m : GlMsg) (s : State) : Host.Outcome State Fault Refusal := s.actD i .cp (fun l => l.hashIn m)
def execStatecopyReceive (i : LaneId) (m : GlMsg) (s : State) : Host.Outcome State Fault Refusal := s.actD i .cp (fun l => l.copyIn m)
def execElectionWindowEnd (i : LaneId) (s : State) : Host.Outcome State Fault Refusal := s.actD i .cp Lane.windowEnd
def execVoteTimeout (i : LaneId) (s : State) : Host.Outcome State Fault Refusal := s.actD i .cp Lane.voteTimeout
def execHandoverTimeout (i : LaneId) (s : State) : Host.Outcome State Fault Refusal := s.actD i .cp Lane.handTimeout
def execGlElig (i : LaneId) (s : State) : Host.Outcome State Fault Refusal := s.actD i .cp Lane.glElig
def execGlInelig (i : LaneId) (s : State) : Host.Outcome State Fault Refusal := s.actD i .cp Lane.glInelig
def execGlCntclr (i : LaneId) (s : State) : Host.Outcome State Fault Refusal := s.actD i .cp Lane.glCntClr
end Sys2Proof.Machine
end

