-- ==== Sys2Proof/Machine/Slice.lean ====
section
/-!
DEFINITION. The self-test engine: slices, custom programs and the memory token (spec/14_self_test_lifecycle.md R484 to R496).
-/

namespace Sys2Proof.Machine

/-! ### Units (R484, Table 14.5) -/

/-- The units that the lane has: those of an absent axis are skipped. -/
def Lane.unitHere (l : Lane) (u : Nat) : Bool :=
  decide (u < 18) && (l.part.hasAxis .x1 || !(u = 5 || u = 11 || u = 13))

/-- The number of slices of a unit; none for a unit that has no slice. -/
def Lane.sliceCount (l : Lane) (u : Nat) : Nat :=
  match u with
  | 2 => 128
  | 4 => 96
  | 5 => 96
  | 6 => 2048
  | 7 => 128
  | 9 => if l.part = .apx9613 then 2048 else 4096
  | 10 => 4
  | 11 => 4
  | 12 => 6
  | 13 => 6
  | _ => 0

/-- The slice time of a unit, in 0.1 µs. -/
def sliceTime : Nat → Nat
  | 2 => 156
  | 4 => 156
  | 5 => 156
  | 6 => 154
  | 7 => 154
  | 9 => 205
  | 10 => 100
  | 11 => 100
  | _ => 10

/-- The high-current units. -/
def highCurrent (u : Nat) : Bool := u = 6 || u = 7 || u = 9 || (10 ≤ u && u ≤ 13)

/-- The GD units. -/
def gdUnit (u : Nat) : Bool := u = 12 || u = 13

/-- The axis of a unit of one axis, by the order of the pairs of Table 14.5. -/
def unitAxis (u : Nat) : Ax := if u = 5 ∨ u = 11 ∨ u = 13 then .x1 else .x0

/-- The condition of Table 14.5 for a periodic slice of a unit. -/
def Lane.sliceOk (l : Lane) (u : Nat) : Bool :=
  let x := unitAxis u
  if u = 2 then l.on PC_STAT_PAIR
  else if u = 4 ∨ u = 5 then l.rd (LE_STAT_STATE x) = 0 && l.on (LE_STAT_FORCED x)
  else if u = 10 ∨ u = 11 then
    !(l.part.hasTq && (l.on (LE_STAT_DRIVE x) || decide (l.rd (TQ_CFG_SLMODE x) ≠ 0))) || l.on (GD_STAT_SAFE x)
  else true

/-- The budget of a unit in µs (R488). -/
def Lane.sliceBudget (l : Lane) (u : Nat) : Nat := if highCurrent u then l.rd ST_CFG_HCMAX else l.rd ST_CFG_LOGMAX

/-! ### The memory token (R494 to R496) -/

/-- Whether a lane is a participant, as this lane knows it (R494). -/
def Lane.partakes (l : Lane) (i : LaneId) : Bool :=
  if i = l.me then l.mode ≠ mBoot && !l.fc.ftSeen
  else l.part.hasLane i && (l.gl.peer i).hb && (l.gl.peer i).ftann.isNone && decide (l.rd (laneMode i) ≠ mBoot)

/-- The next participant in the order A, B, C, A after this lane; itself where it is the only one. -/
def Lane.nextHolder (l : Lane) : LaneId :=
  if l.partakes l.me.next then l.me.next else if l.partakes l.me.prev then l.me.prev else l.me

/-- The earliest participant in the order A, B, C. -/
def Lane.firstPartaker (l : Lane) : Option LaneId := l.lanes.find? l.partakes

/-- A MEMTOK message leaves for both other lanes (R494, Table 14.7). -/
def Lane.tokSend (l : Lane) (form : Nat) (holder : LaneId) (seq : Nat) : Lane :=
  l.glSend tMemtok (leBytes 1 form ++ leBytes 1 holder.code ++ leBytes 2 0 ++ leBytes 4 seq)

/-- The lane takes the token. -/
def Lane.tokTake (l : Lane) (seq : Nat) : Lane :=
  ((({ l with st := { l.st with sliced := false, passDue := false, holder := l.me.code } }).wr ST_TOK_SEQ seq).set ST_STAT_TOKEN).event 173

/-- The holder passes the token (R495 (2)). -/
def Lane.tokPass (l : Lane) : Lane :=
  let i := l.nextHolder
  let seq := (l.rd ST_TOK_SEQ + 1) % 2 ^ 32
  let l := l.tokSend 1 i seq
  if i = l.me then l.tokTake seq
  else (({ l with st := { l.st with holder := i.code, passDue := false } }).wr ST_TOK_SEQ seq).clr ST_STAT_TOKEN

/-- Whether a high-current slice is running. -/
def Lane.hcRuns (l : Lane) : Bool :=
  match l.st.run with
  | some r => highCurrent r.unit
  | none => false

/-- The boundary tick at which a holder passes the token, or puts the pass off to the end of its slice (R495 (2)). -/
def Lane.tokBoundary (l : Lane) : Lane :=
  if l.on ST_STAT_TOKEN && l.partakes l.me then
    if l.hcRuns then { l with st := { l.st with passDue := true } } else l.tokPass
  else l

/-- MEMTOK arrives (R495). -/
def Lane.tokIn (l : Lane) (m : GlMsg) : Lane :=
  l.glIn m 8 (fun l _ =>
    let h := byteAt m.payload 1
    let seq := leField m.payload 4 4
    let old := l.rd ST_TOK_SEQ
    let l := { l with st := { l.st with tokAt := l.now, holder := if old ≤ seq then h else l.st.holder } }
    if h = l.me.code then (if old ≤ seq then l.tokTake seq else l)
    else if old < seq then (({ l with st := { l.st with passDue := false } }).wr ST_TOK_SEQ seq).clr ST_STAT_TOKEN
    else l)

/-- Whether the last named holder is no longer a participant (R496). -/
def Lane.holderGone (l : Lane) : Bool :=
  match LaneId.ofCode l.st.holder with
  | some i => decide (i ≠ l.me) && !l.partakes i
  | none => false

/-- The lost token is regenerated by the earliest participant (R496). -/
def Lane.tokRegen (l : Lane) : Lane :=
  if l.firstPartaker = some l.me ∧ l.rd ST_STAT_TOKEN = 0 ∧ (l.due (l.st.tokAt + 4 * outerCycle l.prof) ∨ l.holderGone) then
    let seq := (l.rd ST_TOK_SEQ + 1) % 2 ^ 32
    let l := (l.tokSend 2 l.me seq).tokTake seq
    let l := { l with st := { l.st with waitUntil := l.now + outerCycle l.prof, tokAt := l.now } }
    (l.bump ST_CNT_REGEN).raise srcST 2 clsCE none seq
  else l

/-- At the first ARMING after power-up lane A generates the token, and lane B on a module without lane C where lane A is no participant
(R496); its SEQ is the highest that the lane has seen, 0 where it has seen none (DEDUCED, log entry 34). -/
def Lane.tokArming (l : Lane) : Lane :=
  let l := { l with st := { l.st with tokAt := l.now } }
  if l.st.born then l
  else
    let l := { l with st := { l.st with born := true } }
    if l.me = .A ∨ (l.me = .B ∧ l.part = .apx9602 ∧ !l.partakes .A) then l.tokTake (l.rd ST_TOK_SEQ) else l

/-- Whether the lane may start a high-current slice (R495 (4), R496): not while it is partitioned, which it is from the second due instant in turn
without a heartbeat on (spec/01_lanes_modes_faults.md R29). -/
def Lane.hcMay (l : Lane) : Bool :=
  decide (l.gl.alone < 2) && l.on ST_STAT_TOKEN && !l.st.sliced && l.due l.st.waitUntil && l.others.all (fun i => !l.partakes i || l.on (laneHeard i))

/-! ### Results (R492, R493) -/

/-- A unit has failed. -/
def Lane.latent (l : Lane) (u index : Nat) : Lane :=
  let l := l.wr ST_FAILMAP_U (l.rd ST_FAILMAP_U ||| 2 ^ u)
  (l.raise srcST 1 clsCE none (u + 65536 * index)).event 171

/-- A test of unit CORE has completed (R490). -/
def Lane.coreTested (l : Lane) (pass : Bool) : Lane := { l with pc := { l.pc with shadowOk := pass } }

/-- ST_RESULT takes a result: 1 PASS, 2 FAIL, 3 SKIP, 4 ABORT, 5 REFUSED. -/
def Lane.stResult (l : Lane) (res u cov dur : Nat) : Lane :=
  (((l.wr ST_RESULT_RES res).wr ST_RESULT_UNIT u).wr ST_RESULT_COV cov).wr ST_RESULT_DUR (Nat.min 16383 dur)

/-- The run time of a slice, in root periods, is charged (R488). -/
def Lane.sliceCharge (l : Lane) (t : Nat) : Lane :=
  let l := l.bistCharge
  ({ l with sc := { l.sc with bistAcc := l.sc.bistAcc + t } }).bistCharge

/-- A slice of its own, or a whole program step, has ended: its result, its count, and the core self-test where it was one (R490, R492). -/
def Lane.partDone (l : Lane) (u res cov time : Nat) : Lane :=
  let l := l.stResult res u cov (time / usec)
  let l := if res = 1 then l.bump ST_CNT_PASS else if res = 3 then l.bump ST_CNT_SKIP else if res = 4 then l.bump ST_CNT_ABORT else l
  (if u = 2 then l.coreTested (res = 1) else l).event 170

/-- A field of a program step (Table 14.6). -/
def Lane.stepUnit (l : Lane) (n : Nat) : Nat := l.rd (ST_PROG n) / 2 ^ 56
def Lane.stepAlg (l : Lane) (n : Nat) : Nat := l.rd (ST_PROG n) / 2 ^ 52 % 16
def Lane.stepRepeat (l : Lane) (n : Nat) : Nat := l.rd (ST_PROG n) / 2 ^ 40 % 256
def Lane.stepCount (l : Lane) (n : Nat) : Nat := l.rd (ST_PROG n) / 2 ^ 24 % 65536
def Lane.stepIndex (l : Lane) (n : Nat) : Nat := l.rd (ST_PROG n) % 2 ^ 24

/-- The runs of a step: its indices in their order, REPEAT + 1 times (R491). -/
def Lane.stepRuns (l : Lane) (n : Nat) : Nat := (l.stepRepeat n + 1) * l.stepCount n

/-- The result of several runs, in this order: FAIL where one failed, ABORT, SKIP, PASS (DESIGN CHOICE, log entry 34). -/
def worseRes (a b : Nat) : Nat :=
  if a = 2 ∨ b = 2 then 2 else if a = 4 ∨ b = 4 then 4 else if a = 3 ∨ b = 3 then 3 else if a = 0 then b else a

/-- A run of a program step ends; with the last one, or the one that a stop waits for, the step does. `cov` is the coverage of the step's index
range by its runs up to this one (R492); a run that is stopped adds nothing to it (log entry 34). -/
def Lane.runDone (l : Lane) (p : ProgAt) (u res cov time : Nat) : Lane :=
  let p := { p with done := p.done + 1, res := worseRes p.res res, cov := if res = 4 then p.cov else cov, time := p.time + time }
  let l := { l with st := { l.st with prog := some p } }
  if l.st.progStop ∨ l.stepRuns p.step ≤ p.done then l.partDone u p.res p.cov p.time else l

/-- The running slice ends. -/
def Lane.sliceDone (l : Lane) (r : SliceRun) (res cov : Nat) : Lane :=
  let time := l.now - r.start
  let l := ({ l with st := { l.st with run := none } }).clr ST_STAT_BUSY
  let l := if r.unit = 2 then l.clr PC_STAT_SHBIST else l
  let l := if res = 2 then l.latent r.unit r.index else l
  let l := match l.st.prog with
    | some p => if r.prog then l.runDone p r.unit res cov time else (l.partDone r.unit res cov time).sliceCharge time
    | none => (l.partDone r.unit res cov time).sliceCharge time
  if l.st.passDue && highCurrent r.unit then l.tokPass else l

/-- The running slice is stopped and restored (R488 to R490): 1 budget, 2 access, 3 condition, 4 FT, 5 BOOT. -/
def Lane.sliceAbort (l : Lane) (cause : Nat) : Lane :=
  match l.st.run with
  | some r => (l.sliceDone r 4 0).wr ST_STAT_ACAUSE cause
  | none => l

/-! ### Starting (R487, R491) -/

/-- A slice starts, of its own or as a run of a program step. -/
def Lane.sliceStart (l : Lane) (u index : Nat) (prog : Bool) : Lane :=
  let l := { l with st := { l.st with run := some { unit := u, index := index, start := l.now, prog := prog }
                                      sliced := l.st.sliced || highCurrent u } }
  let l := if u = 2 then l.set PC_STAT_SHBIST else l
  l.set ST_STAT_BUSY

/-- The conditions on which a slice request is refused (R487). -/
def Lane.sliceRefused (l : Lane) (u index : Nat) : Bool :=
  l.st.run.isSome || l.st.prog.isSome || l.st.sweep || !l.unitHere u || decide (l.sliceCount u ≤ index) || !l.sliceOk u ||
  decide (10 * l.sliceBudget u < sliceTime u) || (highCurrent u && !l.hcMay)

/-- A released slice request (R487). -/
def Lane.sliceRequest (l : Lane) (u index : Nat) : Lane :=
  if l.rd LC_STAT_STATE ≠ 2 then l
  else if l.sliceRefused u index then l.stResult 5 u 0 0
  else l.sliceStart u index false

/-- The program ends. -/
def Lane.progEnd (l : Lane) : Lane :=
  (({ l with st := { l.st with prog := none, progStop := false } }).clr ST_STAT_PROG).event 172

/-- The next run of the step in turn starts; one of a high-current unit waits for the token (R491, R495). -/
def Lane.runStart (l : Lane) (p : ProgAt) : Lane :=
  let u := l.stepUnit p.step
  if highCurrent u && !l.hcMay then l else l.sliceStart u (l.stepIndex p.step + p.done % l.stepCount p.step) true

/-- The program goes on at its step in turn; a refused step is passed over (R491). The argument is the number of steps left. -/
def Lane.progRun (l : Lane) : Nat → Lane
  | 0 => l.progEnd
  | k + 1 =>
    let n := 63 - k
    let u := l.stepUnit n
    if l.stepCount n = 0 ∨ l.st.progStop then l.progEnd
    else if 4 ≤ l.stepAlg n ∨ l.unitHere u = false then ((l.stResult 5 u 0 0).event 170).progRun k
    else ({ l with st := { l.st with prog := some { step := n } } }).runStart { step := n }

/-- After a run, the next one of its step, or the next step; while one waits for the token, a new try. -/
def Lane.progNext (l : Lane) : Lane :=
  match l.st.prog with
  | some p =>
    if l.st.run.isSome then l
    else if l.st.progStop ∨ l.stepRuns p.step ≤ p.done then l.progRun (63 - p.step)
    else l.runStart p
  | none => l

/-- A released PROGGO (R491). -/
def Lane.progGo (l : Lane) : Lane :=
  let s := l.rd LC_STAT_STATE
  if l.mode = mService ∧ (s = 1 ∨ s = 3) ∧ l.st.run.isNone ∧ l.st.prog.isNone then (l.set ST_STAT_PROG).progRun 64 else l

/-- A released ABORT: the program stops after its running slice (R491). A step that waits between two runs ends with what they have found. -/
def Lane.progAbort (l : Lane) : Lane :=
  match l.st.prog with
  | some p =>
    if l.st.run.isSome then { l with st := { l.st with progStop := true } }
    else (if p.done = 0 then l else l.partDone (l.stepUnit p.step) p.res p.cov p.time).progEnd
  | none => l

/-! ### Ends -/

/-- The result of a slice or step, as the engine finds it. -/
def resCode : SliceResult → Nat
  | .pass => 1
  | .fail => 2
  | .skip => 3

/-- A slice or step ends by itself; SKIP is a result of a GD slice only (R487, R492). -/
def Lane.sliceEnd (l : Lane) (res : SliceResult) (cov : Nat) : Lane :=
  match l.st.run with
  | some r => if res = .skip ∧ !gdUnit r.unit then l else (l.sliceDone r (resCode res) (Nat.min 1000 cov)).progNext
  | none => l

/-- The budget of a periodic slice passes; a GD slice that has found no interval ends with SKIP (R487, R488). -/
def Lane.sliceBudgetEnd (l : Lane) : Lane :=
  match l.st.run with
  | some r =>
    if r.prog ∨ !l.due (r.start + l.sliceBudget r.unit * usec) then l
    else if gdUnit r.unit ∧ r.began = false then l.sliceDone r 3 0
    else l.sliceAbort 1
  | none => l

/-- A GD slice finds an interval in which its switch's command is off, and injects (R487). -/
def Lane.gdInject (l : Lane) : Lane :=
  match l.st.run with
  | some r => if gdUnit r.unit then { l with st := { l.st with run := some { r with began := true } } } else l
  | none => l

/-- A functional access to the block under test stops the slice (R489). -/
def Lane.sliceAccess (l : Lane) : Lane :=
  match l.st.run with
  | some r => if r.unit = 6 ∨ r.unit = 7 ∨ r.unit = 9 then (l.sliceAbort 2).progNext else l
  | none => l

/-- Whether the running slice tests one of the blocks `lo` to `hi` of a unit. -/
def Lane.underTest (l : Lane) (u lo hi : Nat) : Bool :=
  match l.st.run with
  | some r =>
    decide (r.unit = u) && decide (lo ≤ r.index) && decide (r.index ≤ hi)
  | none => false

/-- An access to `n` bytes of memory stops a slice of one of their blocks, before it completes (R489, Table 14.5). -/
def Lane.accessed (l : Lane) (a n : Nat) : Lane :=
  let test := fun (u base size : Nat) => l.underTest u ((a - base) / size) ((a + n - 1 - base) / size)
  let hit :=
    if a < 0x400000 then test 6 0 2048
    else if inRange a 0x10000000 0x40000 then test 7 0x10000000 2048
    else inMram l.part a && test 9 0x100000000 16384
  if hit then l.sliceAccess else l

/-- The chunks of a state copy that the GL block has just read are accesses too (R489; spec/08_leadership_guyline.md R306). -/
def Lane.copyReads (l : Lane) : Lane :=
  let rs := l.gl.reads
  if rs.isEmpty then l else ({ l with gl := { l.gl with reads := [] } }).each rs (fun l a => l.accessed a 256)

/-- A running periodic slice whose condition stops holding is stopped; a run of a program that waits for the token is tried again. -/
def Lane.stTick (l : Lane) : Lane :=
  match l.st.run with
  | some r => if r.prog = false ∧ l.sliceOk r.unit = false then l.sliceAbort 3 else l
  | none => l.progNext

/-- The start-up sweep ends (R485, R493): the units that failed, one bit each. -/
def Lane.sweepResults (l : Lane) (fails : Nat) : Lane :=
  let us := (List.range 18).filter l.unitHere
  let ran := us.foldl (fun a u => a + 2 ^ u) 0
  let l := ({ l with st := { l.st with sweep := false } }).clr ST_STAT_BUSY
  let l := (((l.set ST_STAT_SWDONE).wr ST_SWRAN_U ran).wr ST_SWFAIL_U (ran &&& fails)).coreTested (!fails.testBit 2)
  (l.each us (fun l u => if fails.testBit u then l.latent u 0 else l)).event 172

/-! ### The meanings -/

def execStSlice (i : LaneId) (unit : Fin 32) (index : BitVec 16) (s : State) : Host.Outcome State Fault Refusal :=
  s.actD i .cp (fun l => l.sliceRequest unit index.toNat)
def execSliceEnd (i : LaneId) (res : SliceResult) (cov : Fin 1024) (s : State) : Host.Outcome State Fault Refusal :=
  s.actD i .cp (fun l => l.sliceEnd res cov)
def execSliceBudgetExpiry (i : LaneId) (s : State) : Host.Outcome State Fault Refusal := s.actD i .cp Lane.sliceBudgetEnd
def execSliceAccessAbort (i : LaneId) (s : State) : Host.Outcome State Fault Refusal := s.actD i .cp Lane.sliceAccess
def execGdSliceInjection (i : LaneId) (s : State) : Host.Outcome State Fault Refusal := s.actD i .cp Lane.gdInject
def execStProggo (i : LaneId) (s : State) : Host.Outcome State Fault Refusal := s.actD i .cp Lane.progGo
def execStAbort (i : LaneId) (s : State) : Host.Outcome State Fault Refusal := s.actD i .cp Lane.progAbort
def execStCntclr (i : LaneId) (s : State) : Host.Outcome State Fault Refusal :=
  s.actD i .cp (fun l => l.setReg ST_CNT_PASS.addr 0#64)
def execMemtokReceive (i : LaneId) (m : GlMsg) (s : State) : Host.Outcome State Fault Refusal := s.actD i .cp (fun l => l.tokIn m)
def execMemtokRegen (i : LaneId) (s : State) : Host.Outcome State Fault Refusal := s.actD i .cp Lane.tokRegen

end Sys2Proof.Machine
end

