-- ==== Sys2Proof/Machine/Hamper.lean ====
section
/-!
DEFINITION. The Hamper queues: pushes, takes, marks, rewinds, releases and watermarks (spec/11_hamper_host.md R377 to R395).
-/

namespace Sys2Proof.Machine

/-- The state of one Hamper replaced. -/
def Lane.setHamper (l : Lane) (i : Nat) (h : Hamper) : Lane := { l with hq := l.hq.set i h }

/-- The slots that all Hampers occupy. -/
def HqSt.occupied (s : HqSt) : Nat := (List.range 8).foldl (fun a i => a + (s.get i).occ) 0

/-- The slots in use, by number. -/
def HqSt.usedSlots (s : HqSt) : List Nat :=
  (List.range 8).flatMap (fun i => ((s.get i).queue ++ (s.get i).replay ++ (s.get i).log).map (fun e => e.slot))

/-- What a change of a Hamper leaves in its counts: QUEUED, OCC and the free slots (R381). The end of the cycle evaluates the rest. -/
def Lane.hamperEval (l : Lane) (i : Nat) : Lane :=
  let h := l.hq.get i
  let l := (((l.wr (HQ_STAT_QUEUED i) h.queued).wr (HQ_STAT_OCC i) h.occ)).wr HQ_GSTAT_FREE (4096 - l.hq.occupied)
  { l with hq := { l.hq with evalDue := true } }

/-- The evaluation that follows the changes of a cycle: FULL, and the watermark state, whose change drives the Hamper's event (R381, R383,
R394). -/
def Lane.hamperJudge (l : Lane) (i : Nat) : Lane :=
  let h := l.hq.get i
  let l := l.put (HQ_STAT_FULL i) (h.occ = l.rd (HQ_CFG_CAP i))
  if l.rd (HQ_CFG_NOTICE i) = 0 then l
  else if l.rd (HQ_STAT_FLOW i) = 0 ∧ l.rd (HQ_WM_HWM i) ≤ h.occ then (l.set (HQ_STAT_FLOW i)).event (136 + i)
  else if l.rd (HQ_STAT_FLOW i) = 1 ∧ h.occ ≤ l.rd (HQ_WM_LWM i) then (l.clr (HQ_STAT_FLOW i)).event (136 + i)
  else l

/-- The level of A_HFLOW, low in BOOT (R395). -/
def Lane.hflow (l : Lane) : Bool := l.mode ≠ mBoot && (List.range 8).any (fun i => l.on (HQ_CFG_HFLOWEN i) && l.on (HQ_STAT_FLOW i))

/-- A Hamper that became non-empty has an item where SC_HQMAP maps it (R351, R381). -/
def Lane.hamperRose (l : Lane) (i : Nat) (before : Nat) : Lane :=
  if before = 0 ∧ l.hamperHolds i ∧ l.on (SC_HQMAP_EN i) then l.arise .hamper i (l.rd (SC_HQMAP_FLOW i)) 0 else l

/-- The slot a push takes: some free one; which one the spec leaves open (R385, log entry 5). -/
def Lane.pickSlot (l : Lane) : Nat :=
  let free := (List.range 4096).filter (fun s => !l.hq.usedSlots.contains s)
  (free[Config.pick l.me l.fresh % free.length]?).getD 0

/-- The OVR flags of Hampers 0 to 7. -/
def Lane.ovrBits (l : Lane) : Nat := (List.range 8).foldl (fun a i => a + l.rd (HQ_STAT_OVR i) * 2 ^ i) 0

/-- The field of HQ_OVRCNT that counts a Hamper's refused pushes. -/
def ovrCnt (i : Nat) : Fld := ⟨HQ_OVRCNT_CNT0.addr, 4 * i, 4⟩

/-- A push that finds its Hamper FULL is ignored and counted (R382). -/
def Lane.hamperOvr (l : Lane) (i : Nat) : Lane :=
  let l := (l.set (HQ_STAT_OVR i)).bump (ovrCnt i)
  (l.raiseOnce srcHQ 1 clsCE none l.ovrBits).event 144

/-- Whether a push of some entries would find the Hamper FULL; a Hamper with CAP = 0 always is (R382). -/
def Lane.hamperFull (l : Lane) (i n : Nat) : Bool := decide (l.rd (HQ_CFG_CAP i) < (l.hq.get i).occ + n)

/-- One accepted push (R380). -/
def Lane.hamperAdd (l : Lane) (i prio : Nat) (payload : List Byte) : Lane :=
  let h := l.hq.get i
  let e : Entry := ⟨prio % 8, l.rd (HQ_CFG_PROD i), payload.length, h.seq % 65536, l.ntime % 2 ^ 32, payload, l.pickSlot, l.now⟩
  let l := ({ l with fresh := l.fresh + 1 }).accessed (0x10000000 + 64 * e.slot) 64
  let l := l.setHamper i { h with queue := h.queue ++ [e], seq := h.seq + 1 }
  { l with hq := { l.hq with stored := insertSorted e.slot e (l.hq.stored.filter (fun p => p.1 ≠ e.slot)) } }

/-- The entries of a push, in turn. -/
def Lane.hamperAdds (l : Lane) (i prio : Nat) (ps : List (List Byte)) : Lane :=
  let b := (l.hq.get i).queued
  ((l.each ps (fun l p => l.hamperAdd i prio p)).hamperEval i).hamperRose i b

/-- A result is recorded; other than OK it counts, sets ERR, and sets IRQ where IRQERR asks for it (R400, R401, R406). -/
def Lane.recordResult (l : Lane) (r byte0 : Nat) : Lane :=
  let l := l.wr HP_STAT_LAST r
  if r = 0 then l
  else
    let l := (l.bump HP_CNT_ERR).set HP_STAT_ERR
    let l := if l.on HP_CFG_IRQERR then { l.set HP_STAT_IRQ with hq := { l.hq with irqCyc := some (l.now / cycBus) } } else l
    (l.raiseOnce srcHP 1 clsCE none (r + 256 * byte0)).event 148

/-- The host port learns what became of its push (R401, R402, R404). -/
def Lane.pushTold (l : Lane) (f : PushFor) (full : Bool) : Lane :=
  match f with
  | .none => l
  | .put byte0 => (l.when (!full) (fun l => l.bump HP_CNT_PUT)).recordResult (if full then 9 else 0) byte0
  | .service => l.recordResult (if full then 9 else 0) 0x30

/-- A push of one entry, or of two that go both or neither (R441 of 12_tt_network), by the Hamper's producer (R380 to R383). One that finds no
room waits for the releases of its CLK_BUS cycle. -/
def Lane.hamperPush (l : Lane) (i prio : Nat) (ps : List (List Byte)) (f : PushFor) : Lane :=
  if l.rd (HQ_CFG_CAP i) = 0 then (l.hamperOvr i).pushTold f true
  else if l.hamperFull i ps.length || l.hq.late.any (fun q => q.hamper = i) then
    { l with hq := { l.hq with late := l.hq.late ++ [⟨i, prio, ps, f⟩] } }
  else (l.hamperAdds i prio ps).pushTold f false

/-- A push that has waited is judged. -/
def Lane.lateJudge (l : Lane) (p : LatePush) : Lane :=
  if l.hamperFull p.hamper p.payloads.length then (l.hamperOvr p.hamper).pushTold p.for_ true
  else (l.hamperAdds p.hamper p.prio p.payloads).pushTold p.for_ false

/-- The pushes that wait beyond the first ones are judged. -/
def Lane.lateFrom (l : Lane) (n : Nat) : Lane :=
  let ps := l.hq.late.drop n
  if ps.isEmpty then l else ({ l with hq := { l.hq with late := l.hq.late.take n } }).each ps Lane.lateJudge

/-- FULL and the watermark states of the Hampers are evaluated where something has changed (R383, R394). -/
def Lane.hqJudge (l : Lane) : Lane := l.when l.hq.evalDue (fun l => l.each (List.range 8) (fun l h => l.hamperJudge h))

/-- The end of the CLK_BUS cycle in which something changed: the pushes that waited are judged, then FULL and the watermark states are evaluated
(R383). -/
def Lane.hqEnd (l : Lane) : Lane :=
  let ps := l.hq.late
  let l := ({ l with hq := { l.hq with late := [] } }).each ps Lane.lateJudge
  let l := l.each (List.range 8) (fun l h => l.hamperJudge h)
  { l with hq := { l.hq with evalDue := false } }

/-- The last root period of a CLK_BUS cycle ends it. -/
def Lane.hqCycle (l : Lane) : Lane :=
  if (l.now + 1) % cycBus = 0 && l.domOn .cp && (l.hq.evalDue || !l.hq.late.isEmpty) then l.hqEnd else l

/-- A refused staging write or push (R386). -/
def Lane.prodReject (l : Lane) : Lane :=
  let l := l.set HQ_GSTAT_PRODREJ
  l.raiseOnce srcHQ 4 clsCE none (l.reg HQ_GSTAT_FREE.addr).toNat

/-- A core write to Hamper storage is ignored (R386). -/
def Lane.storageReject (l : Lane) : Lane :=
  let l := l.set HQ_GSTAT_STWR
  l.raiseOnce srcHQ 4 clsCE none (l.reg HQ_GSTAT_FREE.addr).toNat

/-- A released staging write (R385, R386). -/
def Lane.hqPutWrite (l : Lane) (h n : Nat) (v : Word) : Lane :=
  if l.rd (HQ_CFG_PROD h) ≠ 0 then l.prodReject else l.setReg (HQ_PUT h n).addr v

/-- The bytes of a Hamper's staging window. -/
def Lane.staging (l : Lane) (h : Nat) : List Byte := (List.range 7).flatMap (fun n => leBytes 8 (l.reg (HQ_PUT h n).addr).toNat)

/-- A released HQ_PUSH_h copies LEN bytes of the staging window into a slot (R385, R386). -/
def Lane.hqPush (l : Lane) (h : Nat) (v : Word) : Lane :=
  if l.rd (HQ_CFG_PROD h) ≠ 0 ∨ 56 < getBits v 0 6 then l.prodReject
  else l.hamperPush h (getBits v 8 3) [(l.staging h).take (getBits v 0 6)] .none

/-- The queued entry with the lowest PRIO number, the earliest push among equals (R388). -/
def bestEntry : List Entry → Option Entry
  | [] => none
  | e :: r =>
    match bestEntry r with
    | none => some e
    | some b => if b.prio < e.prio then some b else some e

/-- The descriptor of a take (Table 11.2). -/
def Entry.descriptor (e : Entry) : Word :=
  BitVec.ofNat 64 (2 ^ 63 + e.prio * 2 ^ 56 + e.len * 2 ^ 48 + e.seq * 2 ^ 32 + e.slot)

/-- A list without the first entry of a slot. -/
def dropSlot (s : Nat) : List Entry → List Entry
  | [] => []
  | e :: r => if e.slot = s then r else e :: dropSlot s r

/-- A read of HQ_TAKE_h (R388); an entry pushed in this CLK_BUS cycle cannot be taken yet (R383). -/
def Lane.hqTake (l : Lane) (i : Nat) : Lane :=
  let h := l.hq.get i
  match h.replay with
  | e :: r => ((l.setHamper i { h with replay := r, log := h.log ++ [e] }).hamperEval i).returns e.descriptor
  | [] =>
    match bestEntry (h.queue.filter (fun e => decide (e.at_ / cycBus ≠ l.now / cycBus))) with
    | none => l.returns 0#64
    | some e => ((l.setHamper i { h with queue := dropSlot e.slot h.queue, log := h.log ++ [e] }).hamperEval i).returns e.descriptor

/-- A read of HQ_MARK_h sets the soft mark and returns the length of the take log (R390). -/
def Lane.hqMark (l : Lane) (i : Nat) : Lane :=
  let h := l.hq.get i
  (l.setHamper i { h with soft := h.log.length }).returns (BitVec.ofNat 64 h.log.length)

/-- The entries of the take log after a position go back to the front of the replay list (R391, R392). -/
def Lane.rewindTo (l : Lane) (i p : Nat) : Lane :=
  let h := l.hq.get i
  let l' := (l.setHamper i { h with log := h.log.take p, replay := h.log.drop p ++ h.replay, soft := Nat.min h.soft p }).hamperEval i
  l'.hamperRose i h.queued

/-- A read of HQ_REWIND_h (R391). -/
def Lane.hqRewind (l : Lane) (i : Nat) : Lane :=
  let h := l.hq.get i
  (l.rewindTo i h.soft).returns (BitVec.ofNat 64 (h.log.length - h.soft))

/-- Step 3 of a commit: both marks of every Hamper at the end of its take log (R390). -/
def Lane.hqMarkAll (l : Lane) : Lane :=
  l.each (List.range 8) (fun l i =>
    let h := l.hq.get i
    l.setHamper i { h with ckpt := h.log.length, soft := h.log.length })

/-- Step 6 of a commit: the entries before the checkpoint mark are released (R390). -/
def Lane.hqReleaseAll (l : Lane) : Lane :=
  l.each (List.range 8) (fun l i =>
    let h := l.hq.get i
    (l.setHamper i { h with log := h.log.drop h.ckpt, ckpt := 0, soft := h.soft - h.ckpt }).hamperEval i)

/-- The rewind of a rollback, from the checkpoint mark (R392). -/
def Lane.hqRollback (l : Lane) : Lane := l.each (List.range 8) (fun l i => l.rewindTo i (l.hq.get i).ckpt)

/-- HQ_CTL.CNTCLR. -/
def Lane.hqCntClr (l : Lane) : Lane := l.setReg HQ_OVRCNT_CNT0.addr 0#64

/-- The 64 bytes of an entry (Table 11.1). -/
def Entry.bytes (e : Entry) : List Byte :=
  [BitVec.ofNat 8 (e.prio + 16 * e.prod), BitVec.ofNat 8 e.len] ++ leBytes 2 e.seq ++ leBytes 4 e.time ++ e.payload ++
    List.replicate (56 - e.payload.length) 0#8

/-- One byte of Hamper storage, at an offset; a slot not written since BOOT reads free values (R384, log entry 4). -/
def Lane.storageByte (l : Lane) (o : Nat) : Byte :=
  match l.hq.stored.find? (fun p => p.1 = o / 64) with
  | some (_, e) => (e.bytes[o % 64]?).getD 0#8
  | none => Config.hamperByte l.me l.sy.boots o

/-! ### The meanings -/

def execHqPutWrite (i : LaneId) (h : Fin 8) (n : Fin 7) (v : Word) (s : State) : Host.Outcome State Fault Refusal :=
  s.actD i .cp (fun l => l.hqPutWrite h n v)
def execHqPush (i : LaneId) (h : Fin 8) (v : Word32) (s : State) : Host.Outcome State Fault Refusal :=
  s.actD i .cp (fun l => l.hqPush h (v.setWidth 64))
def execHqTake (i : LaneId) (h : Fin 8) (s : State) : Host.Outcome State Fault Refusal := s.actD i .cp (fun l => l.hqTake h)
def execHqMark (i : LaneId) (h : Fin 8) (s : State) : Host.Outcome State Fault Refusal := s.actD i .cp (fun l => l.hqMark h)
def execHqRewind (i : LaneId) (h : Fin 8) (s : State) : Host.Outcome State Fault Refusal := s.actD i .cp (fun l => l.hqRewind h)
def execHqCntclr (i : LaneId) (s : State) : Host.Outcome State Fault Refusal := s.actD i .cp Lane.hqCntClr

end Sys2Proof.Machine
end

