-- ==== Sys2Proof/Machine/HostPort.lean ====
section
/-!
DEFINITION. The host port: frames, results, service commands and the request output (spec/11_hamper_host.md R397 to R406).
-/

namespace Sys2Proof.Machine

/-- READY of the status byte (Table 11.5). -/
def Lane.hpReady (l : Lane) : Bool := l.mode ≠ mBoot && l.on HP_CFG_EN

/-- The status byte (Table 11.5). -/
def Lane.statusByte (l : Lane) : Nat :=
  (if l.hpReady then 128 else 0) + (if l.hflow then 64 else 0) + l.rd HP_STAT_IRQ * 32 + l.rd HP_STAT_RSTPEND * 16 + l.rd HP_STAT_LAST

/-- One bit per Hamper. -/
def perHamper (f : Nat → Bool) : Nat := (List.range 8).foldl (fun a i => if f i then a + 2 ^ i else a) 0

/-- The STATUS response (Table 11.6); its byte 0 is the status byte that opens the frame (log entry 20). -/
def Lane.statusResponse (l : Lane) : List Byte :=
  let b := leBytes 1 l.statusByte ++ leBytes 1 l.mode ++ leBytes 1 (perHamper (fun i => l.on (HQ_STAT_FULL i))) ++
    leBytes 1 (perHamper (fun i => l.on (HQ_STAT_FLOW i))) ++ leBytes 1 l.ovrBits ++
    leBytes 1 (perHamper l.hamperHolds) ++ leBytes 2 0 ++
    (List.range 8).flatMap (fun i => leBytes 2 (l.hq.get i).queued) ++ leBytes 8 (l.reg HP_MBOX.addr).toNat
  b ++ leBytes 4 (crc32c b)

/-- What the port sends in a frame of `n` bytes: the status byte, the STATUS response, then zeros (R399). -/
def Lane.response (l : Lane) (cmd n : Nat) : List Byte :=
  let b := if cmd = 0x20 then l.statusResponse else leBytes 1 l.statusByte
  (b ++ List.replicate (n - b.length) 0#8).take n

/-- Whether every axis turns more slowly than SY_STILL, in 0.01 rad/s (Table 1.2). -/
def Lane.standstill (l : Lane) : Bool :=
  l.axes.all (fun x => decide ((l.rdS (FB_WM x)).natAbs * 100 < l.rd SY_STILL_V * 2 ^ 40))

/-- Whether a host command may take the lane to SERVICE: the mode and the life-cycle state (R19 of 01_lanes_modes_faults), and standstill. -/
def Lane.mayService (l : Lane) : Bool :=
  let lc := l.rd LC_STAT_STATE
  let m := l.mode
  l.standstill &&
    ((m = mSafeHold && (lc = 1 || lc = 2 || lc = 3)) ||
     ((m = mArming || m = mOperate || m = mDegraded) && (lc = 1 || lc = 3)))

/-- Whether a dump context or a dump-engine transfer is running or about to run (R341 of 09_fault_collection). -/
def Lane.dumping (l : Lane) : Bool := l.on FC_STAT_DCX || l.fc.dcxDue || l.fc.deDue || l.fc.tx ≠ .idle

/-- The codes of Table 11.8. -/
def serviceCode (c : Nat) : Bool := (1 ≤ c && c ≤ 4) || 0x80 ≤ c

/-- The CRC that closes a frame checks. -/
def frameCrcOk (b : List Byte) : Bool :=
  decide (4 ≤ b.length) && decide (leNat (b.drop (b.length - 4)) = crc32c (b.take (b.length - 4)))

/-- The result of a frame by the checks of Table 11.7 in their order, before its push: `none` for a command that has no result. -/
def Lane.frameResult (l : Lane) (b : List Byte) (whole : Bool) : Option Nat :=
  let cmd := byteAt b 0
  if !whole then some 1
  else if b = [] ∨ !(cmd = 0x00 ∨ (0x10 ≤ cmd ∧ cmd < 0x18) ∨ cmd = 0x20 ∨ cmd = 0x30) then some 2
  else if cmd = 0x30 ∧ 2 ≤ b.length ∧ !serviceCode (byteAt b 1) then some 2
  else if cmd = 0x00 ∨ cmd = 0x20 then none
  else if cmd = 0x30 then
    if b.length ≠ 12 then some 3
    else if !frameCrcOk b then some 4
    else if !l.hpReady then some 5
    else if l.rd HP_CFG_SVCEN = 0 ∨ leField b 2 2 ≠ l.rd HP_SVCKEY_KEY then some 7
    else if byteAt b 1 = 1 ∧ !l.mayService then some 8
    else if byteAt b 1 = 2 ∧ !(l.mode = mSafeHold ∨ l.mode = mService) then some 8
    else some 0
  else
    if b.length < 3 ∨ 56 < byteAt b 2 ∨ b.length ≠ 7 + byteAt b 2 then some 3
    else if !frameCrcOk b then some 4
    else if !l.hpReady then some 5
    else if l.rd (HQ_CFG_PROD (cmd - 0x10)) ≠ 1 ∨ cmd - 0x10 = l.rd HP_CFG_SVCHQ then some 6
    else some 0

/-- The hardware action of a SERVICE code (Table 11.8, R405). -/
def Lane.serviceAct (l : Lane) (code : Nat) : Lane :=
  if code = 1 then { l with sy := { l.sy with reqService := true } }
  else if code = 2 then
    if l.dumping then { l.set HP_STAT_RSTPEND with fc := { l.fc with restartWait := true } }
    else { l with sy := { l.sy with reqRestart := true } }
  else l

/-- A SERVICE frame that is not REFUSED: its action, its entry in the service Hamper, its count (R404). -/
def Lane.service (l : Lane) (b : List Byte) : Lane :=
  let code := byteAt b 1
  let h := l.rd HP_CFG_SVCHQ
  let l := ((l.serviceAct code).bump HP_CNT_SVC).raise srcHP 2 clsCE none (code + 256 * leField b 4 4)
  (l.event 149).hamperPush h 0 [leBytes 4 code ++ (b.drop 4).take 4] .service

/-- A PUT frame that passes the checks up to NOTPROD (R402). -/
def Lane.hostPut (l : Lane) (b : List Byte) : Lane :=
  l.hamperPush (byteAt b 0 - 0x10) (byteAt b 1 % 8) [(b.drop 3).take (byteAt b 2)] (.put (byteAt b 0))

/-- A whole frame: the response from the snapshot at its start, its result, its effect (R399 to R404). -/
def Lane.hostFrame (l : Lane) (b : List Byte) (whole mode3 : Bool) : Lane :=
  let r := l.frameResult b whole
  let l := (l.send (.host (l.response (byteAt b 0) b.length))).put HP_STAT_MODE3 mode3
  match r with
  | none => l
  | some 0 => if byteAt b 0 = 0x30 then l.service b else l.hostPut b
  | some e => l.recordResult e (byteAt b 0)

/-- HP_CTL.IRQCLR: a set by hardware in the same CLK_BUS cycle wins over it (R406). -/
def Lane.irqClr (l : Lane) : Lane := if l.hq.irqCyc = some (l.now / cycBus) then l else l.clr HP_STAT_IRQ

/-! ### The meanings -/

def execHostNop (i : LaneId) (rest : List Byte) (mode3 : Bool) (s : State) : Host.Outcome State Fault Refusal :=
  s.act i (fun l => l.hostFrame (0x00#8 :: rest) true mode3)
def execHostPut (i : LaneId) (h : Fin 8) (rest : List Byte) (mode3 : Bool) (s : State) : Host.Outcome State Fault Refusal :=
  s.act i (fun l => l.hostFrame (BitVec.ofNat 8 (0x10 + h) :: rest) true mode3)
def execHostStatus (i : LaneId) (rest : List Byte) (mode3 : Bool) (s : State) : Host.Outcome State Fault Refusal :=
  s.act i (fun l => l.hostFrame (0x20#8 :: rest) true mode3)
def execHostBadCommand (i : LaneId) (b : List Byte) (whole mode3 : Bool) (s : State) : Host.Outcome State Fault Refusal :=
  s.act i (fun l => l.hostFrame b whole mode3)
def execEnterService (i : LaneId) (rest : List Byte) (mode3 : Bool) (s : State) : Host.Outcome State Fault Refusal :=
  s.act i (fun l => l.hostFrame (0x30#8 :: 0x01#8 :: rest) true mode3)
def execRestart (i : LaneId) (rest : List Byte) (mode3 : Bool) (s : State) : Host.Outcome State Fault Refusal :=
  s.act i (fun l => l.hostFrame (0x30#8 :: 0x02#8 :: rest) true mode3)
def execHandover (i : LaneId) (rest : List Byte) (mode3 : Bool) (s : State) : Host.Outcome State Fault Refusal :=
  s.act i (fun l => l.hostFrame (0x30#8 :: 0x03#8 :: rest) true mode3)
def execCeiling (i : LaneId) (rest : List Byte) (mode3 : Bool) (s : State) : Host.Outcome State Fault Refusal :=
  s.act i (fun l => l.hostFrame (0x30#8 :: 0x04#8 :: rest) true mode3)
def execIntegratorCode (i : LaneId) (code : Fin 128) (rest : List Byte) (mode3 : Bool) (s : State) :
    Host.Outcome State Fault Refusal :=
  s.act i (fun l => l.hostFrame (0x30#8 :: BitVec.ofNat 8 (0x80 + code) :: rest) true mode3)
def execHpIrqset (i : LaneId) (s : State) : Host.Outcome State Fault Refusal := s.act i (fun l => l.set HP_STAT_IRQ)
def execHpIrqclr (i : LaneId) (s : State) : Host.Outcome State Fault Refusal := s.act i Lane.irqClr
def execHpCntclr (i : LaneId) (s : State) : Host.Outcome State Fault Refusal := s.act i (fun l => l.setReg HP_CNT_PUT.addr 0#64)

end Sys2Proof.Machine
end

