-- ==== Sys2Proof/Machine/Lantern.lean ====
section
/-!
DEFINITION. The Lantern, its tends, and the watch of the neighbours' Lanterns (spec/09_fault_collection.md R329 to R333, R593).
-/

namespace Sys2Proof.Machine

/-! ### The own Lantern (R329 to R331) -/

/-- PER in root periods. -/
def Lane.lantPer (l : Lane) : Nat := l.rd FC_LANTCFG_PER * 10 * usec

/-- TMIN and TMAX in root periods. -/
def Lane.tendMin (l : Lane) : Nat := l.rd FC_TENDWIN_TMIN * 10 * usec
def Lane.tendMax (l : Lane) : Nat := l.rd FC_TENDWIN_TMAX * 10 * usec

/-- Entry to ARMING: the toggle timer and the tend watch start where no condition of R329 fails. -/
def Lane.lantStart (l : Lane) : Lane :=
  if l.fc.ftSeen ∨ l.fc.tendFault then l
  else
    ({ l with fc := { l.fc with lantNext := some (l.now + l.lantPer / 2), tendWatch := true, tendAt := l.now } }).set FC_LANTSTAT_RUN

/-- A condition of R329 fails: no further rising edge, and the tend watch stops (R330, R331). Causes: 1 mode, 2 FT, 3 TMAX passed, 4 wrong
key, 5 tend before TMIN. -/
def Lane.lantStop (l : Lane) (cause : Nat) : Lane :=
  if l.on FC_LANTSTAT_RUN then
    let next := if l.on FC_LANTSTAT_LEVEL then l.fc.lantNext else none
    (({ l with fc := { l.fc with tendWatch := false, lantNext := next } }).clr FC_LANTSTAT_RUN).wr FC_LANTSTAT_STOPC cause
  else l

/-- The Lantern falls at once (R330 after a root loss, R593). -/
def Lane.lantLow (l : Lane) : Lane := ({ l with fc := { l.fc with lantNext := none } }).clr FC_LANTSTAT_LEVEL

/-- A toggle instant (R329, R330). -/
def Lane.lantToggle (l : Lane) : Lane :=
  match l.fc.lantNext with
  | some t =>
    if l.due t then
      if l.on FC_LANTSTAT_RUN then
        ({ l with fc := { l.fc with lantNext := some (t + l.lantPer / 2) } }).wr FC_LANTSTAT_LEVEL (1 - l.rd FC_LANTSTAT_LEVEL)
      else l.lantLow
    else l
  | none => l

/-- A tend fault (R331). -/
def Lane.tendFault (l : Lane) (cause key : Nat) : Lane :=
  (({ l with fc := { l.fc with tendFault := true } }).lantStop cause).raise srcFC 1 clsFT none (cause + 256 * key)

/-- A tend is written (R331). -/
def Lane.tend (l : Lane) (key : Nat) : Lane :=
  if l.fc.tendWatch = false then l
  else if key ≠ 255 - l.rd FC_LANTSTAT_LASTKEY then l.tendFault 4 key
  else if l.fc.tended ∧ l.now < l.fc.tendAt + l.tendMin then l.tendFault 5 key
  else if l.fc.tendAt + l.tendMax + cycPer ≤ l.now then l.tendFault 3 key
  else
    let late := l.inExpiry (l.fc.tendAt + l.tendMax) cycPer
    let l := ({ l with fc := { l.fc with tendAt := l.now, tended := true } }).wr FC_LANTSTAT_LASTKEY key
    l.when late (fun l => l.set FC_LANTSTAT_LATE)

/-- TMAX passes with no tend accepted (R331). -/
def Lane.tendExpiry (l : Lane) : Lane := if l.fc.tendWatch && l.due (l.fc.tendAt + l.tendMax) then l.tendFault 3 0 else l

/-! ### The watch of the neighbours (R332, R333, Table 9.7) -/

/-- The codes of FC_LANTSTAT.NEXT and PREV. -/
def wOff : Nat := 0
def wUnseen : Nat := 1
def wToggling : Nat := 2
def wStopped : Nat := 3

/-- The watch field of a neighbour. -/
def watchFld : Port → Fld
  | .next => FC_LANTSTAT_NEXT
  | .prev => FC_LANTSTAT_PREV

/-- The watch timer of a neighbour. -/
def FcSt.watch (s : FcSt) : Port → Watch
  | .next => s.next
  | .prev => s.prev

/-- The watch timer of a neighbour, replaced. -/
def Lane.setWatch (l : Lane) (p : Port) (w : Watch) : Lane :=
  match p with
  | .next => { l with fc := { l.fc with next := w } }
  | .prev => { l with fc := { l.fc with prev := w } }

/-- The watching lane leaves BOOT. -/
def Lane.watchStart (l : Lane) : Lane := (l.wr FC_LANTSTAT_NEXT wUnseen).wr FC_LANTSTAT_PREV wUnseen

/-- A watch enters STOPPED: FC_NBLANT, the event, and the neighbour is no longer counted (R26, R333). -/
def Lane.watchStop (l : Lane) (p : Port) : Lane :=
  let i := l.neighbour p
  let l := (l.wr (watchFld p) wStopped).setWatch p { l.fc.watch p with valid := 0 }
  ((l.raise srcFC 2 clsCE none i.code).event 3).recount i 3

/-- A watch enters TOGGLING. -/
def Lane.watchGo (l : Lane) (p : Port) : Lane := ((l.wr (watchFld p) wToggling).event 3).recount (l.neighbour p) 3

/-- An edge of a neighbour's Lantern. A spacing that ends in the CLK_PER cycle in which 3P/4 passes counts as valid (R13). -/
def Lane.watchEdge (l : Lane) (p : Port) : Lane :=
  let st := l.rd (watchFld p)
  if st = wOff ∨ l.part.hasLane (l.neighbour p) = false then l
  else
    let w := l.fc.watch p
    let per := l.lantPer
    let gap := match w.edgeAt with
      | some t => some (l.now - t)
      | none => none
    let short := match gap with
      | some g => decide (4 * g < per)
      | none => false
    let ok := match gap with
      | some g => decide (per ≤ 4 * g) && decide (4 * g < 3 * per + 4 * cycPer)
      | none => false
    let l := l.setWatch p { edgeAt := some l.now, valid := if ok then Nat.min 4 (w.valid + 1) else 0 }
    if st = wToggling then (if short || !ok then l.watchStop p else l)
    else if ok ∧ 4 ≤ w.valid + 1 then l.watchGo p
    else l

/-- 3P/4 passes without an edge (Table 9.7). -/
def Lane.watchTimeout (l : Lane) (p : Port) : Lane :=
  match (l.fc.watch p).edgeAt with
  | some t => if l.rd (watchFld p) = wToggling ∧ l.due (t + 3 * l.lantPer / 4) then l.watchStop p else l
  | none => l

/-! ### The meanings -/

def execLanternToggle (i : LaneId) (s : State) : Host.Outcome State Fault Refusal := s.act i Lane.lantToggle
def execLanternTend (i : LaneId) (key : Byte) (s : State) : Host.Outcome State Fault Refusal := s.actD i .cp (fun l => l.tend key.toNat)
def execTendTimeout (i : LaneId) (s : State) : Host.Outcome State Fault Refusal := s.actD i .cp Lane.tendExpiry
def execNeighbourLanternEdge (i : LaneId) (n : Port) (s : State) : Host.Outcome State Fault Refusal :=
  s.actD i .cp (fun l => l.watchEdge n)
def execNeighbourWatchTimeout (i : LaneId) (n : Port) (s : State) : Host.Outcome State Fault Refusal :=
  s.actD i .cp (fun l => l.watchTimeout n)

end Sys2Proof.Machine
end

