-- ==== Sys2Proof/Machine/Access.lean ====
section
/-!
DEFINITION. How a write reaches the fields of a register: types, reserved bits and ranges (spec/00_scope.md R10, R11;
spec/18_address_map.md R580, R592).
-/

namespace Sys2Proof.Machine

/-- The bits of the fields of some access types. -/
def RegDesc.bits (d : RegDesc) (p : Acc → Bool) : Nat :=
  d.fields.foldl (fun a f => if p f.acc then a ||| ((2 ^ f.w - 1) * 2 ^ f.lo) else a) 0

/-- Whether the fields of some access types would hold values inside their ranges (R592). -/
def RegDesc.fits (d : RegDesc) (p : Acc → Bool) (v : Nat) : Bool :=
  d.fields.all (fun f => !p f.acc || f.rng.ok (v / 2 ^ f.lo % 2 ^ f.w))

/-- A word with the bits of a mask replaced. -/
def mergeBits (o : Word) (m v : Nat) : Word := (o &&& ~~~(BitVec.ofNat 64 m)) ||| (BitVec.ofNat 64 (v &&& m))

/-- The access types a run-time write stores into: RW, OW and LV. -/
def Acc.stores : Acc → Bool
  | .rw => true
  | .ow => true
  | .lv => true
  | _ => false

/-- A WC field. -/
def Acc.clears : Acc → Bool
  | .wc => true
  | _ => false

/-- The value a register holds after a write: each storing field takes the written bits, a WC field loses the bits written as 1, and every
other bit keeps its value (R580, R10). -/
def RegDesc.afterWrite (d : RegDesc) (old : Word) (v : Nat) : Word :=
  let o := mergeBits old (d.bits Acc.stores) v
  o &&& ~~~(BitVec.ofNat 64 (d.bits Acc.clears &&& v))

/-- A write of the fields of a register, ignored as a whole where a field would leave its range (R580, R592). A bit of an event bank
whose source occurs in the CLK_BUS cycle of its clear stays set (SY_EVSTAT_k). -/
def Lane.fieldWrite (l : Lane) (a : Nat) (v : Nat) : Lane :=
  match descOf a with
  | none => l
  | some d => if d.fits Acc.stores v then l.setReg a (d.afterWrite (l.reg a) v ||| (l.reg a &&& BitVec.ofNat 64 (l.evFresh a))) else l

/-- The register of which an access of `n` bytes at an address reaches a part: the one there, or the 64-bit one whose upper half it is (R84 of
02_loop_engine, R578 of 18_address_map). -/
def regUnder (a n : Nat) : Option (Nat × RegDesc) :=
  match descOf a with
  | some d => some (a, d)
  | none =>
    match descOf (a - 4) with
    | some d => if d.wide = 64 ∧ n = 4 ∧ a % 8 = 4 then some (a - 4, d) else none
    | none => none

end Sys2Proof.Machine
end

