-- ==== Sys2Proof/Machine/Inputs.lean ====
section
/-!
DEFINITION. The arming proofs that are kept, and the safety inputs with their tests (spec/16_start_up.md R538 to R545).
-/

namespace Sys2Proof.Machine

/-! ### The arming proofs (R538, Table 16.3) -/

/-- A field of a safety input: 7 PROVEN, 6 INJF, 5 DISCF, 4 SEENI, 3 SEENA, 2 LVB, 1 LVA, 0 STATE. -/
def safStat (n k : Nat) : Fld := ⟨SF_SAFSTAT_STATE0.addr, 8 * n + k, 1⟩

/-- The SAF proof, and the SSUP proof. -/
def Lane.safPassed (l : Lane) : Bool :=
  [0, 1, 2, 3].all (fun n => !l.on (SF_SAFCFG_EN n) || decide (l.rd (SF_SAFCFG_PROOF n) = 0) || l.on (safStat n 7))
def Lane.ssupPassed (l : Lane) : Bool := [0, 1].all (fun s => !l.on (SF_SSCFG_EN s) || !l.on (SF_SSCFG_PULSE s) || l.on (ssStat s 5))

/-- The proof bit of an axis, and the bit of its failure. -/
def gdProof : Ax → Fld
  | .x0 => SF_ARMSTAT_GD0
  | .x1 => SF_ARMSTAT_GD1
def gdFail : Ax → Fld
  | .x0 => SF_ARMSTAT_GDF0
  | .x1 => SF_ARMSTAT_GDF1

/-- The proofs SAF and SSUP, which show in one bit once both have passed; each stays passed until BOOT. -/
def Lane.safSsup (l : Lane) : Lane :=
  let l := if l.safPassed && !l.saf.okSaf then ({ l with saf := { l.saf with okSaf := true } }).event 191 else l
  let l := if l.ssupPassed && !l.saf.okSsup then ({ l with saf := { l.saf with okSsup := true } }).event 191 else l
  if l.saf.okSaf && l.saf.okSsup && !l.on SF_ARMSTAT_SAFSS then l.proofPass (fun l => l.set SF_ARMSTAT_SAFSS) else l

/-- The proofs that are kept are judged; a waived one reads passed. -/
def Lane.armProofs (l : Lane) : Lane :=
  if l.mode = mArming then
    let l := l.safSsup
    let l := l.each [Ax.x0, .x1] (fun l x => l.provenBy (gdProof x) (!l.part.hasAxis x || l.on (GD_STAT_SAFE x)))
    l.provenBy SF_ARMSTAT_REG (!l.on PM_CFG_EN && l.on PM_STAT_PGOOD)
  else l

/-! ### Safety inputs (R540 to R545) -/

/-- A safety input. -/
def SafSt.get (s : SafSt) : Nat → SafIn
  | 0 => s.s0
  | 1 => s.s1
  | 2 => s.s2
  | _ => s.s3

/-- The levels of the channels, which nothing but the pins changes. -/
def SafSt.afterReset (s : SafSt) : SafSt :=
  { s0 := { a := s.s0.a, b := s.s0.b }, s1 := { a := s.s1.a, b := s.s1.b }, s2 := { a := s.s2.a, b := s.s2.b }, s3 := { a := s.s3.a, b := s.s3.b } }

/-- The lane with a safety input replaced. -/
def Lane.setSaf (l : Lane) (n : Nat) (v : SafIn) : Lane :=
  match n with
  | 0 => { l with saf := { l.saf with s0 := v } }
  | 1 => { l with saf := { l.saf with s1 := v } }
  | 2 => { l with saf := { l.saf with s2 := v } }
  | _ => { l with saf := { l.saf with s3 := v } }

/-- Whether an injection tests an input. -/
def Lane.injecting (l : Lane) (n : Nat) : Bool :=
  match l.saf.inj with
  | some j => decide (j.input = n)
  | none => false

/-- Whether the channels of an input read active (R540). -/
def Lane.activeA (l : Lane) (n : Nat) : Bool := l.on (safStat n 1) == l.on (SF_SAFCFG_ACT n)
def Lane.activeB (l : Lane) (n : Nat) : Bool := l.on (safStat n 2) == (l.on (SF_SAFCFG_ACT n) != l.on (SF_SAFCFG_PAIR n))

/-- Whether the channels of an input disagree. -/
def Lane.disagree (l : Lane) (n : Nat) : Bool := l.activeA n != l.activeB n

/-- What has been seen since ARMING entry, and the proof by observation (R544). -/
def Lane.safSeen (l : Lane) (n : Nat) : Lane :=
  if l.mode = mBoot ∨ l.on (safStat n 5) then l
  else
    let l := l.when (l.on (safStat n 0)) (fun l => l.set (safStat n 3))
    let l := l.when (!l.activeA n && !l.activeB n) (fun l => l.set (safStat n 4))
    if l.rd (SF_SAFCFG_PROOF n) = 2 ∧ l.on (safStat n 3) ∧ l.on (safStat n 4) then (l.set (safStat n 7)).armProofs else l

/-- STATE and the discrepancy timer follow the accepted levels of an enabled input that is not under test (R540, R541). -/
def Lane.safEval (l : Lane) (n : Nat) : Lane :=
  if l.rd (SF_SAFCFG_EN n) = 0 ∨ l.injecting n then l
  else
    let v := l.saf.get n
    let l := l.setSaf n { v with disc := if l.disagree n then some (v.disc.getD l.now) else none }
    let st := l.activeA n && l.activeB n && !l.on (safStat n 5)
    let l := if st = l.on (safStat n 0) then l else (l.put (safStat n 0) st).event 190
    l.safSeen n

/-- LVA and LVB take the accepted levels. -/
def Lane.safLevels (l : Lane) (n : Nat) : Lane :=
  let v := l.saf.get n
  ((l.put (safStat n 1) v.a).put (safStat n 2) v.b).safEval n

/-- Whether a level of a channel can have been accepted now: a level is accepted after FILT µs without a change, so two changes of an accepted level
lie FILT µs apart, in CLK_PER cycles (R540, log entry 57). -/
def Lane.safAccepts (l : Lane) (n : Nat) (chanB level : Bool) : Bool :=
  let v := l.saf.get n
  let was := if chanB then v.b else v.a
  match if chanB then v.atB else v.atA with
  | some t => decide (level = was) || decide (t / cycPer + 100 * l.rd (SF_SAFCFG_FILT n) ≤ l.now / cycPer)
  | none => true

/-- The accepted level of a channel. -/
def Lane.safPin (l : Lane) (n : Nat) (chanB level : Bool) : Lane :=
  let v := l.saf.get n
  if chanB then (if level = v.b then l else l.setSaf n { v with b := level, atB := some l.now })
  else if level = v.a then l else l.setSaf n { v with a := level, atA := some l.now }

/-- The accepted level of a channel changes; during a test of the input its registers hold (R540, R542). -/
def Lane.safChange (l : Lane) (n : Nat) (chanB level : Bool) : Lane :=
  if l.safAccepts n chanB level then
    let l := l.safPin n chanB level
    if l.injecting n then l else l.safLevels n
  else l

/-- A disagreement has lasted DISC ms (R541). -/
def Lane.safDiscrepancy (l : Lane) (n : Nat) : Lane :=
  match (l.saf.get n).disc with
  | some t =>
    if l.on (SF_SAFCFG_EN n) ∧ l.injecting n = false ∧ l.on (safStat n 5) = false ∧ l.due (t + l.rd (SF_SAFCFG_DISC n) * msec) then
      (((l.set (safStat n 5)).clr (safStat n 0)).raise srcSF 5 clsUC none (2 ^ n)).event 190
    else l
  | none => l

/-- SF_SAFCTL.DISCCLR (R541). -/
def Lane.discClr (l : Lane) (m : Nat) : Lane :=
  l.each ((List.range 4).filter m.testBit) (fun l n =>
    if l.on (safStat n 5) ∧ l.disagree n = false then (l.clr (safStat n 5)).safEval n else l)

/-! ### Injection (R542) -/

/-- The time of one half of a channel's test. -/
def injPhase : Nat := 50 * usec

/-- The test of the next input that waits starts with its channel A. -/
def Lane.injStart (l : Lane) : Lane :=
  match l.saf.todo with
  | [] => l
  | n :: r =>
    let l := { l with saf := { l.saf with todo := r, inj := some ⟨n, false, false, l.now + injPhase, false⟩ } }
    l.setSaf n { l.saf.get n with bad := false, disc := none }

/-- The tests of some inputs are asked for: those that are proved by injection. -/
def Lane.injQueue (l : Lane) (ns : List Nat) : Lane :=
  let ns := ns.filter (fun n => l.on (SF_SAFCFG_EN n) && decide (l.rd (SF_SAFCFG_PROOF n) = 1))
  ({ l with saf := { l.saf with todo := ns } }).injStart

/-- SF_SAFCTL.INJGO: ignored in BOOT or while an injection runs. -/
def Lane.injectInputs (l : Lane) (m : Nat) : Lane :=
  if l.mode = mBoot ∨ l.saf.inj.isSome then l else l.injQueue ((List.range 4).filter m.testBit)

/-- A channel fails. -/
def Lane.injFail (l : Lane) (n : Nat) (chanB : Bool) : Lane :=
  let l := ((l.setSaf n { l.saf.get n with bad := true }).set (safStat n 6)).set SF_ARMSTAT_SAFF
  (l.raise srcSF 6 clsUC none (n + (if chanB then 16 else 0))).event 191

/-- The test of an input ends: it is proven when both channels have passed; its registers follow the channels again. -/
def Lane.injDone (l : Lane) (n : Nat) : Lane :=
  let bad := (l.saf.get n).bad
  let l := { l with saf := { l.saf with inj := none } }
  let l := if bad then l else (l.set (safStat n 7)).armProofs
  (l.safLevels n).injStart

/-- A half of a channel's test ends: `ok` tells that the channel's level is where that half requires it. -/
def Lane.injEnd (l : Lane) (ok : Bool) : Lane :=
  match l.saf.inj with
  | none => l
  | some j =>
    if !l.due j.due then l
    else
      let l := if ok || j.failed then l else l.injFail j.input j.chanB
      let j := { j with due := j.due + injPhase, failed := j.failed || !ok }
      if j.release = false then { l with saf := { l.saf with inj := some { j with release := true } } }
      else if j.chanB = false then { l with saf := { l.saf with inj := some { j with chanB := true, release := false, failed := false } } }
      else l.injDone j.input

/-! ### The meanings -/

def execSafetyInputChange (i : LaneId) (n : Fin 4) (chanB level : Bool) (s : State) : Host.Outcome State Fault Refusal :=
  s.actPin i (fun l => l.clocks && l.domOn .fb) (fun l => l.safPin n chanB level) (fun l => l.safChange n chanB level)
def execSafetyDiscrepancy (i : LaneId) (n : Fin 4) (s : State) : Host.Outcome State Fault Refusal :=
  s.actD i .fb (fun l => l.safDiscrepancy n)
def execSfDiscclr (i : LaneId) (m : BitVec 4) (s : State) : Host.Outcome State Fault Refusal :=
  s.accD i .fb (bitAcc SF_SAFCTL_DISCCLR.addr m.toNat) (fun l => l.discClr m.toNat)
def execSfInjgo (i : LaneId) (m : BitVec 4) (s : State) : Host.Outcome State Fault Refusal :=
  s.accD i .fb (bitAcc SF_SAFCTL_DISCCLR.addr (256 * m.toNat)) (fun l => l.injectInputs m.toNat)
def execInjectionPhaseEnd (i : LaneId) (ok : Bool) (s : State) : Host.Outcome State Fault Refusal := s.actD i .fb (fun l => l.injEnd ok)

end Sys2Proof.Machine
end

