-- ==== Sys2Proof/Machine/Network.lean ====
section
/-!
DEFINITION. The Crelas network port: network time, cycles, sending, the guardian, reception, synchronisation and partners
(spec/12_tt_network.md R410 to R438).
-/

namespace Sys2Proof

open Machine (beNat byteAt leBytes crc32c)

/-! ### The frame (R417, Table 12.1): multi-byte fields most significant byte first -/

/-- The field of `n` bytes at an offset of a frame. -/
def CrelasFrame.field (f : CrelasFrame) (o n : Nat) : Nat := beNat ((f.bytes.drop o).take n)

def CrelasFrame.da (f : CrelasFrame) : Nat := f.field 0 6
def CrelasFrame.etherType (f : CrelasFrame) : Nat := f.field 12 2
def CrelasFrame.version (f : CrelasFrame) : Nat := f.field 14 1
def CrelasFrame.sender (f : CrelasFrame) : Nat := f.field 15 1
def CrelasFrame.slot (f : CrelasFrame) : Nat := f.field 16 1
def CrelasFrame.ageflg (f : CrelasFrame) : Nat := f.field 17 1
def CrelasFrame.cycle (f : CrelasFrame) : Nat := f.field 18 2
def CrelasFrame.len (f : CrelasFrame) : Nat := f.field 20 2
def CrelasFrame.tstamp (f : CrelasFrame) : Nat := f.field 22 8
def CrelasFrame.data (f : CrelasFrame) : List Byte := (f.bytes.drop 30).take f.len

/-- Whether the E2E CRC-32C over bytes 14 to 29 + LEN checks. -/
def CrelasFrame.e2eOk (f : CrelasFrame) : Bool := decide (f.field (30 + f.len) 4 = crc32c ((f.bytes.drop 14).take (16 + f.len)))

/-- The bytes of a frame with LEN data bytes, from DA to the padding. -/
def frameLen (len : Nat) : Nat := Nat.max 60 (34 + len)

/-- The duration of a frame in ns, from the start of its SFD to the end of its FCS (R415). -/
def CrelasFrame.span (f : CrelasFrame) : Nat := (f.bytes.length + 5) * 80

/-- The duration of a frame with LEN data bytes in ns (R415). -/
def Machine.frameTime (len : Nat) : Nat := (19 + Nat.max 46 (20 + len)) * 80

/-- The first bytes of a number, most significant first. -/
def beBytes (n v : Nat) : List Byte := (leBytes n v).reverse

/-- A frame of a channel as the transmitting hardware completes it: with the E2E CRC and the padding (R417, R418). -/
def CrelasFrame.build (chan sender slot ageflg cycle tstamp : Nat) (data : List Byte) : CrelasFrame :=
  let body := [1#8] ++ beBytes 1 sender ++ beBytes 1 slot ++ beBytes 1 ageflg ++ beBytes 2 cycle ++ beBytes 2 data.length ++
    beBytes 8 tstamp ++ data
  let head := beBytes 6 (0x03000000C000 + chan) ++ beBytes 6 (0x020000000000 + 256 * chan + sender) ++ beBytes 2 0x88B5
  ⟨head ++ body ++ beBytes 4 (crc32c body) ++ List.replicate (26 - data.length) 0#8, true⟩

end Sys2Proof

namespace Sys2Proof.Machine

/-! ### Settings and lists by key -/

/-- The entry of a key in a list of pairs. -/
def keyGet {α : Type} : List (Nat × α) → Nat → Option α
  | [], _ => none
  | (a, v) :: r, k => if a = k then some v else keyGet r k

/-- The entry of a key, replaced. -/
def keyPut {α : Type} (r : List (Nat × α)) (k : Nat) (v : α) : List (Nat × α) := insertSorted k v (r.filter (fun p => p.1 ≠ k))

/-- Whether the Crelas block runs. -/
def Lane.ttOn (l : Lane) : Bool := l.on TT_CFG_EN

/-- The kinds of a slot (R413). -/
def kFree : Nat := 0
def kOwn : Nat := 1
def kRx : Nat := 2
def kFwd : Nat := 3

/-- The length of a cycle in ns. -/
def ttCycle : Nat := 500000

/-- The nominal start of a slot, in ns into the cycle. -/
def Lane.slotStart (l : Lane) (k : Nat) : Nat := 10 * l.rd (TT_SLOTA_START k)

/-- The slot whose window holds a time, given 100 ns later as ns into the cycle (R414). -/
def Lane.slotAt (l : Lane) (t : Nat) : Nat := ((List.range 32).filter (fun k => decide (l.slotStart k ≤ t))).foldl Nat.max 0

/-- The place of a slot's action point, less a lead in ns, in network time: the cycle and the slot in one number, where the present CLK_PER
cycle is the first at or after it (R414, R419). -/
def Lane.atSlot (l : Lane) (k lead : Nat) : Option Nat :=
  if l.ntMark (l.slotStart k + ttCycle - lead) ttCycle then some (32 * ((l.ntime + lead) / ttCycle) + k) else none

/-- The guard band in ns. -/
def Lane.guardNs (l : Lane) : Nat := 100 * l.rd TT_CFG_GUARD

/-- The ports that can send: enabled, with their link up. -/
def Lane.portsUp (l : Lane) : Nat := (List.range 4).foldl (fun a p => if l.on (TT_PORTSTAT_LINK p) && (l.rd TT_CFG_PORTEN).testBit p then a + 2 ^ p else a) 0

/-- Whether every Crelas port is down or muted (R23 of 01_lanes_modes_faults). -/
def Lane.portsLost (l : Lane) : Bool :=
  (List.range 4).all (fun p => !l.portsUp.testBit p || l.on (TT_PORTSTAT_MUTED p) || !l.domOn .nw)

/-- The cycle counter (R410). -/
def Lane.ttCount (l : Lane) : Nat := l.ntime / ttCycle % 65536

/-! ### Network time (R427, R430, R431) -/

/-- The time quality follows the sync state (R431, spec/13_power_clocks_wake.md R462). -/
def Lane.ttQuality (l : Lane) : Lane :=
  let s := l.rd TT_STAT_SSTATE
  let q := if s = ssSync ∨ s = ssMaster then 0 else if s = ssHold ∨ (s = ssAcquire ∧ l.tt.wasSync) then 1 else 2
  (l.wr TT_STAT_TQ q).wr WK_STAT_TQ (if l.ao.tqKnown then q else 3)

/-- The sync state changes (Table 12.4). -/
def Lane.setSync (l : Lane) (s : Nat) : Lane :=
  let l := if l.rd TT_STAT_SSTATE = s then l
    else ({ l with tt := { l.tt with close := 0, noRef := 0, wasSync := l.tt.wasSync || decide (s = ssSync) } }).event 97
  (l.wr TT_STAT_SSTATE s).ttQuality

/-- A step of the network time (R427). From then on the lane places its boundary ticks by the time it has stepped to (R412): what it added to its
own time for them is gone (DEDUCED, log entry 33). -/
def Lane.ntStep (l : Lane) (th : Int) : Lane :=
  let l := (l.ntMove (-th * ntUnit)).wrS TT_THETA_TH th
  { l with tt := { l.tt with thPrev := 0, close := 0 }, gl := { l.gl with shift := 0, adjust := 0, carry := 0 } }

/-- A correction of the rate (R427). -/
def Lane.ntCorrect (l : Lane) (th : Int) : Lane :=
  let l := l.ntRebase
  let kp : Int := l.rd TT_CORR_KP
  let ki : Int := l.rd TT_CORR_KI
  let fr := l.tt.fr + ki * (256 * th - (256 - kp) * l.tt.thPrev) * 15625
  let fr := if 102400000000 < fr then 102400000000 else if fr < -102400000000 then -102400000000 else fr
  let add : Int := 5120000000000000 - 10 * fr - kp * th * 40000000
  let l := { l with tt := { l.tt with fr := fr, add := add, thPrev := th } }
  (l.wrS TT_THETA_TH th).wrS TT_RATE_FR (Q.roundDiv fr 512)

/-- Whether an offset is above the step threshold. -/
def Lane.ntFar (l : Lane) (th : Int) : Bool := decide (10 * l.rd TT_MCFG_STEP < th.natAbs)

/-- A usable reference is accepted: Table 12.4, and R427 where it is the reference in use. -/
def Lane.reference (l : Lane) (r : Nat) (trx : Nat) (th : Int) : Lane :=
  let s := l.rd TT_STAT_SSTATE
  let expired := (decide (s = ssSync) && decide (l.rd TT_MCFG_LOSS ≤ l.tt.noRef)) ||
    ((decide (s = ssUnsync) || decide (s = ssHold)) && decide (l.rd TT_MCFG_RANK ≠ 0) && decide (l.rd TT_MCFG_TAKE ≤ l.tt.noRef))
  let l := l.when expired (fun l => l.set TT_STAT_SLATE)
  let l := { l with tt := { l.tt with refSeen := true, noRef := 0 }, ao := { l.ao with tqKnown := true } }
  if l.rd TT_STAT_MSRC ≤ r then l.ttQuality
  else
    let l := (l.wr TT_STAT_MSRC r).wr TT_LASTREF (trx % 2 ^ 64)
    let far := l.ntFar th
    if s = ssUnsync then (l.ntStep th).setSync ssAcquire
    else if far then
      let l := l.when (decide (s = ssSync)) (fun l => l.raise srcTT 4 clsCE none (unsign 32 th))
      (l.ntStep th).setSync ssAcquire
    else
      let l := l.ntCorrect th
      if s = ssAcquire then
        let n := if th.natAbs ≤ 100 then l.tt.close + 1 else 0
        let l := { l with tt := { l.tt with close := n } }
        if 4 ≤ n then l.setSync ssSync else l.ttQuality
      else l.setSync ssSync

/-- SYNC is lost for want of references (Table 12.4). -/
def Lane.syncLoss (l : Lane) : Lane :=
  if l.ttOn ∧ l.rd TT_STAT_SSTATE = ssSync ∧ l.rd TT_MCFG_LOSS ≤ l.tt.noRef then
    let l := l.setSync ssHold
    l.raise srcTT 5 clsUC none (l.dataOf TT_STAT_SSTATE.addr)
  else l

/-- The lane becomes a master (Table 12.4). -/
def Lane.masterTake (l : Lane) : Lane :=
  let s := l.rd TT_STAT_SSTATE
  if l.ttOn ∧ (s = ssUnsync ∨ s = ssHold) ∧ l.rd TT_MCFG_RANK ≠ 0 ∧ l.rd TT_MCFG_TAKE ≤ l.tt.noRef then l.setSync ssMaster else l

/-! ### Cycle starts (R410, R425, R434) -/

/-- The guardian's count of a port at the end of a cycle (R434). -/
def Lane.portJudge (l : Lane) (p : Nat) : Lane :=
  let bad := l.tt.viol.testBit p
  let l := l.wr (TT_PORTSTAT_VIOL p) (if bad then Nat.min 4 (l.rd (TT_PORTSTAT_VIOL p) + 1) else 0)
  if l.on (TT_PORTSTAT_MUTED p) then l.wr (TT_PORTSTAT_CLEAN p) (if bad then 0 else Nat.min 16 (l.rd (TT_PORTSTAT_CLEAN p) + 1)) else l

/-- The ages of the received slots advance (R425). -/
def Lane.ageStep (l : Lane) (k : Nat) : Lane :=
  if l.on (TT_RXAGE_VALID k) then l.bump (TT_RXAGE_EAGE k) else l

/-- A cycle starts, in the CLK_PER cycle in which the network time reaches it; the counts of the one that ends are judged (R410, R425, R429,
R434). A start that a step of the network time passes over has no such instant, and none is taken (DESIGN CHOICE, log entry 38). -/
def Lane.cycleStart (l : Lane) : Lane :=
  let n := l.ntime / ttCycle
  if l.ttOn = false ∨ l.ntMark 0 ttCycle = false ∨ l.tt.cyc = some n then l
  else
    let judge := decide (ssSync ≤ l.rd TT_STAT_SSTATE)
    let l := l.when judge (fun l => l.each (List.range 4) Lane.portJudge)
    let l := l.each (List.range 32) Lane.ageStep
    let l := { l with tt := { l.tt with cyc := some n, noRef := if l.tt.refSeen then 0 else l.tt.noRef + 1, refSeen := false, viol := 0 } }
    ((l.wr TT_STAT_MSRC 3).wr TT_CYCLE_SLOT 0).wr TT_CYCLE_CYCLE (n % 65536) |>.event 96

/-- A port is muted at its fourth consecutive violating cycle (R434). -/
def Lane.portMute (l : Lane) (p : Nat) : Lane :=
  if l.rd (TT_PORTSTAT_VIOL p) = 4 ∧ l.rd (TT_PORTSTAT_MUTED p) = 0 then
    (((l.set (TT_PORTSTAT_MUTED p)).wr (TT_PORTSTAT_CLEAN p) 0).raise srcTT 3 clsUC none p).event 98
  else l

/-- A port is unmuted (R434). -/
def Lane.portOpen (l : Lane) (p : Nat) : Lane :=
  if l.on (TT_PORTSTAT_MUTED p) then
    (((l.clr (TT_PORTSTAT_MUTED p)).wr (TT_PORTSTAT_CLEAN p) 0).wr (TT_PORTSTAT_VIOL p) 0).event 98
  else l

/-- A port is unmuted at the end of its sixteenth clean cycle. -/
def Lane.portUnmute (l : Lane) (p : Nat) : Lane := if l.rd (TT_PORTSTAT_CLEAN p) = 16 then l.portOpen p else l

/-! ### Sending (R419 to R421, R436) -/

/-- The state of an own slot. -/
def TtSt.slot (s : TtSt) (k : Nat) : TxSlot := (keyGet s.tx k).getD {}

/-- TT_TXRDY released (R419, R420, R592). -/
def Lane.txReady (l : Lane) (k len : Nat) : Lane :=
  if l.rd (TT_SLOTA_KIND k) ≠ kOwn ∨ k = 31 then
    ((l.set TT_STAT_TXREJ).bump TT_TXREJCNT_TXREJ).raiseOnce srcTT 6 clsCE none k
  else if l.rd (TT_SLOTA_MAXLEN k) < len then l
  else
    let l := l.wr TT_TXPEND_RDY (l.rd TT_TXPEND_RDY ||| 2 ^ k)
    { l with tt := { l.tt with tx := keyPut l.tt.tx k { l.tt.slot k with rdylen := len, rdyAt := some l.now } } }

/-- Whether a slot is this lane's reference slot (R421). -/
def Lane.ownReference (l : Lane) (k : Nat) : Bool := decide (k < 3) && decide (l.rd TT_MCFG_RANK = k + 1)

/-- The transmit window of a slot. -/
def ttTxBuf (k : Nat) : Nat := 0xF000B4000 + 0x100 * k
def ttRxBuf (k b : Nat) : Nat := 0xF000B8000 + 0x200 * k + 0x100 * b

/-- The decision at a fetch point (R419). -/
def Lane.fetchSlot (l : Lane) (k : Nat) : Lane :=
  let s := l.tt.slot k
  let ready := (l.rd TT_TXPEND_RDY).testBit k
  let late := match s.rdyAt with
    | some t => ready && decide (l.now < t + cycBus)
    | none => false
  let s' : TxSlot := if ready then { s with age := 0, len := s.rdylen, sent := true }
    else if s.sent then { s with age := Nat.min (s.age + 1) 15 }
    else { s with age := 15, len := 0 }
  let l := l.when late (fun l => l.set TT_STAT_TXLATE)
  let l := l.when ready (fun l => l.wr TT_TXPEND_RDY (l.rd TT_TXPEND_RDY &&& (2 ^ 32 - 1 - 2 ^ k)))
  let l := { l with tt := { l.tt with tx := keyPut l.tt.tx k s'
                                      fetched := some ⟨k, s'.age, !s'.sent, l.bytes (ttTxBuf k) s'.len⟩ } }
  if !ready && s.sent then ((l.bump TT_CNT_TXREP).raiseOnce srcTT 7 clsCE none (k + 256 * s'.age)).event 102 else l

/-- The fetch point of an own slot, 2 µs before its action point, once in its cycle (R419). -/
def Lane.fetch (l : Lane) (k : Nat) : Lane :=
  if l.ttOn = false ∨ l.rd (TT_SLOTA_KIND k) ≠ kOwn ∨ k = 31 ∨ l.ownReference k then l
  else
    match l.atSlot k 2000 with
    | some n => if l.tt.fetchAt = some n then l else ({ l with tt := { l.tt with fetchAt := some n } }).fetchSlot k
    | none => l

/-- A frame as the transmitting hardware completes it (R417, R418). -/
def Lane.frame (l : Lane) (k age : Nat) (nodata ref : Bool) (data : List Byte) : CrelasFrame :=
  let s := l.rd TT_STAT_SSTATE
  let sync := decide (s = ssSync) || decide (s = ssMaster) || ref
  CrelasFrame.build l.me.code (l.rd TT_CFG_SENDER) k (16 * age + flagBit nodata 2 + flagBit sync 1 + flagBit ref 0) l.ttCount l.ntime data

/-- The data of a roll-call frame (R436). -/
def Lane.rollData (l : Lane) : List Byte :=
  leBytes 1 (l.rd TT_CFG_HUB + flagBit (l.rd TT_MCFG_RANK ≠ 0) 1) ++ leBytes 1 (2 ^ l.me.code) ++ leBytes 6 (l.rd TT_STAT_TQ)

/-- What leaves at the action point of an own slot, or of a roll-call turn (R420, R421, R436). -/
def Lane.slotSend (l : Lane) (k : Nat) : Lane :=
  let s := l.rd TT_STAT_SSTATE
  let ports := l.rd (TT_SLOTB_PORTS k) &&& l.portsUp
  let go := fun (l : Lane) (f : CrelasFrame) => if ports = 0 then l else l.send (.crelas ports f)
  if k = 31 then
    if l.ttCount % l.rd TT_ROLL_N = l.rd TT_ROLL_IDX then go l (l.frame 31 0 false false l.rollData) else l
  else if l.rd (TT_SLOTA_KIND k) ≠ kOwn then l
  else if l.ownReference k then
    if s = ssHold then l else go l (l.frame k 0 false true (leBytes 1 (k + 1) ++ leBytes 7 s))
  else
    match l.tt.fetched with
    | some f => if f.slot = k then go { l with tt := { l.tt with fetched := none } } (l.frame k f.age f.nodata false f.data) else l
    | none => l

/-- The action point of a slot on this lane's network time, once in its cycle (R414, R420). -/
def Lane.frameSend (l : Lane) (k : Nat) : Lane :=
  if l.ttOn = false ∨ l.rd TT_STAT_SSTATE < ssSync then l
  else
    match l.atSlot k 0 with
    | some n => if l.tt.sentAt = some n then l else ({ l with tt := { l.tt with sentAt := some n } }).slotSend k
    | none => l

/-! ### Partners (R437) -/

/-- The states of a partner entry. -/
def ptEmpty : Nat := 0
def ptPresent : Nat := 1
def ptAbsent : Nat := 2
def ptGuest : Nat := 3

/-- The entry of a sender. -/
def Lane.partner (l : Lane) (id : Nat) : Option Nat :=
  (List.range 64).find? (fun m => l.rd (TT_PTAB_STATE m) ≠ ptEmpty && l.rd (TT_PTAB_SENDER m) = id)

/-- A partner's state changes. -/
def Lane.partnerSet (l : Lane) (m st : Nat) : Lane :=
  let l := l.wr (TT_PTAB_STATE m) st
  (l.raise srcTT 8 clsCE none (l.rd (TT_PTAB_SENDER m) + 256 * st)).event 100

/-- An accepted frame of a sender is recorded. -/
def Lane.partnerSeen (l : Lane) (m p cyc : Nat) : Lane :=
  let l := (l.wr (TT_PTAB_LASTCYC m) cyc).wr (TT_PTAB_PORT m) p
  if l.rd (TT_PTAB_STATE m) = ptAbsent then l.partnerSet m ptPresent else l

/-- A roll-call is accepted: an unknown sender takes an empty entry. -/
def Lane.rollCall (l : Lane) (id p cyc : Nat) : Lane :=
  match l.partner id with
  | some m => l.partnerSeen m p cyc
  | none =>
    match (List.range 64).find? (fun m => l.rd (TT_PTAB_STATE m) = ptEmpty) with
    | none => l.bump TT_CNT_PTFULL
    | some m => (((l.setReg (TT_PTAB_STATE m).addr 0#64).wr (TT_PTAB_SENDER m) id).partnerSeen m p cyc).partnerSet m ptGuest

/-- ABS cycles pass without a frame of a partner. -/
def Lane.partnerAbsent (l : Lane) (m : Nat) : Lane :=
  if (l.ttCount + 65536 - l.rd (TT_PTAB_LASTCYC m)) % 65536 < l.rd TT_ROLL_ABS then l
  else if l.rd (TT_PTAB_STATE m) = ptPresent then l.partnerSet m ptAbsent
  else if l.rd (TT_PTAB_STATE m) = ptGuest then l.setReg (TT_PTAB_STATE m).addr 0#64
  else l

/-- The partner table at the end of the load: the senders that the schedule names, ABSENT (R437). -/
def Lane.partnersInit (l : Lane) : Lane :=
  let ids := (List.range 31).filterMap (fun k =>
    if l.rd (TT_SLOTA_KIND k) = kRx ∨ l.rd (TT_SLOTA_KIND k) = kFwd then some (l.rd (TT_SLOTB_SENDER k)) else none)
  l.each (ids.eraseDups.zip (List.range 64)) (fun l q => (l.wr (TT_PTAB_SENDER q.2) q.1).wr (TT_PTAB_STATE q.2) ptAbsent)

/-! ### Reception (R422 to R426, R432 to R435) -/

/-- A receive error (R422). -/
def Lane.rxError (l : Lane) : Lane :=
  let l := (l.set TT_STAT_RXERR).bump TT_CNT_RXERR
  (l.raiseOnce srcTT 1 clsCE none (l.dataOf TT_CNT_RXERR.addr)).event 103

/-- A violation of a port (R432). -/
def Lane.violation (l : Lane) (p : Nat) : Lane :=
  let l := l.bump (TT_PORTSTAT_VCNT p)
  let l := { l with tt := { l.tt with viol := l.tt.viol ||| 2 ^ p } }
  if l.on (TT_PORTSTAT_MUTED p) then l.wr (TT_PORTSTAT_CLEAN p) 0 else l

/-- The forwarded copy of a frame that is still arriving at the end of its window, `room` ns after its SFD: the copy leaves 1,520 ns later
(R428), and ends at the window end with 4 bytes that are the complement of the FCS of the bytes sent (R433); they are the last of its bytes
here. -/
def cutFrame (f : CrelasFrame) (room : Nat) : CrelasFrame :=
  let b := f.bytes.take ((room - 1520) / 80 - 5)
  ⟨b ++ leBytes 4 (~~~ (crc32 b)).toNat, false⟩

/-- The forwarded copy of a frame in hub role. -/
def Lane.hubSend (l : Lane) (ports : Nat) (f : CrelasFrame) : Lane :=
  let m := ports &&& l.portsUp
  if m = 0 then l else l.send (.crelas m f)

/-- Forwarding in UNSYNC and ACQUIRE: from the ports named for slots 0 to 2, one frame per port in 500 µs (R435). -/
def Lane.hubFree (l : Lane) (p : Nat) (f : CrelasFrame) : Lane :=
  let named := (List.range 3).filter (fun k => (l.rd (TT_SLOTB_PORTS k)).testBit p)
  let recent := match keyGet l.tt.fwdAt p with
    | some t => decide (l.now < t + 500 * usec)
    | none => false
  if named.isEmpty || recent || l.on (TT_PORTSTAT_MUTED p) || !l.on TT_CFG_HUB then l
  else
    let ports := named.foldl (fun a k => a ||| l.rd (TT_SLOTB_FWD k)) 0
    ({ l with tt := { l.tt with fwdAt := keyPut l.tt.fwdAt p l.now } }).hubSend ports f

/-- A drift warning (R432). -/
def Lane.driftWarn (l : Lane) (p k id : Nat) : Lane :=
  let l := l.set (TT_PORTSTAT_DRIFT p)
  let l := match l.partner id with
    | some m => l.set (TT_PTAB_DRIFT m)
    | none => l
  (l.raiseOnce srcTT 2 clsCE none (p + 256 * k)).event 99

/-- The notice entry of an accepted frame (Table 12.3). -/
def notice (p k b : Nat) (f : CrelasFrame) : List Byte :=
  leBytes 1 k ++ leBytes 1 (p + 16 * b) ++ leBytes 2 f.ageflg ++ leBytes 2 f.cycle ++ leBytes 2 f.len ++ leBytes 8 f.tstamp

/-- A frame of an RX slot is accepted (R423 to R427). -/
def Lane.rxAccept (l : Lane) (p k trx : Nat) (f : CrelasFrame) : Lane :=
  let b := f.cycle % 2
  let age := f.ageflg / 16 % 16
  let l := l.setBytes (ttRxBuf k b) f.data
  let l := ((l.wr (TT_RXAGE_CYCLE k) f.cycle).set (TT_RXAGE_VALID k)).wr (TT_RXAGE_BUF k) b
  let l := (l.wr (TT_RXAGE_AGE k) age).wr (TT_RXAGE_EAGE k) age
  let l := if l.on (TT_SLOTB_HQEN k) ∧ (age = 0 ∨ l.on (TT_SLOTB_ALLAGE k)) then
      l.hamperPush (l.rd (TT_SLOTB_HQ k)) (l.rd (TT_SLOTB_PRIO k)) [notice p k b f] .none
    else l
  let l := match l.partner f.sender with
    | some m => l.partnerSeen m p (l.ttCount)
    | none => l
  let rank := l.rd TT_MCFG_RANK
  if k < 3 ∧ f.ageflg % 4 = 3 ∧ (rank = 0 ∨ k + 1 < rank) then
    l.reference k trx ((trx : Int) - ((f.tstamp + l.rd (TT_PDLY_NS p) : Nat) : Int))
  else l

/-- The checks 2 to 7 of Table 12.2, and what an intact frame does. -/
def Lane.rxChecks (l : Lane) (p k trx : Nat) (f : CrelasFrame) : Lane :=
  let roll := decide (k = 31)
  if f.fcsOk = false then l.rxError
  else if f.etherType ≠ 0x88B5 then l.bump TT_CNT_OTHER
  else if f.da ≠ 0x03000000C000 + l.me.code ∨ f.version ≠ 1 ∨ f.e2eOk = false then l.rxError
  else if roll = false ∧ (f.slot ≠ k ∨ f.sender ≠ l.rd (TT_SLOTB_SENDER k)) then l.rxError
  else if f.cycle ≠ l.ttCount then l.rxError
  else if roll = false ∧ (l.rd (TT_SLOTA_MAXLEN k) < f.len ∨ f.bytes.length ≠ frameLen f.len) then l.rxError
  else if l.on (TT_PORTSTAT_MUTED p) then l
  else if roll then l.rollCall f.sender p l.ttCount
  else if l.rd (TT_SLOTA_KIND k) = kRx then l.rxAccept p k trx f
  else l

/-- A frame has reached a port, its SFD `ago` ns ago (R422, R432 to R435). An edge error beyond the signed 16 bits of TT_EDGE_p.E_NS reads as
the largest number (DESIGN CHOICE, log entry 38). -/
def Lane.rxFrame (l : Lane) (p : Nat) (f : CrelasFrame) (ago : Nat) : Lane :=
  if l.ttOn = false ∨ l.portsUp.testBit p = false then l
  else
    let trx := l.ntime - ago
    let pos := trx + 100 - l.rd (TT_PDLY_NS p)
    let cyc := pos / ttCycle
    let t := pos % ttCycle
    let k := l.slotAt t
    let e := t - l.slotStart k
    let winEnd := if k = 31 then ttCycle else l.slotStart (k + 1)
    let kind := l.rd (TT_SLOTA_KIND k)
    let named := decide (k = 31) || ((l.rd (TT_SLOTB_PORTS k)).testBit p && (decide (kind = kRx) || decide (kind = kFwd)))
    let second := decide (keyGet l.tt.wins p = some (32 * cyc + k))
    let start := named && decide (e ≤ l.guardNs) && !second
    let free := decide (l.rd TT_STAT_SSTATE < ssSync)
    let l := (l.wr (TT_EDGE_SLOT p) k).wr (TT_EDGE_E_NS p) (Nat.min e 32767)
    let l := { l with tt := { l.tt with wins := keyPut l.tt.wins p (32 * cyc + k) } }
    let l := l.when free (fun l => l.hubFree p f)
    if start = false then (if free then l else l.violation p)
    else
      let l := l.when (decide (l.guardNs < 2 * e) && !l.on (TT_PORTSTAT_MUTED p)) (fun l => l.driftWarn p k f.sender)
      let late := decide (winEnd < t + f.span)
      let l := l.when (!free && l.on TT_CFG_HUB && !l.on (TT_PORTSTAT_MUTED p))
        (fun l => l.hubSend (l.rd (TT_SLOTB_FWD k)) (if late then cutFrame f (winEnd - t) else f))
      if late then (if free then l else l.violation p) else l.rxChecks p k trx f

/-! ### Links and counters -/

/-- A 100BASE-T1 link goes up or down (R438). -/
def Lane.linkChange (l : Lane) (p : Nat) (up : Bool) : Lane :=
  if l.on (TT_PORTSTAT_LINK p) = up then l
  else ((l.put (TT_PORTSTAT_LINK p) up).raise srcTT 9 clsCE none (p + flagBit up 4)).event 101

/-- TT_CTL.UNMUTE. -/
def Lane.unmuteMask (l : Lane) (m : Nat) : Lane := l.each (List.range 4) (fun l p => if m.testBit p then l.portOpen p else l)

/-- TT_CTL.CNTCLR. -/
def Lane.ttCntClr (l : Lane) : Lane :=
  (l.setReg TT_CNT_RXERR.addr 0#64).each (List.range 4) (fun l p => l.wr (TT_PORTSTAT_VCNT p) 0)

/-! ### The meanings -/

def execCycleStart (i : LaneId) (s : State) : Host.Outcome State Fault Refusal := s.actD i .nw Lane.cycleStart
def execSyncLossExpiry (i : LaneId) (s : State) : Host.Outcome State Fault Refusal := s.actD i .nw Lane.syncLoss
def execMasterTakeExpiry (i : LaneId) (s : State) : Host.Outcome State Fault Refusal := s.actD i .nw Lane.masterTake
def execPortMute (i : LaneId) (p : Fin 4) (s : State) : Host.Outcome State Fault Refusal := s.actD i .nw (fun l => l.portMute p)
def execPortUnmute (i : LaneId) (p : Fin 4) (s : State) : Host.Outcome State Fault Refusal := s.actD i .nw (fun l => l.portUnmute p)
def execPartnerAbsence (i : LaneId) (m : Fin 64) (s : State) : Host.Outcome State Fault Refusal :=
  s.actD i .nw (fun l => l.partnerAbsent m)
def execFetchPoint (i : LaneId) (k : Fin 32) (s : State) : Host.Outcome State Fault Refusal := s.actD i .nw (fun l => l.fetch k)
def execFrameSend (i : LaneId) (k : Fin 32) (s : State) : Host.Outcome State Fault Refusal := s.actD i .nw (fun l => l.frameSend k)
def execTtTxrdy (i : LaneId) (k : Fin 32) (len : Fin 512) (s : State) : Host.Outcome State Fault Refusal :=
  s.accD i .nw (bitAcc TT_TXRDY_SLOT.addr (k.val + 65536 * len.val)) (fun l => l.txReady k len)
def execCrelasFrameReceive (i : LaneId) (p : Fin 4) (f : CrelasFrame) (ago : BitVec 16) (s : State) : Host.Outcome State Fault Refusal :=
  s.actD i .nw (fun l => l.rxFrame p f ago.toNat)
def execTtUnmute (i : LaneId) (m : BitVec 4) (s : State) : Host.Outcome State Fault Refusal :=
  s.accD i .nw (bitAcc TT_CTL_CNTCLR.addr (16 * m.toNat)) (fun l => l.unmuteMask m.toNat)
def execTtCntclr (i : LaneId) (s : State) : Host.Outcome State Fault Refusal :=
  s.accD i .nw (bitAcc TT_CTL_CNTCLR.addr 1) Lane.ttCntClr
def execPortLinkChange (i : LaneId) (p : Fin 4) (up : Bool) (s : State) : Host.Outcome State Fault Refusal :=
  s.actD i .nw (fun l => l.linkChange p up)

end Sys2Proof.Machine
end

