-- ==== Sys2Proof/Machine/Trip.lean ====
section
/-!
DEFINITION. The lane's trips, their blanking windows and group actions (spec/03_modulator.md R129 to R140), and the DC link and its
chopper (spec/05_gate_drive.md R209 to R212).
-/

namespace Sys2Proof.Machine

/-! ### Group actions (R133 to R135) -/

/-- The action that MOD_GRPACT gives a group, by its code of Table 3.7. -/
def Lane.grpAct (l : Lane) (k : Nat) : Nat := l.rd MOD_GRPACT_ACT / 4 ^ k % 4

/-- Whether trip n is routed to group k. -/
def Lane.routed (l : Lane) (n k : Nat) : Bool := (l.rd (MOD_TRIPMAP_GRP n)).testBit k

/-- The axis of a group; CHOP has none. -/
def groupAxis (k : Nat) : Option Ax := if k < 3 then some .x0 else if k < 6 then some .x1 else none

/-- The ASC action in force on an axis replaced. -/
def TripSt.setAsc (t : TripSt) (x : Ax) (c : Nat) : TripSt :=
  match x with
  | .x0 => { t with asc0 := c }
  | .x1 => { t with asc1 := c }

/-- An ASC action becomes latched on a group: the first one of the axis stays in force, an opposite one is recorded and refused (R135). -/
def Lane.ascLatch (l : Lane) (k c : Nat) : Lane :=
  match groupAxis k with
  | none => l.setGrpCode k c
  | some x =>
    let cur := l.trip.asc x
    let l := l.setGrpCode k c
    if cur = 0 then { l with trip := l.trip.setAsc x c }
    else if cur = c then l
    else
      let l := l.set MOD_GRPSTAT_ASCCONF
      l.raise srcMOD 7 clsCE (some .x0) (l.dataOf MOD_GRPSTAT_GRP.addr)

/-- A group action begins (Table 3.7); HOLD does not displace a latched action. -/
def Lane.actGroup (l : Lane) (k : Nat) : Lane :=
  let l := if k = 6 then l.clr DL_STAT_CHON else l
  match l.grpAct k with
  | 0 => if l.grpCode k = 0 then l.setGrpCode k 1 else l
  | 1 => l.setGrpCode k 2
  | 2 => l.ascLatch k 3
  | _ => l.ascLatch k 4

/-- The groups that a trip reaches. -/
def Lane.tripGroups (l : Lane) (n : Nat) : List Nat := (List.range 7).filter (l.routed n)

/-- The loops of both axes follow their gate groups. -/
def Lane.settleAll (l : Lane) : Lane := l.each l.axes Lane.leSettle

/-- A trip acts (R133, R139): its groups take their actions, its first latching raises MOD_TRIP, and it drives its event. One that becomes
active again while its latch still stands drives its event again, because R139 names only the first latching and HOLD (DESIGN CHOICE, log
entry 63). -/
def Lane.tripAct (l : Lane) (n : Nat) : Lane :=
  let gs := l.tripGroups n
  let l := l.wr MOD_TRIPSTAT_ACTIVE (l.rd MOD_TRIPSTAT_ACTIVE ||| 2 ^ n)
  if gs = [] then l
  else
    let latching := gs.any (fun k => l.grpAct k ≠ 0)
    let was := (l.rd MOD_TRIPSTAT_LATCHED).testBit n
    let l := l.each gs Lane.actGroup
    let l := if l.on MOD_TRIPFIRST_VALID then l else (l.set MOD_TRIPFIRST_VALID).wr MOD_TRIPFIRST_TRIP n
    let l := l.event (48 + n)
    let l := if latching && !was then
        (l.wr MOD_TRIPSTAT_LATCHED (l.rd MOD_TRIPSTAT_LATCHED ||| 2 ^ n)).raise srcMOD 6 clsUC (some .x0)
          (n + 256 * l.rd (MOD_TRIPMAP_GRP n))
      else l
    l.settleAll

/-! ### Onsets and windows (R130 to R132) -/

/-- When a blanking window ends, while it is open. -/
def TripSt.aux (t : TripSt) : Nat → Option Nat
  | 0 => t.aux0
  | 1 => t.aux1
  | 2 => t.aux2
  | _ => t.aux3

/-- The end of a blanking window replaced. -/
def TripSt.setAux (t : TripSt) (k : Nat) (v : Option Nat) : TripSt :=
  match k with
  | 0 => { t with aux0 := v }
  | 1 => { t with aux1 := v }
  | 2 => { t with aux2 := v }
  | _ => { t with aux3 := v }

/-- Whether the window that a trip selects is open. -/
def Lane.blankOpen (l : Lane) (n : Nat) : Bool :=
  match l.rd (MOD_TRIPCFG_BLANK n) with
  | 0 => false
  | k + 1 =>
    match l.trip.aux k with
    | some t => decide (l.now < t)
    | none => false

/-- An enabled trip input becomes active after its filter: outside a blanking window it acts (R130, R132). -/
def Lane.tripEnter (l : Lane) (n : Nat) : Lane :=
  if l.rd (MOD_TRIPCFG_EN n) = 0 ∨ l.trip.input.testBit n then l
  else
    let l := { l with trip := { l.trip with input := l.trip.input ||| 2 ^ n } }
    if l.blankOpen n then { l with trip := { l.trip with blanked := l.trip.blanked ||| 2 ^ n } } else l.tripAct n

/-- A mask without one bit. -/
def dropBit (m n : Nat) : Nat := if m.testBit n then m - 2 ^ n else m

/-- Whether a trip's source stands active, after the filter of an external one: A_TRIPn at the level that POL names for FILT CLK_PWM cycles
(R129, R130, Table 3.6). -/
def Lane.tripStands (l : Lane) (n : Nat) : Bool :=
  if n < 4 then
    match l.trip.pins[n]? with
    | some (some (high, t)) => decide (high = l.on (MOD_TRIPCFG_POL n)) && decide (t + 4 * l.rd (MOD_TRIPCFG_FILT n) ≤ l.now)
    | _ => false
  else l.trip.raw.testBit n

/-- A trip's source changes: a pin to a level that it has had for `cyc` CLK_PWM cycles, or an internal one to active or inactive. -/
def Lane.tripSource (l : Lane) (n : Nat) (high : Bool) (cyc : Nat) : Lane :=
  if n < 4 then { l with trip := { l.trip with pins := l.trip.pins.set n (some (high, l.now - 4 * cyc)) } }
  else { l with trip := { l.trip with raw := if high then l.trip.raw ||| 2 ^ n else dropBit l.trip.raw n } }

/-- The source of a trip has become active; a pulse shorter than the filter has no effect (R130). -/
def Lane.tripOnset (l : Lane) (n : Nat) (high : Bool) (cyc : Nat) : Lane :=
  let l := l.tripSource n (decide (4 ≤ n) || high) cyc
  l.when (l.tripStands n) (fun l => l.tripEnter n)

/-- A trip input is inactive: it drives nothing, and no window holds it back. -/
def Lane.tripIdle (l : Lane) (n : Nat) : Lane :=
  let l := { l with trip := { l.trip with input := dropBit l.trip.input n, blanked := dropBit l.trip.blanked n } }
  l.wr MOD_TRIPSTAT_ACTIVE (dropBit (l.rd MOD_TRIPSTAT_ACTIVE) n)

/-- The trips as their sources stand when the modulator takes part again, or when the configuration comes into force: an input whose source is
inactive by then ends, and one whose source is active enters (R129). -/
def Lane.tripsStanding (l : Lane) : Lane :=
  let l := l.each ((List.range 8).filter (fun n => l.trip.input.testBit n && !l.tripStands n)) Lane.tripIdle
  l.each ((List.range 8).filter l.tripStands) Lane.tripEnter

/-- A source becomes inactive while the modulator takes no part: the level of a pin is then not told. -/
def Lane.tripGone (l : Lane) (n : Nat) : Lane :=
  if n < 4 then { l with trip := { l.trip with pins := l.trip.pins.set n none } } else l.tripSource n false 0

/-- A trip input becomes inactive; a pulse that ends within its window is only counted (R132). -/
def Lane.tripOff (l : Lane) (n : Nat) : Lane :=
  let l := l.tripSource n (decide (n < 4) && !l.on (MOD_TRIPCFG_POL n)) 0
  (if l.trip.blanked.testBit n then l.bump ⟨MOD_BLANKCNT_CNT0.addr, 4 * n, 4⟩ else l).tripIdle n

/-- The switches of an axis that exceed the overcurrent threshold are marked in the die (R195). -/
def Lane.ocMark (l : Lane) (n : Nat) (sw : Nat) : Lane :=
  if n = 4 ∧ l.part.hasAxis .x0 then l.wr (GD_TRIPSTAT_OC .x0) (l.rd (GD_TRIPSTAT_OC .x0) ||| sw)
  else if n = 5 ∧ l.part.hasAxis .x1 then l.wr (GD_TRIPSTAT_OC .x1) (l.rd (GD_TRIPSTAT_OC .x1) ||| sw) else l

/-- What a trip's source does while the modulator takes no part: its level stands, and the die marks the switches. -/
def Lane.tripAway (l : Lane) (n : Nat) (p : TripPulse) : Lane :=
  (l.ocMark n p.sw.toNat).tripSource n (decide (4 ≤ n) || p.high) p.cyc.toNat

/-- The overcurrent comparator of an axis trips for some of its switches (R195). -/
def Lane.ocOnset (l : Lane) (n : Nat) (sw : Nat) (high : Bool) (cyc : Nat) : Lane := (l.ocMark n sw).tripOnset n high cyc

/-- The gate that a blanking timer watches rises: its window opens or restarts (R131). -/
def Lane.auxStart (l : Lane) (k : Nat) : Lane :=
  if l.on (MOD_AUXCFG_EN k) then { l with trip := l.trip.setAux k (some (l.now + 4 * l.rd (MOD_AUXCFG_LEN k))) } else l

/-- A window ends: a trip that is still active acts (R132). -/
def Lane.auxEnd (l : Lane) (k : Nat) : Lane :=
  match l.trip.aux k with
  | some t =>
    if l.due t then
      let l := { l with trip := l.trip.setAux k none }
      l.each ((List.range 8).filter (fun n => l.trip.blanked.testBit n && decide (l.rd (MOD_TRIPCFG_BLANK n) = k + 1)))
        (fun l n => { l with trip := { l.trip with blanked := dropBit l.trip.blanked n } }.tripAct n)
    else l
  | none => l

/-! ### Releases (R137) -/

/-- MOD_TRIPCLR: a clear written while the trip is active is ignored. -/
def Lane.tripClr (l : Lane) (m : Nat) : Lane :=
  let ok := (List.range 8).filter (fun n => m.testBit n && !(l.rd MOD_TRIPSTAT_ACTIVE).testBit n)
  { l with trip := { l.trip with release := ok.foldl (fun a n => a ||| 2 ^ n) l.trip.release } }

/-- The accepted releases act at the next valley reload: an inactive trip's latch clears, an active one's release is withdrawn. -/
def Lane.releaseTrips (l : Lane) : Lane :=
  let go := (List.range 8).filter (fun n => l.trip.release.testBit n && !(l.rd MOD_TRIPSTAT_ACTIVE).testBit n)
  let was := l.rd MOD_TRIPSTAT_LATCHED
  let new := go.foldl dropBit was
  let l := { l with trip := { l.trip with release := 0 } }
  let l := l.wr MOD_TRIPSTAT_LATCHED new
  if was ≠ 0 ∧ new = 0 then l.clr MOD_TRIPFIRST_VALID else l

/-- Whether a routed trip still holds a group: for HOLD an active one, for a latched action an active or latched one. -/
def Lane.groupBusy (l : Lane) (k : Nat) : Bool :=
  (List.range 8).any (fun n => l.routed n k &&
    ((l.rd MOD_TRIPSTAT_ACTIVE).testBit n || (decide (l.grpCode k ≠ 1) && (l.rd MOD_TRIPSTAT_LATCHED).testBit n)))

/-- A group's action ends at a valley reload. -/
def Lane.groupEnd (l : Lane) (k : Nat) : Lane :=
  if l.grpCode k = 0 ∨ l.groupBusy k then l
  else
    let c := l.grpCode k
    let l := l.setGrpCode k 0
    match groupAxis k with
    | some x => if 3 ≤ c then { l with trip := l.trip.setAsc x 0 } else l
    | none => l

/-- The trips at a valley reload of an axis: CHOP follows the valleys of axis 0 (R137). -/
def Lane.tripValley (l : Lane) (x : Ax) : Lane :=
  let l := l.releaseTrips
  let g := axGroup x
  let l := l.each ([g, g + 1, g + 2] ++ (if x = .x0 then [6] else [])) Lane.groupEnd
  l.leSettle x

/-! ### The DC link and the chopper (R209 to R212) -/

/-- Whether the chopper may turn on: enabled, without a latched fault, and not held by a trip. -/
def Lane.chopMay (l : Lane) : Bool := l.dieOn DL_CFG_EN && !l.on DL_STAT_CHFAULT && decide (l.grpCode 6 = 0)

/-- The chopper period, in root periods. -/
def Lane.chopPer (l : Lane) : Nat := l.dieRd DL_CHPER_US * usec

/-- A chopper period starts with its on-pulse, whose length is clamp(DUTY × PER, 2.5 µs, ENVDUTY × PER) (R210); the first turn-on after
OV1 starts the 2 µs watch (R211). -/
def Lane.chopPulse (l : Lane) : Lane :=
  let want := Nat.max (l.dieRd DL_DUTY * l.chopPer) (4000 * 32768)
  let cap := l.dieRd DL_ENVDUTY * l.chopPer
  let cut := decide (cap < want)
  let on := (if cut then cap else want) / 32768
  let l := { l with dl := { l.dl with perAt := l.now, onEnd := l.now + on } }
  if l.chopMay then
    let l := if l.dl.first then { l with dl := { l.dl with first := false, watch := some (l.now + 2 * usec) } } else l
    let l := (l.set DL_STAT_CHON).put DL_STAT_CLAMP cut
    if cut then
      let l := l.bump DL_CNT_CLAMP
      (l.raiseOnce srcDL 4 clsCE none (l.dataOf DL_CNT_CLAMP.addr)).event 187
    else l
  else l

/-- OV1 asserts: the first on-pulse starts (R209, R210). -/
def Lane.ov1Assert (l : Lane) : Lane :=
  if l.dieRd DL_OV_OV1 = 0 ∨ l.on DL_STAT_OV1 then l
  else
    let l := (l.set DL_STAT_OV1).bump DL_CNT_OV1
    let l := (l.raiseOnce srcDL 1 clsCE none (l.dataOf DL_STAT_OV1.addr)).event 184
    let l := { l with dl := { l.dl with first := true } }
    if l.dieOn DL_CFG_EN then l.chopPulse else l

/-- OV1 releases: chopping stops. -/
def Lane.ov1Release (l : Lane) : Lane := (l.clr DL_STAT_OV1).clr DL_STAT_CHON

/-- OV2 asserts trip 6, and a routed axis that the die holds off goes to ASC (R212). -/
def Lane.ov2Assert (l : Lane) : Lane :=
  if l.dieRd DL_OV_OV2 = 0 ∨ l.on DL_STAT_OV2 then l
  else
    let l := (l.set DL_STAT_OV2).bump DL_CNT_OV2
    let l := (l.raise srcDL 3 clsUC none (l.dataOf DL_STAT_OV2.addr)).event 185
    (l.tripOnset 6 true 0).each l.axes Lane.gateSettle

/-- OV2 releases, and trip 6 with it. -/
def Lane.ov2Release (l : Lane) : Lane := if l.on DL_STAT_OV2 then (l.clr DL_STAT_OV2).tripOff 6 else l

/-- A chopper period begins, while OV1 is asserted (R210). -/
def Lane.chopPeriod (l : Lane) : Lane :=
  if l.on DL_STAT_OV1 ∧ l.dieOn DL_CFG_EN ∧ l.rd DL_STAT_CHFAULT = 0 ∧ l.due (l.dl.perAt + l.chopPer) then l.chopPulse else l

/-- The on-time ends (R210). -/
def Lane.chopOnEnd (l : Lane) : Lane := if l.due l.dl.onEnd then l.clr DL_STAT_CHON else l

/-- A chopper fault (R211). -/
def Lane.chopFault (l : Lane) : Lane :=
  let l := (l.clr DL_STAT_CHON).set DL_STAT_CHFAULT
  let l := { l with dl := { l.dl with watch := none } }
  let l := (l.raise srcDL 2 clsUC none (l.dataOf DL_STAT_CHFAULT.addr)).event 186
  l.tripOnset 7 true 0

/-- The 2 µs watch ends: no current is a fault, a crossing in the expiry cycle counts as arrived (R211, R13). -/
def Lane.chopWatch (l : Lane) (seen : Arrival) : Lane :=
  match l.dl.watch with
  | some t =>
    if l.due t then
      let l := { l with dl := { l.dl with watch := none } }
      match seen with
      | .before => l
      | .inExpiry => l.set DL_STAT_LATE
      | .never => (l.set DL_STAT_NOCUR).chopFault
    else l
  | none => l

/-- The chopper current exceeds CHOC (R211). -/
def Lane.chopOver (l : Lane) : Lane := (l.set DL_STAT_CHOCF).chopFault

/-- DL_CTL.CHCLR; a release written while OV1 is asserted is ignored (R211). -/
def Lane.chopClr (l : Lane) : Lane :=
  if l.on DL_STAT_OV1 ∨ l.rd DL_STAT_CHFAULT = 0 then l else (l.clr DL_STAT_CHFAULT).tripOff 7

/-- A read of MOD_BLANKCNT returns the counts and clears them. -/
def Lane.blankRead (l : Lane) : Lane :=
  let v := l.reg MOD_BLANKCNT_CNT0.addr
  { l with rdata := v, busErr := false }.setReg MOD_BLANKCNT_CNT0.addr 0#64

/-! ### The meanings -/

def execTripOnset (i : LaneId) (n : Fin 8) (p : TripPulse) (s : State) : Host.Outcome State Fault Refusal :=
  s.actPin i (fun l => l.clocks && l.domOn (.pg .x0)) (fun l => l.tripAway n p)
    (fun l => l.ocOnset n p.sw.toNat p.high p.cyc.toNat)
def execTripInputInactive (i : LaneId) (n : Fin 8) (s : State) : Host.Outcome State Fault Refusal :=
  s.actPin i (fun l => l.clocks && l.domOn (.pg .x0)) (fun l => l.tripGone n) (fun l => l.tripOff n)
def execAuxWindowStart (i : LaneId) (k : Fin 4) (s : State) : Host.Outcome State Fault Refusal :=
  s.actD i (.pg .x0) (fun l => l.auxStart k)
def execAuxWindowEnd (i : LaneId) (k : Fin 4) (s : State) : Host.Outcome State Fault Refusal :=
  s.actD i (.pg .x0) (fun l => l.auxEnd k)
def execModTripclr (i : LaneId) (m : BitVec 8) (s : State) : Host.Outcome State Fault Refusal :=
  s.accD i (.pg .x0) (bitAcc MOD_TRIPCLR_REL.addr m.toNat) (fun l => l.tripClr m.toNat)
def execBlankcntRead (i : LaneId) (s : State) : Host.Outcome State Fault Refusal :=
  s.accD i (.pg .x0) ⟨MOD_BLANKCNT_CNT0.addr, 4, none⟩ Lane.blankRead
def execOv1Assert (i : LaneId) (s : State) : Host.Outcome State Fault Refusal := s.actDie i Lane.ov1Assert
def execOv1Release (i : LaneId) (s : State) : Host.Outcome State Fault Refusal := s.actDie i Lane.ov1Release
def execOv2Assert (i : LaneId) (s : State) : Host.Outcome State Fault Refusal := s.actDie i Lane.ov2Assert
def execOv2Release (i : LaneId) (s : State) : Host.Outcome State Fault Refusal := s.actDie i Lane.ov2Release
def execChopperPeriod (i : LaneId) (s : State) : Host.Outcome State Fault Refusal := s.actDie i Lane.chopPeriod
def execChopperOnEnd (i : LaneId) (s : State) : Host.Outcome State Fault Refusal := s.actDie i Lane.chopOnEnd
def execChopperWatchExpiry (i : LaneId) (seen : Arrival) (s : State) : Host.Outcome State Fault Refusal :=
  s.actDie i (fun l => l.chopWatch seen)
def execChopperOvercurrent (i : LaneId) (s : State) : Host.Outcome State Fault Refusal := s.actDie i Lane.chopOver
def execDlChclr (i : LaneId) (s : State) : Host.Outcome State Fault Refusal := s.act i Lane.chopClr
def execDlCntclr (i : LaneId) (s : State) : Host.Outcome State Fault Refusal := s.act i (fun l => l.setReg DL_CNT_OV1.addr 0#64)

end Sys2Proof.Machine
end

