-- ==== Sys2Proof/Machine/Power.lean ====
section
/-!
DEFINITION. Power domains, sleep and wake, the Whistle and the clocks (spec/13_power_clocks_wake.md R446 to R466).
-/

namespace Sys2Proof.Machine

/-! ### Domains (R446 to R450) -/

/-- PD_STAT.STATE with one domain's field replaced. -/
def Lane.setDom (l : Lane) (d v : Nat) : Lane :=
  let s := l.rd PD_STAT_STATE
  l.wr PD_STAT_STATE (s - s / 4 ^ d % 4 * 4 ^ d + v * 4 ^ d)

/-- The time of Table 13.1 for a domain to leave ON. -/
def downTime : Nat → Nat
  | 0 => 4 * usec
  | 5 => 2 * usec
  | 6 => 2 * usec
  | _ => 1 * usec

/-- The time of Table 13.1 for a domain to return to ON, from RETAIN or from OFF. -/
def upTime (off : Bool) : Nat → Nat
  | 0 => 6 * usec
  | 5 => if off then 60 * usec else 5 * usec
  | 6 => if off then 200 * usec else 10 * usec
  | _ => if off then 25 * usec else 2 * usec

/-- The move of a domain under way. -/
def Lane.moveOf (l : Lane) (d : Nat) : Option DomMove := l.pw.moves.find? (fun m => m.dom = d)

/-- With NW down, all Crelas ports are down (R450). -/
def Lane.portsDown (l : Lane) : Lane := l.each (List.range 4) (fun l p => l.linkChange p false)

/-- SC_TICK stops while CP is not ON (R454). -/
def Lane.tickStop (l : Lane) : Lane :=
  let l := l.energyAccount
  { l with sc := { l.sc with tick0 := l.scTick, tickRun := false } }

/-- A domain starts towards a state. -/
def Lane.domStart (l : Lane) (d target : Nat) : Lane :=
  let go := fun (l : Lane) (off : Bool) =>
    let due := l.now + (if target = 0 then upTime off d else downTime d)
    let l := if d = 0 ∧ target ≠ 0 then l.tickStop else l
    let l := if d = 6 ∧ target ≠ 0 then l.portsDown else l
    ({ l with pw := { l.pw with moves := l.pw.moves.filter (fun (m : DomMove) => m.dom ≠ d) ++ [(⟨d, target, due⟩ : DomMove)] } }).setDom d 3
  match l.moveOf d with
  | some m => if m.target = target then l else go l (m.target = 2)
  | none => if l.domState d = target then l else go l (l.domState d = 2)

/-- A register of a domain that goes OFF keeps its RL fields only (R446). -/
def lostValue (a : Nat) (v : Word) : Word :=
  match descOf a with
  | some d => mergeBits (resetReg a) (d.bits (fun c => c = .rl)) v.toNat
  | none => resetReg a

/-- The registers and windows between two addresses lose their contents. -/
def Lane.lose (l : Lane) (lo hi : Nat) : Lane :=
  let kept := l.regs.filter (fun p => decide (p.1 < lo) || decide (hi ≤ p.1))
  let lost := l.regs.filter (fun p => decide (lo ≤ p.1) && decide (p.1 < hi))
  let l := { l with regs := kept, mem := l.mem.filter (fun p => decide (p.1 < lo) || decide (hi ≤ p.1)) }
  l.each lost (fun l p => l.setReg p.1 (lostValue p.1 p.2))

/-- What a domain loses when it goes OFF (R446, Table 13.1; log entry 41). -/
def Lane.domLose (l : Lane) (d : Nat) : Lane :=
  let le := fun (l : Lane) (x : Ax) =>
    let l := (l.lose (0xF01000000 + x.off) (0xF01010000 + x.off)).lose (0xF01020000 + x.off) (0xF01030000 + x.off)
    let l := l.lose (0xF01080000 + x.off) (0xF010B0000 + x.off)
    l.setAx x { l.ax x with le := {}, tq := {} }
  let pg := fun (l : Lane) (x : Ax) =>
    let l := l.lose (0xF01010000 + x.off) (0xF01020000 + x.off)
    let l := if x = .x0 then { l with trip := { pins := l.trip.pins, raw := l.trip.raw } } else l
    l.setAx x { l.ax x with md := {} }
  match d with
  | 1 => le l .x0
  | 2 => le l .x1
  | 3 => pg l .x0
  | 4 => pg l .x1
  | 5 =>
    let l := (l.energyAccount.lose 0xF000F0000 0xF00100000).each [Ax.x0, Ax.x1] (fun l x =>
      let l := l.lose (0xF01040000 + x.off) (0xF01060000 + x.off)
      l.setAx x { l.ax x with fb := { raw := (l.ax x).fb.raw }, ad := {} })
    { l with mon := {}, sf := {}, saf := l.saf.afterReset }
  | 6 =>
    let l := l.lose 0xF000B0000 0xF000D0000
    let t := l.tt
    ({ l with tt := { nt0 := t.nt0, ntAt := t.ntAt, ntRun := t.ntRun, add := t.add, wasSync := t.wasSync }, cn := {} }).ttQuality
  | _ => l

/-- The accepted request of a domain. -/
def Lane.domWant (l : Lane) (d : Nat) : Nat := l.pw.want / 4 ^ d % 4

/-- The accepted request of a domain is replaced. -/
def Lane.setWant (l : Lane) (d v : Nat) : Lane :=
  { l with pw := { l.pw with want := l.pw.want - l.domWant d * 4 ^ d + v * 4 ^ d } }

/-- A domain heads for what has been requested of it; from OFF it reaches RETAIN by way of ON. -/
def Lane.domFollow (l : Lane) (d : Nat) : Lane :=
  if l.pw.step ≠ .awake ∨ (l.moveOf d).isSome then l
  else
    let w := l.domWant d
    l.domStart d (if w = 1 ∧ l.domState d = 2 then 0 else w)

/-- A request for a domain, which the PD block carries out or refuses (R449). -/
def Lane.domRequested (l : Lane) (d w : Nat) : Lane :=
  if w ≠ 0 ∧ l.domainAllowed d = false then
    let l := (l.setWant d 0).set PD_STAT_REFUSED
    let l := l.raiseOnce srcPD 1 clsCE none (l.dataOf PD_STAT_STATE.addr)
    (l.event 161).domFollow d
  else (l.setWant d w).domFollow d

/-- A domain returns to ON where its permission has ended (R449). -/
def Lane.domPermission (l : Lane) : Lane :=
  if l.pw.step ≠ .awake then l
  else l.each [1, 2, 3, 4, 5, 6] (fun l d => if l.domWant d ≠ 0 ∧ l.domainAllowed d = false then (l.setWant d 0).domFollow d else l)

/-- The scheduler's requests reach the PD block (R448). -/
def Lane.domScheduler (l : Lane) : Lane :=
  l.each [1, 2, 3, 4, 5, 6] (fun l d =>
    if (l.rd SC_PDAUTO_DOM).testBit d then
      let w := l.rd SC_PDREQ_DOM / 4 ^ d % 4
      if w = l.domWant d then l else l.domRequested d w
    else l)

/-- A write of PD_REQ writes the field of every domain, and each is a request: that of a domain in SC_PDAUTO is ignored and sets REQREJ (R448); the
code 0b11 leaves a field as it is, and so does a request of CP other than ON (log entry 42). -/
def Lane.pdReqWrite (l : Lane) (v : Nat) : Lane :=
  l.each (List.range 7) (fun l d =>
    let w := v / 4 ^ d % 4
    let q := l.rd PD_REQ_DOM
    if (l.rd SC_PDAUTO_DOM).testBit d then l.set PD_STAT_REQREJ
    else if w = 3 ∨ (d = 0 ∧ w ≠ 0) then l
    else (l.wr PD_REQ_DOM (q - q / 4 ^ d % 4 * 4 ^ d + w * 4 ^ d)).domRequested d w)

/-! ### The LPO (R459, R466; its nominal rate is that of log entry 16) -/

/-- WK_SLOW: LPO cycles of 976.5625 ns, counted from the power-up of AO (R459). -/
def Lane.slow (l : Lane) : Nat := l.now * 2 / 3125

/-- One LPO cycle, in whole root periods. -/
def lpoCycle : Nat := 1563

/-- The spacing of the frequency checks, 1,024 LPO cycles (R466). -/
def freqStep : Nat := 1600000

/-! ### Sleep entry (R451 to R454) -/

/-- A sleep request is ignored (R451). -/
def Lane.sleepRejected (l : Lane) : Lane :=
  let l := l.set PD_STAT_SLPREJ
  l.raise srcPD 3 clsCE none (l.dataOf PD_STAT_STATE.addr)

/-- Whether a dump context or a transfer of the dump engine runs (R451). -/
def Lane.dumpRuns (l : Lane) : Bool :=
  l.fc.dcxDue || l.fc.deDue || decide (l.pc.core = .dump) || decide (l.fc.tx ≠ .idle) || l.fc.rx0.busy || l.fc.rx1.busy

/-- The target of a domain in sleep (Table 13.2). -/
def Lane.sleepTarget (l : Lane) (d : Nat) : Nat := l.rd PD_SLPCFG_DOM / 4 ^ d % 4

/-- The conditions of R451. -/
def Lane.maySleep (l : Lane) : Bool :=
  decide (l.mode = mSafeHold) && !l.dumpRuns && [1, 2, 3, 4, 5, 6].all (fun d => l.domainAllowed d) &&
  (l.on WK_CFG_WHW || l.on WK_CFG_ALW || l.on WK_CFG_SAFW)

/-- A step of the entry begins. -/
def Lane.sleepStep (l : Lane) (p : SleepStep) : Lane := { l with pw := { l.pw with step := p } }

/-- Step 4 ends when every domain is where PD_SLPCFG puts it; step 5 follows. -/
def Lane.sleepDomains (l : Lane) : Lane :=
  if l.pw.step = .domains ∧ l.pw.moves = [] then l.sleepStep (.keepAlive (l.now + lpoCycle)) else l

/-- Steps 3 and 4. -/
def Lane.sleepDown (l : Lane) : Lane :=
  let l := (l.wr WK_TSLEEP l.ntime).wr WK_SLOWS l.slow
  let l := { l with pw := { l.pw with tq0 := decide (l.rd TT_STAT_TQ = 0), step := .domains } }
  (l.each [6, 5, 3, 4, 1, 2] (fun l d => l.domStart d (l.sleepTarget d))).sleepDomains

/-- The keep-alive is back with CLK_PER, and every domain but CP returns to the state it held at t_r, together (R453, R456). -/
def Lane.sleepBack (l : Lane) : Lane :=
  ({ l with pw := { l.pw with step := .awake, kaAo := false } }).each [1, 2, 3, 4, 5, 6] (fun l d => l.domStart d (l.pw.back / 4 ^ d % 4))

/-- The entry ends without sleep: its steps are undone in reverse order, CP first where its step has begun (R453). -/
def Lane.sleepUndo (l : Lane) : Lane :=
  let cpDown := match l.pw.step with
    | .cp => true
    | .stop _ => true
    | _ => false
  let l := { l with pw := { l.pw with cal := l.pw.cal && decide (l.pw.step ≠ SleepStep.calib) } }
  let l := (l.clr PD_STAT_ENTRY).bump WK_CNT_ABORT
  if cpDown then (l.sleepStep .cpUp).domStart 0 0 else l.sleepBack

/-- The state of every domain as a sleep request finds it, two bits each: of one in transition, the state it is on its way to (log entry 35). -/
def Lane.domHeld (l : Lane) : Nat :=
  (List.range 7).foldl (fun a d => a + (match l.moveOf d with | some m => m.target | none => l.domState d) * 4 ^ d) 0

/-- A wake event during entry (R453). -/
def Lane.sleepAbort (l : Lane) (cause : Nat) : Lane :=
  let l := (l.sleepUndo.set WK_STAT_SLPABORT).wr WK_STAT_CAUSE cause
  (l.raise srcWK 1 clsCE none cause).event 169

/-- A wake event (R453, R455, R456). -/
def Lane.wake (l : Lane) (cause : Nat) : Lane :=
  let exit := fun (l : Lane) => (({ l with pw := { l.pw with step := .lock } }).wr WK_STAT_CAUSE cause).clr PD_STAT_ENTRY
  match l.pw.step with
  | .awake => { l with pw := { l.pw with wakeAt := some (l.now, cause) } }
  | .stop due => if l.now + usec < due + cycPer then l.sleepAbort cause else exit l
  | .asleep => exit l
  | .lock => l
  | .cpUp => l
  | _ => l.sleepAbort cause

/-- The slow alarm is reached; with its enable it is a wake event (R455). -/
def Lane.slowAlarm (l : Lane) : Lane :=
  let l := ({ l with pw := { l.pw with alarm := false } }).event 168
  if l.on WK_CFG_ALW then l.wake 2 else l

/-- A released sleep request (R451, R452): a wake event in the same cycle, or a slow alarm in the past, aborts the entry at once (R453). -/
def Lane.sleep (l : Lane) : Lane :=
  if l.pw.step ≠ .awake then l
  else if l.maySleep then
    let l := ({ l with pw := { l.pw with step := .calib, cal := true, back := l.domHeld } }).set PD_STAT_ENTRY
    match l.pw.wakeAt with
    | some (t, c) =>
      if l.now / cycPer = t / cycPer then l.sleepAbort c
      else if l.on WK_CFG_ALW ∧ l.rd WK_ALARM ≤ l.slow then l.slowAlarm else l
    | none => if l.on WK_CFG_ALW ∧ l.rd WK_ALARM ≤ l.slow then l.slowAlarm else l
  else l.sleepRejected

/-- What a domain that returns to ON finds: the levels of its pins as they stand, and the gates of its axis. -/
def Lane.domUp (l : Lane) (d : Nat) : Lane :=
  match d with
  | 1 => l.leSettle .x0
  | 2 => l.leSettle .x1
  | 3 => l.tripsStanding
  | 5 => (l.each l.axes Lane.hallsStanding).each ((List.range 4).filter (fun n => !l.injecting n)) Lane.safLevels
  | _ => l

/-- A domain reaches its state (R447). -/
def Lane.domDone (l : Lane) (d : Nat) : Lane :=
  match l.moveOf d with
  | none => l
  | some m =>
    let l := { l with pw := { l.pw with moves := l.pw.moves.filter (fun k => k.dom ≠ d) } }
    let l := (l.setDom d m.target).event 160
    let l := if m.target = 2 then l.domLose d else if m.target = 0 then l.domUp d else l
    if d = 0 then
      if m.target = 0 then
        let l := { l with sc := { l.sc with tickAt := l.now, binAt := l.now, tickRun := true } }
        if l.pw.step = .cpUp then l.sleepBack else l
      else l.sleepStep (.stop (l.now + usec))
    else if l.pw.step = .domains then l.sleepDomains
    else l.domFollow d

/-- From step 5 until the PLL locks, the AO generator sends a keep-alive in each LPO cycle (R454). -/
def Lane.aoTick (l : Lane) : Lane := if l.pw.kaAo ∧ l.slow ≠ (l.now - 1) * 2 / 3125 then l.keepAlive else l

/-- What the passing of time does to domains and to the sleep entry: a transition ends at its limit at the latest, the keep-alive moves to
the AO generator, the PLL stops (R447, Table 13.2). -/
def Lane.pwTick (l : Lane) : Lane :=
  let l := l.each (l.pw.moves.filter (fun m => l.due m.due)) (fun l m => l.domDone m.dom)
  match l.pw.step with
  | .keepAlive t => if l.due t then ({ l with pw := { l.pw with step := .cp, kaAo := true } }).domStart 0 1 else l
  | .stop t =>
    if l.due t then
      let l := l.ntRebase
      (({ l with pw := { l.pw with step := .asleep }, tt := { l.tt with ntRun := false } }).clr PD_STAT_ENTRY).clr CK_STAT_LOCK
    else l
  | _ => l

/-! ### The wake exit (R456, R460) -/

/-- The elapsed time across sleep, in ns (R460). -/
def sleepSpan (n cnt : Nat) : Nat := n * cnt * 10 / 8192

/-- The PLL locks after a wake event. -/
def Lane.wakeLock (l : Lane) : Lane :=
  let dt := sleepSpan (l.slow - l.rd WK_SLOWS) (l.rd CK_LPOCAL_CNT)
  let nt := l.rd WK_TSLEEP + dt
  let l := { l with pw := { l.pw with step := .cpUp, kaAo := false }
                    tt := { l.tt with nt0 := nt * ntUnit, ntAt := l.now, ntRun := true }
                    sc := { l.sc with tick0 := l.sc.tick0 + dt / 1000 } }
  let l := ((l.set CK_STAT_LOCK).wr WK_TWAKE nt).setSync (if l.pw.tq0 then ssHold else ssUnsync)
  let l := l.ttQuality.domStart 0 0
  (l.raise srcWK 3 clsCE none (l.rd WK_STAT_CAUSE + 256 * l.rd WK_STAT_LASTCMD)).event 169

/-! ### The Whistle (R457, R458) -/

/-- The number that bits spell, most significant first. -/
def bitsNat (b : List Bool) : Nat := b.foldl (fun a c => 2 * a + (if c then 1 else 0)) 0

/-- The bits of a frame, if it carries no illegal code. -/
def whistleBits : List WhistlePulse → Option (List Bool)
  | [] => some []
  | .illegal :: _ => none
  | .bit b :: r => (whistleBits r).map (b :: ·)

/-- The command i of WK_WCMD. -/
def Lane.whistleCmd (l : Lane) : Nat → Nat
  | 0 => l.rd WK_WCMD_CMD0
  | 1 => l.rd WK_WCMD_CMD1
  | 2 => l.rd WK_WCMD_CMD2
  | _ => l.rd WK_WCMD_CMD3

/-- A frame is discarded. -/
def Lane.whistleBad (l : Lane) : Lane :=
  let l := (l.set WK_STAT_BADW).bump WK_CNT_BADW
  l.raiseOnce srcWK 2 clsCE none (l.dataOf WK_CNT_BADW.addr)

/-- A whole frame: it matches, or it is for another lane. -/
def Lane.whistleWhole (l : Lane) (addr cmd : Nat) : Lane :=
  if addr = l.rd WK_CFG_WADDR ∧ [0, 1, 2, 3].any (fun k => (l.rd WK_CFG_CMDEN).testBit k && decide (l.whistleCmd k = cmd)) then
    let l := ((l.wr WK_STAT_LASTCMD cmd).bump WK_CNT_MATCH).event 167
    if l.on WK_CFG_WHW then l.wake 1 else l
  else l

/-- The pulses between two idles, if any (R457, R458). -/
def Lane.whistle (l : Lane) (f : List WhistlePulse) : Lane :=
  if f = [] then l
  else match whistleBits f with
  | some b => if b.length = 24 then l.whistleWhole (bitsNat (b.take 16)) (bitsNat (b.drop 16)) else l.whistleBad
  | none => l.whistleBad

/-! ### Clocks (R459, R464 to R466) -/

/-- The core voltage that a divisor needs, in mV, by its code (R464). -/
def divMv : Nat → Nat
  | 1 => 750
  | 2 => 710
  | _ => 660

/-- A change of the CLK_CPU divisor, refused where PM_VACK holds too little (R464). -/
def Lane.setDiv (l : Lane) (d : Nat) : Lane :=
  if l.rd CK_STAT_DIV = d then l
  else if l.rd PM_VACK_MV < divMv d then
    ((l.set CK_STAT_DIVREJ).raise srcCK 3 clsCE none (l.rd PM_VACK_MV)).event 162
  else (l.wr CK_STAT_DIV d).event 162

/-- CK_CTL.DIVGO, in SERVICE only (R464); the code 0 names no divisor. -/
def Lane.divGo (l : Lane) (d : Nat) : Lane := if l.mode = mService ∧ d ≠ 0 then l.setDiv d else l

/-- A DIVGO that a commit has released takes effect at its step 7 (R464). -/
def Lane.divApply (l : Lane) : Lane :=
  match l.pw.divReq with
  | some d => ({ l with pw := { l.pw with divReq := none } }).divGo d
  | none => l

/-- A calibration starts (R459). -/
def Lane.calGo (l : Lane) : Lane := { l with pw := { l.pw with cal := true } }

/-- Whether a calibration count passes (R459). -/
def calOk (n : Nat) : Bool := Nat.ble 792000 n && Nat.ble n 808000

/-- A calibration passes; in a sleep entry the domains go down next (R459). -/
def Lane.calPass (l : Lane) (n : Nat) : Lane :=
  let l := ((l.wr CK_LPOCAL_CNT n).set CK_STAT_CALV).event 163
  if l.pw.step = .calib then l.sleepDown else l

/-- A calibration fails; it aborts a sleep entry (R459). -/
def Lane.calFail (l : Lane) (n : Nat) : Lane :=
  let l := ((l.set CK_STAT_CALFAIL).raise srcCK 4 clsUC none n).event 163
  if l.pw.step = .calib then (l.sleepUndo.set PD_STAT_SLPREJ).event 169 else l

/-- A calibration ends (R459). -/
def Lane.calEnd (l : Lane) (n : Nat) : Lane :=
  if l.pw.cal then
    let l := { l with pw := { l.pw with cal := false } }
    if calOk n then l.calPass n else l.calFail n
  else l

/-- The root monitor declares root loss (R465): the clocks stand still, and the keep-alive stops unless AO sends it (R454). -/
def Lane.rootLoss (l : Lane) (det : Bool) : Lane :=
  if l.pw.rootLost ∨ l.rd CK_STAT_LOCK = 0 then l
  else
    let l := l.raise srcCK 1 clsFT none (if det then 1 else 0)
    let l := (l.ntRebase.tickStop).clr CK_STAT_LOCK
    { l with pw := { l.pw with rootLost := true, kaAo := false }, tt := { l.tt with ntRun := false } }

/-- The comparison of every 1,024 LPO cycles (R466). -/
def Lane.freqCheck (l : Lane) (n : Nat) : Lane :=
  if l.rd CK_STAT_LOCK = 0 ∨ !l.due (l.pw.freqAt + freqStep) then l
  else
    let l := ({ l with pw := { l.pw with freqAt := l.pw.freqAt + freqStep } }).wr CK_FCNT_CNT n
    let c := l.rd CK_LPOCAL_CNT
    if c < 50 * (8 * n - c) ∨ c < 50 * (c - 8 * n) then l.raise srcCK 2 clsFT none n else l

/-! ### AO while the lane is held in reset -/

/-- What an event in AO does to a lane: while the lane is held in reset, WK_STAT, WK_CNT and the alarm of AO change alone, and below 4.5 V
nothing (spec/17_package_electrical.md R567, R569). -/
def Lane.inAo (l : Lane) (f : Lane → Lane) : Lane :=
  if l.sy.held then
    if l.sy.dead then l
    else
      let d := f l
      let l := (l.setReg WK_STAT_TQ.addr (d.reg WK_STAT_TQ.addr)).setReg WK_CNT_MATCH.addr (d.reg WK_CNT_MATCH.addr)
      { l with pw := { l.pw with alarm := d.pw.alarm } }
  else f l

/-! ### The meanings -/

def execPdReqWrite (i : LaneId) (v : Word32) (s : State) : Host.Outcome State Fault Refusal := s.act i (fun l => l.pdReqWrite v.toNat)
def execDomainTransition (i : LaneId) (d : Fin 7) (s : State) : Host.Outcome State Fault Refusal := s.act i (fun l => l.domDone d)
def execSleep (i : LaneId) (s : State) : Host.Outcome State Fault Refusal := s.actD i .cp Lane.sleep
def execLpoCalibrationEnd (i : LaneId) (cnt : BitVec 20) (s : State) : Host.Outcome State Fault Refusal :=
  s.act i (fun l => l.calEnd cnt.toNat)
def execCkCalgo (i : LaneId) (s : State) : Host.Outcome State Fault Refusal := s.act i Lane.calGo
def execCkDivgo (i : LaneId) (div : BitVec 2) (s : State) : Host.Outcome State Fault Refusal := s.act i (fun l => l.divGo div.toNat)
def execRootLoss (i : LaneId) (lockDetector : Bool) (s : State) : Host.Outcome State Fault Refusal :=
  s.act i (fun l => l.rootLoss lockDetector)
def execFrequencyCheck (i : LaneId) (cnt : BitVec 20) (s : State) : Host.Outcome State Fault Refusal :=
  s.act i (fun l => l.freqCheck cnt.toNat)
def execWhistleFrame (i : LaneId) (pulses : List WhistlePulse) (s : State) : Host.Outcome State Fault Refusal :=
  s.actAo i (fun l => l.inAo (fun l => l.whistle pulses))
def execSlowAlarm (i : LaneId) (s : State) : Host.Outcome State Fault Refusal :=
  s.actAo i (fun l => l.inAo (fun l => if l.pw.alarm ∧ l.rd WK_ALARM ≤ l.slow then l.slowAlarm else l))
def execSafetyInputWake (i : LaneId) (n : Fin 4) (rail : Bool) (s : State) : Host.Outcome State Fault Refusal :=
  s.actAo i (fun l => l.inAo (fun l => if l.on WK_CFG_SAFW ∧ (l.rd WK_CFG_SAFEN).testBit (2 * n + rail.toNat) then l.wake 3 else l))
def execWkCntclr (i : LaneId) (s : State) : Host.Outcome State Fault Refusal := s.act i (fun l => l.setReg WK_CNT_MATCH.addr 0#64)

end Sys2Proof.Machine
end

