-- ==== Sys2Proof/Machine/Modes.lean ====
section
/-!
DEFINITION. Entering the lane modes (spec/01_lanes_modes_faults.md Table 1.2), the postures, resets, and BOOT (spec/16_start_up.md R530 to R534).
-/

namespace Sys2Proof.Machine

/-! ### Modes -/

/-- SY_MODE.OWN changes (R588 of 18_address_map). -/
def Lane.setMode (l : Lane) (m : Nat) : Lane :=
  if l.mode = m then l else ((l.wr SY_MODE_OWN m).showMode).event 8

/-- What follows a change of the own mode in the Guyline block. -/
def Lane.modeFollow (l : Lane) : Lane := (l.perAxis.glShares).tokenCheck

/-- Both axes of the lane are put into axis safe state, with a cause of Table 5.4. -/
def Lane.axesSafe (l : Lane) (cause : Nat) : Lane := l.each l.axes (fun l x => l.axisSafe x cause false)

/-- The lane enters SAFE-HOLD (Table 1.2); `ft` tells that an FT put it there. -/
def Lane.safeHold (l : Lane) (ft : Bool) : Lane :=
  let l := l.axesSafe (if ft then 4 else 5)
  if l.mode = mSafeHold then l
  else
    let l := l.gateDropAll
    let l := ((l.setMode mSafeHold).tokenLeave (!ft)).lantStop 1
    let auto := l.on SY_CFG_AUTORST && !l.on SY_MODE_ARUSED
    let l := { l with sy := { l.sy with reqHold := none, autoDue := auto, autoTick := false } }
    l.glShares

/-- The lane enters SERVICE (Table 1.2). -/
def Lane.enterService (l : Lane) : Lane :=
  let l := if l.mode = mSafeHold then l else l.gateDropAll
  let l := { l with sy := { l.sy with reqService := false, reqHold := none, autoDue := false } }
  ((l.setMode mService).tokenLeave true).glShares

/-! ### Postures (R25, R27, R28, R551) -/

/-- The posture fields of an axis. -/
def postureOf : Ax → Fld
  | .x0 => SY_POSTURE_AX0
  | .x1 => SY_POSTURE_AX1
def deliverOf : Ax → Fld
  | .x0 => SY_POSTURE_DLV0
  | .x1 => SY_POSTURE_DLV1

/-- The lanes that deliver torque on an axis, one bit each. -/
def Lane.deliverMask (l : Lane) (x : Ax) : Nat := if l.part.hasAxis x then l.laneMask (fun i => l.delivers i x) else 0

/-- How many lanes deliver torque on an axis. -/
def Lane.deliverCount (l : Lane) (x : Ax) : Nat :=
  if l.part.hasAxis x then (l.lanes.filter (fun i => l.delivers i x)).length else 0

/-- SY_POSTURE takes the counts as they stand. -/
def Lane.postureWrite (l : Lane) : Lane :=
  let l := (l.wr SY_POSTURE_CNT (l.laneMask l.isCounted)).wr SY_POSTURE_DEV (l.lanes.filter l.isCounted).length
  l.each [Ax.x0, .x1] (fun l x => (l.wr (deliverOf x) (l.deliverMask x)).wr (postureOf x) (l.deliverCount x))

/-- The three posture fields that software and the fault collector watch. -/
def Lane.postures (l : Lane) : Nat × Nat × Nat := (l.rd SY_POSTURE_DEV, l.rd SY_POSTURE_AX0, l.rd SY_POSTURE_AX1)

/-- The lane establishes its postures once it counts QUORUM lanes in OPERATE or DEGRADED (R551). -/
def Lane.establish (l : Lane) : Lane :=
  if l.on SF_ARMSTAT_ESTAB = false ∧ l.mode ≠ mBoot ∧ l.rd SF_ARMCFG_QUORUM ≤ (l.lanes.filter l.isCounted).length then
    (l.set SF_ARMSTAT_ESTAB).event 191
  else l

/-- An axis whose posture is HELD is held until the next BOOT (R28, R551). -/
def Lane.heldAxes (l : Lane) : Lane :=
  if l.on SF_ARMSTAT_ESTAB then
    l.each l.axes (fun l x => if l.deliverCount x = 0 ∧ l.axHeld x = false then l.holdAxis x else l)
  else l

/-- Both postures are evaluated (R25, R27); a change drives the event, and once established raises POSTURE (R551, R588 of 18_address_map). -/
def Lane.postureStep (l : Lane) : Lane :=
  let old := l.postures
  let l := (l.establish).postureWrite
  let l := if l.postures = old then l
    else (l.event 9).when (l.on SF_ARMSTAT_ESTAB) (fun l => l.raise srcSY 6 clsCE none 0)
  l.heldAxes

/-- A boundary tick ends an outer cycle: each kind may be raised once again (R51). -/
def Lane.newCycle (l : Lane) : Lane := { l with fc := { l.fc with ceDone := [] } }

/-! ### Resets -/

/-- The registers that a reset of every domain but AO leaves: those of domain AO and of the OTP. -/
def keptReg (a : Nat) : Bool :=
  a = SY_DEGUSED_MS.addr || a = PM_VACK_MV.addr || a = FC_DUMPSTAT_VALID.addr ||
  (decide (0xF00000110 ≤ a) && decide (a < 0xF00000130)) ||
  (decide (WK_STAT_TQ.addr ≤ a) && decide (a < 0xF00050000)) ||
  a = LC_KEYCFG_PROG0.addr || (decide (0xF000E0100 ≤ a) && decide (a < 0xF000E0180))

/-- Fields of registers that a reset of every domain but AO leaves: ARUSED, the life-cycle state, the latches of the driver die (R534) and
what it measures, and the levels of comparators and pins (log entry 43). -/
def keptFields : List Fld :=
  [SY_MODE_ARUSED, LC_STAT_STATE, PM_STAT_PGOOD, PM_STAT_ALERT, DL_STAT_OV1, DL_STAT_OV2, DL_STAT_CHON, DL_STAT_CHFAULT, DL_STAT_NOCUR,
   DL_STAT_CHOCF, DL_STAT_LATE, DL_STAT_CLAMP] ++
  [Ax.x0, Ax.x1].flatMap (fun x =>
    [GD_STAT_SAFE x, GD_STAT_SIDE x, GD_STAT_NOSAFE x, GD_STAT_CAUSE x, GD_STAT_OV2OVR x, GD_STAT_KALOSS x, GD_STAT_CPUV x, GD_TRIPSTAT_HS x, GD_CPMON_MV x])

/-- What a reset of the lane leaves of an axis: what the die holds, with the gates that were on noted as put off at the reset, and the levels
of the hall lines. -/
def Lane.afterReset (l : Lane) (x : Ax) : AxSt :=
  let g := ((l.gateMark x).ax x).gd
  { gd := { asc := g.asc, told := g.told, keptAt := g.keptAt, offAt := g.offAt, cmdOff := g.cmdOff }, fb := { raw := (l.ax x).fb.raw } }

/-- A reset of every domain except AO; the lane is held in reset (R530, spec/17_package_electrical.md R568). TCM loses its contents (log
entry 4), the Lantern is low (spec/09_fault_collection.md R593), and the die keeps its latches, its timers and its locked configuration. The
levels of the trip inputs stand. The reset drops the gate enable, and the die takes an axis in the routing of trip 6 that it now holds off to ASC
while OV2 is asserted (spec/05_gate_drive.md R212). -/
def Lane.coreReset (l : Lane) : Lane :=
  let r : Lane :=
    { me := l.me, part := l.part, now := l.now, regs := l.regs.filter (fun p => keptReg p.1)
      mem := l.mem.filter (fun p => inMram l.part p.1), tcmGen := l.tcmGen + 1, fresh := l.fresh, out := l.out
      sy := { boots := l.sy.boots, dead := l.sy.dead }, st := { swNext := l.st.swNext, born := l.st.born }, ao := l.ao
      im := { straps := l.im.straps }, pw := { alarm := l.pw.alarm }, dl := { l.dl with kaLost := false, cfg := l.dieCopy }
      trip := { pins := l.trip.pins, raw := l.trip.raw }
      saf := l.saf.afterReset
      sc := { tickAt := l.now }, tt := { ntAt := l.now }, ax0 := l.afterReset .x0, ax1 := l.afterReset .x1 }
  (r.each keptFields (fun r f => r.wr f (l.rd f))).ttQuality.dieOnly (fun d => d.each d.axes (fun d x => (d.ov2Check x).gateNote x))

/-- A flag of key slot k: 3 PROG, 2 REV, 1 IMG, 0 RTN. -/
def keyFlag (k f : Nat) : Fld := ⟨LC_KEYCFG_PROG0.addr, 4 * k + f, 1⟩

/-- What an OTP write leaves in the OTP (spec/14_self_test_lifecycle.md R478, R480). -/
def Lane.otpBurn (l : Lane) : OtpWrite → Lane
  | .state c => l.wr LC_STAT_STATE c
  | .program k img rtn hash =>
    let l := ((l.set (keyFlag k 3)).put (keyFlag k 1) img).put (keyFlag k 0) rtn
    l.each (List.range 4) (fun l n => l.wr (LC_KEYHASH k n) (beNat ((hash.drop (8 * n)).take 8)))
  | .revoke k => l.set (keyFlag k 2)

/-- An OTP write that a loss of power or a reset interrupts leaves what was there or what was to be written; which of the two is a free
value (spec/14_self_test_lifecycle.md R478, log entry 44). -/
def Lane.otpResolve (l : Lane) : Lane :=
  match l.lc.write with
  | some w =>
    let l := { l with lc := {}, fresh := l.fresh + 1 }
    if Config.pick l.me l.fresh % 2 = 0 then l.otpBurn w else l
  | none => { l with lc := {} }

/-- A_NRST low, or a supply outside its range (R530, R568): the lane is held in reset. -/
def Lane.hold (l : Lane) : Lane := l.otpResolve.coreReset

/-- A power-up of AO: everything but OTP and MRAM is at its reset value; the die keeps no latch (R534). -/
def Lane.powerUp (l : Lane) : Lane :=
  let l := l.otpResolve
  let otp := fun (a : Nat) => a = LC_KEYCFG_PROG0.addr || (decide (0xF000E0100 ≤ a) && decide (a < 0xF000E0180))
  let r : Lane :=
    { Lane.reset l.part l.me with
      regs := l.regs.filter (fun p => otp p.1), mem := l.mem.filter (fun p => inMram l.part p.1), tcmGen := l.tcmGen + 1, fresh := l.fresh
      out := l.out, sy := { boots := l.sy.boots } }
  r.wr LC_STAT_STATE (l.rd LC_STAT_STATE)

/-- A_VBAT falls below 4.5 V: AO is reset, and nothing of the lane or its die works until the power-up (spec/17_package_electrical.md R569). -/
def Lane.brownOut (l : Lane) : Lane :=
  let r := l.powerUp
  { r with sy := { r.sy with dead := true } }

/-- The strap code 0b01 selects QSPI where the life-cycle state honours it (R533, Tables 14.1 and 16.1). -/
def Lane.fromQspi (l : Lane) : Bool :=
  let s := l.rd LC_STAT_STATE
  l.im.straps = 1 && (s = 0 || s = 1 || s = 3)

/-- The lane enters BOOT, with the straps sampled (R530, R533, R534). A slice that ran ends with ABORT (spec/14_self_test_lifecycle.md R490). -/
def Lane.enterBootAt (l : Lane) (straps : Nat) : Lane :=
  let ran := l.st.run
  let r := l.otpResolve.coreReset
  let r := { r with sy := { r.sy with held := false, boots := r.sy.boots + 1 }, dl := { r.dl with kaEnd := none }
                    pw := { r.pw with freqAt := r.now }, im := { r.im with straps := straps } }
  let r := (r.showMode).put SY_IMGSTAT_SRC r.fromQspi
  match ran with
  | some s => (r.stResult 4 s.unit 0 ((l.now - s.start) / usec)).wr ST_STAT_ACAUSE 5
  | none => r

/-- A BOOT entry that no RESET_RELEASE makes: it samples the balls too, whose levels then are free (R533, log entry 13). -/
def Lane.enterBoot (l : Lane) : Lane := l.enterBootAt (Config.straps l.me (l.sy.boots + 1)).toNat

/-- Whether an auto-restart stands that nothing but a dump delays: it is due, and its boundary tick has come (R20). -/
def Lane.autoStands (l : Lane) : Bool := l.sy.autoDue && l.sy.autoTick && decide (l.mode = mSafeHold)

/-- A restart of a lane in SAFE-HOLD or SERVICE. Where an auto-restart stands, the entry counts as that one, also where the host has asked for
it too (R20; DESIGN CHOICE for the host's request, log entry 52). -/
def Lane.restart (l : Lane) : Lane := if l.autoStands then l.enterBoot.set SY_MODE_ARUSED else l.enterBoot

/-- Whether the host's restart command may act: in SAFE-HOLD and SERVICE (Table 1.2). -/
def Lane.mayRestart (l : Lane) : Bool := decide (l.mode = mSafeHold) || decide (l.mode = mService)

/-- A restart that a dump has put off happens when the dump ends: an auto-restart, or one that the host has commanded
(spec/09_fault_collection.md R341, Table 1.2). -/
def Lane.dumpOver (l : Lane) : Lane := if l.autoStands || (l.fc.restartWait && l.mayRestart) then l.restart else l

end Sys2Proof.Machine
end

