-- ==== Sys2Proof/Machine/Fault.lean ====
section
/-!
DEFINITION. The fault collector, the fatal reaction, and the memory and interconnect faults (spec/09_fault_collection.md R317 to R328, R334,
R335).
-/

namespace Sys2Proof.Machine

/-! ### Acceptance (R319, R320, R324) -/

/-- The class of a message; 0b00 is taken as UC (Table 9.1). -/
def takenClass (m : Word) : Nat := if msgClass m = 0 then clsUC else msgClass m

/-- Whether the collector takes a message before another that was presented later: the higher class, then the lower SRC (R319). -/
def noLater (a b : Word) : Bool :=
  decide (takenClass b < takenClass a) || (decide (takenClass a = takenClass b) && decide (msgSrc a ≤ msgSrc b))

/-- The message taken next from those that wait, and the others in their order. Only the two oldest of a source stand at the input; the source
holds any later one until it has room (R320). `seen` lists the sources of the messages before. -/
def nextFrom (seen : List Nat) : List Msg → Option (Msg × List Msg)
  | [] => none
  | m :: r =>
    let here := decide (seen.count (msgSrc m.bits) < 2)
    match nextFrom (msgSrc m.bits :: seen) r with
    | none => if here then some (m, r) else none
    | some (b, k) => if here && noLater m.bits b.bits then some (m, r) else some (b, m :: k)

/-- The message that the collector takes next. -/
def nextMsg (w : List Msg) : Option (Msg × List Msg) := nextFrom [] w

/-- The counter of a class. -/
def classCnt (c : Nat) : Fld := if c = clsCE then FC_CNT_CE else if c = clsUC then FC_CNT_UC else FC_CNT_FT

/-- The cycle of the acceptance stage: the CLK_BUS cycle, or with the root lost that of the LPO (R319, R321). -/
def Lane.accCycle (l : Lane) : Nat := if l.pw.rootLost then 2 * l.slow + 1 else 2 * (l.now / cycBus)

/-- Whether a message has been accepted in the present cycle already (R319). -/
def Lane.accDone (l : Lane) : Bool := l.fc.acc.any (fun a => decide (a.cycle = l.accCycle))

/-- A message is accepted: latched or counted (R324). -/
def Lane.latchMsg (l : Lane) (m : Word) : Lane :=
  let l := { l with fc := { l.fc with acc := some ⟨l.accCycle, m, l.ntime, !l.on FC_STAT_FIRSTV, l.on FC_STAT_OVF⟩ } }
  let l := if msgClass m = 0 then l.set FC_STAT_BADCLS else l
  let l := l.bump (classCnt (takenClass m))
  let l := if takenClass m = clsUC then l.event 2 else l
  if l.on FC_STAT_FIRSTV then (if l.on FC_STAT_OVF then l else (l.set FC_STAT_OVF).event 1)
  else (((l.wr FC_FIRST m.toNat).wr FC_FIRSTTIME l.ntime).set FC_STAT_FIRSTV).event 0

/-! ### The fatal reaction (R326 to R328, R336, R340) -/

/-- The capture is frozen (R336). -/
def Lane.capture (l : Lane) (m : Word) : Lane :=
  let l := ((l.wr FC_CAPMSG m.toNat).wr FC_CAPTIME l.ntime).set FC_STAT_CAPT
  let b := cpBuf (l.rd GL_CPSTAT_LATEST)
  let copy := l.mem.filter (fun c => decide (b ≤ c.1) && decide (c.1 < b + 0x2000))
  { l with fc := { l.fc with cap := some ⟨l.regs, l.pc.store, l.pc.drained, copy⟩ } }

/-- The dump engine is to take over, for a case of Table 9.10. -/
def Lane.dumpHand (l : Lane) (why : Nat) : Lane :=
  ({ l with fc := { l.fc with deDue := true, why := why, dcxDue := false } }).clr FC_STAT_DCX

/-- The dump that follows a capture: by the dump engine for an FT of the MRAM controller, for DUMPNB = 1 and where there is no dump context,
else in the dump context (R338, R340; log entry 46 for DUMPVEC = 0). -/
def Lane.dumpChoose (l : Lane) (m : Word) : Lane :=
  if msgSrc m = srcMC then l.dumpHand 1
  else if l.on FC_CFG_DUMPNB ∨ l.rd FC_DUMPVEC = 0 then l.dumpHand 2
  else { l with fc := { l.fc with dcxDue := true } }

/-- The cores stop, and a commit in progress with them; the entries of the store buffer that it has not drained are held (R326). A dump
context whose cores have stopped ends at DTMAX (R328, R340; log entry 46). -/
def Lane.coresStop (l : Lane) : Lane := { l with pc := { l.pc with core := .stopped, held := [], mid := none } }

/-- The Lantern, the tends, the running slice and the program it is of, and a running copy stop at an FT (R326, R328, R330, R331). -/
def Lane.fatalStop (l : Lane) (m : Word) : Lane :=
  let l := (((l.progAbort).sliceAbort 4).progNext).lantStop 2
  let l := if msgSrc m = srcCK ∧ msgKind m = 1 then l.lantLow else l
  let l := l.glWithdraw (fun k => k = tHeartbeat || k = tCommand || k = tCopy)
  { l with fc := { l.fc with tendWatch := false, ftSeen := true }, gl := { l.gl with tx := none, cmdOut := none, handOut := none } }

/-- Whether the lane never leaves BOOT: in BLANK and TERMINATED (spec/14_self_test_lifecycle.md R476, R478). -/
def Lane.bootOnly (l : Lane) : Bool := decide (l.mode = mBoot) && (decide (l.rd LC_STAT_STATE = 0) || decide (l.rd LC_STAT_STATE = 4))

/-- The lane goes to SAFE-HOLD with its token state NONE; one that was still in BOOT does not go on with its start (R18, R326), and one that
never leaves BOOT stays there with its axes in axis safe state. -/
def Lane.fatalMode (l : Lane) : Lane :=
  let l := if l.mode = mBoot then ({ l with im := { l.im with phase := .stay } }).watchStart else l
  let l := if l.bootOnly then l.axesSafe 4 else l.safeHold true
  if l.rd GL_STAT_TSTATE = tsNone then l else l.tokenLeave false

/-- What follows an FT that is accepted while a capture is held: nothing, but for one of the MRAM controller in the dump context (R328). -/
def Lane.fatalAgain (l : Lane) (m : Word) : Lane :=
  if l.on FC_STAT_DCX ∧ msgSrc m = srcMC then l.dumpHand 5 else l

/-- The reaction of the lane to an FT message (R326). -/
def Lane.fatalReact (l : Lane) (m : Word) : Lane := (((l.fatalStop m).glSend tFtann (leBytes 8 m.toNat)).coresStop).fatalMode

/-- What an FT message does at its acceptance (R326). -/
def Lane.fatal (l : Lane) (m : Word) : Lane :=
  if l.on FC_STAT_CAPT then (l.fatalReact m).fatalAgain m else ((l.capture m).fatalReact m).dumpChoose m

/-- The collector accepts the next message, at most one per cycle (R319). -/
def Lane.acceptMsg (l : Lane) : Lane :=
  if l.accDone then l
  else
    match nextMsg l.fc.wait with
    | none => l
    | some (m, r) =>
      let l := ({ l with fc := { l.fc with wait := r } }).latchMsg m.bits
      if takenClass m.bits = clsFT ∧ m.supp = false then l.fatal m.bits else l

/-- With the root lost the acceptance stage runs from the LPO, and takes the FT of the clock monitor only (R321). -/
def Lane.acceptLpo (l : Lane) : Lane :=
  if l.accDone then l
  else
    match l.fc.wait.find? (fun m => msgSrc m.bits = srcCK && msgKind m.bits = 1 && takenClass m.bits = clsFT) with
    | some m =>
      let l := ({ l with fc := { l.fc with wait := l.fc.wait.filter (fun k => k ≠ m) } }).latchMsg m.bits
      if m.supp then l else l.fatal m.bits
    | none => l

/-! ### Requests (R325, R334, R335) -/

/-- FC_CTL.REARM (R325). A message accepted earlier in this cycle becomes the new first; the event of the overflow that it may have driven
stands (DESIGN CHOICE, log entry 67). -/
def Lane.rearm (l : Lane) : Lane :=
  match l.fc.acc with
  | some a =>
    if l.accDone = false then l.clr FC_STAT_FIRSTV
    else if a.first then l
    else
      let l := { l with fc := { l.fc with acc := some { a with first := true } } }
      ((((l.wr FC_FIRST a.bits.toNat).wr FC_FIRSTTIME a.time).set FC_STAT_FIRSTV).put FC_STAT_OVF a.ovf).event 0
  | none => l.clr FC_STAT_FIRSTV

/-- FC_CTL.CNTCLR. -/
def Lane.fcCntClr (l : Lane) : Lane := (l.setReg FC_CNT_CE.addr 0#64).setReg FC_DROP_CE.addr 0#64

/-- Whether fault injection is open (R334). -/
def Lane.injectOpen (l : Lane) : Bool := decide (l.rd LC_STAT_STATE = 1) && l.on LC_STAT_FTM

/-- FC_INJCTL.GO (R335). -/
def Lane.injectGo (l : Lane) (supp : Bool) : Lane :=
  if l.injectOpen then l.present ⟨setBits (l.reg FC_INJMSG.addr) 41 1 1, supp⟩ else l

/-! ### Memory and interconnect faults (R323) -/

/-- An access ends with a bus error. -/
def Lane.busError (l : Lane) : Lane := { l with rdata := 0#64, busErr := true }

/-- An ECC error of a memory; those of Hamper storage name the slot and drive event 145 (spec/11_hamper_host.md). -/
def Lane.eccError (l : Lane) (m : EccMem) (corrected : Bool) (a : Nat) : Lane :=
  match m with
  | .tcm => if corrected then l.raiseOnce srcTM 1 clsCE none a else l.raise srcTM 2 clsFT none a
  | .mram => if corrected then l.raiseOnce srcMC 1 clsCE none a else (l.raise srcMC 2 clsUC none a).busError
  | .hamper =>
    if corrected then (l.raiseOnce srcHQ 2 clsCE none (a / 64 % 4096)).event 145
    else ((l.raise srcHQ 3 clsUC none (a / 64 % 4096)).event 145).busError

/-! ### The meanings -/

def execFaultMessageAccept (i : LaneId) (s : State) : Host.Outcome State Fault Refusal :=
  s.actWake i (fun l => if l.pw.rootLost then l.acceptLpo else if l.pw.stopped || !l.domOn .cp then l else l.acceptMsg)
def execFcRearm (i : LaneId) (s : State) : Host.Outcome State Fault Refusal := s.actD i .cp Lane.rearm
def execFcCntclr (i : LaneId) (s : State) : Host.Outcome State Fault Refusal := s.actD i .cp Lane.fcCntClr
def execFaultInjection (i : LaneId) (suppress : Bool) (s : State) : Host.Outcome State Fault Refusal :=
  s.actD i .cp (fun l => l.injectGo suppress)
def execEccError (i : LaneId) (mem : EccMem) (corrected : Bool) (addr : BitVec 40) (s : State) : Host.Outcome State Fault Refusal :=
  s.actD i .cp (fun l => l.eccError mem corrected addr.toNat)
def execMramControllerFailure (i : LaneId) (cause : Byte) (s : State) : Host.Outcome State Fault Refusal :=
  s.actD i .cp (fun l => l.raise srcMC 3 clsFT none cause.toNat)
def execBusParityError (i : LaneId) (addr : BitVec 40) (s : State) : Host.Outcome State Fault Refusal :=
  s.actD i .cp (fun l => l.raise srcBI 2 clsFT none addr.toNat)
def execDeviceAccessTimeout (i : LaneId) (addr : BitVec 40) (s : State) : Host.Outcome State Fault Refusal :=
  s.actD i .cp (fun l => (l.raise srcBI 1 clsUC none addr.toNat).busError)

end Sys2Proof.Machine
end

