-- ==== Sys2Proof/Machine/Crypto.lean ====
section
/-!
DEFINITION. SHA-256 (FIPS 180-4) and the verification of an ECDSA P-256 signature (FIPS 186-4), as spec/14_self_test_lifecycle.md R480 to
R482 and spec/15_configuration_image.md R507 and R517 use them. Byte strings are big-endian.
-/

namespace Sys2Proof.Machine

/-! ### SHA-256 -/

/-- The primes in order, from which FIPS 180-4 takes its constants: the first 64 lie below 312. -/
def shaPrimes : List Nat := (List.range 312).filter (fun n => decide (2 ≤ n) && (List.range n).all (fun d => decide (d < 2) || decide (n % d ≠ 0)))

/-- The largest number whose power does not exceed a bound, found bit by bit from above what is known of it. -/
def rootBelow (power : Nat → Nat) (bound : Nat) : Nat → Nat → Nat
  | 0, r => r
  | k + 1, r => rootBelow power bound k (if power (r + 2 ^ k) ≤ bound then r + 2 ^ k else r)

/-- The first 32 bits of the fractional part of the cube root of a prime: a constant of a round. -/
def shaCube (p : Nat) : Word32 := BitVec.ofNat 32 (rootBelow (fun t => t * t * t) (p * 2 ^ 96) 35 0)

/-- The first 32 bits of the fractional part of the square root of a prime: a word of the initial hash value. -/
def shaSquare (p : Nat) : Word32 := BitVec.ofNat 32 (rootBelow (fun t => t * t) (p * 2 ^ 64) 35 0)

/-- The working variables of the compression, or a hash value. -/
structure Sha where
  a : Word32
  b : Word32
  c : Word32
  d : Word32
  e : Word32
  f : Word32
  g : Word32
  h : Word32
deriving DecidableEq, Repr

/-- The initial hash value: the square roots of the first eight primes. -/
def shaInit : Sha :=
  ⟨shaSquare 2, shaSquare 3, shaSquare 5, shaSquare 7, shaSquare 11, shaSquare 13, shaSquare 17, shaSquare 19⟩

def shaS0 (x : Word32) : Word32 := x.rotateRight 7 ^^^ x.rotateRight 18 ^^^ (x >>> 3)
def shaS1 (x : Word32) : Word32 := x.rotateRight 17 ^^^ x.rotateRight 19 ^^^ (x >>> 10)

/-- One round. -/
def shaRound (s : Sha) (k w : Word32) : Sha :=
  let t1 := s.h + (s.e.rotateRight 6 ^^^ s.e.rotateRight 11 ^^^ s.e.rotateRight 25) + ((s.e &&& s.f) ^^^ (~~~s.e &&& s.g)) + k + w
  let t2 := (s.a.rotateRight 2 ^^^ s.a.rotateRight 13 ^^^ s.a.rotateRight 22) + ((s.a &&& s.b) ^^^ (s.a &&& s.c) ^^^ (s.b &&& s.c))
  ⟨t1 + t2, s.a, s.b, s.c, s.d + t1, s.e, s.f, s.g⟩

/-- The next word of the message schedule, from the last sixteen, oldest first. -/
def shaNext (w : List Word32) : Word32 :=
  let n := fun i => (w[i]?).getD 0#32
  shaS1 (n 14) + n 9 + shaS0 (n 1) + n 0

/-- The rounds of a block, one for each prime, with the sixteen words of the schedule in use. -/
def shaRounds : List Nat → List Word32 → Sha → Sha
  | [], _, s => s
  | p :: ps, w, s => shaRounds ps (w.drop 1 ++ [shaNext w]) (shaRound s (shaCube p) ((w[0]?).getD 0#32))

/-- The big-endian words of a byte string. -/
def shaWords : List Byte → List Word32
  | a :: b :: c :: d :: r => BitVec.ofNat 32 (beNat [a, b, c, d]) :: shaWords r
  | _ => []

/-- The compression of one block of 64 bytes. -/
def shaBlock (s : Sha) (b : List Byte) : Sha :=
  let t := shaRounds shaPrimes (shaWords b) s
  ⟨s.a + t.a, s.b + t.b, s.c + t.c, s.d + t.d, s.e + t.e, s.f + t.f, s.g + t.g, s.h + t.h⟩

/-- The blocks of a padded message; the first argument bounds their number. -/
def shaBlocks : Nat → List Byte → Sha → Sha
  | 0, _, s => s
  | n + 1, l, s => if l.isEmpty then s else shaBlocks n (l.drop 64) (shaBlock s (l.take 64))

/-- The `n` bytes of a number, most significant first. -/
def beBytes (n v : Nat) : List Byte := (leBytes n v).reverse

/-- The SHA-256 of a byte string. -/
def sha256 (m : List Byte) : List Byte :=
  let n := m.length
  let p := m ++ [0x80#8] ++ List.replicate ((119 - n % 64) % 64) 0#8 ++ beBytes 8 (8 * n)
  let s := shaBlocks (p.length / 64) p shaInit
  [s.a, s.b, s.c, s.d, s.e, s.f, s.g, s.h].flatMap (fun w => beBytes 4 w.toNat)

/-! ### The curve P-256 -/

/-- The field prime, the order of the base point, the coefficient b and the base point. -/
def pP : Nat := 0xffffffff00000001000000000000000000000000ffffffffffffffffffffffff
def pN : Nat := 0xffffffff00000000ffffffffffffffffbce6faada7179e84f3b9cac2fc632551
def pB : Nat := 0x5ac635d8aa3a93e7b3ebbd55769886bc651d06b0cc53b0f63bce3c3e27d2604b
def pGx : Nat := 0x6b17d1f2e12c4247f8bce6e563a440f277037d812deb33a0f4a13945d898c296
def pGy : Nat := 0x4fe342e2fe1a7f9b8ee7eb4a7c0f9e162bce33576b315ececbb6406837bf51f5

/-- b^e mod m, by the bits of e from the given number of them downwards. -/
def powMod (b e m : Nat) : Nat → Nat
  | 0 => 1 % m
  | k + 1 =>
    let r := powMod b (e / 2) m k
    let r := r * r % m
    if e % 2 = 1 then r * b % m else r

/-- The inverse modulo a prime of at most 256 bits. -/
def invMod (a m : Nat) : Nat := powMod (a % m) (m - 2) m 256

/-- A point of the curve; none is the point at infinity. -/
abbrev CurvePoint := Option (Nat × Nat)

/-- The sum of two points. -/
def curveAdd : CurvePoint → CurvePoint → CurvePoint
  | none, q => q
  | p, none => p
  | some (x1, y1), some (x2, y2) =>
    if x1 = x2 ∧ (y1 + y2) % pP = 0 then none
    else
      let s := if x1 = x2 then (3 * x1 * x1 + pP - 3) % pP * invMod (2 * y1) pP % pP
        else (y2 + pP - y1) % pP * invMod (x2 + pP - x1) pP % pP
      let x := (s * s + 2 * pP - x1 - x2) % pP
      some (x, (s * (x1 + pP - x) % pP + pP - y1) % pP)

/-- The multiple of a point by a number of at most as many bits as the last argument says. -/
def curveMul (k : Nat) (p : CurvePoint) : Nat → CurvePoint
  | 0 => none
  | n + 1 =>
    let r := curveMul (k / 2) p n
    let r := curveAdd r r
    if k % 2 = 1 then curveAdd r p else r

/-- Whether coordinates name a point of the curve. -/
def onCurve (x y : Nat) : Bool :=
  decide (x < pP) && decide (y < pP) && decide (y * y % pP = (x * x % pP * x + (pP - 3) * x + pB) % pP)

/-- Whether a signature r then s over the SHA-256 of a message verifies under a public key X then Y, each of 64 bytes. -/
def ecdsaOk (key message signature : List Byte) : Bool :=
  let x := beNat (key.take 32)
  let y := beNat ((key.drop 32).take 32)
  let r := beNat (signature.take 32)
  let s := beNat ((signature.drop 32).take 32)
  if onCurve x y && decide (0 < r) && decide (r < pN) && decide (0 < s) && decide (s < pN) then
    let w := invMod s pN
    let u1 := beNat (sha256 message) * w % pN
    let u2 := r * w % pN
    match curveAdd (curveMul u1 (some (pGx, pGy)) 256) (curveMul u2 (some (x, y)) 256) with
    | some (v, _) => decide (v % pN = r)
    | none => false
  else false

end Sys2Proof.Machine
end

