-- ==== Sys2Proof/Machine/LifeCycle.lean ====
section
/-!
DEFINITION. Life-cycle states, key slots, the RETURN token, factory test mode and requested sweeps (spec/14_self_test_lifecycle.md R476 to
R483, R486).
-/

namespace Sys2Proof.Machine

/-- The codes of LC_STAT.STATE. -/
def lcBlank : Nat := 0
def lcManufacture : Nat := 1
def lcProduction : Nat := 2
def lcReturn : Nat := 3
def lcTerminated : Nat := 4

/-- The life-cycle state in force. -/
def Lane.life (l : Lane) : Nat := l.rd LC_STAT_STATE

/-- Whether the JTAG port takes every instruction (Table 14.1). -/
def Lane.jtagOpen (l : Lane) : Bool := l.life = lcBlank || l.life = lcManufacture || l.life = lcReturn

/-! ### Key slots (R480) -/

/-- The hash that key slot k holds. -/
def Lane.keyHash (l : Lane) (k : Nat) : List Byte := (List.range 4).flatMap (fun n => beBytes 8 (l.rd (LC_KEYHASH k n)))

/-- Whether key slot k may sign configuration images. -/
def Lane.imgKey (l : Lane) (k : Nat) : Bool := l.on (keyFlag k 3) && l.on (keyFlag k 1) && !l.on (keyFlag k 2)

/-! ### Requests (R477, R478) -/

/-- What LC_STAT shows at the end of a request or of a write of a key slot. -/
def Lane.lcEnd (l : Lane) (r : Nat) : Lane := (l.wr LC_STAT_RESULT r).clr LC_STAT_BUSY

/-- A life-cycle request ends with a result (R498). -/
def Lane.lcResult (l : Lane) (r : Nat) : Lane := (l.lcEnd r).event 174

/-- A transition request is refused. -/
def Lane.lcRefuse (l : Lane) (r : Nat) : Lane :=
  let l := l.lcResult r
  l.raise srcLC 2 clsCE none (l.dataOf LC_STAT_STATE.addr)

/-- An OTP write starts. -/
def Lane.otpStart (l : Lane) (w : OtpWrite) : Lane := ({ l with lc := { l.lc with write := some w } }).set LC_STAT_BUSY

/-- The window LC_RTOK (R481). -/
def rtokWin : Nat := 0xF000E0200

/-- The RETURN token checks in their order (Table 14.4): the RESULT of the first that fails, or none. -/
def Lane.tokenResult (l : Lane) : Option Nat :=
  let t := l.bytes rtokWin 192
  let key := (t.drop 64).take 64
  let k := byteAt t 16
  if beNat (t.take 4) ≠ 0x52544B01 ∨ (t.drop 17).take 47 ≠ List.replicate 47 0#8 then some 6
  else if beNat ((t.drop 4).take 8) ≠ (Config.laneUid l.me).toNat ∨
      beNat ((t.drop 12).take 4) ≠ (Config.nonce l.me l.sy.boots).toNat then some 7
  else if 4 ≤ k ∨ !(l.on (keyFlag k 3) && l.on (keyFlag k 0) && !l.on (keyFlag k 2)) ∨ sha256 key ≠ l.keyHash k then some 8
  else if ecdsaOk key (t.take 128) (t.drop 128) then none
  else some 6

/-- A request for RETURN in PRODUCTION (Table 14.2). -/
def Lane.returnRequest (l : Lane) : Lane :=
  match l.tokenResult with
  | none => l.otpStart (.state lcReturn)
  | some r => (l.lcResult r).raise srcLC 1 clsCE none r

/-- A released LC_CTL.GO (R478, Table 14.2). -/
def Lane.lcGo (l : Lane) (target : Nat) : Lane :=
  let s := l.life
  if l.on LC_STAT_BUSY then l
  else if l.mode ≠ mService then l.lcRefuse 3
  else if s = lcManufacture ∧ target = lcProduction then
    if l.on LC_STAT_FTM then l.lcRefuse 4 else l.otpStart (.state lcProduction)
  else if s = lcProduction ∧ target = lcReturn then l.returnRequest
  else if target = lcTerminated ∧ (s = lcManufacture ∨ s = lcProduction ∨ s = lcReturn) then l.otpStart (.state lcTerminated)
  else l.lcRefuse 2

/-- The JTAG instruction LCADV (Table 14.2). -/
def Lane.lcAdv (l : Lane) : Lane :=
  if !l.jtagOpen || l.on LC_STAT_BUSY then l
  else if l.life = lcBlank then (if l.on (keyFlag 0 3) then l.otpStart (.state lcManufacture) else l.lcRefuse 5)
  else l.lcRefuse 2

/-- The JTAG instruction LCTERM, in any mode of the lane (Table 14.2). -/
def Lane.lcTerm (l : Lane) : Lane := if !l.jtagOpen || l.on LC_STAT_BUSY then l else l.otpStart (.state lcTerminated)

/-- The JTAG instruction KEYPROG: in BLANK and MANUFACTURE, on a slot not yet programmed (R480, log entry 47). -/
def Lane.keyProg (l : Lane) (k : Nat) (img rtn : Bool) (hash : List Byte) : Lane :=
  if (l.life = lcBlank || l.life = lcManufacture) && !l.on LC_STAT_BUSY && !l.on (keyFlag k 3) then l.otpStart (.program k img rtn hash)
  else l

/-- The JTAG instruction KEYREV: in MANUFACTURE and RETURN, where a slot that may sign images is left (R480). -/
def Lane.keyRev (l : Lane) (k : Nat) : Lane :=
  if (l.life = lcManufacture || l.life = lcReturn) && !l.on LC_STAT_BUSY && [0, 1, 2, 3].any (fun j => j ≠ k && l.imgKey j) then
    l.otpStart (.revoke k)
  else l

/-- What a completed OTP write leaves; after one of a life-cycle state the lane enters BOOT (R478), and one that holds the token abdicates
(spec/08_leadership_guyline.md Table 8.5). -/
def Lane.otpApply (l : Lane) : OtpWrite → Lane
  | .state c => (((l.lcResult 1).abdicateNow).otpBurn (.state c)).enterBoot
  | w => (l.otpBurn w).lcEnd 1

/-- A failed OTP write: RESULT 9 and LC_TRANS; one of a key slot was no life-cycle request and drives no event of one (R478, R480, R498). -/
def Lane.otpFail (l : Lane) : OtpWrite → Lane
  | .state _ => l.lcRefuse 9
  | _ => (l.lcEnd 9).raise srcLC 2 clsCE none ((l.lcEnd 9).dataOf LC_STAT_STATE.addr)

/-- An OTP write ends (R478, Table 14.10). -/
def Lane.otpEnd (l : Lane) (ok : Bool) : Lane :=
  match l.lc.write with
  | none => l
  | some w =>
    let l := { l with lc := {} }
    if ok then l.otpApply w else l.otpFail w

/-! ### Factory test mode and requested sweeps (R483, R486) -/

/-- Factory test mode is switched on, in MANUFACTURE only. -/
def Lane.ftmOn (l : Lane) : Lane := if l.life = lcManufacture then l.set LC_STAT_FTM else l

/-- The restart through BOOT with a sweep, which a flag in AO asks for. -/
def Lane.sweepBoot (l : Lane) : Lane := ({ l with st := { l.st with swNext := true } }).enterBoot

/-- The JTAG instruction SWEEP: in BLANK a restart through BOOT with a sweep, before which a lane that holds the token abdicates
(spec/08_leadership_guyline.md Table 8.5). It sets no flag in AO, so that a BOOT which leaves BLANK has no sweep of it (R486). -/
def Lane.jtagSweep (l : Lane) : Lane :=
  if l.life = lcBlank then
    let l := (l.abdicateNow).enterBoot
    { l with st := { l.st with swJtag := true } }
  else l

/-- A released ST_CTL.SWEEP: in MANUFACTURE and RETURN, in SERVICE. -/
def Lane.stSweep (l : Lane) : Lane :=
  if l.mode = mService && (l.life = lcManufacture || l.life = lcReturn) then l.sweepBoot else l

/-! ### The meanings -/

def execLcadv (i : LaneId) (s : State) : Host.Outcome State Fault Refusal := s.act i Lane.lcAdv
def execLcterm (i : LaneId) (s : State) : Host.Outcome State Fault Refusal := s.act i Lane.lcTerm
def execKeyprog (i : LaneId) (slot : Fin 4) (img rtn : Bool) (hash : List Byte) (s : State) : Host.Outcome State Fault Refusal :=
  s.act i (fun l => l.keyProg slot img rtn hash)
def execKeyrev (i : LaneId) (slot : Fin 4) (s : State) : Host.Outcome State Fault Refusal := s.act i (fun l => l.keyRev slot)
def execFtmode (i : LaneId) (s : State) : Host.Outcome State Fault Refusal := s.act i Lane.ftmOn
def execJtagSweep (i : LaneId) (s : State) : Host.Outcome State Fault Refusal :=
  s.act i Lane.jtagSweep
def execLcGo (i : LaneId) (target : Fin 8) (s : State) : Host.Outcome State Fault Refusal := s.actD i .cp (fun l => l.lcGo target)
def execLcFtmon (i : LaneId) (s : State) : Host.Outcome State Fault Refusal :=
  s.actD i .cp (fun l => if l.mode = mService then l.ftmOn else l)
def execOtpWriteComplete (i : LaneId) (ok : Bool) (s : State) : Host.Outcome State Fault Refusal := s.act i (fun l => l.otpEnd ok)
def execStSweep (i : LaneId) (s : State) : Host.Outcome State Fault Refusal := s.actD i .cp Lane.stSweep

end Sys2Proof.Machine
end

