-- ==== Sys2Proof/Machine/Image.lean ====
section
/-!
DEFINITION. The configuration image: slots, header, records, signature, and phases 1 to 4 of the loader (spec/15_configuration_image.md
R499 to R518, R523).
-/

namespace Sys2Proof.Machine

/-! ### Slots (R499, R501; spec/18_address_map.md Table 18.4) -/

/-- The configuration slots, 2 MB each. -/
def cfgSlot (n : Nat) : Nat := 0x100000000 + 0x200000 * n

/-- The size of a firmware slot. -/
def fwSize (p : Part) : Nat := if p = .apx9613 then 0x400000 else 0x800000

/-- The firmware slots. -/
def fwSlot (p : Part) (n : Nat) : Nat := 0x100400000 + fwSize p * n

/-- The MAGIC of a header. -/
def imgMagic : Nat := 0x4B434647

/-- The header of an image: the first 256 bytes of a slot (Table 15.2). -/
abbrev ImgHeader := List Byte

/-- The fields of the header. -/
def ImgHeader.magic (h : ImgHeader) : Nat := leField h 0 4
def ImgHeader.lanes (h : ImgHeader) : Nat := byteAt h 7
def ImgHeader.imgSeq (h : ImgHeader) : Nat := leField h 8 4
def ImgHeader.length (h : ImgHeader) : Nat := leField h 12 4
def ImgHeader.commonLen (h : ImgHeader) : Nat := leField h 16 4
def ImgHeader.laneLen (h : ImgHeader) : Nat := leField h 20 4
def ImgHeader.records (h : ImgHeader) : Nat := leField h 24 2
def ImgHeader.keySlot (h : ImgHeader) : Nat := byteAt h 26
def ImgHeader.buildId (h : ImgHeader) : List Byte := (h.drop 32).take 32
def ImgHeader.commonHash (h : ImgHeader) : List Byte := (h.drop 64).take 32

/-- Every byte of a list is 0. -/
def zeros (l : List Byte) : Bool := l.all (fun b => b = 0#8)

/-- The PART code of a device (Table 15.2). -/
def partCode : Part → Nat
  | .apx9603 => 0x03
  | .apx9602 => 0x02
  | .apx9613 => 0x13

/-- Why a slot is rejected (Table 15.10): the code, RID1, RID2, and the location of SY_IMGWHERE_n. -/
structure Rej where
  code : Nat
  rid1 : Nat := 0
  rid2 : Nat := 0
  loc : Nat := 0
deriving DecidableEq, Repr

/-- The location of a resource: RES, the class and the index. -/
def resLoc (cls index : Nat) : Nat := 2 ^ 63 + cls * 2 ^ 32 + index

/-- The first of some checks that fails. -/
def firstRej (l : List (Option Rej)) : Option Rej := l.findSome? id

/-- A check. -/
def rejIf (c : Bool) (r : Rej) : Option Rej := if c then some r else none

/-- Phase 1, after MAGIC: the header. A bit of LANES above bit 2 counts as a reserved bit that is not 0. -/
def ImgHeader.check (h : ImgHeader) (p : Part) (me : LaneId) : Option Rej :=
  firstRej [
    rejIf (h.magic ≠ imgMagic) { code := 0x01 },
    rejIf (leField h 4 2 ≠ 1 || 8 ≤ h.lanes || !zeros ((h.drop 27).take 5) || !zeros ((h.drop 96).take 160)) { code := 0x02 },
    rejIf (decide (h.length < 384) || decide (2097152 < h.length) || decide (h.length % 8 ≠ 0) ||
      decide (h.length ≠ 384 + h.commonLen + h.laneLen)) { code := 0x03 },
    rejIf (byteAt h 6 ≠ partCode p) { code := 0x20 },
    rejIf (!h.lanes.testBit me.code) { code := 0x04 }]

/-! ### Records (R508 to R514) -/

/-- A record: its type, MASKED, its identifier, whether it lies in the common part, its body, and the FEATURE it belongs to (0 none). -/
structure Rec where
  typ : Nat
  masked : Bool
  rid : Nat
  common : Bool
  body : List Byte
  feature : Nat
deriving DecidableEq, Repr

/-- The record types (Table 15.4). -/
def rFeature : Nat := 1
def rRegs : Nat := 2
def rFirmware : Nat := 3
def rAxisMode : Nat := 4

/-- The fields of a REGS body (R509). -/
def Rec.addr (r : Rec) : Nat := leField r.body 0 5
def Rec.count (r : Rec) : Nat := leField r.body 8 4
def Rec.width (r : Rec) : Nat := byteAt r.body 12

/-- The size of one entry of a REGS body. -/
def Rec.step (r : Rec) : Nat := if r.masked then 2 * r.width else r.width

/-- Whether a REGS body is well formed. -/
def Rec.regsOk (r : Rec) : Bool :=
  let b := r.body
  let sz := 16 + r.count * r.step
  decide (16 ≤ b.length) && (r.width = 4 || r.width = 8) && decide (1 ≤ r.count) && zeros ((b.drop 5).take 3) &&
  zeros ((b.drop 13).take 3) && decide (b.length = (sz + 7) / 8 * 8) && zeros (b.drop sz) && decide (r.feature ≠ 0)

/-- The number of claim entries of a FEATURE body, and their fields (Table 15.5). -/
def Rec.claims (r : Rec) : List (Nat × Nat × Nat) :=
  (List.range (r.body.length / 8)).map (fun i =>
    (byteAt r.body (8 * i), leField r.body (8 * i + 4) 4, leField r.body (8 * i + 2) 2))

/-- Whether a body is well formed for its type. -/
def Rec.bodyOk (r : Rec) : Bool :=
  let b := r.body
  match r.typ with
  | 1 => (List.range (b.length / 8)).all (fun i => byteAt b (8 * i + 1) = 0)
  | 2 => r.regsOk
  | 3 => decide (b.length = 48) && decide (byteAt b 0 ≤ 1) && zeros ((b.drop 1).take 7)
  | 4 => decide (b.length = 8) && decide (byteAt b 0 ≤ 3) && zeros (b.drop 1)
  | _ => false

/-- What a REGS record writes: address, mask and value of each of its registers. -/
def Rec.writes (r : Rec) : List (Nat × Nat × Nat) :=
  (List.range r.count).map (fun i =>
    let o := 16 + i * r.step
    (r.addr + i * r.width, if r.masked then leField r.body (o + r.width) r.width else 2 ^ (8 * r.width) - 1, leField r.body o r.width))

/-- The fields of the FIRMWARE body (Table 15.6). -/
def Rec.fwSlot (r : Rec) : Nat := byteAt r.body 0
def Rec.fwLen (r : Rec) : Nat := leField r.body 8 4
def Rec.entry (r : Rec) : Nat := leField r.body 12 4
def Rec.fwHash (r : Rec) : List Byte := (r.body.drop 16).take 32

/-- The registers of Table 15.8, which only the common part may write (R516). -/
def commonOnly (a : Nat) : Bool :=
  let o := a % 0x100000
  a = FC_LANTCFG_PER.addr || a = FC_TENDWIN_TMIN.addr || a = SY_CFG_AUTORST.addr || a = SY_DEGBUD_S.addr || a = SY_ARMTIME_MS.addr ||
  a = SY_STILL_V.addr || a = SY_TWARN_T.addr || a = SY_THOLD_T.addr || a = SY_CMDAGE_CYC.addr ||
  (decide (0xF00000200 ≤ a) && decide (a < 0xF00000240)) || a = DL_ENVDUTY.addr || a = PM_VWIN_MIN.addr || a = SC_PROFTH_BAL.addr ||
  (decide (0xF01000000 ≤ a) && decide (a < 0xF01200000) &&
    (decide (0x180 ≤ o) && decide (o < 0x1A8) || o = 0x98 || o = (MOD_ENVD_DMIN .x0).addr % 0x100000 || o = (GD_CFG_VG .x0).addr % 0x100000))

/-! ### Phase 3: the records -/

/-- What phase 3 has seen so far. -/
structure Seen where
  rids : List Nat := []
  feature : Nat := 0
  firmware : Bool := false
  axisMode : Bool := false
deriving DecidableEq, Repr

/-- The next record of a part, its type's checks (code 0x05), then its own checks of code 0x06. -/
def Rec.check (r : Rec) (flags : Nat) (s : Seen) : Option Rej :=
  let one := decide (r.typ = rFirmware) && s.firmware || decide (r.typ = rAxisMode) && s.axisMode
  firstRej [
    rejIf (r.rid = 0 || s.rids.contains r.rid || decide (r.typ = 0) || decide (4 < r.typ) || decide (flags ≠ 0 ∧ (flags ≠ 1 ∨ r.typ ≠ rRegs)) ||
      !r.bodyOk) { code := 0x05, rid1 := r.rid },
    rejIf ((decide (r.typ = rFirmware ∨ r.typ = rAxisMode) && (one || !r.common)) ||
      (decide (r.typ = rRegs) && !r.common && r.bodyOk && r.writes.any (fun w => commonOnly w.1))) { code := 0x06, rid1 := r.rid }]

/-- What has been seen after a record. -/
def Seen.after (s : Seen) (r : Rec) : Seen :=
  { rids := r.rid :: s.rids, feature := if r.typ = rFeature then r.rid else s.feature
    firmware := s.firmware || decide (r.typ = rFirmware), axisMode := s.axisMode || decide (r.typ = rAxisMode) }

/-- The records of one part in image order, up to the first that fails; the last argument bounds their number. -/
def partRecords (common : Bool) : Nat → List Byte → Seen → List Rec × Seen × Option Rej
  | 0, _, s => ([], s, none)
  | k + 1, b, s =>
    if b.isEmpty then ([], s, none)
    else
      let n := leField b 4 4
      let rid := leField b 2 2
      if decide (b.length < 8 + n) || decide (n % 8 ≠ 0) then ([], s, some { code := 0x05, rid1 := rid })
      else
        let r : Rec := { typ := byteAt b 0, masked := byteAt b 1 = 1, rid := rid, common := common, body := (b.drop 8).take n
                         feature := s.feature }
        match r.check (byteAt b 1) s with
        | some e => ([], s, some e)
        | none =>
          let (q, s', e) := partRecords common k (b.drop (8 + n)) (s.after r)
          (r :: q, s', e)

/-- Phase 3 of a whole image: the records of both parts, then the steps that judge the image (R523). -/
def imgRecords (img : List Byte) : List Rec × Option Rej :=
  let h : ImgHeader := img.take 256
  let common := (img.drop 256).take h.commonLen
  let (rc, s, e) := partRecords true (h.commonLen + 1) common {}
  match e with
  | some _ => (rc, e)
  | none =>
    let (rl, s, e) := partRecords false (h.laneLen + 1) ((img.drop (256 + h.commonLen)).take h.laneLen) { s with feature := 0 }
    (rc ++ rl, firstRej [e,
      rejIf (h.records ≠ (rc ++ rl).length) { code := 0x05 },
      rejIf (!s.firmware || !s.axisMode) { code := 0x06 },
      rejIf (h.commonHash ≠ sha256 common) { code := 0x06 }])

/-! ### Phases 2 and 4 -/

/-- Phase 2 (R517): the key slot, the key and the signature over bytes 0 to LENGTH − 65. -/
def Lane.imgSigned (l : Lane) (img : List Byte) : Option Rej :=
  let h : ImgHeader := img.take 256
  let key := (img.drop (img.length - 128)).take 64
  firstRej [
    rejIf (decide (4 ≤ h.keySlot) || !l.imgKey h.keySlot) { code := 0x10 },
    rejIf (sha256 key ≠ l.keyHash h.keySlot) { code := 0x11 },
    rejIf (!ecdsaOk key (img.take (img.length - 64)) (img.drop (img.length - 64))) { code := 0x12 }]

/-- The record of a type, if an image has one. -/
def findRec (rs : List Rec) (t : Nat) : Option Rec := rs.find? (fun r => r.typ = t)

/-- Phase 4, the size of the firmware (code 0x14). -/
def fwFits (p : Part) (r : Rec) : Bool :=
  decide (1 ≤ r.fwLen) && decide (r.fwLen ≤ fwSize p) && decide (r.entry % 8 = 0) && decide (r.entry < r.fwLen)

end Sys2Proof.Machine
end

