-- ==== Sys2Proof/Machine/Modulator.lean ====
section
/-!
DEFINITION. The modulator of an axis: the update group and its three stages, the output path, sampling windows, passthrough and the delay
line (spec/03_modulator.md R98 to R128, R141 to R143).
-/

namespace Sys2Proof.Machine

/-! ### The fields of the stages -/

/-- The compares of a gate, 25 bits: cycles and taps together count ticks (R98). -/
def cmpR (x : Ax) (n : Nat) : Fld := ⟨(MOD_CMPR_TAP x n).addr, 0, 25⟩
def cmpF (x : Ax) (n : Nat) : Fld := ⟨(MOD_CMPF_TAP x n).addr, 0, 25⟩

/-- A period is 51,200 to 25,600,000 ticks (R99). -/
def periodOk (p : Nat) : Bool := decide (51200 ≤ p) && decide (p ≤ 25600000)

/-- The PWM period of a profile (Table 3.2). -/
def profPeriod : Nat → Nat
  | 0 => 256000
  | 1 => 640000
  | _ => 1280000

/-! ### The output path (Table 3.3) -/

/-- The segments of a period in which a gate is on. -/
def Ival.segments (i : Ival) (p : Nat) : List (Nat × Nat) :=
  if i.cr < i.cf then [(i.cr, i.cf)] else if i.cr > i.cf then [(i.cr, p), (0, i.cf)] else []

/-- Whether two gates are on together at some instant (step 5). -/
def Ival.meets (a b : Ival) (p : Nat) : Bool :=
  (a.segments p).any (fun s => (b.segments p).any (fun t => decide (Nat.max s.1 t.1 < Nat.min s.2 t.2)))

/-- Step 2: the minimum pulse on an on-time. -/
def minPulse (on p m : Nat) : Nat := if on < m then 0 else if p - on < m then p else on

/-- Step 3: the envelope duty range, with both limits inside the envelope; the upper limit governs. -/
def envClamp (on p dmin dmax : Nat) : Nat := Nat.min (Nat.max on ((dmin * p + 32767) / 32768)) (dmax * p / 32768)

/-- A high-side interval resized about its centre (step 3 in the DIRECT source). -/
def Ival.resize (i : Ival) (p on : Nat) : Ival :=
  if on = 0 then Ival.none p else if on = p then Ival.full p
  else
    let cr := (i.cr + i.len p / 2 + p - on / 2) % p
    ⟨cr, if cr + on ≤ p then cr + on else cr + on - p⟩

/-- The window at the valley and at the peak of a phase with edges; a negative result counts as 0 (R124). -/
def winValley (p dtl : Nat) (i : Ival) : Nat := p - i.cf - dtl
def winPeak (p dth : Nat) (i : Ival) : Nat := p / 2 - i.cr - dth

/-- MOD_MINWIN_x in ticks, rounded up: a window of whole ticks meets it exactly when it meets the time. -/
def Lane.minWin (l : Lane) (x : Ax) : Nat := (l.rd (MOD_MINWIN_NS x) * 256 + 9) / 10

/-- Whether a phase has edges. -/
def Ival.moves (i : Ival) (p : Nat) : Bool := decide (i.len p ≠ 0) && decide (i.len p ≠ p)

/-- The phase put second when the short windows are ordered by size, then by phase: that phase and its window (R125). -/
def secondShort (w : List (Nat × Nat)) : Option (Nat × Nat) :=
  match (w.foldl (fun (acc : List (Nat × Nat)) e =>
      (acc.filter (fun a => decide (a.2 ≤ e.2))) ++ [e] ++ acc.filter (fun a => !decide (a.2 ≤ e.2))) []) with
  | _ :: b :: _ => some b
  | _ => none

/-- The phase to shift at a commit, and its shift (R125). -/
def Lane.shiftChoice (l : Lane) (x : Ax) (p : Nat) (hs : List Ival) : Option (Nat × Nat) :=
  let m := l.minWin x
  let idx := (hs.zip (List.range 3)).filter (fun e => e.1.moves p)
  let v := (idx.map (fun e => (e.2, winValley p (l.rd (MOD_DT_DTL x)) e.1))).filter (fun e => decide (e.2 < m))
  let k := (idx.map (fun e => (e.2, winPeak p (l.rd (MOD_DT_DTH x)) e.1))).filter (fun e => decide (e.2 < m))
  let pick := match secondShort v with
    | some e => some (e.1, m - e.2)
    | none =>
      match secondShort k with
      | some e => if l.prof ≠ 2 then some (e.1, m - e.2) else none
      | none => none
  match pick with
  | none => none
  | some (ph, s) =>
    match hs[ph]? with
    | none => none
    | some i =>
      let cap := Nat.min (i.cr - 1024) (i.cf - p / 2 - 1024)
      if cap = 0 then none else some (ph, Nat.min s cap)

/-- The gates of a group from the high and low intervals of its three phases, in the order of Table 3.1. -/
def gatesOf (hs ls : List Ival) : List Ival := (hs.zip ls).flatMap (fun e => [e.1, e.2])

/-- The on-times of the LE source after steps 1 to 3, and whether step 3 changed one (R108). -/
def Lane.leOn (l : Lane) (x : Ax) (p n : Nat) : Nat × Bool :=
  let on := minPulse ((2 * l.rd (MOD_DUTY x n) * p + 2 ^ 31) / 2 ^ 32) p (l.rd (MOD_MINPW_TICKS x))
  let c := envClamp on p (l.rd (MOD_ENVD_DMIN x)) (l.rd (MOD_ENVD_DMAX x))
  (c, decide (c ≠ on))

/-- The group of the LE source (R108, R125). -/
def Lane.leGroup (l : Lane) (x : Ax) : Grp :=
  let p := l.rd (MOD_PER_TICKS x)
  let ons := (List.range 3).map (l.leOn x p)
  let hs := ons.map (fun o => leIval o.1 p 0)
  let ch := l.shiftChoice x p hs
  let hs' := (ons.zip (List.range 3)).map (fun e =>
    leIval e.1.1 p (match ch with | some (ph, s) => if ph = e.2 then s else 0 | none => 0))
  let gs := gatesOf hs' (hs'.map (fun i => i.complement p))
  { per := p, cr := gs.map Ival.cr, cf := gs.map Ival.cf, clamped := ons.any (fun o => o.2)
    phase := match ch with | some (ph, _) => ph + 1 | none => 0
    shift := match ch with | some (_, s) => s | none => 0 }

/-- A gate interval of the DIRECT source after step 2. One that the minimum pulse turns off for the whole period gets the compares that the LE
formulas give such a gate, and so does one that step 3 turns off (DESIGN CHOICE, log entry 63). -/
def Lane.directIval (l : Lane) (x : Ax) (p n : Nat) : Ival :=
  let i : Ival := ⟨l.rd (cmpR x n), l.rd (cmpF x n)⟩
  let on := minPulse (i.len p) p (l.rd (MOD_MINPW_TICKS x))
  if on = i.len p then i else if on = 0 then Ival.none p else Ival.full p

/-- A phase of the DIRECT source after step 3: its two intervals, and whether the envelope changed it (R109). -/
def Lane.directPhase (l : Lane) (x : Ax) (p n : Nat) : Ival × Ival × Bool :=
  let h := l.directIval x p (2 * n)
  let on := h.len p
  let c := envClamp on p (l.rd (MOD_ENVD_DMIN x)) (l.rd (MOD_ENVD_DMAX x))
  if c = on then (h, l.directIval x p (2 * n + 1), false)
  else let r := h.resize p c; (r, r.complement p, true)

/-- The phases of a group that fail the overlap check, one bit each (R110). -/
def overlapMask (p : Nat) (hs : List (Ival × Ival × Bool)) : Nat :=
  (hs.zip (List.range 3)).foldl (fun a e => if e.1.1.meets e.1.2.1 p then a + 2 ^ e.2 else a) 0

/-- The group of the DIRECT source. -/
def directGroup (p : Nat) (hs : List (Ival × Ival × Bool)) : Grp :=
  let gs := gatesOf (hs.map (fun e => e.1)) (hs.map (fun e => e.2.1))
  { per := p, cr := gs.map Ival.cr, cf := gs.map Ival.cf, clamped := hs.any (fun e => e.2.2), phase := 0, shift := 0 }

/-- The group of the TABLE source, whose compares do not apply (R141). -/
def tableGroup (p : Nat) : Grp :=
  { per := p, cr := List.replicate 6 0, cf := List.replicate 6 0, clamped := false, phase := 0, shift := 0 }

/-! ### The stages (R114 to R121) -/

/-- Whether a profile has peak reloads (Table 3.2). -/
def peakReloads (prof : Nat) : Bool := decide (prof ≠ 2)

/-- A write or a COMMIT that lands in the CLK_PWM cycle of a reload belongs to the next one (R119). -/
def Lane.lateWrite (l : Lane) (x : Ax) : Lane :=
  match (l.ax x).md.reloadAt with
  | some t => if l.now < t + 4 then (l.set (MOD_STAT_LATEWR x)).eventAx x 9 else l
  | none => l

/-- The write stage holds a write since the last COMMIT. -/
def Lane.markDirty (l : Lane) (x : Ax) : Lane := l.setMd x { (l.ax x).md with dirty := true }

/-- A firmware write to the write stage (R114, R119, R121). In the TABLE source the carrier keeps the period of the profile (R141), and a
written period that is in its range is ignored (DEDUCED, log entry 63); one out of it is counted in any source. A compare above
the period is taken as it stands (DESIGN CHOICE, log entry 63). -/
def Lane.stageWrite (l : Lane) (x : Ax) (r : StageReg) (v : Nat) : Lane :=
  match r with
  | .period =>
    if periodOk (v % 2 ^ 25) = false then l.bump (MOD_REJ_RANGE x)
    else if srcIsTable l x then l
    else ((l.wr (MOD_PER_TICKS x) v).markDirty x).lateWrite x
  | .rise n =>
    if srcIsDirect l x then ((l.wr (cmpR x n) v).markDirty x).lateWrite x else l.bump (MOD_REJ_SRCREJ x)
  | .fall n =>
    if srcIsDirect l x then ((l.wr (cmpF x n) v).markDirty x).lateWrite x else l.bump (MOD_REJ_SRCREJ x)

/-- PEND and PERWAIT as the committed stage gives them (R116). -/
def Lane.stageFlags (l : Lane) (x : Ax) : Lane :=
  match (l.ax x).md.committed with
  | some g => (l.set (MOD_STAT_PEND x)).put (MOD_STAT_PERWAIT x) (g.per ≠ l.rd (MOD_PERA_TICKS x))
  | none => (l.clr (MOD_STAT_PEND x)).clr (MOD_STAT_PERWAIT x)

/-- A processed group enters the committed stage, with the duties that formed it and the reloads of the profile in force. -/
def Lane.fillCommitted (l : Lane) (x : Ax) (g : Grp) : Lane :=
  let g := { g with peaks := peakReloads l.prof, duty := (List.range 3).map (fun n => l.rd (MOD_DUTY x n)) }
  (l.setMd x { (l.ax x).md with committed := some g }).stageFlags x

/-- COMMIT (R115, R110). -/
def Lane.modCommit (l : Lane) (x : Ax) : Lane :=
  let l := l.lateWrite x
  let l := l.setMd x { (l.ax x).md with dirty := false, dirtySeen := false }
  if srcIsLe l x then l.fillCommitted x (l.leGroup x)
  else if srcIsDirect l x then
    let p := l.rd (MOD_PER_TICKS x)
    let hs := (List.range 3).map (l.directPhase x p)
    let m := overlapMask p hs
    if m = 0 then l.fillCommitted x (directGroup p hs)
    else ((l.set (MOD_STAT_OVERLAP x)).raiseOnce srcMOD 2 clsCE (some x) m).eventAx x 10
  else l.fillCommitted x (tableGroup (profPeriod l.prof))

/-- The three duties and the commit of the loop engine, one transfer (R59, R114); they go nowhere outside the LE source. -/
def Lane.modDuties (l : Lane) (x : Ax) (a b c : Nat) : Lane :=
  if srcIsLe l x then (((l.wr (MOD_DUTY x 0) a).wr (MOD_DUTY x 1) b).wr (MOD_DUTY x 2) c).modCommit x else l

/-- DISCARD (R120): the write stage takes the active group, with the duties that formed it. In the TABLE source it empties the committed stage
of a profile change too, so that the carrier keeps its period until the next COMMIT or profile change; whether R120 or R141 governs there the
spec leaves open (DESIGN CHOICE, log entry 63). -/
def Lane.modDiscard (l : Lane) (x : Ax) : Lane :=
  let l := l.setMd x { (l.ax x).md with committed := none, dirty := false, dirtySeen := false }
  let l := l.wr (MOD_PER_TICKS x) (l.rd (MOD_PERA_TICKS x))
  let l := l.each (List.range 6) (fun l n => (l.wr (cmpR x n) (l.rd (actR x n))).wr (cmpF x n) (l.rd (actF x n)))
  let l := l.each (List.range 3) (fun l n => l.wr (MOD_DUTY x n) (((l.ax x).md.duty[n]?).getD 0))
  l.stageFlags x

/-- The period that a profile brings (R104; R141 in the TABLE source, where the carrier runs at the profile period). -/
def Lane.modProfile (l : Lane) (x : Ax) : Lane :=
  let p := profPeriod l.prof
  if srcIsLe l x then ((l.wr (MOD_PER_TICKS x) p).markDirty x).lateWrite x
  else if srcIsTable l x then ((l.wr (MOD_PER_TICKS x) p).fillCommitted x (tableGroup p)).lateWrite x
  else l

/-- MOD_CTL_x.CNTCLR. -/
def Lane.modCntClr (l : Lane) (x : Ax) : Lane :=
  ((l.wr (MOD_STAT_UNPAIRED x) 0).setReg (MOD_REJ_RANGE x).addr 0#64).setReg (MOD_CLAMPCNT_ENVD x).addr 0#64

/-! ### Masks of measurable phases (R124, R127, R128) -/

/-- The high-side interval of a phase in the active stage. -/
def Lane.activeIval (l : Lane) (x : Ax) (n : Nat) : Ival := ⟨l.rd (actR x (2 * n)), l.rd (actF x (2 * n))⟩

/-- A mask from a test of each phase. -/
def maskOf (f : Nat → Bool) : Nat := (if f 0 then 1 else 0) + (if f 1 then 2 else 0) + (if f 2 then 4 else 0)

/-- The masks of the active group at the valley and at the peak, by the two formulas of R124, also for an interval of the DIRECT source that
wraps the valley or ends before the peak (DESIGN CHOICE, log entry 63). -/
def Lane.valleyMask (l : Lane) (x : Ax) : Nat :=
  let p := l.rd (MOD_PERA_TICKS x)
  maskOf (fun n => let i := l.activeIval x n; !i.moves p || decide (l.minWin x ≤ winValley p (l.rd (MOD_DT_DTL x)) i))

def Lane.peakMask (l : Lane) (x : Ax) : Nat :=
  let p := l.rd (MOD_PERA_TICKS x)
  maskOf (fun n => let i := l.activeIval x n; !i.moves p || decide (l.minWin x ≤ winPeak p (l.rd (MOD_DT_DTH x)) i))

/-- The latest of some edges, each a tick and whether it is a rise. -/
def latestEdge (es : List (Nat × Bool)) : Option (Nat × Bool) :=
  es.foldl (fun a e => match a with | some b => if b.1 ≤ e.1 then some e else a | none => some e) none

/-- The edges of an interval inside a span of the period. -/
def Ival.edges (i : Ival) (lo hi : Nat) : List (Nat × Bool) :=
  if i.cr = i.cf then [] else [(i.cr, true), (i.cf, false)].filter (fun e => decide (lo < e.1) && decide (e.1 < hi))

/-- The last edge of a high side before the valley, in a period of `p` ticks whose group changed at tick `s`: the edges of the old group up to
the change, a change of the demand at it, and the edges of the new group after it, a fall at the valley itself among them (R101, R128). -/
def lastEdge (o i : Ival) (p s : Nat) : Option (Nat × Bool) :=
  latestEdge (o.edges 0 s ++ (if o.at (s - 1) = i.at s then [] else [(s, i.at s)]) ++ i.edges s p ++
    (if 0 < i.cr ∧ i.cr < i.cf ∧ i.cf = p then [(p, false)] else []))

/-- The valley mask of a period whose group changed at the peak, from the edges as they occur (R128). -/
def Lane.mixedMask (l : Lane) (x : Ax) (old : Nat → Ival) : Nat :=
  let p := l.rd (MOD_PERA_TICKS x)
  maskOf (fun n =>
    match lastEdge (old n) (l.activeIval x n) p (l.ax x).md.splitAt with
    | none => true
    | some (t, up) => decide (l.minWin x ≤ p - t - (if up then l.rd (MOD_DT_DTH x) else l.rd (MOD_DT_DTL x))))

/-- The number of phases in a mask. -/
def maskCount (m : Nat) : Nat := m % 2 + m / 2 % 2 + m / 4 % 2

/-- The masks that a transfer passes on; fewer than two measurable phases set NOWIN (R127). MOD_SAMPV_x.PEAK shows the peak mask also in a
profile without peak samples (DESIGN CHOICE, log entry 63). -/
def Lane.passMasks (l : Lane) (x : Ax) (v k : Nat) : Lane :=
  let l := l.setMd x { (l.ax x).md with maskV := v, maskP := k }
  let l := (l.wr (MOD_SAMPV_VALLEY x) v).wr (MOD_SAMPV_PEAK x) k
  if maskCount v < 2 ∨ ((l.ax x).md.peaks ∧ maskCount k < 2) then
    let l := l.set (MOD_STAT_NOWIN x)
    (l.raiseOnce srcMOD 5 clsCE (some x) (l.dataOf (MOD_SAMPV_VALLEY x).addr)).eventAx x 12
  else l

/-! ### The demand of the gates (R100, R101, R107, R141) -/

/-- A reload begins: what the gates' demands were up to it is kept, and a new period, or its second part, starts (R101, R128). -/
def Lane.splitPeriod (l : Lane) (x : Ax) (peak : Bool) : Lane :=
  let l := l.gateMark x
  let m := (l.ax x).md
  let t := 16 * (l.now - m.valleyAt)
  let rose := if srcIsTable l x || decide (t = 0) then m.rose
    else (List.range 6).map (l.demandAt x (Nat.min (t - 1) (l.rd (MOD_PERA_TICKS x) - 1)))
  l.setMd x (if peak then { m with rose := rose, splitAt := t } else { m with rose := rose, valleyAt := l.now, splitAt := 0 })

/-- Whether a switching state, bit 2 U, has a gate on. -/
def stateGate (v n : Nat) : Bool := v.testBit (2 - n / 2) = decide (n % 2 = 0)

/-- The torque-table engine delivers a switching state: the demands follow (R141). -/
def Lane.stateDemand (l : Lane) (x : Ax) (v : Nat) : Lane :=
  let l := l.gateMark x
  let m := (l.ax x).md
  l.setMd x { m with rose := (List.range 6).map (fun n => if stateGate v n then some ((m.roseAt n).getD (16 * l.now)) else none) }

/-! ### The reload (R102, R116 to R119) -/

/-- The committed group transfers into the active stage (R116, R111); the reloads of its profile take effect at a valley (R102). -/
def Lane.transfer (l : Lane) (x : Ax) (g : Grp) (peak : Bool) : Lane :=
  let old := fun n => l.activeIval x n
  let was := (l.ax x).md.clampOn
  let l := l.setMd x { (l.ax x).md with
    committed := none, clampOn := g.clamped, duty := g.duty, peaksTo := g.peaks, peaks := if peak then (l.ax x).md.peaks else g.peaks }
  let l := l.wr (MOD_PERA_TICKS x) g.per
  let l := l.each (List.range 6) (fun l n => (l.wr (actR x n) ((g.cr[n]?).getD 0)).wr (actF x n) ((g.cf[n]?).getD 0))
  let l := (l.wr (MOD_SHIFT_PHASE x) g.phase).wr (MOD_SHIFT_S x) g.shift
  let l := if g.clamped then
      let l := l.bump (MOD_CLAMPCNT_ENVD x)
      let l := l.raiseOnce srcMOD 3 clsCE (some x) (l.dataOf (MOD_CLAMPCNT_ENVD x).addr)
      if was then l else l.eventAx x 14
    else l
  let l := l.stageFlags x
  if srcIsTable l x then l else l.passMasks x (if peak then l.mixedMask x old else l.valleyMask x) (l.peakMask x)

/-- An uncommitted write seen at two reloads running is counted (R118). -/
def Lane.unpaired (l : Lane) (x : Ax) : Lane :=
  let m := (l.ax x).md
  let l := l.setMd x { m with dirtySeen := m.dirty }
  if m.dirty && m.dirtySeen then
    let l := l.bump (MOD_STAT_UNPAIRED x)
    (l.raiseOnce srcMOD 1 clsCE (some x) (l.dataOf (MOD_STAT_UNPAIRED x).addr)).eventAx x 8
  else l

/-- The hall lines that the modulator sends the driver die in passthrough: the own raw lines, or those of the position source in force, which
an angle gives by Table 6.4 (R142; the angle of the observer is taken likewise, DEDUCED, and while no source is in force the code is 0 0 0,
DESIGN CHOICE, log entry 63). -/
def Lane.hallLines (l : Lane) (x : Ax) : Nat :=
  let f := (l.ax x).fb
  if l.on (MOD_PASS_HSRC x) then f.raw
  else
    match l.rd (FB_STAT_SRC x) with
    | 1 => l.scCode x
    | 2 => f.maskHall.getD f.own.code
    | 3 => f.nextNb.code
    | 4 => f.prevNb.code
    | 5 => codeOfAngle ((Q.of (l.ax x).tq.thPll).add (l.hofs x))
    | _ => 0

/-- A passthrough request takes effect at a valley reload (R142). -/
def Lane.passStep (l : Lane) (x : Ax) : Lane :=
  match (l.ax x).md.passReq with
  | none => l
  | some b =>
    let l := l.setMd x { (l.ax x).md with passReq := none }
    if l.on (MOD_STAT_PASS x) = b then l
    else
      let l := l.commChange x (fun l => ((l.put (MOD_STAT_PASS x) b).put (GD_STAT_PASS x) b).when b (fun l => l.commHall x (l.hallLines x)))
      (l.eventAx x 13).leSettle x

/-- What a valley reload does beside the transfer: the interlock holds end, trips are released, passthrough changes, and a new trim reaches
the output lines (R190, R137, R142, R105). -/
def Lane.valleyStep (l : Lane) (x : Ax) : Lane :=
  let l := ((l.interlockEnd x).tripValley x).passStep x
  let m := (l.ax x).md
  l.setMd x { m with trim := m.trimNew.getD m.trim, trimNew := none }

/-- The sample instant of a carrier extreme: the first CLK_LE edge at or after it, plus SOFS cycles (R220). -/
def Lane.sampleInstant (l : Lane) (x : Ax) : Nat := (l.now + 3) / 4 * 4 + 4 * l.rd (AD_CFG_SOFS x)

/-- Whether a reload instant exists: the carrier runs, and the period has a peak reload (R99, R102). -/
def Lane.reloadRuns (l : Lane) (x : Ax) (peak : Bool) : Bool := (l.ax x).md.running && (!peak || (l.ax x).md.peaks)

/-- A reload (R116 to R118), with the mask of the sample instant at this extreme. -/
def Lane.modReload (l : Lane) (x : Ax) (peak : Bool) : Lane :=
  let l := l.splitPeriod x peak
  let m := (l.ax x).md
  let l := l.setAd x { (l.ax x).ad with sampAt := l.sampleInstant x }
  let l := l.setMd x { m with mask := (if peak then m.maskP else m.maskV), reloadAt := some l.now, peaks := if peak then m.peaks else m.peaksTo }
  let l := if peak then l else l.valleyStep x
  let l := l.unpaired x
  let l := match (l.ax x).md.committed with
    | some g => if peak ∧ g.per ≠ l.rd (MOD_PERA_TICKS x) then l else l.transfer x g peak
    | none => l
  if peak then l else l.setMd x { (l.ax x).md with maskP := l.peakMask x, maskV := l.valleyMask x }

/-- The carrier starts at ARMING entry: the write stage's period becomes active at that valley (R99); in the TABLE source the carrier runs at
the profile period (R141). -/
def Lane.carrierStart (l : Lane) (x : Ax) : Lane :=
  let l := l.gateMark x
  let l := l.wr (MOD_PERA_TICKS x) (if srcIsTable l x then profPeriod l.prof else l.rd (MOD_PER_TICKS x))
  let l := l.setAd x { (l.ax x).ad with sampAt := l.sampleInstant x }
  let l := l.setMd x { (l.ax x).md with
    running := true, reloadAt := some l.now, valleyAt := l.now, splitAt := 0, peaks := peakReloads l.prof, peaksTo := peakReloads l.prof }
  l.when (srcIsTable l x) (fun l => l.stateDemand x (l.rd (TQ_STAT_VEC x)))

/-! ### The delay line (R105, R107) -/

/-- MOD_HRCAL_x as it reads, with its age (R105). Before the first success after a reset, which has no age, AGE_US reads its reset value 0
(DESIGN CHOICE, log entry 63). -/
def Lane.hrcalNow (l : Lane) (x : Ax) : Lane :=
  match (l.ax x).md.calAt with
  | some t => l.wr (MOD_HRCAL_AGE_US x) (Nat.min 65535 ((l.now - t) / usec))
  | none => l.wr (MOD_HRCAL_AGE_US x) 0

/-- A recalibration of the replica succeeds or fails (R105, R107). -/
def Lane.hrCal (l : Lane) (x : Ax) (ok : Bool) (taps : Nat) : Lane :=
  let l := l.wr (MOD_HRCAL_TAPS x) taps
  if ok then (l.setMd x { (l.ax x).md with calAt := some l.now, trimNew := some taps }).clr (MOD_STAT_HRDEG x)
  else
    let l := ((l.set (MOD_STAT_HRFAIL x)).set (MOD_STAT_HRDEG x)).hrcalNow x
    (l.raise srcMOD 4 clsCE (some x) (l.dataOf (MOD_HRCAL_TAPS x).addr)).eventAx x 11

/-- The address of a register of the write stage. -/
def stageAddr (r : StageReg) (x : Ax) : Nat :=
  match r with
  | .period => (MOD_PER_TICKS x).addr
  | .rise n => (cmpR x n).addr
  | .fall n => (cmpF x n).addr

/-! ### The meanings -/

def execModWriteStageWrite (i : LaneId) (x : Ax) (r : StageReg) (v : Word32) (s : State) : Host.Outcome State Fault Refusal :=
  s.accX i x (.pg x) (wrAcc (stageAddr r x) 4 (v.setWidth 64)) (fun l => l.stageWrite x r v.toNat)
def execModCommit (i : LaneId) (x : Ax) (s : State) : Host.Outcome State Fault Refusal :=
  s.accX i x (.pg x) (bitAcc (MOD_CTL_COMMIT x).addr 1) (fun l => l.modCommit x)
def execModDiscard (i : LaneId) (x : Ax) (s : State) : Host.Outcome State Fault Refusal :=
  s.accX i x (.pg x) (bitAcc (MOD_CTL_COMMIT x).addr 2) (fun l => l.modDiscard x)
def execModPasson (i : LaneId) (x : Ax) (s : State) : Host.Outcome State Fault Refusal :=
  s.accX i x (.pg x) (bitAcc (MOD_CTL_COMMIT x).addr 4) (fun l => l.setMd x { (l.ax x).md with passReq := some true })
def execModPassoff (i : LaneId) (x : Ax) (s : State) : Host.Outcome State Fault Refusal :=
  s.accX i x (.pg x) (bitAcc (MOD_CTL_COMMIT x).addr 8) (fun l => l.setMd x { (l.ax x).md with passReq := some false })
def execModCntclr (i : LaneId) (x : Ax) (s : State) : Host.Outcome State Fault Refusal :=
  s.accX i x (.pg x) (bitAcc (MOD_CTL_COMMIT x).addr 16) (fun l => l.modCntClr x)
def execDelayLineCalibration (i : LaneId) (x : Ax) (ok : Bool) (taps : Fin 128) (s : State) : Host.Outcome State Fault Refusal :=
  s.actX i x (.pg x) (fun l => l.hrCal x ok taps)

end Sys2Proof.Machine
end

