-- ==== Sys2Proof/Machine/Loop.lean ====
section
/-!
DEFINITION. The loop engine: the inner period with its output and reference parts, the loop states, the write classes, and the rollback
(spec/02_loop_engine.md), with the inputs that the sensorless start substitutes (spec/04_torque_table_sensorless.md R168 to R174).
-/

namespace Sys2Proof.Machine

/-! ### The inputs of a period (R56, R57) -/

/-- t_in, the modulator period in force divided by the current samples per PWM period of the profile (R57). The exact quotient is rounded to
Q24.40 once, and the profile's number of samples counts from the boundary on, MOD_PERA_x from its transfer on (DESIGN CHOICE, log entry
63). -/
def Lane.tIn (l : Lane) (x : Ax) : Q :=
  let n : Int := if l.prof = 2 then 1 else 2
  Q.sat (Q.roundDiv ((l.rd (MOD_PERA_TICKS x) : Int) * 390625 * Q.unit) (10000000000000000 * n)) false

/-- t_out, the outer cycle in force, rounded to Q24.40 (DESIGN CHOICE, log entry 63). -/
def Lane.tOut (l : Lane) : Q := Q.sat (Q.roundDiv ((outerUs l.prof : Int) * Q.unit) 1000000) false

/-- Whether the TQ engine substitutes the loop engine's references: ALIGN or RAMP (R170). -/
def Lane.substituted (l : Lane) (x : Ax) : Bool :=
  decide (l.rd (TQ_STAT_SLSTATE x) = slAlign) || decide (l.rd (TQ_STAT_SLSTATE x) = slRamp)

/-- Whether ints and intp stop: ALIGN, RAMP and CATCH (R170). -/
def Lane.slHolds (l : Lane) (x : Ax) : Bool := l.substituted x || decide (l.rd (TQ_STAT_SLSTATE x) = slCatch)

/-- The bound of the arming current while ARMING (R65). -/
def Lane.armed (l : Lane) (x : Ax) (b : Q) : Q := if l.mode = mArming then Q.min b (l.q (LE_ARMI x)) else b

/-- A limit with its envelope bounds: the limit, and whether the envelope bound, or the arming bound, is the binding one of a demand (R65,
R66). -/
def Lane.envLimit (l : Lane) (x : Ax) (own env u : Q) : Q × Bool × Bool :=
  let b := Q.min own env
  let lim := l.armed x b
  let out := decide (lim.raw < u.raw) || decide (u.raw < -lim.raw)
  let arm := l.mode = mArming && decide ((l.q (LE_ARMI x)).raw < b.raw)
  (lim, out && !arm && decide (env.raw < own.raw), out && arm)

/-- The current that the sensorless start asks for, within R65, and whether the envelope or the arming bound binds it (R170; R171 takes the
same current, DEDUCED, log entry 63). -/
def Lane.slCurrent (l : Lane) (x : Ax) : Q × Bool × Bool :=
  let i := if l.rd (TQ_STAT_SLSTATE x) = slAlign then l.q (TQ_ALIGNI x) else l.q (TQ_RAMPI x)
  let e := l.envLimit x (.of Q.top) (l.q (LE_ENVID x)) i
  (Q.clampSym i e.1, e.2.1, e.2.2)

/-- The inputs of the output part: currents, link voltage, angle, speed, and the references in use. -/
structure LeIn where
  ad : AdVals
  th : Q
  we : Q
  idref : Q
  iqref : Q
deriving DecidableEq, Repr

/-- The angle and the speeds that the loop engine captures: the forced ones while the TQ engine substitutes them (R170). -/
def Lane.lePosn (l : Lane) (x : Ax) (p : Posn) : Posn :=
  let t := (l.ax x).tq
  if l.substituted x then { p with th := .of t.thFo, we := .of t.wFo, wm := (Q.of t.wFo).div (Q.int (l.rd (TQ_CFG_PP x))) } else p

/-- The inputs of a period (R56, R170). -/
def Lane.leIn (l : Lane) (x : Ax) (v : AdVals) (p : Posn) : LeIn :=
  let s := (l.ax x).le
  let p := l.lePosn x p
  if l.substituted x then ⟨v, p.th, p.we, (l.slCurrent x).1, .zero⟩ else ⟨v, p.th, p.we, .of s.idref, .of s.iqref⟩

/-! ### The output part (R58) -/

/-- What the output part gives: the measured currents, the voltages, the limiter, the integrators and the three duties. -/
structure LeOut where
  id : Q
  iq : Q
  vd : Q
  vq : Q
  satc : Bool
  intd : Q
  intq : Q
  da : Nat
  db : Nat
  dc : Nat
  ovf : Bool
deriving DecidableEq, Repr

/-- The voltage limiter (LE_CFG_x.VLPRIO). -/
def vlimit (prop : Bool) (vdu vqu vmax : Q) : Q × Q :=
  if prop then
    let m := ((vdu.mul vdu).add (vqu.mul vqu)).sqrt
    if vmax.raw < m.raw then ((vdu.mul vmax).div m, (vqu.mul vmax).div m) else (vdu, vqu)
  else
    let vd := Q.clampSym vdu vmax
    let vqm := ((vmax.mul vmax).sub (vd.mul vd)).sqrt
    (vd, Q.clampSym vqu vqm)

/-- A duty as an unsigned 32-bit fraction of the period, raw / 2^31 (R59); the Q24.40 duty is rounded to the nearest fraction, ties up
(DESIGN CHOICE, log entry 63). -/
def dutyRaw (d : Q) : Nat := (Q.roundDiv d.raw 512).toNat

/-- The Clarke transform, amplitude-invariant. -/
def clarke (v : AdVals) : Q × Q :=
  (((((Q.int 2).mul v.ia).sub v.ib).sub v.ic).div (Q.int 3), (v.ib.sub v.ic).div Q.sqrt3)

/-- The output part from the measured values; `bump` presets the integrators of a bumpless close (Table 2.5). -/
def Lane.leOutput (l : Lane) (x : Ax) (i : LeIn) (closed bump : Bool) : LeOut :=
  let s := (l.ax x).le
  let tin := l.tIn x
  let ab := clarke i.ad
  let c := Q.cos i.th
  let sn := Q.sin i.th
  let id := (c.mul ab.1).add (sn.mul ab.2)
  let iq := ((sn.neg).mul ab.1).add (c.mul ab.2)
  let o0 := l.q (LE_OPENOUT0 x)
  let o1 := l.q (LE_OPENOUT1 x)
  let ed := i.idref.sub id
  let eq := i.iqref.sub iq
  let pd := (l.q (LE_KPD x)).mul ed
  let pq := (l.q (LE_KPQ x)).mul eq
  let intd := if bump then o0.sub pd else Q.of s.intd
  let intq := if bump then o1.sub pq else Q.of s.intq
  let vdu := pd.add intd
  let vqu := pq.add intq
  let vmax := ((l.q (LE_VLIM x)).mul i.ad.vdc).div Q.sqrt3
  let lim := vlimit (l.on (LE_CFG_VLPRIO x)) vdu vqu vmax
  let satc := closed && (decide (lim.1.raw ≠ vdu.raw) || decide (lim.2.raw ≠ vqu.raw))
  let vd := if closed then lim.1 else o0
  let vq := if closed then lim.2 else o1
  let intd' := if closed && !satc then intd.add (((l.q (LE_KID x)).mul tin).mul ed) else intd
  let intq' := if closed && !satc then intq.add (((l.q (LE_KIQ x)).mul tin).mul eq) else intq
  let tho := i.th.add (i.we.mul (l.q (LE_ADV x)))
  let co := Q.cos tho
  let so := Q.sin tho
  let val := (co.mul vd).sub (so.mul vq)
  let vbe := (so.mul vd).add (co.mul vq)
  let h := (val.neg).div (Q.int 2)
  let k := (Q.sqrt3.div (Q.int 2)).mul vbe
  let va := val
  let vb := h.add k
  let vc := h.sub k
  let v0 := if l.on (LE_CFG_ZSEQ x) then Q.zero
    else ((Q.max (Q.max va vb) vc).add (Q.min (Q.min va vb) vc)).neg.div (Q.int 2)
  let dv := if i.ad.vdc.raw < Q.unit then Q.one else i.ad.vdc
  let duty := fun (v : Q) => Q.clamp (Q.half.add ((v.add v0).div dv)) Q.zero Q.one
  { id := id, iq := iq, vd := vd, vq := vq, satc := satc, intd := intd', intq := intq'
    da := dutyRaw (duty va), db := dutyRaw (duty vb), dc := dutyRaw (duty vc)
    ovf := id.ovf || iq.ovf || (duty va).ovf || (duty vb).ovf || (duty vc).ovf || intd'.ovf || intq'.ovf || (closed && (lim.1.ovf || lim.2.ovf || vmax.ovf)) }

/-! ### Feed-forward (R68, R69) -/

/-- A signed 32-bit table entry (R68, R69); an entry whose value lies outside Q24.40 saturates as it is converted (DESIGN CHOICE, log entry
63). -/
def Lane.entry32 (l : Lane) (a : Nat) : Q := Q.int (signed 32 (leNat (l.bytes a 4)))

/-- The bases of the feed-forward tables of an axis (Table 18.3). -/
def fricBase (x : Ax) : Nat := 0xF01080000 + x.off
def cogBase (x : Ax) : Nat := 0xF010A0000 + x.off

/-- The friction term, and whether its index was clamped at an end of the table (R68). -/
def Lane.friction (l : Lane) (x : Ax) (pos wm : Q) : Q × Bool :=
  let u := (pos.sub (l.q (LE_FRICORG x))).div (l.q (LE_FRICSTEP x))
  let low := decide (u.raw < 0)
  let high := decide ((Q.int 1023).raw < u.raw)
  let u := if low then Q.zero.flag u.ovf else if high then (Q.int 1023).flag u.ovf else u
  let i := u.floor.toNat
  let f := u.sub (Q.int u.floor)
  let e0 := l.entry32 (fricBase x + 4 * i)
  let e := if i < 1023 then e0.add (f.mul ((l.entry32 (fricBase x + 4 * (i + 1))).sub e0)) else e0.flag u.ovf
  let fv := l.q (LE_FRICVEL x)
  let g := if 0 < fv.raw then Q.clamp (wm.div fv) (Q.neg Q.one) Q.one else signQ wm
  ((g.mul e).mul (l.q (LE_FRICSCL x)), low || high)

/-- The cogging term (R69). -/
def Lane.cogging (l : Lane) (x : Ax) (pos : Q) : Q :=
  let u := (pos.mod2pi.mul (Q.int 4096)).div Q.twoPi
  let i := u.floor.toNat % 4096
  let f := u.sub (Q.int u.floor)
  let e0 := l.entry32 (cogBase x + 4 * i)
  (e0.add (f.mul ((l.entry32 (cogBase x + 4 * ((i + 1) % 4096))).sub e0))).mul (l.q (LE_COGSCL x))

/-! ### The reference part -/

/-- What the reference part gives. -/
structure LeRef where
  st : LeSt
  tff : Q
  tout : Q
  slew : Bool
  satp : Bool
  sats : Bool
  fricend : Bool
  cSlew : Bool
  cShare : Bool
  cIref : Bool
  cArm : Bool
  ovf : Bool
deriving DecidableEq, Repr

/-- The share in use, clamped to its range and the envelope, and whether the envelope bound it (R65, R85). -/
def Lane.shareC (l : Lane) (x : Ax) : Q × Bool :=
  let r := Q.clamp (l.q (LE_SHARE x)) Q.zero Q.one
  let env := l.q (LE_ENVSHARE x)
  (Q.min r env, decide (env.raw < r.raw))

/-- The position and speed cascade of one reference part (R64, R71): the state after it, with its saturations. A clamp by LE_TLIM_x in TORQUE
mode, by LE_SPDLIM_x in SPEED mode or by LE_IDLIM_x shows in no live bit of LE_STAT_x, because none of them tells of it (DESIGN CHOICE, log
entry 63). -/
def Lane.leCascade (l : Lane) (x : Ax) (p : Posn) (s : LeSt) (setp : Q) (closed : Bool) : LeSt × Bool × Bool × Bool :=
  let mode := l.rd (LE_CFG_MODE x)
  let nspd := 2 ^ l.rd (LE_CFG_NSPD x)
  let npos := 2 ^ l.rd (LE_CFG_NPOS x)
  let tin := l.tIn x
  let run := closed && !l.slHolds x
  let spdlim := l.q (LE_SPDLIM x)
  let tlim := l.q (LE_TLIM x)
  let (s, satp, o1) :=
    if mode = 2 ∧ s.nIn % (nspd * npos) = 0 then
      let tp := (tin.mul (Q.int nspd)).mul (Q.int npos)
      let ep := setp.sub p.pos
      let ws := ((l.q (LE_KPP x)).mul ep).add (.of s.intp)
      let wref := Q.clampSym ws spdlim
      let sat := decide (wref.raw ≠ ws.raw)
      let ip := (Q.of s.intp).add (((l.q (LE_KIP x)).mul tp).mul ep)
      ({ s with wref := wref.raw, intp := if run && !sat then ip.raw else s.intp }, sat, ws.ovf || (run && !sat && ip.ovf))
    else (s, mode = 2 && l.on (LE_STAT_SATP x), false)
  let s := if mode = 1 then { s with wref := (Q.clampSym setp spdlim).raw } else s
  let (s, sats, o2) :=
    if mode ≠ 0 ∧ s.nIn % nspd = 0 then
      let ts := tin.mul (Q.int nspd)
      let flt := l.q (LE_SPDFLT x)
      let a := if 0 < flt.raw then Q.min Q.one (flt.mul ts) else Q.one
      let wf := (Q.of s.wf).add (a.mul (p.wm.sub (.of s.wf)))
      let es := (Q.of s.wref).sub wf
      let tu := ((l.q (LE_KPS x)).mul es).add (.of s.ints)
      let tref := Q.clampSym tu tlim
      let sat := decide (tref.raw ≠ tu.raw) || s.iqclamp
      let is := (Q.of s.ints).add (((l.q (LE_KIS x)).mul ts).mul es)
      ({ s with wf := wf.raw, tref := tref.raw, ints := if run && !sat then is.raw else s.ints }, sat,
        wf.ovf || tu.ovf || (run && !sat && is.ovf))
    else (s, decide (mode ≠ 0) && l.on (LE_STAT_SATS x), false)
  let s := if mode = 0 then { s with tref := (Q.clampSym setp tlim).raw } else s
  (s, satp, sats, o1 || o2)

/-- The reference part (R60 to R71); `s0` is the state after the output part. -/
def Lane.leReference (l : Lane) (x : Ax) (p : Posn) (s0 : LeSt) (closed : Bool) : LeRef :=
  let tin := l.tIn x
  let step := ((l.q (LE_ENVSLEW x)).mul tin).div l.tOut
  let want := (l.q (LE_SETP x)).sub (.of s0.setpEff)
  let move := Q.clampSym want step
  let setp := (Q.of s0.setpEff).add move
  let slew := decide (move.raw ≠ want.raw)
  let (s, satp, sats, o1) := l.leCascade x p { s0 with setpEff := setp.raw } setp closed
  let fr := if l.on (LE_CFG_FRIC_EN x) then l.friction x p.pos p.wm else (Q.zero, false)
  let cg := if l.on (LE_CFG_COG_EN x) then l.cogging x p.pos else Q.zero
  let ffs := Q.clamp (l.q (LE_FFS x)) Q.zero (Q.int 2)
  let tff := ffs.mul (fr.1.add cg)
  let share := l.shareC x
  let kt := l.q (LE_KTINV x)
  let tt := (Q.of s.tref).add tff
  let iqu := (share.1.mul kt).mul tt
  let trim := Q.clamp (l.q (LE_IQTRIM x)) Q.zero ((Q.int 3).div (Q.int 2))
  let lq := l.envLimit x ((l.q (LE_IQLIM x)).mul trim) (l.q (LE_ENVIQ x)) iqu
  let iqref := Q.clampSym iqu lq.1
  let idr := l.q (LE_IDREF x)
  let ld := l.envLimit x (l.q (LE_IDLIM x)) (l.q (LE_ENVID x)) idr
  let idref := Q.clampSym idr ld.1
  let table := l.on (LE_STAT_DRIVE x)
  let tout := if table then Q.clampSym (share.1.mul tt) (lq.1.div kt) else .of s.tout
  { st := { s with iqref := iqref.raw, idref := idref.raw, iqclamp := decide (iqref.raw ≠ iqu.raw), nIn := s.nIn + 1, tout := tout.raw }
    tff := tff, tout := tout, slew := slew, satp := satp, sats := sats, fricend := fr.2
    cSlew := slew, cShare := share.2, cIref := lq.2.1 || ld.2.1, cArm := lq.2.2 || ld.2.2
    ovf := setp.ovf || o1 || iqu.ovf || lq.1.ovf || tff.ovf || p.wm.ovf || (table && tout.ovf) }

/-! ### The sensorless start (Table 4.5, R168, R174) -/

/-- A saturation of the arithmetic (R55, R589). -/
def Lane.leOvf (l : Lane) (x : Ax) (o : Bool) : Lane :=
  if o then ((l.set (LE_STAT_OVF x)).raiseOnce srcLE 6 clsCE (some x) 0).eventAx x 5 else l

/-- ALIGN begins: the align timer at 0, the references substituted. -/
def Lane.slAlignStart (l : Lane) (x : Ax) : Lane :=
  let t := (l.ax x).tq
  (l.setTq x { t with alignAt := t.n, thFo := l.rdS (TQ_ALIGNANG x), wFo := 0, holdAt := none, lowAt := none }).slSet x slAlign

/-- The line-to-line peak back-EMF at a speed (R174). -/
def Lane.backEmf (l : Lane) (x : Ax) (w : Q) : Q := (Q.sqrt3.mul w.abs).mul (l.q (TQ_PSIM x))

/-- TQ_LOCKLOST: axis safe state with ASC, and FAILED; `tried` tells that a catch was attempted (R174, Table 4.5). e_ll is rounded down to
whole mV in its data (DESIGN CHOICE, log entry 63). -/
def Lane.lockLost (l : Lane) (x : Ax) (ell : Q) (tried : Bool) : Lane :=
  let mv := (ell.raw * 1000 / Q.unit).toNat
  ((l.leOvf x ell.ovf).raise srcTQ 3 clsUC (some x) ((if tried then 1 else 0) + 256 * (mv % 2 ^ 32))).axisSafe x 7 true

/-- The catch-or-ASC decision; `again` tells that lock was lost within 10 ms of a catch (R174). -/
def Lane.catchOrAsc (l : Lane) (x : Ax) (w vdc : Q) (again : Bool) : Lane :=
  let ell := l.backEmf x w
  if decide (ell.raw < Q.roundDiv (vdc.raw * 8) 10) && l.on (TQ_CFG_CATCHEN x) && !again then
    let l := l.leOvf x ell.ovf
    let t := (l.ax x).tq
    ((l.setTq x { t with catchAt := t.n, catchW := w.raw, pulses := 0, cons := 0, holdAt := none, lowAt := none }).slSet x slCatch).leSettle x
  else l.lockLost x ell false

/-- What takes an axis out of OFF (R168, Table 4.5); `entering` tells that the loop enters CLOSED. Where the first row and a later one hold at
once, the first row is taken (DESIGN CHOICE, log entry 63). -/
def Lane.slBegin (l : Lane) (x : Ax) (vdc : Q) (entering : Bool) : Lane :=
  if l.part.hasTq = false ∨ l.rd (TQ_STAT_SLSTATE x) ≠ slOff then l
  else if l.rd (TQ_CFG_SLMODE x) = 2 ∧ entering then l.slAlignStart x
  else if 1 ≤ l.rd (TQ_CFG_SLMODE x) ∧ l.on (FB_STAT_NOSRC x) ∧ (l.ax x).fb.judged ∧ l.rd (LE_STAT_STATE x) = leClosed then
    if l.on (TQ_STAT_LOCK x) then l.slSet x slRun
    else
      let w := Q.of (l.ax x).tq.wSens
      if w.abs.raw < l.rdS (TQ_HOSPD x) then l.slAlignStart x else l.catchOrAsc x w vdc false
  else l

/-- The forced speed and angle of RAMP move over a time (R170, R171); the angle is kept between 0 and 2π, the range of th_e in Table 2.2
(DESIGN CHOICE, log entry 63). -/
def Lane.rampStep (l : Lane) (x : Ax) (dt : Q) : Lane :=
  if l.rd (TQ_STAT_SLSTATE x) = slRamp then
    let t := (l.ax x).tq
    let top := l.q (TQ_HOSPD x)
    let w := Q.clampSym ((Q.of t.wFo).add ((l.q (TQ_RAMPACC x)).mul dt)) top
    let th := ((Q.of t.thFo).add (w.mul dt)).mod2pi
    let at0 := decide (top.raw ≤ w.abs.raw)
    (l.setTq x { t with wFo := w.raw, thFo := th.raw, holdAt := if at0 then some (t.holdAt.getD t.n) else none }).leOvf x (th.ovf || w.ovf)
  else l

/-! ### The inner period (R56, R77, R92 to R94) -/

/-- A request takes effect at an input latch (Table 2.5): the lane after it, and whether the loop enters CLOSED. -/
def Lane.leRequest (l : Lane) (x : Ax) : Lane × Bool :=
  let s := (l.ax x).le
  let l' := l.setLe x { s with req := none }
  match s.req with
  | none => (l, false)
  | some true =>
    if l.on (LE_STAT_FORCED x) then (l'.bump (LE_REJ_CLOSEREJ x), false)
    else
      let l' := (l'.openStop x).wr (LE_STAT_STATE x) leClosed
      ((l'.setLe x { (l'.ax x).le with nIn := 0 }).eventAx x 2, true)
  | some false =>
    if l.rd (LE_STAT_STATE x) = leClosed then
      let o := if l.on (LE_STAT_DRIVE x) then (l'.wrS (LE_OPENOUT0 x) s.tout)
        else (l'.wrS (LE_OPENOUT0 x) s.vd).wrS (LE_OPENOUT1 x) s.vq
      ((((o.wr (LE_STAT_STATE x) leOpen).openStart x).eventAx x 2).slLeave x, false)
    else (l', false)

/-- The envelope clamps of a period are counted (R66, Table 2.10). -/
def Lane.leClamps (l : Lane) (x : Ax) (r : LeRef) : Lane :=
  let any := r.cSlew || r.cShare || r.cIref || r.cArm
  let was := (l.ax x).le.clampOn
  let l := l.when r.cArm (fun l => l.bump (LE_CLAMPCNT_ARM x))
  let l := l.when r.cShare (fun l => l.bump (LE_CLAMPCNT_SHARE x))
  let l := l.when r.cSlew (fun l => l.bump (LE_CLAMPCNT_SLEW x))
  let l := l.when r.cIref (fun l => l.bump (LE_CLAMPCNT_IREF x))
  let l := l.when any (fun l => l.raiseOnce srcLE 4 clsCE (some x) (l.dataOf (LE_CLAMPCNT_ARM x).addr))
  let l := l.when (any && !was) (fun l => l.eventAx x 3)
  l.setLe x { (l.ax x).le with clampOn := any }

/-- The observation registers take the period's values (R74). While the start substitutes the references, LE_IDREFE_x and LE_IQREFE_x still show
those of the reference part (DESIGN CHOICE, log entry 63). -/
def Lane.leObserve (l : Lane) (x : Ax) : Lane :=
  let s := (l.ax x).le
  let l := (((l.wrS (LE_IDREFE x) s.idref).wrS (LE_IQREFE x) s.iqref).wrS (LE_TREF x) s.tref).wrS (LE_WREF x) s.wref
  let l := (((l.wrS (LE_SETPEFF x) s.setpEff).wrS (LE_INTD x) s.intd).wrS (LE_INTQ x) s.intq).wrS (LE_INTS x) s.ints
  (l.wrS (LE_INTP x) s.intp).wrS (LE_SPDF x) s.wf

/-- The reference part with what it records. -/
def Lane.leRefStep (l : Lane) (x : Ax) (p : Posn) : Lane :=
  let r := l.leReference x p (l.ax x).le (decide (l.rd (LE_STAT_STATE x) = leClosed))
  let l := l.setLe x r.st
  let l := ((l.put (LE_STAT_SLEW x) r.slew).put (LE_STAT_SATP x) r.satp).put (LE_STAT_SATS x) r.sats
  let sc := l.slCurrent x
  let sub := l.substituted x
  let r := { r with cIref := r.cIref || (sub && sc.2.1), cArm := r.cArm || (sub && sc.2.2) }
  let l := (l.put (LE_STAT_IQLIM x) r.st.iqclamp).when r.fricend (fun l => l.set (LE_STAT_FRICEND x))
  let l := ((l.wq (LE_FFT x) r.tff).leClamps x r).leObserve x
  l.leOvf x r.ovf

/-- The output part with what it records: the integrators, the observed currents and voltages, and the duties for the modulator. -/
def Lane.leOutStep (l : Lane) (x : Ax) (v : AdVals) (p : Posn) (entering : Bool) : Lane × LeOut :=
  let closed := decide (l.rd (LE_STAT_STATE x) = leClosed)
  let o := l.leOutput x (l.leIn x v p) closed (entering && l.on (LE_CFG_BUMPLESS x))
  let l := l.setLe x { (l.ax x).le with intd := o.intd.raw, intq := o.intq.raw, vd := o.vd.raw, vq := o.vq.raw }
  let l := (((l.wq (LE_ID x) o.id).wq (LE_IQ x) o.iq).wq (LE_VD x) o.vd).wq (LE_VQ x) o.vq
  ((l.put (LE_STAT_SATC x) o.satc).leOvf x o.ovf, o)

/-- A rollback (R92 to R94): `l` is the lane with the state of the input latch restored. -/
def Lane.leRollback (l : Lane) (x : Ax) (output : Bool) : Lane :=
  let l := l.when output (fun l => l.set (LE_STAT_HOLD x))
  let s := (l.ax x).le
  let third := match s.rbTimes with
    | [_, t] => decide (l.now - t ≤ 10 * msec)
    | _ => false
  let l := l.bump (LE_RBCNT_TOTAL x)
  let data := (if output then 1 else 0) + 256 * l.rd (LE_RBCNT_TOTAL x)
  let l := l.setLe x { s with rbTimes := (l.now :: s.rbTimes).take 2 }
  let l := (l.raise srcLE 1 clsCE (some x) data).eventAx x 0
  if third then
    ((((l.raise srcLE 2 clsFT (some x) data).openStop x).wr (LE_STAT_STATE x) leFault).eventAx x 1).slFail x
  else l

/-- The speed of the last sensor source (Table 4.5). -/
def Lane.noteSensor (l : Lane) (x : Ax) (p : Posn) : Lane :=
  if 1 ≤ l.rd (FB_STAT_SRC x) ∧ l.rd (FB_STAT_SRC x) ≤ 4 then l.setTq x { (l.ax x).tq with wSens := p.we.raw } else l

/-- The fields of the registers of a loop engine that its snapshot holds: the state, the live status and the observation registers. -/
def leSnapFlds (x : Ax) : List Fld :=
  [LE_STAT_STATE x, LE_STAT_FORCED x, LE_STAT_IQLIM x, LE_STAT_SLEW x, LE_STAT_SATP x, LE_STAT_SATS x, LE_STAT_SATC x, LE_OPENTIME_USED_US x,
   LE_OPENOUT0 x, LE_OPENOUT1 x, LE_ID x, LE_IQ x, LE_VD x, LE_VQ x, LE_IDREFE x, LE_IQREFE x, LE_TREF x, LE_WREF x, LE_SETPEFF x, LE_INTD x,
   LE_INTQ x, LE_INTS x, LE_INTP x, LE_SPDF x, LE_FFT x]

/-- The snapshot is taken at an input latch (R56). -/
def Lane.leSnap (l : Lane) (x : Ax) : Lane :=
  let s := (l.ax x).le
  let snap : LeSnap :=
    { intd := s.intd, intq := s.intq, ints := s.ints, intp := s.intp, wf := s.wf, setpEff := s.setpEff, idref := s.idref, iqref := s.iqref
      iqclamp := s.iqclamp, tref := s.tref, wref := s.wref, vd := s.vd, vq := s.vq, tout := s.tout, nIn := s.nIn, req := s.req
      openAt := s.openAt, out := s.out, clampOn := s.clampOn, flds := (leSnapFlds x).map l.rd }
  l.setLe x { s with snap := some snap }

/-- Both copies are restored from the snapshot of the last input latch (R92); a request that has come since is not lost, and the gate groups
act again on what is restored. -/
def Lane.leRestore (l : Lane) (x : Ax) : Lane :=
  let s := (l.ax x).le
  match s.snap with
  | none => l
  | some n =>
    let l := l.setLe x { s with
      intd := n.intd, intq := n.intq, ints := n.ints, intp := n.intp, wf := n.wf, setpEff := n.setpEff, idref := n.idref, iqref := n.iqref
      iqclamp := n.iqclamp, tref := n.tref, wref := n.wref, vd := n.vd, vq := n.vq, tout := n.tout, nIn := n.nIn
      req := if s.req.isSome then s.req else n.req, openAt := n.openAt, out := n.out, clampOn := n.clampOn }
    (l.each ((leSnapFlds x).zip n.flds) (fun l e => l.wr e.1 e.2)).leSettle x

/-- An input latch begins: a mismatch of what was written, raised or requested since the last one outside its period is rolled back first (R91,
log entry 63), and the snapshot is taken. In FAULT the loop makes no state write and raises no LE_ROLLBACK (R590). -/
def Lane.leLatch (l : Lane) (x : Ax) (cmp : Compare) : Lane :=
  if l.rd (LE_STAT_STATE x) = leFault then l
  else (l.when (decide (cmp = .between)) (fun l => (l.leRestore x).leRollback x false)).leSnap x

/-- One inner period in MODULATED drive mode: the source is chosen for the sample instant, the sample is scaled, and the two parts run; the
pair compare decides what stands (R56 to R75, R90 to R94, R220 to R223, R590). A mismatch of a fault message or event request of the period is
handled as one of a state write: the duties stand, HOLD is not set, and bit 0 of the data is 0 (DESIGN CHOICE, log entry 63). A request that
took effect at the latch of a period that is rolled back is undone with it and waits for the next latch (DESIGN CHOICE, log entry 63). -/
def Lane.lePeriod (l : Lane) (x : Ax) (c : AdcCodes) (cmp : Compare) : Lane :=
  if (l.ax x).md.running = false ∨ l.on (LE_STAT_DRIVE x) then l
  else
    let t := (l.ax x).ad.sampAt
    let l := (l.srcSelect x t).adSample x c
    let p := l.fbEval x t
    let l := (l.noteSensor x p).leLatch x cmp
    if l.rd (LE_STAT_STATE x) = leFault then l
    else
      let s := (l.ax x).ad
      let v : AdVals := ⟨.of s.ia, .of s.ib, .of s.ic, l.q (AD_VDC x)⟩
      let (l1, entering) := l.leRequest x
      let l1 := l1.slBegin x v.vdc entering
      let (l2, o) := l1.leOutStep x v p entering
      match cmp with
      | .output => (l.leRollback x true).rampStep x (l.tIn x)
      | .stateWrite => ((l.modDuties x o.da o.db o.dc).leRollback x false).rampStep x (l.tIn x)
      | .message => ((l.modDuties x o.da o.db o.dc).leRollback x false).rampStep x (l.tIn x)
      | _ => ((l2.modDuties x o.da o.db o.dc).leRefStep x (l1.lePosn x p)).rampStep x (l.tIn x)

/-- One tick in TABLE drive mode: the reference part alone, whose torque reference goes to the TQ engine (R61, R62, R161, R224). -/
def Lane.leTick (l : Lane) (x : Ax) (cmp : Compare) : Lane :=
  let l := l.srcSelect x l.now
  let p := l.fbEval x l.now
  let l := (l.noteSensor x p).leLatch x cmp
  if l.rd (LE_STAT_STATE x) = leFault then l
  else
    let (l1, entering) := l.leRequest x
    let l1 := l1.slBegin x (.of (((l.ax x).ad.dec[3]?).getD 0)) entering
    let l2 := l1.leRefStep x p
    if cmp = .agree ∨ cmp = .between then
      let open0 := decide (l2.rd (LE_STAT_STATE x) = leOpen)
      l2.setTq x { (l2.ax x).tq with tref := if open0 then l2.rdS (LE_OPENOUT0 x) else (l2.ax x).le.tout }
    else l.leRollback x false

/-- A reload, with the tick it gives in TABLE drive mode. -/
def Lane.reload (l : Lane) (x : Ax) (peak : Bool) (cmp : Compare) : Lane :=
  if l.reloadRuns x peak then
    let l := l.modReload x peak
    if l.on (LE_STAT_DRIVE x) && l.domOn (.le x) then l.leTick x cmp else l
  else l

/-! ### Requests (R77 to R80, R590) -/

/-- LE_CTL_x.OPEN. -/
def Lane.leOpenReq (l : Lane) (x : Ax) : Lane :=
  if l.rd (LE_STAT_STATE x) = leClosed then l.setLe x { (l.ax x).le with req := some false } else l

/-- LE_CTL_x.CLOSE: its arrival stops the open timer; in the expiry cycle it sets LATE (R79). A request ignored while FORCED is counted and
drives no event: event 4 tells of refused writes of registers (DESIGN CHOICE, log entry 63). -/
def Lane.leCloseReq (l : Lane) (x : Ax) : Lane :=
  if l.rd (LE_STAT_STATE x) ≠ leOpen then l
  else if l.on (LE_STAT_FORCED x) then l.bump (LE_REJ_CLOSEREJ x)
  else
    let late := match (l.ax x).le.openAt with
      | some t => l.inExpiry (t + l.rd (LE_OPENMAX_MAX_US x) * usec) cycLe
      | none => false
    let l := (l.openStop x).when late (fun l => l.set (LE_STAT_LATE x))
    l.setLe x { (l.ax x).le with req := some true }

/-- LE_CTL_x.INTCLR (R80). Outside OPEN it is counted in OWREJ (R590), and it raises LE_WRREJ and drives event 4 as any other write of an OW
field that the loop's state refuses, which the spec leaves open for it (DESIGN CHOICE, log entry 63). -/
def Lane.leIntClr (l : Lane) (x : Ax) : Lane :=
  if l.rd (LE_STAT_STATE x) = leOpen then l.setLe x { (l.ax x).le with intd := 0, intq := 0, ints := 0, intp := 0 }
  else l.owReject x

/-- LE_CTL_x.CNTCLR. -/
def Lane.leCntClr (l : Lane) (x : Ax) : Lane :=
  ((l.setReg (LE_REJ_OWREJ x).addr 0#64).wr (LE_RBCNT_TOTAL x) 0).setReg (LE_CLAMPCNT_IREF x).addr 0#64

/-- The open timer reaches LE_OPENMAX_x with no CLOSE request arrived (R77). Where the copies differ in what they then write or raise, nothing of
it stands: no expiry is commanded, and the next input latch counts the rollback (R91 to R93; DESIGN CHOICE, log entry 63). -/
def Lane.leOpenMax (l : Lane) (x : Ax) : Lane :=
  match (l.ax x).le.openAt with
  | some t =>
    if l.due (t + l.rd (LE_OPENMAX_MAX_US x) * usec) then
      let l := l.openStop x
      let l := ((l.wr (LE_STAT_STATE x) leFault).raise srcLE 3 clsUC (some x) (l.dataOf (LE_OPENTIME_USED_US x).addr)).eventAx x 1
      l.axisSafe x 6 false
    else l
  | none => l

/-! ### Register writes (R81 to R85) -/

/-- Whether an address lies in the feed-forward tables of an axis. -/
def inFfTable (x : Ax) (a : Nat) : Bool :=
  (decide (fricBase x ≤ a) && decide (a < fricBase x + 4096)) || (decide (cogBase x ≤ a) && decide (a < cogBase x + 16384))

/-- A write refused for its range or its width drives the event alone (Table 2.10); LE_WRREJ tells of an OW write that the loop's state refuses
(R82; that a write refused for RANGE or HALFWR raises none is a DESIGN CHOICE, log entry 63). -/
def Lane.leRefuse (l : Lane) (x : Ax) (f : Fld) : Lane := (l.bump f).eventAx x 4

/-- A write of `n` bytes to an OW register or table of the loop engine (R81, R82, R84, R85), or to an RL one, where a value outside its range is
counted (R67, R85) and every other is ignored after the lock. A write that could be refused on several grounds counts on one, in the order HALFWR,
OWREJ, RANGE (DESIGN CHOICE, log entry 63). -/
def Lane.leOwWrite (l : Lane) (x : Ax) (a n : Nat) (v : Word) : Lane :=
  if inFfTable x a then
    if l.rd (LE_STAT_STATE x) = leOpen then l.setBytes a (leBytes n v.toNat) else l.owReject x
  else
    match blockOf a, regUnder a n with
    | some (.le, y, _), some (_, d) =>
      let rl := decide (d.bits (fun k => k = .ow) = 0)
      if y ≠ x ∨ (rl = true ∧ d.bits (fun k => k = .rl) = 0) then l
      else if d.wide = 64 ∧ n ≠ 8 then l.leRefuse x (LE_REJ_HALFWR x)
      else if rl then (if d.fits (fun k => k = .rl) v.toNat then l else l.leRefuse x (LE_REJ_RANGE x))
      else if l.rd (LE_STAT_STATE x) ≠ leOpen then l.owReject x
      else if d.fits (fun k => k = .ow) v.toNat then l.setReg a (d.afterWrite (l.reg a) v.toNat)
      else l.leRefuse x (LE_REJ_RANGE x)
    | _, _ => l

/-- The address of an LV register. -/
def lvAddr (r : LvReg) (x : Ax) : Nat :=
  match r with
  | .setp => (LE_SETP x).addr
  | .share => (LE_SHARE x).addr
  | .ffs => (LE_FFS x).addr
  | .iqtrim => (LE_IQTRIM x).addr

/-- A firmware write of an LV register while the pair is SPLIT is ignored (spec/07_paired_execution.md R281, Table 7.8). -/
def Lane.fwdReject (l : Lane) (a : Nat) : Lane := (l.set PC_STAT_FWDREJ).raiseOnce srcPC 7 clsCE none a

/-- A write of `n` bytes to an LV register (R83 to R85). -/
def Lane.leLvWrite (l : Lane) (x : Ax) (r : LvReg) (n : Nat) (v : Word) : Lane :=
  if l.on PC_STAT_PAIR then l.fwdReject (lvAddr r x)
  else if n ≠ 8 then l.leRefuse x (LE_REJ_HALFWR x)
  else l.setReg (lvAddr r x) v

/-! ### The meanings -/

def execLeInnerPeriod (i : LaneId) (x : Ax) (c : AdcCodes) (cmp : Compare) (s : State) : Host.Outcome State Fault Refusal :=
  s.actX i x (.le x) (fun l => l.lePeriod x c cmp)
def execLeOpen (i : LaneId) (x : Ax) (s : State) : Host.Outcome State Fault Refusal :=
  s.accX i x (.le x) (bitAcc (LE_CTL_OPEN x).addr 1) (fun l => l.leOpenReq x)
def execLeClose (i : LaneId) (x : Ax) (s : State) : Host.Outcome State Fault Refusal :=
  s.accX i x (.le x) (bitAcc (LE_CTL_OPEN x).addr 2) (fun l => l.leCloseReq x)
def execLeIntclr (i : LaneId) (x : Ax) (s : State) : Host.Outcome State Fault Refusal :=
  s.accX i x (.le x) (bitAcc (LE_CTL_OPEN x).addr 4) (fun l => l.leIntClr x)
def execLeCntclr (i : LaneId) (x : Ax) (s : State) : Host.Outcome State Fault Refusal :=
  s.accX i x (.le x) (bitAcc (LE_CTL_OPEN x).addr 8) (fun l => l.leCntClr x)
def execLeOwWrite (i : LaneId) (x : Ax) (a n : Nat) (v : Word) (s : State) : Host.Outcome State Fault Refusal :=
  s.accX i x (.le x) (wrAcc a n v) (fun l => l.leOwWrite x a n v)
def execLeLvWrite (i : LaneId) (x : Ax) (r : LvReg) (n : Nat) (v : Word) (s : State) : Host.Outcome State Fault Refusal :=
  s.accX i x (.le x) (wrAcc (lvAddr r x) n v) (fun l => l.leLvWrite x r n v)
def execLeOpenmaxExpiry (i : LaneId) (x : Ax) (s : State) : Host.Outcome State Fault Refusal := s.actX i x (.le x) (fun l => l.leOpenMax x)
def execModReload (i : LaneId) (x : Ax) (peak : Bool) (cmp : Compare) (s : State) : Host.Outcome State Fault Refusal :=
  s.actX i x (.pg x) (fun l => l.reload x peak cmp)

end Sys2Proof.Machine
end

