-- ==== Sys2Proof/Machine/ImageRules.lean ====
section
/-!
DEFINITION. The rules that an image must meet: phases 5 to 9 of the loader (spec/15_configuration_image.md R510, R519 to R525, Tables 15.7 to
15.10). Final values are judged in a lane whose register file holds them and nothing else.
-/

namespace Sys2Proof.Machine

/-! ### What a REGS record may write (R510; codes 0x23 and 0x21) -/

/-- Whether an address lies in a block that the device does not have (spec/00_scope.md R5). -/
def absentBlock (p : Part) (a : Nat) : Bool :=
  decide (p = .apx9613) &&
  ((decide (0xF01100000 ≤ a) && decide (a < 0xF01200000)) || (decide (0xF01020000 ≤ a) && decide (a < 0xF01030000)))

/-- Whether an address lies between two others. -/
def within (a lo n : Nat) : Bool := decide (lo ≤ a) && decide (a < lo + n)

/-- The windows and tables that a record may write. -/
def loadWindow (a : Nat) : Bool :=
  within a (ttTxBuf 0) 0x2000 || within a txCmd 112 || within a 0xF000C1000 512 ||
  [Ax.x0, Ax.x1].any (fun x => within a (fricBase x) 0x1000 || within a (cogBase x) 0x4000)

/-- The access types that the loader may write. -/
def Acc.loads : Acc → Bool
  | .rl => true
  | .rw => true
  | .ow => true
  | .lv => true
  | _ => false

/-- Whether a record may write a register with values of a width. -/
def loadReg (a w : Nat) : Bool :=
  match descOf a with
  | some d => decide (d.wide = 8 * w) && d.fields.all (fun f => f.acc.loads) && decide (a ≠ FC_INJMSG.addr)
  | none => false

/-- Phase 6 for one record: 0x23 comes before 0x21 (R523). Windows and tables are no 64-bit registers, and take WIDTH 4 (R510). -/
def Rec.targets (r : Rec) (p : Part) : Option Rej :=
  let as := r.writes.map (fun w => w.1)
  firstRej [
    (as.find? (absentBlock p)).map (fun a => { code := 0x23, rid1 := r.rid, loc := a }),
    (as.find? (fun a => !((loadWindow a && decide (r.width = 4 ∧ a % 4 = 0)) || loadReg a r.width))).map
      (fun a => { code := 0x21, rid1 := r.rid, loc := a })]

/-! ### Final values (R524) -/

/-- One write of a record, under its mask. -/
def Lane.loadWrite (l : Lane) (width : Nat) (w : Nat × Nat × Nat) : Lane :=
  let (a, m, v) := w
  if loadWindow a then
    (List.range width).foldl (fun l i =>
      l.setByte (a + i) (mergeBits ((l.byte (a + i)).setWidth 64) (m / 256 ^ i % 256) (v / 256 ^ i % 256) |>.setWidth 8)) l
  else l.setReg a (mergeBits (l.reg a) m v)

/-- The final values of an image, over the reset values. -/
def Lane.finals (l : Lane) (rs : List Rec) : Lane :=
  let l := { l with regs := [], mem := [] }
  let l := (rs.filter (fun r => r.typ = rRegs)).foldl (fun l r => r.writes.foldl (fun l w => l.loadWrite r.width w) l) l
  match findRec rs rAxisMode with
  | some r => l.each l.axes (fun l x => l.put (LE_STAT_DRIVE x) ((byteAt r.body 0).testBit x.idx))
  | none => l

/-- The last REGS record that writes a register; 0 is none. -/
def lastWriter (rs : List Rec) (a : Nat) : Nat :=
  rs.foldl (fun n r => if r.typ = rRegs ∧ r.writes.any (fun w => w.1 = a) then r.rid else n) 0

/-! ### Claims (R519 to R521; codes 0x32, 0x30 and 0x31) -/

/-- A claim: the class, the first index, the number, and the feature that makes it. -/
structure Claim where
  cls : Nat
  first : Nat
  count : Nat
  feature : Nat
deriving DecidableEq, Repr

/-- The number of resources of a class (Table 15.7); 0 for a code that names no class. -/
def claimMax (p : Part) : Nat → Nat
  | 1 => 22
  | 2 => 4
  | 3 => 1024
  | 4 => 8
  | 5 => 32
  | 6 => 8
  | 7 => 32
  | 8 => 16384
  | 9 => if p = .apx9613 then 1536 else 3072
  | 10 => 256
  | _ => 0

/-- Index of a register in a family, if it is one of it. -/
def famIndex (a base stride n : Nat) : Option Nat :=
  if base ≤ a ∧ (a - base) % stride = 0 ∧ (a - base) / stride < n then some ((a - base) / stride) else none

/-- What the final value of a register that a record writes claims: class, first index and number (Table 15.9). -/
def Lane.implied (f : Lane) (a : Nat) : List (Nat × Nat × Nat) :=
  let one := fun (cls : Nat) (i : Option Nat) (c : Nat → Bool) =>
    match i with
    | some n => if c n then [(cls, n, 1)] else []
    | none => []
  one 2 (famIndex a (MOD_AUXCFG_EN 0).addr 4 4) (fun n => f.on (MOD_AUXCFG_EN n)) ++
  one 3 (famIndex a (SC_TMRCFG_ARM 0).addr 16 1024) (fun _ => true) ++
  one 3 (famIndex a (SC_TMREXP 0).addr 16 1024) (fun _ => true) ++
  one 10 (famIndex a (SC_FLOWCFG_PRIO 0).addr 4 256) (fun _ => true) ++
  one 4 (famIndex a (HQ_CFG_CAP 0).addr 4 8) (fun n => f.on (HQ_CFG_CAP n)) ++
  one 5 (famIndex a (TT_SLOTA_KIND 0).addr 8 32) (fun n => f.on (TT_SLOTA_KIND n)) ++
  one 6 (famIndex a (CN_TXHDR 0).addr 4 8) (fun _ => true) ++
  one 6 (famIndex a (CN_TXDLC_DLC 0).addr 4 8) (fun _ => true) ++
  one 7 (famIndex a (CN_FMAP_EN 0).addr 4 32) (fun n => f.on (CN_FMAP_EN n)) ++
  (if a = GL_CPCFG_CHUNKS.addr ∧ f.on GL_CPCFG_CHUNKS then [(8, f.rd GL_CPCFG_BASE, f.rd GL_CPCFG_CHUNKS)] else []) ++
  (if a = HP_CFG_EN.addr ∧ f.on HP_CFG_EN then [(1, 15, 1)] else []) ++
  one 1 ((famIndex a (SF_SSCFG_EN 0).addr 4 2).map (· + 20)) (fun n => f.on (SF_SSCFG_EN (n - 20)))

/-- What a write of a REGS record claims for its feature. -/
def Lane.writeClaims (f : Lane) (r : Rec) (w : Nat × Nat × Nat) : List Claim :=
  (if loadWindow w.1 then [] else f.implied w.1).map (fun (c, i, n) => ⟨c, i, n, r.feature⟩)

/-- What a FEATURE record claims. -/
def Rec.ownClaims (r : Rec) : List Claim := if r.typ = rFeature then r.claims.map (fun (c, i, n) => ⟨c, i, n, r.rid⟩) else []

/-- A claim is judged against those made before it. -/
def Claim.check (p : Part) (c : Claim) (old : List Claim) : Option Rej :=
  if c.count = 0 ∨ claimMax p c.cls < c.first + c.count then some { code := 0x32, rid1 := c.feature, loc := resLoc c.cls c.first }
  else
    (old.find? (fun d => decide (d.cls = c.cls) && decide (d.feature ≠ c.feature) && decide (d.first < c.first + c.count) &&
      decide (c.first < d.first + d.count))).map
      (fun d => { code := 0x30, rid1 := d.feature, rid2 := c.feature, loc := resLoc c.cls (Nat.max c.first d.first) })

/-- The claims of a record, one after another, added to those made before. -/
def claimAll (p : Part) : List Claim → List Claim → List Claim × Option Rej
  | [], old => (old, none)
  | c :: r, old =>
    match c.check p old with
    | some e => (old, some e)
    | none => claimAll p r (old ++ [c])

/-- The bits of one register that two records write (R521). -/
def Rec.doubleWrite (r : Rec) (earlier : List Rec) (w : Nat × Nat × Nat) : Option Rej :=
  if loadWindow w.1 then none
  else (earlier.find? (fun q => decide (q.typ = rRegs) && q.writes.any (fun v => decide (v.1 = w.1) && decide (v.2.1 &&& w.2.1 ≠ 0)))).map
    (fun q => { code := 0x31, rid1 := q.rid, rid2 := r.rid, loc := w.1 })

/-- The registers of a REGS record in ascending order of address (R523): at each its implied claims, then its bits (DESIGN CHOICE for one register
that fails both, log entry 55). -/
def Lane.claimWrites (f : Lane) (r : Rec) (earlier : List Rec) : List (Nat × Nat × Nat) → List Claim → List Claim × Option Rej
  | [], cs => (cs, none)
  | w :: q, cs =>
    match claimAll f.part (f.writeClaims r w) cs with
    | (cs, some e) => (cs, some e)
    | (cs, none) =>
      match r.doubleWrite earlier w with
      | some e => (cs, some e)
      | none => f.claimWrites r earlier q cs

/-- Phase 7: the records in image order. -/
def Lane.claimPhase (f : Lane) : List Rec → List Rec → List Claim → Option Rej
  | [], _, _ => none
  | r :: q, earlier, cs =>
    match claimAll f.part r.ownClaims cs with
    | (_, some e) => some e
    | (cs, none) =>
      match f.claimWrites r earlier (if r.typ = rRegs then r.writes else []) cs with
      | (_, some e) => some e
      | (cs, none) => f.claimPhase q (earlier ++ [r]) cs

/-! ### Judging registers (R525) -/

/-- The blocks of a lane, with their bases. -/
def blocks : List (Blk × Nat) :=
  [(.sy, 0xF00000000), (.pd, 0xF00010000), (.ck, 0xF00020000), (.pm, 0xF00030000), (.wk, 0xF00040000), (.fc, 0xF00050000),
   (.pc, 0xF00060000), (.gl, 0xF00070000), (.sc, 0xF00080000), (.hq, 0xF00090000), (.hp, 0xF000A0000), (.tt, 0xF000B0000),
   (.cn, 0xF000C0000), (.st, 0xF000D0000), (.lc, 0xF000E0000), (.sf, 0xF000F0000), (.dl, 0xF00100000)] ++
  [0xF01000000, 0xF01100000].flatMap (fun b =>
    [(.le, b), (.mod, b + 0x10000), (.tq, b + 0x20000), (.gd, b + 0x30000), (.fb, b + 0x40000), (.ad, b + 0x50000)])

/-- The addresses of a family of registers. -/
def RegDesc.addrs (d : RegDesc) (base : Nat) : List Nat :=
  (List.range d.count1).flatMap (fun i => (List.range d.count2).map (fun j => base + d.off + i * d.stride1 + j * d.stride2))

/-- The registers of a device, by address. -/
def regAddrs (p : Part) : List Nat :=
  (blocks.flatMap (fun b => b.1.regs.flatMap (fun d => d.addrs b.2))).filter (fun a => (descOf a).isSome && !absentBlock p a)

/-- Whether a register is a program step whose ALG is one of the reserved encodings 4 to 15 (spec/14_self_test_lifecycle.md, Table 14.6).
A run-time write of one stands, because the table refuses the step and not the write (DEDUCED, log entry 55). -/
def Lane.algReserved (f : Lane) (a : Nat) : Bool :=
  decide ((ST_PROG 0).addr ≤ a) && decide (a < (ST_PROG 64).addr) && decide (3 < (f.reg a).toNat / 2 ^ 52 % 16)

/-- Whether the final value of one register breaks the ranges of its table, has a reserved encoding, or sets a reserved bit (R525). -/
def Lane.outOfRange (f : Lane) (a : Nat) : Bool :=
  match descOf a with
  | some d =>
    !d.fits Acc.loads (f.reg a).toNat || f.algReserved a || decide ((f.reg a).toNat &&& d.bits (fun _ => true) ≠ (f.reg a).toNat)
  | none => false

/-- The lanes of a part. -/
def laneCount (p : Part) : Nat := if p = .apx9602 then 2 else 3

/-- Conditions that relate fields and that no code of phase 9 names: the registers that break one. -/
def Lane.relations (f : Lane) : List Nat :=
  let bad := fun (c : Prop) [Decidable c] (a : Fld) => if c then [a.addr] else []
  bad (f.rdS SY_THOLD_T ≤ f.rdS SY_TWARN_T) SY_THOLD_T ++
  bad (f.rd DL_CHI_CHOC ≤ f.rd DL_CHI_CHMIN) DL_CHI_CHOC ++
  bad (f.rd SC_PROFTH_HIGH < f.rd SC_PROFTH_BAL) SC_PROFTH_HIGH ++
  bad (laneCount f.part < f.rd SF_ARMCFG_QUORUM) SF_ARMCFG_QUORUM ++
  [4, 5, 6, 7].flatMap (fun n => bad (f.rd (MOD_TRIPCFG_FILT n) ≠ 0) (MOD_TRIPCFG_FILT n)) ++
  f.axes.flatMap (fun x =>
    bad (f.rd (MOD_ENVD_DMAX x) < f.rd (MOD_ENVD_DMIN x)) (MOD_ENVD_DMIN x) ++
    bad (f.part.hasTq = true ∧ f.rd (TQ_CATCH_PER x) < 2 * f.rd (TQ_CATCH_PW x)) (TQ_CATCH_PW x))

/-- Final values that name an absent block (phase 8, code 0x23; R146, R249, R416). -/
def Lane.namesAbsent (f : Lane) : List Nat :=
  if f.part = .apx9613 then
    (if f.on SF_SSMAP_G2 ∨ f.on SF_SSMAP_G3 then [SF_SSMAP_G2.addr] else []) ++ (if f.on TT_CFG_HUB then [TT_CFG_HUB.addr] else []) ++
      (if f.rd (MOD_CFG_SRC .x0) = 2 then [(MOD_CFG_SRC .x0).addr] else [])
  else []

/-! ### Phase 9 -/

/-- The rules of one code: the registers that break it. -/
abbrev Broken := List (Nat × Nat)

/-- A rule: the code and the register it fails at, where it fails. -/
def breaks (code : Nat) (c : Prop) [Decidable c] (f : Fld) : Broken := if c then [(f.addr, code)] else []

/-- R103 and R147. -/
def Lane.ruleDrive (f : Lane) : Broken :=
  f.axes.flatMap (fun x =>
    breaks 0x40 (decide (f.rd (MOD_CFG_SRC x) = 2) ≠ f.on (LE_STAT_DRIVE x)) (MOD_CFG_SRC x) ++
    breaks 0x40 (f.on (LE_STAT_DRIVE x) = true ∧ f.rd (TQ_IMAX x) = 0) (TQ_IMAX x))

/-- R134. -/
def Lane.ruleTrip (f : Lane) : Broken :=
  let axg := fun (k : Nat) => k = 2 || k = 5
  breaks 0x41 ((List.range 7).any (fun k => decide (2 ≤ f.grpAct k) && !axg k) = true) MOD_GRPACT_ACT ++
  breaks 0x41 ((List.range 7).any (fun k => f.routed 6 k && (!axg k || decide (f.grpAct k < 2))) = true) (MOD_TRIPMAP_GRP 6) ++
  [6, 7].flatMap (fun n => breaks 0x41 (f.rd (MOD_TRIPCFG_BLANK n) ≠ 0) (MOD_TRIPCFG_BLANK n))

/-- R151 and R159; 80 ns are 2,048 ticks. -/
def Lane.ruleTq (f : Lane) : Broken :=
  if f.part.hasTq then
    f.axes.flatMap (fun x =>
      breaks 0x42 (f.rd (TQ_CFG_PP x) ≠ f.rd (FB_CFG_PP x)) (TQ_CFG_PP x) ++
      breaks 0x42 (2048 * f.rd (TQ_TIME_DWELL x) < Nat.max (f.rd (MOD_DT_DTH x)) (f.rd (MOD_DT_DTL x))) (TQ_TIME_DWELL x))
  else []

/-- Whether a threshold in 0.25 A gives a reference current from 25 µA to 40 mA. -/
def refOk (amps n : Nat) : Bool := decide (100 * n ≤ 1000000 * amps) && decide (1000 * amps ≤ 160 * n)

/-- R193. -/
def Lane.ruleShort (f : Lane) : Broken :=
  f.axes.flatMap (fun x =>
    let n := f.rd (GD_SNSRATIO_N x)
    let oc := f.rd (GD_OCTH_AMPS x)
    let sc := if f.rd (GD_SCTH_AMPS x) = 0 then 4 * oc else f.rd (GD_SCTH_AMPS x)
    if n = 0 ∨ oc = 0 then []
    else breaks 0x43 (refOk oc n = false) (GD_OCTH_AMPS x) ++ breaks 0x43 (sc < oc ∨ refOk sc n = false) (GD_SCTH_AMPS x))

/-- R209 and R210. -/
def Lane.ruleDcLink (f : Lane) : Broken :=
  breaks 0x44 (f.rd DL_OV_OV1 ≠ 0 ∧ f.rd DL_OV_OV2 ≠ 0 ∧ f.rd DL_OV_OV2 ≤ f.rd DL_OV_OV1) DL_OV_OV1 ++
  breaks 0x44 (f.on DL_CFG_EN = true ∧ 2 * f.rd DL_ENVDUTY * f.rd DL_CHPER_US < 5 * 32768) DL_ENVDUTY

/-- R239. -/
def Lane.ruleSinCos (f : Lane) : Broken :=
  f.axes.flatMap (fun x =>
    breaks 0x45 (f.hasSc x = true ∧ f.rd (FB_CFG_PP x) % f.rd (FB_SCCFG_SCPER x) ≠ 0) (FB_CFG_PP x) ++
    breaks 0x45 (f.hasSc x = true ∧ (f.rd (FB_SCAMP_COS x) = 0 ∨ f.rd (FB_SCAMP_SIN x) = 0)) (FB_SCAMP_SIN x))

/-- The flow that a flow is chained to. -/
def Lane.chainOf (f : Lane) (n : Nat) : Option Nat := if f.on (SC_FLOWCFG_CHEN n) then some (f.rd (SC_FLOWCFG_CHAIN n)) else none

/-- Whether a chain comes back to a flow within a number of links. -/
def Lane.chainBack (f : Lane) (n : Nat) : Nat → Nat → Bool
  | 0, _ => false
  | k + 1, m =>
    match f.chainOf m with
    | some p => p = n || f.chainBack n k p
    | none => false

/-- Whether a flow is of class 0. -/
def Lane.class0 (f : Lane) (m : Nat) : Bool := decide (f.rd (SC_FLOWCFG_COST m) = 0)

/-- Whether a flow is chained to one that is not of class 0. -/
def Lane.chainedOut (f : Lane) (n : Nat) : Bool :=
  match f.chainOf n with
  | some p => !f.class0 p
  | none => false

/-- Whether a flow breaks R358. -/
def Lane.badFlow (f : Lane) (n : Nat) : Bool :=
  f.chainBack n 256 n || (f.class0 n && (f.chainedOut n || f.on (SC_FLOWCFG_BIST n)))

/-- R358. -/
def Lane.ruleFlows (f : Lane) : Broken :=
  (List.range 256).flatMap (fun n => breaks 0x46 (f.badFlow n = true) (SC_FLOWCFG_PRIO n)) ++
  breaks 0x46 (1024 < (List.range 4).foldl (fun a k => a + f.rd (SC_TLCFG_CAP k)) 0) (SC_TLCFG_CAP 0)

/-- R378, R394, and the producers of the Hampers that slots and filters name (R416, R441). -/
def Lane.ruleHamper (f : Lane) : Broken :=
  breaks 0x47 (4096 < (List.range 8).foldl (fun a h => a + f.rd (HQ_CFG_CAP h)) 0) (HQ_CFG_CAP 0) ++
  (List.range 8).flatMap (fun h =>
    breaks 0x47 (f.on (HQ_CFG_HFLOWEN h) = true ∧ f.on (HQ_CFG_NOTICE h) = false) (HQ_CFG_CAP h) ++
    breaks 0x47 (f.on (HQ_CFG_NOTICE h) = true ∧ (f.rd (HQ_WM_HWM h) ≤ f.rd (HQ_WM_LWM h) ∨ f.rd (HQ_CFG_CAP h) < f.rd (HQ_WM_HWM h)))
      (HQ_WM_HWM h)) ++
  (List.range 31).flatMap (fun k =>
    breaks 0x47 (f.rd (TT_SLOTA_KIND k) = kRx ∧ f.on (TT_SLOTB_HQEN k) = true ∧ f.rd (HQ_CFG_PROD (f.rd (TT_SLOTB_HQ k))) ≠ 2)
      (TT_SLOTB_HQ k)) ++
  (List.range 32).flatMap (fun n =>
    breaks 0x47 (f.on (CN_FMAP_EN n) = true ∧ f.rd (HQ_CFG_PROD (f.rd (CN_FMAP_HQ n))) ≠ 3) (CN_FMAP_HQ n))

/-- The length of a slot in ns (R410). -/
def Lane.slotLen (f : Lane) (k : Nat) : Int := ((if k = 31 then 500000 else f.slotStart (k + 1) : Nat) : Int) - (f.slotStart k : Nat)

/-- R416, but for its Hamper and hub items. -/
def Lane.ruleSchedule (f : Lane) : Broken :=
  breaks 0x48 (f.rd (TT_SLOTA_START 0) ≠ 0) (TT_SLOTA_START 0) ++
  (List.range 31).flatMap (fun k => breaks 0x48 (f.slotLen k ≤ 0) (TT_SLOTA_START (k + 1))) ++
  (List.range 32).flatMap (fun k =>
    breaks 0x48 (f.slotLen k < 8000 ∨ f.slotLen k < ((100 * f.rd TT_CFG_GUARD + frameTime (f.rd (TT_SLOTA_MAXLEN k)) + 1520 : Nat) : Int))
      (TT_SLOTA_START k)) ++
  (List.range 3).flatMap (fun r =>
    breaks 0x48 (decide (f.rd (TT_SLOTA_KIND r) = 1) ≠ decide (f.rd TT_MCFG_RANK = r + 1)) (TT_SLOTA_KIND r)) ++
  breaks 0x48 (f.rd TT_ROLL_ABS ≤ f.rd TT_ROLL_N ∨ f.rd TT_ROLL_N ≤ f.rd TT_ROLL_IDX) TT_ROLL_N

/-- R440: the data phase runs above 1 Mbit/s when a bit is shorter than 1 µs. -/
def Lane.ruleCan (f : Lane) : Broken :=
  breaks 0x49 (f.on CN_CFG_FD = true ∧ f.on CN_CFG_TDCEN = false ∧
    (f.rd CN_DBT_BRP + 1) * (1 + f.rd CN_DBT_TSEG1 + f.rd CN_DBT_TSEG2) < 100) CN_CFG_TDCEN

/-- R469. -/
def Lane.rulePmbus (f : Lane) : Broken :=
  breaks 0x4A (f.on PM_CFG_EN = true ∧ (680 < f.rd PM_VWIN_MIN ∨ f.rd PM_VWIN_MAX < 800)) PM_VWIN_MIN

/-- PD_SLPCFG and SC_PDAUTO. -/
def Lane.rulePower (f : Lane) : Broken :=
  breaks 0x4B (f.sleepTarget 0 ≠ 1 ∨ [1, 2, 3, 4, 5, 6].any (fun d => f.sleepTarget d ≠ 1 && f.sleepTarget d ≠ 2) = true) PD_SLPCFG_DOM ++
  breaks 0x4B ((f.rd SC_PDAUTO_DOM).testBit 0 = true) SC_PDAUTO_DOM

/-- The TCM window of the dump engine and the tend window. -/
def Lane.ruleDump (f : Lane) : Broken :=
  breaks 0x4C (64 < f.rd FC_CFG_TCMBASE + f.rd FC_CFG_TCMWIN) FC_CFG_TCMBASE ++
  breaks 0x4C (f.rd FC_TENDWIN_TMAX ≤ f.rd FC_TENDWIN_TMIN) FC_TENDWIN_TMIN

/-- R403. -/
def Lane.ruleService (f : Lane) : Broken :=
  breaks 0x4D (f.on HP_CFG_SVCEN = true ∧ f.rd HP_SVCKEY_KEY = 0) HP_SVCKEY_KEY ++
  breaks 0x4D (f.on HP_CFG_SVCEN = true ∧ f.rd (HQ_CFG_PROD (f.rd HP_CFG_SVCHQ)) ≠ 1) HP_CFG_SVCHQ

/-- Phase 9. -/
def Lane.rules (f : Lane) : Broken :=
  f.ruleDrive ++ f.ruleTrip ++ f.ruleTq ++ f.ruleShort ++ f.ruleDcLink ++ f.ruleSinCos ++ f.ruleFlows ++ f.ruleHamper ++
  f.ruleSchedule ++ f.ruleCan ++ f.rulePmbus ++ f.rulePower ++ f.ruleDump ++ f.ruleService

/-- The failure at the lowest address; of two at one address, the one listed first. -/
def lowest : Broken → Option (Nat × Nat)
  | [] => none
  | b :: r =>
    match lowest r with
    | none => some b
    | some c => if c.1 < b.1 then some c else some b

/-- The failure of a phase that judges final values, with its last writer. -/
def judged (rs : List Rec) (b : Broken) : Option Rej :=
  (lowest b).map (fun (a, c) => { code := c, rid1 := lastWriter rs a, loc := a })

/-- Phase 8: at one register 0x23 comes before 0x22. -/
def Lane.phase8 (f : Lane) : Broken :=
  f.namesAbsent.map (fun a => (a, 0x23)) ++ (((regAddrs f.part).filter f.outOfRange) ++ f.relations).map (fun a => (a, 0x22))

/-! ### Phases 5 to 9 of an image -/

/-- Phase 5: LANES and AXISMODE (codes 0x23). -/
def phase5 (p : Part) (lanes : Nat) (rs : List Rec) : Option Rej :=
  let drive := match findRec rs rAxisMode with
    | some r => byteAt r.body 0
    | none => 0
  let rid := match findRec rs rAxisMode with
    | some r => r.rid
    | none => 0
  firstRej [
    rejIf (decide (p = .apx9602) && lanes.testBit 2) { code := 0x23 },
    rejIf (decide (p = .apx9613) && decide (drive ≠ 0)) { code := 0x23, rid1 := rid }]

/-- The phases after the firmware check, each judged only where those before it pass. -/
def Lane.imgJudge (l : Lane) (lanes : Nat) (rs : List Rec) : Option Rej :=
  match phase5 l.part lanes rs with
  | some e => some e
  | none =>
    match (rs.filter (fun r => r.typ = rRegs)).findSome? (fun r => r.targets l.part) with
    | some e => some e
    | none =>
      let f := l.finals rs
      match f.claimPhase rs [] [] with
      | some e => some e
      | none =>
        match judged rs f.phase8 with
        | some e => some e
        | none => judged rs f.rules

end Sys2Proof.Machine
end

