-- ==== Sys2Proof/Machine/Loader.lean ====
section
/-!
DEFINITION. The image loader: choice of slot, the attempt on a slot, and the load (spec/15_configuration_image.md R500 to R504, R526, R527,
R529).
-/

namespace Sys2Proof.Machine

/-- The byte of the external flash at an offset; what no segment covers is erased (R502). -/
def flashByte : List (Nat × List Byte) → Nat → Byte
  | [], _ => 0xFF#8
  | (o, b) :: r, a => if o ≤ a ∧ a < o + b.length then (b[a - o]?).getD 0xFF#8 else flashByte r a

/-- `n` bytes of the flash. -/
def flashBytes (q : List (Nat × List Byte)) (o n : Nat) : List Byte := (List.range n).map (fun i => flashByte q (o + i))

/-- What a loader works with: the lane, and the flash where the straps select it (R501). -/
structure LoadSrc where
  qspi : Bool
  flash : List (Nat × List Byte)
deriving DecidableEq, Repr

/-- The header of a slot, from its source. -/
def Lane.slotHeader (l : Lane) (src : LoadSrc) (n : Nat) : ImgHeader :=
  if src.qspi then flashBytes src.flash (0x200000 * n) 256 else l.bytes (cfgSlot n) 256

/-- With the QSPI source the slot is copied into MRAM when it is tried. -/
def Lane.copySlot (l : Lane) (src : LoadSrc) (n : Nat) : Lane :=
  if src.qspi then l.setBytes (cfgSlot n) (flashBytes src.flash (0x200000 * n) 0x200000) else l

/-- With the QSPI source the firmware slot that the image names is copied into MRAM. -/
def Lane.copyFirmware (l : Lane) (src : LoadSrc) (rs : List Rec) : Lane :=
  match findRec rs rFirmware with
  | some r =>
    if src.qspi then
      l.setBytes (fwSlot l.part r.fwSlot) (flashBytes src.flash (0x400000 + 0x800000 * r.fwSlot) (fwSize l.part))
    else l
  | none => l

/-- How an attempt on a slot ends: the rejection, if any, its records, and the time it took beyond the start, in half nanoseconds (R529). -/
structure Attempt where
  rej : Option Rej
  recs : List Rec
  cost : Nat
deriving DecidableEq, Repr

/-- The firmware phases and those that follow, in a lane whose MRAM holds the firmware; `c` is the cost so far. -/
def Lane.tryRest (l : Lane) (h : ImgHeader) (rs : List Rec) (c : Nat) : Attempt :=
  match findRec rs rFirmware with
  | some r =>
    if fwFits l.part r = false then ⟨some { code := 0x14, rid1 := r.rid }, rs, c⟩
    else if sha256 (l.bytes (fwSlot l.part r.fwSlot) r.fwLen) ≠ r.fwHash then ⟨some { code := 0x13, rid1 := r.rid }, rs, c + 5 * r.fwLen⟩
    else ⟨l.imgJudge h.lanes rs, rs, c + 5 * r.fwLen⟩
  | none => ⟨some { code := 0x06 }, rs, c⟩

/-- An attempt on a slot (R523). -/
def Lane.trySlot (l : Lane) (src : LoadSrc) (n : Nat) : Lane × Attempt :=
  let l := l.copySlot src n
  let h : ImgHeader := l.bytes (cfgSlot n) 256
  match h.check l.part l.me with
  | some e => (l, ⟨some e, [], 0⟩)
  | none =>
    let img := l.bytes (cfgSlot n) h.length
    let c := 5 * h.length + 3200000
    match l.imgSigned img with
    | some e => (l, ⟨some e, [], c⟩)
    | none =>
      match imgRecords img with
      | (rs, some e) => (l, ⟨some e, rs, c⟩)
      | (rs, none) =>
        let l := l.copyFirmware src rs
        (l, l.tryRest h rs c)

/-- SY_IMGREJ_n and SY_IMGWHERE_n of a slot tried. -/
def Lane.imgReport (l : Lane) (n : Nat) (r : Option Rej) : Lane :=
  let e := r.getD { code := 0 }
  (l.setReg (SY_IMGREJ_CODE n).addr (BitVec.ofNat 64 (e.rid2 * 2 ^ 32 + e.rid1 * 2 ^ 16 + 2 ^ 8 + e.code))).setReg
    (SY_IMGWHERE_LOC n).addr (BitVec.ofNat 64 e.loc)

/-- The entries of both slots are cleared at each load. -/
def Lane.imgClear (l : Lane) : Lane :=
  l.each [0, 1] (fun l n => (l.setReg (SY_IMGREJ_CODE n).addr 0#64).setReg (SY_IMGWHERE_LOC n).addr 0#64)

/-- The slots with a valid MAGIC, in the order in which they are tried (R502). -/
def Lane.slotOrder (l : Lane) (src : LoadSrc) : List Nat :=
  let h := l.slotHeader src
  let a := decide ((h 0).magic = imgMagic)
  let b := decide ((h 1).magic = imgMagic)
  if a && b then (if (h 0).imgSeq < (h 1).imgSeq then [1, 0] else [0, 1])
  else if a then [0] else if b then [1] else []

/-- The 32-bit words that the records write, each register once. -/
def wordsWritten (rs : List Rec) : Nat :=
  let ws := (rs.filter (fun r => r.typ = rRegs)).flatMap (fun r => r.writes.map (fun w => (w.1, r.width / 4)))
  (ws.eraseDups.map (fun w => w.2)).foldl (· + ·) 0

/-- A value that the image wrote to FB_POSADJ_x is added to pos; the register reads 0 (spec/06_feedback.md R240, R256). -/
def Lane.loadPosAdj (l : Lane) (x : Ax) : Lane :=
  let a := (FB_POSADJ x).addr
  (l.setReg a 0#64).posAdj x (l.reg a)

/-- What acts from the load on: the lines of the halls and the trips as they stand, and the state of the Hampers (spec/03_modulator.md R129;
spec/06_feedback.md R234, R242; spec/11_hamper_host.md R381). -/
def Lane.loadSettle (l : Lane) : Lane :=
  let l := l.each l.axes (fun l x => (l.loadPosAdj x).hallsStanding x)
  l.hqEnd.tripsStanding

/-- The final values are written (R527): registers in order of address, windows and tables; DRIVE of AXISMODE (R511); a sensor supply that
is enabled switches on (Table 16.2). A timer whose value arms it is armed. RL values also go to the AO shadows, of which the model keeps those
of PM_CFG and PM_VWIN (R532). -/
def Lane.loadRegs (l : Lane) (rs : List Rec) : Lane :=
  let f := l.finals rs
  let as := (rs.filter (fun r => r.typ = rRegs)).flatMap (fun r => r.writes.map (fun w => w.1))
  let l := l.each (as.filter (fun a => loadReg a 4 || loadReg a 8)) (fun l a => l.setReg a (f.reg a))
  let l := l.each f.mem (fun l c => l.setByte c.1 c.2)
  let l := l.each l.axes (fun l x => l.put (LE_STAT_DRIVE x) (f.on (LE_STAT_DRIVE x)))
  let l := l.each [0, 1] (fun l s => l.put (ssStat s 0) (l.on (SF_SSCFG_EN s)))
  let l := l.each ((List.range 1024).filter (fun t => as.contains (SC_TMRCFG_ARM t).addr && f.on (SC_TMRCFG_ARM t)))
    (fun l t => l.timerArm t (f.reg (SC_TMRCFG_ARM t).addr))
  let l := l.when (as.contains WK_ALARM.addr) (fun l => { l with pw := { l.pw with alarm := decide (l.slow < l.rd WK_ALARM) } })
  l.loadSettle

/-- An image is loaded: its registers, and what SY_IMGSTAT and its neighbours show of it (R515, R527). `us` is the time taken. -/
def Lane.loadImage (l : Lane) (n : Nat) (fallback : Bool) (rs : List Rec) (us : Nat) : Lane :=
  let h : ImgHeader := l.bytes (cfgSlot n) 256
  let fw := (findRec rs rFirmware).map (fun r => (r.fwSlot, r.entry)) |>.getD (0, 0)
  let l := (l.loadRegs rs).partnersInit
  let l := (((l.wr SY_IMGSTAT_KEY h.keySlot).put SY_IMGSTAT_FALLBK fallback).wr SY_IMGSTAT_SLOT n).set SY_IMGSTAT_LOADED
  let l := (l.wr SY_IMGSEQ h.imgSeq).wr SY_IMGLOAD_US (Nat.min us 0xFFFFF)
  let l := l.each (List.range 4) (fun l k => l.wr (GL_HASH k) (beNat ((h.commonHash.drop (8 * k)).take 8)))
  let l := l.setBytes 0xF00000140 h.buildId
  { l with im := { l.im with phase := .loaded, fwSlot := fw.1, entry := fw.2 }
           ao := { l.ao with pmCfg := l.reg PM_CFG_EN.addr, pmWin := l.reg PM_VWIN_MIN.addr } }

/-- The time of a load in µs (R529); the spec gives none for a load through QSPI, which is a free value (log entry 5). -/
def Lane.loadTime (l : Lane) (src : LoadSrc) (cost words : Nat) : Nat :=
  if src.qspi then Config.pick l.me l.fresh else (200000 + cost + 30 * words) / 2000

/-- No image is loaded: the lane stays in BOOT (R503). -/
def Lane.bootStay (l : Lane) : Lane := { l with im := { l.im with phase := .stay } }

/-- The slots in turn. -/
def Lane.trySlots (l : Lane) (src : LoadSrc) : List Nat → Bool → Nat → Lane
  | [], _, _ => l.bootStay
  | n :: r, fallback, cost =>
    let (l, a) := l.trySlot src n
    let l := l.imgReport n a.rej
    match a.rej with
    | some _ => l.trySlots src r true (cost + a.cost)
    | none =>
      let us := l.loadTime src (cost + a.cost) (wordsWritten a.recs)
      let l := if src.qspi then { l with fresh := l.fresh + 1 } else l
      l.loadImage n fallback a.recs us

/-- The loader finishes trying the slots (R502, R503, R526). -/
def Lane.imageLoad (l : Lane) (flash : List (Nat × List Byte)) : Lane :=
  if l.im.phase ≠ .load then l
  else
    let src : LoadSrc := ⟨l.on SY_IMGSTAT_SRC, flash⟩
    let order := l.slotOrder src
    let l := l.imgClear.each ([0, 1].filter (fun n => !order.contains n)) (fun l n => l.imgReport n (some { code := 0x01 }))
    l.trySlots src order false 0

end Sys2Proof.Machine
end

