-- ==== Sys2Proof/Machine/StartUp.lean ====
section
/-!
DEFINITION. Reset, BOOT and ARMING: the start sequence, the lock and the end of arming (spec/16_start_up.md).
-/

namespace Sys2Proof.Machine

/-! ### The quorum and the end of arming (R538, R548) -/

/-- The lanes counted live, this one included (R299). -/
def Lane.liveCount (l : Lane) : Nat := (l.lanes.filter l.isLive).length

/-- The quorum rule (R548). -/
def Lane.quorumHolds (l : Lane) : Bool :=
  decide (l.rd SF_ARMCFG_QUORUM ≤ l.liveCount) &&
  (l.others.any (fun i => (l.gl.peer i).known) || l.others.all (fun i => decide (l.watchOf i ≠ wToggling)))

/-- The proofs at an outer-cycle boundary: QUORUM is judged afresh (R538). -/
def Lane.armBoundary (l : Lane) : Lane :=
  if l.mode = mArming then
    let l := l.armProofs
    let q := l.quorumHolds
    let l := if q = l.on SF_ARMSTAT_QUORUM then l else l.proofPass (fun l => (l.put SF_ARMSTAT_QUORUM q).event 191)
    l.put SF_ARMSTAT_DONE l.armComplete
  else l

/-- SY_ARMTIME expires without arming complete (Table 1.2): SAFE-HOLD at the next boundary. -/
def Lane.armTimeout (l : Lane) : Lane :=
  if l.mode = mArming ∧ l.due l.armEnd then
    let l := l.armProofs
    if l.armComplete then l
    else if l.sy.reqHold = some .armTimeout then l
    else ({ l with sy := { l.sy with reqHold := some .armTimeout } }).raise srcSY 3 clsUC none 0
  else l

/-! ### Reset and BOOT (R530 to R534) -/

/-- The last condition of R530 is met: BOOT; below 4.5 V the supervisor that releases it does not work (spec/17_package_electrical.md R569).
The command tells the levels of the strap balls. -/
def Lane.resetRelease (l : Lane) (straps : Nat) : Lane :=
  if l.sy.held ∧ l.sy.dead = false then (l.enterBootAt straps).set PM_STAT_PGOOD else l

/-- The first PLL lock of BOOT (R531, R532). -/
def Lane.bootLock (l : Lane) : Lane :=
  let l := ((l.set CK_STAT_LOCK).wr CK_STAT_DIV 1).calGo
  let l := { l with pw := { l.pw with freqAt := l.slow * 3125 / 2 } }
  if l.rd PM_VACK_MV < 750 ∧ l.pmOn then ({ l with im := { l.im with phase := .vcore } }).pmBoot else l.bootNext

/-- The PLL locks: first in BOOT, or at a wake (R531; R456 of 13_power_clocks_wake). -/
def Lane.pllLock (l : Lane) : Lane :=
  if l.mode = mBoot ∧ l.im.phase = .lock then l.bootLock
  else if l.pw.step = .lock then l.wakeLock
  else l

/-- The start-up sweep ends; the loader follows (R500). -/
def Lane.sweepEnd (l : Lane) (fails : Nat) : Lane :=
  if l.im.phase = .sweep then (l.sweepResults fails).bootLoad else l

/-! ### The lock and the entry into ARMING (R528, R534, R536, R546, R547) -/

/-- The latches of the driver die that pass through BOOT clear (R196, R199, R534). -/
def Lane.dieClear (l : Lane) (x : Ax) : Lane :=
  let l := (((l.clr (GD_STAT_SAFE x)).wr (GD_STAT_SIDE x) 0).clr (GD_STAT_NOSAFE x)).wr (GD_STAT_CAUSE x) 0
  (((l.clr (GD_STAT_OV2OVR x)).wr (GD_TRIPSTAT_HS x) 0).setGd x { (l.ax x).gd with asc := false }).gateSettle x

/-- The regulator check starts (R547). -/
def Lane.regCheck (l : Lane) : Lane := if l.on PM_CFG_EN then l.pmRequest 750 .check else l

/-- The gate-driver check starts on every axis that is not in axis safe state (R546). -/
def Lane.gdCheckStart (l : Lane) : Lane :=
  { l with im := { l.im with gdRun := (l.axes.filter (fun x => !l.on (GD_STAT_SAFE x))).foldl (fun a x => a + 2 ^ x.idx) 0 } }

/-- What locks: SY_IMGSTAT, the die's configuration, and the regulator's voltage where the image gives it no control (R472). -/
def Lane.lockImage (l : Lane) : Lane :=
  let l := (({ l with im := { l.im with phase := .done } }).set SY_IMGSTAT_LOCKED).dieLoad
  if l.on PM_CFG_EN then l else l.wr PM_VACK_MV 800

/-- What starts with ARMING beside the proofs. -/
def Lane.armStart (l : Lane) : Lane :=
  let l := { l with pc := { l.pc with core := .running, firstIssue := l.now }, sy := { l.sy with armedAt := l.now, lastTick := l.now } }
  let l := (l.setMode mArming).each l.axes Lane.dieClear
  ((((l.each l.axes Lane.carrierStart).glArming).lantStart).watchStart).tokArming

/-- The proofs start. -/
def Lane.proofStart (l : Lane) : Lane :=
  let l := (l.regCheck.gdCheckStart).each [0, 1, 2, 3] Lane.safLevels
  (l.injQueue [0, 1, 2, 3]).armProofs

/-- The first outer-cycle boundary tick after the last write of the loader (R528); the postures are evaluated at it too (R27), and CFGHASH of the
first outer cycle of ARMING leaves (spec/08_leadership_guyline.md R305). -/
def Lane.imageLock (l : Lane) : Lane :=
  if l.im.phase = .loaded ∧ l.mode = mBoot ∧ l.tickHere then
    (((((((l.glBoundary 0 0).lockImage).armStart).proofStart).modeFollow).postureStep).newCycle).hashSend
  else l

/-- The gate-driver check of an axis ends (R546): the comparators that did not trip, and whether a gate ball did not read below 2 V. -/
def Lane.gdCheckEnd (l : Lane) (x : Ax) (comp : Nat) (gate : Bool) : Lane :=
  if l.im.gdRun.testBit x.idx then
    let l := { l with im := { l.im with gdRun := l.im.gdRun - 2 ^ x.idx } }
    let cp := decide (l.rd (GD_CPMON_MV x) < l.cpuvLevel x)
    if comp = 0 ∧ gate = false ∧ cp = false then l.provenBy (gdProof x) true
    else
      let l := l.wr ⟨SF_GDCHK_COMP0.addr, 8 * x.idx, 8⟩ (comp + (if cp then 64 else 0) + (if gate then 128 else 0))
      ((l.set (gdFail x)).raise srcSF 7 clsUC none (l.dataOf SF_GDCHK_COMP0.addr)).event 191
  else l

/-- VBAT stays below 6 V for 1 ms (R49, Table 1.8). -/
def Lane.vbatLow (l : Lane) : Lane := if modeLive l.mode then { l with sy := { l.sy with reqHold := some .vbat } } else l

/-! ### The meanings -/

def execPowerUp (i : LaneId) (s : State) : Host.Outcome State Fault Refusal := s.actAo i Lane.powerUp
def execResetRelease (i : LaneId) (straps : Fin 4) (s : State) : Host.Outcome State Fault Refusal :=
  s.actAo i (fun l => l.resetRelease straps)
def execNrstAssert (i : LaneId) (s : State) : Host.Outcome State Fault Refusal := s.actAo i Lane.hold
def execSupplyOutOfRange (i : LaneId) (s : State) : Host.Outcome State Fault Refusal := s.actAo i (fun l => l.hold.clr PM_STAT_PGOOD)
def execVbatLow (i : LaneId) (s : State) : Host.Outcome State Fault Refusal := s.act i Lane.vbatLow
def execVbatBrownOut (i : LaneId) (s : State) : Host.Outcome State Fault Refusal := s.actAo i Lane.brownOut
def execPllLock (i : LaneId) (s : State) : Host.Outcome State Fault Refusal := s.actWake i Lane.pllLock
def execSweepEnd (i : LaneId) (fails : BitVec 18) (s : State) : Host.Outcome State Fault Refusal := s.act i (fun l => l.sweepEnd fails.toNat)
def execImageLoadEnd (i : LaneId) (qspi : List (Nat × List Byte)) (s : State) : Host.Outcome State Fault Refusal :=
  s.act i (fun l => l.imageLoad qspi)
def execImageLock (i : LaneId) (s : State) : Host.Outcome State Fault Refusal := s.act i Lane.imageLock
def execGateDriverCheckEnd (i : LaneId) (x : Ax) (comp : BitVec 6) (gate : Bool) (s : State) : Host.Outcome State Fault Refusal :=
  s.act i (fun l => l.gdCheckEnd x comp.toNat gate)
def execArmTimeout (i : LaneId) (s : State) : Host.Outcome State Fault Refusal := s.act i Lane.armTimeout

end Sys2Proof.Machine
end

