-- ==== Sys2Proof/Machine/Output.lean ====
section
/-!
DEFINITION. The states applied at the output of the modulator, as the TQ engine reads them (spec/04_torque_table_sensorless.md R149), and
the hall codes that reach the commutator of the die (spec/05_gate_drive.md R213). The gates themselves stand in Machine/Gates.lean.
-/

namespace Sys2Proof.Machine

/-! ### The states applied -/

/-- A state U V W, bit 2 U, from the high sides that are on. -/
def highState (f : Nat → Bool) : Nat := (if f 0 then 4 else 0) + (if f 2 then 2 else 0) + (if f 4 then 1 else 0)

/-- The state applied at the modulator output, which the TQ engine reads (R149): the gates in force while axis safe state holds them, the gate
commands in force while a trip action, a catch or the passthrough does, else the switching state, or the demand of the high sides, because
the estimator uses the commanded state and the dead time acts as an error of it (DEDUCED, log entry 63). It is the state that stands at the
decision, also where it changed inside the interval just ended (DESIGN CHOICE, log entry 63). -/
def Lane.appliedState (l : Lane) (x : Ax) : Nat :=
  if l.on (GD_STAT_SAFE x) then highState (l.gate x)
  else if l.trip.asc x ≠ 0 ∨ (l.gateCtl x).tripHeld 0 ∨ (l.gateCtl x).tripHeld 1 ∨ l.rd (TQ_STAT_SLSTATE x) = slCatch ∨ l.on (GD_STAT_PASS x) then
    highState (l.line x)
  else if l.on (LE_STAT_DRIVE x) then l.rd (TQ_STAT_VEC x)
  else highState (fun n => (l.demand x n).isSome)

/-! ### The meanings -/

def execCommutatorHallChange (i : LaneId) (x : Ax) (code : Fin 8) (s : State) : Host.Outcome State Fault Refusal :=
  s.actX i x (.pg x) (fun l => if l.hallLines x = code.val then l.commHall x code else l)

end Sys2Proof.Machine
end

