-- ==== Sys2Proof/Machine/Table.lean ====
section
/-!
DEFINITION. The torque-table engine: the estimators, the switching tables, the flux observer, and the sensorless start and catch
(spec/04_torque_table_sensorless.md).
-/

namespace Sys2Proof.Machine

/-! ### Vectors and angles (R152, R154 to R157) -/

/-- The state U V W of a vector, bit 2 U (Table 4.1). -/
def vecState : Nat → Nat
  | 1 => 4
  | 2 => 6
  | 3 => 2
  | 4 => 3
  | 5 => 1
  | 6 => 5
  | 7 => 7
  | _ => 0

/-- The number of high sides that are on in a state. -/
def highsOn (s : Nat) : Nat := s % 2 + s / 2 % 2 + s / 4 % 2

/-- The legs that switch between two states. -/
def legsChanged (a b : Nat) : Nat := highsOn (a ^^^ b)

/-- The sector of an angle between 0 and 2π, in six or in twelve sectors (R152). -/
def sectorOf (twelve : Bool) (a : Q) : Nat :=
  if twelve then ((12 * a.raw + Q.piRaw) / (2 * Q.piRaw)).toNat % 12 else ((6 * a.raw + Q.piRaw) / (2 * Q.piRaw)).toNat % 6

/-- The switching tables (Tables 4.2 and 4.3): the vector for a sector, the flux comparator, and a rising torque. -/
def tableVector (twelve : Bool) (sector cp : Nat) (up : Bool) : Nat :=
  let k := if twelve then sector / 2 else sector
  let odd := twelve && decide (sector % 2 = 1)
  let d := if up then (if cp = 1 then 1 else 2) else if cp = 1 then (if odd then 0 else 5) else (if odd then 5 else 4)
  (k + d) % 6 + 1

/-- The zero vector next to a state: one leg switches at most (R156). -/
def zeroVector (s : Nat) : Nat := if s = 0 ∨ s = 7 then s else if highsOn s = 1 then 0 else 7

/-- The active vector nearest an angle between 0 and 2π; of two equally near the lower index (R157). -/
def nearestVector (a : Q) : Nat :=
  let q := (a.raw * 3 / Q.piRaw).toNat % 6
  let r := a.raw * 3 % Q.piRaw
  let next := (q + 1) % 6 + 1
  if 2 * r < Q.piRaw then q + 1 else if Q.piRaw < 2 * r then next else Nat.min (q + 1) next

/-- The angle of a pair between 0 and 2π. -/
def angleOf (al be : Q) : Q := (be.atan2 al).mod2pi

/-! ### Decisions and timers (R148, R149, R169) -/

/-- td, one period of 12.5 MS/s (R149). -/
def tqTd : Q := spanQ 128

/-- The decisions that a time in seconds takes. -/
def decisionsOf (t : Q) : Nat := ((t.raw * 12500000 + (Q.unit - 1)) / Q.unit).toNat

/-- The 500 µs catch limit (Table 4.5). -/
def catchLimit : Nat := 6250

/-- Whether the estimation part runs (R148). -/
def Lane.tqRuns (l : Lane) (x : Ax) : Bool :=
  l.part.hasTq && (l.on (LE_STAT_DRIVE x) || decide (l.rd (TQ_CFG_SLMODE x) ≠ 0))

/-- The magnitude of a pair. -/
def magOf (a b : Q) : Q := ((a.mul a).add (b.mul b)).sqrt

/-- The stator currents of a sample in the fixed frame (R150). -/
def statorAl (v : AdVals) : Q := ((((Q.int 2).mul v.ia).sub v.ib).sub v.ic).div (Q.int 3)
def statorBe (v : AdVals) : Q := (v.ib.sub v.ic).div Q.sqrt3

/-- What one decision computes. -/
structure TqOut where
  t : TqSt
  ang : Q
  ial : Q
  ibe : Q
  clean : Bool
  ovf : Bool
deriving DecidableEq, Repr

/-- The estimators and the observer (R150, R165, R166). -/
def Lane.tqEstimate (l : Lane) (x : Ax) (v : AdVals) (st : Nat) (td : Q) : TqOut :=
  let t := (l.ax x).tq
  let su := Q.int ((st / 4 % 2 : Nat) : Int)
  let sv := Q.int ((st / 2 % 2 : Nat) : Int)
  let sw := Q.int ((st % 2 : Nat) : Int)
  let val := (v.vdc.mul ((((Q.int 2).mul su).sub sv).sub sw)).div (Q.int 3)
  let vbe := (v.vdc.mul (sv.sub sw)).div Q.sqrt3
  let ial := statorAl v
  let ibe := statorBe v
  let ls := l.q (TQ_LS x)
  let psim := l.q (TQ_PSIM x)
  let rs := l.q (TQ_RS x)
  let src := l.rd (FB_STAT_SRC x)
  let sensor := decide (1 ≤ src) && decide (src ≤ 4)
  let th := (l.srcEval x src l.now).th
  let cal := if sensor then (ls.mul ial).add (psim.mul (Q.cos th)) else Q.zero
  let cbe := if sensor then (ls.mul ibe).add (psim.mul (Q.sin th)) else Q.zero
  let drift := td.mul (l.q (TQ_DRIFT x))
  let a0 := Q.of t.psAl
  let b0 := Q.of t.psBe
  let al := (a0.add (td.mul (val.sub (rs.mul ial)))).sub (drift.mul (a0.sub cal))
  let be := (b0.add (td.mul (vbe.sub (rs.mul ibe)))).sub (drift.mul (b0.sub cbe))
  let psi := magOf al be
  let pp := Q.int (l.rd (TQ_CFG_PP x))
  let te := ((((Q.int 3).div (Q.int 2)).mul pp).mul ((al.mul ibe).sub (be.mul ial)))
  let pal := al.sub (ls.mul ial)
  let pbe := be.sub (ls.mul ibe)
  let thp := Q.of t.thPll
  let ep := ((pbe.atan2 pal).sub thp).wrap
  let w := (Q.of t.wPll).add ((td.mul (l.q (TQ_PLLKI x))).mul ep)
  let th2 := (thp.add (td.mul (w.add ((l.q (TQ_PLLKP x)).mul ep)))).mod2pi
  let rm := ((magOf pal pbe).sub psim).abs.div psim
  let rp := ep.abs
  let clean := decide (rm.raw ≤ l.rdS (TQ_RESMAG x)) && decide (rp.raw ≤ l.rdS (TQ_RESPH x))
  { t := { t with started := true, n := t.n + 1, psAl := al.raw, psBe := be.raw, thPll := th2.raw, wPll := w.raw
                  wClean := if clean then w.raw else t.wClean, te := te.raw, psi := psi.raw, rm := rm.raw, rp := rp.raw }
    ang := angleOf al be, ial := ial, ibe := ibe, clean := clean
    ovf := al.ovf || be.ovf || te.ovf || psi.ovf || w.ovf || th2.ovf || rm.ovf }

/-! ### The switching part (R153 to R158, R171) -/

/-- The torque and flux comparators (R153). -/
def ctNext (ct : Int) (te tref hbt : Q) : Int :=
  if te.raw ≤ (tref.sub hbt).raw then 1
  else if (tref.add hbt).raw ≤ te.raw then -1
  else if ct = 1 ∧ tref.raw ≤ te.raw then 0
  else if ct = -1 ∧ te.raw ≤ tref.raw then 0
  else ct

def cpNext (cp : Nat) (psi psiref hbp : Q) : Nat :=
  if psi.raw ≤ (psiref.sub hbp).raw then 1 else if (psiref.add hbp).raw ≤ psi.raw then 0 else cp

/-- The state proposed by hysteresis during ALIGN and RAMP (R171), and whether its arithmetic saturated. -/
def Lane.hysteresis (l : Lane) (x : Ax) (ial ibe : Q) (present : Nat) : Nat × Bool :=
  let t := (l.ax x).tq
  let i := (l.slCurrent x).1
  let da := (i.mul (Q.cos (.of t.thFo))).sub ial
  let db := (i.mul (Q.sin (.of t.thFo))).sub ibe
  let m := magOf da db
  (if m.raw ≤ l.rdS (TQ_IHB x) then zeroVector present else vecState (nearestVector (angleOf da db)), m.ovf)

/-- A change of the applied state is counted by its legs (TQ_SWCNT_x.TRANS). Only the switching part's own changes of state are counted, so
that MODULATED drive counts none, of which the spec is silent (DESIGN CHOICE, log entry 63). -/
def Lane.tqCount (l : Lane) (x : Ax) (legs : Nat) : Lane :=
  let t := (l.ax x).tq
  let ms := l.now / msec
  if ms = t.transMs then l.setTq x { t with trans := t.trans + legs }
  else
    (l.wr (TQ_SWCNT_TRANS x) (if ms = t.transMs + 1 then Nat.min 65535 t.trans else 0)).setTq x { t with trans := legs, transMs := ms }

/-- Whether the bounds of the comparators saturate (R153). -/
def Lane.bandOvf (l : Lane) (x : Ax) (tref : Q) : Bool :=
  let hb := l.q (TQ_TBAND x)
  let pr := l.q (TQ_PSIREF x)
  let pb := l.q (TQ_PBAND x)
  (tref.sub hb).ovf || (tref.add hb).ovf || (pr.sub pb).ovf || (pr.add pb).ovf

/-- The switching part of a decision in TABLE drive mode. TQ_STAT_x.SECTOR follows here alone, so that it stands still in MODULATED drive; and
while a trip or a safe state holds the gates, the present state and TQ_STAT_x.VEC stay the last decided one (R152, R156, R158; DESIGN CHOICE,
log entry 63). -/
def Lane.tqSwitch (l : Lane) (x : Ax) (o : TqOut) (first : Bool) : Lane :=
  let t := (l.ax x).tq
  let twelve := l.on (TQ_CFG_SECT12 x)
  let ct := ctNext (if first then 0 else t.ct) (.of t.te) (.of t.tref) (l.q (TQ_TBAND x))
  let cp := cpNext (if first then 0 else l.rd (TQ_STAT_CP x)) (.of t.psi) (l.q (TQ_PSIREF x)) (l.q (TQ_PBAND x))
  let sector := sectorOf twelve o.ang
  let present := l.rd (TQ_STAT_VEC x)
  let l := l.leOvf x (l.bandOvf x (.of t.tref))
  let l := (l.wr (TQ_STAT_SECTOR x) sector).wr (TQ_STAT_CP x) cp
  let l := (l.wr (TQ_STAT_CT x) (if ct = 1 then 1 else if ct = -1 then 3 else 0)).setTq x { t with ct := ct }
  if l.rd (TQ_STAT_SLSTATE x) = slCatch then
    ((((l.clr (TQ_STAT_IMAXACT x)).wr (TQ_STAT_VEC x) 0).setTq x { (l.ax x).tq with dwell := 0 }).tqCount x 0).stateDemand x 0
  else
    let mag := magOf o.ial o.ibe
    let high := decide (l.rdS (TQ_IMAX x) < mag.raw)
    let hy := l.hysteresis x o.ial o.ibe present
    let want :=
      if high then vecState (nearestVector (angleOf o.ial.neg o.ibe.neg))
      else if l.substituted x then hy.1
      else if ct = 0 then zeroVector present
      else vecState (tableVector twelve sector cp (decide (ct = 1)))
    let held := t.dwell + 1
    let take := decide (want ≠ present) && (high || decide (l.rd (TQ_TIME_DWELL x) ≤ held))
    let l := (l.put (TQ_STAT_IMAXACT x) high).when high (fun l => l.raiseOnce srcTQ 6 clsCE (some x) 0)
    let l := (l.setTq x { (l.ax x).tq with dwell := if take then 0 else held }).leOvf x (mag.ovf || (l.substituted x && hy.2))
    let l := l.when take (fun l => l.stateDemand x want)
    (l.wr (TQ_STAT_VEC x) (if take then want else present)).tqCount x (if take then legsChanged present want else 0)

/-! ### Lock and the sensorless states (R166, R167, R172, R174) -/

/-- Lock is found or lost by its counts (R166, R167). -/
def Lane.tqLock (l : Lane) (x : Ax) (clean : Bool) (vdc : Q) : Lane :=
  let t := (l.ax x).tq
  let run := decide (l.rd (TQ_STAT_SLSTATE x) = slRun)
  let slow := decide (2 * (Q.of t.wPll).abs.raw < l.rdS (TQ_HOSPD x))
  let n := l.rd (TQ_TIME_LOCKN x)
  let cleanN := if clean then t.cleanN + 1 else 0
  let dirtyN := if clean then 0 else if run && slow then t.dirtyN else t.dirtyN + 1
  let lowAt := if run && slow then some (t.lowAt.getD t.n) else none
  let l := l.setTq x { t with cleanN := Nat.min cleanN n, dirtyN := Nat.min dirtyN n, lowAt := lowAt }
  if n ≤ cleanN then l.set (TQ_STAT_LOCK x)
  else if n ≤ dirtyN ∧ l.on (TQ_STAT_LOCK x) then
    let l := l.clr (TQ_STAT_LOCK x)
    if run then
      let again := match t.caughtAt with
        | some c => decide (l.now - c ≤ 10 * msec)
        | none => false
      ((l.bump (TQ_CNT_LOCKLOSS x)).eventAx x 24).catchOrAsc x (.of t.wClean) vdc again
    else l
  else l

/-- The handover from RAMP to RUN (R172). -/
def Lane.tqHandover (l : Lane) (x : Ax) : Lane :=
  let t := (l.ax x).tq
  match t.holdAt with
  | some h =>
    if l.rd (TQ_STAT_SLSTATE x) = slRamp ∧ l.on (TQ_STAT_LOCK x) then
      let share := (l.shareC x).1
      let ints := if 0 < share.raw then (Q.of t.te).div share else .zero
      let l := l.when (decide (h + decisionsOf (l.q (TQ_HOLDT x)) ≤ t.n)) (fun l => l.set (TQ_STAT_LATE x))
      let l := (l.setLe x { (l.ax x).le with ints := ints.raw }).leOvf x ints.ovf
      (l.setTq x { (l.ax x).tq with holdAt := none, lowAt := none }).slSet x slRun
    else l
  | none => l

/-- The position count that the observer keeps (log entry 24). -/
def Lane.tqPosition (l : Lane) (x : Ax) (before : Int) : Lane :=
  let f := (l.ax x).fb
  let d := ((Q.of (l.ax x).tq.thPll).sub (.of before)).wrap.div (Q.int (l.pp x))
  (l.setFb x { f with obs := f.obs + d.raw }).posSettle x

/-- A rollback of the pair (R164): `l` is the lane with the snapshot of the decision's input latch. -/
def Lane.tqRollback (l : Lane) (x : Ax) : Lane :=
  let t := (l.ax x).tq
  let third := match t.rbTimes with
    | [_, u] => decide (l.now - u ≤ 10 * msec)
    | _ => false
  let l := (l.set (TQ_STAT_HOLD x)).bump (TQ_RBCNT_TOTAL x)
  let data := 256 * l.rd (TQ_RBCNT_TOTAL x)
  let l := l.setTq x { t with rbTimes := (l.now :: t.rbTimes).take 2 }
  let l := (l.raise srcTQ 1 clsCE (some x) data).eventAx x 27
  l.when third (fun l => l.raise srcTQ 2 clsFT (some x) data)

/-- A decision (R148 to R172); `ext` is how much longer than 80 ns the interval was (R222), and `mm` whether the pair mismatches. An engine that
begins again after it was idle goes on from the flux, the PLL and the LOCK that its last decision left; only the comparators begin anew
(R148, R153; DESIGN CHOICE, log entry 63). -/
def Lane.tqDecision (l : Lane) (x : Ax) (c : AdcCodes) (ext : Nat) (mm : Bool) : Lane :=
  if l.tqRuns x then
    let table := l.on (LE_STAT_DRIVE x)
    let first := !(l.ax x).tq.started
    let l := (l.when (decide (l.rd (TQ_STAT_SLSTATE x) = slCatch)) (fun l => l.gateMark x)).adTake x c
    let v := l.adScale x c
    if mm then l.tqRollback x
    else
      let before := (l.ax x).tq.thPll
      let st := l.appliedState x
      let td := if table then tqTd else spanQ ((128 + ext : Nat) : Int)
      let o := l.tqEstimate x v st td
      let l := l.setTq x { o.t with trefU := (l.ax x).tq.tref }
      let l := l.when table (fun l =>
        (l.setAd x { (l.ax x).ad with dec := [v.ia.raw, v.ib.raw, v.ic.raw, v.vdc.raw] }).rampStep x td)
      let l := if table then l.tqSwitch x o first else l.wr (TQ_STAT_VEC x) st
      let l := ((l.leOvf x o.ovf).tqPosition x before).tqLock x o.clean v.vdc
      (l.tqHandover x).slBegin x v.vdc false
  else l.setTq x { (l.ax x).tq with started := false }

/-- The observation registers take the last decision's values at an outer-cycle boundary; an idle engine's hold 0 (R148, R178). In TABLE drive
mode the AD block's do the same (R255). -/
def Lane.tqObserve (l : Lane) (x : Ax) : Lane :=
  let t := if l.tqRuns x then (l.ax x).tq else {}
  let dec := fun n => (((l.ax x).ad.dec[n]?).getD 0)
  let l := l.when (l.on (LE_STAT_DRIVE x)) (fun l =>
    (((l.wrS (AD_IA x) (dec 0)).wrS (AD_IB x) (dec 1)).wrS (AD_IC x) (dec 2)).wrS (AD_VDC x) (dec 3))
  let l := ((l.wrS (TQ_TE x) t.te).wrS (TQ_PSI x) t.psi).wrS (TQ_TREFU x) t.trefU
  (((l.wrS (TQ_THE x) t.thPll).wrS (TQ_WE x) t.wPll).wrS (TQ_RESM x) t.rm).wrS (TQ_RESP x) t.rp

/-! ### The timers (Table 4.5) -/

/-- The align timer reaches TQ_ALIGNT_x. -/
def Lane.alignExpiry (l : Lane) (x : Ax) : Lane :=
  let t := (l.ax x).tq
  if l.rd (TQ_STAT_SLSTATE x) = slAlign ∧ t.alignAt + decisionsOf (l.q (TQ_ALIGNT x)) ≤ t.n then
    (l.setTq x { t with thFo := l.rdS (TQ_ALIGNANG x), wFo := 0, holdAt := none }).slSet x slRamp
  else l

/-- The hold timer reaches TQ_HOLDT_x without LOCK. -/
def Lane.holdExpiry (l : Lane) (x : Ax) : Lane :=
  let t := (l.ax x).tq
  match t.holdAt with
  | some h =>
    if l.rd (TQ_STAT_SLSTATE x) = slRamp ∧ h + decisionsOf (l.q (TQ_HOLDT x)) ≤ t.n ∧ l.rd (TQ_STAT_LOCK x) = 0 then
      let l := (l.setTq x { t with holdAt := none }).raise srcTQ 5 clsUC (some x) (l.dataOf (TQ_STAT_SLSTATE x).addr)
      l.axisSafe x 6 false
    else l
  | none => l

/-- The observed speed has stayed below half the handover speed for TQ_HOLDT_x. -/
def Lane.lowExpiry (l : Lane) (x : Ax) : Lane :=
  let t := (l.ax x).tq
  match t.lowAt with
  | some h =>
    if l.rd (TQ_STAT_SLSTATE x) = slRun ∧ h + decisionsOf (l.q (TQ_HOLDT x)) ≤ t.n then l.slAlignStart x else l
  | none => l

/-! ### Catch (R175) -/

/-- The catch limit passes without success. -/
def Lane.catchTimeout (l : Lane) (x : Ax) : Lane :=
  let t := (l.ax x).tq
  if l.rd (TQ_STAT_SLSTATE x) = slCatch ∧ t.catchAt + catchLimit ≤ t.n then l.lockLost x (l.backEmf x (.of t.catchW)) true else l

/-- A catch succeeds: the observer is seeded, and the gates return to modulator control (R175, step 7). The catch time is rounded down to whole
µs in its message (DESIGN CHOICE, log entry 63). -/
def Lane.catchDone (l : Lane) (x : Ax) (phi w al be : Q) (elapsed : Nat) : Lane :=
  let t := (l.ax x).tq
  let quarter := Q.pi.div (Q.int 2)
  let th := ((phi.sub ((signQ w).mul quarter)).add (w.mul ((Q.int elapsed).mul tqTd))).mod2pi
  let ls := l.q (TQ_LS x)
  let psim := l.q (TQ_PSIM x)
  let late := decide (t.n = t.catchAt + catchLimit)
  let l := l.setTq x { t with thPll := th.raw, wPll := w.raw, wClean := w.raw
                              psAl := ((ls.mul al).add (psim.mul (Q.cos th))).raw, psBe := ((ls.mul be).add (psim.mul (Q.sin th))).raw
                              cleanN := 0, dirtyN := 0, lowAt := none, caughtAt := some l.now }
  let l := ((l.set (TQ_STAT_LOCK x)).set (TQ_STAT_CATCHOK x)).bump (TQ_SWCNT_CATCHES x)
  let l := l.when late (fun l => l.set (TQ_STAT_CLATE x))
  let l := l.leOvf x (th.ovf || ((ls.mul al).add (psim.mul (Q.cos th))).ovf || ((ls.mul be).add (psim.mul (Q.sin th))).ovf)
  let l := (l.raise srcTQ 4 clsCE (some x) ((t.n - t.catchAt) * 2 / 25 % 65536)).eventAx x 25
  (l.slSet x slRun).gateSettle x

/-- A pulse ends with the codes of its current (R175, steps 3 to 7; Table 4.5). -/
def Lane.catchPulse (l : Lane) (x : Ax) (c : AdcCodes) : Lane :=
  let t := (l.ax x).tq
  let k := t.pulses + 1
  let per := l.rd (TQ_CATCH_PER x)
  let pw := l.rd (TQ_CATCH_PW x)
  let endAt := t.catchAt + k * per + pw
  if l.rd (TQ_STAT_SLSTATE x) = slCatch ∧ endAt ≤ t.n ∧ t.n ≤ t.catchAt + catchLimit then
    let l := l.adTake x c
    let v := l.adScale x c
    let al := statorAl v
    let be := statorBe v
    let mag := magOf al be
    let l := l.leOvf x mag.ovf
    if l.rdS (TQ_CATCHIMAX x) < mag.raw then l.lockLost x (l.backEmf x (.of t.catchW)) true
    else
      let ls := l.q (TQ_LS x)
      let dt := (Q.int pw).mul tqTd
      let ea := (ls.neg.mul al).div dt
      let eb := (ls.neg.mul be).div dt
      let phi := eb.atan2 ea
      let span := (Q.int per).mul tqTd
      let w := ((phi.sub (.of t.phi)).wrap).div span
      let flux := (l.q (TQ_PSIM x)).mul w.abs
      let turn := ((Q.of t.wk).mul (Q.int per)).mul tqTd
      let tol := ((l.q (TQ_RESMAG x)).mul (l.q (TQ_PSIM x))).mul w.abs
      let dif := (magOf ea eb).sub flux
      let steady := decide (((phi.sub (.of t.phi)).sub turn).wrap.abs.raw ≤ l.rdS (TQ_RESPH x))
      let sized := decide (dif.abs.raw ≤ tol.raw)
      let good := decide (3 ≤ k) && steady && sized
      let cons := if good then t.cons + 1 else 0
      let l := l.setTq x { t with pulses := k, phi := phi.raw, wk := if 2 ≤ k then w.raw else 0, cons := cons }
      let l := l.leOvf x (ea.ovf || eb.ovf || (decide (2 ≤ k) && w.ovf) ||
        (decide (3 ≤ k) && (turn.ovf || tol.ovf || dif.ovf)))
      if l.rd (TQ_CATCH_NCONS x) ≤ cons then l.catchDone x phi w al be (t.n - endAt) else l
  else l

/-! ### Register writes (R177) -/

/-- The pulse width is at most half the pulse period (TQ_CATCH_x). -/
def catchFits (x : Ax) (a v : Nat) : Bool :=
  decide (a ≠ (TQ_CATCH_PW x).addr) || decide (2 * (v % 256) ≤ v / 256 % 4096)

/-- A write of `n` bytes to an OW register of the TQ engine (R177, R81, R84, R85), or to its RL one, where a value outside the range is counted
and every other is ignored after the lock. A write that could be refused on several grounds counts on one, in the order HALFWR, OWREJ, RANGE
(DESIGN CHOICE, log entry 63). -/
def Lane.tqOwWrite (l : Lane) (x : Ax) (a n : Nat) (v : Word) : Lane :=
  match blockOf a, regUnder a n with
  | some (.tq, y, _), some (_, d) =>
    let rl := decide (d.bits (fun k => k = .ow) = 0)
    if y ≠ x ∨ (rl = true ∧ d.bits (fun k => k = .rl) = 0) then l
    else if d.wide = 64 ∧ n ≠ 8 then l.bump (TQ_CNT_HALFWR x)
    else if rl then (if d.fits (fun k => k = .rl) v.toNat then l else l.bump (TQ_CNT_RANGE x))
    else if l.rd (LE_STAT_STATE x) ≠ leOpen then
      let l := l.bump (TQ_CNT_OWREJ x)
      l.raiseOnce srcTQ 7 clsCE (some x) (l.dataOf (TQ_CNT_OWREJ x).addr)
    else if d.fits (fun k => k = .ow) v.toNat && catchFits x a v.toNat then l.setReg a (d.afterWrite (l.reg a) v.toNat)
    else l.bump (TQ_CNT_RANGE x)
  | _, _ => l

/-- TQ_CTL_x.CNTCLR. -/
def Lane.tqCntClr (l : Lane) (x : Ax) : Lane :=
  ((l.setReg (TQ_CNT_OWREJ x).addr 0#64).wr (TQ_RBCNT_TOTAL x) 0).wr (TQ_SWCNT_CATCHES x) 0

/-! ### The meanings -/

/-- The outcome of a command of a TQ engine: a part without one takes none (R146). -/
def State.actTq (s : State) (i : LaneId) (x : Ax) (f : Lane → Lane) : Host.Outcome State Fault Refusal :=
  s.actX i x (.le x) (fun l => if l.part.hasTq then f l else l)

/-- The outcome of a command that is a core access to a register of a TQ engine. -/
def State.accTq (s : State) (i : LaneId) (x : Ax) (r : RegAcc) (f : Lane → Lane) : Host.Outcome State Fault Refusal :=
  s.act i (fun l => if l.part.hasAxis x && l.part.hasTq then (if l.domOn (.le x) then f l else l.downAccess (.le x) r) else l)

def execTqDecision (i : LaneId) (x : Ax) (c : PhaseCodes) (link : BitVec 14) (ext : Fin 128) (mm : Bool) (s : State) :
    Host.Outcome State Fault Refusal :=
  s.actTq i x (fun l => l.tqDecision x ⟨c.u, c.v, c.w, link⟩ ext mm)
def execAlignTimerExpiry (i : LaneId) (x : Ax) (s : State) : Host.Outcome State Fault Refusal := s.actTq i x (fun l => l.alignExpiry x)
def execHoldTimerExpiry (i : LaneId) (x : Ax) (s : State) : Host.Outcome State Fault Refusal := s.actTq i x (fun l => l.holdExpiry x)
def execLowSpeedTimerExpiry (i : LaneId) (x : Ax) (s : State) : Host.Outcome State Fault Refusal :=
  s.actTq i x (fun l => l.lowExpiry x)
def execCatchPulse (i : LaneId) (x : Ax) (c : AdcCodes) (s : State) : Host.Outcome State Fault Refusal :=
  s.actTq i x (fun l => l.catchPulse x c)
def execCatchTimeout (i : LaneId) (x : Ax) (s : State) : Host.Outcome State Fault Refusal := s.actTq i x (fun l => l.catchTimeout x)
def execTqOwWrite (i : LaneId) (x : Ax) (a n : Nat) (v : Word) (s : State) : Host.Outcome State Fault Refusal :=
  s.accTq i x (wrAcc a n v) (fun l => l.tqOwWrite x a n v)
def execTqCntclr (i : LaneId) (x : Ax) (s : State) : Host.Outcome State Fault Refusal :=
  s.accTq i x (bitAcc (TQ_CTL_CNTCLR x).addr 1) (fun l => l.tqCntClr x)

end Sys2Proof.Machine
end

