-- ==== Sys2Proof/Machine/Boundary.lean ====
section
/-!
DEFINITION. The outer-cycle boundary: lane modes, postures, profiles, the degraded budget, the winding thermal model, and the common-cause
events (spec/01_lanes_modes_faults.md R16 to R49; spec/16_start_up.md R551, R552).
-/

namespace Sys2Proof.Machine

/-! ### The degraded budget (R36, R37, R40) -/

/-- The degraded time not yet in SY_DEGUSED, in root periods. -/
def Lane.degLoose (l : Lane) : Nat := if l.mode = mDegraded then l.sy.degPart + (l.now - l.sy.lastTick) else l.sy.degPart

/-- The degraded time up to a boundary tick is counted in whole milliseconds (R37). -/
def Lane.degCount (l : Lane) : Lane :=
  let t := l.degLoose
  let l := l.wr SY_DEGUSED_MS (Nat.min 0xFFFFFFFF (l.rd SY_DEGUSED_MS + t / msec))
  { l with sy := { l.sy with degPart := t % msec, lastTick := l.now } }

/-- The budget left, in ms. -/
def Lane.budgetLeft (l : Lane) : Nat := l.rd SY_DEGBUD_S * 1000 - l.rd SY_DEGUSED_MS

/-! ### The winding thermal model (R38, R39; its arithmetic is that of log entry 50) -/

/-- The present rise of the winding of an axis. -/
def Lane.windRise (l : Lane) : Ax → Int
  | .x0 => l.sy.dth0
  | .x1 => l.sy.dth1

/-- The present rise replaced. -/
def Lane.setRise (l : Lane) (x : Ax) (v : Int) : Lane :=
  match x with
  | .x0 => { l with sy := { l.sy with dth0 := v } }
  | .x1 => { l with sy := { l.sy with dth1 := v } }

/-- t_amb, the higher of the two driver-die sensors. -/
def Lane.tAmb (l : Lane) : Q := .of (Max.max (l.rdS (AD_MON 4)) (l.rdS (AD_MON 5)) * (Q.unit / 16))

/-- dt_ss of an axis, from its measured d and q currents. -/
def Lane.steadyRise (l : Lane) (x : Ax) : Q :=
  let id := l.q (LE_ID x)
  let iq := l.q (LE_IQ x)
  let p := (((Q.int 3).div (Q.int 2)).mul (l.q (SY_WTM_w0 x.idx))).mul ((id.mul id).add (iq.mul iq))
  (l.q (SY_WTM_w1 x.idx)).mul p

/-- The rise of an axis moves by one outer cycle (R38). -/
def Lane.riseStep (l : Lane) (x : Ax) : Lane :=
  let d := Q.of (l.windRise x)
  l.setRise x (d.add (((l.tOut).div (l.q (SY_WTM_w2 x.idx))).mul ((l.steadyRise x).sub d))).raw

/-- t_th of an axis in whole ms; none for infinite (R39). -/
def Lane.thermTime (l : Lane) (x : Ax) : Option Nat :=
  let d := Q.of (l.windRise x)
  let lim := (l.q (SY_WTM_w3 x.idx)).sub l.tAmb
  let ss := l.steadyRise x
  if l.rd (SY_WTM_w0 x.idx) = 0 ∨ l.rd (SY_WTM_w1 x.idx) = 0 then none
  else if lim.raw ≤ d.raw then some 0
  else if ss.raw ≤ lim.raw then none
  else
    let t := (l.q (SY_WTM_w2 x.idx)).mul (((ss.sub d).div (ss.sub lim)).ln)
    some (t.raw * 1000 / Q.unit).toNat

/-- The smaller of two times, none being infinite. -/
def minTime : Option Nat → Option Nat → Option Nat
  | none, b => b
  | a, none => a
  | some a, some b => some (Nat.min a b)

/-- The thermal model at a boundary, and the degraded time remaining (R38 to R40). -/
def Lane.thermal (l : Lane) : Lane :=
  let l := l.each l.axes Lane.riseStep
  let t := l.axes.foldl (fun a x => minTime a (l.thermTime x)) none
  let l := { l with sy := { l.sy with thermRem := t } }
  l.wr SY_DEGREM_MS (Nat.min 0xFFFFFFFF ((minTime (some l.budgetLeft) t).getD 0))

/-- The degraded time remaining reaches zero (R40): SAFE-HOLD at the next boundary. -/
def Lane.degExpiry (l : Lane) : Lane :=
  if l.mode ≠ mDegraded ∨ l.sy.reqHold.isSome then l
  else if l.rd SY_DEGBUD_S * 1000 ≤ l.rd SY_DEGUSED_MS + l.degLoose / msec then
    ({ l with sy := { l.sy with reqHold := some .degBudget } }).raise srcSY 1 clsUC none 0
  else if l.sy.thermRem = some 0 then
    ({ l with sy := { l.sy with reqHold := some .windTherm } }).raise srcSY 2 clsUC none 0
  else l

/-! ### Common-cause events (R49, Table 1.8) -/

/-- A die stays above SY_THOLD for 10 ms. -/
def Lane.dieHold (l : Lane) : Lane :=
  match l.sy.hotSince with
  | some t => if modeLive l.mode ∧ l.due (t + 10 * msec) then { l with sy := { l.sy with reqHold := some .temperature } } else l
  | none => l

/-- Whether some slot that the lane receives carries a command younger than a limit in cycles (spec/12_tt_network.md R425). The data of slots 0 to
2, references, and of slot 31, the roll-call, carry no command (R421, R436). -/
def Lane.cmdFresh (l : Lane) (limit : Nat) : Bool :=
  (List.range 31).any (fun k => decide (3 ≤ k) && decide (l.rd (TT_SLOTA_KIND k) = kRx) && decide (l.rd (TT_RXAGE_EAGE k) < limit))

/-- Whether some channel of some lane of the module still carries fresh vehicle commands, by the limit of one lane (R49). -/
def State.cmdFresh (s : State) (i : LaneId) : Bool :=
  [LaneId.A, .B, .C].any (fun j => s.part.hasLane j && (s.lane j).cmdFresh ((s.lane i).rd SY_CMDAGE_CYC))

/-- The leader finds the vehicle commands aged; `fresh` tells whether some channel of some lane still carries fresh ones. -/
def Lane.cmdAge (l : Lane) (fresh : Bool) : Lane :=
  if l.holdsToken ∧ fresh = false then { l with sy := { l.sy with cmdAged := true } } else l

/-! ### The partition rule (R29) -/

/-- How long after it became partitioned a lane decides. -/
def Lane.partWait (l : Lane) : Nat := 5 * l.lantPer / 4 + usec

/-- Whether a partitioned lane continues. -/
def Lane.partContinues (l : Lane) : Bool :=
  match l.others.filter (fun i => decide (l.watchOf i = wToggling)) with
  | [] => true
  | [i] => l.outranks l.me i
  | _ => false

/-- A partitioned lane decides at a boundary. -/
def Lane.partDecide (l : Lane) : Lane :=
  match l.sy.partAt with
  | some t =>
    if !(l.due (t + l.partWait) && l.atTick) then l
    else if l.partContinues then { l with sy := { l.sy with partAt := none, partGone := true } }
    else
      let l := { l with sy := { l.sy with partAt := none } }
      if modeLive l.mode then ((l.raise srcSY 4 clsUC none 0).safeHold false).modeFollow else l
  | none => l

/-! ### Local causes (R23) -/

/-- Whether this lane alone delivers torque on an axis. -/
def Lane.onlyDeliverer (l : Lane) (x : Ax) : Bool := l.lanes.filter (fun i => l.delivers i x) = [l.me]

/-- The own causes of R23, as SY_MODE.LOCAL shows them; the last is taken once postures are established (R551). -/
def Lane.localCauses (l : Lane) : Nat :=
  flagBit (l.axes.any (fun x => l.on (GD_STAT_SAFE x))) 0 + flagBit (l.on PC_STAT_PAIR) 1 + flagBit l.portsLost 2 +
    flagBit (l.on SF_ARMSTAT_ESTAB && l.axes.any l.onlyDeliverer) 3

/-! ### Mode transitions at a boundary (R18, R24, R552) -/

/-- Fewer than QUORUM lanes are counted live before postures are established (R552). -/
def Lane.quorumLost (l : Lane) : Lane :=
  if modeCounts l.mode ∧ l.on SF_ARMSTAT_ESTAB = false ∧ l.liveCount < l.rd SF_ARMCFG_QUORUM then
    ({ l with sy := { l.sy with reqHold := some .quorum } }).raise srcSF 9 clsUC none (l.laneMask l.isLive)
  else l

/-- A host restart at its boundary; while a dump runs it waits for the dump (R341 of 09_fault_collection). -/
def Lane.restartStep (l : Lane) : Lane :=
  if l.dumping then { l with sy := { l.sy with reqRestart := false }, fc := { l.fc with restartWait := true } } else l.restart

/-- The mode that the leader has announced, where this lane does not ignore it (R24); 7 is none. -/
def Lane.announced (l : Lane) : Nat := if l.sy.annHeard then l.rd SY_MODE_ANN else 7

/-- ARMING, OPERATE and DEGRADED against the announced mode and the own causes (R24, R538). -/
def Lane.modeTake (l : Lane) : Lane :=
  let m := l.mode
  let ann := l.announced
  let own := decide (l.localCauses ≠ 0)
  if m = mArming then
    if l.on SF_ARMSTAT_DONE ∧ l.rd GL_STAT_VOTE ≠ 0 ∧ (ann = mOperate ∨ ann = mDegraded) then l.setMode (if own then mDegraded else ann) else l
  else if m = mOperate then (if own || ann = mDegraded then l.setMode mDegraded else l)
  else if m = mDegraded then (if !own && ann = mOperate then l.setMode mOperate else l)
  else l

/-- The transition of a boundary: SAFE-HOLD first, then what the host has asked for, then the announced mode. A request whose condition does
not hold lapses; a service request behind an auto-restart that stands waits (R20). -/
def Lane.modeStep (l : Lane) : Lane :=
  if modeLive l.mode ∧ (l.sy.reqHold.isSome ∨ l.announced = mSafeHold) then l.safeHold false
  else if l.sy.reqRestart && l.mayRestart then l.restartStep
  else
    let l := { l with sy := { l.sy with reqRestart := false } }
    if l.autoStands then l
    else if l.sy.reqService && l.mayService then l.enterService
    else ({ l with sy := { l.sy with reqService := false } }).modeTake

/-! ### Profiles (R30 to R33) -/

/-- The CPU divisor code of a profile (Table 1.4). -/
def profDiv : Nat → Nat
  | 2 => 3
  | _ => 1

/-- Whether the boundary named by an announcement has come. -/
def Lane.cycleReached (l : Lane) (c : Nat) : Bool := decide ((l.rd GL_CYCLE + 2 ^ 32 - c) % 2 ^ 32 < 2 ^ 31)

/-- An announced profile applies at its boundary: the modulators take its period, and the divisor follows at the boundary commit (R32, R33). The
profile in force, announced again, changes nothing, a period that firmware has written since among it (DESIGN CHOICE, log entry 63). -/
def Lane.profStep (l : Lane) : Lane :=
  match l.sy.apply with
  | some a =>
    if l.cycleReached a.cycle then
      let old := l.prof
      let l := { l with sy := { l.sy with apply := none } }
      if a.prof = old then l
      else
        let l := (l.wr SY_PROF_INF a.prof).event 10
        ({ l with sy := { l.sy with divFrom := some old } }).each l.axes (fun l x => l.when (l.domOn (.pg x)) (fun l => l.modProfile x))
    else l
  | none => l

/-- The divisor changes at the commit, and a lower VCORE is requested after it; a later preparation sends its request again (R33, R34). -/
def Lane.profCommit (l : Lane) : Lane :=
  match l.sy.divFrom with
  | some old =>
    let l := ({ l with sy := { l.sy with divFrom := none } }).setDiv (profDiv l.prof)
    if profMv l.prof < profMv old then
      ({ l with sy := { l.sy with prepLost := true } }).pmRequest (profMv l.prof) .lower
    else l
  | none => l

/-! ### The boundary -/

/-- What the boundary does before the lane's own transition; an auto-restart that was due before it may follow (R20). -/
def Lane.boundaryHead (l : Lane) (d0 d1 : Nat) : Lane :=
  let l := { l with sy := { l.sy with autoTick := l.sy.autoDue } }
  (((((l.glBoundary d0 d1).degCount).thermal).armBoundary).quorumLost)

/-- What follows the transition in the Guyline, the scheduler, the self-test engine, the network and the axes. -/
def Lane.boundaryTail (l : Lane) (fresh : Bool) : Lane :=
  let l := ((((l.modeFollow).postureStep).profStep).voteStep).when (!l.pairLives) Lane.hashSend
  let l := ((l.tokBoundary).stTick).each l.axes (fun l x => if l.part.hasTq then l.tqObserve x else l)
  let l := { l with sy := { l.sy with cmdAged := l.sy.cmdAged && !fresh } }
  l.domPermission

/-- An outer-cycle boundary tick; a lane in BOOT evaluates its postures too (R27). -/
def Lane.boundary (l : Lane) (d0 d1 : Nat) (fresh : Bool) : Lane :=
  let l := (l.boundaryHead d0 d1).modeStep
  if l.mode = mBoot then l.postureStep.newCycle
  else
    let l := ({ l with sy := { l.sy with cycled := true } }).wr SY_MODE_LOCAL l.localCauses
    (l.boundaryTail fresh).newCycle

/-- An auto-restart that is due enters BOOT; while a dump runs it happens when the dump ends (R20). -/
def Lane.autoRestart (l : Lane) : Lane := if l.autoStands && l.atTick && !l.dumping then l.restart else l

/-! ### The meanings -/

/-- The boundary tick of a lane, at its place (R294, R412); commanded elsewhere, there is none. -/
def execOuterCycleBoundary (i : LaneId) (d0 d1 : Fin 23) (s : State) : Host.Outcome State Fault Refusal :=
  s.act i (fun l => if l.tickHere then l.boundary d0 d1 (s.cmdFresh i) else l)
def execDegradedTimeExpiry (i : LaneId) (s : State) : Host.Outcome State Fault Refusal := s.act i Lane.degExpiry
def execDieTemperatureHold (i : LaneId) (s : State) : Host.Outcome State Fault Refusal := s.act i Lane.dieHold
def execCommandAgeLimit (i : LaneId) (s : State) : Host.Outcome State Fault Refusal := s.act i (fun l => l.cmdAge (s.cmdFresh i))
def execAutoRestart (i : LaneId) (s : State) : Host.Outcome State Fault Refusal := s.act i Lane.autoRestart
def execPartitionDecision (i : LaneId) (s : State) : Host.Outcome State Fault Refusal := s.act i Lane.partDecide

end Sys2Proof.Machine
end

