-- ==== Sys2Proof/Machine/Can.lean ====
section
/-!
DEFINITION. The CAN FD controller: filters, transmit buffers, error counters and bus-off recovery (spec/12_tt_network.md R439 to R442; the
counters under ISO 11898-1, log entry 31).
-/

namespace Sys2Proof.Machine

/-! ### Error counters -/

/-- Whether the controller takes part in the bus. -/
def Lane.cnOn (l : Lane) : Bool := l.on CN_CFG_EN && !l.on CN_STAT_BUSOFF

/-- The states follow the counters: WARN at 96, error-passive above 127, bus-off above 255 (R439); a change of state drives the event. -/
def Lane.cnState (l : Lane) (tec rec : Nat) : Lane :=
  let off := decide (255 < tec)
  let pas := decide (127 < tec) || decide (127 < rec)
  let was := (l.on CN_STAT_BUSOFF, l.on CN_STAT_PASSIVE)
  let l := ((l.wr CN_STAT_TEC (Nat.min 255 tec)).wr CN_STAT_REC (Nat.min 255 rec)).put CN_STAT_WARN (decide (96 ≤ tec) || decide (96 ≤ rec))
  let l := (l.put CN_STAT_PASSIVE pas).put CN_STAT_BUSOFF off
  let d := l.dataOf CN_STAT_TEC.addr
  let l := l.when (pas && !was.2) (fun l => l.raise srcCN 2 clsCE none d)
  let l := l.when (off && !was.1) (fun l =>
    ({ l with cn := { l.cn with recovering := l.on CN_CFG_AUTOREC } }).raise srcCN 1 clsUC none d)
  if (off, pas) = was then l else l.event 112

/-! ### Transmission (R442) -/

/-- Whether a frame's format is allowed: FD frames need CN_CFG.FD (R439, R442; log entry 31). -/
def Lane.cnFormat (l : Lane) (header : Nat) : Bool := !header.testBit 30 || l.on CN_CFG_FD

/-- The pending buffer that goes first: the lowest ID, then the lowest number. -/
def Lane.cnNext (l : Lane) : Option Nat :=
  ((List.range 8).filter (fun n => (l.rd CN_TXSTAT_PEND).testBit n && l.cnFormat (l.rd (CN_TXHDR n)))).foldl (fun a n =>
    match a with
    | none => some n
    | some b => if l.rd (CN_TXHDR n) % 2 ^ 29 < l.rd (CN_TXHDR b) % 2 ^ 29 then some n else some b) none

/-- A buffer is no longer pending. -/
def Lane.cnUnpend (l : Lane) (n : Nat) : Lane := l.wr CN_TXSTAT_PEND (l.rd CN_TXSTAT_PEND &&& (255 - 2 ^ n))

/-- CN_TXREQ released. -/
def Lane.cnReq (l : Lane) (m : Nat) : Lane :=
  (l.wr CN_TXSTAT_PEND (l.rd CN_TXSTAT_PEND ||| m)).wr CN_TXSTAT_DONE (l.rd CN_TXSTAT_DONE &&& (255 - m))

/-- The data length of a DLC in the FD format, and in the classical one. -/
def dlcLen (fd : Bool) (d : Nat) : Nat :=
  if d ≤ 8 then d
  else if fd then (match d with
    | 9 => 12
    | 10 => 16
    | 11 => 20
    | 12 => 24
    | 13 => 32
    | 14 => 48
    | _ => 64)
  else 8

/-- The frame of a transmit buffer. -/
def Lane.cnFrame (l : Lane) (n : Nat) : CanFrame :=
  let h := l.rd (CN_TXHDR n)
  let rtr := l.on (CN_TXDLC_RTR n)
  let d := l.rd (CN_TXDLC_DLC n)
  ⟨h, d, false, rtr, if rtr then [] else l.bytes (0xF000C1000 + 0x40 * n) (dlcLen (h.testBit 30) d)⟩

/-- The frame of the first pending buffer completes, or loses arbitration (R442). -/
def Lane.cnSent (l : Lane) (ok : Bool) : Lane :=
  match l.cnNext with
  | none => l
  | some n =>
    if l.cnOn = false ∨ l.on CN_CFG_LISTEN then l
    else if ok then
      let l := (l.cnUnpend n).wr CN_TXSTAT_DONE (l.rd CN_TXSTAT_DONE ||| 2 ^ n)
      let l := ((l.bump CN_CNT_TXDONE).send (.can n (l.cnFrame n))).event 113
      l.cnState (l.rd CN_STAT_TEC - 1) (l.rd CN_STAT_REC)
    else if l.on CN_CFG_ONESHOT then l.cnUnpend n
    else l

/-! ### Reception (R441) -/

/-- The first filter that a header matches. -/
def Lane.cnFilter (l : Lane) (h : Nat) : Option Nat :=
  (List.range 32).find? (fun n => l.on (CN_FMAP_EN n) &&
    decide (((h ^^^ getBits (l.reg (CN_FID_ID n).addr) 0 30) &&& getBits (l.reg (CN_FMASK_ID n).addr) 0 30) = 0))

/-- An entry of a received frame (Table 12.7). -/
def cnEntry (f : CanFrame) (n : Nat) (cont : Bool) (data : List Byte) : List Byte :=
  leBytes 4 f.header ++ leBytes 1 (f.dlc % 16 + (if f.esi then 16 else 0) + (if f.rtr then 32 else 0) + (if cont then 128 else 0)) ++
    leBytes 3 n ++ data

/-- A successful reception lowers REC; above 127 it falls to a value from 119 to 127, which the standard leaves open (log entry 31). -/
def Lane.cnHeard (l : Lane) : Lane :=
  let r := l.rd CN_STAT_REC
  let l := { l with fresh := l.fresh + 1 }
  l.cnState (l.rd CN_STAT_TEC) (if 127 < r then 119 + Config.pick l.me l.fresh % 9 else r - 1)

/-- A frame arrives. -/
def Lane.cnReceive (l : Lane) (f : CanFrame) : Lane :=
  if l.cnOn = false ∨ l.cnFormat f.header = false then l
  else
    let l := l.when (!l.on CN_CFG_LISTEN) Lane.cnHeard
    match l.cnFilter (f.header % 2 ^ 30) with
    | none => l.bump CN_CNT_NOMATCH
    | some n =>
      let h := l.rd (CN_FMAP_HQ n)
      let p := l.rd (CN_FMAP_PRIO n)
      if f.data.length ≤ 48 then l.hamperPush h p [cnEntry f n false f.data] .none
      else l.hamperPush h p [cnEntry f n true (f.data.take 48), cnEntry f n false (f.data.drop 48)] .none

/-! ### Errors and recovery (R439) -/

/-- A protocol error as transmitter or receiver; `heavy` tells that it counts 8. A transmitter counts 8 for every error but two, for which it
counts nothing: an acknowledge error while error-passive without a dominant bit in its error flag, and a stuff error during arbitration
(log entry 31). -/
def Lane.cnError (l : Lane) (lec : Nat) (tx heavy : Bool) : Lane :=
  if l.cnOn = false then l
  else
    let l := (l.wr CN_STAT_LEC lec).bump CN_CNT_PROTO
    let l := (l.raiseOnce srcCN 3 clsCE none (l.dataOf CN_STAT_TEC.addr)).event 114
    let l := match l.cnNext with
      | some n => if tx && l.on CN_CFG_ONESHOT then l.cnUnpend n else l
      | none => l
    if l.on CN_CFG_LISTEN then l
    else if tx then
      if !heavy && (lec = 1 || (lec = 3 && l.on CN_STAT_PASSIVE)) then l else l.cnState (l.rd CN_STAT_TEC + 8) (l.rd CN_STAT_REC)
    else l.cnState (l.rd CN_STAT_TEC) (l.rd CN_STAT_REC + (if heavy then 8 else 1))

/-- CN_CTL.RECOVER. -/
def Lane.cnRecover (l : Lane) : Lane := if l.on CN_STAT_BUSOFF then { l with cn := { l.cn with recovering := true } } else l

/-- 128 occurrences of 11 recessive bits complete the recovery. -/
def Lane.cnRecovered (l : Lane) : Lane :=
  if l.on CN_STAT_BUSOFF ∧ l.cn.recovering then ({ l with cn := { l.cn with recovering := false } }).cnState 0 0 else l

/-! ### The meanings -/

def execCanFrameReceive (i : LaneId) (f : CanFrame) (s : State) : Host.Outcome State Fault Refusal := s.actD i .nw (fun l => l.cnReceive f)
def execCanFrameSent (i : LaneId) (ok : Bool) (s : State) : Host.Outcome State Fault Refusal := s.actD i .nw (fun l => l.cnSent ok)
def execCanProtocolError (i : LaneId) (lec : Fin 8) (tx heavy : Bool) (s : State) : Host.Outcome State Fault Refusal :=
  s.actD i .nw (fun l => l.cnError lec tx heavy)
def execBusOffRecovery (i : LaneId) (s : State) : Host.Outcome State Fault Refusal := s.actD i .nw Lane.cnRecovered
def execCnTxreq (i : LaneId) (m : Byte) (s : State) : Host.Outcome State Fault Refusal :=
  s.accD i .nw (bitAcc CN_TXREQ_REQ.addr m.toNat) (fun l => l.cnReq m.toNat)
def execCnRecover (i : LaneId) (s : State) : Host.Outcome State Fault Refusal :=
  s.accD i .nw (bitAcc CN_CTL_CNTCLR.addr 2) Lane.cnRecover
def execCnCntclr (i : LaneId) (s : State) : Host.Outcome State Fault Refusal :=
  s.accD i .nw (bitAcc CN_CTL_CNTCLR.addr 1) (fun l => l.setReg CN_CNT_TXDONE.addr 0#64)

end Sys2Proof.Machine
end

