-- ==== Sys2Proof/Machine/Dump.lean ====
section
/-!
DEFINITION. The Groundsheet dump: the dump context, the capture as FC_CAPWIN and a record show it, the dump engine and the neighbour slots
(spec/09_fault_collection.md R336 to R347).
-/

namespace Sys2Proof.Machine

/-! ### The capture (R336, R347) -/

/-- The length of a capture section (Table 9.8). -/
def sectLen : Nat → Nat
  | 1 => 512
  | 2 => 4096
  | 3 => 4096
  | 4 => 20480
  | 5 => 65536
  | 6 => 8192
  | _ => 0

/-- A byte of the line that an entry of the store buffer holds. -/
def Store.byte (e : Store) (o : Nat) : Option Byte :=
  match e with
  | .line b cells => memFind cells (b + o)
  | .device _ w v => if o < w then some ((leBytes 8 v.toNat)[o]?.getD 0#8) else none

/-- A byte of a capture section: the 32 data bytes of a store-buffer entry and the copy buffer as captured, and a free value where the
spec gives no layout, the drained flags among them (log entry 45). -/
def Capture.byte (c : Capture) (me : LaneId) (sect o : Nat) : Byte :=
  let free := Config.capByte me c.regs c.drained sect o
  if sect = 4 ∧ o % 40 < 32 then
    match c.store[o / 40]? with
    | some e => (e.byte (o % 40)).getD free
    | none => free
  else if sect = 6 then
    match c.copy.find? (fun k => k.1 % 0x2000 = o) with
    | some k => k.2
    | none => 0#8
  else free

/-- A byte of FC_CAPWIN: the page that FC_CAPSEL selects; 0 while no capture is held (R347). -/
def Lane.capWin (l : Lane) (o : Nat) : Byte :=
  match l.fc.cap with
  | none => 0#8
  | some c =>
    let s := l.rd FC_CAPSEL_SECT
    let a := 4096 * l.rd FC_CAPSEL_PAGE + o
    if a < sectLen s then c.byte l.me s a else 0#8

/-! ### The record of the dump engine (R337, R342) -/

/-- The size of the TCM window in bytes; the engine leaves it out where the FT came from TM (R342). -/
def Lane.tcmWin (l : Lane) : Nat := if msgSrc (l.reg FC_CAPMSG.addr) = srcTM then 0 else 65536 * l.rd FC_CFG_TCMWIN

/-- The length of the record in bytes. -/
def Lane.recordLen (l : Lane) : Nat := 256 + 512 + 4096 + 4096 + 20480 + 65536 + 8192 + l.tcmWin

/-- The offset of a section in the record. -/
def sectStart : Nat → Nat
  | 1 => 256
  | 2 => 768
  | 3 => 4864
  | 4 => 8960
  | 5 => 29440
  | 6 => 94976
  | _ => 103168

/-- A byte of the record from its byte 256 on. -/
def Lane.bodyByte (l : Lane) (o : Nat) : Byte :=
  let at_ := fun (s : Nat) => match l.fc.cap with
    | some c => c.byte l.me s (o - sectStart s)
    | none => 0#8
  if o < sectStart 2 then at_ 1
  else if o < sectStart 3 then at_ 2
  else if o < sectStart 4 then at_ 3
  else if o < sectStart 5 then at_ 4
  else if o < sectStart 6 then at_ 5
  else if o < sectStart 7 then at_ 6
  else l.byte (65536 * l.rd FC_CFG_TCMBASE + (o - sectStart 7))

/-- A register as the capture holds it. -/
def Lane.capReg (l : Lane) (a : Nat) : Nat :=
  match l.fc.cap with
  | some c => (regGet c.regs a).toNat
  | none => 0

/-- The entries of SECT (Table 9.9). -/
def Lane.sectTable (l : Lane) : List Byte :=
  let e := fun (t n : Nat) => leBytes 1 t ++ [0#8] ++ leBytes 2 (sectStart t / 256) ++ leBytes 4 n
  let t := ([1, 2, 3, 4, 5, 6].flatMap (fun t => e t (sectLen t))) ++ (if l.tcmWin = 0 then [] else e 7 l.tcmWin)
  t ++ List.replicate (128 - t.length) 0#8

/-- The header of the record (Table 9.9); SEQ of the engine's record is a free value (log entry 45). -/
def Lane.recordHead (l : Lane) : List Byte :=
  let body := (List.range (l.recordLen - 256)).map (fun o => l.bodyByte (256 + o))
  let regs := match l.fc.cap with
    | some c => c.regs
    | none => []
  let seq := (List.range 4).map (fun o => Config.capByte l.me regs [] 0 (8 + o))
  let tq := getBits (match l.fc.cap with
    | some c => regGet c.regs WK_STAT_TQ.addr
    | none => 0#64) 24 2
  let h := leBytes 4 0x47530001 ++ leBytes 2 1 ++ leBytes 1 l.me.code ++ [2#8] ++ seq ++ leBytes 4 l.recordLen ++
    leBytes 8 (l.rd FC_CAPMSG) ++ leBytes 8 (l.rd FC_CAPTIME) ++ leBytes 8 (l.capReg FC_FIRST.addr) ++ leBytes 8 (l.capReg FC_FIRSTTIME.addr) ++
    leBytes 4 (l.capReg FC_CNT_CE.addr) ++ leBytes 1 tq ++ leBytes 3 0 ++ leBytes 4 (crc32c body) ++ leBytes 4 0 ++
    l.sectTable ++ List.replicate 56 0#8 ++ leBytes 4 0xA5A55A5A
  h ++ leBytes 4 (crc32c h)

/-- `n` bytes of the record. -/
def Lane.recordBytes (l : Lane) (o n : Nat) : List Byte :=
  (List.range n).map (fun k => if o + k < 256 then (l.recordHead[o + k]?).getD 0#8 else l.bodyByte (o + k))

/-! ### The dump context (R338 to R341) -/

/-- A pair that was split at the FT is joined for the dump context, with the comparator on (R338). -/
def Lane.dcxJoin (l : Lane) : Lane :=
  if l.on PC_STAT_PAIR then
    let l := (l.clr PC_STAT_PAIR).clr GL_STAT_FWD
    (l.raise srcPC 6 clsCE none (l.dataOf PC_STAT_PAIR.addr)).event 26
  else l

/-- The dump context starts (R338). -/
def Lane.dcxStart (l : Lane) : Lane :=
  if l.fc.dcxDue then
    let l := l.dcxJoin
    ({ l with fc := { l.fc with dcxDue := false, dcxAt := l.now }, pc := { l.pc with core := .dump } }).set FC_STAT_DCX
  else l

/-- When DTMAX passes. -/
def Lane.dcxEnd (l : Lane) : Nat := l.fc.dcxAt + l.rd FC_CFG_DTMAX * msec

/-- The dump context hands over to the dump engine, with the cores halted (R340). -/
def Lane.dcxHand (l : Lane) (why : Nat) : Lane := ({ l with pc := { l.pc with core := .stopped } }).dumpHand why

/-- DTMAX passes without DUMPDONE (R340). -/
def Lane.dcxTimeout (l : Lane) : Lane := if l.on FC_STAT_DCX ∧ l.due l.dcxEnd then l.dcxHand 4 else l

/-- FC_DUMPSTAT takes the result of a dump (Table 9.12). -/
def Lane.dumpResult (l : Lane) (result why path : Nat) (late : Bool) : Lane :=
  ((((l.set FC_DUMPSTAT_VALID).wr FC_DUMPSTAT_RESULT result).wr FC_DUMPSTAT_WHY why).wr FC_DUMPSTAT_PATH path).put FC_DUMPSTAT_LATE late

/-- FC_CTL.DUMPDONE ends the dump context (R339). -/
def Lane.dumpDone (l : Lane) : Lane :=
  if l.pc.core = .dump then
    let late := l.inExpiry l.dcxEnd cycBus
    let l := ({ l with pc := { l.pc with core := .stopped } }).clr FC_STAT_DCX
    let l := l.when late (fun l => l.set FC_STAT_LATE)
    (l.dumpResult 1 0 1 false).dumpOver
  else l

/-! ### The dump engine, sending (R342, R343) -/

/-- The limit of R343 and R344. -/
def dumpLimit : Nat := 100 * usec

/-- The spacing of data messages (Table 9.11). -/
def dumpStep : Nat := 2 * usec

/-- A control message. -/
def Lane.dumpCtl (l : Lane) (p : Port) (form cause v : Nat) : Lane :=
  l.glTo p tDump (l.rd GL_CYCLE) 0 0 (leBytes 1 form ++ leBytes 3 0 ++ (if v = 0 then leBytes 1 cause ++ leBytes 3 0 else leBytes 4 v))

/-- A transfer ends (Table 9.12); a restart that waited for it happens. -/
def Lane.dumpEnd (l : Lane) (result : Nat) : Lane :=
  (({ l with fc := { l.fc with tx := .idle } }).dumpResult result l.fc.why 2 l.fc.txLate).dumpOver

/-- The neighbour to offer to next: the preferred one first, each once. -/
def Lane.dumpNext (l : Lane) : Option Port :=
  let first := if l.on FC_CFG_DNBPREF then Port.prev else Port.next
  if !l.fc.tried.contains first then some first else if !l.fc.tried.contains first.other then some first.other else none

/-- An offer is made, or both neighbours have refused or not answered. -/
def Lane.dumpOffer (l : Lane) : Lane :=
  match l.dumpNext with
  | some p =>
    ({ l with fc := { l.fc with tx := .offered p, txAt := l.now, tried := p :: l.fc.tried } }).dumpCtl p 1 0 (l.recordLen / 256)
  | none => l.dumpEnd 4

/-- The dump engine starts. -/
def Lane.dumpStart (l : Lane) : Lane :=
  if l.fc.deDue then ({ l with fc := { l.fc with deDue := false, tried := [], txSent := 0, txLast := none, txLate := false } }).dumpOffer else l

/-- An answer in the cycle of expiry sets LATE (R345). -/
def Lane.dumpLate (l : Lane) : Lane :=
  if l.inExpiry (l.fc.txAt + dumpLimit) cycBus then { l with fc := { l.fc with txLate := true } } else l

/-- A limit of 100 µs passes without an answer (R343). -/
def Lane.dumpTimeout (l : Lane) : Lane :=
  if l.due (l.fc.txAt + dumpLimit) then
    match l.fc.tx with
    | .offered _ => l.dumpOffer
    | .ended _ => l.dumpEnd 5
    | _ => l
  else l

/-- The accesses of the engine to TCM for a chunk of the record: those of the window, and for the header, whose CRC covers the record, all of it
(spec/14_self_test_lifecycle.md R489). -/
def Lane.recordTouch (l : Lane) (k : Nat) : Lane :=
  let base := 65536 * l.rd FC_CFG_TCMBASE
  if l.tcmWin = 0 then l
  else if k = 0 then l.accessed base l.tcmWin
  else if sectStart 7 ≤ 256 * k then l.accessed (base + (256 * k - sectStart 7)) 256
  else l

/-- The next message of a running transfer: the next chunk, or END (R342). -/
def Lane.dumpSend (l : Lane) : Lane :=
  match l.fc.tx with
  | .sending p =>
    let ready := match l.fc.txLast with
      | some t => l.due (t + dumpStep)
      | none => true
    if !ready then l
    else if l.rd (GL_LINK_UP 0) = 0 ∧ l.rd (GL_LINK_UP 1) = 0 then l.dumpEnd 5
    else
      let n := l.recordLen / 256
      let k := l.fc.txSent
      if k < n then
        let l := (l.recordTouch k).glTo p tDump (l.rd GL_CYCLE) k 0 (l.recordBytes (256 * k) 256)
        { l with fc := { l.fc with txSent := k + 1, txLast := some l.now } }
      else
        let b := leBytes 1 4 ++ leBytes 3 0 ++ leBytes 4 (crc32c (l.recordBytes 0 l.recordLen))
        let l := l.glTo p tDump (l.rd GL_CYCLE) 0 0 b
        { l with fc := { l.fc with tx := .ended p, txAt := l.now } }
  | _ => l

/-- A control message of a form arrives from a lane (Table 9.11). -/
def Lane.dumpIn (l : Lane) (m : GlMsg) (form : Nat) (f : Lane → Port → Lane) : Lane :=
  l.glIn m 8 (fun l i => if byteAt m.payload 0 = form then f l (l.portOf i) else l)

/-- ACCEPT arrives. -/
def Lane.dumpAccept (l : Lane) (m : GlMsg) : Lane :=
  l.dumpIn m 2 (fun l p =>
    if l.fc.tx = .offered p then let l := l.dumpLate; { l with fc := { l.fc with tx := .sending p } } else l)

/-- REFUSE arrives. -/
def Lane.dumpRefuse (l : Lane) (m : GlMsg) : Lane := l.dumpIn m 3 (fun l p => if l.fc.tx = .offered p then l.dumpLate.dumpOffer else l)

/-- The result of a transfer whose DONE reports a code: a failure, or the neighbour that holds the record. -/
def doneResult (code : Nat) (p : Port) : Nat :=
  if code ≠ 0 then 6
  else match p with
    | .next => 2
    | .prev => 3

/-- DONE arrives (Table 9.12). -/
def Lane.dumpDoneIn (l : Lane) (m : GlMsg) : Lane :=
  l.dumpIn m 5 (fun l p =>
    if l.fc.tx = .ended p then
      let l := l.dumpLate
      l.dumpEnd (doneResult (byteAt m.payload 4) p)
    else l)

/-! ### The neighbour slots, receiving (R344, R345) -/

/-- The start of a neighbour dump slot in MRAM (spec/18_address_map.md Table 18.4). -/
def nbSlot (p : Part) (n : Nat) : Nat := (if p = .apx9613 then 0x101600000 else 0x103000000) + 0x200000 * n

/-- The state of a slot's reception. -/
def FcSt.rx (s : FcSt) : Port → DumpRx
  | .next => s.rx0
  | .prev => s.rx1

/-- The state of a slot's reception, replaced, as FC_NBSTAT_n.BUSY shows it. -/
def Lane.setRx (l : Lane) (p : Port) (r : DumpRx) : Lane :=
  let l := match p with
    | .next => { l with fc := { l.fc with rx0 := r } }
    | .prev => { l with fc := { l.fc with rx1 := r } }
  l.put (FC_NBSTAT_BUSY p.idx) r.busy

/-- A received record fails, or breaks off (R344). -/
def Lane.rxFail (l : Lane) (p : Port) : Lane :=
  let l := (l.setRx p {}).set (FC_NBSTAT_BAD p.idx)
  (l.raise srcDE 1 clsCE none ((l.neighbour p).code + 16 * p.idx)).event 5

/-- OFFER arrives (R344). -/
def Lane.offerIn (l : Lane) (m : GlMsg) : Lane :=
  l.dumpIn m 1 (fun l p =>
    if l.on (FC_NBSTAT_FULL p.idx) then ((l.set (FC_NBSTAT_REFUSED p.idx)).event 5).dumpCtl p 3 1 0
    else if l.fc.tx ≠ .idle then (l.event 5).dumpCtl p 3 2 0
    else if l.mode = mBoot ∧ l.im.phase = .lock then (l.event 5).dumpCtl p 3 3 0
    else (l.setRx p { busy := true, chunks := leField m.payload 4 4, at_ := l.now }).dumpCtl p 2 0 0)

/-- A message of a transfer in the cycle of expiry sets LATE (R345). -/
def Lane.rxLate (l : Lane) (p : Port) : Lane :=
  if l.inExpiry ((l.fc.rx p).at_ + dumpLimit) cycBus then l.set (FC_NBSTAT_LATE p.idx) else l

/-- DATA arrives: the chunk is written into the slot (R344). -/
def Lane.dataIn (l : Lane) (m : GlMsg) : Lane :=
  l.glIn m 256 (fun l i =>
    let p := l.portOf i
    let r := l.fc.rx p
    if r.busy ∧ !r.ended ∧ m.chunk < r.chunks ∧ m.chunk < 8192 then
      let at_ := nbSlot l.part p.idx + 256 * m.chunk
      (((l.rxLate p).accessed at_ 256).setBytes at_ m.payload).setRx p { r with got := r.got + 1, at_ := l.now }
    else l)

/-- END arrives: the check of the record (R344). -/
def Lane.endIn (l : Lane) (m : GlMsg) : Lane :=
  l.dumpIn m 4 (fun l p =>
    let r := l.fc.rx p
    if r.busy ∧ !r.ended then
      let l := (l.rxLate p).accessed (nbSlot l.part p.idx) (256 * r.chunks)
      if r.got = r.chunks ∧ crc32c (l.bytes (nbSlot l.part p.idx) (256 * r.chunks)) = leField m.payload 4 4 then
        l.setRx p { r with ended := true }
      else (l.rxFail p).dumpCtl p 5 1 0
    else l)

/-- The last MRAM write of a record completes (R344). -/
def Lane.rxStored (l : Lane) (p : Port) : Lane :=
  let r := l.fc.rx p
  if r.busy ∧ r.ended then
    let l := ((l.setRx p {}).set (FC_NBSTAT_FULL p.idx)).wr (FC_NBSTAT_CHUNKS p.idx) r.chunks
    ((l.raise srcFC 3 clsCE none (p.idx + 65536 * r.chunks)).event 4).dumpCtl p 5 0 0
  else l

/-- 100 µs pass without a message before END (R344). -/
def Lane.rxTimeout (l : Lane) (p : Port) : Lane :=
  let r := l.fc.rx p
  if r.busy ∧ !r.ended ∧ l.due (r.at_ + dumpLimit) then l.rxFail p else l

/-- FC_CTL.NBFREE. -/
def Lane.nbFree (l : Lane) (p : Port) : Lane := l.clr (FC_NBSTAT_FULL p.idx)

/-! ### The meanings -/

def execFcDumpdone (i : LaneId) (s : State) : Host.Outcome State Fault Refusal := s.actD i .cp Lane.dumpDone
def execFcNbfree (i : LaneId) (n : Port) (s : State) : Host.Outcome State Fault Refusal := s.actD i .cp (fun l => l.nbFree n)
def execDumpContextStart (i : LaneId) (s : State) : Host.Outcome State Fault Refusal := s.actD i .cp Lane.dcxStart
def execDumpContextTimeout (i : LaneId) (s : State) : Host.Outcome State Fault Refusal := s.actD i .cp Lane.dcxTimeout
def execDumpEngineStart (i : LaneId) (s : State) : Host.Outcome State Fault Refusal := s.actD i .cp Lane.dumpStart
def execDumpAnswerTimeout (i : LaneId) (s : State) : Host.Outcome State Fault Refusal := s.actD i .cp Lane.dumpTimeout
def execDumpDataSend (i : LaneId) (s : State) : Host.Outcome State Fault Refusal := s.actD i .cp Lane.dumpSend
def execDumpOfferReceive (i : LaneId) (m : GlMsg) (s : State) : Host.Outcome State Fault Refusal := s.actD i .cp (fun l => l.offerIn m)
def execDumpAcceptReceive (i : LaneId) (m : GlMsg) (s : State) : Host.Outcome State Fault Refusal := s.actD i .cp (fun l => l.dumpAccept m)
def execDumpRefuseReceive (i : LaneId) (m : GlMsg) (s : State) : Host.Outcome State Fault Refusal := s.actD i .cp (fun l => l.dumpRefuse m)
def execDumpDataReceive (i : LaneId) (m : GlMsg) (s : State) : Host.Outcome State Fault Refusal := s.actD i .cp (fun l => l.dataIn m)
def execDumpEndReceive (i : LaneId) (m : GlMsg) (s : State) : Host.Outcome State Fault Refusal := s.actD i .cp (fun l => l.endIn m)
def execDumpStoreComplete (i : LaneId) (n : Port) (s : State) : Host.Outcome State Fault Refusal := s.actD i .cp (fun l => l.rxStored n)
def execDumpReceiveTimeout (i : LaneId) (n : Port) (s : State) : Host.Outcome State Fault Refusal := s.actD i .cp (fun l => l.rxTimeout n)
def execDumpDoneReceive (i : LaneId) (m : GlMsg) (s : State) : Host.Outcome State Fault Refusal := s.actD i .cp (fun l => l.dumpDoneIn m)

end Sys2Proof.Machine
end

