-- ==== Sys2Proof/Machine/Flow.lean ====
section
/-!
DEFINITION. The commands of the flow scheduler (spec/10_flow_scheduler.md), with the domain requests that follow from them
(spec/13_power_clocks_wake.md R448).
-/

namespace Sys2Proof.Machine

/-- SC_PDREQ follows the items and timers, and the PD block follows SC_PDREQ (R372, R448). -/
def Lane.domainsFollow (l : Lane) : Lane := l.stepDomains.domScheduler

/-! ### The meanings -/

def execScPost (i : LaneId) (v : Word) (s : State) : Host.Outcome State Fault Refusal := s.actD i .cp (fun l => (l.scPost v).domainsFollow)
def execScEnter (i : LaneId) (s : State) : Host.Outcome State Fault Refusal := s.actD i .cp Lane.scEnter
def execScNext (i : LaneId) (s : State) : Host.Outcome State Fault Refusal := s.actD i .cp (fun l => l.scNext.domainsFollow)
def execScCntclr (i : LaneId) (s : State) : Host.Outcome State Fault Refusal := s.actD i .cp Lane.scCntClr
def execFlowEnableWrite (i : LaneId) (k : Fin 8) (v : Word32) (s : State) : Host.Outcome State Fault Refusal :=
  s.actD i .cp (fun l => l.flowEnWrite k v.toNat)
def execTimerArm (i : LaneId) (t : Fin 1024) (v : Word32) (s : State) : Host.Outcome State Fault Refusal :=
  s.actD i .cp (fun l => (l.timerArm t (v.setWidth 64)).domainsFollow)
def execTimerInsertion (i : LaneId) (t : Fin 1024) (s : State) : Host.Outcome State Fault Refusal := s.actD i .cp (fun l => (l.timerInsert t).domainsFollow)
def execTimerExpiry (i : LaneId) (s : State) : Host.Outcome State Fault Refusal := s.actD i .cp (fun l => l.timerExpire.domainsFollow)
def execHeadroomUpdate (i : LaneId) (s : State) : Host.Outcome State Fault Refusal := s.actD i .cp (fun l => l.headroomUpdate.domScheduler)
def execDeferralAge (i : LaneId) (n : Fin 256) (s : State) : Host.Outcome State Fault Refusal := s.actD i .cp (fun l => l.deferralAge n)

end Sys2Proof.Machine
end

