-- ==== Sys2Proof/Machine/Supply.lean ====
section
/-!
DEFINITION. The sensor supplies and their off-pulses (spec/06_feedback.md R248 to R254).
-/

namespace Sys2Proof.Machine

/-- The running own pulse of a supply. -/
def SfSt.pulse (s : SfSt) : Nat → Option Pulse
  | 0 => s.p0
  | _ => s.p1

def Lane.setPulse (l : Lane) (s : Nat) (p : Option Pulse) : Lane :=
  if s = 0 then { l with sf := { l.sf with p0 := p } } else { l with sf := { l.sf with p1 := p } }

/-- The axis of an input group, and whether the group is sine and cosine (R249). -/
def groupOf (g : Nat) : Ax × Bool := (if g < 2 then .x0 else .x1, decide (g % 2 = 1))

/-- Whether a group is present and configured. -/
def Lane.groupHere (l : Lane) (g : Nat) : Bool :=
  let a := groupOf g
  l.part.hasAxis a.1 && (if a.2 then l.hasSc a.1 else l.hasHall a.1)

/-- The groups mapped to a supply. -/
def Lane.groupsOn (l : Lane) (s : Nat) : List Nat := (List.range 4).filter (fun g => l.groupHere g && decide (l.ssMap g = s + 1))

/-- Groups become faulty at once (R248). -/
def Lane.groupsFault (l : Lane) (gs : List Nat) : Lane :=
  l.each gs (fun l g => let a := groupOf g; (l.groupFault a.1 a.2).passThrough a.1)

/-- A supply latches off by overcurrent (R248). -/
def Lane.supplyOc (l : Lane) (s ma : Nat) : Lane :=
  let l := ((l.wr (SF_SSMON_MA s) ma).set (ssStat s 1)).clr (ssStat s 0)
  ((l.groupsFault (l.groupsOn s)).raise srcSF 1 clsUC none (l.dataOf (SF_SSMON_MA s).addr)).event 188

/-- A supply output falls below 90 % outside a pulse and its recovery (R248). -/
def Lane.supplyUv (l : Lane) (s mv : Nat) : Lane :=
  match l.sf.pulse s with
  | some _ => l
  | none =>
    let l := ((l.wr (SF_SSMON_MV s) mv).set (ssStat s 2)).clr (ssStat s 0)
    ((l.groupsFault (l.groupsOn s)).raise srcSF 2 clsUC none (l.dataOf (SF_SSMON_MV s).addr)).event 188

/-- SF_CTL.CLR releases the latch, and the supply restarts (R248). -/
def Lane.supplyClr (l : Lane) (s : Nat) : Lane :=
  let l := (l.clr (ssStat s 1)).clr (ssStat s 2)
  if l.on (SF_SSCFG_EN s) then l.set (ssStat s 0) else l

/-- The mask of a group begins, or ends (R253). -/
def Lane.maskOn (l : Lane) (g : Nat) : Lane :=
  let a := groupOf g
  let f := (l.ax a.1).fb
  let l := if a.2 then l.setFb a.1 { f with maskSc := true } else l.setFb a.1 { f with maskHall := some f.own.code }
  l.set (FB_STAT_MASK a.1)

/-- The hall codes are compared with those before the mask: one step away is a legal edge at its end, more is an illegal transition (R235,
R253). -/
def Lane.maskOff (l : Lane) (g : Nat) : Lane :=
  let a := groupOf g
  let f := (l.ax a.1).fb
  let l := if a.2 then l.setFb a.1 { f with maskSc := false }
    else
      match f.maskHall with
      | none => l
      | some c =>
        let now := f.own.code
        let l := l.setFb a.1 { f with maskHall := none, own := { f.own with code := c } }
        l.hallTake a.1 .halls l.now now
  let f := (l.ax a.1).fb
  (l.put (FB_STAT_MASK a.1) (f.maskSc || f.maskHall.isSome)).passThrough a.1

/-- The lane of a slot, and its supply (Table 6.6). -/
def slotLane (k : Nat) : Nat := k % 3
def slotSupply (k : Nat) : Nat := k / 3

/-- The offset of a slot in ns (Table 6.6). -/
def slotOffset (k : Nat) : Nat := (k % 3) * 1600000 + (k / 3) * 5000000

/-- Whether the lane timestamp stands at the offset of a slot: in the CLK_PER cycle of it (R250, log entry 64). -/
def Lane.atPulse (l : Lane) (k : Nat) : Bool := l.ntMark (slotOffset k) 10000000

/-- Whether lane timestamps are network time: only while TQ = 0 (R250; R431 of spec/12_tt_network.md). -/
def Lane.timeIsNetwork (l : Lane) : Bool := decide (l.rd TT_STAT_TQ = 0)

/-- A pulse slot begins (R250, R253): an own one switches the supply off, another lane's is checked once timestamps are network time. -/
def Lane.pulseStart (l : Lane) (k : Nat) : Lane :=
  let s := slotSupply k
  if l.atPulse k = false then l
  else if slotLane k = l.me.code then
    if l.on (SF_SSCFG_PULSE s) ∧ l.on (ssStat s 0) then
      (l.setPulse s (some { slot := k, start := l.now })).each (l.groupsOn s) Lane.maskOn
    else l
  else if l.timeIsNetwork then { l with sf := { l.sf with other := some { slot := k, start := l.now } } }
  else l

/-- SF_SSSTAT as it reads: a supply is not on while its off-pulse runs (R250). -/
def Lane.supplyView (l : Lane) : Word :=
  let off := fun (l : Lane) (p : Option Pulse) (f : Fld) =>
    match p with
    | some q => if l.now < q.start + 20 * usec then l.clr f else l
    | none => l
  (off (off l l.sf.p0 SF_SSSTAT_ON0) l.sf.p1 SF_SSSTAT_ON1).reg SF_SSSTAT_ON0.addr

/-- A failed pulse check (R251). -/
def Lane.pulseFail (l : Lane) (s : Nat) : Lane :=
  let l := l.set (ssStat s 3)
  ((l.groupsFault (l.groupsOn s)).raise srcSF 3 clsUC none l.supplyView.toNat).event 188

/-- 90 % of a supply's nominal voltage, in mV. -/
def Lane.supplyMin (l : Lane) (s : Nat) : Nat := if l.on (SF_SSCFG_V5 s) then 4500 else 2970

/-- The fall check 10 µs after the start, or the recovery check 10 µs after the end of the 20 µs pulse (R251, R254). -/
def Lane.pulseCheck (l : Lane) (s : Nat) (recovery : Bool) (mv : Nat) : Lane :=
  match l.sf.pulse s with
  | none => l
  | some p =>
    if l.due (p.start + (if recovery then 30 else 10) * usec) then
      let l := l.wr (SF_SSMON_MV s) mv
      if recovery then
        if l.supplyMin s < mv then (if p.fell && p.crossOk then l.set (ssStat s 5) else l) else l.pulseFail s
      else if mv < 1000 then l.setPulse s (some { p with fell := true })
      else l.pulseFail s
    else l

/-- Whether a group is collapsed: its lines all low, or its latest m2 below LO (R252). -/
def Lane.collapsed (l : Lane) (g : Nat) : Bool :=
  let a := groupOf g
  if a.2 then (l.ax a.1).fb.sc.low else decide ((l.ax a.1).fb.raw = 0)

/-- A group breaks the cross-short check (R252). The XSH bit is that of the supply that the slot names, at another lane's slot and for a group not
mapped to it too (DESIGN CHOICE, log entry 27). -/
def Lane.crossFail (l : Lane) (k g : Nat) (mapped : Bool) : Lane :=
  let l := (l.groupsFault [g]).set (ssStat (slotSupply k) 4)
  let l := if l.on SF_XSTAT_VALID then l
    else (((l.set SF_XSTAT_VALID).put SF_XSTAT_WHICH mapped).wr SF_XSTAT_SLOT k).wr SF_XSTAT_GROUP g
  (l.raise srcSF 4 clsUC none (l.dataOf SF_XSTAT_SLOT.addr)).event 189

/-- The groups that break the check at a slot, each with whether it is mapped to the pulsing supply. -/
def Lane.crossBad (l : Lane) (own : Bool) (s : Nat) : List (Nat × Bool) :=
  ((List.range 4).filter l.groupHere).filterMap (fun g =>
    let m := own && decide (l.ssMap g = s + 1)
    if l.collapsed g = m then none else some (g, m))

/-- The check 15 µs into a slot (R252). -/
def Lane.crossCheck (l : Lane) (k : Nat) : Lane :=
  let s := slotSupply k
  let own := decide (slotLane k = l.me.code)
  let p := if own then l.sf.pulse s else l.sf.other
  match p with
  | none => l
  | some p =>
    if p.slot = k ∧ l.due (p.start + 15 * usec) then
      let bad := l.crossBad own s
      let l := if own then l.setPulse s (some { p with crossOk := decide (bad = []) }) else { l with sf := { l.sf with other := none } }
      l.each bad (fun l e => l.crossFail k e.1 e.2)
    else l

/-- The 30 µs mask ends (R253). -/
def Lane.maskEnd (l : Lane) (s : Nat) : Lane :=
  match l.sf.pulse s with
  | none => l
  | some p => if l.due (p.start + 30 * usec) then (l.setPulse s none).each (l.groupsOn s) Lane.maskOff else l

/-! ### The meanings -/

def execSupplyOvercurrent (i : LaneId) (k : Fin 2) (ma : BitVec 16) (s : State) : Host.Outcome State Fault Refusal :=
  s.actD i .fb (fun l => l.supplyOc k ma.toNat)
def execSupplyUndervoltage (i : LaneId) (k : Fin 2) (mv : BitVec 16) (s : State) : Host.Outcome State Fault Refusal :=
  s.actD i .fb (fun l => l.supplyUv k mv.toNat)
def execSfSupplyClr (i : LaneId) (k : Fin 2) (s : State) : Host.Outcome State Fault Refusal :=
  s.accD i .fb (bitAcc SF_CTL_CLR.addr (2 ^ k.val)) (fun l => l.supplyClr k)
def execSupplyPulseStart (i : LaneId) (slot : Fin 6) (s : State) : Host.Outcome State Fault Refusal :=
  s.actD i .fb (fun l => l.pulseStart slot)
def execPulseCheck (i : LaneId) (k : Fin 2) (recovery : Bool) (mv : BitVec 16) (s : State) : Host.Outcome State Fault Refusal :=
  s.actD i .fb (fun l => l.pulseCheck k recovery mv.toNat)
def execCrossShortCheck (i : LaneId) (slot : Fin 6) (s : State) : Host.Outcome State Fault Refusal :=
  s.actD i .fb (fun l => l.crossCheck slot)
def execPulseMaskEnd (i : LaneId) (k : Fin 2) (s : State) : Host.Outcome State Fault Refusal := s.actD i .fb (fun l => l.maskEnd k)

end Sys2Proof.Machine
end

