-- ==== Sys2Proof/Machine/Registers.lean ====
section
/-!
DEFINITION. An access at an address: which accesses a region takes, what a write does to a register of each block, and what a read
returns (spec/18_address_map.md R577 to R582, R592; spec/00_scope.md R5, R10, R11; spec/13_power_clocks_wake.md R450;
spec/15_configuration_image.md R504; spec/09_fault_collection.md R334, R338, R344; spec/14_self_test_lifecycle.md R481).
-/

namespace Sys2Proof.Machine

/-! ### Where an address leads (R577 to R582) -/

/-- The windows of Table 18.3; the two tables of a loop engine are told by `inFfTable`. -/
inductive Win where
  | imgBuild
  | txCmd
  | rxCmd
  | copyBuf
  | capWin
  | staging
  | ttTx
  | ttRx
  | canTx
  | token
deriving DecidableEq, Repr

/-- The window an address lies in. -/
def winOf (a : Nat) : Option Win :=
  if inRange a 0xF00000140 32 then some .imgBuild
  else if inRange a txCmd 112 then some .txCmd
  else if inRange a rxCmd 112 then some .rxCmd
  else if inRange a 0xF00078000 0x4000 then some .copyBuf
  else if inRange a 0xF00058000 0x1000 then some .capWin
  else if inRange a 0xF00091000 0x200 && decide (a % 64 < 56) then some .staging
  else if inRange a 0xF000B4000 0x2000 then some .ttTx
  else if inRange a 0xF000B8000 0x4000 then some .ttRx
  else if inRange a 0xF000C1000 0x200 then some .canTx
  else if inRange a rtokWin 192 then some .token
  else none

/-- What an access that its region takes reaches. -/
inductive Place where
  | tcm
  | storage
  | mram
  | window (w : Win)
  | table (x : Ax)
  /-- a register, whole -/
  | reg (b : Blk) (x : Ax) (d : RegDesc)
  /-- one half of the 64-bit register at an address (R84 of 02_loop_engine) -/
  | half (b : Blk) (x : Ax) (at_ : Nat)
  /-- an offset without a register, or an absent block: reads 0 and ignores writes (R579, R5) -/
  | nothing
deriving DecidableEq, Repr

/-- Whether the lane has a block (R5). -/
def Lane.hasBlock (l : Lane) (b : Blk) (x : Ax) : Bool := l.part.hasAxis x && (b ≠ .tq || l.part.hasTq)

/-- Whether some byte of an access of `n` bytes belongs to a register that the access does not name whole. -/
def touchesReg (a n : Nat) : Bool :=
  (descOf (a - a % 4)).isSome || (match descOf (a - a % 8) with | some d => decide (d.wide = 64) | none => false) ||
  (decide (n = 8) && (descOf (a + 4)).isSome)

/-- A register access: of the register's own width, or of one half of a 64-bit register (R578, R84). -/
def regPlace (b : Blk) (x : Ax) (a n : Nat) : Option Place :=
  match descOf a with
  | some d => if 8 * n = d.wide then some (.reg b x d) else if d.wide = 64 ∧ n = 4 then some (.half b x a) else none
  | none =>
    match descOf (a - 4) with
    | some d => if d.wide = 64 ∧ n = 4 ∧ a % 8 = 4 then some (.half b x (a - 4)) else if touchesReg a n then none else some .nothing
    | none => if touchesReg a n then none else some .nothing

/-- What an access of `n` bytes at an address reaches; none is a bus error (R578). -/
def Lane.place (l : Lane) (a n : Nat) : Option Place :=
  if !([1, 2, 4, 8].contains n) || decide (a % n ≠ 0) then none
  else if a < 0x400000 then some .tcm
  else if inRange a 0x10000000 0x40000 then some .storage
  else if inMram l.part a then some .mram
  else
    match blockOf a with
    | none => if inRange a 0xF00000000 0x110000 || inRange a 0xF01000000 0x200000 then some .nothing else none
    | some (b, x, _) =>
      if l.hasBlock b x = false then some .nothing
      else
        match winOf a with
        | some w => some (.window w)
        | none => if inFfTable x a then some (.table x) else regPlace b x a n

/-! ### Domains (R450 of 13_power_clocks_wake) -/

/-- The domain of a block. -/
def blkDom : Blk → Ax → Option Dom
  | .le, x => some (.le x)
  | .tq, x => some (.le x)
  | .mod, x => some (.pg x)
  | .gd, x => some (.pg x)
  | .fb, _ => some .fb
  | .ad, _ => some .fb
  | .sf, _ => some .fb
  | .tt, _ => some .nw
  | .cn, _ => some .nw
  | _, _ => none

/-- The domain in which an address lies, if it is not CP. -/
def domAt (a : Nat) : Option Dom := (blockOf a).bind (fun e => blkDom e.1 e.2.1)

/-- The domain of an access, if it is not ON: the access reaches nothing yet (R450). -/
def Lane.downAt (l : Lane) (a : Nat) (p : Place) : Option Dom :=
  match domAt a with
  | some d => if l.domOn d ∨ p = .nothing then none else some d
  | none => none

/-! ### Writes to registers, block by block (R580, R592 and the register sections) -/

/-- Bit `k` of a written value. -/
def wbit (v : Word) (k : Nat) : Bool := v.getLsbD k

/-- The index of a member of a register family. -/
def famIdx (o base stride : Nat) : Nat := (o - base) / stride

/-- LE_CTL_x: OPEN wins over CLOSE (R78 of 02_loop_engine). -/
def Lane.leCtl (l : Lane) (x : Ax) (v : Word) : Lane :=
  let l := l.when (wbit v 3) (fun l => l.leCntClr x)
  let l := l.when (wbit v 2) (fun l => l.leIntClr x)
  if wbit v 0 then l.leOpenReq x else l.when (wbit v 1) (fun l => l.leCloseReq x)

/-- The LV register at an offset of the LE block. -/
def lvAt : Nat → Option LvReg
  | 0x100 => some .setp
  | 0x108 => some .share
  | 0x110 => some .ffs
  | 0x118 => some .iqtrim
  | _ => none

/-- A write to the LE block. -/
def Lane.leWrite (l : Lane) (x : Ax) (o a n : Nat) (v : Word) : Lane :=
  match lvAt o with
  | some r => l.leLvWrite x r n v
  | none =>
    if o = 0 then l.leCtl x v
    else if a = (LE_STAT_STATE x).addr then l.fieldWrite a v.toNat
    else l.leOwWrite x a n v

/-- MOD_CTL_x: DISCARD wins over COMMIT (R120 of 03_modulator), PASSOFF over PASSON (R143). -/
def Lane.modCtl (l : Lane) (x : Ax) (v : Word) : Lane :=
  let l := l.when (wbit v 4) (fun l => l.modCntClr x)
  let l := if wbit v 1 then l.modDiscard x else l.when (wbit v 0) (fun l => l.modCommit x)
  if wbit v 3 then l.setMd x { (l.ax x).md with passReq := some false }
  else l.when (wbit v 2) (fun l => l.setMd x { (l.ax x).md with passReq := some true })

/-- The compare register of the write stage at an offset. -/
def cmpAt (o : Nat) : Option StageReg :=
  let k := (o - 0x40) / 8
  if h : 0x40 ≤ o ∧ k < 6 then (if (o - 0x40) % 8 = 0 then some (.rise ⟨k, h.2⟩) else some (.fall ⟨k, h.2⟩)) else none

/-- A write of fields of the MOD block, counted where it is out of range (R592). -/
def Lane.modField (l : Lane) (x : Ax) (a : Nat) (v : Word) : Lane :=
  match descOf a with
  | some d => if d.fits Acc.stores v.toNat then l.fieldWrite a v.toNat else l.bump (MOD_REJ_RANGE x)
  | none => l

/-- A write to the MOD block. -/
def Lane.modWrite (l : Lane) (x : Ax) (o a : Nat) (v : Word) : Lane :=
  if o = 0 then l.modCtl x v
  else if o = 0xC then l.stageWrite x .period v.toNat
  else if a = MOD_TRIPCLR_REL.addr then l.tripClr (v.toNat % 256)
  else
    match cmpAt o with
    | some r => l.stageWrite x r v.toNat
    | none => if o = 0x38 then l.commChange x (fun l => l.modField x a v) else l.modField x a v

/-- A write to the TQ block. -/
def Lane.tqWrite (l : Lane) (x : Ax) (o a n : Nat) (v : Word) : Lane :=
  if o = 0 then l.when (wbit v 0) (fun l => l.tqCntClr x)
  else if a = (TQ_STAT_SLSTATE x).addr then l.fieldWrite a v.toNat
  else l.tqOwWrite x a n v

/-- GD_CTL_x: DIS wins over EN (R187 of 05_gate_drive). -/
def Lane.gdCtl (l : Lane) (x : Ax) (v : Word) : Lane :=
  let l := l.when (wbit v 3) (fun l => l.gdCntClr x)
  let l := l.when (wbit v 2) (fun l => l.axisSafe x 8 false)
  if wbit v 1 then l.gateDrop x else l.when (wbit v 0) (fun l => l.gateEnable x)

/-- A write to the FB block. -/
def Lane.fbWrite (l : Lane) (x : Ax) (o a : Nat) (v : Word) : Lane :=
  if o = 0 then (l.when (wbit v 0) (fun l => l.setReg (FB_CNT_ILL x).addr 0#64)).when (wbit v 1) (fun l => l.fltClr x)
  else if inRange o 0x40 16 then l.cmpWrite x (famIdx o 0x40 4) .config v
  else if inRange o 0x100 32 then l.cmpWrite x (famIdx o 0x100 8) .value v
  else if o = 0xC0 then l.posAdj x v
  else l.fieldWrite a v.toNat

/-- PC_CTL.CNTCLR. -/
def Lane.pcCntClr (l : Lane) : Lane :=
  ((((l.wr PC_RBCNT_TOTAL 0).setReg PC_CKCNT_COMMITS.addr 0#64).wr PC_SBUSE_HWM 0).wr PC_CKDUR_MAX_NS 0).setReg PC_MMINFO_VALID.addr 0#64

/-- PC_CTL: SPLIT and REJOIN take effect at step 6 of the commit that releases them (R279, R283 of 07_paired_execution). -/
def Lane.pcCtl (l : Lane) (v : Word) : Lane :=
  let l := l.when (wbit v 2) Lane.pcCntClr
  { l with pc := { l.pc with reqSplit := l.pc.reqSplit || wbit v 0, reqRejoin := l.pc.reqRejoin || wbit v 1 } }

/-- GL_CTL: ABDICATE and HANDGO act at the commit signal (R303, R304 of 08_leadership_guyline); INELIG wins over ELIG. -/
def Lane.glCtl (l : Lane) (v : Word) : Lane :=
  let l := l.when (wbit v 6) Lane.glCntClr
  let l := if wbit v 4 then l.glInelig else l.when (wbit v 5) Lane.glElig
  let l := l.when (wbit v 1) (fun l => { l with gl := { l.gl with handGo := some (getBits v 2 2) } })
  l.when (wbit v 0) (fun l => { l with gl := { l.gl with abdicate := true } })

/-- FC_CTL. -/
def Lane.fcCtl (l : Lane) (v : Word) : Lane :=
  let l := l.when (wbit v 0) Lane.rearm
  let l := l.when (wbit v 1) Lane.fcCntClr
  let l := l.when (wbit v 3) (fun l => l.nbFree .next)
  let l := l.when (wbit v 4) (fun l => l.nbFree .prev)
  l.when (wbit v 2) Lane.dumpDone

/-- A write to the FC block; the injection registers take writes only where injection is open (R334, R335). -/
def Lane.fcWrite (l : Lane) (o a : Nat) (v : Word) : Lane :=
  match o with
  | 0x0 => l.fcCtl v
  | 0x1C => l.tend (v.toNat % 256)
  | 0x30 => l.when (wbit v 0) (fun l => l.injectGo (wbit v 1))
  | 0x68 => l.when l.injectOpen (fun l => l.setReg a v)
  | _ => l.fieldWrite a v.toNat

/-- A write to the SC block. -/
def Lane.scWrite (l : Lane) (o a : Nat) (v : Word) : Lane :=
  if o = 0 then l.when (wbit v 0) Lane.scCntClr
  else if o = 0x58 then (l.scPost v).domainsFollow
  else if inRange o 0x500 32 then l.flowEnWrite (famIdx o 0x500 4) v.toNat
  else if inRange o 0x1000 0x4000 then
    match o % 16 with
    | 0 => (l.timerExpWrite (famIdx o 0x1000 16) v).domainsFollow
    | 8 => (l.timerArm (famIdx o 0x1000 16) v).domainsFollow
    | _ => l.fieldWrite a v.toNat
  else l.fieldWrite a v.toNat

/-- A write to the HQ block, the staging windows apart. -/
def Lane.hqWrite (l : Lane) (o a : Nat) (v : Word) : Lane :=
  if o = 0 then l.when (wbit v 0) Lane.hqCntClr
  else if inRange o 0x1000 0x200 then l.hqPush (famIdx o 0x1000 64) v
  else l.fieldWrite a v.toNat

/-- HP_CTL: IRQCLR wins over IRQSET (R406 of 11_hamper_host). -/
def Lane.hpCtl (l : Lane) (v : Word) : Lane :=
  let l := l.when (wbit v 0) (fun l => l.setReg HP_CNT_PUT.addr 0#64)
  if wbit v 2 then l.irqClr else l.when (wbit v 1) (fun l => l.set HP_STAT_IRQ)

/-- A write to the TT block, its windows apart. -/
def Lane.ttWrite (l : Lane) (o a : Nat) (v : Word) : Lane :=
  match o with
  | 0x0 => (l.when (wbit v 0) Lane.ttCntClr).unmuteMask (getBits v 4 4)
  | 0x80 => l.txReady (getBits v 0 5) (getBits v 16 9)
  | _ => l.fieldWrite a v.toNat

/-- A write to the CN block, its windows apart. -/
def Lane.cnWrite (l : Lane) (o a : Nat) (v : Word) : Lane :=
  match o with
  | 0x0 => (l.when (wbit v 0) (fun l => l.setReg CN_CNT_TXDONE.addr 0#64)).when (wbit v 1) Lane.cnRecover
  | 0x1C => l.cnReq (v.toNat % 256)
  | _ => l.fieldWrite a v.toNat

/-- A write to the PD block. -/
def Lane.pdWrite (l : Lane) (o a : Nat) (v : Word) : Lane :=
  match o with
  | 0x0 => l.when (wbit v 0) Lane.sleep
  | 0x4 => l.pdReqWrite v.toNat
  | _ => l.fieldWrite a v.toNat

/-- A write to the CK block. -/
def Lane.ckWrite (l : Lane) (o a : Nat) (v : Word) : Lane :=
  if o = 0 then (l.when (wbit v 3) (fun l => { l with pw := { l.pw with divReq := some (getBits v 1 2) } })).when (wbit v 0) Lane.calGo
  else l.fieldWrite a v.toNat

/-- A write to the PM block; a write of PM_VREQ is a request (R468 of 13_power_clocks_wake). -/
def Lane.pmWrite (l : Lane) (o a : Nat) (v : Word) : Lane :=
  match o with
  | 0x0 => l.when (wbit v 0) Lane.pmCommand
  | 0xC => (l.wr PM_VREQ_MV (getBits v 0 16)).pmRequest (getBits v 0 16) .firmware
  | _ => l.fieldWrite a v.toNat

/-- A write to the WK block; a slow alarm is armed by a write of a count still to come (log entry 40). -/
def Lane.wkWrite (l : Lane) (o a : Nat) (v : Word) : Lane :=
  match o with
  | 0x0 => l.when (wbit v 0) (fun l => l.setReg WK_CNT_MATCH.addr 0#64)
  | 0x48 => { (l.setReg a v) with pw := { l.pw with alarm := decide (l.slow < v.toNat) } }
  | _ => l.fieldWrite a v.toNat

/-- A write to the ST block. -/
def Lane.stWrite (l : Lane) (o a : Nat) (v : Word) : Lane :=
  match o with
  | 0x0 =>
    let l := l.when (wbit v 3) (fun l => l.setReg ST_CNT_PASS.addr 0#64)
    let l := l.when (wbit v 2) Lane.progAbort
    let l := l.when (wbit v 1) Lane.progGo
    l.when (wbit v 0) Lane.stSweep
  | 0xC => l.sliceRequest (getBits v 16 5) (getBits v 0 16)
  | _ => l.fieldWrite a v.toNat

/-- A write to the LC block. -/
def Lane.lcWrite (l : Lane) (o a : Nat) (v : Word) : Lane :=
  if o = 0 then
    let l := l.when (wbit v 4 && decide (l.mode = mService)) Lane.ftmOn
    l.when (wbit v 0) (fun l => l.lcGo (getBits v 1 3))
  else l.fieldWrite a v.toNat

/-- A write to the SF block. -/
def Lane.sfWrite (l : Lane) (o a : Nat) (v : Word) : Lane :=
  if o = 0 then (l.when (wbit v 0) (fun l => l.supplyClr 0)).when (wbit v 1) (fun l => l.supplyClr 1)
  else if a = SF_SAFCTL_DISCCLR.addr then (l.discClr (getBits v 0 4)).injectInputs (getBits v 8 4)
  else l.fieldWrite a v.toNat

/-- A whole write of the register of a block at an offset. -/
def Lane.regWrite (l : Lane) (b : Blk) (x : Ax) (o a n : Nat) (v : Word) : Lane :=
  match b with
  | .le => l.leWrite x o a n v
  | .mod => l.modWrite x o a v
  | .tq => l.tqWrite x o a n v
  | .gd => if o = 0 then l.gdCtl x v else l.fieldWrite a v.toNat
  | .fb => l.fbWrite x o a v
  | .ad => if o = 0 then l.when (wbit v 0) (fun l => l.setReg (AD_CNT_CLIP x).addr 0#64) else l.fieldWrite a v.toNat
  | .dl =>
    if o = 0 then (l.when (wbit v 0) Lane.chopClr).when (wbit v 1) (fun l => l.setReg DL_CNT_OV1.addr 0#64) else l.fieldWrite a v.toNat
  | .pc => if o = 0 then l.pcCtl v else l.fieldWrite a v.toNat
  | .gl => if o = 0 then l.glCtl v else l.fieldWrite a v.toNat
  | .fc => l.fcWrite o a v
  | .sc => l.scWrite o a v
  | .hq => l.hqWrite o a v
  | .hp => if o = 0 then l.hpCtl v else l.fieldWrite a v.toNat
  | .tt => l.ttWrite o a v
  | .cn => l.cnWrite o a v
  | .pd => l.pdWrite o a v
  | .ck => l.ckWrite o a v
  | .pm => l.pmWrite o a v
  | .wk => l.wkWrite o a v
  | .st => l.stWrite o a v
  | .lc => l.lcWrite o a v
  | .sf => l.sfWrite o a v
  | .sy => l.fieldWrite a v.toNat

/-- A 32-bit write to a 64-bit register is ignored; the engines count it (R84 of 02_loop_engine, R177 of 04_torque_table_sensorless). -/
def Lane.halfWrite (l : Lane) (b : Blk) (x : Ax) (a : Nat) (v : Word) : Lane :=
  match b with
  | .le => (match lvAt (a % 0x10000) with | some r => l.leLvWrite x r 4 v | none => l.leRefuse x (LE_REJ_HALFWR x))
  | .tq => l.bump (TQ_CNT_HALFWR x)
  | _ => l

/-! ### Writes to windows and memory -/

/-- A write to a window; the windows that only hardware fills ignore it, and a staging window takes aligned 64-bit writes alone; one of any
width to that of a Hamper with another producer counts as refused (R386 and R407 of 11_hamper_host, R84 of 02_loop_engine). -/
def Lane.winWrite (l : Lane) (w : Win) (a n : Nat) (v : Word) : Lane :=
  let put := fun (l : Lane) => l.setBytes a (leBytes n v.toNat)
  match w with
  | .txCmd => put l
  | .ttTx => put l
  | .canTx => put l
  | .token => if l.mode = mService then put l else l
  | .staging =>
    let h := famIdx (a % 0x10000) 0x1000 64
    if n = 8 ∧ a % 8 = 0 then l.hqPutWrite h (a % 64 / 8) v else if l.rd (HQ_CFG_PROD h) ≠ 0 then l.prodReject else l
  | _ => l

/-- Whether a write lies in a slot the lane was loaded from (R504 of 15_configuration_image). -/
def Lane.loadedSlot (l : Lane) (a : Nat) : Bool :=
  l.on SY_IMGSTAT_LOADED &&
  (inRange a (cfgSlot (l.rd SY_IMGSTAT_SLOT)) 0x200000 || inRange a (fwSlot l.part l.im.fwSlot) (fwSize l.part))

/-- A core write to MRAM: not to a loaded slot (R504), not to a neighbour dump slot (R583). -/
def Lane.mramWrite (l : Lane) (a n : Nat) (v : Word) : Lane :=
  if l.loadedSlot a then l.set SY_IMGSTAT_SLOTWR
  else if inRange a (nbSlot l.part 0) 0x400000 then l
  else l.setBytes a (leBytes n v.toNat)

/-- A write of `n` bytes that takes effect now: a store that leaves the store buffer, or one that never entered it. -/
def Lane.devWrite (l : Lane) (a n : Nat) (v : Word) : Lane :=
  match l.place a n with
  | none => l.busError
  | some p =>
    let l := { l with busErr := false }
    match l.downAt a p with
    | some d => l.downAccess d (wrAcc a n v)
    | none =>
      let l := l.accessed a n
      match p with
      | .tcm => l.setBytes a (leBytes n v.toNat)
      | .storage => l.storageReject
      | .mram => l.mramWrite a n v
      | .window w => l.winWrite w a n v
      | .table x => l.leOwWrite x a n v
      | .reg b x _ => l.regWrite b x (a % 0x10000) a n v
      | .half b x at_ => l.halfWrite b x at_ v
      | .nothing => l

/-- The Groundsheet partition (Table 18.4). -/
def inGroundsheet (p : Part) (a : Nat) : Bool :=
  if p = .apx9613 then inRange a 0x101200000 0x400000 else inRange a 0x102800000 0x800000

/-- A write in the dump context (R338 of 09_fault_collection). -/
def Lane.dumpWrite (l : Lane) (a n : Nat) (v : Word) : Lane :=
  if (l.place a n).isNone then l.busError
  else if a < 0x400000 ∨ inGroundsheet l.part a ∨ a = FC_CTL_REARM.addr ∨ a = FC_CAPSEL_SECT.addr then l.devWrite a n v
  else { l with busErr := false }.set FC_STAT_DCXREJ

/-! ### Reads -/

/-- The times of a list that lie within a span up to now. -/
def Lane.within (l : Lane) (ts : List Nat) (span : Nat) : Nat := (ts.filter (fun t => decide (l.now ≤ t + span))).length

/-- SC_FLOWSTAT_n as it reads (R356, R357 of 10_flow_scheduler). -/
def Lane.flowStat (l : Lane) (n : Nat) : Word :=
  let is := l.sc.items.filter (fun i => i.flow = n)
  let any := fun (p : Item → Bool) => if is.any p then 1 else 0
  l.reg (SC_FLOWSTAT_AGED n).addr ||| BitVec.ofNat 64 (
    any (fun i => l.dispatching && l.headroomOk i && l.orderOk i && !l.joinOk i) * 2 ^ 26 + any (fun i => !l.headroomOk i) * 2 ^ 25 +
    (if l.sc.stack.any (fun i => i.flow = n) then 2 ^ 24 else 0) + Nat.min 4095 is.length)

/-- SY_MID_n, whose words 4 to 9 are the identities of the lanes (R586). -/
def Lane.midRead (l : Lane) (n : Nat) : Word :=
  if 34 ≤ n then 0#64
  else if n = 2 then BitVec.ofNat 64 ((Config.midWord 2).toNat % 65536 / 256 * 256 + partCode l.part)
  else if 4 ≤ n ∧ n ≤ 9 then
    match LaneId.ofCode ((n - 4) / 2) with
    | some i => if l.part.hasLane i then BitVec.ofNat 64 ((Config.laneUid i).toNat / 2 ^ (32 * (n % 2)) % 2 ^ 32) else 0#64
    | none => 0#64
  else (Config.midWord n).setWidth 64

/-- SY_CAP0 (spec/00_scope.md R1, Table 0.6). -/
def cap0 : Part → Word
  | .apx9603 => 0x0000004000030207#64
  | .apx9602 => 0x0000004000030203#64
  | .apx9613 => 0x0000002000000107#64

/-- The registers that the hardware computes when they are read, of the lane blocks. -/
def Lane.viewLane (l : Lane) (o : Nat) : Blk → Option Word
  | .sy =>
    if o = 0 then some (BitVec.ofNat 64 (l.me.code * 65536 + (Config.dieRev l.me).toNat * 256 + partCode l.part))
    else if o = 0x10 then some (cap0 l.part)
    else if o = 0x18 then some 0x01000008#64
    else if inRange o 0x800 0x180 then some (l.midRead (famIdx o 0x800 4))
    else none
  | .gl => if o = 0x28 then some ((l.put (laneVrdy l.me) l.vrdy).reg GL_LANES_CAUSEA.addr) else none
  | .wk => if o = 0x40 then some (BitVec.ofNat 64 l.slow) else none
  | .fc => if o = 0x68 ∧ l.injectOpen = false then some 0#64 else none
  | .lc => if o = 0xC then some ((Config.nonce l.me l.sy.boots).setWidth 64) else if o = 0x10 then some (Config.laneUid l.me) else none
  | .tt =>
    if o = 0x400 then some (BitVec.ofNat 64 l.ntime)
    else if o = 0x14 then some (BitVec.ofNat 64 ((if l.ttOn then l.slotAt (l.ntime % ttCycle) else 0) * 65536 + l.ttCount))
    else none
  | .sc =>
    if o = 0x8 then some ((l.wr SC_STAT_REQ l.scReq).wr SC_STAT_LEVEL l.sc.stack.length |>.reg SC_STAT_REQ.addr)
    else if o = 0x28 then some (l.poolView.reg SC_POOL_FREE.addr)
    else if o = 0x3C then some ((l.wr SC_BISTUSE_US l.bistUse).reg SC_BISTUSE_US.addr)
    else if o = 0x50 then some (BitVec.ofNat 64 l.scTick)
    else if inRange o 0x600 0x400 then some (l.flowStat (famIdx o 0x600 4))
    else none
  | .pc => if o = 0xC then some ((l.wr PC_RBCNT_WIN (l.within l.pc.rbTimes (10 * msec))).reg PC_RBCNT_WIN.addr) else none
  | .sf =>
    if o = 0x10 then some l.supplyView else none
  | _ => none

/-- The registers that the hardware computes when they are read, of the blocks of an axis. -/
def Lane.viewAxis (l : Lane) (x : Ax) (o : Nat) : Blk → Option Word
  | .le =>
    if o = 0x10 then some ((l.wr (LE_RBCNT_WIN x) (l.within (l.ax x).le.rbTimes (10 * msec))).reg (LE_RBCNT_WIN x).addr)
    else if o = 0x1C then some ((l.wr (LE_OPENTIME_USED_US x) (l.openUs x)).reg (LE_OPENTIME_USED_US x).addr)
    else none
  | .tq => if o = 0x18 then some ((l.wr (TQ_RBCNT_WIN x) (l.within (l.ax x).tq.rbTimes (10 * msec))).reg (TQ_RBCNT_WIN x).addr) else none
  | .mod => if o = 0x34 then some ((l.hrcalNow x).reg (MOD_HRCAL_AGE_US x).addr) else none
  | .gd =>
    if o = 0x20 then some (BitVec.ofNat 64 (l.xcnt x)) else none
  | .fb => if o = 0xC0 then some 0#64 else none
  | _ => none

/-- What a register reads as; a WO field reads 0 (R11 of 00_scope). -/
def Lane.viewReg (l : Lane) (b : Blk) (x : Ax) (a : Nat) (d : RegDesc) : Word :=
  match l.viewLane (a % 0x10000) b, l.viewAxis x (a % 0x10000) b with
  | some v, _ => v
  | none, some v => v
  | none, none => l.reg a &&& BitVec.ofNat 64 (d.bits (fun k => k ≠ .wo))

/-- A read of a whole register; some reads have an effect of their own. -/
def Lane.regRead (l : Lane) (b : Blk) (x : Ax) (a : Nat) (d : RegDesc) : Lane :=
  let o := a % 0x10000
  if a = SC_ENTER.addr then l.scEnter
  else if a = SC_NEXT.addr then l.scNext.domainsFollow
  else if a = MOD_BLANKCNT_CNT0.addr then l.blankRead
  else if b = .hq ∧ inRange o 0x180 0x20 then l.hqMark (famIdx o 0x180 4)
  else if b = .hq ∧ inRange o 0x1A0 0x20 then l.hqRewind (famIdx o 0x1A0 4)
  else if b = .hq ∧ inRange o 0x200 0x40 then l.hqTake (famIdx o 0x200 8)
  else l.returns (l.viewReg b x a d)

/-- One half of what a 64-bit register reads as, which is not atomic with the other half (R84). -/
def Lane.halfRead (l : Lane) (b : Blk) (x : Ax) (at_ a : Nat) : Lane :=
  match descOf at_ with
  | some d =>
    let l := l.regRead b x at_ d
    l.returns (BitVec.ofNat 64 (l.rdata.toNat / 2 ^ (8 * (a - at_)) % 2 ^ 32))
  | none => l.returns 0#64

/-- Bytes of a window as they read. -/
def Lane.winByte (l : Lane) (w : Win) (a : Nat) : Byte :=
  match w with
  | .capWin => l.capWin (a % 0x1000)
  | .staging => 0#8
  | .token => if l.mode = mService then l.byte a else 0#8
  | _ => l.byte a

/-- The number that `n` bytes from an address spell. -/
def gather (f : Nat → Byte) (a n : Nat) : Word := BitVec.ofNat 64 (leNat ((List.range n).map (fun k => f (a + k))))

/-- A read of `n` bytes by the bus. -/
def Lane.devRead (l : Lane) (a n : Nat) : Lane :=
  match l.place a n with
  | none => l.busError
  | some p =>
    let l := { l with busErr := false }
    match l.downAt a p with
    | some d => l.downAccess d ⟨a, n, none⟩
    | none =>
      let l := l.accessed a n
      match p with
      | .storage => l.returns (gather (fun k => l.storageByte (k - 0x10000000)) a n)
      | .window w => l.returns (gather (l.winByte w) a n)
      | .reg b x d => l.regRead b x a d
      | .half b x at_ => l.halfRead b x at_ a
      | .nothing => l.returns 0#64
      | _ => l.returns (gather l.byte a n)

/-- The accesses whose domain is no longer on its way to ON take place, in the order in which they came (R450). -/
def Lane.waitRun (l : Lane) : Lane :=
  let stays := fun (r : RegAcc) => match domAt r.addr with | some d => l.coming d | none => false
  let go := l.pw.waits.filter (fun r => !stays r)
  ({ l with pw := { l.pw with waits := l.pw.waits.filter stays } }).each go (fun l r =>
    match r.val with
    | some v => l.devWrite r.addr r.n v
    | none => l.devRead r.addr r.n)

end Sys2Proof.Machine
end

