-- ==== Sys2Proof/Machine/Pair.lean ====
section
/-!
DEFINITION. Paired execution: the store buffer, commits, rollbacks, splits and rejoins (spec/07_paired_execution.md), what a write by the
core does, and the accesses of the debugger (spec/14_self_test_lifecycle.md R476).
-/

namespace Sys2Proof.Machine

/-! ### The store buffer (R265, R266) -/

/-- The entries of the buffer. -/
def bufferSize : Nat := 512

/-- Whether an address is held in lines: TCM, Hamper storage and MRAM (Table 7.2). -/
def Lane.lineAddr (l : Lane) (a : Nat) : Bool := decide (a < 0x400000) || inRange a 0x10000000 0x40000 || inMram l.part a

/-- Whether an entry is the line of a base. -/
def Store.isLine (base : Nat) : Store → Bool
  | .line b _ => decide (b = base)
  | .device _ _ _ => false

/-- The bytes of a line, with some replaced. -/
def mergeCells (cs : List Host.Cell) : List Host.Cell → List Host.Cell
  | [] => cs
  | c :: r => mergeCells (insertSorted c.1 c.2 (cs.filter (fun p => p.1 ≠ c.1))) r

/-- The bytes of a write, with their addresses. -/
def writeCells (a n : Nat) (v : Word) : List Host.Cell := (List.range n).map (fun k => (a + k, BitVec.ofNat 8 (v.toNat / 256 ^ k)))

/-- An entry into which a store of the given line merges its bytes (R265). -/
def Store.merge (base : Nat) (cs : List Host.Cell) (s : Store) : Store :=
  match s with
  | .line b old => if b = base then .line b (mergeCells old cs) else s
  | .device _ _ _ => s

/-- Whether a store needs an entry of its own. -/
def Lane.needsEntry (l : Lane) (a : Nat) : Bool := !l.lineAddr a || !l.pc.store.any (Store.isLine (a - a % 32))

/-- Whether a store finds no entry (R266). -/
def Lane.bufferFull (l : Lane) (a : Nat) : Bool := l.needsEntry a && decide (bufferSize ≤ l.pc.store.length)

/-- PC_SBUSE.HWM follows the occupancy. -/
def Lane.usage (l : Lane) : Lane := l.wr PC_SBUSE_HWM (Nat.max (l.rd PC_SBUSE_HWM) l.pc.store.length)

/-- A store takes its place in the buffer. -/
def Lane.storeIn (l : Lane) (a n : Nat) (v : Word) : Lane :=
  let e := if l.lineAddr a then Store.line (a - a % 32) (writeCells a n v) else .device a n v
  let st := if l.needsEntry a then l.pc.store ++ [e] else l.pc.store.map (Store.merge (a - a % 32) (writeCells a n v))
  ({ l with pc := { l.pc with store := st } }).usage

/-! ### The drain (R267, steps 4 and 5 of Table 7.3) -/

/-- The entries in the order in which a commit drains them, with their indices: lines, then device entries. -/
def drainOrder (st : List Store) : List (Nat × Store) :=
  let es := (List.range st.length).zip st
  es.filter (fun e => match e.2 with | .line _ _ => true | .device _ _ _ => false) ++
    es.filter (fun e => match e.2 with | .line _ _ => false | .device _ _ _ => true)

/-- An entry leaves the buffer. -/
def Lane.release (l : Lane) : Store → Lane
  | .line _ cs => l.each cs (fun l c => l.devWrite c.1 1 (c.2.setWidth 64))
  | .device a n v => l.devWrite a n v

/-- Entries leave in order, each in a CLK_BUS cycle of its own, at whose end a push that it released into a Hamper is judged and the watermark
states are evaluated (spec/11_hamper_host.md R383, R385, R394); a release that takes the lane into BOOT withdraws the rest. -/
def Lane.drain (l : Lane) (es : List (Nat × Store)) : Lane :=
  l.each es (fun k e => if k.sy.boots = l.sy.boots then ((k.release e.2).lateFrom k.hq.late.length).hqJudge else k)

/-- The entries that a commit drains before an uncorrectable error stops it (R267), and those that it has left. -/
def drainSplit (es : List (Nat × Store)) (failed : Option Nat) : List (Nat × Store) × List (Nat × Store) :=
  match failed with
  | some k => (es.takeWhile (fun e => decide (e.1 ≠ k)), es.dropWhile (fun e => decide (e.1 ≠ k)))
  | none => (es, [])

/-- The corrected errors of the entries drained (R267). -/
def Lane.drainNote (l : Lane) (es : List (Nat × Store)) (corrected : List Nat) : Lane :=
  l.each (es.filter (fun e => corrected.contains e.1)) (fun l e => (l.set PC_STAT_SBCE).raiseOnce srcPC 4 clsCE none e.1)

/-! ### Split and rejoin (R279 to R283) -/

/-- A request is ignored. -/
def Lane.pairIgnored (l : Lane) (f : Fld) : Lane :=
  let l := l.set f
  (l.raise srcPC 6 clsCE none (l.dataOf PC_STAT_PAIR.addr)).event 27

/-- PAIR changes, and set-point forwarding with it. -/
def Lane.pairSet (l : Lane) (split : Bool) : Lane :=
  let l := (l.put PC_STAT_PAIR split).put GL_STAT_FWD split
  ((l.raise srcPC 6 clsCE none (l.dataOf PC_STAT_PAIR.addr)).event 26).tokenCheck

/-- Whether a split is allowed (Table 7.6). -/
def Lane.maySplit (l : Lane) : Bool :=
  l.on PC_CFG_SPLITEN && !l.holdsToken && (l.mode = mOperate || l.mode = mDegraded || l.mode = mService)

/-- A SPLIT released (Table 7.6). -/
def Lane.pairSplit (l : Lane) : Lane :=
  if l.on PC_STAT_PAIR = false ∧ l.maySplit then l.pairSet true else l.pairIgnored PC_STAT_SPLITREJ

/-- A REJOIN released (Table 7.6). -/
def Lane.pairRejoin (l : Lane) : Lane :=
  if l.on PC_STAT_PAIR ∧ l.on PC_STAT_SHBIST = false ∧ l.pc.shadowOk then l.pairSet false else l.pairIgnored PC_STAT_REJREJ

/-- The requests that the commit under way has released take effect; a REJOIN with a SPLIT is taken as REJOIN (R283). -/
def Lane.pairApply (l : Lane) : Lane :=
  let split := l.pc.reqSplit
  let rejoin := l.pc.reqRejoin
  let l := { l with pc := { l.pc with reqSplit := false, reqRejoin := false } }
  if rejoin then l.pairRejoin else l.when split Lane.pairSplit

/-! ### The commit (R263 to R271) -/

/-- Whether commits are taken (R264): the lane is out of BOOT, CP is ON and no FT has stopped the pair; the first one ends the first outer cycle
of ARMING (spec/16_start_up.md R536). -/
def Lane.commits (l : Lane) : Bool := decide (l.mode ≠ mBoot) && l.domOn .cp && l.pairLives && l.sy.cycled

/-- A CLK_CPU cycle in root periods, by the divisor in force. -/
def Lane.cpuCycle (l : Lane) : Nat := l.rd CK_STAT_DIV + 1

/-- A commit starts now: what it has to drain. -/
def Lane.commitOpen (l : Lane) (boundary : Bool) : Commit :=
  let n := (l.pc.store.filter (fun e => match e with | .line _ _ => true | .device _ _ _ => false)).length
  ⟨boundary, l.now, l.ntime, n, l.pc.store.length - n, l.on GL_CPSTAT_FROZEN⟩

/-- The duration of a commit in root periods (R270, Table 7.3). -/
def Lane.commitSpan (l : Lane) (c : Commit) : Nat := (64 + c.lines) * l.cpuCycle + c.devices * cycBus

/-- The counters of a commit. -/
def Lane.commitCount (l : Lane) (c : Commit) : Lane :=
  let span := l.commitSpan c
  let l := (l.wr PC_CKCNT_COMMITS (l.rd PC_CKCNT_COMMITS + 1)).wr PC_SBUSE_LAST (c.lines + c.devices)
  let l := (l.wr PC_CKDUR_LAST_NS (toNs span)).wr PC_CKDUR_MAX_NS (Nat.max (l.rd PC_CKDUR_MAX_NS) (toNs span))
  { l with pc := { l.pc with firstIssue := Nat.max l.now (c.edge + span - 4 * l.cpuCycle) } }

/-- Whether an entry writes into the copy region of GL_CPCFG. -/
def Lane.inCopyRegion (l : Lane) : Store → Bool
  | .line b cs => cs.any (fun c => inRange c.1 (256 * l.rd GL_CPCFG_BASE) (256 * l.rd GL_CPCFG_CHUNKS)) && decide (b < 0x400000)
  | .device _ _ _ => false

/-- A copy that runs is voided by a boundary commit, and by an intermediate one that drains into its region (R307). -/
def Lane.commitCopy (l : Lane) (boundary : Bool) : Lane :=
  if boundary || l.pc.store.any l.inCopyRegion then l.copyVoid else l

/-- Step 3: the marks (R271). -/
def Lane.commitMark (l : Lane) (boundary : Bool) : Lane := (l.commitCopy boundary).hqMarkAll.scMark

/-- The fault messages of rollbacks are released (R273). -/
def Lane.presentHeld (l : Lane) : Lane :=
  let ms := l.pc.held
  ({ l with pc := { l.pc with held := [] } }).each ms (fun l m => l.present ⟨m, false⟩)

/-- Step 6, but for the signal; copy buffers that were frozen before the commit started are free again (R308 of 08_leadership_guyline). -/
def Lane.commitFree (l : Lane) (c : Commit) : Lane := (l.hqReleaseAll.scFree.pairApply).when c.thaw (fun l => l.clr GL_CPSTAT_FROZEN)

/-- The end of a commit whose drain is whole: step 6, the counters, what follows a commit of its kind, and at step 7 the divisor (R263, R264,
R266; R464 of 13_power_clocks_wake). -/
def Lane.commitEnd (l : Lane) (c : Commit) : Lane :=
  let l := ((({ l with pc := { l.pc with mid := none, store := [], drained := [] } }).presentHeld).commitFree c).commitCount c
  if c.boundary then (((l.wr PC_CKTIME c.time).glSignal.copyReads.hashSend).profCommit).divApply
  else
    let l := (l.set PC_STAT_EARLY).bump PC_CKCNT_EARLY
    ((l.raiseOnce srcPC 5 clsCE none (l.dataOf PC_CKCNT_COMMITS.addr)).event 25).divApply

/-- The entries that a commit has still to drain, in its order. -/
def Lane.drainLeft (l : Lane) : List (Nat × Store) := (drainOrder l.pc.store).filter (fun e => !l.pc.drained.contains e.1)

/-- Steps 4 to 6 of a commit. An uncorrectable error ends it, and the pair with it: the entries that have not been drained are written by no
later commit (R267). A pause leaves it in progress; the buffer keeps its entries to the end, those drained marked. A release that takes the
lane into BOOT withdraws the rest. -/
def Lane.commitDrain (l : Lane) (c : Commit) (e : DrainEcc) : Lane :=
  let b := l.sy.boots
  let r := drainSplit l.drainLeft e.failed
  let es := match e.pause with | some n => r.1.take n | none => r.1
  let l := (({ l with pc := { l.pc with drained := l.pc.drained ++ es.map Prod.fst } }).drainNote es e.corrected).drain es
  if l.sy.boots ≠ b then l
  else
    if es.length < r.1.length then { l with pc := { l.pc with mid := some c } }
    else
      match r.2 with
      | (k, _) :: _ => ({ l with pc := { l.pc with mid := none, core := .stopped } }).raise srcPC 3 clsFT none k
      | [] => l.commitEnd c

/-- A commit, from its step 3; one that is in progress goes on. -/
def Lane.commitRun (l : Lane) (boundary : Bool) (e : DrainEcc) : Lane :=
  match l.pc.mid with
  | some c => l.commitDrain c e
  | none => (l.commitMark boundary).commitDrain (l.commitOpen boundary) e

/-- A drain that meets nothing. -/
def drainClean : DrainEcc := ⟨[], none, none⟩

/-- A boundary commit (R263, R264). -/
def Lane.commitBoundary (l : Lane) (e : DrainEcc) : Lane := if l.commits then l.commitRun true e else l

/-- A store by the core; one that finds the buffer full waits for an intermediate commit, and one that comes while a commit is in progress
waits for its end (R265, R266, Table 7.3). -/
def Lane.coreStore (l : Lane) (e : DrainEcc) (a n : Nat) (v : Word) : Lane :=
  if (l.place a n).isNone then l.busError
  else
    let l := if l.pc.mid.isSome || (l.bufferFull a && l.sy.cycled) then l.commitRun false e else l
    if l.pc.mid.isSome || !l.pairLives || l.bufferFull a then l else { l with busErr := false }.storeIn a n v

/-- A write that the core issues: into the store buffer, or, in the dump context, past it (R265, R338). -/
def Lane.coreWrite (l : Lane) (a n : Nat) (v : Word) : Lane :=
  match l.pc.core with
  | .running => l.coreStore drainClean a n v
  | .halted => l.coreStore drainClean a n v
  | .dump => l.dumpWrite a n v
  | _ => l

/-! ### Rollback (R272 to R276) -/

/-- Whether the point of a mismatch is one of the register file (PC_MMINFO.POINT). -/
def filePoint (p : Nat) : Bool := p = 2 || p = 3

/-- The record of the first mismatch. -/
def Lane.mismatchNote (l : Lane) (point : Nat) (slot : Bool) (reg : Nat) (addr : Word) : Lane :=
  if l.on PC_MMINFO_VALID then l
  else
    let l := (l.set PC_MMINFO_VALID).wr PC_MMINFO_POINT point
    let l := l.put PC_MMINFO_SLOT (filePoint point && slot)
    let l := l.wr PC_MMINFO_REG (if filePoint point then reg else 0)
    (l.setReg PC_MMADDR.addr (if filePoint point then 0#64 else addr)).wr PC_MMTIME l.ntime

/-- Whether a rollback now is the third within 10 ms (R275). -/
def Lane.rollFatal (l : Lane) : Bool :=
  match l.pc.rbTimes with
  | [_, t] => decide (l.now ≤ t + 10 * msec)
  | _ => false

/-- What a rollback undoes: the buffer, the Hampers, the work items (steps 2 and 4). -/
def Lane.rollUndo (l : Lane) : Lane := (({ l with pc := { l.pc with store := [], drained := [] } }).hqRollback.scRollback).domainsFollow

/-- What a rollback leaves in the registers (R273). -/
def Lane.rollNote (l : Lane) (point : Nat) : Lane :=
  let lost := Nat.min 0xFFFFFF ((l.now - l.pc.firstIssue) / 16)
  let l := ((l.bump PC_RBCNT_TOTAL).set PC_STAT_ROLLED).wr PC_LOST_T10NS lost
  let m := l.mkMsg srcPC 1 clsCE none (point + lost * 65536)
  ({ l with pc := { l.pc with held := l.pc.held ++ [m], rbTimes := (l.now :: l.pc.rbTimes).take 2 } }).event 24

/-- A commit that is in progress is completed (R276). -/
def Lane.midDone (l : Lane) : Lane := if l.pc.mid.isSome then l.commitRun true drainClean else l

/-- A mismatch that is rolled back, or, as the third within 10 ms, stops the pair (R273, R275). -/
def Lane.rollback (l : Lane) (point : Nat) (slot : Bool) (reg : Nat) (addr : Word) : Lane :=
  let fatal := l.rollFatal
  let l := ((l.mismatchNote point slot reg addr).rollUndo).rollNote point
  if fatal then
    ({ l with pc := { l.pc with core := .stopped } }).raise srcPC 2 clsFT none (point + l.rd PC_RBCNT_TOTAL * 256)
  else l

/-- A mismatch is flagged: only while JOINED. One after the edge of a commit concerns the next interval, so the commit is completed first
(R272, R276); in the dump context it hands over to the dump engine (R340 of 09_fault_collection). -/
def Lane.mismatch (l : Lane) (point : Nat) (slot : Bool) (reg : Nat) (addr : Word) : Lane :=
  if l.on PC_STAT_PAIR then l
  else
    match l.pc.core with
    | .running => (l.midDone).rollback point slot reg addr
    | .halted => (l.midDone).rollback point slot reg addr
    | .dump => l.dcxHand 3
    | _ => l

/-! ### Loads, and the debugger -/

/-- The byte of the store buffer at an address (R265). -/
def bufferByte (st : List Store) (a : Nat) : Option Byte :=
  st.foldl (fun o e => match e with
    | .line _ cs => (match memFind cs a with | some v => some v | none => o)
    | .device _ _ _ => o) none

/-- A byte of memory as the core reads it, merged with the store buffer (R265). -/
def Lane.coreByte (l : Lane) (a : Nat) : Byte :=
  match bufferByte l.pc.store a with
  | some v => v
  | none => if inRange a 0x10000000 0x40000 then l.storageByte (a - 0x10000000) else l.byte a

/-- A load by the core; a device register reads as it stands (R265). -/
def Lane.coreLoad (l : Lane) (a n : Nat) : Lane :=
  if (l.place a n).isSome && l.lineAddr a then (l.accessed a n).returns (gather l.coreByte a n) else l.devRead a n

/-- Whether Table 14.1 grants core debug. -/
def Lane.debugOpen (l : Lane) : Bool := let s := l.rd LC_STAT_STATE; s = 0 || s = 1 || s = 3

/-- A core-debug request (Table 14.1): a memory access goes by way of the core, or straight to the bus while the core is in reset; a
single step leaves the core halted, and what the instruction does comes as its own commands. -/
def Lane.debug (l : Lane) : DebugOp → Lane
  | .halt => if l.pc.core = .running then { l with pc := { l.pc with core := .halted } } else l
  | .step => l
  | .resume => if l.pc.core = .halted then { l with pc := { l.pc with core := .running } } else l
  | .read a n => if l.pc.core = .held then l.devRead a n else l.coreLoad a n
  | .write a n v => if l.pc.core = .held then (l.devWrite a n v).divApply else if l.pc.core = .dump then l.dumpWrite a n v else l.coreStore drainClean a n v

/-! ### The meanings -/

def execBoundaryCommit (i : LaneId) (e : DrainEcc) (s : State) : Host.Outcome State Fault Refusal := s.act i (fun l => l.commitBoundary e)
def execIntermediateCommit (i : LaneId) (e : DrainEcc) (addr width : Nat) (v : Word) (s : State) : Host.Outcome State Fault Refusal :=
  s.act i (fun l => if l.commits ∧ (l.place addr width).isSome ∧ (l.pc.mid.isSome ∨ l.bufferFull addr) then l.coreStore e addr width v else l)
def execPairMismatch (i : LaneId) (point : Fin 5) (slot : Bool) (reg : Fin 128) (addr : Word) (s : State) :
    Host.Outcome State Fault Refusal := s.actD i .cp (fun l => l.mismatch point slot reg addr)
/-- SPLIT released at a commit that releases nothing else; where no commits are taken, none releases it. -/
def execPcSplit (i : LaneId) (s : State) : Host.Outcome State Fault Refusal :=
  s.actD i .cp (fun l => if l.commits then ({ l with pc := { l.pc with reqSplit := true } }).pairApply else l)
/-- REJOIN released at a commit that releases nothing else; where no commits are taken, none releases it. -/
def execPcRejoin (i : LaneId) (s : State) : Host.Outcome State Fault Refusal :=
  s.actD i .cp (fun l => if l.commits then ({ l with pc := { l.pc with reqRejoin := true } }).pairApply else l)
/-- ABDICATE released at a boundary commit that releases nothing else, with its commit signal; where no commits are taken, none releases it. -/
def execGlAbdicate (i : LaneId) (s : State) : Host.Outcome State Fault Refusal :=
  s.actD i .cp (fun l => if l.commits then ({ l with gl := { l.gl with abdicate := true } }).glSignal else l)
/-- HANDGO released at a boundary commit that releases nothing else, with its commit signal; where no commits are taken, none releases it. -/
def execGlHandgo (i : LaneId) (target : Fin 4) (s : State) : Host.Outcome State Fault Refusal :=
  s.actD i .cp (fun l => if l.commits then ({ l with gl := { l.gl with handGo := some target.val } }).glSignal else l)
def execPcCntclr (i : LaneId) (s : State) : Host.Outcome State Fault Refusal := s.actD i .cp Lane.pcCntClr
def execRegisterWrite (i : LaneId) (issued : Bool) (a n : Nat) (v : Word) (s : State) : Host.Outcome State Fault Refusal :=
  s.actD i .cp (fun l => if issued then l.coreWrite a n v else (l.devWrite a n v).divApply)
def execCoreDebug (i : LaneId) (op : DebugOp) (s : State) : Host.Outcome State Fault Refusal :=
  s.actD i .cp (fun l => if l.debugOpen then l.debug op else l)

end Sys2Proof.Machine
end

