-- ==== Sys2Proof/Machine/Dispatch.lean ====
section
/-!
DEFINITION. The dispatch: one arm per command of spec/opcode_table.json, each one call of that command's meaning.
-/

namespace Sys2Proof.Machine

def exec (i : Instr) (s : State) : Host.Outcome State Fault Refusal :=
  match i with
  | .powerUp l => Sys2Proof.Machine.execPowerUp l s
  | .resetRelease l straps => Sys2Proof.Machine.execResetRelease l straps s
  | .nrstAssert l => Sys2Proof.Machine.execNrstAssert l s
  | .supplyOutOfRange l => Sys2Proof.Machine.execSupplyOutOfRange l s
  | .vbatLow l => Sys2Proof.Machine.execVbatLow l s
  | .vbatBrownOut l => Sys2Proof.Machine.execVbatBrownOut l s
  | .pllLock l => Sys2Proof.Machine.execPllLock l s
  | .sweepEnd l fails => Sys2Proof.Machine.execSweepEnd l fails s
  | .imageLoadEnd l qspi => Sys2Proof.Machine.execImageLoadEnd l qspi s
  | .imageLock l => Sys2Proof.Machine.execImageLock l s
  | .gateDriverCheckEnd l x comp gate => Sys2Proof.Machine.execGateDriverCheckEnd l x comp gate s
  | .outerCycleBoundary l d0 d1 => Sys2Proof.Machine.execOuterCycleBoundary l d0 d1 s
  | .armTimeout l => Sys2Proof.Machine.execArmTimeout l s
  | .degradedTimeExpiry l => Sys2Proof.Machine.execDegradedTimeExpiry l s
  | .dieTemperatureHold l => Sys2Proof.Machine.execDieTemperatureHold l s
  | .commandAgeLimit l => Sys2Proof.Machine.execCommandAgeLimit l s
  | .autoRestart l => Sys2Proof.Machine.execAutoRestart l s
  | .partitionDecision l => Sys2Proof.Machine.execPartitionDecision l s
  | .leInnerPeriod l x c cmp => Sys2Proof.Machine.execLeInnerPeriod l x c cmp s
  | .leOpen l x => Sys2Proof.Machine.execLeOpen l x s
  | .leClose l x => Sys2Proof.Machine.execLeClose l x s
  | .leIntclr l x => Sys2Proof.Machine.execLeIntclr l x s
  | .leCntclr l x => Sys2Proof.Machine.execLeCntclr l x s
  | .leOwWrite l x a n v => Sys2Proof.Machine.execLeOwWrite l x a n v s
  | .leLvWrite l x r n v => Sys2Proof.Machine.execLeLvWrite l x r n v s
  | .leOpenmaxExpiry l x => Sys2Proof.Machine.execLeOpenmaxExpiry l x s
  | .modReload l x peak cmp => Sys2Proof.Machine.execModReload l x peak cmp s
  | .modWriteStageWrite l x r v => Sys2Proof.Machine.execModWriteStageWrite l x r v s
  | .modCommit l x => Sys2Proof.Machine.execModCommit l x s
  | .modDiscard l x => Sys2Proof.Machine.execModDiscard l x s
  | .modPasson l x => Sys2Proof.Machine.execModPasson l x s
  | .modPassoff l x => Sys2Proof.Machine.execModPassoff l x s
  | .modCntclr l x => Sys2Proof.Machine.execModCntclr l x s
  | .delayLineCalibration l x ok taps => Sys2Proof.Machine.execDelayLineCalibration l x ok taps s
  | .tripOnset l n p => Sys2Proof.Machine.execTripOnset l n p s
  | .tripInputInactive l n => Sys2Proof.Machine.execTripInputInactive l n s
  | .auxWindowStart l k => Sys2Proof.Machine.execAuxWindowStart l k s
  | .auxWindowEnd l k => Sys2Proof.Machine.execAuxWindowEnd l k s
  | .modTripclr l m => Sys2Proof.Machine.execModTripclr l m s
  | .blankcntRead l => Sys2Proof.Machine.execBlankcntRead l s
  | .tqDecision l x c link ext mm => Sys2Proof.Machine.execTqDecision l x c link ext mm s
  | .alignTimerExpiry l x => Sys2Proof.Machine.execAlignTimerExpiry l x s
  | .holdTimerExpiry l x => Sys2Proof.Machine.execHoldTimerExpiry l x s
  | .lowSpeedTimerExpiry l x => Sys2Proof.Machine.execLowSpeedTimerExpiry l x s
  | .catchPulse l x c => Sys2Proof.Machine.execCatchPulse l x c s
  | .catchTimeout l x => Sys2Proof.Machine.execCatchTimeout l x s
  | .tqOwWrite l x a n v => Sys2Proof.Machine.execTqOwWrite l x a n v s
  | .tqCntclr l x => Sys2Proof.Machine.execTqCntclr l x s
  | .gateEnableRequest l x => Sys2Proof.Machine.execGateEnableRequest l x s
  | .gateEnableDrop l x => Sys2Proof.Machine.execGateEnableDrop l x s
  | .gdSafeRequest l x => Sys2Proof.Machine.execGdSafeRequest l x s
  | .gdCntclr l x => Sys2Proof.Machine.execGdCntclr l x s
  | .interlockRefusal l x leg => Sys2Proof.Machine.execInterlockRefusal l x leg s
  | .minimumGapDelay l x => Sys2Proof.Machine.execMinimumGapDelay l x s
  | .hardShort l x gate => Sys2Proof.Machine.execHardShort l x gate s
  | .cpuvChange l x mv => Sys2Proof.Machine.execCpuvChange l x mv s
  | .keepAliveLoss l => Sys2Proof.Machine.execKeepAliveLoss l s
  | .keepAliveReceive l => Sys2Proof.Machine.execKeepAliveReceive l s
  | .ov1Assert l => Sys2Proof.Machine.execOv1Assert l s
  | .ov1Release l => Sys2Proof.Machine.execOv1Release l s
  | .ov2Assert l => Sys2Proof.Machine.execOv2Assert l s
  | .ov2Release l => Sys2Proof.Machine.execOv2Release l s
  | .chopperPeriod l => Sys2Proof.Machine.execChopperPeriod l s
  | .chopperOnEnd l => Sys2Proof.Machine.execChopperOnEnd l s
  | .chopperWatchExpiry l seen => Sys2Proof.Machine.execChopperWatchExpiry l seen s
  | .chopperOvercurrent l => Sys2Proof.Machine.execChopperOvercurrent l s
  | .dlChclr l => Sys2Proof.Machine.execDlChclr l s
  | .dlCntclr l => Sys2Proof.Machine.execDlCntclr l s
  | .commutatorHallChange l x code => Sys2Proof.Machine.execCommutatorHallChange l x code s
  | .monitorConversion l n v => Sys2Proof.Machine.execMonitorConversion l n v s
  | .adCntclr l x => Sys2Proof.Machine.execAdCntclr l x s
  | .hallEdge l x code raw => Sys2Proof.Machine.execHallEdge l x code raw s
  | .neighbourCode l x n code valid => Sys2Proof.Machine.execNeighbourCode l x n code valid s
  | .sincosSample l x cs cc => Sys2Proof.Machine.execSincosSample l x cs cc s
  | .positionCompareTick l x => Sys2Proof.Machine.execPositionCompareTick l x s
  | .compareWrite l x n r v => Sys2Proof.Machine.execCompareWrite l x n r v s
  | .fbPosadjWrite l x v => Sys2Proof.Machine.execFbPosadjWrite l x v s
  | .fbFltclr l x => Sys2Proof.Machine.execFbFltclr l x s
  | .readmission l x g => Sys2Proof.Machine.execReadmission l x g s
  | .fbCntclr l x => Sys2Proof.Machine.execFbCntclr l x s
  | .supplyOvercurrent l k ma => Sys2Proof.Machine.execSupplyOvercurrent l k ma s
  | .supplyUndervoltage l k mv => Sys2Proof.Machine.execSupplyUndervoltage l k mv s
  | .sfSupplyClr l k => Sys2Proof.Machine.execSfSupplyClr l k s
  | .supplyPulseStart l slot => Sys2Proof.Machine.execSupplyPulseStart l slot s
  | .pulseCheck l k recovery mv => Sys2Proof.Machine.execPulseCheck l k recovery mv s
  | .crossShortCheck l slot => Sys2Proof.Machine.execCrossShortCheck l slot s
  | .pulseMaskEnd l k => Sys2Proof.Machine.execPulseMaskEnd l k s
  | .boundaryCommit l e => Sys2Proof.Machine.execBoundaryCommit l e s
  | .intermediateCommit l e addr width v => Sys2Proof.Machine.execIntermediateCommit l e addr width v s
  | .pairMismatch l point slot reg addr => Sys2Proof.Machine.execPairMismatch l point slot reg addr s
  | .pcSplit l => Sys2Proof.Machine.execPcSplit l s
  | .pcRejoin l => Sys2Proof.Machine.execPcRejoin l s
  | .pcCntclr l => Sys2Proof.Machine.execPcCntclr l s
  | .linkLossOfLock l p => Sys2Proof.Machine.execLinkLossOfLock l p s
  | .blockLock l p => Sys2Proof.Machine.execBlockLock l p s
  | .linkUp l p ns => Sys2Proof.Machine.execLinkUp l p ns s
  | .messageForward l p m => Sys2Proof.Machine.execMessageForward l p m s
  | .syncReceive l p sender dly own => Sys2Proof.Machine.execSyncReceive l p sender dly own s
  | .heartbeatReceive l m => Sys2Proof.Machine.execHeartbeatReceive l m s
  | .heartbeatDue l => Sys2Proof.Machine.execHeartbeatDue l s
  | .ftannReceive l m => Sys2Proof.Machine.execFtannReceive l m s
  | .claimReceive l m => Sys2Proof.Machine.execClaimReceive l m s
  | .abdicateReceive l m => Sys2Proof.Machine.execAbdicateReceive l m s
  | .handoverReceive l m => Sys2Proof.Machine.execHandoverReceive l m s
  | .commandReceive l m => Sys2Proof.Machine.execCommandReceive l m s
  | .cfghashReceive l m => Sys2Proof.Machine.execCfghashReceive l m s
  | .statecopyReceive l m => Sys2Proof.Machine.execStatecopyReceive l m s
  | .electionWindowEnd l => Sys2Proof.Machine.execElectionWindowEnd l s
  | .voteTimeout l => Sys2Proof.Machine.execVoteTimeout l s
  | .glAbdicate l => Sys2Proof.Machine.execGlAbdicate l s
  | .glHandgo l target => Sys2Proof.Machine.execGlHandgo l target s
  | .handoverTimeout l => Sys2Proof.Machine.execHandoverTimeout l s
  | .glElig l => Sys2Proof.Machine.execGlElig l s
  | .glInelig l => Sys2Proof.Machine.execGlInelig l s
  | .glCntclr l => Sys2Proof.Machine.execGlCntclr l s
  | .faultMessageAccept l => Sys2Proof.Machine.execFaultMessageAccept l s
  | .fcRearm l => Sys2Proof.Machine.execFcRearm l s
  | .fcCntclr l => Sys2Proof.Machine.execFcCntclr l s
  | .fcDumpdone l => Sys2Proof.Machine.execFcDumpdone l s
  | .fcNbfree l n => Sys2Proof.Machine.execFcNbfree l n s
  | .faultInjection l suppress => Sys2Proof.Machine.execFaultInjection l suppress s
  | .lanternToggle l => Sys2Proof.Machine.execLanternToggle l s
  | .lanternTend l key => Sys2Proof.Machine.execLanternTend l key s
  | .tendTimeout l => Sys2Proof.Machine.execTendTimeout l s
  | .neighbourLanternEdge l n => Sys2Proof.Machine.execNeighbourLanternEdge l n s
  | .neighbourWatchTimeout l n => Sys2Proof.Machine.execNeighbourWatchTimeout l n s
  | .dumpContextStart l => Sys2Proof.Machine.execDumpContextStart l s
  | .dumpContextTimeout l => Sys2Proof.Machine.execDumpContextTimeout l s
  | .dumpEngineStart l => Sys2Proof.Machine.execDumpEngineStart l s
  | .dumpAnswerTimeout l => Sys2Proof.Machine.execDumpAnswerTimeout l s
  | .dumpDataSend l => Sys2Proof.Machine.execDumpDataSend l s
  | .dumpOfferReceive l m => Sys2Proof.Machine.execDumpOfferReceive l m s
  | .dumpAcceptReceive l m => Sys2Proof.Machine.execDumpAcceptReceive l m s
  | .dumpRefuseReceive l m => Sys2Proof.Machine.execDumpRefuseReceive l m s
  | .dumpDataReceive l m => Sys2Proof.Machine.execDumpDataReceive l m s
  | .dumpEndReceive l m => Sys2Proof.Machine.execDumpEndReceive l m s
  | .dumpStoreComplete l n => Sys2Proof.Machine.execDumpStoreComplete l n s
  | .dumpReceiveTimeout l n => Sys2Proof.Machine.execDumpReceiveTimeout l n s
  | .dumpDoneReceive l m => Sys2Proof.Machine.execDumpDoneReceive l m s
  | .scPost l v => Sys2Proof.Machine.execScPost l v s
  | .scEnter l => Sys2Proof.Machine.execScEnter l s
  | .scNext l => Sys2Proof.Machine.execScNext l s
  | .scCntclr l => Sys2Proof.Machine.execScCntclr l s
  | .flowEnableWrite l k v => Sys2Proof.Machine.execFlowEnableWrite l k v s
  | .timerArm l t v => Sys2Proof.Machine.execTimerArm l t v s
  | .timerInsertion l t => Sys2Proof.Machine.execTimerInsertion l t s
  | .timerExpiry l => Sys2Proof.Machine.execTimerExpiry l s
  | .headroomUpdate l => Sys2Proof.Machine.execHeadroomUpdate l s
  | .deferralAge l n => Sys2Proof.Machine.execDeferralAge l n s
  | .hqPutWrite l h n v => Sys2Proof.Machine.execHqPutWrite l h n v s
  | .hqPush l h v => Sys2Proof.Machine.execHqPush l h v s
  | .hqTake l h => Sys2Proof.Machine.execHqTake l h s
  | .hqMark l h => Sys2Proof.Machine.execHqMark l h s
  | .hqRewind l h => Sys2Proof.Machine.execHqRewind l h s
  | .hqCntclr l => Sys2Proof.Machine.execHqCntclr l s
  | .hostNop l rest mode3 => Sys2Proof.Machine.execHostNop l rest mode3 s
  | .hostPut l h rest mode3 => Sys2Proof.Machine.execHostPut l h rest mode3 s
  | .hostStatus l rest mode3 => Sys2Proof.Machine.execHostStatus l rest mode3 s
  | .hostBadCommand l bytes whole mode3 => Sys2Proof.Machine.execHostBadCommand l bytes whole mode3 s
  | .enterService l rest mode3 => Sys2Proof.Machine.execEnterService l rest mode3 s
  | .restart l rest mode3 => Sys2Proof.Machine.execRestart l rest mode3 s
  | .handover l rest mode3 => Sys2Proof.Machine.execHandover l rest mode3 s
  | .ceiling l rest mode3 => Sys2Proof.Machine.execCeiling l rest mode3 s
  | .integratorCode l code rest mode3 => Sys2Proof.Machine.execIntegratorCode l code rest mode3 s
  | .hpIrqset l => Sys2Proof.Machine.execHpIrqset l s
  | .hpIrqclr l => Sys2Proof.Machine.execHpIrqclr l s
  | .hpCntclr l => Sys2Proof.Machine.execHpCntclr l s
  | .cycleStart l => Sys2Proof.Machine.execCycleStart l s
  | .syncLossExpiry l => Sys2Proof.Machine.execSyncLossExpiry l s
  | .masterTakeExpiry l => Sys2Proof.Machine.execMasterTakeExpiry l s
  | .portMute l p => Sys2Proof.Machine.execPortMute l p s
  | .portUnmute l p => Sys2Proof.Machine.execPortUnmute l p s
  | .partnerAbsence l m => Sys2Proof.Machine.execPartnerAbsence l m s
  | .fetchPoint l k => Sys2Proof.Machine.execFetchPoint l k s
  | .frameSend l k => Sys2Proof.Machine.execFrameSend l k s
  | .ttTxrdy l k len => Sys2Proof.Machine.execTtTxrdy l k len s
  | .crelasFrameReceive l p f ago => Sys2Proof.Machine.execCrelasFrameReceive l p f ago s
  | .ttUnmute l m => Sys2Proof.Machine.execTtUnmute l m s
  | .ttCntclr l => Sys2Proof.Machine.execTtCntclr l s
  | .portLinkChange l p up => Sys2Proof.Machine.execPortLinkChange l p up s
  | .canFrameReceive l f => Sys2Proof.Machine.execCanFrameReceive l f s
  | .canFrameSent l ok => Sys2Proof.Machine.execCanFrameSent l ok s
  | .canProtocolError l lec tx heavy => Sys2Proof.Machine.execCanProtocolError l lec tx heavy s
  | .busOffRecovery l => Sys2Proof.Machine.execBusOffRecovery l s
  | .cnTxreq l m => Sys2Proof.Machine.execCnTxreq l m s
  | .cnRecover l => Sys2Proof.Machine.execCnRecover l s
  | .cnCntclr l => Sys2Proof.Machine.execCnCntclr l s
  | .pdReqWrite l v => Sys2Proof.Machine.execPdReqWrite l v s
  | .domainTransition l d => Sys2Proof.Machine.execDomainTransition l d s
  | .sleep l => Sys2Proof.Machine.execSleep l s
  | .lpoCalibrationEnd l cnt => Sys2Proof.Machine.execLpoCalibrationEnd l cnt s
  | .ckCalgo l => Sys2Proof.Machine.execCkCalgo l s
  | .ckDivgo l div => Sys2Proof.Machine.execCkDivgo l div s
  | .rootLoss l lockDetector => Sys2Proof.Machine.execRootLoss l lockDetector s
  | .frequencyCheck l cnt => Sys2Proof.Machine.execFrequencyCheck l cnt s
  | .whistleFrame l pulses => Sys2Proof.Machine.execWhistleFrame l pulses s
  | .slowAlarm l => Sys2Proof.Machine.execSlowAlarm l s
  | .safetyInputWake l n rail => Sys2Proof.Machine.execSafetyInputWake l n rail s
  | .wkCntclr l => Sys2Proof.Machine.execWkCntclr l s
  | .voltageRequest l mv => Sys2Proof.Machine.execVoltageRequest l mv s
  | .voltageAcknowledge l => Sys2Proof.Machine.execVoltageAcknowledge l s
  | .voltageAckTimeout l => Sys2Proof.Machine.execVoltageAckTimeout l s
  | .transactionFail l => Sys2Proof.Machine.execTransactionFail l s
  | .transactionRetry l => Sys2Proof.Machine.execTransactionRetry l s
  | .operationWrite l d => Sys2Proof.Machine.execOperationWrite l d s
  | .clearFaults l => Sys2Proof.Machine.execClearFaults l s
  | .statusWordRead l => Sys2Proof.Machine.execStatusWordRead l s
  | .operationRead l => Sys2Proof.Machine.execOperationRead l s
  | .pmPoll l => Sys2Proof.Machine.execPmPoll l s
  | .pmAlert l low => Sys2Proof.Machine.execPmAlert l low s
  | .stSlice l unit index => Sys2Proof.Machine.execStSlice l unit index s
  | .sliceEnd l res cov => Sys2Proof.Machine.execSliceEnd l res cov s
  | .sliceBudgetExpiry l => Sys2Proof.Machine.execSliceBudgetExpiry l s
  | .sliceAccessAbort l => Sys2Proof.Machine.execSliceAccessAbort l s
  | .stSweep l => Sys2Proof.Machine.execStSweep l s
  | .stProggo l => Sys2Proof.Machine.execStProggo l s
  | .stAbort l => Sys2Proof.Machine.execStAbort l s
  | .stCntclr l => Sys2Proof.Machine.execStCntclr l s
  | .memtokReceive l m => Sys2Proof.Machine.execMemtokReceive l m s
  | .memtokRegen l => Sys2Proof.Machine.execMemtokRegen l s
  | .lcadv l => Sys2Proof.Machine.execLcadv l s
  | .lcterm l => Sys2Proof.Machine.execLcterm l s
  | .keyprog l slot img rtn hash => Sys2Proof.Machine.execKeyprog l slot img rtn hash s
  | .keyrev l slot => Sys2Proof.Machine.execKeyrev l slot s
  | .ftmode l => Sys2Proof.Machine.execFtmode l s
  | .jtagSweep l => Sys2Proof.Machine.execJtagSweep l s
  | .lcGo l target => Sys2Proof.Machine.execLcGo l target s
  | .lcFtmon l => Sys2Proof.Machine.execLcFtmon l s
  | .otpWriteComplete l ok => Sys2Proof.Machine.execOtpWriteComplete l ok s
  | .safetyInputChange l n chanB level => Sys2Proof.Machine.execSafetyInputChange l n chanB level s
  | .safetyDiscrepancy l n => Sys2Proof.Machine.execSafetyDiscrepancy l n s
  | .sfDiscclr l m => Sys2Proof.Machine.execSfDiscclr l m s
  | .sfInjgo l m => Sys2Proof.Machine.execSfInjgo l m s
  | .injectionPhaseEnd l ok => Sys2Proof.Machine.execInjectionPhaseEnd l ok s
  | .registerWrite l issued a n v => Sys2Proof.Machine.execRegisterWrite l issued a n v s
  | .pmbusTransactionEnd l v => Sys2Proof.Machine.execPmbusTransactionEnd l v s
  | .gdSliceInjection l => Sys2Proof.Machine.execGdSliceInjection l s
  | .eccError l mem corrected addr => Sys2Proof.Machine.execEccError l mem corrected addr s
  | .mramControllerFailure l cause => Sys2Proof.Machine.execMramControllerFailure l cause s
  | .busParityError l addr => Sys2Proof.Machine.execBusParityError l addr s
  | .deviceAccessTimeout l addr => Sys2Proof.Machine.execDeviceAccessTimeout l addr s
  | .coreDebug l op => Sys2Proof.Machine.execCoreDebug l op s

end Sys2Proof.Machine
end

