-- ==== Sys2Proof/Machine/Tick.lean ====
section
/-!
DEFINITION. The passing of time: what a lane does by itself in one period of the PLL root, while no command waits (log entry 3), and what
takes a command into the queue.
-/

namespace Sys2Proof.Machine

/-- What a lane whose clocks run does by itself: the ports of the Guyline send what waits for them, acknowledgement reads start, domains and
the sleep entry go on, self-test slices end where their conditions do, the proofs of arming are judged, the domain requests
follow what the scheduler holds (spec/10_flow_scheduler.md R372), and accesses that wait for a domain take place. -/
def Lane.selfRun (l : Lane) : Lane :=
  let l := l.pmTick.pwTick
  if l.pw.stopped || !l.domOn .cp then l else ((((l.glPorts.copyReads.stTick).armProofs).domainsFollow).domPermission).waitRun

/-- One root period of a lane, which ends the CLK_BUS cycle of the Hampers where it is the last of one (spec/11_hamper_host.md R383). A lane held
in reset only ages, and of one whose clocks stand still the AO generator alone goes on. -/
def Lane.tick (l : Lane) : Lane :=
  if l.sy.held then { l with now := l.now + 1 }
  else if l.pw.stopped then ({ l with now := l.now + 1 }).aoTick
  else (({ l.hqCycle with now := l.now + 1 }).selfRun).aoTick

/-- One root period of the module's lanes; an absent lane has none. -/
def State.tick (s : State) : State := ((s.onLane .A Lane.tick).onLane .B Lane.tick).onLane .C Lane.tick

/-- The module with a command put at the front of its queue. -/
def State.withFront (s : State) (c : Instr) : State := { s with pending := c :: s.pending }

end Sys2Proof.Machine
end

