-- ==== Sys2Proof/WellFormed.lean ====
section
/-!
DEFINITION. Which commands are well formed: the widths and lengths that what arrives on a wire or a bus can have. The operand types hold
the rest. Every check is one Bool function; `Instr.wf` names each command.
-/

namespace Sys2Proof

/-- A value of `n` bytes. -/
def fits (n : Nat) (v : Word) : Bool := decide (v.toNat < 256 ^ n)

/-- An access of a lane's 40-bit address space: 1, 2, 4 or 8 bytes, aligned to its own width, with a value of that width
(spec/18_address_map.md R577, R578). -/
def accessOk (a n : Nat) (v : Word) : Bool := (n = 1 || n = 2 || n = 4 || n = 8) && a % n = 0 && decide (a < 2 ^ 40) && fits n v

/-- The widths of the header of a Guyline message, the bytes it carries and its trailer (spec/08_leadership_guyline.md Table 8.1). -/
def GlMsg.wf (m : GlMsg) : Bool :=
  decide (m.type < 256) && decide (m.route < 256) && decide (m.len < 65536) && decide (m.cycle < 2 ^ 32) && decide (m.epoch < 2 ^ 32) &&
  decide (m.chunk < 65536) && decide (m.chunks < 65536) && decide (m.payload.length ≤ 256) && decide (m.pad.length < 8) &&
  decide (m.trailer < 2 ^ 32)

/-- A frame on a port carries at most a full Ethernet frame's bytes (spec/12_tt_network.md R417). -/
def CrelasFrame.wf (f : CrelasFrame) : Bool := decide (f.bytes.length ≤ 1518)

/-- The widths of the fields of a CAN frame (spec/12_tt_network.md Table 12.7). -/
def CanFrame.wf (f : CanFrame) : Bool := decide (f.header < 2 ^ 32) && decide (f.dlc < 16) && decide (f.data.length ≤ 64)

/-- A debugger's access is one of the address space. -/
def DebugOp.wf : DebugOp → Bool
  | .halt => true
  | .step => true
  | .resume => true
  | .read a n => accessOk a n 0#64
  | .write a n v => accessOk a n v

/-- Whether a command is well formed. -/
def Instr.wf (i : Instr) : Bool :=
  match i with
  | .powerUp _ => true
  | .resetRelease _ _ => true
  | .nrstAssert _ => true
  | .supplyOutOfRange _ => true
  | .vbatLow _ => true
  | .vbatBrownOut _ => true
  | .pllLock _ => true
  | .sweepEnd _ _ => true
  | .imageLoadEnd _ qspi => qspi.all (fun f => decide (f.1 < 0x8000000))
  | .imageLock _ => true
  | .gateDriverCheckEnd _ _ _ _ => true
  | .outerCycleBoundary _ _ _ => true
  | .armTimeout _ => true
  | .degradedTimeExpiry _ => true
  | .dieTemperatureHold _ => true
  | .commandAgeLimit _ => true
  | .autoRestart _ => true
  | .partitionDecision _ => true
  | .leInnerPeriod _ _ _ _ => true
  | .leOpen _ _ => true
  | .leClose _ _ => true
  | .leIntclr _ _ => true
  | .leCntclr _ _ => true
  | .leOwWrite _ _ a n v => accessOk a n v
  | .leLvWrite _ _ _ n v => (n = 4 || n = 8) && fits n v
  | .leOpenmaxExpiry _ _ => true
  | .modReload _ _ _ _ => true
  | .modWriteStageWrite _ _ _ _ => true
  | .modCommit _ _ => true
  | .modDiscard _ _ => true
  | .modPasson _ _ => true
  | .modPassoff _ _ => true
  | .modCntclr _ _ => true
  | .delayLineCalibration _ _ _ _ => true
  | .tripOnset _ _ _ => true
  | .tripInputInactive _ _ => true
  | .auxWindowStart _ _ => true
  | .auxWindowEnd _ _ => true
  | .modTripclr _ _ => true
  | .blankcntRead _ => true
  | .tqDecision _ _ _ _ _ _ => true
  | .alignTimerExpiry _ _ => true
  | .holdTimerExpiry _ _ => true
  | .lowSpeedTimerExpiry _ _ => true
  | .catchPulse _ _ _ => true
  | .catchTimeout _ _ => true
  | .tqOwWrite _ _ a n v => accessOk a n v
  | .tqCntclr _ _ => true
  | .gateEnableRequest _ _ => true
  | .gateEnableDrop _ _ => true
  | .gdSafeRequest _ _ => true
  | .gdCntclr _ _ => true
  | .interlockRefusal _ _ _ => true
  | .minimumGapDelay _ _ => true
  | .hardShort _ _ _ => true
  | .cpuvChange _ _ _ => true
  | .keepAliveLoss _ => true
  | .keepAliveReceive _ => true
  | .ov1Assert _ => true
  | .ov1Release _ => true
  | .ov2Assert _ => true
  | .ov2Release _ => true
  | .chopperPeriod _ => true
  | .chopperOnEnd _ => true
  | .chopperWatchExpiry _ _ => true
  | .chopperOvercurrent _ => true
  | .dlChclr _ => true
  | .dlCntclr _ => true
  | .commutatorHallChange _ _ _ => true
  | .monitorConversion _ _ _ => true
  | .adCntclr _ _ => true
  | .hallEdge _ _ _ _ => true
  | .neighbourCode _ _ _ _ _ => true
  | .sincosSample _ _ _ _ => true
  | .positionCompareTick _ _ => true
  | .compareWrite _ _ _ r v => (r = .value || fits 4 v)
  | .fbPosadjWrite _ _ _ => true
  | .fbFltclr _ _ => true
  | .readmission _ _ _ => true
  | .fbCntclr _ _ => true
  | .supplyOvercurrent _ _ _ => true
  | .supplyUndervoltage _ _ _ => true
  | .sfSupplyClr _ _ => true
  | .supplyPulseStart _ _ => true
  | .pulseCheck _ _ _ _ => true
  | .crossShortCheck _ _ => true
  | .pulseMaskEnd _ _ => true
  | .boundaryCommit _ _ => true
  | .intermediateCommit _ _ addr width v => accessOk addr width v
  | .pairMismatch _ _ _ _ _ => true
  | .pcSplit _ => true
  | .pcRejoin _ => true
  | .pcCntclr _ => true
  | .linkLossOfLock _ _ => true
  | .blockLock _ _ => true
  | .linkUp _ _ _ => true
  | .messageForward _ _ m => m.wf
  | .syncReceive _ _ _ _ _ => true
  | .heartbeatReceive _ m => m.wf
  | .heartbeatDue _ => true
  | .ftannReceive _ m => m.wf
  | .claimReceive _ m => m.wf
  | .abdicateReceive _ m => m.wf
  | .handoverReceive _ m => m.wf
  | .commandReceive _ m => m.wf
  | .cfghashReceive _ m => m.wf
  | .statecopyReceive _ m => m.wf
  | .electionWindowEnd _ => true
  | .voteTimeout _ => true
  | .glAbdicate _ => true
  | .glHandgo _ _ => true
  | .handoverTimeout _ => true
  | .glElig _ => true
  | .glInelig _ => true
  | .glCntclr _ => true
  | .faultMessageAccept _ => true
  | .fcRearm _ => true
  | .fcCntclr _ => true
  | .fcDumpdone _ => true
  | .fcNbfree _ _ => true
  | .faultInjection _ _ => true
  | .lanternToggle _ => true
  | .lanternTend _ _ => true
  | .tendTimeout _ => true
  | .neighbourLanternEdge _ _ => true
  | .neighbourWatchTimeout _ _ => true
  | .dumpContextStart _ => true
  | .dumpContextTimeout _ => true
  | .dumpEngineStart _ => true
  | .dumpAnswerTimeout _ => true
  | .dumpDataSend _ => true
  | .dumpOfferReceive _ m => m.wf
  | .dumpAcceptReceive _ m => m.wf
  | .dumpRefuseReceive _ m => m.wf
  | .dumpDataReceive _ m => m.wf
  | .dumpEndReceive _ m => m.wf
  | .dumpStoreComplete _ _ => true
  | .dumpReceiveTimeout _ _ => true
  | .dumpDoneReceive _ m => m.wf
  | .scPost _ _ => true
  | .scEnter _ => true
  | .scNext _ => true
  | .scCntclr _ => true
  | .flowEnableWrite _ _ _ => true
  | .timerArm _ _ _ => true
  | .timerInsertion _ _ => true
  | .timerExpiry _ => true
  | .headroomUpdate _ => true
  | .deferralAge _ _ => true
  | .hqPutWrite _ _ _ _ => true
  | .hqPush _ _ _ => true
  | .hqTake _ _ => true
  | .hqMark _ _ => true
  | .hqRewind _ _ => true
  | .hqCntclr _ => true
  | .hostNop _ _ _ => true
  | .hostPut _ _ _ _ => true
  | .hostStatus _ _ _ => true
  | .hostBadCommand _ _ _ _ => true
  | .enterService _ _ _ => true
  | .restart _ _ _ => true
  | .handover _ _ _ => true
  | .ceiling _ _ _ => true
  | .integratorCode _ _ _ _ => true
  | .hpIrqset _ => true
  | .hpIrqclr _ => true
  | .hpCntclr _ => true
  | .cycleStart _ => true
  | .syncLossExpiry _ => true
  | .masterTakeExpiry _ => true
  | .portMute _ _ => true
  | .portUnmute _ _ => true
  | .partnerAbsence _ _ => true
  | .fetchPoint _ _ => true
  | .frameSend _ _ => true
  | .ttTxrdy _ _ len => len.val ≤ 256
  | .crelasFrameReceive _ _ f _ => f.wf
  | .ttUnmute _ _ => true
  | .ttCntclr _ => true
  | .portLinkChange _ _ _ => true
  | .canFrameReceive _ f => f.wf
  | .canFrameSent _ _ => true
  | .canProtocolError _ _ _ _ => true
  | .busOffRecovery _ => true
  | .cnTxreq _ _ => true
  | .cnRecover _ => true
  | .cnCntclr _ => true
  | .pdReqWrite _ _ => true
  | .domainTransition _ _ => true
  | .sleep _ => true
  | .lpoCalibrationEnd _ _ => true
  | .ckCalgo _ => true
  | .ckDivgo _ _ => true
  | .rootLoss _ _ => true
  | .frequencyCheck _ _ => true
  | .whistleFrame _ _ => true
  | .slowAlarm _ => true
  | .safetyInputWake _ _ _ => true
  | .wkCntclr _ => true
  | .voltageRequest _ _ => true
  | .voltageAcknowledge _ => true
  | .voltageAckTimeout _ => true
  | .transactionFail _ => true
  | .transactionRetry _ => true
  | .operationWrite _ _ => true
  | .clearFaults _ => true
  | .statusWordRead _ => true
  | .operationRead _ => true
  | .pmPoll _ => true
  | .pmAlert _ _ => true
  | .stSlice _ _ _ => true
  | .sliceEnd _ _ cov => cov.val ≤ 1000
  | .sliceBudgetExpiry _ => true
  | .sliceAccessAbort _ => true
  | .stSweep _ => true
  | .stProggo _ => true
  | .stAbort _ => true
  | .stCntclr _ => true
  | .memtokReceive _ m => m.wf
  | .memtokRegen _ => true
  | .lcadv _ => true
  | .lcterm _ => true
  | .keyprog _ _ _ _ hash => hash.length = 32
  | .keyrev _ _ => true
  | .ftmode _ => true
  | .jtagSweep _ => true
  | .lcGo _ _ => true
  | .lcFtmon _ => true
  | .otpWriteComplete _ _ => true
  | .safetyInputChange _ _ _ _ => true
  | .safetyDiscrepancy _ _ => true
  | .sfDiscclr _ _ => true
  | .sfInjgo _ _ => true
  | .injectionPhaseEnd _ _ => true
  | .registerWrite _ _ a n v => accessOk a n v
  | .pmbusTransactionEnd _ _ => true
  | .gdSliceInjection _ => true
  | .eccError _ _ _ _ => true
  | .mramControllerFailure _ _ => true
  | .busParityError _ _ => true
  | .deviceAccessTimeout _ _ => true
  | .coreDebug _ op => op.wf

/-- A well-formed command. -/
abbrev WellFormed (i : Instr) : Prop := i.wf = true

/-- The lane a command happens on. -/
def Instr.lane (i : Instr) : LaneId :=
  match i with
  | .powerUp l => l
  | .resetRelease l _ => l
  | .nrstAssert l => l
  | .supplyOutOfRange l => l
  | .vbatLow l => l
  | .vbatBrownOut l => l
  | .pllLock l => l
  | .sweepEnd l _ => l
  | .imageLoadEnd l _ => l
  | .imageLock l => l
  | .gateDriverCheckEnd l _ _ _ => l
  | .outerCycleBoundary l _ _ => l
  | .armTimeout l => l
  | .degradedTimeExpiry l => l
  | .dieTemperatureHold l => l
  | .commandAgeLimit l => l
  | .autoRestart l => l
  | .partitionDecision l => l
  | .leInnerPeriod l _ _ _ => l
  | .leOpen l _ => l
  | .leClose l _ => l
  | .leIntclr l _ => l
  | .leCntclr l _ => l
  | .leOwWrite l _ _ _ _ => l
  | .leLvWrite l _ _ _ _ => l
  | .leOpenmaxExpiry l _ => l
  | .modReload l _ _ _ => l
  | .modWriteStageWrite l _ _ _ => l
  | .modCommit l _ => l
  | .modDiscard l _ => l
  | .modPasson l _ => l
  | .modPassoff l _ => l
  | .modCntclr l _ => l
  | .delayLineCalibration l _ _ _ => l
  | .tripOnset l _ _ => l
  | .tripInputInactive l _ => l
  | .auxWindowStart l _ => l
  | .auxWindowEnd l _ => l
  | .modTripclr l _ => l
  | .blankcntRead l => l
  | .tqDecision l _ _ _ _ _ => l
  | .alignTimerExpiry l _ => l
  | .holdTimerExpiry l _ => l
  | .lowSpeedTimerExpiry l _ => l
  | .catchPulse l _ _ => l
  | .catchTimeout l _ => l
  | .tqOwWrite l _ _ _ _ => l
  | .tqCntclr l _ => l
  | .gateEnableRequest l _ => l
  | .gateEnableDrop l _ => l
  | .gdSafeRequest l _ => l
  | .gdCntclr l _ => l
  | .interlockRefusal l _ _ => l
  | .minimumGapDelay l _ => l
  | .hardShort l _ _ => l
  | .cpuvChange l _ _ => l
  | .keepAliveLoss l => l
  | .keepAliveReceive l => l
  | .ov1Assert l => l
  | .ov1Release l => l
  | .ov2Assert l => l
  | .ov2Release l => l
  | .chopperPeriod l => l
  | .chopperOnEnd l => l
  | .chopperWatchExpiry l _ => l
  | .chopperOvercurrent l => l
  | .dlChclr l => l
  | .dlCntclr l => l
  | .commutatorHallChange l _ _ => l
  | .monitorConversion l _ _ => l
  | .adCntclr l _ => l
  | .hallEdge l _ _ _ => l
  | .neighbourCode l _ _ _ _ => l
  | .sincosSample l _ _ _ => l
  | .positionCompareTick l _ => l
  | .compareWrite l _ _ _ _ => l
  | .fbPosadjWrite l _ _ => l
  | .fbFltclr l _ => l
  | .readmission l _ _ => l
  | .fbCntclr l _ => l
  | .supplyOvercurrent l _ _ => l
  | .supplyUndervoltage l _ _ => l
  | .sfSupplyClr l _ => l
  | .supplyPulseStart l _ => l
  | .pulseCheck l _ _ _ => l
  | .crossShortCheck l _ => l
  | .pulseMaskEnd l _ => l
  | .boundaryCommit l _ => l
  | .intermediateCommit l _ _ _ _ => l
  | .pairMismatch l _ _ _ _ => l
  | .pcSplit l => l
  | .pcRejoin l => l
  | .pcCntclr l => l
  | .linkLossOfLock l _ => l
  | .blockLock l _ => l
  | .linkUp l _ _ => l
  | .messageForward l _ _ => l
  | .syncReceive l _ _ _ _ => l
  | .heartbeatReceive l _ => l
  | .heartbeatDue l => l
  | .ftannReceive l _ => l
  | .claimReceive l _ => l
  | .abdicateReceive l _ => l
  | .handoverReceive l _ => l
  | .commandReceive l _ => l
  | .cfghashReceive l _ => l
  | .statecopyReceive l _ => l
  | .electionWindowEnd l => l
  | .voteTimeout l => l
  | .glAbdicate l => l
  | .glHandgo l _ => l
  | .handoverTimeout l => l
  | .glElig l => l
  | .glInelig l => l
  | .glCntclr l => l
  | .faultMessageAccept l => l
  | .fcRearm l => l
  | .fcCntclr l => l
  | .fcDumpdone l => l
  | .fcNbfree l _ => l
  | .faultInjection l _ => l
  | .lanternToggle l => l
  | .lanternTend l _ => l
  | .tendTimeout l => l
  | .neighbourLanternEdge l _ => l
  | .neighbourWatchTimeout l _ => l
  | .dumpContextStart l => l
  | .dumpContextTimeout l => l
  | .dumpEngineStart l => l
  | .dumpAnswerTimeout l => l
  | .dumpDataSend l => l
  | .dumpOfferReceive l _ => l
  | .dumpAcceptReceive l _ => l
  | .dumpRefuseReceive l _ => l
  | .dumpDataReceive l _ => l
  | .dumpEndReceive l _ => l
  | .dumpStoreComplete l _ => l
  | .dumpReceiveTimeout l _ => l
  | .dumpDoneReceive l _ => l
  | .scPost l _ => l
  | .scEnter l => l
  | .scNext l => l
  | .scCntclr l => l
  | .flowEnableWrite l _ _ => l
  | .timerArm l _ _ => l
  | .timerInsertion l _ => l
  | .timerExpiry l => l
  | .headroomUpdate l => l
  | .deferralAge l _ => l
  | .hqPutWrite l _ _ _ => l
  | .hqPush l _ _ => l
  | .hqTake l _ => l
  | .hqMark l _ => l
  | .hqRewind l _ => l
  | .hqCntclr l => l
  | .hostNop l _ _ => l
  | .hostPut l _ _ _ => l
  | .hostStatus l _ _ => l
  | .hostBadCommand l _ _ _ => l
  | .enterService l _ _ => l
  | .restart l _ _ => l
  | .handover l _ _ => l
  | .ceiling l _ _ => l
  | .integratorCode l _ _ _ => l
  | .hpIrqset l => l
  | .hpIrqclr l => l
  | .hpCntclr l => l
  | .cycleStart l => l
  | .syncLossExpiry l => l
  | .masterTakeExpiry l => l
  | .portMute l _ => l
  | .portUnmute l _ => l
  | .partnerAbsence l _ => l
  | .fetchPoint l _ => l
  | .frameSend l _ => l
  | .ttTxrdy l _ _ => l
  | .crelasFrameReceive l _ _ _ => l
  | .ttUnmute l _ => l
  | .ttCntclr l => l
  | .portLinkChange l _ _ => l
  | .canFrameReceive l _ => l
  | .canFrameSent l _ => l
  | .canProtocolError l _ _ _ => l
  | .busOffRecovery l => l
  | .cnTxreq l _ => l
  | .cnRecover l => l
  | .cnCntclr l => l
  | .pdReqWrite l _ => l
  | .domainTransition l _ => l
  | .sleep l => l
  | .lpoCalibrationEnd l _ => l
  | .ckCalgo l => l
  | .ckDivgo l _ => l
  | .rootLoss l _ => l
  | .frequencyCheck l _ => l
  | .whistleFrame l _ => l
  | .slowAlarm l => l
  | .safetyInputWake l _ _ => l
  | .wkCntclr l => l
  | .voltageRequest l _ => l
  | .voltageAcknowledge l => l
  | .voltageAckTimeout l => l
  | .transactionFail l => l
  | .transactionRetry l => l
  | .operationWrite l _ => l
  | .clearFaults l => l
  | .statusWordRead l => l
  | .operationRead l => l
  | .pmPoll l => l
  | .pmAlert l _ => l
  | .stSlice l _ _ => l
  | .sliceEnd l _ _ => l
  | .sliceBudgetExpiry l => l
  | .sliceAccessAbort l => l
  | .stSweep l => l
  | .stProggo l => l
  | .stAbort l => l
  | .stCntclr l => l
  | .memtokReceive l _ => l
  | .memtokRegen l => l
  | .lcadv l => l
  | .lcterm l => l
  | .keyprog l _ _ _ _ => l
  | .keyrev l _ => l
  | .ftmode l => l
  | .jtagSweep l => l
  | .lcGo l _ => l
  | .lcFtmon l => l
  | .otpWriteComplete l _ => l
  | .safetyInputChange l _ _ _ => l
  | .safetyDiscrepancy l _ => l
  | .sfDiscclr l _ => l
  | .sfInjgo l _ => l
  | .injectionPhaseEnd l _ => l
  | .registerWrite l _ _ _ _ => l
  | .pmbusTransactionEnd l _ => l
  | .gdSliceInjection l => l
  | .eccError l _ _ _ => l
  | .mramControllerFailure l _ => l
  | .busParityError l _ => l
  | .deviceAccessTimeout l _ => l
  | .coreDebug l _ => l

end Sys2Proof
end

