-- ==== Sys2Proof/Safety.lean ====
section
/-!
DEFINITION. What counts as a sound state of the module, and which commands a lane can take in it, in the terms the statements use.
-/

namespace Sys2Proof.Machine

/-- The register file and the memory of a lane have their canonical forms, so that equal contents are equal data. -/
def Lane.canonical (l : Lane) : Bool := regsWf l.regs && Memory.wf l.mem

/-- A lane that the module does not have is as it was at power-up: it takes no part (spec/00_scope.md R5). -/
def State.absentAsleep (s : State) : Prop := ∀ i, s.part.hasLane i = false → s.lane i = Lane.reset s.part i

/-- Each lane carries its own identity. -/
def State.named (s : State) : Prop := ∀ i, (s.lane i).me = i

/-- What a lane must have for a command to take effect. -/
inductive Gate where
  /-- a change at the lane's supplies or reset, in its driver die, or at a pin whose level it keeps, which acts whatever the lane is in -/
  | always
  /-- a function that needs no clock of the PLL root, which a lane held in reset does not perform (spec/16_start_up.md R530) -/
  | wake
  /-- the fault collector, which runs from the LPO while the PLL root is lost (spec/09_fault_collection.md R321) -/
  | collector
  /-- a function that needs the lane's clocks (spec/13_power_clocks_wake.md R454, R460) -/
  | clocked
  /-- a function of a power domain, which must be ON (after R450 of 13_power_clocks_wake) -/
  | domain (d : Dom)
  /-- a function of an axis, in a power domain; the lane must have the axis (spec/00_scope.md R5) -/
  | axis (x : Ax) (d : Dom)
  /-- a function of a torque-table engine, which the part must have (spec/04_torque_table_sensorless.md R146) -/
  | table (x : Ax)
  /-- a core access to a register of an axis, which the lane must have (spec/00_scope.md R5) -/
  | present (x : Ax)
  /-- a core access to a register of a torque-table engine, which the part must have (spec/04_torque_table_sensorless.md R146) -/
  | engine (x : Ax)
deriving DecidableEq, Repr

/-- Whether a lane is out of reset with its clocks running. -/
def Lane.clocked (l : Lane) : Bool := !l.sy.held && !l.pw.stopped

/-- Whether a lane has what a gate asks for. -/
def Gate.holds (g : Gate) (l : Lane) : Bool :=
  match g with
  | .always => true
  | .wake => !l.sy.held
  | .collector => !l.sy.held && (l.pw.rootLost || (!l.pw.stopped && l.domOn .cp))
  | .clocked => l.clocked
  | .domain d => l.clocked && l.domOn d
  | .axis x d => l.clocked && l.domOn d && l.part.hasAxis x
  | .table x => l.clocked && l.domOn (.le x) && l.part.hasAxis x && l.part.hasTq
  | .present x => l.clocked && l.part.hasAxis x
  | .engine x => l.clocked && l.part.hasAxis x && l.part.hasTq

/-- A lane that the module has, with what a gate asks for. -/
abbrev State.ready (s : State) (i : LaneId) (g : Gate) : Prop := s.part.hasLane i = true ∧ g.holds (s.lane i) = true

/-- The module with one lane changed by an operation. -/
def State.inLane (s : State) (i : LaneId) (f : Lane → Lane) : State := s.setLane i (f (s.lane i))

/-- Whether what a command does to its lane depends on the other lanes too: the freshness of commands over every channel of the module
(spec/01_lanes_modes_faults.md Table 1.8), and the code that a neighbour passes on (spec/06_feedback.md R243). -/
def readsLanes (c : Instr) : Bool :=
  match c with
  | .outerCycleBoundary .. => true
  | .commandAgeLimit .. => true
  | .neighbourCode .. => true
  | _ => false

/-- Whether a command is one at which a lane enters BOOT from any mode: a power-up, a reset or its release (spec/16_start_up.md R530), an OTP
write that ends (spec/14_self_test_lifecycle.md R478), or a sweep asked for at the JTAG port of a BLANK lane (R486). -/
def bootsLane (c : Option Instr) : Bool :=
  match c with
  | some (.powerUp ..) => true
  | some (.vbatBrownOut ..) => true
  | some (.nrstAssert ..) => true
  | some (.supplyOutOfRange ..) => true
  | some (.resetRelease ..) => true
  | some (.otpWriteComplete ..) => true
  | some (.jtagSweep ..) => true
  | _ => false

/-- Whether a lane may go from one lane mode to another at a command, or at a tick of the root clock where none is given: the rows of Table 1.2
(spec/01_lanes_modes_faults.md R18). -/
def modeRow (c : Option Instr) (m m' : Nat) : Bool :=
  (m' = mBoot && (bootsLane c || m = mSafeHold || m = mService)) ||
  (match c with
  | some (.imageLock ..) => m = mBoot && m' = mArming
  | some (.faultMessageAccept ..) => m' = mSafeHold
  | some (.partitionDecision ..) => modeLive m && m' = mSafeHold
  | some (.outerCycleBoundary ..) =>
    (modeLive m && m' = mSafeHold) || (m = mArming && (m' = mOperate || m' = mDegraded)) || (m = mOperate && m' = mDegraded) ||
      (m = mDegraded && m' = mOperate) || ((modeLive m || m = mSafeHold) && m' = mService)
  | _ => false)

/-- What each command needs. -/
def gateOf (c : Instr) : Gate :=
  match c with
  | .powerUp _ => .always
  | .resetRelease _ _ => .always
  | .nrstAssert _ => .always
  | .supplyOutOfRange _ => .always
  | .vbatLow _ => .clocked
  | .vbatBrownOut _ => .always
  | .pllLock _ => .wake
  | .sweepEnd _ _ => .clocked
  | .imageLoadEnd _ _ => .clocked
  | .imageLock _ => .clocked
  | .gateDriverCheckEnd _ _ _ _ => .clocked
  | .outerCycleBoundary _ _ _ => .clocked
  | .armTimeout _ => .clocked
  | .degradedTimeExpiry _ => .clocked
  | .dieTemperatureHold _ => .clocked
  | .commandAgeLimit _ => .clocked
  | .autoRestart _ => .clocked
  | .partitionDecision _ => .clocked
  | .leInnerPeriod _ x _ _ => .axis x (.le x)
  | .leOpen _ x => .present x
  | .leClose _ x => .present x
  | .leIntclr _ x => .present x
  | .leCntclr _ x => .present x
  | .leOwWrite _ x _ _ _ => .present x
  | .leLvWrite _ x _ _ _ => .present x
  | .leOpenmaxExpiry _ x => .axis x (.le x)
  | .modReload _ x _ _ => .axis x (.pg x)
  | .modWriteStageWrite _ x _ _ => .present x
  | .modCommit _ x => .present x
  | .modDiscard _ x => .present x
  | .modPasson _ x => .present x
  | .modPassoff _ x => .present x
  | .modCntclr _ x => .present x
  | .delayLineCalibration _ x _ _ => .axis x (.pg x)
  | .tripOnset _ _ _ => .always
  | .tripInputInactive _ _ => .always
  | .auxWindowStart _ _ => .domain (.pg .x0)
  | .auxWindowEnd _ _ => .domain (.pg .x0)
  | .modTripclr _ _ => .clocked
  | .blankcntRead _ => .clocked
  | .tqDecision _ x _ _ _ _ => .table x
  | .alignTimerExpiry _ x => .table x
  | .holdTimerExpiry _ x => .table x
  | .lowSpeedTimerExpiry _ x => .table x
  | .catchPulse _ x _ => .table x
  | .catchTimeout _ x => .table x
  | .tqOwWrite _ x _ _ _ => .engine x
  | .tqCntclr _ x => .engine x
  | .gateEnableRequest _ x => .present x
  | .gateEnableDrop _ x => .present x
  | .gdSafeRequest _ x => .present x
  | .gdCntclr _ x => .present x
  | .interlockRefusal _ x _ => .axis x (.pg x)
  | .minimumGapDelay _ x => .axis x (.pg x)
  | .hardShort _ _ _ => .always
  | .cpuvChange _ _ _ => .always
  | .keepAliveLoss _ => .always
  | .keepAliveReceive _ => .always
  | .ov1Assert _ => .always
  | .ov1Release _ => .always
  | .ov2Assert _ => .always
  | .ov2Release _ => .always
  | .chopperPeriod _ => .always
  | .chopperOnEnd _ => .always
  | .chopperWatchExpiry _ _ => .always
  | .chopperOvercurrent _ => .always
  | .dlChclr _ => .clocked
  | .dlCntclr _ => .clocked
  | .commutatorHallChange _ x _ => .axis x (.pg x)
  | .monitorConversion _ _ _ => .domain .fb
  | .adCntclr _ x => .present x
  | .hallEdge _ _ _ _ => .always
  | .neighbourCode _ x _ _ _ => .axis x .fb
  | .sincosSample _ x _ _ => .axis x .fb
  | .positionCompareTick _ x => .axis x .fb
  | .compareWrite _ x _ _ _ => .present x
  | .fbPosadjWrite _ x _ => .present x
  | .fbFltclr _ x => .present x
  | .readmission _ x _ => .axis x .fb
  | .fbCntclr _ x => .present x
  | .supplyOvercurrent _ _ _ => .domain .fb
  | .supplyUndervoltage _ _ _ => .domain .fb
  | .sfSupplyClr _ _ => .clocked
  | .supplyPulseStart _ _ => .domain .fb
  | .pulseCheck _ _ _ _ => .domain .fb
  | .crossShortCheck _ _ => .domain .fb
  | .pulseMaskEnd _ _ => .domain .fb
  | .boundaryCommit _ _ => .clocked
  | .intermediateCommit _ _ _ _ _ => .clocked
  | .pairMismatch _ _ _ _ _ => .domain .cp
  | .pcSplit _ => .domain .cp
  | .pcRejoin _ => .domain .cp
  | .pcCntclr _ => .domain .cp
  | .linkLossOfLock _ _ => .domain .cp
  | .blockLock _ _ => .domain .cp
  | .linkUp _ _ _ => .domain .cp
  | .messageForward _ _ _ => .domain .cp
  | .syncReceive _ _ _ _ _ => .domain .cp
  | .heartbeatReceive _ _ => .domain .cp
  | .heartbeatDue _ => .domain .cp
  | .ftannReceive _ _ => .domain .cp
  | .claimReceive _ _ => .domain .cp
  | .abdicateReceive _ _ => .domain .cp
  | .handoverReceive _ _ => .domain .cp
  | .commandReceive _ _ => .domain .cp
  | .cfghashReceive _ _ => .domain .cp
  | .statecopyReceive _ _ => .domain .cp
  | .electionWindowEnd _ => .domain .cp
  | .voteTimeout _ => .domain .cp
  | .glAbdicate _ => .domain .cp
  | .glHandgo _ _ => .domain .cp
  | .handoverTimeout _ => .domain .cp
  | .glElig _ => .domain .cp
  | .glInelig _ => .domain .cp
  | .glCntclr _ => .domain .cp
  | .faultMessageAccept _ => .collector
  | .fcRearm _ => .domain .cp
  | .fcCntclr _ => .domain .cp
  | .fcDumpdone _ => .domain .cp
  | .fcNbfree _ _ => .domain .cp
  | .faultInjection _ _ => .domain .cp
  | .lanternToggle _ => .clocked
  | .lanternTend _ _ => .domain .cp
  | .tendTimeout _ => .domain .cp
  | .neighbourLanternEdge _ _ => .domain .cp
  | .neighbourWatchTimeout _ _ => .domain .cp
  | .dumpContextStart _ => .domain .cp
  | .dumpContextTimeout _ => .domain .cp
  | .dumpEngineStart _ => .domain .cp
  | .dumpAnswerTimeout _ => .domain .cp
  | .dumpDataSend _ => .domain .cp
  | .dumpOfferReceive _ _ => .domain .cp
  | .dumpAcceptReceive _ _ => .domain .cp
  | .dumpRefuseReceive _ _ => .domain .cp
  | .dumpDataReceive _ _ => .domain .cp
  | .dumpEndReceive _ _ => .domain .cp
  | .dumpStoreComplete _ _ => .domain .cp
  | .dumpReceiveTimeout _ _ => .domain .cp
  | .dumpDoneReceive _ _ => .domain .cp
  | .scPost _ _ => .domain .cp
  | .scEnter _ => .domain .cp
  | .scNext _ => .domain .cp
  | .scCntclr _ => .domain .cp
  | .flowEnableWrite _ _ _ => .domain .cp
  | .timerArm _ _ _ => .domain .cp
  | .timerInsertion _ _ => .domain .cp
  | .timerExpiry _ => .domain .cp
  | .headroomUpdate _ => .domain .cp
  | .deferralAge _ _ => .domain .cp
  | .hqPutWrite _ _ _ _ => .domain .cp
  | .hqPush _ _ _ => .domain .cp
  | .hqTake _ _ => .domain .cp
  | .hqMark _ _ => .domain .cp
  | .hqRewind _ _ => .domain .cp
  | .hqCntclr _ => .domain .cp
  | .hostNop _ _ _ => .clocked
  | .hostPut _ _ _ _ => .clocked
  | .hostStatus _ _ _ => .clocked
  | .hostBadCommand _ _ _ _ => .clocked
  | .enterService _ _ _ => .clocked
  | .restart _ _ _ => .clocked
  | .handover _ _ _ => .clocked
  | .ceiling _ _ _ => .clocked
  | .integratorCode _ _ _ _ => .clocked
  | .hpIrqset _ => .clocked
  | .hpIrqclr _ => .clocked
  | .hpCntclr _ => .clocked
  | .cycleStart _ => .domain .nw
  | .syncLossExpiry _ => .domain .nw
  | .masterTakeExpiry _ => .domain .nw
  | .portMute _ _ => .domain .nw
  | .portUnmute _ _ => .domain .nw
  | .partnerAbsence _ _ => .domain .nw
  | .fetchPoint _ _ => .domain .nw
  | .frameSend _ _ => .domain .nw
  | .ttTxrdy _ _ _ => .clocked
  | .crelasFrameReceive _ _ _ _ => .domain .nw
  | .ttUnmute _ _ => .clocked
  | .ttCntclr _ => .clocked
  | .portLinkChange _ _ _ => .domain .nw
  | .canFrameReceive _ _ => .domain .nw
  | .canFrameSent _ _ => .domain .nw
  | .canProtocolError _ _ _ _ => .domain .nw
  | .busOffRecovery _ => .domain .nw
  | .cnTxreq _ _ => .clocked
  | .cnRecover _ => .clocked
  | .cnCntclr _ => .clocked
  | .pdReqWrite _ _ => .clocked
  | .domainTransition _ _ => .clocked
  | .sleep _ => .domain .cp
  | .lpoCalibrationEnd _ _ => .clocked
  | .ckCalgo _ => .clocked
  | .ckDivgo _ _ => .clocked
  | .rootLoss _ _ => .clocked
  | .frequencyCheck _ _ => .clocked
  | .whistleFrame _ _ => .always
  | .slowAlarm _ => .always
  | .safetyInputWake _ _ _ => .always
  | .wkCntclr _ => .clocked
  | .voltageRequest _ _ => .clocked
  | .voltageAcknowledge _ => .clocked
  | .voltageAckTimeout _ => .clocked
  | .transactionFail _ => .clocked
  | .transactionRetry _ => .clocked
  | .operationWrite _ _ => .clocked
  | .clearFaults _ => .clocked
  | .statusWordRead _ => .clocked
  | .operationRead _ => .clocked
  | .pmPoll _ => .clocked
  | .pmAlert _ _ => .always
  | .stSlice _ _ _ => .domain .cp
  | .sliceEnd _ _ _ => .domain .cp
  | .sliceBudgetExpiry _ => .domain .cp
  | .sliceAccessAbort _ => .domain .cp
  | .stSweep _ => .domain .cp
  | .stProggo _ => .domain .cp
  | .stAbort _ => .domain .cp
  | .stCntclr _ => .domain .cp
  | .memtokReceive _ _ => .domain .cp
  | .memtokRegen _ => .domain .cp
  | .lcadv _ => .clocked
  | .lcterm _ => .clocked
  | .keyprog _ _ _ _ _ => .clocked
  | .keyrev _ _ => .clocked
  | .ftmode _ => .clocked
  | .jtagSweep _ => .clocked
  | .lcGo _ _ => .domain .cp
  | .lcFtmon _ => .domain .cp
  | .otpWriteComplete _ _ => .clocked
  | .safetyInputChange _ _ _ _ => .always
  | .safetyDiscrepancy _ _ => .domain .fb
  | .sfDiscclr _ _ => .clocked
  | .sfInjgo _ _ => .clocked
  | .injectionPhaseEnd _ _ => .domain .fb
  | .registerWrite _ _ _ _ _ => .domain .cp
  | .pmbusTransactionEnd _ _ => .clocked
  | .gdSliceInjection _ => .domain .cp
  | .eccError _ _ _ _ => .domain .cp
  | .mramControllerFailure _ _ => .domain .cp
  | .busParityError _ _ => .domain .cp
  | .deviceAccessTimeout _ _ => .domain .cp
  | .coreDebug _ _ => .domain .cp

/-- The register that a command accesses, and the power domain it stands in, where the command is a core access of its own (after R450 of
13_power_clocks_wake). -/
def accessOf (c : Instr) : Option (Dom × RegAcc) :=
  match c with
  | .powerUp .. => none
  | .resetRelease .. => none
  | .nrstAssert .. => none
  | .supplyOutOfRange .. => none
  | .vbatLow .. => none
  | .vbatBrownOut .. => none
  | .pllLock .. => none
  | .sweepEnd .. => none
  | .imageLoadEnd .. => none
  | .imageLock .. => none
  | .gateDriverCheckEnd .. => none
  | .outerCycleBoundary .. => none
  | .armTimeout .. => none
  | .degradedTimeExpiry .. => none
  | .dieTemperatureHold .. => none
  | .commandAgeLimit .. => none
  | .autoRestart .. => none
  | .partitionDecision .. => none
  | .leInnerPeriod .. => none
  | .leOpen _ x => some (.le x, bitAcc (LE_CTL_OPEN x).addr 1)
  | .leClose _ x => some (.le x, bitAcc (LE_CTL_OPEN x).addr 2)
  | .leIntclr _ x => some (.le x, bitAcc (LE_CTL_OPEN x).addr 4)
  | .leCntclr _ x => some (.le x, bitAcc (LE_CTL_OPEN x).addr 8)
  | .leOwWrite _ x a n v => some (.le x, wrAcc a n v)
  | .leLvWrite _ x r n v => some (.le x, wrAcc (lvAddr r x) n v)
  | .leOpenmaxExpiry .. => none
  | .modReload .. => none
  | .modWriteStageWrite _ x r v => some (.pg x, wrAcc (stageAddr r x) 4 (v.setWidth 64))
  | .modCommit _ x => some (.pg x, bitAcc (MOD_CTL_COMMIT x).addr 1)
  | .modDiscard _ x => some (.pg x, bitAcc (MOD_CTL_COMMIT x).addr 2)
  | .modPasson _ x => some (.pg x, bitAcc (MOD_CTL_COMMIT x).addr 4)
  | .modPassoff _ x => some (.pg x, bitAcc (MOD_CTL_COMMIT x).addr 8)
  | .modCntclr _ x => some (.pg x, bitAcc (MOD_CTL_COMMIT x).addr 16)
  | .delayLineCalibration .. => none
  | .tripOnset .. => none
  | .tripInputInactive .. => none
  | .auxWindowStart .. => none
  | .auxWindowEnd .. => none
  | .modTripclr _ m => some (.pg .x0, bitAcc MOD_TRIPCLR_REL.addr m.toNat)
  | .blankcntRead _ => some (.pg .x0, ⟨MOD_BLANKCNT_CNT0.addr, 4, none⟩)
  | .tqDecision .. => none
  | .alignTimerExpiry .. => none
  | .holdTimerExpiry .. => none
  | .lowSpeedTimerExpiry .. => none
  | .catchPulse .. => none
  | .catchTimeout .. => none
  | .tqOwWrite _ x a n v => some (.le x, wrAcc a n v)
  | .tqCntclr _ x => some (.le x, bitAcc (TQ_CTL_CNTCLR x).addr 1)
  | .gateEnableRequest _ x => some (.pg x, bitAcc (GD_CTL_EN x).addr 1)
  | .gateEnableDrop _ x => some (.pg x, bitAcc (GD_CTL_EN x).addr 2)
  | .gdSafeRequest _ x => some (.pg x, bitAcc (GD_CTL_EN x).addr 4)
  | .gdCntclr _ x => some (.pg x, bitAcc (GD_CTL_EN x).addr 8)
  | .interlockRefusal .. => none
  | .minimumGapDelay .. => none
  | .hardShort .. => none
  | .cpuvChange .. => none
  | .keepAliveLoss .. => none
  | .keepAliveReceive .. => none
  | .ov1Assert .. => none
  | .ov1Release .. => none
  | .ov2Assert .. => none
  | .ov2Release .. => none
  | .chopperPeriod .. => none
  | .chopperOnEnd .. => none
  | .chopperWatchExpiry .. => none
  | .chopperOvercurrent .. => none
  | .dlChclr .. => none
  | .dlCntclr .. => none
  | .commutatorHallChange .. => none
  | .monitorConversion .. => none
  | .adCntclr _ x => some (.fb, bitAcc (AD_CTL_CNTCLR x).addr 1)
  | .hallEdge .. => none
  | .neighbourCode .. => none
  | .sincosSample .. => none
  | .positionCompareTick .. => none
  | .compareWrite _ x n r v => some (.fb, cmpAcc x n r v)
  | .fbPosadjWrite _ x v => some (.fb, wrAcc (FB_POSADJ x).addr 8 v)
  | .fbFltclr _ x => some (.fb, bitAcc (FB_CTL_CNTCLR x).addr 2)
  | .readmission .. => none
  | .fbCntclr _ x => some (.fb, bitAcc (FB_CTL_CNTCLR x).addr 1)
  | .supplyOvercurrent .. => none
  | .supplyUndervoltage .. => none
  | .sfSupplyClr _ k => some (.fb, bitAcc SF_CTL_CLR.addr (2 ^ k.val))
  | .supplyPulseStart .. => none
  | .pulseCheck .. => none
  | .crossShortCheck .. => none
  | .pulseMaskEnd .. => none
  | .boundaryCommit .. => none
  | .intermediateCommit .. => none
  | .pairMismatch .. => none
  | .pcSplit .. => none
  | .pcRejoin .. => none
  | .pcCntclr .. => none
  | .linkLossOfLock .. => none
  | .blockLock .. => none
  | .linkUp .. => none
  | .messageForward .. => none
  | .syncReceive .. => none
  | .heartbeatReceive .. => none
  | .heartbeatDue .. => none
  | .ftannReceive .. => none
  | .claimReceive .. => none
  | .abdicateReceive .. => none
  | .handoverReceive .. => none
  | .commandReceive .. => none
  | .cfghashReceive .. => none
  | .statecopyReceive .. => none
  | .electionWindowEnd .. => none
  | .voteTimeout .. => none
  | .glAbdicate .. => none
  | .glHandgo .. => none
  | .handoverTimeout .. => none
  | .glElig .. => none
  | .glInelig .. => none
  | .glCntclr .. => none
  | .faultMessageAccept .. => none
  | .fcRearm .. => none
  | .fcCntclr .. => none
  | .fcDumpdone .. => none
  | .fcNbfree .. => none
  | .faultInjection .. => none
  | .lanternToggle .. => none
  | .lanternTend .. => none
  | .tendTimeout .. => none
  | .neighbourLanternEdge .. => none
  | .neighbourWatchTimeout .. => none
  | .dumpContextStart .. => none
  | .dumpContextTimeout .. => none
  | .dumpEngineStart .. => none
  | .dumpAnswerTimeout .. => none
  | .dumpDataSend .. => none
  | .dumpOfferReceive .. => none
  | .dumpAcceptReceive .. => none
  | .dumpRefuseReceive .. => none
  | .dumpDataReceive .. => none
  | .dumpEndReceive .. => none
  | .dumpStoreComplete .. => none
  | .dumpReceiveTimeout .. => none
  | .dumpDoneReceive .. => none
  | .scPost .. => none
  | .scEnter .. => none
  | .scNext .. => none
  | .scCntclr .. => none
  | .flowEnableWrite .. => none
  | .timerArm .. => none
  | .timerInsertion .. => none
  | .timerExpiry .. => none
  | .headroomUpdate .. => none
  | .deferralAge .. => none
  | .hqPutWrite .. => none
  | .hqPush .. => none
  | .hqTake .. => none
  | .hqMark .. => none
  | .hqRewind .. => none
  | .hqCntclr .. => none
  | .hostNop .. => none
  | .hostPut .. => none
  | .hostStatus .. => none
  | .hostBadCommand .. => none
  | .enterService .. => none
  | .restart .. => none
  | .handover .. => none
  | .ceiling .. => none
  | .integratorCode .. => none
  | .hpIrqset .. => none
  | .hpIrqclr .. => none
  | .hpCntclr .. => none
  | .cycleStart .. => none
  | .syncLossExpiry .. => none
  | .masterTakeExpiry .. => none
  | .portMute .. => none
  | .portUnmute .. => none
  | .partnerAbsence .. => none
  | .fetchPoint .. => none
  | .frameSend .. => none
  | .ttTxrdy _ k len => some (.nw, bitAcc TT_TXRDY_SLOT.addr (k.val + 65536 * len.val))
  | .crelasFrameReceive .. => none
  | .ttUnmute _ m => some (.nw, bitAcc TT_CTL_CNTCLR.addr (16 * m.toNat))
  | .ttCntclr _ => some (.nw, bitAcc TT_CTL_CNTCLR.addr 1)
  | .portLinkChange .. => none
  | .canFrameReceive .. => none
  | .canFrameSent .. => none
  | .canProtocolError .. => none
  | .busOffRecovery .. => none
  | .cnTxreq _ m => some (.nw, bitAcc CN_TXREQ_REQ.addr m.toNat)
  | .cnRecover _ => some (.nw, bitAcc CN_CTL_CNTCLR.addr 2)
  | .cnCntclr _ => some (.nw, bitAcc CN_CTL_CNTCLR.addr 1)
  | .pdReqWrite .. => none
  | .domainTransition .. => none
  | .sleep .. => none
  | .lpoCalibrationEnd .. => none
  | .ckCalgo .. => none
  | .ckDivgo .. => none
  | .rootLoss .. => none
  | .frequencyCheck .. => none
  | .whistleFrame .. => none
  | .slowAlarm .. => none
  | .safetyInputWake .. => none
  | .wkCntclr .. => none
  | .voltageRequest .. => none
  | .voltageAcknowledge .. => none
  | .voltageAckTimeout .. => none
  | .transactionFail .. => none
  | .transactionRetry .. => none
  | .operationWrite .. => none
  | .clearFaults .. => none
  | .statusWordRead .. => none
  | .operationRead .. => none
  | .pmPoll .. => none
  | .pmAlert .. => none
  | .stSlice .. => none
  | .sliceEnd .. => none
  | .sliceBudgetExpiry .. => none
  | .sliceAccessAbort .. => none
  | .stSweep .. => none
  | .stProggo .. => none
  | .stAbort .. => none
  | .stCntclr .. => none
  | .memtokReceive .. => none
  | .memtokRegen .. => none
  | .lcadv .. => none
  | .lcterm .. => none
  | .keyprog .. => none
  | .keyrev .. => none
  | .ftmode .. => none
  | .jtagSweep .. => none
  | .lcGo .. => none
  | .lcFtmon .. => none
  | .otpWriteComplete .. => none
  | .safetyInputChange .. => none
  | .safetyDiscrepancy .. => none
  | .sfDiscclr _ m => some (.fb, bitAcc SF_SAFCTL_DISCCLR.addr m.toNat)
  | .sfInjgo _ m => some (.fb, bitAcc SF_SAFCTL_DISCCLR.addr (256 * m.toNat))
  | .injectionPhaseEnd .. => none
  | .registerWrite .. => none
  | .pmbusTransactionEnd .. => none
  | .gdSliceInjection .. => none
  | .eccError .. => none
  | .mramControllerFailure .. => none
  | .busParityError .. => none
  | .deviceAccessTimeout .. => none
  | .coreDebug .. => none

end Sys2Proof.Machine
end

