-- ==== Sys2Proof/Certificates/Slice0/Obligations.lean ====
section
/-!
DEFINITION. The statements of this model, for the provers.
-/

open Sys2Proof Sys2Proof.Machine

/-- For every command c and every state whose queue begins with c, step is exec of c on the state with the rest of the queue (the queue is the
model's own: a block takes its commands from outside). On an empty queue, step answers the state after one period of the PLL root (the
model's choice, log entry 3): the queue stays empty, every lane that the module has is one period older, and an absent lane is unchanged. A
lane held in reset changes in nothing else. -/
def Obligations.FrontCommandRuns : Prop :=
  (∀ (s : State) (c : Instr) (r : List Instr), s.pending = c :: r → step s = exec c { s with pending := r }) ∧
    ∀ s : State, s.pending = [] →
      ∃ t, step s = .next t ∧ t.pending = [] ∧ t.part = s.part ∧
        (∀ i, s.part.hasLane i = true → t.lane i = Lane.tick (s.lane i)) ∧
        (∀ i, s.part.hasLane i = false → t.lane i = s.lane i) ∧
        (∀ i, s.part.hasLane i = true → (s.lane i).sy.held = true → t.lane i = { s.lane i with now := (s.lane i).now + 1 })

/-- For every command and every state, exec answers a next state (no fault, no refusal) in which the queue, the part and every lane but the one
the command names are as before. -/
def Obligations.EveryCommandAnswers : Prop :=
  ∀ (c : Instr) (s : State),
    ∃ t, exec c s = .next t ∧ t.part = s.part ∧ t.pending = s.pending ∧ ∀ j, j ≠ c.lane → t.lane j = s.lane j

/-- For every command and state: a lane that the module does not have (R5) takes no command; a lane held in reset takes only the commands of its
supplies, of its driver die, of its always-on domain and of the pins whose levels it keeps; a lane whose clocks are stopped takes only
those, the PLL lock and the fault collector; a command of a function in a power domain that is not ON, of an axis that the part does not
have, or of a torque-table engine on an APX-9613 has no effect. In each case exec answers the state unchanged: that such a command changes
nothing is the model's choice (log entry 11), after the sentence below R450 that a domain that is not ON performs none of its functions. The
commands that are themselves core accesses to a register (LE_OW_WRITE, TQ_OW_WRITE, COMPARE_WRITE, the stage writes, the writes of control
bits, the read of MOD_BLANKCNT; accessOf names the register and its domain) follow R450 instead: where the domain is not ON, the access
waits while the domain is on its way to ON, and otherwise completes at once with OFFACC, kind 2 with the address, and event 161, a read with
0. -/
def Obligations.NotReadyChangesNothing : Prop :=
  ∀ (c : Instr) (s : State),
    (s.part.hasLane c.lane = false → exec c s = .next s) ∧
    (gateOf c ≠ .always → (s.lane c.lane).sy.held = true → exec c s = .next s) ∧
    (gateOf c ≠ .always → gateOf c ≠ .wake → gateOf c ≠ .collector → (s.lane c.lane).pw.stopped = true → exec c s = .next s) ∧
    (∀ d, gateOf c = .domain d → (s.lane c.lane).domOn d = false → exec c s = .next s) ∧
    (∀ x d, gateOf c = .axis x d →
      (s.lane c.lane).domOn d = false ∨ (s.lane c.lane).part.hasAxis x = false → exec c s = .next s) ∧
    (∀ x, gateOf c = .table x →
      (s.lane c.lane).domOn (.le x) = false ∨ (s.lane c.lane).part.hasTq = false → exec c s = .next s) ∧
    (∀ x, gateOf c = .present x → (s.lane c.lane).part.hasAxis x = false → exec c s = .next s) ∧
    (∀ x, gateOf c = .engine x → (s.lane c.lane).part.hasAxis x = false ∨ (s.lane c.lane).part.hasTq = false → exec c s = .next s) ∧
    (∀ d r, accessOf c = some (d, r) → s.ready c.lane (gateOf c) → (s.lane c.lane).domOn d = false →
      let l := s.lane c.lane
      let off := ((l.set PD_STAT_OFFACC).raiseOnce srcPD 2 clsCE none r.addr).event 161
      (l.coming d = true → exec c s = .next (s.setLane c.lane { l with pw := { l.pw with waits := l.pw.waits ++ [r] } })) ∧
      (l.coming d = false → r.val.isSome = true → exec c s = .next (s.setLane c.lane off)) ∧
      (l.coming d = false → r.val = none → exec c s = .next (s.setLane c.lane { off with rdata := 0#64, busErr := false })))

/-- From every state, and not only from states a run reaches, in which each lane carries its own identity and has its register file and its
memory in canonical form (addresses strictly rising, nothing listed that an unlisted address reads as), step answers a next state in which
the same holds: for every command at the front of the queue, and for the tick of an empty one. Where moreover the lanes that the module does
not have are as they were at power-up, they still are, and the part is the same (R5: lane C of the APX-9602 is absent): a lane that is
absent never takes part, whatever commands name it and however long the block idles. The canonical forms are the model's own representation. -/
def Obligations.AbsentLaneStaysAsleep : Prop :=
  (∀ s t : State, s.named → (∀ i, (s.lane i).canonical = true) → step s = .next t →
    t.named ∧ ∀ i, (t.lane i).canonical = true) ∧
  (∀ s t : State, s.absentAsleep → step s = .next t → t.absentAsleep ∧ t.part = s.part)

/-- For every number k, every lane i and every state whose first k commands all name lanes other than i: k steps answer a next state, which has
the same part, the rest of the queue, and lane i unchanged. For every second state with the same part and queue that agrees on every lane
but i: if none of the k commands is one that reads other lanes (the outer-cycle boundary and the command-age limit, which ask whether some
channel of the module is fresh, and NEIGHBOUR_CODE, which takes what a neighbour passes on), its k steps too answer a next state, and the
two results agree on every lane but i. So, but for those reads, what passes between lanes passes as commands. -/
def Obligations.RunLeavesOtherLanes : Prop :=
  ∀ (k : Nat) (i : LaneId) (s : State), k ≤ s.pending.length → (∀ c, c ∈ s.pending.take k → c.lane ≠ i) →
    ∃ t, Host.Core.run core k s = .next t ∧ t.lane i = s.lane i ∧ t.pending = s.pending.drop k ∧ t.part = s.part ∧
      ∀ s' : State, s'.pending = s.pending → s'.part = s.part → (∀ j, j ≠ i → s'.lane j = s.lane j) →
        (∀ c, c ∈ s.pending.take k → readsLanes c = false) →
        ∃ t', Host.Core.run core k s' = .next t' ∧ t'.lane i = s'.lane i ∧ (∀ j, j ≠ i → t'.lane j = t.lane j) ∧
          t'.pending = t.pending ∧ t'.part = s.part

/-- State.reset has an empty queue; every lane carries its own identity, is held in reset, has no time behind it, and has its register file and
memory in canonical form with nothing listed; lanes that the module would not have are as at power-up. The part is the APX-9603 (the model's
choice, log entry 1). -/
def Obligations.ResetIsSound : Prop :=
  State.reset.pending = [] ∧ State.reset.part = .apx9603 ∧ State.reset.absentAsleep ∧ State.reset.named ∧
    ∀ i, (State.reset.lane i).canonical = true ∧ (State.reset.lane i).sy.held = true ∧ (State.reset.lane i).regs = [] ∧
      (State.reset.lane i).mem = [] ∧ (State.reset.lane i).now = 0 ∧ (State.reset.lane i).out = []

/-- The canonical forms (the model's own representation) leave no room: two register files in canonical form that give the same value at every
address are equal lists, and two memories in canonical form that hold the same bytes, with the same bytes unknown, are equal lists. A write
of the value that an unlisted address reads as therefore restores the data it started from. -/
def Obligations.EqualReadsAreEqualFiles : Prop :=
  (∀ r r' : List (Nat × Word), regsWf r = true → regsWf r' = true → (∀ a, regGet r a = regGet r' a) → r = r') ∧
    (∀ m m' : List Host.Cell, Memory.wf m = true → Memory.wf m' = true →
      (∀ a, (memFind m a).or (memDefault a) = (memFind m' a).or (memDefault a)) → m = m')

/-- Hypotheses: the lane is there, out of reset with its clocks, the LE domain of the axis is ON, the part has the axis, the carrier runs and
the drive mode is MODULATED. LE_INNER_PERIOD chooses the source, takes the sample at the sample instant and evaluates the feedback. In FAULT
nothing more happens: no snapshot, no state write, no rollback. Otherwise the input latch rolls back a mismatch of what was written since
the last latch and takes its snapshot, a waiting request takes effect, and the output part and the reference part run: on agreement the
duties go to the modulator as one transfer and both parts are recorded; an output mismatch writes nothing to the modulator and rolls back
with HOLD set; a mismatch of a state write or of a message leaves the written duties and rolls back without HOLD. The ramp of a sensorless
start advances in each of the cases. That a mismatch outside a period is judged at the next latch, that a message mismatch is one of a state
write, and that a request of a rolled-back period is undone with it, is the model's choice (log entry 63) (R56, R59, R77, R91, R92, R93,
R170, R590). -/
def Obligations.LoopEnginePeriodCompletes : Prop :=
  ∀ (s : State) (i : LaneId) (x : Ax) (c : AdcCodes) (cmp : Compare), s.ready i (.axis x (.le x)) →
    ((s.lane i).ax x).md.running = true → (s.lane i).on (LE_STAT_DRIVE x) = false →
    let t := ((s.lane i).ax x).ad.sampAt
    let a := ((s.lane i).srcSelect x t).adSample x c
    let p := a.fbEval x t
    let a := a.noteSensor x p
    let l := a.leLatch x cmp
    let v : AdVals := ⟨.of (l.ax x).ad.ia, .of (l.ax x).ad.ib, .of (l.ax x).ad.ic, l.q (AD_VDC x)⟩
    let b := (l.leRequest x).1.slBegin x v.vdc (l.leRequest x).2
    let out := b.leOutStep x v p (l.leRequest x).2
    (a.rd (LE_STAT_STATE x) = leFault → exec (.leInnerPeriod i x c cmp) s = .next (s.setLane i a)) ∧
    (a.rd (LE_STAT_STATE x) ≠ leFault → l.rd (LE_STAT_STATE x) = leFault → exec (.leInnerPeriod i x c cmp) s = .next (s.setLane i l)) ∧
    (l.rd (LE_STAT_STATE x) ≠ leFault →
      (cmp = .agree ∨ cmp = .between → exec (.leInnerPeriod i x c cmp) s = .next (s.setLane i
        (((out.1.modDuties x out.2.da out.2.db out.2.dc).leRefStep x (b.lePosn x p)).rampStep x (l.tIn x)))) ∧
      (cmp = .output → exec (.leInnerPeriod i x c cmp) s = .next (s.setLane i ((l.leRollback x true).rampStep x (l.tIn x)))) ∧
      (cmp = .stateWrite ∨ cmp = .message → exec (.leInnerPeriod i x c cmp) s = .next (s.setLane i
        (((l.modDuties x out.2.da out.2.db out.2.dc).leRollback x false).rampStep x (l.tIn x)))))

/-- On a ready loop engine. OPEN in CLOSED makes an OPEN request wait for the next input latch, and in any other state has no effect. CLOSE has
no effect outside OPEN; in OPEN with FORCED it is counted in CLOSEREJ; in OPEN without FORCED its arrival stops the open timer, sets LATE
where it arrives in the expiry cycle, and makes a CLOSE request wait. INTCLR in OPEN clears the four integrators; outside OPEN it is counted
in OWREJ, and it raises LE_WRREJ and drives event 4 as a refused OW write does. CNTCLR clears the counters of LE_REJ and LE_CLAMPCNT and the
total of LE_RBCNT. In OPEN, an OW write of a feed-forward table stores its bytes, and one of an OW register in range and in full width
stores the value. A write in part of a 64-bit OW or RL register (at either half), or out of its range, only counts in HALFWR or RANGE and
drives event 4; an RL register in range is ignored. An LV write of 64 bits stores its value whatever the loop state, one in part counts in
HALFWR, and one while the pair is SPLIT is ignored with FWDREJ and kind PC_FWDREJ. At LE_OPENMAX_x the loop goes to FAULT, raises LE_OPENMAX
and asks for axis safe state; before it, nothing happens. That RANGE and HALFWR writes drive event 4 with no LE_WRREJ and a forced CLOSE
drives no event, and that a refused INTCLR raises LE_WRREJ and drives event 4, is the model's choice (log entry 63), and so is when OPEN and
CLOSE are judged (log entry 25). Nothing else of the module changes (R77, R79 to R85, R281). -/
def Obligations.LoopEngineCommandsComplete : Prop :=
  ∀ (s : State) (i : LaneId) (x : Ax), s.ready i (.axis x (.le x)) →
    let l := s.lane i
    let le := (l.ax x).le
    let st := l.rd (LE_STAT_STATE x)
    let late := le.openAt.any (fun t => l.inExpiry (t + l.rd (LE_OPENMAX_MAX_US x) * usec) cycLe)
    let stopped := (l.openStop x).when late (fun l => l.set (LE_STAT_LATE x))
    (st = leClosed → exec (.leOpen i x) s = .next (s.setLane i (l.setLe x { le with req := some false }))) ∧
    (st ≠ leClosed → exec (.leOpen i x) s = .next s) ∧
    (st ≠ leOpen → exec (.leClose i x) s = .next s) ∧
    (st = leOpen → l.on (LE_STAT_FORCED x) = true → exec (.leClose i x) s = .next (s.setLane i (l.bump (LE_REJ_CLOSEREJ x)))) ∧
    (st = leOpen → l.on (LE_STAT_FORCED x) = false →
      exec (.leClose i x) s = .next (s.setLane i (stopped.setLe x { (stopped.ax x).le with req := some true }))) ∧
    (st = leOpen → exec (.leIntclr i x) s = .next (s.setLane i (l.setLe x { le with intd := 0, intq := 0, ints := 0, intp := 0 }))) ∧
    (st ≠ leOpen → exec (.leIntclr i x) s = .next (s.setLane i
      (((l.bump (LE_REJ_OWREJ x)).raiseOnce srcLE 5 clsCE (some x) ((l.bump (LE_REJ_OWREJ x)).dataOf (LE_REJ_OWREJ x).addr)).eventAx x 4))) ∧
    exec (.leCntclr i x) s = .next (s.setLane i
      (((l.setReg (LE_REJ_OWREJ x).addr 0#64).wr (LE_RBCNT_TOTAL x) 0).setReg (LE_CLAMPCNT_IREF x).addr 0#64)) ∧
    (∀ a n v, inFfTable x a = true → st = leOpen →
      exec (.leOwWrite i x a n v) s = .next (s.setLane i (l.setBytes a (leBytes n v.toNat)))) ∧
    (∀ a n v b d o, inFfTable x a = false → blockOf a = some (.le, x, o) → regUnder a n = some (b, d) → d.bits (fun k => k = .ow) ≠ 0 →
      (d.wide = 64 → n = 8) → st = leOpen →
      (d.fits (fun k => k = .ow) v.toNat = true →
        exec (.leOwWrite i x a n v) s = .next (s.setLane i (l.setReg a (d.afterWrite (l.reg a) v.toNat)))) ∧
      (d.fits (fun k => k = .ow) v.toNat = false →
        exec (.leOwWrite i x a n v) s = .next (s.setLane i ((l.bump (LE_REJ_RANGE x)).eventAx x 4)))) ∧
    (∀ a n v b d o, inFfTable x a = false → blockOf a = some (.le, x, o) → regUnder a n = some (b, d) →
      d.bits (fun k => k = .ow) ≠ 0 ∨ d.bits (fun k => k = .rl) ≠ 0 → d.wide = 64 → n ≠ 8 →
      exec (.leOwWrite i x a n v) s = .next (s.setLane i ((l.bump (LE_REJ_HALFWR x)).eventAx x 4))) ∧
    (∀ a n v b d o, inFfTable x a = false → blockOf a = some (.le, x, o) → regUnder a n = some (b, d) →
      d.bits (fun k => k = .rl) ≠ 0 → d.bits (fun k => k = .ow) = 0 → (d.wide = 64 → n = 8) →
      (d.fits (fun k => k = .rl) v.toNat = true → exec (.leOwWrite i x a n v) s = .next s) ∧
      (d.fits (fun k => k = .rl) v.toNat = false →
        exec (.leOwWrite i x a n v) s = .next (s.setLane i ((l.bump (LE_REJ_RANGE x)).eventAx x 4)))) ∧
    (∀ r v, l.on PC_STAT_PAIR = false →
      exec (.leLvWrite i x r 8 v) s = .next (s.setLane i (l.setReg (lvAddr r x) v)) ∧
      ∀ n, n ≠ 8 → exec (.leLvWrite i x r n v) s = .next (s.setLane i ((l.bump (LE_REJ_HALFWR x)).eventAx x 4))) ∧
    (∀ r n v, l.on PC_STAT_PAIR = true →
      exec (.leLvWrite i x r n v) s = .next (s.setLane i ((l.set PC_STAT_FWDREJ).raiseOnce srcPC 7 clsCE none (lvAddr r x)))) ∧
    (∀ t, le.openAt = some t → t + l.rd (LE_OPENMAX_MAX_US x) * usec ≤ l.now →
      exec (.leOpenmaxExpiry i x) s = .next (s.setLane i
        (((((l.openStop x).wr (LE_STAT_STATE x) leFault).raise srcLE 3 clsUC (some x)
          ((l.openStop x).dataOf (LE_OPENTIME_USED_US x).addr)).eventAx x 1).axisSafe x 6 false))) ∧
    ((∀ t, le.openAt = some t → l.now < t + l.rd (LE_OPENMAX_MAX_US x) * usec) → exec (.leOpenmaxExpiry i x) s = .next s)

/-- On a ready loop engine whose loop is not OPEN, a write of a feed-forward table or of an OW register in its full width changes nothing but
this: LE_REJ_x.OWREJ counts up (and stays at its highest value), LE_WRREJ is raised at most once per outer cycle with LE_REJ_x as its data,
and the write-refused event is driven. In particular the register written keeps its value. -/
def Obligations.RefusedOwWriteIsCountedAndReported : Prop :=
  ∀ (s : State) (i : LaneId) (x : Ax), s.ready i (.axis x (.le x)) →
    let l := s.lane i
    let refused := ((l.bump (LE_REJ_OWREJ x)).raiseOnce srcLE 5 clsCE (some x)
      ((l.bump (LE_REJ_OWREJ x)).dataOf (LE_REJ_OWREJ x).addr)).eventAx x 4
    l.rd (LE_STAT_STATE x) ≠ leOpen →
    (∀ a n v, inFfTable x a = true → exec (.leOwWrite i x a n v) s = .next (s.setLane i refused)) ∧
    (∀ a n v b d o, inFfTable x a = false → blockOf a = some (.le, x, o) → regUnder a n = some (b, d) → d.bits (fun k => k = .ow) ≠ 0 →
      (d.wide = 64 → n = 8) →
      exec (.leOwWrite i x a n v) s = .next (s.setLane i refused) ∧
      (a ≠ (LE_REJ_OWREJ x).addr → a ≠ FC_DROP_CE.addr → a ≠ (SY_EVSTAT_EV ((32 + 32 * x.idx + 4) / 32)).addr → refused.reg a = l.reg a))

/-- On a ready modulator. A reload that the carrier has does the modulator step, followed by the tick of the loop engine where the drive mode is
TABLE and the LE domain is ON; one it has not (carrier stopped, or a peak in a profile without peak reloads) does nothing. A period in range
goes to the write stage outside the TABLE source and is ignored in TABLE, where the carrier keeps the period of the profile; one out of
range is counted in RANGE in every source; a compare goes to the write stage in the DIRECT source and counts in SRCREJ in any other. A write
that lands in the CLK_PWM cycle of a reload also sets LATEWR. COMMIT clears the written-since-commit state and fills the committed stage
with the processed group of its source, where that passes the overlap check. DISCARD empties the committed stage, takes the active group
with its period, compares and duties into the write stage and clears that state. PASSON and PASSOFF wait for the next valley reload. CNTCLR
clears the counters. That a period in range written in TABLE is ignored, and that a DISCARD there also empties what a profile change
committed, is the model's choice (log entry 63), and what a COMMIT in TABLE fills too (log entry 23). A recalibration of the replica takes
its taps and clears HRDEG; a failed one sets HRFAIL and HRDEG and raises MOD_HRCAL. Nothing else changes (R102, R105, R107, R110, R114,
R115, R119 to R121, R141, R142). -/
def Obligations.ModulatorCommandsComplete : Prop :=
  ∀ (s : State) (i : LaneId) (x : Ax), s.ready i (.axis x (.pg x)) →
    let l := s.lane i
    let md := (l.ax x).md
    (∀ peak cmp,
      (l.reloadRuns x peak = false → exec (.modReload i x peak cmp) s = .next s) ∧
      (l.reloadRuns x peak = true →
        ((l.modReload x peak).on (LE_STAT_DRIVE x) = false ∨ (l.modReload x peak).domOn (.le x) = false →
          exec (.modReload i x peak cmp) s = .next (s.setLane i (l.modReload x peak))) ∧
        ((l.modReload x peak).on (LE_STAT_DRIVE x) = true → (l.modReload x peak).domOn (.le x) = true →
          exec (.modReload i x peak cmp) s = .next (s.setLane i ((l.modReload x peak).leTick x cmp))))) ∧
    (∀ v : Word32,
      (srcIsTable l x = true → periodOk (v.toNat % 2 ^ 25) = true → exec (.modWriteStageWrite i x .period v) s = .next s) ∧
      (srcIsTable l x = false → periodOk (v.toNat % 2 ^ 25) = true →
        exec (.modWriteStageWrite i x .period v) s = .next (s.setLane i (((l.wr (MOD_PER_TICKS x) v.toNat).markDirty x).lateWrite x))) ∧
      (periodOk (v.toNat % 2 ^ 25) = false →
        exec (.modWriteStageWrite i x .period v) s = .next (s.setLane i (l.bump (MOD_REJ_RANGE x))))) ∧
    (∀ v n,
      (srcIsDirect l x = true →
        exec (.modWriteStageWrite i x (.rise n) v) s = .next (s.setLane i (((l.wr (cmpR x n) v.toNat).markDirty x).lateWrite x)) ∧
        exec (.modWriteStageWrite i x (.fall n) v) s = .next (s.setLane i (((l.wr (cmpF x n) v.toNat).markDirty x).lateWrite x))) ∧
      (srcIsDirect l x = false →
        exec (.modWriteStageWrite i x (.rise n) v) s = .next (s.setLane i (l.bump (MOD_REJ_SRCREJ x))) ∧
        exec (.modWriteStageWrite i x (.fall n) v) s = .next (s.setLane i (l.bump (MOD_REJ_SRCREJ x))))) ∧
    (let c := (l.lateWrite x).setMd x { ((l.lateWrite x).ax x).md with dirty := false, dirtySeen := false }
     let hs := (List.range 3).map (c.directPhase x (c.rd (MOD_PER_TICKS x)))
     (srcIsLe c x = true → exec (.modCommit i x) s = .next (s.setLane i (c.fillCommitted x (c.leGroup x)))) ∧
     (srcIsLe c x = false → srcIsDirect c x = true → overlapMask (c.rd (MOD_PER_TICKS x)) hs = 0 →
       exec (.modCommit i x) s = .next (s.setLane i (c.fillCommitted x (directGroup (c.rd (MOD_PER_TICKS x)) hs)))) ∧
     (srcIsLe c x = false → srcIsDirect c x = false →
       exec (.modCommit i x) s = .next (s.setLane i (c.fillCommitted x (tableGroup (profPeriod c.prof)))))) ∧
    (let d := l.setMd x { md with committed := none, dirty := false, dirtySeen := false }
     let d := d.wr (MOD_PER_TICKS x) (d.rd (MOD_PERA_TICKS x))
     let d := d.each (List.range 6) (fun l n => (l.wr (cmpR x n) (l.rd (actR x n))).wr (cmpF x n) (l.rd (actF x n)))
     let d := d.each (List.range 3) (fun l n => l.wr (MOD_DUTY x n) (((l.ax x).md.duty[n]?).getD 0))
     exec (.modDiscard i x) s = .next (s.setLane i (d.stageFlags x))) ∧
    exec (.modPasson i x) s = .next (s.setLane i (l.setMd x { md with passReq := some true })) ∧
    exec (.modPassoff i x) s = .next (s.setLane i (l.setMd x { md with passReq := some false })) ∧
    exec (.modCntclr i x) s =
      .next (s.setLane i (((l.wr (MOD_STAT_UNPAIRED x) 0).setReg (MOD_REJ_RANGE x).addr 0#64).setReg (MOD_CLAMPCNT_ENVD x).addr 0#64)) ∧
    (∀ taps : Fin 128,
      let h := l.wr (MOD_HRCAL_TAPS x) taps.val
      let f := ((h.set (MOD_STAT_HRFAIL x)).set (MOD_STAT_HRDEG x)).hrcalNow x
      exec (.delayLineCalibration i x true taps) s =
        .next (s.setLane i ((h.setMd x { (h.ax x).md with calAt := some h.now, trimNew := some taps.val }).clr (MOD_STAT_HRDEG x))) ∧
      exec (.delayLineCalibration i x false taps) s =
        .next (s.setLane i ((f.raise srcMOD 4 clsCE (some x) (f.dataOf (MOD_HRCAL_TAPS x).addr)).eventAx x 11)))

/-- On a ready modulator in the DIRECT source: where some phase of the processed write stage has both its gates on together, COMMIT keeps the
previous content of the committed stage, sets MOD_STAT_x.OVERLAP, raises MOD_OVERLAP at most once per outer cycle with the mask of the
phases, and drives the event. In the CLK_PWM cycle of a reload it also sets LATEWR and drives event 9 (R119). Nothing else changes but the
written-since-commit state. -/
def Obligations.OverlappingGroupIsNotCommitted : Prop :=
  ∀ (s : State) (i : LaneId) (x : Ax), s.ready i (.axis x (.pg x)) →
    let l := s.lane i
    let w := if (l.ax x).md.reloadAt.any (fun r => decide (l.now < r + 4)) then (l.set (MOD_STAT_LATEWR x)).eventAx x 9 else l
    let c := w.setMd x { (w.ax x).md with dirty := false, dirtySeen := false }
    let hs := (List.range 3).map (c.directPhase x (c.rd (MOD_PER_TICKS x)))
    let m := overlapMask (c.rd (MOD_PER_TICKS x)) hs
    let t := ((c.set (MOD_STAT_OVERLAP x)).raiseOnce srcMOD 2 clsCE (some x) m).eventAx x 10
    srcIsLe l x = false → srcIsDirect l x = true → m ≠ 0 →
    exec (.modCommit i x) s = .next (s.setLane i t) ∧ (t.ax x).md.committed = (l.ax x).md.committed ∧ t.on (MOD_STAT_OVERLAP x) = true

/-- With the lane in operation and its gate domain ON. TRIP_ONSET records the source of the trip (a pin with its level and for how long it has
had it; trips 4 and 5, the overcurrent comparators, record their switches as well). A source that does not stand active after its filter, a
disabled trip and one already active do nothing more; otherwise the trip becomes active and outside its blanking window acts at once, inside
an open window is only remembered. A trip input that becomes inactive leaves the active trips, and one that was blanked steps its count. An
enabled blanking timer opens or restarts its window for LEN CLK_PWM cycles, a disabled one does nothing. At its end, and not before, the
trips still blanked by it act. A release of an inactive trip is kept for the next valley reload. A read of MOD_BLANKCNT returns the counts
and clears them. While the lane is held, its clocks stand or the domain is not ON, the level of the source alone is kept, with the switches
of trips 4 and 5 that the die marks: the model's choice (log entry 43) (R129 to R132, R137, R195). -/
def Obligations.TripCommandsComplete : Prop :=
  ∀ (s : State) (i : LaneId),
    (s.ready i (.domain (.pg .x0)) →
      let l := s.lane i
      (∀ (n : Fin 8) (sw : BitVec 6) (high : Bool) (cyc : BitVec 12),
        let o := if n.val = 4 ∧ l.part.hasAxis .x0 then l.wr (GD_TRIPSTAT_OC .x0) (l.rd (GD_TRIPSTAT_OC .x0) ||| sw.toNat)
          else if n.val = 5 ∧ l.part.hasAxis .x1 then l.wr (GD_TRIPSTAT_OC .x1) (l.rd (GD_TRIPSTAT_OC .x1) ||| sw.toNat) else l
        let p := o.tripSource n (decide (4 ≤ n.val) || high) cyc.toNat
        let a := { p with trip := { p.trip with input := p.trip.input ||| 2 ^ n.val } }
        (p.tripStands n = false ∨ p.rd (MOD_TRIPCFG_EN n) = 0 ∨ p.trip.input.testBit n = true →
          exec (.tripOnset i n ⟨sw, high, cyc⟩) s = .next (s.setLane i p)) ∧
        (p.tripStands n = true → p.rd (MOD_TRIPCFG_EN n) ≠ 0 → p.trip.input.testBit n = false →
          (a.blankOpen n = false → exec (.tripOnset i n ⟨sw, high, cyc⟩) s = .next (s.setLane i (a.tripAct n))) ∧
          (a.blankOpen n = true → exec (.tripOnset i n ⟨sw, high, cyc⟩) s =
            .next (s.setLane i { a with trip := { a.trip with blanked := a.trip.blanked ||| 2 ^ n.val } })))) ∧
      (∀ n : Fin 8,
        let p := l.tripSource n (decide (n.val < 4) && !l.on (MOD_TRIPCFG_POL n)) 0
        let q := if p.trip.blanked.testBit n then p.bump ⟨MOD_BLANKCNT_CNT0.addr, 4 * n.val, 4⟩ else p
        let t := { q with trip := { q.trip with input := dropBit q.trip.input n, blanked := dropBit q.trip.blanked n } }
        exec (.tripInputInactive i n) s = .next (s.setLane i (t.wr MOD_TRIPSTAT_ACTIVE (dropBit (t.rd MOD_TRIPSTAT_ACTIVE) n)))) ∧
      (∀ k : Fin 4,
        (l.on (MOD_AUXCFG_EN k) = true → exec (.auxWindowStart i k) s =
          .next (s.setLane i { l with trip := l.trip.setAux k (some (l.now + 4 * l.rd (MOD_AUXCFG_LEN k))) })) ∧
        (l.on (MOD_AUXCFG_EN k) = false → exec (.auxWindowStart i k) s = .next s)) ∧
      (∀ k : Fin 4,
        let a := { l with trip := l.trip.setAux k none }
        (∀ t, l.trip.aux k = some t → t ≤ l.now → exec (.auxWindowEnd i k) s =
          .next (s.setLane i (a.each ((List.range 8).filter (fun n => a.trip.blanked.testBit n && decide (a.rd (MOD_TRIPCFG_BLANK n) = k + 1)))
            (fun l n => { l with trip := { l.trip with blanked := dropBit l.trip.blanked n } }.tripAct n)))) ∧
        ((∀ t, l.trip.aux k = some t → l.now < t) → exec (.auxWindowEnd i k) s = .next s)) ∧
      (∀ m : BitVec 8, exec (.modTripclr i m) s =
        .next (s.setLane i { l with trip := { l.trip with
          release := ((List.range 8).filter (fun n => m.toNat.testBit n && !(l.rd MOD_TRIPSTAT_ACTIVE).testBit n)).foldl
            (fun a n => a ||| 2 ^ n) l.trip.release } })) ∧
      exec (.blankcntRead i) s =
        .next (s.setLane i (Lane.setReg { l with rdata := l.reg MOD_BLANKCNT_CNT0.addr, busErr := false } MOD_BLANKCNT_CNT0.addr 0#64))) ∧
    (s.part.hasLane i = true → Gate.holds (.domain (.pg .x0)) (s.lane i) = false →
      (∀ (n : Fin 8) (sw : BitVec 6) (high : Bool) (cyc : BitVec 12),
        let l := s.lane i
        let o := if n.val = 4 ∧ l.part.hasAxis .x0 then l.wr (GD_TRIPSTAT_OC .x0) (l.rd (GD_TRIPSTAT_OC .x0) ||| sw.toNat)
          else if n.val = 5 ∧ l.part.hasAxis .x1 then l.wr (GD_TRIPSTAT_OC .x1) (l.rd (GD_TRIPSTAT_OC .x1) ||| sw.toNat) else l
        exec (.tripOnset i n ⟨sw, high, cyc⟩) s = .next (s.setLane i (o.tripSource n (decide (4 ≤ n.val) || high) cyc.toNat))) ∧
      ∀ n, exec (.tripInputInactive i n) s = .next (s.setLane i ((s.lane i).tripGone n)))

/-- On a lane out of reset, whether or not its clocks run (the driver die acts on its own clock). A first assertion of an enabled OV1 sets its
bit, counts, raises DL_OV1 and starts the first on-pulse where the chopper is enabled; a repeated one, or with OV1 disabled, does nothing.
Its release stops chopping. A first assertion of an enabled OV2 sets its bit, counts, raises DL_OV2, makes trip 6 active and checks the axes
that the die holds off; its release ends trip 6. A chopper period that is due while OV1 is asserted and no fault is latched starts an
on-pulse; the on-time that is due ends. The watch of the first turn-on, when due, passes where the current was seen in time, sets LATE where
it came in the expiry cycle, and is a chopper fault with NOCUR where it never came. Overcurrent is a chopper fault with CHOCF. On a lane
with its clocks, CHCLR with OV1 released clears the fault and ends trip 7, and is ignored otherwise; CNTCLR clears DL_CNT. In a lane held in
reset, the die does what it does there, and the controller hears nothing of it: the model's choice (log entry 43); with A_VBAT below 4.5 V,
none of this happens (R181, R209 to R212, R569). -/
def Obligations.DcLinkCommandsComplete : Prop :=
  ∀ (s : State) (i : LaneId), s.part.hasLane i = true →
    let l := s.lane i
    (l.sy.held = false →
      (let a := (l.set DL_STAT_OV1).bump DL_CNT_OV1
       let b := (a.raiseOnce srcDL 1 clsCE none (a.dataOf DL_STAT_OV1.addr)).event 184
       let c := { b with dl := { b.dl with first := true } }
       (l.dieRd DL_OV_OV1 ≠ 0 → l.on DL_STAT_OV1 = false →
         exec (.ov1Assert i) s = .next (s.setLane i (if c.dieOn DL_CFG_EN then c.chopPulse else c))) ∧
       (l.dieRd DL_OV_OV1 = 0 ∨ l.on DL_STAT_OV1 = true → exec (.ov1Assert i) s = .next s)) ∧
      exec (.ov1Release i) s = .next (s.setLane i ((l.clr DL_STAT_OV1).clr DL_STAT_CHON)) ∧
      (let a := (l.set DL_STAT_OV2).bump DL_CNT_OV2
       let b := (a.raise srcDL 3 clsUC none (a.dataOf DL_STAT_OV2.addr)).event 185
       (l.dieRd DL_OV_OV2 ≠ 0 → l.on DL_STAT_OV2 = false →
         exec (.ov2Assert i) s = .next (s.setLane i ((b.tripOnset 6 true 0).each b.axes Lane.gateSettle))) ∧
       (l.dieRd DL_OV_OV2 = 0 ∨ l.on DL_STAT_OV2 = true → exec (.ov2Assert i) s = .next s)) ∧
      (l.on DL_STAT_OV2 = true → exec (.ov2Release i) s = .next (s.setLane i ((l.clr DL_STAT_OV2).tripOff 6))) ∧
      (l.on DL_STAT_OV2 = false → exec (.ov2Release i) s = .next s) ∧
      (l.on DL_STAT_OV1 = true → l.dieOn DL_CFG_EN = true → l.rd DL_STAT_CHFAULT = 0 → l.dl.perAt + l.chopPer ≤ l.now →
        exec (.chopperPeriod i) s = .next (s.setLane i l.chopPulse)) ∧
      (l.on DL_STAT_OV1 = false ∨ l.dieOn DL_CFG_EN = false ∨ l.rd DL_STAT_CHFAULT ≠ 0 ∨ l.now < l.dl.perAt + l.chopPer →
        exec (.chopperPeriod i) s = .next s) ∧
      (l.dl.onEnd ≤ l.now → exec (.chopperOnEnd i) s = .next (s.setLane i (l.clr DL_STAT_CHON))) ∧
      (l.now < l.dl.onEnd → exec (.chopperOnEnd i) s = .next s) ∧
      (∀ t, l.dl.watch = some t → t ≤ l.now →
        let a := { l with dl := { l.dl with watch := none } }
        exec (.chopperWatchExpiry i .before) s = .next (s.setLane i a) ∧
        exec (.chopperWatchExpiry i .inExpiry) s = .next (s.setLane i (a.set DL_STAT_LATE)) ∧
        exec (.chopperWatchExpiry i .never) s = .next (s.setLane i ((a.set DL_STAT_NOCUR).chopFault))) ∧
      ((∀ t, l.dl.watch = some t → l.now < t) → ∀ r, exec (.chopperWatchExpiry i r) s = .next s) ∧
      exec (.chopperOvercurrent i) s = .next (s.setLane i ((l.set DL_STAT_CHOCF).chopFault))) ∧
    (l.clocked = true →
      (l.on DL_STAT_OV1 = false → l.rd DL_STAT_CHFAULT ≠ 0 → exec (.dlChclr i) s = .next (s.setLane i ((l.clr DL_STAT_CHFAULT).tripOff 7))) ∧
      (l.on DL_STAT_OV1 = true ∨ l.rd DL_STAT_CHFAULT = 0 → exec (.dlChclr i) s = .next s) ∧
      exec (.dlCntclr i) s = .next (s.setLane i (l.setReg DL_CNT_OV1.addr 0#64))) ∧
    (l.sy.held = true → l.sy.dead = true → ∀ r, exec (.ov1Assert i) s = .next s ∧ exec (.ov1Release i) s = .next s ∧
      exec (.ov2Assert i) s = .next s ∧ exec (.ov2Release i) s = .next s ∧ exec (.chopperPeriod i) s = .next s ∧
      exec (.chopperOnEnd i) s = .next s ∧ exec (.chopperWatchExpiry i r) s = .next s ∧ exec (.chopperOvercurrent i) s = .next s) ∧
    (l.sy.held = true → l.sy.dead = false →
      exec (.ov1Assert i) s = .next (s.setLane i (l.dieOnly Lane.ov1Assert)) ∧ exec (.ov1Release i) s = .next (s.setLane i (l.dieOnly Lane.ov1Release)) ∧
      exec (.ov2Assert i) s = .next (s.setLane i (l.dieOnly Lane.ov2Assert)) ∧ exec (.ov2Release i) s = .next (s.setLane i (l.dieOnly Lane.ov2Release)) ∧
      exec (.chopperPeriod i) s = .next (s.setLane i (l.dieOnly Lane.chopPeriod)) ∧ exec (.chopperOnEnd i) s = .next (s.setLane i (l.dieOnly Lane.chopOnEnd)) ∧
      (∀ r, exec (.chopperWatchExpiry i r) s = .next (s.setLane i (l.dieOnly (fun l => l.chopWatch r)))) ∧
      exec (.chopperOvercurrent i) s = .next (s.setLane i (l.dieOnly Lane.chopOver)))

/-- On a ready axis with its gate domain ON: an enable request in ARMING while the gate-driver check runs does nothing (R539; that it is not
remembered is log entry 58), and any other: one that no case of R186 refuses sets ENA, and a refused one sets ENREJ and reports it; a drop
clears it; a firmware request puts the axis into axis safe state with cause 8; CNTCLR clears the interlock and commutator counts; an
interlock refusal holds its leg, counts, raises GD_XREF once per cycle, and only as the fourth within 1 ms is an axis fault; a delayed edge
counts DTCLIP alone; the code that the hall lines show reaches the commutator in passthrough, and outside it, or where the lines show
another, nothing happens (a code that the lines do not show is no change: the model's choice, log entry 11). On a lane out of reset that has
the axis, whether or not its clocks run: a hard short latches its switch, enters axis safe state with ASC and reports the switch the first
time; a change of the lowest high-side headroom updates its monitor, lets CPUV follow it and evaluates the side rule again (R181, R185 to
R187, R190 to R192, R196, R199, R213, R539). -/
def Obligations.GateDriverCommandsComplete : Prop :=
  ∀ (s : State) (i : LaneId) (x : Ax),
    (s.ready i (.axis x (.pg x)) →
      let l := s.lane i
      (l.mode = mArming → l.im.gdRun ≠ 0 → exec (.gateEnableRequest i x) s = .next s) ∧
      (l.mode ≠ mArming ∨ l.im.gdRun = 0 → l.enableRefused x = false →
        exec (.gateEnableRequest i x) s = .next (s.setLane i ((l.set (GD_STAT_ENA x)).gateSettle x))) ∧
      (l.mode ≠ mArming ∨ l.im.gdRun = 0 → l.enableRefused x = true → exec (.gateEnableRequest i x) s =
        .next (s.setLane i ((l.set (GD_STAT_ENREJ x)).raiseOnce srcGD 7 clsCE (some x) (l.dataOf SY_MODE_OWN.addr)))) ∧
      exec (.gateEnableDrop i x) s = .next (s.setLane i ((l.clr (GD_STAT_ENA x)).gateSettle x)) ∧
      exec (.gdSafeRequest i x) s = .next (s.setLane i ((l.safeEnter x 8 false).gateSettle x)) ∧
      (let a := (l.wr (GD_XCNT_DTCLIP x) 0).wr (GD_XCNT_TOTAL x) 0
       exec (.gdCntclr i x) s = .next (s.setLane i ((a.setGd x { (a.ax x).gd with winFrom := a.now }).wr (GD_COMM_ILL x) 0))) ∧
      (∀ leg : Fin 3,
        let g := (l.ax x).gd
        let a := (l.setGd x { g with legs := g.legs ||| 2 ^ leg.val, refusals := (l.now :: g.refusals).take 3 }).gateNote x
        let b := (a.set (GD_STAT_XHOLD x)).bump (GD_XCNT_TOTAL x)
        let c := (b.raiseOnce srcGD 3 clsUC (some x) (b.xcnt x)).eventAx x 29
        ((∀ r₁ r₂ t, g.refusals = [r₁, r₂, t] → msec < l.now - t) → exec (.interlockRefusal i x leg) s = .next (s.setLane i c)) ∧
        (∀ r₁ r₂ t, g.refusals = [r₁, r₂, t] → l.now - t ≤ msec →
          exec (.interlockRefusal i x leg) s = .next (s.setLane i ((c.raise srcGD 4 clsUC (some x) (c.xcnt x)).axisSafe x 2 true)))) ∧
      exec (.minimumGapDelay i x) s = .next (s.setLane i (l.bump (GD_XCNT_DTCLIP x))) ∧
      (∀ code : Fin 8, l.rd (GD_STAT_PASS x) = 0 ∨ l.hallLines x ≠ code.val → exec (.commutatorHallChange i x code) s = .next s) ∧
      (∀ code : Fin 8, l.rd (GD_STAT_PASS x) ≠ 0 → l.hallLines x = code.val →
        let a := l.commChange x (fun l' => l'.wr (GD_COMM_HALL x) code.val)
        let b := a.bump (GD_COMM_ILL x)
        ((commRow code.val).isSome = true → exec (.commutatorHallChange i x code) s = .next (s.setLane i a)) ∧
        ((commRow code.val).isSome = false → exec (.commutatorHallChange i x code) s =
          .next (s.setLane i (b.raiseOnce srcGD 8 clsCE (some x) (b.dataOf (GD_COMM_ILL x).addr)))))) ∧
    (s.part.hasLane i = true → (s.lane i).sy.held = false → (s.lane i).part.hasAxis x = true →
      let l := s.lane i
      (∀ gate : Fin 6,
        let a := (l.wr (GD_TRIPSTAT_HS x) (l.rd (GD_TRIPSTAT_HS x) ||| 2 ^ gate.val)).safeEnter x 1 true
        ((l.rd (GD_TRIPSTAT_HS x)).testBit gate = true → exec (.hardShort i x gate) s = .next (s.setLane i (a.gateSettle x))) ∧
        ((l.rd (GD_TRIPSTAT_HS x)).testBit gate = false → exec (.hardShort i x gate) s =
          .next (s.setLane i (((a.raise srcGD 1 clsUC (some x) (a.rd (GD_TRIPSTAT_HS x) + 256 * a.rd (GD_STAT_SIDE x))).eventAx x 28).gateSettle x)))) ∧
      (∀ mv : BitVec 16,
        let w := (l.wr (GD_CPMON_MV x) mv.toNat).setGd x { (l.ax x).gd with told := true }
        let low := decide (w.rd (GD_CPMON_MV x) < w.cpuvLevel x)
        let a := w.put (GD_STAT_CPUV x) low
        (w.on (GD_STAT_CPUV x) = true ∨ low = false →
          exec (.cpuvChange i x mv) s = .next (s.setLane i ((a.sideEval x).gateSettle x))) ∧
        (w.on (GD_STAT_CPUV x) = false → low = true → exec (.cpuvChange i x mv) s =
          .next (s.setLane i ((((a.raise srcGD 6 clsUC (some x) (a.dataOf (GD_CPMON_MV x).addr)).eventAx x 31).sideEval x).gateSettle x)))))

/-- For a lane that the module has and that is out of reset, whether or not its clocks run. While the PLL root is lost, none is sent, and the
command does nothing (R454; log entry 16). With the root running: a keep-alive that arrives in the oscillator cycle in which the window
expires (by its nominal length, the model's choice, log entry 16) sets LATE on every axis, starts the window again and declares no loss. A
keep-alive outside that cycle sets no LATE. Where the keep-alive had been lost without a lane reset, GD_KALOSS is reported besides.
KEEP_ALIVE_LOSS at the end of a window puts every axis into axis safe state with its SAFEMODE and sets KALOSS (R205). -/
def Obligations.LateKeepAliveCounts : Prop :=
  ∀ (s : State) (i : LaneId), s.part.hasLane i = true → (s.lane i).sy.held = false →
    let l := s.lane i
    let a := { l with dl := { l.dl with kaEnd := some (l.now + kaWindow), kaLost := false } }
    (l.pw.rootLost = true → exec (.keepAliveReceive i) s = .next s) ∧
    (∀ t, l.pw.rootLost = false → l.dl.kaEnd = some t → t ≤ l.now → l.now < t + kaCycle → l.dl.kaLost = false →
      exec (.keepAliveReceive i) s = .next (s.setLane i (a.each a.axes (fun l x => l.set (GD_STAT_LATE x)))) ∧
      ∀ x, x ∈ l.axes → (a.each a.axes (fun l x => l.set (GD_STAT_LATE x))).on (GD_STAT_LATE x) = true) ∧
    (l.pw.rootLost = false → (∀ t, l.dl.kaEnd = some t → l.now < t ∨ t + kaCycle ≤ l.now) →
      (l.dl.kaLost = false → exec (.keepAliveReceive i) s = .next (s.setLane i a)) ∧
      (l.dl.kaLost = true → exec (.keepAliveReceive i) s = .next (s.setLane i
        (a.raise srcGD 5 clsFT none (a.dataOf (GD_STAT_ENA .x0).addr))))) ∧
    (∀ t, l.dl.kaEnd = some t → t ≤ l.now →
      exec (.keepAliveLoss i) s = .next (s.setLane i
        (let b := { l with dl := { l.dl with kaEnd := none, kaLost := true } }
         b.each b.axes (fun l x => ((l.set (GD_STAT_KALOSS x)).axisSafe x 3 false).eventAx x 31))))

/-- On a ready torque-table engine: a decision of a running engine without a mismatch takes the sample (in CATCH, where its pulses move the
gates, it notes first when they last went off: the model's own record, log entry 62), estimates with the applied state, switches in TABLE
drive mode or shows the applied state in MODULATED, and goes on to lock, handover and the start; with a mismatch it keeps the switching
state of the snapshot and reports it; an idle engine only forgets that it had started. A due align timer in ALIGN begins RAMP from the align
angle; a due hold timer in RAMP without lock raises TQ_STARTFAIL and asks for axis safe state; a due low-speed timer in RUN begins ALIGN; a
catch limit that has passed is loss of lock; each of the four timers, where it is not due or its state is another, does nothing. A pulse
that has ended in CATCH takes its sample: too much current is loss of lock, and otherwise the pulse is judged by the operation of R175; a
pulse that has not ended, or outside CATCH, or after the catch limit (the model's choice, log entry 26), does nothing; a magnitude that
saturates sets LE_STAT.OVF (R589). An OW write of a register of the engine in its full width in OPEN stores its value in range and counts in
RANGE out of range; outside OPEN it is refused, counted and reported; an RL register in range is ignored, and out of range counts in RANGE;
a half write of a 64-bit register counts in HALFWR; a write of anything else does nothing. CNTCLR clears the counters (R84, R85, R148, R149,
R164, R174, R175, R177, Table 4.5). -/
def Obligations.TorqueTableCommandsComplete : Prop :=
  ∀ (s : State) (i : LaneId) (x : Ax), s.ready i (.table x) →
    let l := s.lane i
    let t := (l.ax x).tq
    (∀ (p : PhaseCodes) (k : BitVec 14) ext, l.tqRuns x = true →
      let c : AdcCodes := ⟨p.u, p.v, p.w, k⟩
      let a := (l.when (decide (l.rd (TQ_STAT_SLSTATE x) = slCatch)) (fun l => l.gateMark x)).adTake x c
      let v := a.adScale x c
      let table := l.on (LE_STAT_DRIVE x)
      let st := a.appliedState x
      let td := if table then tqTd else spanQ ((128 + ext.val : Nat) : Int)
      let o := a.tqEstimate x v st td
      let b := (a.setTq x { o.t with trefU := (a.ax x).tq.tref }).when table (fun l =>
        (l.setAd x { (l.ax x).ad with dec := [v.ia.raw, v.ib.raw, v.ic.raw, v.vdc.raw] }).rampStep x td)
      let d := if table then b.tqSwitch x o (!t.started) else b.wr (TQ_STAT_VEC x) st
      exec (.tqDecision i x p k ext false) s = .next (s.setLane i
        (((((d.leOvf x o.ovf).tqPosition x (a.ax x).tq.thPll).tqLock x o.clean v.vdc).tqHandover x).slBegin x v.vdc false)) ∧
      exec (.tqDecision i x p k ext true) s = .next (s.setLane i (a.tqRollback x))) ∧
    (∀ p k ext mm, l.tqRuns x = false →
      exec (.tqDecision i x p k ext mm) s = .next (s.setLane i (l.setTq x { t with started := false }))) ∧
    (l.rd (TQ_STAT_SLSTATE x) = slAlign → t.alignAt + decisionsOf (l.q (TQ_ALIGNT x)) ≤ t.n →
      exec (.alignTimerExpiry i x) s = .next (s.setLane i
        ((l.setTq x { t with thFo := l.rdS (TQ_ALIGNANG x), wFo := 0, holdAt := none }).slSet x slRamp))) ∧
    (l.rd (TQ_STAT_SLSTATE x) ≠ slAlign ∨ t.n < t.alignAt + decisionsOf (l.q (TQ_ALIGNT x)) →
      exec (.alignTimerExpiry i x) s = .next s) ∧
    (∀ h, t.holdAt = some h → l.rd (TQ_STAT_SLSTATE x) = slRamp → h + decisionsOf (l.q (TQ_HOLDT x)) ≤ t.n →
      l.rd (TQ_STAT_LOCK x) = 0 →
      exec (.holdTimerExpiry i x) s = .next (s.setLane i
        (((l.setTq x { t with holdAt := none }).raise srcTQ 5 clsUC (some x) (l.dataOf (TQ_STAT_SLSTATE x).addr)).axisSafe x 6 false))) ∧
    ((∀ h, t.holdAt = some h → l.rd (TQ_STAT_SLSTATE x) ≠ slRamp ∨ t.n < h + decisionsOf (l.q (TQ_HOLDT x)) ∨ l.rd (TQ_STAT_LOCK x) ≠ 0) →
      exec (.holdTimerExpiry i x) s = .next s) ∧
    (∀ h, t.lowAt = some h → l.rd (TQ_STAT_SLSTATE x) = slRun → h + decisionsOf (l.q (TQ_HOLDT x)) ≤ t.n →
      exec (.lowSpeedTimerExpiry i x) s = .next (s.setLane i (l.slAlignStart x))) ∧
    ((∀ h, t.lowAt = some h → l.rd (TQ_STAT_SLSTATE x) ≠ slRun ∨ t.n < h + decisionsOf (l.q (TQ_HOLDT x))) →
      exec (.lowSpeedTimerExpiry i x) s = .next s) ∧
    (l.rd (TQ_STAT_SLSTATE x) = slCatch → t.catchAt + catchLimit ≤ t.n →
      exec (.catchTimeout i x) s = .next (s.setLane i (l.lockLost x (l.backEmf x (.of t.catchW)) true))) ∧
    (l.rd (TQ_STAT_SLSTATE x) ≠ slCatch ∨ t.n < t.catchAt + catchLimit → exec (.catchTimeout i x) s = .next s) ∧
    (∀ c, l.rd (TQ_STAT_SLSTATE x) = slCatch →
      t.catchAt + (t.pulses + 1) * l.rd (TQ_CATCH_PER x) + l.rd (TQ_CATCH_PW x) ≤ t.n → t.n ≤ t.catchAt + catchLimit →
      let a := l.adTake x c
      let mag := magOf (statorAl (a.adScale x c)) (statorBe (a.adScale x c))
      let b := a.leOvf x mag.ovf
      (b.rdS (TQ_CATCHIMAX x) < mag.raw →
        exec (.catchPulse i x c) s = .next (s.setLane i (b.lockLost x (b.backEmf x (.of t.catchW)) true))) ∧
      (¬ b.rdS (TQ_CATCHIMAX x) < mag.raw → exec (.catchPulse i x c) s = .next (s.setLane i (l.catchPulse x c)))) ∧
    (∀ c, l.rd (TQ_STAT_SLSTATE x) ≠ slCatch ∨
        t.n < t.catchAt + (t.pulses + 1) * l.rd (TQ_CATCH_PER x) + l.rd (TQ_CATCH_PW x) ∨ t.catchAt + catchLimit < t.n →
      exec (.catchPulse i x c) s = .next s) ∧
    (∀ a n v b d o, blockOf a = some (.tq, x, o) → regUnder a n = some (b, d) → d.bits (fun k => k = .ow) ≠ 0 → (d.wide = 64 → n = 8) →
      (l.rd (LE_STAT_STATE x) = leOpen → d.fits (fun k => k = .ow) v.toNat = true → catchFits x a v.toNat = true →
        exec (.tqOwWrite i x a n v) s = .next (s.setLane i (l.setReg a (d.afterWrite (l.reg a) v.toNat)))) ∧
      (l.rd (LE_STAT_STATE x) = leOpen → d.fits (fun k => k = .ow) v.toNat = false ∨ catchFits x a v.toNat = false →
        exec (.tqOwWrite i x a n v) s = .next (s.setLane i (l.bump (TQ_CNT_RANGE x)))) ∧
      (l.rd (LE_STAT_STATE x) ≠ leOpen →
        exec (.tqOwWrite i x a n v) s = .next (s.setLane i
          ((l.bump (TQ_CNT_OWREJ x)).raiseOnce srcTQ 7 clsCE (some x) ((l.bump (TQ_CNT_OWREJ x)).dataOf (TQ_CNT_OWREJ x).addr))))) ∧
    (∀ a n v b d o, blockOf a = some (.tq, x, o) → regUnder a n = some (b, d) →
      d.bits (fun k => k = .ow) ≠ 0 ∨ d.bits (fun k => k = .rl) ≠ 0 → d.wide = 64 → n ≠ 8 →
      exec (.tqOwWrite i x a n v) s = .next (s.setLane i (l.bump (TQ_CNT_HALFWR x)))) ∧
    (∀ a n v b d o, blockOf a = some (.tq, x, o) → regUnder a n = some (b, d) → d.bits (fun k => k = .ow) = 0 →
      d.bits (fun k => k = .rl) ≠ 0 → (d.wide = 64 → n = 8) →
      (d.fits (fun k => k = .rl) v.toNat = true → exec (.tqOwWrite i x a n v) s = .next s) ∧
      (d.fits (fun k => k = .rl) v.toNat = false → exec (.tqOwWrite i x a n v) s = .next (s.setLane i (l.bump (TQ_CNT_RANGE x))))) ∧
    (∀ a n v, (∀ b d o, blockOf a = some (.tq, x, o) → regUnder a n = some (b, d) →
        d.bits (fun k => k = .ow) = 0 ∧ d.bits (fun k => k = .rl) = 0) →
      exec (.tqOwWrite i x a n v) s = .next s) ∧
    exec (.tqCntclr i x) s = .next (s.setLane i
      (((l.setReg (TQ_CNT_OWREJ x).addr 0#64).wr (TQ_RBCNT_TOTAL x) 0).wr (TQ_SWCNT_CATCHES x) 0))

/-- With the feedback domain ON: a conversion of a die or supply source (0 to 13) updates its monitor register, its run against the bounds and
the watch of the die temperatures (a source that is not on the channels changes nothing). On an axis the part has: an own hall code is
recorded with the raw lines and taken by the own hall source, but under a supply-pulse mask, or where the halls are no own group, it is only
noted; the code and valid bit that the neighbour lane passes on are recorded, and a valid code is taken by that neighbour's source, while a
code or bit that it does not pass on changes nothing (it is no change: the model's choice, log entry 11); a sine and cosine sample has its
squared magnitude and LOW recorded and is no more than that under a mask or where the pair is no own group; inside the window it moves the
tracker, and outside it is counted, and the last of FB_SCCFG_x.SCN in a row makes the group faulty with FB_SCFAULT; a tick records position,
angle and speeds and tests the compare units; a compare write stores its value and judges the unit; POSADJ in OPEN adds to pos and judges
the units, and outside OPEN is refused as an OW write; FLTCLR starts the clean counts of the faulty sources; a readmission with its clean
ticks complete (and for a hall source a legal code) clears the fault, and without them does nothing; the counters clear. Without the axis or
with the domain not ON, HALL_EDGE keeps the raw lines alone (the model's choice, log entry 43) (R226, R230, R232, R237, R240, R243 to R246). -/
def Obligations.FeedbackCommandsComplete : Prop :=
  ∀ (s : State) (i : LaneId),
    (s.ready i (.domain .fb) → let l := s.lane i
      (∀ (n : Fin 16) v, 14 ≤ n.val → exec (.monitorConversion i n v) s = .next s) ∧
      (∀ (n : Fin 16) v, n.val < 14 → exec (.monitorConversion i n v) s = .next (s.setLane i (l.monitor n v.toNat)) ∧
        (l.monitor n v.toNat).rd (AD_MON n) = v.toNat)) ∧
    (∀ x, s.ready i (.axis x .fb) → let l := s.lane i
      let f := (l.ax x).fb
      exec (.adCntclr i x) s = .next (s.setLane i (l.setReg (AD_CNT_CLIP x).addr 0#64)) ∧
      exec (.fbCntclr i x) s = .next (s.setLane i (l.setReg (FB_CNT_ILL x).addr 0#64)) ∧
      (∀ code raw : Fin 8,
        let a := (l.setFb x { f with raw := raw.val }).wr (FB_HCODE_OWN x) code.val
        (f.maskHall = none → a.hasHall x = true → exec (.hallEdge i x code raw) s =
          .next (s.setLane i ((a.hallTake x .halls (a.now - 16 * a.rd (FB_CFG_HFILT x)) code).passThrough x))) ∧
        (f.maskHall.isSome = true ∨ a.hasHall x = false → exec (.hallEdge i x code raw) s =
          .next (s.setLane i ((a.setFb x { (a.ax x).fb with own := { (a.ax x).fb.own with code := code.val } }).passThrough x)))) ∧
      (∀ c : Fin 8,
        let a := l.wr (FB_HCODE_NEXT x) c.val
        let b := l.wr (FB_HCODE_PREV x) c.val
        let a1 := a.put (FB_STAT_NBNV x) true
        let b1 := b.put (FB_STAT_NBPV x) true
        (s.linkFrom i .next x = (c.val, true) → exec (.neighbourCode i x .next c true) s = .next (s.setLane i (a1.hallTake x .nextNb a1.now c))) ∧
        (s.linkFrom i .next x = (c.val, false) → exec (.neighbourCode i x .next c false) s = .next (s.setLane i (a.put (FB_STAT_NBNV x) false))) ∧
        (s.linkFrom i .prev x = (c.val, true) → exec (.neighbourCode i x .prev c true) s = .next (s.setLane i (b1.hallTake x .prevNb b1.now c))) ∧
        (s.linkFrom i .prev x = (c.val, false) → exec (.neighbourCode i x .prev c false) s = .next (s.setLane i (b.put (FB_STAT_NBPV x) false))) ∧
        ∀ n v, s.linkFrom i n x ≠ (c.val, v) → exec (.neighbourCode i x n c v) s = .next s) ∧
      (∀ cs cc : BitVec 16,
        let m := l.scNorm x cs.toInt cc.toInt
        let low := decide (m.2.2.raw < (winQ (l.rd (FB_SCWIN_LO x))).raw)
        let a := (l.wq (FB_SCM2 x) m.2.2).setFb x { f with sc := { f.sc with low := low } }
        (f.maskSc = true ∨ a.hasSc x = false → exec (.sincosSample i x cs cc) s = .next (s.setLane i a)) ∧
        (f.maskSc = false → a.hasSc x = true →
          (low = false → ¬ (winQ (a.rd (FB_SCWIN_HI x))).raw < m.2.2.raw →
            let r := f.sc.track (Q.atan2 m.1 m.2.1) (turnQ (a.rd (FB_ANG_EOFS x))) (a.pp x) (a.rd (FB_SCCFG_SCPER x)) (a.rd (FB_TRK_BW x))
              (a.now - 1024)
            exec (.sincosSample i x cs cc) s = .next (s.setLane i (((a.setFb x { f with sc := r }).passThrough x).posSettle x))) ∧
          (low = true ∨ (winQ (a.rd (FB_SCWIN_HI x))).raw < m.2.2.raw →
            let b := a.bump (FB_CNT_SCOUT x)
            let b := b.setFb x { f with sc := { f.sc with
              nout := f.sc.nout + 1, low := low, clean := f.sc.clean.map (fun _ => nextTick b.now) } }
            exec (.sincosSample i x cs cc) s = .next (s.setLane i (Lane.passThrough
              (if f.sc.nout + 1 = b.rd (FB_SCCFG_SCN x) then
                (b.groupFault x true).raise srcFB 3 clsUC (some x) (b.dataOf (FB_CNT_SCOUT x).addr) else b) x))))) ∧
      exec (.positionCompareTick i x) s = .next (s.setLane i (l.posTick x)) ∧
      (∀ (n : Fin 4) v,
        exec (.compareWrite i x n .value v) s = .next (s.setLane i ((l.setReg (FB_CMP x n).addr v).cmpJudge x n)) ∧
        exec (.compareWrite i x n .config v) s = .next (s.setLane i ((l.setReg (FB_CMPCFG_EN x n).addr (v &&& 31#64)).cmpJudge x n))) ∧
      (∀ v,
        let p := (Q.of f.tick).add (.of v.toInt)
        let a := l.setFb x { f with base := f.base + (p.raw - f.tick), tick := p.raw, pos := p.raw }
        (l.rd (LE_STAT_STATE x) = leOpen → exec (.fbPosadjWrite i x v) s =
          .next (s.setLane i ((if p.ovf then a.posOvf x else a).each (List.range 4) (fun l n => l.cmpJudge x n)))) ∧
        (l.rd (LE_STAT_STATE x) ≠ leOpen → exec (.fbPosadjWrite i x v) s = .next (s.setLane i (l.owReject x)))) ∧
      exec (.fbFltclr i x) s = .next (s.setLane i (l.fltClr x)) ∧
      (l.cleanDone f.sc.clean = true → exec (.readmission i x .sinCos) s =
        .next (s.setLane i ((l.setFb x { f with sc := { f.sc with clean := none, started := false, nout := 0 } }).clr (FB_STAT_SCF x)))) ∧
      (l.cleanDone f.sc.clean = false → exec (.readmission i x .sinCos) s = .next s) ∧
      (l.cleanDone f.own.clean = true → (hallIdx f.own.code).isSome = true → exec (.readmission i x .halls) s =
        .next (s.setLane i (((l.setFb x { f with own := { f.own with clean := none } }).clr (FB_STAT_HF x)).passThrough x))) ∧
      (l.cleanDone f.nextNb.clean = true → (hallIdx f.nextNb.code).isSome = true → exec (.readmission i x .nextNb) s =
        .next (s.setLane i ((l.setFb x { f with nextNb := { f.nextNb with clean := none } }).clr (FB_STAT_NBNB x)))) ∧
      (l.cleanDone f.prevNb.clean = true → (hallIdx f.prevNb.code).isSome = true → exec (.readmission i x .prevNb) s =
        .next (s.setLane i ((l.setFb x { f with prevNb := { f.prevNb with clean := none } }).clr (FB_STAT_NBPB x)))) ∧
      (∀ g, g ≠ .sinCos → l.cleanDone (f.hall g).clean = false ∨ (hallIdx (f.hall g).code).isSome = false →
        exec (.readmission i x g) s = .next s)) ∧
    (∀ x (code raw : Fin 8), s.part.hasLane i = true →
      (s.lane i).clocks = false ∨ (s.lane i).domOn .fb = false ∨ (s.lane i).part.hasAxis x = false →
      exec (.hallEdge i x code raw) s = .next (s.setLane i (if (s.lane i).part.hasAxis x then
        (s.lane i).setFb x { ((s.lane i).ax x).fb with raw := raw.val } else s.lane i)))

/-- With the feedback domain ON: overcurrent latches a supply off, makes the groups mapped to it faulty and raises SF_OC; undervoltage does the
same with SF_UV outside a pulse, and nothing during one; CLR releases the latches and restarts an enabled supply (that it clears UV with OCL
is the model's choice, log entry 27). At the instant of a slot of Table 6.6 in the lane timestamp (in the CLK_PER cycle of it, log entry
64), and not at another, the own slot of a pulsed supply that is ON begins its pulse and the masks of its groups, and a slot of another lane
is noted once timestamps are network time. A fall check that is due marks the fall below 1.0 V and otherwise fails with PULSEF and SF_PULSE;
a recovery check that is due sets PROVEN above 90 % of nominal for a pulse that fell and passed its cross-short check, does nothing more
above it for another pulse, and fails at or below it; the check 15 µs into a slot, own or of another lane, records whether an own slot has
no offending group and reports every offending group; the mask ends when it is due. A check or an end without its pulse, or before it is
due, does nothing (R248, R250 to R254). -/
def Obligations.SensorSupplyCommandsComplete : Prop :=
  ∀ (s : State) (i : LaneId), s.ready i (.domain .fb) → let l := s.lane i
    (∀ (k : Fin 2) (ma : BitVec 16), let a := ((l.wr (SF_SSMON_MA k) ma.toNat).set (ssStat k 1)).clr (ssStat k 0)
      exec (.supplyOvercurrent i k ma) s = .next (s.setLane i
        (((a.groupsFault (a.groupsOn k)).raise srcSF 1 clsUC none (a.dataOf (SF_SSMON_MA k).addr)).event 188))) ∧
    (∀ (k : Fin 2) (mv : BitVec 16), (l.sf.pulse k).isSome = true → exec (.supplyUndervoltage i k mv) s = .next s) ∧
    (∀ (k : Fin 2) (mv : BitVec 16), l.sf.pulse k = none →
      let a := ((l.wr (SF_SSMON_MV k) mv.toNat).set (ssStat k 2)).clr (ssStat k 0)
      exec (.supplyUndervoltage i k mv) s = .next (s.setLane i
        (((a.groupsFault (a.groupsOn k)).raise srcSF 2 clsUC none (a.dataOf (SF_SSMON_MV k).addr)).event 188))) ∧
    (∀ k : Fin 2, let a := (l.clr (ssStat k 1)).clr (ssStat k 2)
      exec (.sfSupplyClr i k) s = .next (s.setLane i (if a.on (SF_SSCFG_EN k) then a.set (ssStat k 0) else a))) ∧
    (∀ slot : Fin 6,
      (l.atPulse slot = true → slotLane slot = l.me.code → l.on (SF_SSCFG_PULSE (slotSupply slot)) = true → l.on (ssStat (slotSupply slot) 0) = true →
        exec (.supplyPulseStart i slot) s = .next (s.setLane i
          ((l.setPulse (slotSupply slot) (some { slot := slot.val, start := l.now })).each (l.groupsOn (slotSupply slot)) Lane.maskOn))) ∧
      (l.atPulse slot = true → slotLane slot ≠ l.me.code → l.timeIsNetwork = true →
        exec (.supplyPulseStart i slot) s = .next (s.setLane i
          { l with sf := { l.sf with other := some { slot := slot.val, start := l.now } } })) ∧
      (l.atPulse slot = false ∨
        (slotLane slot = l.me.code ∧ (l.on (SF_SSCFG_PULSE (slotSupply slot)) = false ∨ l.on (ssStat (slotSupply slot) 0) = false)) ∨
        (slotLane slot ≠ l.me.code ∧ l.timeIsNetwork = false) → exec (.supplyPulseStart i slot) s = .next s)) ∧
    (∀ (k : Fin 2) (mv : BitVec 16) p, l.sf.pulse k = some p →
      let a := l.wr (SF_SSMON_MV k) mv.toNat
      (p.start + 10 * usec ≤ l.now →
        (mv.toNat < 1000 → exec (.pulseCheck i k false mv) s = .next (s.setLane i (a.setPulse k (some { p with fell := true })))) ∧
        (1000 ≤ mv.toNat → exec (.pulseCheck i k false mv) s = .next (s.setLane i (a.pulseFail k)))) ∧
      (p.start + 30 * usec ≤ l.now →
        (a.supplyMin k < mv.toNat → p.fell = true → p.crossOk = true →
          exec (.pulseCheck i k true mv) s = .next (s.setLane i (a.set (ssStat k 5)))) ∧
        (a.supplyMin k < mv.toNat → p.fell = false ∨ p.crossOk = false → exec (.pulseCheck i k true mv) s = .next (s.setLane i a)) ∧
        (mv.toNat ≤ a.supplyMin k → exec (.pulseCheck i k true mv) s = .next (s.setLane i (a.pulseFail k)))) ∧
      (p.start + 30 * usec ≤ l.now →
        exec (.pulseMaskEnd i k) s = .next (s.setLane i ((l.setPulse k none).each (l.groupsOn k) Lane.maskOff)))) ∧
    (∀ (k : Fin 2),
      ((∀ p, l.sf.pulse k = some p → l.now < p.start + 10 * usec) → ∀ mv, exec (.pulseCheck i k false mv) s = .next s) ∧
      ((∀ p, l.sf.pulse k = some p → l.now < p.start + 30 * usec) →
        (∀ mv, exec (.pulseCheck i k true mv) s = .next s) ∧ exec (.pulseMaskEnd i k) s = .next s)) ∧
    (∀ (slot : Fin 6) p, slotLane slot = l.me.code → l.sf.pulse (slotSupply slot) = some p → p.slot = slot.val →
      p.start + 15 * usec ≤ l.now →
      let bad := l.crossBad true (slotSupply slot)
      exec (.crossShortCheck i slot) s = .next (s.setLane i
        ((l.setPulse (slotSupply slot) (some { p with crossOk := decide (bad = []) })).each bad (fun l e => l.crossFail slot e.1 e.2)))) ∧
    (∀ (slot : Fin 6) p, slotLane slot ≠ l.me.code → l.sf.other = some p → p.slot = slot.val → p.start + 15 * usec ≤ l.now →
      exec (.crossShortCheck i slot) s =
        .next (s.setLane i ({ l with sf := { l.sf with other := none } }.each (l.crossBad false (slotSupply slot)) (fun l e => l.crossFail slot e.1 e.2)))) ∧
    (∀ (slot : Fin 6),
      (∀ p, (if slotLane slot = l.me.code then l.sf.pulse (slotSupply slot) else l.sf.other) = some p →
        p.slot ≠ slot.val ∨ l.now < p.start + 15 * usec) → exec (.crossShortCheck i slot) s = .next s)

/-- On a lane that the module has: POWER_UP, VBAT_BROWNOUT, NRST_ASSERT and SUPPLY_OUT_OF_RANGE leave the lane held in reset with the core held,
an empty store buffer, no fault message, no memory but that of MRAM (that TCM loses its contents at every reset is the model's choice, log
entry 4), and its count of BOOT entries; and what each of them does is the power-up of AO, or the reset of every other domain, of the model
(that a supply out of its range clears the reading of A_PGOOD is the model's choice, log entry 36). A brown-out resets AO as POWER_UP does
and leaves the lane without its supply: RESET_RELEASE then changes nothing, until a POWER_UP (R569). RESET_RELEASE on a lane held in reset
that has its supply, with a strap code, leaves it out of reset, in BOOT at its first phase, with that code sampled and one BOOT entry more;
on a lane not held it changes nothing (R530, R533, R568, R569, R579). -/
def Obligations.ResetCommandsComplete : Prop :=
  ∀ (s : State) (i : LaneId), s.ready i .always →
    let l := s.lane i
    (∀ c ∈ [Instr.powerUp i, .vbatBrownOut i, .nrstAssert i, .supplyOutOfRange i],
      ∃ t : Lane, exec c s = .next (s.setLane i t) ∧ (c = .powerUp i → t = l.powerUp ∧ t.sy.dead = false) ∧
        (c = .vbatBrownOut i → t = l.brownOut ∧ t.sy.dead = true) ∧
        (c = .nrstAssert i → t = l.hold) ∧ (c = .supplyOutOfRange i → t = l.hold.clr PM_STAT_PGOOD) ∧ t.sy.held = true ∧ t.sy.boots = l.sy.boots ∧ t.pc.core = .held ∧ t.pc.store = [] ∧
        t.fc.wait = [] ∧ t.mem = l.mem.filter (fun p => inMram l.part p.1)) ∧
    (∀ straps : Fin 4, l.sy.held = true → l.sy.dead = false →
      let t := (l.enterBootAt straps.val).set PM_STAT_PGOOD
      exec (.resetRelease i straps) s = .next (s.setLane i t) ∧ t.sy.held = false ∧ t.sy.boots = l.sy.boots + 1 ∧
        t.mode = mBoot ∧ t.im.phase = .lock ∧ t.im.straps = straps) ∧
    (∀ straps : Fin 4, l.sy.held = false ∨ l.sy.dead = true → exec (.resetRelease i straps) s = .next s)

/-- On a lane out of reset: PLL_LOCK in the first phase of BOOT locks the PLL and goes on to the VCORE request or the sweep; at a wake it
continues the wake, and at any other time it changes nothing. On a lane in operation: the end of the sweep in the sweep phase stores its
results and starts the loader; the end of the load in the load phase tries the slots; the first boundary tick after the load, and no other
time, locks the image, starts ARMING and its proofs, evaluates the postures, and sends CFGHASH of the first outer cycle; each of the three
in another phase changes nothing; the check of an axis that runs ends with its proof where no comparator stayed silent, the gate ball read
below 2 V and the high-side supply is present, and otherwise stores SF_GDCHK, sets the failure bit and raises its fault; without a check of
the axis running it changes nothing (R305, R500, R502, R528, R531, R546). -/
def Obligations.BootCommandsComplete : Prop :=
  ∀ (s : State) (i : LaneId),
    let l := s.lane i
    (s.ready i .wake → l.mode = mBoot → l.im.phase = .lock →
      exec (.pllLock i) s = .next (s.setLane i
        (let a := ((l.set CK_STAT_LOCK).wr CK_STAT_DIV 1).calGo
         let b := { a with pw := { a.pw with freqAt := a.slow * 3125 / 2 } }
         if b.rd PM_VACK_MV < 750 ∧ b.pmOn = true then ({ b with im := { b.im with phase := .vcore } }).pmBoot else b.bootNext))) ∧
    (s.ready i .wake → ¬ (l.mode = mBoot ∧ l.im.phase = .lock) →
      (l.pw.step = .lock → exec (.pllLock i) s = .next (s.setLane i l.wakeLock)) ∧ (l.pw.step ≠ .lock → exec (.pllLock i) s = .next s)) ∧
    (s.ready i .clocked →
      (l.im.phase = .sweep →
        ∀ fails : BitVec 18, exec (.sweepEnd i fails) s = .next (s.setLane i (l.sweepResults fails.toNat).bootLoad)) ∧
      (l.im.phase = .load → ∀ q : List (Nat × List Byte),
        let src : LoadSrc := ⟨l.on SY_IMGSTAT_SRC, q⟩
        let order := l.slotOrder src
        exec (.imageLoadEnd i q) s = .next (s.setLane i
          ((l.imgClear.each ([0, 1].filter (fun n => !order.contains n)) (fun l n => l.imgReport n (some { code := 0x01 }))).trySlots
            src order false 0))) ∧
      (l.im.phase ≠ .sweep → ∀ fails : BitVec 18, exec (.sweepEnd i fails) s = .next s) ∧
      (l.im.phase ≠ .load → ∀ q : List (Nat × List Byte), exec (.imageLoadEnd i q) s = .next s) ∧
      (l.im.phase = .loaded → l.mode = mBoot → l.tickHere = true → exec (.imageLock i) s =
        .next (s.setLane i ((((((((l.glBoundary 0 0).lockImage).armStart).proofStart).modeFollow).postureStep).newCycle).hashSend))) ∧
      (l.im.phase ≠ .loaded ∨ l.mode ≠ mBoot ∨ l.tickHere = false → exec (.imageLock i) s = .next s) ∧
      (∀ (x : Ax) (comp : BitVec 6) (gate : Bool), l.im.gdRun.testBit x.idx = false → exec (.gateDriverCheckEnd i x comp gate) s = .next s) ∧
      (∀ (x : Ax) (comp : BitVec 6) (gate : Bool), l.im.gdRun.testBit x.idx = true →
        let a := { l with im := { l.im with gdRun := l.im.gdRun - 2 ^ x.idx } }
        let cp := decide (a.rd (GD_CPMON_MV x) < a.cpuvLevel x)
        (comp.toNat = 0 ∧ gate = false ∧ cp = false →
          exec (.gateDriverCheckEnd i x comp gate) s = .next (s.setLane i (a.provenBy (gdProof x) true))) ∧
        (¬ (comp.toNat = 0 ∧ gate = false ∧ cp = false) →
          let b := a.wr ⟨SF_GDCHK_COMP0.addr, 8 * x.idx, 8⟩ (comp.toNat + (if cp then 64 else 0) + (if gate then 128 else 0))
          exec (.gateDriverCheckEnd i x comp gate) s = .next (s.setLane i
            (((b.set (gdFail x)).raise srcSF 7 clsUC none (b.dataOf SF_GDCHK_COMP0.addr)).event 191)))))

/-- On a lane in operation with FB ON: a new accepted level of a channel is kept with its time and evaluated, and under a test of the input kept
alone; one that comes less than FILT µs after the last cannot have been accepted and does nothing (the command tells accepted levels: the
model's choice, log entry 57); a discrepancy that has lasted DISC milliseconds latches DISCF with STATE 0 and raises its fault, and an
earlier one, or on an input that is not enabled, under test or latched, does nothing; DISCCLR acts on each written input; an injection is
queued outside BOOT while none runs and ignored otherwise; each half of a test ends at its due instant and not before. While the lane is
held, its clocks stand or FB is not ON, a new level is kept alone (the model's choice, log entry 57). In operation: SY_ARMTIME that has
expired in ARMING with a proof open asks for SAFE-HOLD and raises kind 3 once; with arming complete it does no more than judge the proofs;
before it expires or outside ARMING it does nothing; VBAT low in a live mode asks for SAFE-HOLD at the next boundary and in any other does
nothing (the model's choice, log entry 37) (R13, R49, R540 to R545; Table 1.2). -/
def Obligations.SafetyInputCommandsComplete : Prop :=
  ∀ (s : State) (i : LaneId),
    let l := s.lane i
    (s.ready i (.domain .fb) →
      (∀ (n : Fin 4) (chanB level : Bool),
        let v := l.saf.get n
        let a := if level = (if chanB then v.b else v.a) then l
          else l.setSaf n (if chanB then { v with b := level, atB := some l.now } else { v with a := level, atA := some l.now })
        (l.safAccepts n chanB level = false → exec (.safetyInputChange i n chanB level) s = .next s) ∧
        (l.safAccepts n chanB level = true → a.injecting n = false → exec (.safetyInputChange i n chanB level) s = .next (s.setLane i (a.safLevels n))) ∧
        (l.safAccepts n chanB level = true → a.injecting n = true → exec (.safetyInputChange i n chanB level) s = .next (s.setLane i a))) ∧
      (∀ (n : Fin 4) t, (l.saf.get n).disc = some t → l.on (SF_SAFCFG_EN n) = true → l.injecting n = false → l.on (safStat n 5) = false →
        t + l.rd (SF_SAFCFG_DISC n) * msec ≤ l.now →
        exec (.safetyDiscrepancy i n) s = .next (s.setLane i
          ((((l.set (safStat n 5)).clr (safStat n 0)).raise srcSF 5 clsUC none (2 ^ n.val)).event 190))) ∧
      (∀ (n : Fin 4), (∀ t, (l.saf.get n).disc = some t → l.on (SF_SAFCFG_EN n) = false ∨ l.injecting n = true ∨
          l.on (safStat n 5) = true ∨ l.now < t + l.rd (SF_SAFCFG_DISC n) * msec) → exec (.safetyDiscrepancy i n) s = .next s) ∧
      (∀ m : BitVec 4, exec (.sfDiscclr i m) s = .next (s.setLane i
        (l.each ((List.range 4).filter m.toNat.testBit) (fun l n =>
          if l.on (safStat n 5) ∧ l.disagree n = false then (l.clr (safStat n 5)).safEval n else l)))) ∧
      (∀ m : BitVec 4, l.mode ≠ mBoot → l.saf.inj = none →
        exec (.sfInjgo i m) s = .next (s.setLane i (l.injQueue ((List.range 4).filter m.toNat.testBit)))) ∧
      (∀ m : BitVec 4, l.mode = mBoot ∨ l.saf.inj.isSome = true → exec (.sfInjgo i m) s = .next s) ∧
      (∀ ok, (∀ j, l.saf.inj = some j → l.now < j.due) → exec (.injectionPhaseEnd i ok) s = .next s) ∧
      (∀ (j : Inject) (ok : Bool), l.saf.inj = some j → j.due ≤ l.now →
        let a := if ok || j.failed then l else l.injFail j.input j.chanB
        let k := { j with due := j.due + injPhase, failed := j.failed || !ok }
        (j.release = false → exec (.injectionPhaseEnd i ok) s = .next (s.setLane i
          { a with saf := { a.saf with inj := some { k with release := true } } })) ∧
        (j.release = true → j.chanB = false → exec (.injectionPhaseEnd i ok) s = .next (s.setLane i
          { a with saf := { a.saf with inj := some { k with chanB := true, release := false, failed := false } } })) ∧
        (j.release = true → j.chanB = true → exec (.injectionPhaseEnd i ok) s = .next (s.setLane i (a.injDone j.input))))) ∧
    (∀ (n : Fin 4) (chanB level : Bool), s.part.hasLane i = true → l.clocks = false ∨ l.domOn .fb = false →
      exec (.safetyInputChange i n chanB level) s = .next (s.setLane i (l.safPin n chanB level))) ∧
    (s.ready i .clocked →
      (l.mode = mArming → l.armEnd ≤ l.now → (l.armProofs).sy.reqHold ≠ some .armTimeout → (l.armProofs).armComplete = false →
        exec (.armTimeout i) s = .next (s.setLane i
          (({ l.armProofs with sy := { (l.armProofs).sy with reqHold := some .armTimeout } }).raise srcSY 3 clsUC none 0))) ∧
      (l.mode = mArming → l.armEnd ≤ l.now → (l.armProofs).sy.reqHold = some .armTimeout ∨ (l.armProofs).armComplete = true →
        exec (.armTimeout i) s = .next (s.setLane i l.armProofs)) ∧
      (l.mode ≠ mArming ∨ l.now < l.armEnd → exec (.armTimeout i) s = .next s) ∧
      (modeLive l.mode = false → exec (.vbatLow i) s = .next s) ∧
      (modeLive l.mode = true →
        exec (.vbatLow i) s = .next (s.setLane i { l with sy := { l.sy with reqHold := some .vbat } })))

/-- On a lane in operation: an outer-cycle boundary at an instant at which the lane has its tick does what comes before the lane transition,
takes the transition (OwnModeFollowsItsTable says which), and then, in BOOT, evaluates the postures, and otherwise notes that an outer cycle
has ended, sets SY_MODE.LOCAL and does the rest of the boundary; in both a new outer cycle of once-per-cycle kinds begins; at any other
instant it does nothing. In DEGRADED with no hold asked for, a budget that is used up asks for SAFE-HOLD with kind 1, a winding budget that
is used up with kind 2, and else nothing happens; a die above SY_THOLD for 10 ms in a live mode asks for it, and not before; a token holder
for which no channel of any lane receives a fresh vehicle command notes it, and no other lane does; an auto-restart that is due at the tick
after a boundary in SAFE-HOLD enters BOOT with ARUSED, or, while a dump runs, does nothing and does the same when the dump ends; and
otherwise nothing happens; a partitioned lane whose time has come at a tick goes on where it is alone or outranks the other lane seen
toggling, and else enters SAFE-HOLD with kind 4 from a live mode and keeps another mode; before its time it does nothing. That the die hold
is judged in live modes alone is the model's choice (log entry 37), and so is when an auto-restart is due (log entry 52) (R18, R20, R23,
R24, R27, R29, R40, R49). -/
def Obligations.ModeCommandsComplete : Prop :=
  ∀ (s : State) (i : LaneId), s.ready i .clocked →
    let l := s.lane i
    (∀ d0 d1 : Fin 23,
      let a := (l.boundaryHead d0 d1).modeStep
      (l.tickHere = true → a.mode = mBoot → exec (.outerCycleBoundary i d0 d1) s = .next (s.setLane i a.postureStep.newCycle)) ∧
      (l.tickHere = true → a.mode ≠ mBoot → exec (.outerCycleBoundary i d0 d1) s =
        .next (s.setLane i (((Lane.wr { a with sy := { a.sy with cycled := true } } SY_MODE_LOCAL a.localCauses).boundaryTail (s.cmdFresh i)).newCycle))) ∧
      (l.tickHere = false → exec (.outerCycleBoundary i d0 d1) s = .next s)) ∧
    (l.mode = mDegraded → l.sy.reqHold = none → l.rd SY_DEGBUD_S * 1000 ≤ l.rd SY_DEGUSED_MS + l.degLoose / msec →
      exec (.degradedTimeExpiry i) s = .next (s.setLane i
        (Lane.raise { l with sy := { l.sy with reqHold := some .degBudget } } srcSY 1 clsUC none 0))) ∧
    (l.mode = mDegraded → l.sy.reqHold = none → l.rd SY_DEGUSED_MS + l.degLoose / msec < l.rd SY_DEGBUD_S * 1000 →
      (l.sy.thermRem = some 0 → exec (.degradedTimeExpiry i) s =
        .next (s.setLane i (Lane.raise { l with sy := { l.sy with reqHold := some .windTherm } } srcSY 2 clsUC none 0))) ∧
      (l.sy.thermRem ≠ some 0 → exec (.degradedTimeExpiry i) s = .next s)) ∧
    (l.mode ≠ mDegraded ∨ l.sy.reqHold.isSome = true → exec (.degradedTimeExpiry i) s = .next s) ∧
    ((∀ t, l.sy.hotSince = some t → modeLive l.mode = false ∨ l.now < t + 10 * msec) → exec (.dieTemperatureHold i) s = .next s) ∧
    (∀ t, l.sy.hotSince = some t → modeLive l.mode = true → t + 10 * msec ≤ l.now →
      exec (.dieTemperatureHold i) s = .next (s.setLane i { l with sy := { l.sy with reqHold := some .temperature } })) ∧
    (l.holdsToken = false ∨ s.cmdFresh i = true → exec (.commandAgeLimit i) s = .next s) ∧
    (l.holdsToken = true → s.cmdFresh i = false →
      exec (.commandAgeLimit i) s = .next (s.setLane i { l with sy := { l.sy with cmdAged := true } })) ∧
    (l.sy.autoDue = true → l.sy.autoTick = true → l.atTick = true → l.mode = mSafeHold →
      (l.dumping = true → exec (.autoRestart i) s = .next s ∧ l.dumpOver = l.enterBoot.set SY_MODE_ARUSED) ∧
      (l.dumping = false → exec (.autoRestart i) s = .next (s.setLane i (l.enterBoot.set SY_MODE_ARUSED)))) ∧
    (l.sy.autoDue = false ∨ l.sy.autoTick = false ∨ l.atTick = false ∨ l.mode ≠ mSafeHold → exec (.autoRestart i) s = .next s) ∧
    ((∀ t, l.sy.partAt = some t → l.now < t + l.partWait ∨ l.atTick = false) → exec (.partitionDecision i) s = .next s) ∧
    (∀ t, l.sy.partAt = some t → t + l.partWait ≤ l.now → l.atTick = true →
      (l.partContinues = true → exec (.partitionDecision i) s = .next (s.setLane i
        { l with sy := { l.sy with partAt := none, partGone := true } })) ∧
      (l.partContinues = false → modeLive l.mode = true → exec (.partitionDecision i) s = .next (s.setLane i
        ((Lane.raise { l with sy := { l.sy with partAt := none } } srcSY 4 clsUC none 0).safeHold false).modeFollow)) ∧
      (l.partContinues = false → modeLive l.mode = false → exec (.partitionDecision i) s =
        .next (s.setLane i { l with sy := { l.sy with partAt := none } })))

/-- On a lane in operation that takes commits (out of BOOT with its first outer cycle over, CP ON, its pair not stopped): a boundary commit sets
the marks, unless one is in progress, and drains the entries that are left in order, those before an uncorrectable error and before a pause,
with the corrected errors noted; where a release takes the lane into BOOT, the rest is withdrawn; where a pause leaves entries, the commit
stays in progress (that the next store or commit completes it is the model's choice, log entry 49); an uncorrectable error stops the pair
with kind 3; and else the commit ends. A store that finds the buffer full, or a commit in progress, gets its intermediate commit first and
then enters the buffer if the pair still lives and there is room. Where no commits are taken, or the store finds room, or goes to no place,
the two commands do nothing. With CP ON: a mismatch while JOINED and executing is rolled back after a commit in progress has ended, in the
dump context hands over to the dump engine with case 3, and in any other state of the pair does nothing; SPLIT where Table 7.6 allows it
splits the pair and else is ignored with SPLITREJ; REJOIN of a split pair whose shadow is sound and not under test rejoins it and else is
ignored with REJREJ, and a SPLIT released with a REJOIN is taken as REJOIN; without commits neither has an effect (both come as requests of
a commit of their own, the model's choice, as is that requests which two writes of one commit release act as REJOIN: log entry 49); CNTCLR
clears the counters (R263 to R283, R326, R340). -/
def Obligations.PairCommandsComplete : Prop :=
  ∀ (s : State) (i : LaneId),
    let l := s.lane i
    (s.ready i .clocked → l.commits = true →
      (∀ (e : DrainEcc) (m : Lane) (c : Commit),
        (l.pc.mid = some c ∧ m = l) ∨ (l.pc.mid = none ∧ c = l.commitOpen true ∧ m = l.commitMark true) →
        let r := drainSplit m.drainLeft e.failed
        let es := match e.pause with
          | some n => r.1.take n
          | none => r.1
        let d := (({ m with pc := { m.pc with drained := m.pc.drained ++ es.map Prod.fst } }).drainNote es e.corrected).drain es
        (d.sy.boots ≠ m.sy.boots → exec (.boundaryCommit i e) s = .next (s.setLane i d)) ∧
        (d.sy.boots = m.sy.boots → es.length < r.1.length →
          exec (.boundaryCommit i e) s = .next (s.setLane i { d with pc := { d.pc with mid := some c } })) ∧
        (d.sy.boots = m.sy.boots → r.1.length ≤ es.length →
          (∀ k st rest, r.2 = (k, st) :: rest → exec (.boundaryCommit i e) s =
            .next (s.setLane i (Lane.raise { d with pc := { d.pc with mid := none, core := .stopped } } srcPC 3 clsFT none k))) ∧
          (r.2 = [] → exec (.boundaryCommit i e) s = .next (s.setLane i (d.commitEnd c))))) ∧
      (∀ e (a n : Nat) (v : Word), (l.place a n).isSome = true → l.pc.mid.isSome = true ∨ l.bufferFull a = true →
        let c := l.commitRun false e
        (c.pc.mid = none → c.pairLives = true → c.bufferFull a = false →
          exec (.intermediateCommit i e a n v) s = .next (s.setLane i (Lane.storeIn { c with busErr := false } a n v))) ∧
        (c.pc.mid.isSome = true ∨ c.pairLives = false ∨ c.bufferFull a = true → exec (.intermediateCommit i e a n v) s = .next (s.setLane i c))) ∧
      (∀ e (a n : Nat) (v : Word), (l.place a n).isNone = true ∨ (l.pc.mid = none ∧ l.bufferFull a = false) →
        exec (.intermediateCommit i e a n v) s = .next s)) ∧
    (s.ready i .clocked → l.commits = false → ∀ e (a n : Nat) (v : Word),
      exec (.boundaryCommit i e) s = .next s ∧ exec (.intermediateCommit i e a n v) s = .next s) ∧
    (s.ready i (.domain .cp) →
      (∀ (p : Fin 5) (slot : Bool) (r : Fin 128) (a : Word),
        (l.on PC_STAT_PAIR = false → l.pairLives = true →
          exec (.pairMismatch i p slot r a) s = .next (s.setLane i ((l.midDone).rollback p slot r a))) ∧
        (l.on PC_STAT_PAIR = false → l.pc.core = .dump → exec (.pairMismatch i p slot r a) s = .next (s.setLane i (l.dcxHand 3))) ∧
        (l.on PC_STAT_PAIR = true ∨ (l.pairLives = false ∧ l.pc.core ≠ .dump) → exec (.pairMismatch i p slot r a) s = .next s)) ∧
      (l.commits = false → exec (.pcSplit i) s = .next s ∧ exec (.pcRejoin i) s = .next s) ∧
      (l.commits = true → l.pc.reqRejoin = true → exec (.pcSplit i) s = exec (.pcRejoin i) s) ∧
      (l.commits = true → l.pc.reqRejoin = false →
        let a := { l with pc := { l.pc with reqSplit := false, reqRejoin := false } }
        (a.on PC_STAT_PAIR = false → a.maySplit = true → exec (.pcSplit i) s = .next (s.setLane i (a.pairSet true))) ∧
        (a.on PC_STAT_PAIR = true ∨ a.maySplit = false →
          exec (.pcSplit i) s = .next (s.setLane i (a.pairIgnored PC_STAT_SPLITREJ)))) ∧
      (l.commits = true → let a := { l with pc := { l.pc with reqSplit := false, reqRejoin := false } };
        (a.on PC_STAT_PAIR = true → a.on PC_STAT_SHBIST = false → l.pc.shadowOk = true →
          exec (.pcRejoin i) s = .next (s.setLane i (a.pairSet false))) ∧
        (a.on PC_STAT_PAIR = false ∨ a.on PC_STAT_SHBIST = true ∨ l.pc.shadowOk = false →
          exec (.pcRejoin i) s = .next (s.setLane i (a.pairIgnored PC_STAT_REJREJ)))) ∧
      exec (.pcCntclr i) s = .next (s.setLane i
        (((((l.wr PC_RBCNT_TOTAL 0).setReg PC_CKCNT_COMMITS.addr 0#64).wr PC_SBUSE_HWM 0).wr PC_CKDUR_MAX_NS 0).setReg
          PC_MMINFO_VALID.addr 0#64)))

/-- On a lane in operation with CP ON. A write that takes effect now and whose region takes it, outside a domain that is not ON and with any
slice of the memory it touches stopped first: TCM and MRAM take the bytes (MRAM by the rules of its controller), the storage window refuses
it with its fault, a window, a table or a register takes it by the rule of its block, one half of a 64-bit register follows the rule of its
block; a place without a register takes nothing; in a domain that is not ON it waits while the domain is on its way to ON, and else is an
off-access; an access that no region takes ends with a bus error, and any other clears the mark of one; a DIVGO among what is written takes
effect with it (that a write given as a command has that effect at once is the model's choice, log entry 35, and that TCM takes the bytes
least significant first is log entry 9). A write that the core issues goes into the store buffer while the pair executes (after the
intermediate commit it may need), past it in the dump context, and has no effect in any other state of the core. In the life-cycle states
that grant core debug, halt stops a running core, resume runs a halted one, a step changes nothing by itself (the model's choice, log entry
59, with the debugger's path), and a read or a write goes straight to the bus with the core in reset, past the buffer in the dump context,
and by way of the core otherwise; in any other life-cycle state a core-debug request changes nothing (R265, R338, R489, R578, R579; Table
14.1). -/
def Obligations.AccessCommandsComplete : Prop :=
  ∀ (s : State) (i : LaneId), s.ready i (.domain .cp) →
    let l := s.lane i
    (∀ (a n : Nat) (v : Word),
      (l.place a n = none → exec (.registerWrite i false a n v) s = .next (s.setLane i (Lane.divApply { l with rdata := 0#64, busErr := true }))) ∧
      (∀ p d, l.place a n = some p → l.downAt a p = some d → exec (.registerWrite i false a n v) s =
        .next (s.setLane i ((Lane.downAccess { l with busErr := false } d (wrAcc a n v)).divApply))) ∧
      (∀ p, l.place a n = some p → l.downAt a p = none →
        let m := Lane.accessed { l with busErr := false } a n
        (p = .tcm → exec (.registerWrite i false a n v) s = .next (s.setLane i ((m.setBytes a (leBytes n v.toNat)).divApply))) ∧
        (p = .storage → exec (.registerWrite i false a n v) s = .next (s.setLane i (m.storageReject.divApply))) ∧
        (p = .mram → exec (.registerWrite i false a n v) s = .next (s.setLane i ((m.mramWrite a n v).divApply))) ∧
        (∀ w, p = .window w → exec (.registerWrite i false a n v) s = .next (s.setLane i ((m.winWrite w a n v).divApply))) ∧
        (∀ x, p = .table x → exec (.registerWrite i false a n v) s = .next (s.setLane i ((m.leOwWrite x a n v).divApply))) ∧
        (∀ b x d, p = .reg b x d → exec (.registerWrite i false a n v) s = .next (s.setLane i ((m.regWrite b x (a % 0x10000) a n v).divApply))) ∧
        (∀ b x w, p = .half b x w → exec (.registerWrite i false a n v) s = .next (s.setLane i ((m.halfWrite b x w v).divApply))) ∧
        (p = .nothing → exec (.registerWrite i false a n v) s = .next (s.setLane i (m.divApply)))) ∧
      (l.pairLives = true → exec (.registerWrite i true a n v) s = .next (s.setLane i (l.coreStore drainClean a n v))) ∧
      ((l.place a n).isSome = true → l.pairLives = true → l.pc.mid = none → l.bufferFull a = false →
        exec (.registerWrite i true a n v) s = .next (s.setLane i (Lane.storeIn { l with busErr := false } a n v))) ∧
      (l.pc.core = .dump → exec (.registerWrite i true a n v) s = .next (s.setLane i (l.dumpWrite a n v))) ∧
      (l.pairLives = false → l.pc.core ≠ .dump → exec (.registerWrite i true a n v) s = .next s)) ∧
    (¬ (l.rd LC_STAT_STATE = 0 ∨ l.rd LC_STAT_STATE = 1 ∨ l.rd LC_STAT_STATE = 3) → ∀ op, exec (.coreDebug i op) s = .next s) ∧
    (l.rd LC_STAT_STATE = 0 ∨ l.rd LC_STAT_STATE = 1 ∨ l.rd LC_STAT_STATE = 3 →
      (l.pc.core = .running → exec (.coreDebug i .halt) s = .next (s.setLane i { l with pc := { l.pc with core := .halted } })) ∧
      (l.pc.core ≠ .running → exec (.coreDebug i .halt) s = .next s) ∧
      (l.pc.core ≠ .halted → exec (.coreDebug i .resume) s = .next s) ∧
      (l.pc.core ≠ .held → ∀ (a n : Nat) (v : Word),
        exec (.coreDebug i (.read a n)) s = .next (s.setLane i (l.coreLoad a n)) ∧
        (l.pc.core = .dump → exec (.coreDebug i (.write a n v)) s = .next (s.setLane i (l.dumpWrite a n v))) ∧
        (l.pc.core ≠ .dump → exec (.coreDebug i (.write a n v)) s = .next (s.setLane i (l.coreStore drainClean a n v)))) ∧
      (l.pc.core = .halted → exec (.coreDebug i .resume) s = .next (s.setLane i { l with pc := { l.pc with core := .running } })) ∧
      exec (.coreDebug i .step) s = .next s ∧
      (l.pc.core = .held → ∀ (a n : Nat) (v : Word),
        exec (.coreDebug i (.read a n)) s = .next (s.setLane i (l.devRead a n)) ∧
        exec (.coreDebug i (.write a n v)) s = .next (s.setLane i ((l.devWrite a n v).divApply))))

/-- From every state, step answers a next state in which the mode of each lane is what it was or has followed a row of Table 1.2, and in which a
restart that waits for the end of a dump waits only in SAFE-HOLD or SERVICE if it did before: to BOOT at a power-up, a reset or its release,
the end of an OTP write, a sweep, or from SAFE-HOLD or SERVICE; BOOT to ARMING at the lock of the image; to SAFE-HOLD at the acceptance of a
fault message, at a boundary or by the partition rule in ARMING, OPERATE and DEGRADED; the other rows at a boundary. At a boundary the head
leaves the mode, and the mode is then: SAFE-HOLD from a live mode where a hold waits or SAFE-HOLD is announced; else, where the host's
restart waits in SAFE-HOLD or SERVICE, BOOT unless a dump runs; else the same where an auto-restart stands; else, where SERVICE waits and
the lane may enter it, SERVICE; else from ARMING, once the proofs are done and the vote is taken, the announced OPERATE or DEGRADED,
DEGRADED with a local cause; between OPERATE and DEGRADED as R24 says. A mode announced in BOOT, SAFE-HOLD or SERVICE counts as none. That a
hold comes before a restart and a restart before a service request is the model's choice (log entry 52). -/
def Obligations.OwnModeFollowsItsTable : Prop :=
  let waitsRight := fun s : State => ∀ i, (s.lane i).fc.restartWait = true → (s.lane i).mode = mSafeHold ∨ (s.lane i).mode = mService
  (∀ s t : State, step s = .next t → (waitsRight s → waitsRight t) ∧
    ∀ i, (t.lane i).mode = (s.lane i).mode ∨ modeRow s.pending.head? (s.lane i).mode (t.lane i).mode = true) ∧
  (∀ (s : State) (i : LaneId) (d0 d1 : Fin 23), s.ready i .clocked → (s.lane i).tickHere = true →
    let l := s.lane i
    let h := l.boundaryHead d0 d1
    let ann := if h.sy.annHeard = true then h.rd SY_MODE_ANN else 7
    let own := h.localCauses ≠ 0
    let stays := l.mode
    ∃ t, exec (.outerCycleBoundary i d0 d1) s = .next (s.setLane i t) ∧ h.mode = l.mode ∧
      t.mode =
        if modeLive l.mode = true ∧ (h.sy.reqHold.isSome = true ∨ ann = mSafeHold) then mSafeHold
        else if h.sy.reqRestart = true ∧ (l.mode = mSafeHold ∨ l.mode = mService) then (if h.dumping = false then mBoot else stays)
        else if h.autoStands = true then stays
        else if h.sy.reqService = true ∧ h.mayService = true then mService
        else if l.mode = mArming then
          (if h.on SF_ARMSTAT_DONE = true ∧ h.rd GL_STAT_VOTE ≠ 0 ∧ (ann = mOperate ∨ ann = mDegraded) then
            (if own then mDegraded else ann)
          else stays)
        else if l.mode = mOperate then (if own ∨ ann = mDegraded then mDegraded else stays)
        else if l.mode = mDegraded then (if ¬ own ∧ ann = mOperate then mOperate else stays)
        else stays)

/-- On a lane in operation with CP ON: a port that had block lock loses it, with its count, its loop-back, kind 1 and the event; block lock sets
LOCK; a locked port that is not up comes up with its delay, its route to be restored and CFGHASH owed; a message for the lane on the other
port is passed on with FWD set, one for others is left alone, and one that is not intact or malformed is discarded and counted. SYNC is
passed on to a port that forwards; it moves nothing where it is not from the token holder, before the first tick, or indirect after a direct
one, and else gives the error, the move of the tick (at most 50 ns, or a step) and ALIGN; a tick that the move would bring before the
present instant is due at once, and the tick after it takes the rest (the model's choice, log entry 33). A due instant that has come judges
each other lane; an election window that has ended decides an open vote, and the highest eligible lane claims and any other follows; a vote
still open at its timeout fails; a handover whose due instant has passed returns to LEADER with HANDFAIL and kind 10; each of these four,
and a link command without its change, does nothing otherwise. ELIG, INELIG and CNTCLR act. ABDICATE and HANDGO come with the commit signal
of the boundary commit that releases them, and without commits have no effect (the model's choice, log entry 32). That the first SYNC after
ARMING moves the tick by the whole error is the model's reading (log entry 33). In BOOT before its first PLL lock no port trains (R537)
(R288 to R290, R293, R294, R297, R302 to R305, R591). -/
def Obligations.GuylineLinkCommandsComplete : Prop :=
  ∀ (s : State) (i : LaneId), s.ready i (.domain .cp) →
    let l := s.lane i
    (∀ p : Port,
      (l.rd (GL_LINK_LOCK p.idx) ≠ 0 →
        let a := ((l.clr (GL_LINK_LOCK p.idx)).clr (GL_LINK_UP p.idx)).bump (GL_LINK_LOSS p.idx)
        let b := match p with
          | .next => { a with gl := { a.gl with restore0 := false } }
          | .prev => { a with gl := { a.gl with restore1 := false } }
        exec (.linkLossOfLock i p) s = .next (s.setLane i
          (((b.set (GL_LINK_LOOPBK p.idx)).raise srcGL 1 clsCE none p.idx).event 176))) ∧
      (l.training = true → exec (.blockLock i p) s = .next (s.setLane i (l.set (GL_LINK_LOCK p.idx)))) ∧
      (l.training = false → exec (.blockLock i p) s = .next s) ∧
      (∀ ns : Byte, l.training = true → l.on (GL_LINK_LOCK p.idx) = true → l.rd (GL_LINK_UP p.idx) = 0 →
        let a := (l.set (GL_LINK_UP p.idx)).wr (GL_LINK_DELAY p.idx) ns.toNat
        exec (.linkUp i p ns) s = .next (s.setLane i
          (match p with
          | .next => { a with gl := { a.gl with restore0 := true, hashOwed := true } }
          | .prev => { a with gl := { a.gl with restore1 := true, hashOwed := true } }))) ∧
      (l.rd (GL_LINK_LOCK p.idx) = 0 → exec (.linkLossOfLock i p) s = .next s) ∧
      (∀ ns : Byte, l.training = false ∨ l.on (GL_LINK_LOCK p.idx) = false ∨ l.rd (GL_LINK_UP p.idx) ≠ 0 → exec (.linkUp i p ns) s = .next s) ∧
      (∀ m : GlMsg,
        let bad := m.intact = false ∨ m.measured = false ∨ m.route / 4 % 4 ≠ 0 ∨ 128 ≤ m.route ∨ 2 < m.route % 4
        let other := (m.route / 16).testBit l.me.code = true ∨ (m.route / 16).testBit (l.neighbour p.other).code = false
        (bad → exec (.messageForward i p m) s = .next (s.setLane i l.glDiscard)) ∧
        (¬ bad → other → exec (.messageForward i p m) s = .next s) ∧
        (¬ bad → ¬ other →
          let a := (Lane.set { l with gl := { l.gl with fwdNow := true } } (GL_LINK_FWD 0)).set (GL_LINK_FWD 1)
          exec (.messageForward i p m) s = .next (s.setLane i (if a.on (GL_LINK_UP p.other.idx) then a.glReady ⟨p.other, true, m⟩ else a)))) ∧
      (∀ (j : LaneId) (dly : BitVec 16) (own : Fin 64),
        let direct := decide (l.neighbour p = j)
        let a := if l.on (GL_LINK_FWD p.idx) = true ∧ direct = true ∧ l.on (GL_LINK_UP p.other.idx) = true
          then l.glSync p.other j ((dly.toNat + l.rd (GL_LINK_DELAY p.idx) + own.val) % 65536) else l
        (a.gl.tickAt = none → exec (.syncReceive i p j dly own) s = .next (s.setLane i a)) ∧
        (∀ tick, a.gl.tickAt = some tick →
          (a.rd GL_STAT_LEADER ≠ j.code ∨ j = a.me ∨ (direct = false ∧ a.gl.syncDirect = true) →
            exec (.syncReceive i p j dly own) s = .next (s.setLane i a)) ∧
          (a.rd GL_STAT_LEADER = j.code → j ≠ a.me → (direct = true ∨ a.gl.syncDirect = false) →
            let c : Int := outerCycle a.prof
            let e0 : Int := (a.now : Int) - (ofNs (dly.toNat + l.rd (GL_LINK_DELAY p.idx)) : Int) - (tick : Int)
            let e := (e0 + c / 2) % c - c / 2
            let move : Int := if a.gl.step then e else if 80 < e then 80 else if e < -80 then -80 else e
            let b := { a with gl := { a.gl with syncErr := e, step := false, syncDirect := a.gl.syncDirect || direct } }
            let m := { b with gl := { b.gl with adjust := move, carry := 0 } }
            let near := decide (-160 ≤ e) && decide (e ≤ 160)
            (a.gl.step = true ∨ m.tickHere = true ∨ a.gl.adjust ≤ move ∨ a.now < tick + 25 * usec →
              exec (.syncReceive i p j dly own) s = .next (s.setLane i (m.put GL_STAT_ALIGN near))) ∧
            (a.gl.step = false → exec (.syncReceive i p j dly own) s = .next (s.setLane i ((b.tickMove move).put GL_STAT_ALIGN near))))))) ∧
    ((∀ t, l.gl.dueAt = some t → l.now < t) → exec (.heartbeatDue i) s = .next s) ∧
    (∀ t, l.gl.dueAt = some t → t ≤ l.now →
      let quiet := l.others.all (fun j => !(l.gl.peer j).fresh)
      let n := if quiet then l.gl.alone + 1 else 0
      let part := decide (n = 2) && l.others.any (fun j => (l.gl.peer j).known) && !l.sy.partGone && modeLive l.mode
      let a := { l with gl := { l.gl with dueAt := none, alone := n }
                        sy := if part then { l.sy with partAt := some t } else l.sy }
      exec (.heartbeatDue i) s = .next (s.setLane i (a.each a.others Lane.heartMiss))) ∧
    (l.rd GL_STAT_TSTATE = tsCandidate → l.rd GL_CFG_ELECTWIN ≤ l.gl.armCycles →
      let a := if l.rd GL_STAT_VOTE = 0 then
        l.voteSet (l.hashes.length = 1 || (l.hashes.any (fun p => p.1 ≠ l.me && p.2 = l.ownHash))) else l
      exec (.electionWindowEnd i) s = .next (s.setLane i (if a.highest = true then a.claim else a.wr GL_STAT_TSTATE tsFollower))) ∧
    (l.rd GL_STAT_TSTATE ≠ tsCandidate ∨ l.gl.armCycles < l.rd GL_CFG_ELECTWIN → exec (.electionWindowEnd i) s = .next s) ∧
    (l.mode ≠ mArming ∨ l.rd GL_STAT_VOTE ≠ 0 ∨ l.rd GL_STAT_TSTATE ≠ tsFollower ∨ l.gl.armCycles < l.rd GL_CFG_ELECTWIN ∨
      l.holderHash ≠ none → exec (.voteTimeout i) s = .next s) ∧
    ((∀ t, l.gl.handDue = some t → l.now < t ∨ l.rd GL_STAT_TSTATE ≠ tsHanding) → exec (.handoverTimeout i) s = .next s) ∧
    (l.mode = mArming → l.rd GL_STAT_VOTE = 0 → l.rd GL_STAT_TSTATE = tsFollower → l.rd GL_CFG_ELECTWIN ≤ l.gl.armCycles →
      l.holderHash = none → exec (.voteTimeout i) s = .next (s.setLane i (l.voteSet false))) ∧
    (∀ t, l.gl.handDue = some t → t ≤ l.now → l.rd GL_STAT_TSTATE = tsHanding →
      let a := Lane.wr { l with gl := { l.gl with handDue := none } } GL_STAT_TSTATE tsLeader
      exec (.handoverTimeout i) s = .next (s.setLane i
        (((a.set GL_STAT_HANDFAIL).raise srcGL 10 clsCE none a.gl.handTo).tokenCheck))) ∧
    exec (.glElig i) s = .next (s.setLane i ((l.clr GL_STAT_INELIG).tokenCheck)) ∧
    exec (.glInelig i) s = .next (s.setLane i ((l.set GL_STAT_INELIG).tokenCheck)) ∧
    exec (.glCntclr i) s = .next (s.setLane i (((l.setReg GL_CNT_CRC.addr 0#64).wr (GL_LINK_LOSS 0) 0).wr (GL_LINK_LOSS 1) 0)) ∧
    (l.commits = true →
      exec (.glAbdicate i) s = .next (s.setLane i (Lane.glSignal { l with gl := { l.gl with abdicate := true } })) ∧
      ∀ t : Fin 4, exec (.glHandgo i t) s = .next (s.setLane i (Lane.glSignal { l with gl := { l.gl with handGo := some t.val } }))) ∧
    (l.commits = false → exec (.glAbdicate i) s = .next s ∧ ∀ t : Fin 4, exec (.glHandgo i t) s = .next s)

/-- On a lane in operation with CP ON, a message that is intact, of its length, from another lane and addressed to this one is handled: a
heartbeat notes its sender as heard; FTANN ends its sender's count with cause 2; CLAIM is counted and heard, with the rank it carries, takes
its cycle where its sender is then the holder, and in the expiry cycle of a handover to its sender sets LATE; ABDICATE of the counted holder
leaves none; HANDOVER to this lane from the holder waits for its copy, and any other is left alone, as is the ABDICATE of another lane;
COMMAND takes its cycle and is acted on; a message that is handled raises the highest epoch known; CFGHASH is kept; STATECOPY is stored
unless the buffers are frozen. A heartbeat, CLAIM, HANDOVER, COMMAND or STATECOPY of an epoch below the highest known changes nothing
(R300). A message that is not intact or not well formed is discarded and counted, for each of the eight types (R293). -/
def Obligations.GuylineMessagesComplete : Prop :=
  ∀ (s : State) (i : LaneId), s.ready i (.domain .cp) →
    let l := s.lane i
    let kinds : List ((GlMsg → Instr) × Nat) := [(.heartbeatReceive i, 16), (.ftannReceive i, 8), (.claimReceive i, 8), (.abdicateReceive i, 8),
      (.handoverReceive i, 8), (.commandReceive i, 112), (.cfghashReceive i, 32), (.statecopyReceive i, 256)]
    let aged : List ((GlMsg → Instr) × Nat) := [(.heartbeatReceive i, 16), (.claimReceive i, 8), (.handoverReceive i, 8),
      (.commandReceive i, 112), (.statecopyReceive i, 256)]
    (∀ k ∈ kinds, ∀ m : GlMsg, l.glAccept m k.2 = none → exec (k.1 m) s = .next (s.setLane i l.glDiscard)) ∧
    (∀ k ∈ aged, ∀ (m : GlMsg) (j : LaneId), l.glAccept m k.2 = some j → m.epoch < l.rd GL_EPOCH → exec (k.1 m) s = .next s) ∧
    (∀ (m : GlMsg) (j : LaneId),
      (l.glAccept m 16 = some j → l.rd GL_EPOCH ≤ m.epoch →
        let late := match l.gl.dueAt with
          | some t => l.inExpiry t cycBus
          | none => false
        let a := (l.when late (fun l => l.set GL_STAT_LATE)).setPeer j { l.gl.peer j with fresh := true }
        let b := { a with sy := { a.sy with partAt := none, partGone := false }, gl := { a.gl with alone := 0 } }
        exec (.heartbeatReceive i m) s = .next (s.setLane i
          (match (l.gl.peer j).ftann with
          | some c => if m.cycle ≤ c then b else b.heartTake j m
          | none => b.heartTake j m))) ∧
      (l.glAccept m 8 = some j → let e := l.seeEpoch m
        exec (.ftannReceive i m) s = .next (s.setLane i ((e.setPeer j { e.gl.peer j with ftann := some m.cycle, hb := false }).recount j 2))) ∧
      (l.glAccept m 8 = some j → l.rd GL_EPOCH ≤ m.epoch →
        let late := match l.gl.handDue with
          | some t => l.rd GL_STAT_TSTATE = tsHanding && l.gl.handTo = j.code && l.inExpiry t cycBus
          | none => false
        let a := (l.bump GL_CNT_CLAIMS).when late (fun l => l.set GL_STAT_LATE)
        let b := (a.setPeer j { a.gl.peer j with rank := byteAt m.payload 0 }).hearHolder j m.epoch
        exec (.claimReceive i m) s = .next (s.setLane i ((if b.rd GL_STAT_LEADER = j.code then b.wr GL_CYCLE m.cycle else b).tokenCheck))) ∧
      let e := l.seeEpoch m
      (l.glAccept m 8 = some j →
        exec (.abdicateReceive i m) s = .next (s.setLane i (if e.rd GL_STAT_LEADER = j.code then (e.setHolder 3).tokenCheck else e))) ∧
      (l.glAccept m 8 = some j → l.rd GL_EPOCH ≤ m.epoch →
        exec (.handoverReceive i m) s = .next (s.setLane i (if byteAt m.payload 0 = e.me.code ∧ e.rd GL_STAT_LEADER = j.code then
          Lane.handTry { e with gl := { e.gl with handFrom := some m.cycle } } else e))) ∧
      (l.glAccept m 112 = some j → l.rd GL_EPOCH ≤ m.epoch →
        exec (.commandReceive i m) s = .next (s.setLane i ((e.wr GL_CYCLE m.cycle).cmdTake m.payload))) ∧
      (l.glAccept m 32 = some j →
        exec (.cfghashReceive i m) s = .next (s.setLane i (e.setPeer j { e.gl.peer j with hash := some m.payload }))) ∧
      (l.glAccept m 256 = some j → l.rd GL_EPOCH ≤ m.epoch →
        exec (.statecopyReceive i m) s = .next (s.setLane i (if e.on GL_CPSTAT_FROZEN = true then e else e.copyChunk j.code m))))

/-- On a lane in operation with CP ON: where none has been accepted in the cycle, the next message in the order of Table 9.5 leaves the queue
and is latched, and an FT that is not suppressed has its fatal reaction; with the PLL root lost the clock monitor's FT alone is accepted,
with its reaction unless it is suppressed; where none waits, or one has been accepted in the same cycle, nothing happens; REARM clears
FIRSTV, and where a message has been accepted in the same cycle, that one is the first, with its time, and OVF is as it was before it (which
cycle is meant with the root lost, and that the events already driven stand, is the model's choice, log entry 67); CNTCLR clears the class
counters and the drop counter; with fault injection open, GO presents the injected message with INJ = 1, and otherwise is ignored; a
corrected or uncorrectable TCM error and a parity error raise their kinds with the address as data; an uncorrectable MRAM or Hamper error
also ends the access with a bus error; a failure of the MRAM controller raises its FT; a device access that times out raises kind 1 of BI
and ends with a bus error (R319 to R325, R334, R335). -/
def Obligations.FaultCommandsComplete : Prop :=
  ∀ (s : State) (i : LaneId),
    let l := s.lane i
    (s.ready i .collector →
      (∀ m r, l.accDone = false → l.pw.rootLost = false → nextMsg l.fc.wait = some (m, r) →
        let a := Lane.latchMsg { l with fc := { l.fc with wait := r } } m.bits
        (takenClass m.bits = clsFT → m.supp = false → exec (.faultMessageAccept i) s = .next (s.setLane i (a.fatal m.bits))) ∧
        (takenClass m.bits ≠ clsFT ∨ m.supp = true → exec (.faultMessageAccept i) s = .next (s.setLane i a))) ∧
      (∀ m, l.accDone = false → l.pw.rootLost = true → l.fc.wait.find? (fun k => msgSrc k.bits = srcCK && msgKind k.bits = 1 && takenClass k.bits = clsFT) = some m →
        let a := Lane.latchMsg { l with fc := { l.fc with wait := l.fc.wait.filter (fun k => k ≠ m) } } m.bits
        (m.supp = false → exec (.faultMessageAccept i) s = .next (s.setLane i (a.fatal m.bits))) ∧
        (m.supp = true → exec (.faultMessageAccept i) s = .next (s.setLane i a))) ∧
      (l.accDone = true → exec (.faultMessageAccept i) s = .next s) ∧
      ((l.pw.rootLost = false → nextMsg l.fc.wait = none) →
        (l.pw.rootLost = true →
          l.fc.wait.find? (fun k => msgSrc k.bits = srcCK && msgKind k.bits = 1 && takenClass k.bits = clsFT) = none) →
        exec (.faultMessageAccept i) s = .next s)) ∧
    (s.ready i (.domain .cp) →
      (l.accDone = false → exec (.fcRearm i) s = .next (s.setLane i (l.clr FC_STAT_FIRSTV))) ∧
      (∀ a, l.fc.acc = some a → l.accDone = true →
        let b := { l with fc := { l.fc with acc := some { a with first := true } } }
        (a.first = true → exec (.fcRearm i) s = .next s) ∧
        (a.first = false → exec (.fcRearm i) s = .next (s.setLane i
          (((((b.wr FC_FIRST a.bits.toNat).wr FC_FIRSTTIME a.time).set FC_STAT_FIRSTV).put FC_STAT_OVF a.ovf).event 0)))) ∧
      exec (.fcCntclr i) s = .next (s.setLane i ((l.setReg FC_CNT_CE.addr 0#64).setReg FC_DROP_CE.addr 0#64)) ∧
      (∀ supp : Bool, l.injectOpen = true →
        exec (.faultInjection i supp) s = .next (s.setLane i (l.present ⟨setBits (l.reg FC_INJMSG.addr) 41 1 1, supp⟩))) ∧
      (∀ supp : Bool, l.injectOpen = false → exec (.faultInjection i supp) s = .next s) ∧
      (∀ a : BitVec 40,
        exec (.eccError i .tcm true a) s = .next (s.setLane i (l.raiseOnce srcTM 1 clsCE none a.toNat)) ∧
        exec (.eccError i .tcm false a) s = .next (s.setLane i (l.raise srcTM 2 clsFT none a.toNat)) ∧
        exec (.eccError i .mram true a) s = .next (s.setLane i (l.raiseOnce srcMC 1 clsCE none a.toNat)) ∧
        exec (.eccError i .mram false a) s = .next (s.setLane i (l.raise srcMC 2 clsUC none a.toNat).busError) ∧
        exec (.eccError i .hamper true a) s = .next (s.setLane i ((l.raiseOnce srcHQ 2 clsCE none (a.toNat / 64 % 4096)).event 145)) ∧
        exec (.eccError i .hamper false a) s = .next (s.setLane i ((l.raise srcHQ 3 clsUC none (a.toNat / 64 % 4096)).event 145).busError) ∧
        exec (.busParityError i a) s = .next (s.setLane i (l.raise srcBI 2 clsFT none a.toNat)) ∧
        exec (.deviceAccessTimeout i a) s = .next (s.setLane i
          (l.raise srcBI 1 clsUC none a.toNat).busError)) ∧
      (∀ c : Byte, exec (.mramControllerFailure i c) s = .next (s.setLane i (l.raise srcMC 3 clsFT none c.toNat))))

/-- On a lane whose clocks run: at a toggle instant while RUN the level inverts and the next instant is half a period on; without RUN the level
falls; before that instant, or with none to come, nothing happens. With CP ON and the tend watch running: a tend with the complement of the
last key, not early and not late, is accepted; a wrong key is a tend fault of cause 4, an early tend of cause 5, a late one or TMAX passing
of cause 3; without the tend watch, or with TMAX not yet passed, nothing happens. For a neighbour that the module has and whose watch is not
OFF: an edge is measured; four valid spacings make a watch TOGGLING; and in TOGGLING a short or long spacing, or 3P/4 without an edge, stops
the watch; a watch that is OFF, or of a lane that the module does not have, takes no edge, and one that is not TOGGLING or not yet due no
silence (R329, R331, R332, R333). -/
def Obligations.LanternCommandsComplete : Prop :=
  ∀ (s : State) (i : LaneId),
    let l := s.lane i
    (s.ready i .clocked → ∀ t, l.fc.lantNext = some t → t ≤ l.now →
      (l.on FC_LANTSTAT_RUN = true → exec (.lanternToggle i) s = .next (s.setLane i
        (Lane.wr { l with fc := { l.fc with lantNext := some (t + l.lantPer / 2) } } FC_LANTSTAT_LEVEL (1 - l.rd FC_LANTSTAT_LEVEL)))) ∧
      (l.on FC_LANTSTAT_RUN = false → exec (.lanternToggle i) s = .next (s.setLane i
        (Lane.clr { l with fc := { l.fc with lantNext := none } } FC_LANTSTAT_LEVEL)))) ∧
    (s.ready i .clocked → (∀ t, l.fc.lantNext = some t → l.now < t) → exec (.lanternToggle i) s = .next s) ∧
    (s.ready i (.domain .cp) →
      (l.fc.tendWatch = false → ∀ key, exec (.lanternTend i key) s = .next s) ∧
      (l.fc.tendWatch = false ∨ l.now < l.fc.tendAt + l.tendMax → exec (.tendTimeout i) s = .next s)) ∧
    (s.ready i (.domain .cp) → l.fc.tendWatch = true →
      (∀ key : Byte,
        (key.toNat ≠ 255 - l.rd FC_LANTSTAT_LASTKEY → exec (.lanternTend i key) s = .next (s.setLane i (l.tendFault 4 key.toNat))) ∧
        (key.toNat = 255 - l.rd FC_LANTSTAT_LASTKEY →
          (l.fc.tended = true → l.now < l.fc.tendAt + l.tendMin →
            exec (.lanternTend i key) s = .next (s.setLane i (l.tendFault 5 key.toNat))) ∧
          (l.fc.tended = false ∨ l.fc.tendAt + l.tendMin ≤ l.now →
            (l.fc.tendAt + l.tendMax + cycPer ≤ l.now →
              exec (.lanternTend i key) s = .next (s.setLane i (l.tendFault 3 key.toNat))) ∧
            (l.now < l.fc.tendAt + l.tendMax →
              exec (.lanternTend i key) s = .next (s.setLane i
                (Lane.wr { l with fc := { l.fc with tendAt := l.now, tended := true } } FC_LANTSTAT_LASTKEY key.toNat))) ∧
            (l.fc.tendAt + l.tendMax ≤ l.now → l.now < l.fc.tendAt + l.tendMax + cycPer →
              exec (.lanternTend i key) s = .next (s.setLane i
                ((Lane.wr { l with fc := { l.fc with tendAt := l.now, tended := true } } FC_LANTSTAT_LASTKEY key.toNat).set
                  FC_LANTSTAT_LATE)))))) ∧
      (l.fc.tendAt + l.tendMax ≤ l.now → exec (.tendTimeout i) s = .next (s.setLane i (l.tendFault 3 0)))) ∧
    (s.ready i (.domain .cp) → ∀ p : Port,
      (l.rd (watchFld p) = wOff ∨ l.part.hasLane (l.neighbour p) = false → exec (.neighbourLanternEdge i p) s = .next s) ∧
      ((∀ t, (l.fc.watch p).edgeAt = some t → l.rd (watchFld p) ≠ wToggling ∨ l.now < t + 3 * l.lantPer / 4) →
        exec (.neighbourWatchTimeout i p) s = .next s)) ∧
    (s.ready i (.domain .cp) → ∀ p : Port, l.rd (watchFld p) ≠ wOff → l.part.hasLane (l.neighbour p) = true →
      (∀ t, (l.fc.watch p).edgeAt = some t →
        let good := decide (l.lantPer ≤ 4 * (l.now - t)) && decide (4 * (l.now - t) < 3 * l.lantPer + 4 * cycPer)
        let a := l.setWatch p { edgeAt := some l.now, valid := if good then Nat.min 4 ((l.fc.watch p).valid + 1) else 0 }
        (good = true → l.rd (watchFld p) = wToggling → exec (.neighbourLanternEdge i p) s = .next (s.setLane i a)) ∧
        (good = true → l.rd (watchFld p) ≠ wToggling → 3 ≤ (l.fc.watch p).valid →
          exec (.neighbourLanternEdge i p) s = .next (s.setLane i (a.watchGo p))) ∧
        (good = true → l.rd (watchFld p) ≠ wToggling → (l.fc.watch p).valid < 3 →
          exec (.neighbourLanternEdge i p) s = .next (s.setLane i a)) ∧
        (good = false → l.rd (watchFld p) ≠ wToggling → exec (.neighbourLanternEdge i p) s = .next (s.setLane i a)) ∧
        (good = false → l.rd (watchFld p) = wToggling → exec (.neighbourLanternEdge i p) s = .next (s.setLane i (a.watchStop p))) ∧
        (l.rd (watchFld p) = wToggling → t + 3 * l.lantPer / 4 ≤ l.now →
          exec (.neighbourWatchTimeout i p) s = .next (s.setLane i (l.watchStop p)))) ∧
      ((l.fc.watch p).edgeAt = none →
        let a := l.setWatch p { edgeAt := some l.now, valid := 0 }
        (l.rd (watchFld p) ≠ wToggling → exec (.neighbourLanternEdge i p) s = .next (s.setLane i a)) ∧
        (l.rd (watchFld p) = wToggling → exec (.neighbourLanternEdge i p) s = .next (s.setLane i (a.watchStop p)))))

/-- On a lane in operation with CP ON: a dump context that is due starts, with a split pair joined first (with kind 6 and event 26: the model's
choice, log entry 46); DUMPDONE in the dump context stores result 1 with path 1 and lets a waiting restart happen; DTMAX passing hands the
dump over to the engine with reason 4; an engine transfer that is due makes its first offer; 100 us without an answer to an offer offers to
the other neighbour, and without DONE ends the transfer with result 5; the next chunk of a running transfer leaves (its accesses to TCM stop
a self-test slice there, R489; which instants start the limits of a transfer is the model's reading, log entry 48), and after the last chunk
END with the CRC of the record, and with both links down the transfer ends with result 5; each of these commands, where it is not due or its
state is another, does nothing; an intact ACCEPT from the neighbour offered to starts the sending, and its REFUSE offers to the other one;
DONE from the neighbour that took the record ends the transfer with result 6 where it reports a failure, else 2 or 3 by the port; an answer
that is not awaited raises the highest epoch known alone, and one that is not intact or malformed is discarded and counted (R338 to R343,
Tables 9.11 and 9.12). -/
def Obligations.DumpSendCommandsComplete : Prop :=
  ∀ (s : State) (i : LaneId), s.ready i (.domain .cp) →
    let l := s.lane i
    (l.fc.dcxDue = true →
      let a := if l.on PC_STAT_PAIR then
          let b := (l.clr PC_STAT_PAIR).clr GL_STAT_FWD
          (b.raise srcPC 6 clsCE none (b.dataOf PC_STAT_PAIR.addr)).event 26
        else l
      exec (.dumpContextStart i) s =
        .next (s.setLane i (Lane.set { a with fc := { a.fc with dcxDue := false, dcxAt := a.now }, pc := { a.pc with core := .dump } } FC_STAT_DCX))) ∧
    (l.fc.dcxDue = false → exec (.dumpContextStart i) s = .next s) ∧
    (l.pc.core ≠ .dump → exec (.fcDumpdone i) s = .next s) ∧
    (l.on FC_STAT_DCX = false ∨ l.now < l.dcxEnd → exec (.dumpContextTimeout i) s = .next s) ∧
    (l.fc.deDue = false → exec (.dumpEngineStart i) s = .next s) ∧
    (l.now < l.fc.txAt + dumpLimit ∨ l.fc.tx = .idle ∨ (∃ p, l.fc.tx = .sending p) → exec (.dumpAnswerTimeout i) s = .next s) ∧
    ((∀ p, l.fc.tx = .sending p → ∃ t, l.fc.txLast = some t ∧ l.now < t + dumpStep) → exec (.dumpDataSend i) s = .next s) ∧
    (∀ p, l.fc.tx = .sending p → (∀ t, l.fc.txLast = some t → t + dumpStep ≤ l.now) →
      l.rd (GL_LINK_UP 0) = 0 → l.rd (GL_LINK_UP 1) = 0 → exec (.dumpDataSend i) s = .next (s.setLane i (l.dumpEnd 5))) ∧
    (l.pc.core = .dump →
      let late := l.inExpiry l.dcxEnd cycBus
      let a := (Lane.clr { l with pc := { l.pc with core := .stopped } } FC_STAT_DCX).when late (fun l => l.set FC_STAT_LATE)
      exec (.fcDumpdone i) s = .next (s.setLane i (a.dumpResult 1 0 1 false).dumpOver)) ∧
    (l.on FC_STAT_DCX = true → l.dcxEnd ≤ l.now → exec (.dumpContextTimeout i) s =
      .next (s.setLane i (Lane.dumpHand { l with pc := { l.pc with core := .stopped } } 4))) ∧
    (l.fc.deDue = true → exec (.dumpEngineStart i) s = .next (s.setLane i
      (Lane.dumpOffer { l with fc := { l.fc with deDue := false, tried := [], txSent := 0, txLast := none, txLate := false } }))) ∧
    (l.fc.txAt + dumpLimit ≤ l.now → ∀ p,
      (l.fc.tx = .offered p → exec (.dumpAnswerTimeout i) s = .next (s.setLane i l.dumpOffer)) ∧
      (l.fc.tx = .ended p → exec (.dumpAnswerTimeout i) s = .next (s.setLane i (l.dumpEnd 5)))) ∧
    (∀ p, l.fc.tx = .sending p → (∀ t, l.fc.txLast = some t → t + dumpStep ≤ l.now) →
      ¬ (l.rd (GL_LINK_UP 0) = 0 ∧ l.rd (GL_LINK_UP 1) = 0) →
      let n := l.recordLen / 256
      let k := l.fc.txSent
      (k < n →
        let a := (l.recordTouch k).glTo p tDump (l.rd GL_CYCLE) k 0 (l.recordBytes (256 * k) 256)
        exec (.dumpDataSend i) s = .next (s.setLane i { a with fc := { a.fc with txSent := k + 1, txLast := some a.now } })) ∧
      (n ≤ k →
        let a := l.glTo p tDump (l.rd GL_CYCLE) 0 0 (leBytes 1 4 ++ leBytes 3 0 ++ leBytes 4 (crc32c (l.recordBytes 0 l.recordLen)))
        exec (.dumpDataSend i) s = .next (s.setLane i { a with fc := { a.fc with tx := .ended p, txAt := a.now } }))) ∧
    (∀ (m : GlMsg) (j : LaneId), l.glAccept m 8 = some j →
      let e := l.seeEpoch m
      let p := e.portOf j
      let f := byteAt m.payload 0
      (f = 2 → e.fc.tx = .offered p → exec (.dumpAcceptReceive i m) s = .next (s.setLane i { e.dumpLate with fc := { e.dumpLate.fc with tx := .sending p } })) ∧
      (f ≠ 2 ∨ e.fc.tx ≠ .offered p → exec (.dumpAcceptReceive i m) s = .next (s.setLane i e)) ∧
      (f = 3 → e.fc.tx = .offered p → exec (.dumpRefuseReceive i m) s = .next (s.setLane i e.dumpLate.dumpOffer)) ∧
      (f ≠ 3 ∨ e.fc.tx ≠ .offered p → exec (.dumpRefuseReceive i m) s = .next (s.setLane i e)) ∧
      (f = 5 → e.fc.tx = .ended p → exec (.dumpDoneReceive i m) s = .next (s.setLane i (e.dumpLate.dumpEnd (doneResult (byteAt m.payload 4) p)))) ∧
      (f ≠ 5 ∨ e.fc.tx ≠ .ended p → exec (.dumpDoneReceive i m) s = .next (s.setLane i e))) ∧
    (∀ m : GlMsg, l.glAccept m 8 = none →
      exec (.dumpAcceptReceive i m) s = .next (s.setLane i l.glDiscard) ∧ exec (.dumpRefuseReceive i m) s = .next (s.setLane i l.glDiscard) ∧
      exec (.dumpDoneReceive i m) s = .next (s.setLane i l.glDiscard))

/-- On a lane in operation with CP ON: NBFREE clears FULL of its slot; an OFFER is refused with cause 1 where the slot is full, 2 while this
lane sends a dump, 3 before the PLL has locked in BOOT (the model's reading of a controller that is not started up, log entry 48), and else
accepted with BUSY; a data message inside its record is written into the slot at its chunk, where it stops a self-test slice of the block
first; END with all chunks and the right CRC leaves the record checked, and with another count or CRC fails it (BAD, kind 1 of DE, DONE with
a failure); the last MRAM write of a checked record sets FULL and CHUNKS, raises FC_NBDUMP and sends DONE; 100 us without a message before
END fails the record. A message of another form, of a transfer that does not run or outside its record raises the highest epoch known alone,
one that is not intact or malformed is discarded and counted, and a completion or a limit without its transfer does nothing (R293, R344). -/
def Obligations.DumpReceiveCommandsComplete : Prop :=
  ∀ (s : State) (i : LaneId), s.ready i (.domain .cp) →
    let l := s.lane i
    (∀ p : Port,
      let r := l.fc.rx p
      exec (.fcNbfree i p) s = .next (s.setLane i (l.clr (FC_NBSTAT_FULL p.idx))) ∧
      (r.busy = true → r.ended = true →
        let a := ((l.setRx p {}).set (FC_NBSTAT_FULL p.idx)).wr (FC_NBSTAT_CHUNKS p.idx) r.chunks
        exec (.dumpStoreComplete i p) s = .next (s.setLane i
          (((a.raise srcFC 3 clsCE none (p.idx + 65536 * r.chunks)).event 4).dumpCtl p 5 0 0))) ∧
      (r.busy = false ∨ r.ended = false → exec (.dumpStoreComplete i p) s = .next s) ∧
      (r.busy = true → r.ended = false → r.at_ + dumpLimit ≤ l.now → exec (.dumpReceiveTimeout i p) s = .next (s.setLane i (l.rxFail p))) ∧
      (r.busy = false ∨ r.ended = true ∨ l.now < r.at_ + dumpLimit → exec (.dumpReceiveTimeout i p) s = .next s)) ∧
    (∀ m : GlMsg, l.glAccept m 8 = none →
      exec (.dumpOfferReceive i m) s = .next (s.setLane i l.glDiscard) ∧ exec (.dumpEndReceive i m) s = .next (s.setLane i l.glDiscard)) ∧
    (∀ m : GlMsg, l.glAccept m 256 = none → exec (.dumpDataReceive i m) s = .next (s.setLane i l.glDiscard)) ∧
    (∀ (m : GlMsg) (j : LaneId), l.glAccept m 8 = some j →
      let e := l.seeEpoch m
      let p := e.portOf j
      let r := e.fc.rx p
      (byteAt m.payload 0 ≠ 1 → exec (.dumpOfferReceive i m) s = .next (s.setLane i e)) ∧
      (byteAt m.payload 0 = 1 →
        (e.on (FC_NBSTAT_FULL p.idx) = true →
          exec (.dumpOfferReceive i m) s = .next (s.setLane i (((e.set (FC_NBSTAT_REFUSED p.idx)).event 5).dumpCtl p 3 1 0))) ∧
        (e.on (FC_NBSTAT_FULL p.idx) = false → e.fc.tx ≠ .idle →
          exec (.dumpOfferReceive i m) s = .next (s.setLane i ((e.event 5).dumpCtl p 3 2 0))) ∧
        (e.on (FC_NBSTAT_FULL p.idx) = false → e.fc.tx = .idle → e.mode = mBoot → e.im.phase = .lock →
          exec (.dumpOfferReceive i m) s = .next (s.setLane i ((e.event 5).dumpCtl p 3 3 0))) ∧
        (e.on (FC_NBSTAT_FULL p.idx) = false → e.fc.tx = .idle → ¬ (e.mode = mBoot ∧ e.im.phase = .lock) →
          exec (.dumpOfferReceive i m) s =
            .next (s.setLane i ((e.setRx p { busy := true, chunks := leField m.payload 4 4, at_ := e.now }).dumpCtl p 2 0 0)))) ∧
      (byteAt m.payload 0 ≠ 4 ∨ r.busy = false ∨ r.ended = true → exec (.dumpEndReceive i m) s = .next (s.setLane i e)) ∧
      (byteAt m.payload 0 = 4 → r.busy = true → r.ended = false →
        let a := (e.rxLate p).accessed (nbSlot e.part p.idx) (256 * r.chunks)
        let good := r.got = r.chunks ∧ crc32c (a.bytes (nbSlot a.part p.idx) (256 * r.chunks)) = leField m.payload 4 4
        (good → exec (.dumpEndReceive i m) s = .next (s.setLane i (a.setRx p { r with ended := true }))) ∧
        (¬ good → exec (.dumpEndReceive i m) s = .next (s.setLane i ((a.rxFail p).dumpCtl p 5 1 0))))) ∧
    (∀ (m : GlMsg) (j : LaneId), l.glAccept m 256 = some j →
      let e := l.seeEpoch m
      let p := e.portOf j
      let r := e.fc.rx p
      (r.busy = true → r.ended = false → m.chunk < r.chunks → m.chunk < 8192 →
        let at_ := nbSlot e.part p.idx + 256 * m.chunk
        let a := ((e.rxLate p).accessed at_ 256).setBytes at_ m.payload
        exec (.dumpDataReceive i m) s = .next (s.setLane i (a.setRx p { r with got := r.got + 1, at_ := e.now }))) ∧
      (r.busy = false ∨ r.ended = true ∨ r.chunks ≤ m.chunk ∨ 8192 ≤ m.chunk → exec (.dumpDataReceive i m) s = .next (s.setLane i e)))

/-- On a lane in operation with CP ON: a post with a free slot beyond the reserve becomes an item, and without one sets POSTREJ, counts and
raises kind 2; SC_ENTER, with room on the stack and no stall, takes the best eligible item (a pre-emption where it enters above level 0 and
finds a slot) and returns its descriptor, or 0 without one, and with no room or in a stall returns 0; SC_NEXT with a level in use completes
its item and takes the next where it may and there is no stall, else returning 0, and with none sets TAKEERR and returns 0; CNTCLR clears
the counters and the AGED bits; a flow-enable write keeps a class-0 flow enabled after the lock; arming a timer with ARM = 1 starts its
insertion walk where its list has room and else counts in TFULL, and ARM = 0 only disarms; an insertion that is due puts the timer into its
list; the timer that is due leaves its list with an item, is inserted again where it is periodic, and counts in SLIP where it is late; a new
millisecond updates the headroom; an item older than DAGE that is deferred sets AGED and raises kind 4; the four, where nothing is due or
the flag is set, change nothing of their own. When an expiry counts in SLIP, that a timer whose expiry is past at its insertion fires at the
next tick, and that AGED needs more than DAGE ms since the item became pending are the model's reading (log entry 21). After a post, a take,
an arming, an insertion or an expiry the domain requests follow (R350 to R367, R372). -/
def Obligations.SchedulerCommandsComplete : Prop :=
  ∀ (s : State) (i : LaneId), s.ready i (.domain .cp) →
    let l := s.lane i
    (∀ v : Word,
      (l.rd SC_CFG_RESV < l.sc.free → exec (.scPost i v) s = .next (s.setLane i
        ((l.arise .post (getBits v 0 32) (getBits v 40 8) (getBits v 32 4)).poolView).domainsFollow)) ∧
      (l.sc.free ≤ l.rd SC_CFG_RESV →
        let a := (l.set SC_STAT_POSTREJ).bump SC_CNT_POSTREJ
        exec (.scPost i v) s = .next (s.setLane i
          (((a.raiseOnce srcSC 2 clsCE none (a.reg SC_CNT_POSTREJ.addr).toNat).event 129).domainsFollow)))) ∧
    (let a := l.bistCharge;
      8 ≤ a.sc.stack.length ∨ a.on SC_STAT_POOLSTALL = true → exec (.scEnter i) s = .next (s.setLane i (a.returns 0#64))) ∧
    (let a := l.bistCharge;
      a.sc.stack.length < 8 → a.on SC_STAT_POOLSTALL = false →
        (a.best = none → exec (.scEnter i) s = .next (s.setLane i { a with rdata := 0#64, busErr := false })) ∧
        (∀ it, a.best = some it → exec (.scEnter i) s = .next (s.setLane i
          ((a.when (a.sc.stack ≠ [] && a.hasSlot it) (fun l => l.bump SC_CNT_PREEMPT)).takeOnto it)))) ∧
    (let a := l.bistCharge;
      (a.sc.stack = [] → exec (.scNext i) s = .next (s.setLane i ((a.set SC_STAT_TAKEERR).returns 0#64).domainsFollow)) ∧
      (∀ top rest, a.sc.stack = top :: rest →
        let b := Lane.poolView { a with sc := { a.sc with stack := rest, done := a.sc.done + 1 } }
        (b.on SC_STAT_POOLSTALL = true → exec (.scNext i) s = .next (s.setLane i ((b.returns 0#64).domainsFollow))) ∧
        (b.on SC_STAT_POOLSTALL = false →
          (b.best = none → exec (.scNext i) s = .next (s.setLane i (b.returns 0#64).domainsFollow)) ∧
          (∀ it, b.best = some it → rest = [] → exec (.scNext i) s = .next (s.setLane i (b.takeOnto it).domainsFollow)) ∧
          (∀ it low more, b.best = some it → rest = low :: more →
            exec (.scNext i) s = .next (s.setLane i
              (if b.canPreempt it low = true then b.takeOnto it else b.returns 0#64).domainsFollow))))) ∧
    exec (.scCntclr i) s = .next (s.setLane i
      ((l.setReg SC_CNT_POSTREJ.addr 0#64).each (List.range 256) (fun l n => l.clr (SC_FLOWSTAT_AGED n)))) ∧
    (∀ (k : Fin 8) (v : Word32), exec (.flowEnableWrite i k v) s = .next (s.setLane i
      (l.wr (SC_FLOWEN_EN k) (v.toNat ||| (List.range 32).foldl (fun m j =>
        if (l.rd (SC_FLOWEN_EN k)).testBit j ∧ l.rd (SC_FLOWCFG_COST (32 * k + j)) = 0 ∧ l.on SY_IMGSTAT_LOCKED then m + 2 ^ j else m) 0)))) ∧
    (∀ (t : Fin 1024) (v : Word32),
      let a : Lane := { (l.setReg (SC_TMRCFG_ARM t).addr (v.setWidth 64 &&& 0xFF0000FF#64)) with sc := l.sc.disarm t }
      let n := a.rd (SC_TMRCFG_LIST t)
      (a.rd (SC_TMRCFG_ARM t) = 0 → exec (.timerArm i t v) s = .next (s.setLane i (a.domainsFollow))) ∧
      (a.rd (SC_TMRCFG_ARM t) ≠ 0 → a.rd (SC_TLCFG_CAP n) ≤ a.sc.occupancy n →
        exec (.timerArm i t v) s = .next (s.setLane i ((a.bump SC_CNT_TFULL).domainsFollow))) ∧
      (a.rd (SC_TMRCFG_ARM t) ≠ 0 → a.sc.occupancy n < a.rd (SC_TLCFG_CAP n) →
        exec (.timerArm i t v) s = .next (s.setLane i ((a.startWalk t (a.reg (SC_TMREXP t).addr).toNat n).domainsFollow))) ∧
      ((∀ w : Insertion, l.sc.walks.find? (fun w => w.timer = t.val) = some w → l.now < w.due) →
        exec (.timerInsertion i t) s = .next (s.setLane i l.domainsFollow)) ∧
      (∀ w : Insertion, l.sc.walks.find? (fun w => w.timer = t.val) = some w → w.due ≤ l.now →
        let past := decide (w.expiry ≤ l.scTick)
        let q := { l.sc with walks := l.sc.walks.filter (fun a => a.timer ≠ t.val) }
        let e : Armed := { timer := t.val, expiry := w.expiry, notBefore := if past then l.scTick + 1 else 0 }
        exec (.timerInsertion i t) s = .next (s.setLane i ((Lane.when { l with sc := q.setList w.list (insertArmed e (q.list w.list)) } past
          (fun l => l.bump SC_TMRSTAT_PAST)).domainsFollow)))) ∧
    (l.dueTimer = none → exec (.timerExpiry i) s = .next (s.setLane i l.domainsFollow)) ∧
    (∀ n (a : Armed), l.dueTimer = some (n, a) →
      let b : Lane := { l with sc := l.sc.setList n ((l.sc.list n).filter (fun b => b.timer ≠ a.timer)) }
      let c := b.arise .timer a.timer (b.rd (SC_TMRCFG_FLOW a.timer)) (b.rd (SC_TMRCFG_PRIO a.timer))
      let again : Armed := { timer := a.timer, expiry := a.expiry + c.rd (SC_TMRPER_US a.timer), notBefore := 0 }
      let d := if c.on (SC_TMRCFG_PERIODIC a.timer) then { c with sc := c.sc.setList n (insertArmed again (c.sc.list n)) } else c
      exec (.timerExpiry i) s = .next (s.setLane i ((d.when (decide ((a.expiry + 1) * usec < l.scTime))
        (fun l => ((l.bump SC_CNT_SLIP).raiseOnce srcSC 3 clsCE none a.timer).event 130)).domainsFollow))) ∧
    (l.scTick / 1000 ≤ l.sc.lastMs → exec (.headroomUpdate i) s = .next (s.setLane i l.domScheduler)) ∧
    (l.sc.lastMs < l.scTick / 1000 →
      let a := { l with sc := { l.sc with lastMs := l.scTick / 1000 } }
      exec (.headroomUpdate i) s = .next (s.setLane i (((((a.closeBin.stepH).stepHot).stepProposal).updateSel.stepDomains).domScheduler))) ∧
    (∀ n : Fin 256,
      let a := l.bistCharge
      a.sc.items.any (fun it => it.flow = n.val && !a.headroomOk it && decide (it.since + a.rd SC_HCFG_DAGE * msec < a.now)) = true →
      a.on (SC_FLOWSTAT_AGED n) = false →
      exec (.deferralAge i n) s = .next (s.setLane i (((a.set (SC_FLOWSTAT_AGED n)).raise srcSC 4 clsCE none n).event 133))) ∧
    (∀ n : Fin 256,
      let a := l.bistCharge
      a.sc.items.any (fun it => it.flow = n.val && !a.headroomOk it && decide (it.since + a.rd SC_HCFG_DAGE * msec < a.now)) = false ∨
      a.on (SC_FLOWSTAT_AGED n) = true → exec (.deferralAge i n) s = .next (s.setLane i a))

/-- On a lane in operation with CP ON, for every Hamper: where the core is its producer, a staging write is stored, a push of up to 56 bytes
into a Hamper with room appends the entry with the next sequence number and one more QUEUED, one that finds no room (or stands behind one
that has found none) waits for the releases of its CLK_BUS cycle (the model's choice, log entry 66), and into a Hamper of no capacity is
ignored, counted and reported at once; where the core is not its producer, or the length is above 56, the write or push is refused with
PRODREJ; a take returns the first entry of the replay list, else the queued entry of the lowest PRIO number and earliest push among those
pushed before this CLK_BUS cycle, else 0; a read of HQ_MARK sets the soft mark and returns the length of the take log; a read of HQ_REWIND
puts the entries since the soft mark back and returns their number; CNTCLR clears the overrun counts (R380 to R391). -/
def Obligations.HamperCommandsComplete : Prop :=
  ∀ (s : State) (i : LaneId), s.ready i (.domain .cp) →
    let l := s.lane i
    (∀ h : Fin 8,
      let q := l.hq.get h
      (∀ (n : Fin 7) (v : Word),
        (l.rd (HQ_CFG_PROD h) = 0 → exec (.hqPutWrite i h n v) s = .next (s.setLane i (l.setReg (HQ_PUT h n).addr v))) ∧
        (l.rd (HQ_CFG_PROD h) ≠ 0 → exec (.hqPutWrite i h n v) s = .next (s.setLane i l.prodReject))) ∧
      (∀ v : Word32,
        let w : Word := v.setWidth 64
        let len := getBits w 0 6
        (l.rd (HQ_CFG_PROD h) ≠ 0 ∨ 56 < len → exec (.hqPush i h v) s = .next (s.setLane i l.prodReject)) ∧
        (l.rd (HQ_CFG_PROD h) = 0 → len ≤ 56 →
          let waiting := l.hq.late.any (fun q => q.hamper = h.val)
          (l.rd (HQ_CFG_CAP h) = 0 → exec (.hqPush i h v) s = .next (s.setLane i (l.hamperOvr h))) ∧
          (l.rd (HQ_CFG_CAP h) ≠ 0 → l.hamperFull h 1 = true ∨ waiting = true → exec (.hqPush i h v) s =
            .next (s.setLane i { l with hq := { l.hq with late := l.hq.late ++ [⟨h.val, getBits w 8 3, [(l.staging h).take len], .none⟩] } })) ∧
          (l.rd (HQ_CFG_CAP h) ≠ 0 → l.hamperFull h 1 = false → waiting = false → exec (.hqPush i h v) s =
            .next (s.setLane i (((l.hamperAdd h (getBits w 8 3) ((l.staging h).take len)).hamperEval h).hamperRose h q.queued))))) ∧
      (∀ e r, q.replay = e :: r → exec (.hqTake i h) s = .next (s.setLane i
        (((l.setHamper h { q with replay := r, log := q.log ++ [e] }).hamperEval h).returns e.descriptor))) ∧
      (∀ e, q.replay = [] → bestEntry (q.queue.filter (fun e => decide (e.at_ / cycBus ≠ l.now / cycBus))) = some e → exec (.hqTake i h) s = .next (s.setLane i
        (((l.setHamper h { q with queue := dropSlot e.slot q.queue, log := q.log ++ [e] }).hamperEval h).returns e.descriptor))) ∧
      (q.replay = [] → q.queue.filter (fun e => decide (e.at_ / cycBus ≠ l.now / cycBus)) = [] → exec (.hqTake i h) s = .next (s.setLane i { l with rdata := 0#64, busErr := false })) ∧
      exec (.hqMark i h) s = .next (s.setLane i ((l.setHamper h { q with soft := q.log.length }).returns (BitVec.ofNat 64 q.log.length))) ∧
      exec (.hqRewind i h) s = .next (s.setLane i ((l.rewindTo h q.soft).returns (BitVec.ofNat 64 (q.log.length - q.soft))))) ∧
    exec (.hqCntclr i) s = .next (s.setLane i (l.setReg HQ_OVRCNT_CNT0.addr 0#64))

/-- On a lane in operation with CP ON, for a Hamper with no entries to replay and some entry pushed before the present CLK_BUS cycle (one pushed
in this cycle cannot be taken yet): the take returns the descriptor of such an entry e of the queue, no other such entry has a lower PRIO
number, and every one that stands before e in the queue, that is, was pushed earlier, has a higher PRIO number; the take log grows by e
alone, and the entries that remain queued are the others in their order, the slots being distinct (R383, R388). -/
def Obligations.TakesFollowPriority : Prop :=
  ∀ (s : State) (i : LaneId) (h : Fin 8), s.ready i (.domain .cp) → ((s.lane i).hq.get h).replay = [] →
    let ripe := fun (e : Entry) => decide (e.at_ / cycBus ≠ (s.lane i).now / cycBus)
    ((s.lane i).hq.get h).queue.any ripe = true →
    ∃ (before after : List Entry) (e : Entry) (t : Lane),
      ((s.lane i).hq.get h).queue = before ++ e :: after ∧ exec (.hqTake i h) s = .next (s.setLane i t) ∧ t.rdata = e.descriptor ∧
      t.busErr = false ∧ ripe e = true ∧ (∀ b ∈ before, ripe b = true → e.prio < b.prio) ∧ (∀ a ∈ after, ripe a = true → e.prio ≤ a.prio) ∧
      ((∀ b ∈ before, b.slot ≠ e.slot) → (t.hq.get h).queue = before ++ after) ∧
      (t.hq.get h).log = ((s.lane i).hq.get h).log ++ [e]

/-- On a lane in operation, every frame sends its response; NOP, STATUS and any frame have the result that the checks of Table 11.7 give in
their order. A command without a result (NOP, STATUS) changes nothing else but MODE3; a result other than OK is recorded; a PUT that passes
the checks is pushed into its Hamper; a SERVICE command that passes them has its action and its entry in the service Hamper. A frame of
HOST_BAD_COMMAND has whatever its bytes give it, in every case. IRQSET sets the request; IRQCLR clears it unless the hardware has set it in
the same CLK_BUS cycle; CNTCLR clears HP_CNT (R399 to R406). -/
def Obligations.HostCommandsComplete : Prop :=
  ∀ (s : State) (i : LaneId), s.ready i .clocked →
    let l := s.lane i
    (∀ (rest : List Byte) (mode3 : Bool),
      let sent := fun (b : List Byte) => (l.send (.host (l.response (byteAt b 0) b.length))).put HP_STAT_MODE3 mode3
      exec (.hostNop i rest mode3) s = .next (s.setLane i (sent (0x00#8 :: rest))) ∧
      exec (.hostStatus i rest mode3) s = .next (s.setLane i (sent (0x20#8 :: rest))) ∧
      (∀ h : Fin 8,
        let b := BitVec.ofNat 8 (0x10 + h) :: rest
        (l.frameResult b true = some 0 → exec (.hostPut i h rest mode3) s = .next (s.setLane i ((sent b).hostPut b))) ∧
        (∀ r, l.frameResult b true = some r → r ≠ 0 →
          exec (.hostPut i h rest mode3) s = .next (s.setLane i ((sent b).recordResult r (byteAt b 0))))) ∧
      (∀ code : Byte, ∀ c : Instr,
        (c = .enterService i rest mode3 ∧ code = 1#8) ∨ (c = .restart i rest mode3 ∧ code = 2#8) ∨
        (c = .handover i rest mode3 ∧ code = 3#8) ∨ (c = .ceiling i rest mode3 ∧ code = 4#8) ∨
        (∃ k : Fin 128, c = .integratorCode i k rest mode3 ∧ code = BitVec.ofNat 8 (0x80 + k)) →
        let b := 0x30#8 :: code :: rest
        (l.frameResult b true = some 0 → exec c s = .next (s.setLane i ((sent b).service b))) ∧
        (∀ r, l.frameResult b true = some r → r ≠ 0 → exec c s = .next (s.setLane i ((sent b).recordResult r 0x30)))) ∧
      (∀ (b : List Byte) (whole : Bool),
        (l.frameResult b whole = none → exec (.hostBadCommand i b whole mode3) s = .next (s.setLane i (sent b))) ∧
        (l.frameResult b whole = some 0 → byteAt b 0 = 0x30 → exec (.hostBadCommand i b whole mode3) s = .next (s.setLane i ((sent b).service b))) ∧
        (l.frameResult b whole = some 0 → byteAt b 0 ≠ 0x30 → exec (.hostBadCommand i b whole mode3) s = .next (s.setLane i ((sent b).hostPut b)))) ∧
      (∀ (b : List Byte) (whole : Bool) (r : Nat), l.frameResult b whole = some r → r ≠ 0 →
        exec (.hostBadCommand i b whole mode3) s = .next (s.setLane i ((sent b).recordResult r (byteAt b 0))))) ∧
    exec (.hpIrqset i) s = .next (s.setLane i (l.set HP_STAT_IRQ)) ∧
    (l.hq.irqCyc ≠ some (l.now / cycBus) → exec (.hpIrqclr i) s = .next (s.setLane i (l.clr HP_STAT_IRQ))) ∧
    (l.hq.irqCyc = some (l.now / cycBus) → exec (.hpIrqclr i) s = .next s) ∧
    exec (.hpCntclr i) s = .next (s.setLane i (l.setReg HP_CNT_PUT.addr 0#64))

/-- On a lane in operation with NW ON: a cycle, in the CLK_PER cycle in which the network time reaches it, judges the ports, ages the received
slots and counts; SYNC with LOSS reference-free cycles goes to HOLD with kind 5; UNSYNC or HOLD of a lane with a rank becomes MASTER after
TAKE such cycles; a port is muted at its fourth violating cycle and unmuted after its sixteenth clean one; a partner silent for ABS cycles
becomes ABSENT, a guest leaves, any other keeps its state; each of these does nothing where its condition does not hold. At its fetch point,
and once in the cycle, an own slot takes the ready data (TXLATE where TXRDY came in the same CLK_BUS cycle), or repeats the old with kind 7,
or has none; at its action point, and once in the cycle, in SYNC, HOLD or MASTER, a slot sends what it has to send: the frame fetched, the
reference of a master not in HOLD, or the roll-call frame in the turn of this lane, on the ports that are up; at any other time neither does
anything. TXRDY of an own slot with a length within MAXLEN marks it ready, above it changes nothing, and of any other slot is rejected with
kind 6; UNMUTE opens the ports named; CNTCLR clears the counters; a link that changes is recorded with kind 9. That a cycle start, a fetch
and a send are met in the CLK_PER cycle in which network time first reaches them (log entry 64), once each (log entry 11), and that a cycle
start outside it does nothing (log entry 38) is the model's choice (R410, R419, R420, R425, R434, R437, R438; Table 12.4). -/
def Obligations.NetworkCommandsComplete : Prop :=
  ∀ (s : State) (i : LaneId), s.ready i (.domain .nw) →
    let l := s.lane i
    (l.ttOn = true → l.ntMark 0 ttCycle = true → l.tt.cyc ≠ some (l.ntime / ttCycle) →
      let n := l.ntime / ttCycle
      let a := l.when (decide (ssSync ≤ l.rd TT_STAT_SSTATE)) (fun l => l.each (List.range 4) Lane.portJudge)
      let b := a.each (List.range 32) Lane.ageStep
      let c := { b with tt := { b.tt with cyc := some n, noRef := if b.tt.refSeen then 0 else b.tt.noRef + 1, refSeen := false, viol := 0 } }
      exec (.cycleStart i) s = .next (s.setLane i
        ((((c.wr TT_STAT_MSRC 3).wr TT_CYCLE_SLOT 0).wr TT_CYCLE_CYCLE (n % 65536)).event 96))) ∧
    (l.ttOn = true → l.rd TT_STAT_SSTATE = ssSync → l.rd TT_MCFG_LOSS ≤ l.tt.noRef →
      exec (.syncLossExpiry i) s = .next (s.setLane i
        ((l.setSync ssHold).raise srcTT 5 clsUC none ((l.setSync ssHold).dataOf TT_STAT_SSTATE.addr)))) ∧
    (l.ttOn = true → l.rd TT_STAT_SSTATE = ssUnsync ∨ l.rd TT_STAT_SSTATE = ssHold → l.rd TT_MCFG_RANK ≠ 0 →
      l.rd TT_MCFG_TAKE ≤ l.tt.noRef → exec (.masterTakeExpiry i) s = .next (s.setLane i (l.setSync ssMaster))) ∧
    (∀ p : Fin 4,
      (l.rd (TT_PORTSTAT_VIOL p) = 4 → l.rd (TT_PORTSTAT_MUTED p) = 0 → exec (.portMute i p) s = .next (s.setLane i
        ((((l.set (TT_PORTSTAT_MUTED p)).wr (TT_PORTSTAT_CLEAN p) 0).raise srcTT 3 clsUC none p).event 98))) ∧
      (l.rd (TT_PORTSTAT_CLEAN p) = 16 → l.on (TT_PORTSTAT_MUTED p) = true → exec (.portUnmute i p) s = .next (s.setLane i
        ((((l.clr (TT_PORTSTAT_MUTED p)).wr (TT_PORTSTAT_CLEAN p) 0).wr (TT_PORTSTAT_VIOL p) 0).event 98))) ∧
      (∀ up : Bool, l.on (TT_PORTSTAT_LINK p) ≠ up → exec (.portLinkChange i p up) s = .next (s.setLane i
        (((l.put (TT_PORTSTAT_LINK p) up).raise srcTT 9 clsCE none (p + flagBit up 4)).event 101)))) ∧
    (∀ m : Fin 64, l.rd TT_ROLL_ABS ≤ (l.ttCount + 65536 - l.rd (TT_PTAB_LASTCYC m)) % 65536 →
      (l.rd (TT_PTAB_STATE m) = ptPresent → exec (.partnerAbsence i m) s = .next (s.setLane i (l.partnerSet m ptAbsent))) ∧
      (l.rd (TT_PTAB_STATE m) = ptGuest → exec (.partnerAbsence i m) s = .next (s.setLane i (l.setReg (TT_PTAB_STATE m).addr 0#64)))) ∧
    (l.ttOn = false ∨ l.ntMark 0 ttCycle = false ∨ l.tt.cyc = some (l.ntime / ttCycle) → exec (.cycleStart i) s = .next s) ∧
    (l.ttOn = false ∨ l.rd TT_STAT_SSTATE ≠ ssSync ∨ l.tt.noRef < l.rd TT_MCFG_LOSS → exec (.syncLossExpiry i) s = .next s) ∧
    (l.ttOn = false ∨ (l.rd TT_STAT_SSTATE ≠ ssUnsync ∧ l.rd TT_STAT_SSTATE ≠ ssHold) ∨ l.rd TT_MCFG_RANK = 0 ∨
      l.tt.noRef < l.rd TT_MCFG_TAKE → exec (.masterTakeExpiry i) s = .next s) ∧
    (∀ p : Fin 4,
      (l.rd (TT_PORTSTAT_VIOL p) ≠ 4 ∨ l.rd (TT_PORTSTAT_MUTED p) ≠ 0 → exec (.portMute i p) s = .next s) ∧
      (l.rd (TT_PORTSTAT_CLEAN p) ≠ 16 ∨ l.on (TT_PORTSTAT_MUTED p) = false → exec (.portUnmute i p) s = .next s) ∧
      exec (.portLinkChange i p (l.on (TT_PORTSTAT_LINK p))) s = .next s) ∧
    (∀ m : Fin 64, (l.ttCount + 65536 - l.rd (TT_PTAB_LASTCYC m)) % 65536 < l.rd TT_ROLL_ABS ∨
      (l.rd (TT_PTAB_STATE m) ≠ ptPresent ∧ l.rd (TT_PTAB_STATE m) ≠ ptGuest) → exec (.partnerAbsence i m) s = .next s) ∧
    (∀ k : Fin 32,
      let own := l.ttOn = true ∧ l.rd (TT_SLOTA_KIND k) = kOwn ∧ k.val ≠ 31 ∧ l.ownReference k = false
      (∀ n, own → l.atSlot k 2000 = some n → l.tt.fetchAt ≠ some n →
        let q := l.tt.slot k
        let b : Lane := { l with tt := { l.tt with fetchAt := some n } }
        let late := match q.rdyAt with
          | some t => decide (l.now < t + cycBus)
          | none => false
        let put := fun (x : Lane) (q' : TxSlot) =>
          { x with tt := { x.tt with tx := keyPut x.tt.tx k q', fetched := some ⟨k, q'.age, !q'.sent, x.bytes (ttTxBuf k) q'.len⟩ } }
        ((l.rd TT_TXPEND_RDY).testBit k = true →
          let c := b.when late (fun l => l.set TT_STAT_TXLATE)
          let d := c.wr TT_TXPEND_RDY (c.rd TT_TXPEND_RDY &&& (2 ^ 32 - 1 - 2 ^ k.val))
          exec (.fetchPoint i k) s = .next (s.setLane i (put d { q with age := 0, len := q.rdylen, sent := true }))) ∧
        ((l.rd TT_TXPEND_RDY).testBit k = false → q.sent = true →
          let a := put b { q with age := Nat.min (q.age + 1) 15 }
          exec (.fetchPoint i k) s =
            .next (s.setLane i (((a.bump TT_CNT_TXREP).raiseOnce srcTT 7 clsCE none (k + 256 * Nat.min (q.age + 1) 15)).event 102))) ∧
        ((l.rd TT_TXPEND_RDY).testBit k = false → q.sent = false →
          exec (.fetchPoint i k) s = .next (s.setLane i (put b { q with age := 15, len := 0 })))) ∧
      (¬ own ∨ (∀ n, l.atSlot k 2000 = some n → l.tt.fetchAt = some n) → exec (.fetchPoint i k) s = .next s) ∧
      (∀ n, l.ttOn = true → ssSync ≤ l.rd TT_STAT_SSTATE → l.atSlot k 0 = some n → l.tt.sentAt ≠ some n →
        let b : Lane := { l with tt := { l.tt with sentAt := some n } }
        exec (.frameSend i k) s = .next (s.setLane i (b.slotSend k)) ∧
        (∀ f, own → l.tt.fetched = some f → f.slot = k.val → l.rd (TT_SLOTB_PORTS k) &&& l.portsUp ≠ 0 →
          let a : Lane := { b with tt := { b.tt with fetched := none } }
          exec (.frameSend i k) s = .next (s.setLane i (a.send (.crelas (l.rd (TT_SLOTB_PORTS k) &&& l.portsUp) (b.frame k f.age f.nodata false f.data)))))) ∧
      (l.ttOn = false ∨ l.rd TT_STAT_SSTATE < ssSync ∨ (∀ n, l.atSlot k 0 = some n → l.tt.sentAt = some n) →
        exec (.frameSend i k) s = .next s)) ∧
    (∀ (k : Fin 32) (len : Fin 512),
      (l.rd (TT_SLOTA_KIND k) ≠ kOwn ∨ k.val = 31 → exec (.ttTxrdy i k len) s = .next (s.setLane i
        (((l.set TT_STAT_TXREJ).bump TT_TXREJCNT_TXREJ).raiseOnce srcTT 6 clsCE none k))) ∧
      (l.rd (TT_SLOTA_KIND k) = kOwn → k.val ≠ 31 → l.rd (TT_SLOTA_MAXLEN k) < len → exec (.ttTxrdy i k len) s = .next s) ∧
      (l.rd (TT_SLOTA_KIND k) = kOwn → k.val ≠ 31 → len ≤ l.rd (TT_SLOTA_MAXLEN k) →
        let a := l.wr TT_TXPEND_RDY (l.rd TT_TXPEND_RDY ||| 2 ^ k.val)
        exec (.ttTxrdy i k len) s = .next (s.setLane i
          { a with tt := { a.tt with tx := keyPut a.tt.tx k { a.tt.slot k with rdylen := len, rdyAt := some a.now } } }))) ∧
    (∀ m : BitVec 4, exec (.ttUnmute i m) s = .next (s.setLane i
      (l.each (List.range 4) (fun l p => if m.toNat.testBit p then l.portOpen p else l)))) ∧
    exec (.ttCntclr i) s = .next (s.setLane i
      ((l.setReg TT_CNT_RXERR.addr 0#64).each (List.range 4) (fun l p => l.wr (TT_PORTSTAT_VCNT p) 0)))

/-- On a lane in operation with NW ON. With the block off or the port down, a frame is not heard. With the block on, the port up and SSTATE at
least SYNC, and without the hub role: a frame whose start falls within the guard band of a window that the port is named in, the first of
that window and ending inside it, goes through the checks of Table 12.2; one that starts so and ends outside the window, and one that starts
in no such window, is a violation of its port; a start more than half the guard band late on a port that is not muted warns of its drift
besides. In every other state and role the frame has what the reception of the model gives it. TT_EDGE_p shows the slot and the edge error;
an error beyond 32,767 ns reads as that number, which is the model's choice (log entry 38) (R422, R432, R433, R435). -/
def Obligations.CrelasReceptionCompletes : Prop :=
  ∀ (s : State) (i : LaneId) (p : Fin 4) (f : CrelasFrame) (ago : BitVec 16), s.ready i (.domain .nw) →
    let l := s.lane i
    let trx := l.ntime - ago.toNat
    let pos := trx + 100 - l.rd (TT_PDLY_NS p)
    let k := l.slotAt (pos % ttCycle)
    let e := pos % ttCycle - l.slotStart k
    let winEnd := if k = 31 then ttCycle else l.slotStart (k + 1)
    let win := 32 * (pos / ttCycle) + k
    let named := k = 31 ∨ ((l.rd (TT_SLOTB_PORTS k)).testBit p = true ∧ (l.rd (TT_SLOTA_KIND k) = kRx ∨ l.rd (TT_SLOTA_KIND k) = kFwd))
    let a := (l.wr (TT_EDGE_SLOT p) k).wr (TT_EDGE_E_NS p) (Nat.min e 32767)
    let b := { a with tt := { a.tt with wins := keyPut a.tt.wins p win } }
    let c := b.when (decide (b.guardNs < 2 * e) && !b.on (TT_PORTSTAT_MUTED p)) (fun l => l.driftWarn p k f.sender)
    (l.ttOn = false ∨ l.portsUp.testBit p = false → exec (.crelasFrameReceive i p f ago) s = .next s) ∧
    (l.ttOn = true → l.portsUp.testBit p = true → ssSync ≤ l.rd TT_STAT_SSTATE → c.on TT_CFG_HUB = false →
      (named → e ≤ l.guardNs → keyGet l.tt.wins p ≠ some win →
        (pos % ttCycle + f.span ≤ winEnd → exec (.crelasFrameReceive i p f ago) s = .next (s.setLane i (c.rxChecks p k trx f))) ∧
        (winEnd < pos % ttCycle + f.span → exec (.crelasFrameReceive i p f ago) s = .next (s.setLane i (c.violation p)))) ∧
      (¬ named ∨ l.guardNs < e ∨ keyGet l.tt.wins p = some win →
        exec (.crelasFrameReceive i p f ago) s = .next (s.setLane i (b.violation p)))) ∧
    exec (.crelasFrameReceive i p f ago) s = .next (s.setLane i (l.rxFrame p f ago.toNat))

/-- On a lane in operation with NW ON: with the controller on the bus a received frame of an allowed format that no filter matches counts in
NOMATCH, and one that a filter matches goes to its Hamper, in one entry up to 48 bytes and else in two; the completion of the first pending
buffer ends its pending, sets DONE, sends the frame and lowers TEC by 1, and a lost arbitration ends it in one-shot mode and leaves it
pending otherwise; a protocol error counts and raises kind 3, ends the pending of a transmitter in one-shot mode, and raises TEC by 8 for a
transmitter, but for the two errors that count nothing, and REC by 1 or 8 for a receiver, and neither in listen-only mode; the steps of TEC
and REC are those of ISO 11898-1, presumed from outside the spec (log entry 31); a recovery that completes clears both counters; TXREQ makes
its buffers pending; RECOVER starts the recovery from bus-off; CNTCLR clears the counters. Off the bus, in a format that is not allowed,
without a pending buffer, in listen-only mode for a transmission, or outside bus-off for a recovery, nothing happens (R439 to R442). -/
def Obligations.CanCommandsComplete : Prop :=
  ∀ (s : State) (i : LaneId), s.ready i (.domain .nw) →
    let l := s.lane i
    (∀ f : CanFrame, l.cnOn = false ∨ l.cnFormat f.header = false → exec (.canFrameReceive i f) s = .next s) ∧
    (∀ f : CanFrame, l.cnOn = true → l.cnFormat f.header = true →
      let a := l.when (!l.on CN_CFG_LISTEN) Lane.cnHeard
      (a.cnFilter (f.header % 2 ^ 30) = none → exec (.canFrameReceive i f) s = .next (s.setLane i (a.bump CN_CNT_NOMATCH))) ∧
      (∀ n, a.cnFilter (f.header % 2 ^ 30) = some n →
        (f.data.length ≤ 48 → exec (.canFrameReceive i f) s = .next (s.setLane i
          (a.hamperPush (a.rd (CN_FMAP_HQ n)) (a.rd (CN_FMAP_PRIO n)) [cnEntry f n false f.data] .none))) ∧
        (48 < f.data.length → exec (.canFrameReceive i f) s = .next (s.setLane i
          (a.hamperPush (a.rd (CN_FMAP_HQ n)) (a.rd (CN_FMAP_PRIO n))
            [cnEntry f n true (f.data.take 48), cnEntry f n false (f.data.drop 48)] .none))))) ∧
    (∀ n, l.cnNext = some n → l.cnOn = true → l.on CN_CFG_LISTEN = false →
      let a := (l.cnUnpend n).wr CN_TXSTAT_DONE (l.rd CN_TXSTAT_DONE ||| 2 ^ n)
      let b := ((a.bump CN_CNT_TXDONE).send (.can n (a.cnFrame n))).event 113
      exec (.canFrameSent i true) s = .next (s.setLane i (b.cnState (b.rd CN_STAT_TEC - 1) (b.rd CN_STAT_REC)))) ∧
    (∀ n, l.cnNext = some n → l.cnOn = true → l.on CN_CFG_LISTEN = false →
      (l.on CN_CFG_ONESHOT = true → exec (.canFrameSent i false) s = .next (s.setLane i (l.cnUnpend n))) ∧
      (l.on CN_CFG_ONESHOT = false → exec (.canFrameSent i false) s = .next s)) ∧
    (l.cnNext = none ∨ l.cnOn = false ∨ l.on CN_CFG_LISTEN = true → ∀ ok, exec (.canFrameSent i ok) s = .next s) ∧
    (l.cnOn = false → ∀ lec tx heavy, exec (.canProtocolError i lec tx heavy) s = .next s) ∧
    (∀ (lec : Fin 8) (heavy : Bool), l.cnOn = true →
      let a := (l.wr CN_STAT_LEC lec).bump CN_CNT_PROTO
      let b := (a.raiseOnce srcCN 3 clsCE none (a.dataOf CN_STAT_TEC.addr)).event 114
      let c := match b.cnNext with
        | some n => if b.on CN_CFG_ONESHOT then b.cnUnpend n else b
        | none => b
      let light := heavy = false ∧ (lec.val = 1 ∨ (lec.val = 3 ∧ c.on CN_STAT_PASSIVE = true))
      (c.on CN_CFG_LISTEN = false → ¬ light →
        exec (.canProtocolError i lec true heavy) s = .next (s.setLane i (c.cnState (c.rd CN_STAT_TEC + 8) (c.rd CN_STAT_REC)))) ∧
      (light → exec (.canProtocolError i lec true heavy) s = .next (s.setLane i c)) ∧
      (c.on CN_CFG_LISTEN = true → exec (.canProtocolError i lec true heavy) s = .next (s.setLane i c)) ∧
      (b.on CN_CFG_LISTEN = false → exec (.canProtocolError i lec false heavy) s =
        .next (s.setLane i (b.cnState (b.rd CN_STAT_TEC) (b.rd CN_STAT_REC + (if heavy then 8 else 1))))) ∧
      (b.on CN_CFG_LISTEN = true → exec (.canProtocolError i lec false heavy) s = .next (s.setLane i b))) ∧
    (l.on CN_STAT_BUSOFF = false ∨ l.cn.recovering = false → exec (.busOffRecovery i) s = .next s) ∧
    (l.on CN_STAT_BUSOFF = false → exec (.cnRecover i) s = .next s) ∧
    (l.on CN_STAT_BUSOFF = true → l.cn.recovering = true → exec (.busOffRecovery i) s = .next (s.setLane i
      (Lane.cnState { l with cn := { l.cn with recovering := false } } 0 0))) ∧
    (∀ m : Byte, exec (.cnTxreq i m) s = .next (s.setLane i
      ((l.wr CN_TXSTAT_PEND (l.rd CN_TXSTAT_PEND ||| m.toNat)).wr CN_TXSTAT_DONE (l.rd CN_TXSTAT_DONE &&& (255 - m.toNat))))) ∧
    (l.on CN_STAT_BUSOFF = true → exec (.cnRecover i) s = .next (s.setLane i { l with cn := { l.cn with recovering := true } })) ∧
    exec (.cnCntclr i) s = .next (s.setLane i (l.setReg CN_CNT_TXDONE.addr 0#64))

/-- On a lane with its clocks: a write of PD_REQ requests every field: that of a domain the scheduler has is ignored and sets REQREJ, a code of
3 and CP other than ON leave a field as it is (the model's choice, log entry 42), every other goes to the PD block; a domain that moves
reaches its state with event 160, loses what is not RL where it goes OFF and finds its pins where it comes ON, CP ON restarts SC_TICK and
ends a wake exit, CP not ON leads to the PLL stop, another domain ends the domain step of a sleep entry or follows its request; without a
move nothing happens; CNTCLR clears the wake counters. With CP ON and no entry under way, a sleep request that R451 allows enters the
calibration step, is aborted at once by a wake event of its cycle, and meets a slow alarm in the past as that alarm; one that R451 does not
allow sets SLPREJ with kind 3; during an entry it does nothing. That a domain in transition at t_r counts as where it is on its way to (log
entry 35), and that an alarm is armed by the write of a count to come (log entry 40), are the model's choice. In the always-on domain of a
lane out of reset: an empty Whistle frame does nothing, one of another length than 24 bits or with an illegal code is discarded and counted,
one that names this lane and an enabled command counts a match with event 167 and wakes where WHW is 1, and any other does nothing; a slow
alarm that is armed and reached gives event 168 once, and wakes where ALW is 1; an enabled safety input wakes where SAFW is 1, and otherwise
does not. On a lane held in reset these three do in WK_STAT, WK_CNT and the alarm what they do there otherwise and nothing else, and with
A_VBAT below 4.5 V nothing at all (that a wake met in reset is not kept is the model's choice, log entry 68) (R447 to R449, R451 to R458,
R567, R569). -/
def Obligations.PowerCommandsComplete : Prop :=
  ∀ (s : State) (i : LaneId),
    let l := s.lane i
    (s.ready i .clocked →
      (∀ v : Word32, exec (.pdReqWrite i v) s = .next (s.setLane i
        (l.each (List.range 7) (fun l d =>
          let w := v.toNat / 4 ^ d % 4
          let q := l.rd PD_REQ_DOM
          if (l.rd SC_PDAUTO_DOM).testBit d then l.set PD_STAT_REQREJ
          else if w = 3 ∨ (d = 0 ∧ w ≠ 0) then l
          else (l.wr PD_REQ_DOM (q - q / 4 ^ d % 4 * 4 ^ d + w * 4 ^ d)).domRequested d w)))) ∧
      (∀ d : Fin 7,
        (l.moveOf d = none → exec (.domainTransition i d) s = .next s) ∧
        (∀ m : DomMove, l.moveOf d = some m →
          let a := Lane.setDom { l with pw := { l.pw with moves := l.pw.moves.filter (fun k => k.dom ≠ d.val) } } d m.target
          let b := a.event 160
          let c := if m.target = 2 then b.domLose d else if m.target = 0 then b.domUp d else b
          (d.val = 0 → m.target = 0 →
            let e : Lane := { c with sc := { c.sc with tickAt := c.now, binAt := c.now, tickRun := true } }
            (c.pw.step = .cpUp → exec (.domainTransition i d) s = .next (s.setLane i
              (Lane.each { e with pw := { e.pw with step := .awake, kaAo := false } } [1, 2, 3, 4, 5, 6]
                (fun l d => l.domStart d (l.pw.back / 4 ^ d % 4))))) ∧
            (c.pw.step ≠ .cpUp → exec (.domainTransition i d) s = .next (s.setLane i e))) ∧
          (d.val = 0 → m.target ≠ 0 → exec (.domainTransition i d) s = .next (s.setLane i (c.sleepStep (.stop (c.now + usec))))) ∧
          (d.val ≠ 0 → c.pw.step = .domains → exec (.domainTransition i d) s = .next (s.setLane i c.sleepDomains)) ∧
          (d.val ≠ 0 → c.pw.step ≠ .domains → exec (.domainTransition i d) s = .next (s.setLane i (c.domFollow d))))) ∧
      exec (.wkCntclr i) s = .next (s.setLane i (l.setReg WK_CNT_MATCH.addr 0#64))) ∧
    (s.ready i (.domain .cp) →
      (l.pw.step ≠ .awake → exec (.sleep i) s = .next s) ∧
      (l.pw.step = .awake → l.maySleep = false → exec (.sleep i) s = .next (s.setLane i
        ((l.set PD_STAT_SLPREJ).raise srcPD 3 clsCE none ((l.set PD_STAT_SLPREJ).dataOf PD_STAT_STATE.addr)))) ∧
      (l.pw.step = .awake → l.maySleep = true →
        let a := Lane.set { l with pw := { l.pw with step := .calib, cal := true, back := l.domHeld } } PD_STAT_ENTRY
        let past := a.on WK_CFG_ALW = true ∧ a.rd WK_ALARM ≤ a.slow
        (∀ t c, a.pw.wakeAt = some (t, c) → a.now / cycPer = t / cycPer → exec (.sleep i) s = .next (s.setLane i (a.sleepAbort c))) ∧
        ((∀ t c, a.pw.wakeAt = some (t, c) → a.now / cycPer ≠ t / cycPer) →
          (past → exec (.sleep i) s = .next (s.setLane i a.slowAlarm)) ∧
          (¬ past → exec (.sleep i) s = .next (s.setLane i a))))) ∧
    (s.ready i .wake →
      exec (.whistleFrame i []) s = .next s ∧
      (∀ f : List WhistlePulse, f ≠ [] →
        ((∀ b, whistleBits f = some b → b.length ≠ 24) → exec (.whistleFrame i f) s = .next (s.setLane i
          (let a := (l.set WK_STAT_BADW).bump WK_CNT_BADW
           a.raiseOnce srcWK 2 clsCE none (a.dataOf WK_CNT_BADW.addr)))) ∧
        (∀ b, whistleBits f = some b → b.length = 24 →
          let cmd := bitsNat (b.drop 16)
          let named := bitsNat (b.take 16) = l.rd WK_CFG_WADDR ∧ ∃ k < 4, (l.rd WK_CFG_CMDEN).testBit k = true ∧ l.whistleCmd k = cmd
          let a := ((l.wr WK_STAT_LASTCMD cmd).bump WK_CNT_MATCH).event 167
          (named → a.on WK_CFG_WHW = true → exec (.whistleFrame i f) s = .next (s.setLane i (a.wake 1))) ∧
          (named → a.on WK_CFG_WHW = false → exec (.whistleFrame i f) s = .next (s.setLane i a)) ∧
          (¬ named → exec (.whistleFrame i f) s = .next s))) ∧
      (l.pw.alarm = true → l.rd WK_ALARM ≤ l.slow →
        let a := Lane.event { l with pw := { l.pw with alarm := false } } 168
        exec (.slowAlarm i) s = .next (s.setLane i (if a.on WK_CFG_ALW = true then a.wake 2 else a))) ∧
      (l.pw.alarm = false ∨ l.slow < l.rd WK_ALARM → exec (.slowAlarm i) s = .next s) ∧
      (∀ (n : Fin 4) (rail : Bool),
        (l.on WK_CFG_SAFW = true → (l.rd WK_CFG_SAFEN).testBit (2 * n + rail.toNat) = true →
          exec (.safetyInputWake i n rail) s = .next (s.setLane i (l.wake 3))) ∧
        (l.on WK_CFG_SAFW = false ∨ (l.rd WK_CFG_SAFEN).testBit (2 * n + rail.toNat) = false →
          exec (.safetyInputWake i n rail) s = .next s))) ∧
    (s.part.hasLane i = true → l.sy.held = true →
      let ao := fun (d : Lane) =>
        let a := (l.setReg WK_STAT_TQ.addr (d.reg WK_STAT_TQ.addr)).setReg WK_CNT_MATCH.addr (d.reg WK_CNT_MATCH.addr)
        { a with pw := { a.pw with alarm := d.pw.alarm } }
      (l.sy.dead = true → ∀ (f : List WhistlePulse) (n : Fin 4) (r : Bool), exec (.whistleFrame i f) s = .next s ∧ exec (.slowAlarm i) s = .next s ∧
        exec (.safetyInputWake i n r) s = .next s) ∧
      (l.sy.dead = false →
        (∀ f : List WhistlePulse, exec (.whistleFrame i f) s = .next (s.setLane i (ao (l.whistle f)))) ∧
        (l.pw.alarm = true → l.rd WK_ALARM ≤ l.slow → exec (.slowAlarm i) s = .next (s.setLane i (ao l.slowAlarm))) ∧
        (l.pw.alarm = false ∨ l.slow < l.rd WK_ALARM → exec (.slowAlarm i) s = .next (s.setLane i (ao l))) ∧
        (∀ (n : Fin 4) (r : Bool), l.on WK_CFG_SAFW = true → (l.rd WK_CFG_SAFEN).testBit (2 * n + r.toNat) = true →
          exec (.safetyInputWake i n r) s = .next (s.setLane i (ao (l.wake 3)))) ∧
        (∀ (n : Fin 4) (r : Bool), l.on WK_CFG_SAFW = false ∨ (l.rd WK_CFG_SAFEN).testBit (2 * n + r.toNat) = false →
          exec (.safetyInputWake i n r) s = .next (s.setLane i (ao l)))))

/-- On a lane in operation: CALGO starts a calibration; one that ends in the window of 792,000 to 808,000 stores its count and sets CALV with
event 163, and goes on with a sleep entry that waits for it; one outside sets CALFAIL, raises kind 4 and leaves the stored count, and undoes
such an entry with SLPREJ and event 169; an end without a calibration does nothing. DIVGO in SERVICE with a code of 1 to 3 other than the
present one changes the divisor where PM_VACK holds the voltage that it needs (750, 710 or 660 mV), and else sets DIVREJ with kind 3 and
leaves it; outside SERVICE, with the code 0 (the model's choice, log entry 35) or with the present code it does nothing. A root loss raises
kind 1 with the detector in its data, stops network time, SC_TICK, LOCK and the keep-alive of AO, and is not declared twice. A frequency
check that is due stores its count, and raises the fault of kind 2 where eight times the count differs from the calibration by more than 2
%; before it is due, or without lock, it does nothing (R459, R464 to R466). -/
def Obligations.ClockCommandsComplete : Prop :=
  ∀ (s : State) (i : LaneId), s.ready i .clocked →
    let l := s.lane i
    exec (.ckCalgo i) s = .next (s.setLane i { l with pw := { l.pw with cal := true } }) ∧
    (∀ n : BitVec 20,
      (l.pw.cal = false → exec (.lpoCalibrationEnd i n) s = .next s) ∧
      (l.pw.cal = true →
        let a := { l with pw := { l.pw with cal := false } }
        (792000 ≤ n.toNat → n.toNat ≤ 808000 →
          let b := ((a.wr CK_LPOCAL_CNT n.toNat).set CK_STAT_CALV).event 163
          (b.pw.step = .calib → exec (.lpoCalibrationEnd i n) s = .next (s.setLane i b.sleepDown)) ∧
          (b.pw.step ≠ .calib → exec (.lpoCalibrationEnd i n) s = .next (s.setLane i b))) ∧
        (n.toNat < 792000 ∨ 808000 < n.toNat →
          let b := ((a.set CK_STAT_CALFAIL).raise srcCK 4 clsUC none n.toNat).event 163
          (b.pw.step = .calib → exec (.lpoCalibrationEnd i n) s = .next (s.setLane i ((b.sleepUndo.set PD_STAT_SLPREJ).event 169))) ∧
          (b.pw.step ≠ .calib → exec (.lpoCalibrationEnd i n) s = .next (s.setLane i b))))) ∧
    (∀ d : BitVec 2,
      (l.mode ≠ mService ∨ d = 0#2 ∨ l.rd CK_STAT_DIV = d.toNat → exec (.ckDivgo i d) s = .next s) ∧
      (l.mode = mService → d ≠ 0#2 → l.rd CK_STAT_DIV ≠ d.toNat →
        let mv := if d = 1#2 then 750 else if d = 2#2 then 710 else 660
        (mv ≤ l.rd PM_VACK_MV → exec (.ckDivgo i d) s = .next (s.setLane i ((l.wr CK_STAT_DIV d.toNat).event 162))) ∧
        (l.rd PM_VACK_MV < mv → exec (.ckDivgo i d) s = .next (s.setLane i
          (((l.set CK_STAT_DIVREJ).raise srcCK 3 clsCE none (l.rd PM_VACK_MV)).event 162))))) ∧
    (∀ det : Bool,
      (l.pw.rootLost = true ∨ l.rd CK_STAT_LOCK = 0 → exec (.rootLoss i det) s = .next s) ∧
      (l.pw.rootLost = false → l.rd CK_STAT_LOCK ≠ 0 →
        let a := l.raise srcCK 1 clsFT none (if det then 1 else 0)
        let b := (a.ntRebase.tickStop).clr CK_STAT_LOCK
        exec (.rootLoss i det) s = .next (s.setLane i
          { b with pw := { b.pw with rootLost := true, kaAo := false }, tt := { b.tt with ntRun := false } }))) ∧
    (∀ n : BitVec 20,
      (l.rd CK_STAT_LOCK = 0 ∨ l.now < l.pw.freqAt + freqStep → exec (.frequencyCheck i n) s = .next s) ∧
      (l.rd CK_STAT_LOCK ≠ 0 → l.pw.freqAt + freqStep ≤ l.now →
        let a := Lane.wr { l with pw := { l.pw with freqAt := l.pw.freqAt + freqStep } } CK_FCNT_CNT n.toNat
        let c := a.rd CK_LPOCAL_CNT
        (c < 50 * (8 * n.toNat - c) ∨ c < 50 * (c - 8 * n.toNat) →
          exec (.frequencyCheck i n) s = .next (s.setLane i (a.raise srcCK 2 clsFT none n.toNat))) ∧
        (¬ (c < 50 * (8 * n.toNat - c) ∨ c < 50 * (c - 8 * n.toNat)) → exec (.frequencyCheck i n) s = .next (s.setLane i a))))

/-- On a lane in operation. A request inside the window with the master free starts VOUT_COMMAND with BUSY; with BUSY it sets BUSYREJ, outside
the window VREJ with kind 1 once per outer cycle, each with event 165 and as a request not acknowledged; with EN 0 nothing is sent. A_PGOOD
as the source, high, after SETTLE and within 500 us of the stop condition acknowledges the request, with LATE in the cycle of expiry, and at
no other time; 500 us without it set NOACK with kind 2. A transaction that fails is repeated once 10 us later; on its second failure it sets
BUSERR with kind 3 and event 165, and ends its request, its command or the regulator check; without a transaction, or while a repeat waits,
nothing. A transaction that ends frees the bus, stores what it read (STATUS_WORD, OPERATION, VOUT, IOUT) and has the effect of its use.
PM_CMD starts its transaction with BUSY, sets BUSYREJ with event 165 while BUSY, and for an OPERATION other than the codes of R470 sets VREJ
with kind 1 and event 165. A poll starts READ_VOUT and READ_IOUT where EN and POLL are 1, BUSY is 0 and the lane is not in BOOT. The fall of
A_PMALT sets ALERT with event 166 and reads STATUS_WORD where EN is 1, after which, or whose failure, PM_ALERT is raised, as it is at once
where EN is 0; its rise clears ALERT. That no poll runs in BOOT, that transactions wait for one another, and PM_ALERT with EN 0 and after a
failed read are the model's choice (log entry 39) (R468, R470, R471). -/
def Obligations.RegulatorCommandsComplete : Prop :=
  ∀ (s : State) (i : LaneId), s.ready i .clocked →
    let l := s.lane i
    (∀ mv : BitVec 16,
      let a := l.wr PM_VREQ_MV mv.toNat
      (a.pmOn = false → exec (.voltageRequest i mv) s = .next (s.setLane i a)) ∧
      (a.pmOn = true → a.on PM_STAT_BUSY = true →
        exec (.voltageRequest i mv) s = .next (s.setLane i (((a.set PM_STAT_BUSYREJ).event 165).pmNotAck .firmware true))) ∧
      (a.pmOn = true → a.on PM_STAT_BUSY = false →
        (a.pmCfg PM_VWIN_MIN ≤ mv.toNat → mv.toNat ≤ a.pmCfg PM_VWIN_MAX →
          exec (.voltageRequest i mv) s = .next (s.setLane i ((Lane.set { a with pm := { a.pm with req := some { mv := mv.toNat, why := .firmware } } } PM_STAT_BUSY).pmStart
            ⟨.voutCommand mv.toNat, .request⟩))) ∧
        (mv.toNat < a.pmCfg PM_VWIN_MIN ∨ a.pmCfg PM_VWIN_MAX < mv.toNat → exec (.voltageRequest i mv) s =
          .next (s.setLane i ((((a.raiseOnce srcPM 1 clsCE none mv.toNat).set PM_STAT_VREJ).event 165).pmNotAck .firmware true))))) ∧
    ((∀ r t, l.pm.req = some r → r.stopAt ≠ some t) →
      exec (.voltageAcknowledge i) s = .next s ∧ exec (.voltageAckTimeout i) s = .next s) ∧
    (∀ r t, l.pm.req = some r → r.stopAt = some t →
      let good := l.pmCfg PM_CFG_ACKSRC = 0 ∧ l.on PM_STAT_PGOOD = true ∧ t + l.pmCfg PM_CFG_SETTLE * usec ≤ l.now
      (good → l.now < t + pmTimeout → exec (.voltageAcknowledge i) s = .next (s.setLane i (l.pmAck r false))) ∧
      (good → t + pmTimeout ≤ l.now → l.now < t + pmTimeout + cycPer → exec (.voltageAcknowledge i) s = .next (s.setLane i (l.pmAck r true))) ∧
      (¬ good ∨ t + pmTimeout + cycPer ≤ l.now → exec (.voltageAcknowledge i) s = .next s) ∧
      (t + pmTimeout ≤ l.now →
        exec (.voltageAckTimeout i) s = .next (s.setLane i ((((l.set PM_STAT_NOACK).raise srcPM 2 clsUC none r.mv).event 165).pmLost r))) ∧
      (l.now < t + pmTimeout → exec (.voltageAckTimeout i) s = .next s)) ∧
    (l.pm.cur = none ∨ l.pm.retryAt.isSome = true → exec (.transactionFail i) s = .next s ∧ ∀ v, exec (.pmbusTransactionEnd i v) s = .next s) ∧
    ((∀ t, l.pm.cur = none ∨ l.pm.retryAt ≠ some t ∨ l.now < t) → exec (.transactionRetry i) s = .next s) ∧
    (∀ k, l.pm.cur = some k →
      (∀ t, l.pm.retryAt = some t → t ≤ l.now → exec (.transactionRetry i) s = .next (s.setLane i (l.pmSend k))) ∧
      (l.pm.retryAt = none → l.pm.again = false → exec (.transactionFail i) s =
        .next (s.setLane i { l with pm := { l.pm with retryAt := some (l.now + pmRetry), again := true } })) ∧
      (l.pm.retryAt = none → l.pm.again = true →
        let b := (((l.set PM_STAT_BUSERR).raise srcPM 3 clsUC none (pmCode k.t)).event 165).pmFree
        (∀ r, k.use = .request → b.pm.req = some r → exec (.transactionFail i) s = .next (s.setLane i (b.pmLost r))) ∧
        (k.use = .command → exec (.transactionFail i) s = .next (s.setLane i (b.clr PM_STAT_BUSY))) ∧
        (∀ mv, k.use = .check mv → exec (.transactionFail i) s = .next (s.setLane i (b.regFail 0 true false))) ∧
        (k.use = .alert → exec (.transactionFail i) s = .next (s.setLane i (b.raise srcPM 4 clsCE none (b.dataOf PM_SW_SW.addr)))) ∧
        ((k.use = .request ∧ b.pm.req = none) ∨ k.use = .ack ∨ k.use = .poll →
          exec (.transactionFail i) s = .next (s.setLane i b))) ∧
      (∀ v : BitVec 16, l.pm.retryAt = none →
        let b := l.pmFree
        let c := match k.t with
          | .statusWord => b.wr PM_SW_SW v.toNat
          | .operationRead => b.wr PM_SW_OP v.toNat
          | .readVout => b.takeReading PM_VOUT_MV (linear16Mv (b.rd PM_CFG_EXP) v.toNat)
          | .readIout => b.takeReading PM_IOUT_I10MA (linear11Ma v.toNat)
          | _ => b
        (∀ r, k.use = .request → c.pm.req = some r → exec (.pmbusTransactionEnd i v) s =
          .next (s.setLane i { c with pm := { c.pm with req := some { r with stopAt := some c.now, readAt := c.now + c.pmCfg PM_CFG_SETTLE * usec } } })) ∧
        ((k.use = .request ∧ c.pm.req = none) ∨ k.use = .poll → exec (.pmbusTransactionEnd i v) s = .next (s.setLane i c)) ∧
        (k.use = .ack → exec (.pmbusTransactionEnd i v) s = .next (s.setLane i (c.statusAck v.toNat))) ∧
        (k.use = .alert → exec (.pmbusTransactionEnd i v) s = .next (s.setLane i (c.raise srcPM 4 clsCE none (c.dataOf PM_SW_SW.addr)))) ∧
        (k.use = .command → exec (.pmbusTransactionEnd i v) s = .next (s.setLane i (c.clr PM_STAT_BUSY))) ∧
        (∀ mv, k.use = .check mv →
          exec (.pmbusTransactionEnd i v) s = .next (s.setLane i (c.regJudge (linear16Mv (c.rd PM_CFG_EXP) v.toNat) mv))))) ∧
    (∀ (c : Instr) (code data : Nat) (t : PmTrans),
      (∃ d : Byte, c = .operationWrite i d ∧ code = 0 ∧ data = d.toNat ∧ t = .operationWrite data) ∨
      (c = .clearFaults i ∧ code = 1 ∧ data = l.rd PM_CMD_DATA ∧ t = .clearFaults) ∨
      (c = .statusWordRead i ∧ code = 2 ∧ data = l.rd PM_CMD_DATA ∧ t = .statusWord) ∨
      (c = .operationRead i ∧ code = 3 ∧ data = l.rd PM_CMD_DATA ∧ t = .operationRead) →
      let a := if code = 0 then (l.wr PM_CMD_CODE 0).wr PM_CMD_DATA data else l.wr PM_CMD_CODE code
      (a.pmOn = false → exec c s = .next (s.setLane i a)) ∧
      (a.pmOn = true → a.on PM_STAT_BUSY = true → exec c s = .next (s.setLane i ((a.set PM_STAT_BUSYREJ).event 165))) ∧
      (a.pmOn = true → a.on PM_STAT_BUSY = false →
        (code = 0 → data / 64 ≠ 2 → exec c s = .next (s.setLane i (((a.set PM_STAT_VREJ).raiseOnce srcPM 1 clsCE none data).event 165))) ∧
        (code ≠ 0 ∨ data / 64 = 2 → exec c s = .next (s.setLane i ((a.set PM_STAT_BUSY).pmStart ⟨t, .command⟩))))) ∧
    (l.pmOn = true → l.rd PM_CFG_POLL = 1 → l.rd PM_STAT_BUSY = 0 → l.mode ≠ mBoot →
      exec (.pmPoll i) s = .next (s.setLane i ((l.pmStart ⟨.readVout, .poll⟩).pmStart ⟨.readIout, .poll⟩))) ∧
    (l.pmOn = false ∨ l.rd PM_CFG_POLL ≠ 1 ∨ l.rd PM_STAT_BUSY ≠ 0 ∨ l.mode = mBoot → exec (.pmPoll i) s = .next s) ∧
    (l.on PM_STAT_ALERT = true → exec (.pmAlert i true) s = .next s) ∧
    (l.on PM_STAT_ALERT = false →
      let a := (l.set PM_STAT_ALERT).event 166
      exec (.pmAlert i true) s = .next (s.setLane i (if a.pmOn = true then a.pmStart ⟨.statusWord, .alert⟩
        else a.raise srcPM 4 clsCE none (a.dataOf PM_SW_SW.addr)))) ∧
    exec (.pmAlert i false) s = .next (s.setLane i (l.clr PM_STAT_ALERT))

/-- On a lane in operation with CP ON: in PRODUCTION a slice request that no condition of R487 refuses starts, and a refused one stores REFUSED;
elsewhere it is ignored. A slice that ends by itself stores its result, SKIP for a GD unit only; a periodic slice whose budget has passed is
aborted with cause 1, or ends with SKIP where a GD slice has found no interval; an access to a memory under test aborts the slice of it with
cause 2; the injection of a GD slice is noted; without a slice, before the budget, for a step of a program, and for other units, these do
nothing. PROGGO in SERVICE in MANUFACTURE or RETURN with no slice and no program running starts the program, and else does nothing; ABORT
stops the program, after a running slice, and at once where a step waits between two runs, which then ends with what its runs have found
(log entry 34, the model's choice, as is that the coverage a run of a step reports is that of the step's range so far); CNTCLR clears the
counters. MEMTOK that is accepted takes its sender's epoch and restarts the lost-token time, names the holder unless its sequence number is
below the last, gives this lane the token where it names it, and takes it away where it names another with a higher number; one that is not
accepted is discarded and counted. A lane without the token, the earliest participant, regenerates it four outer cycles after the last
message or where the holder is gone, and else not. ST_CTL.SWEEP in SERVICE in MANUFACTURE or RETURN restarts with a sweep, and else does
nothing (R486 to R496). -/
def Obligations.SelfTestCommandsComplete : Prop :=
  ∀ (s : State) (i : LaneId), s.ready i (.domain .cp) →
    let l := s.lane i
    (∀ (u : Fin 32) (ix : BitVec 16),
      (l.rd LC_STAT_STATE ≠ 2 → exec (.stSlice i u ix) s = .next s) ∧
      (l.rd LC_STAT_STATE = 2 →
        (l.sliceRefused u ix.toNat = false → exec (.stSlice i u ix) s = .next (s.setLane i (l.sliceStart u ix.toNat false))) ∧
        (l.sliceRefused u ix.toNat = true → exec (.stSlice i u ix) s = .next (s.setLane i (l.stResult 5 u 0 0))))) ∧
    (l.st.run = none → (∀ res cov, exec (.sliceEnd i res cov) s = .next s) ∧ exec (.sliceBudgetExpiry i) s = .next s ∧
      exec (.sliceAccessAbort i) s = .next s ∧ exec (.gdSliceInjection i) s = .next s) ∧
    (∀ r, l.st.run = some r →
      (∀ (res : SliceResult) (cov : Fin 1024),
        (res ≠ .skip ∨ gdUnit r.unit = true →
          exec (.sliceEnd i res cov) s = .next (s.setLane i (l.sliceDone r (resCode res) (Nat.min 1000 cov)).progNext)) ∧
        (res = .skip → gdUnit r.unit = false → exec (.sliceEnd i res cov) s = .next s)) ∧
      (r.prog = true ∨ l.now < r.start + l.sliceBudget r.unit * usec → exec (.sliceBudgetExpiry i) s = .next s) ∧
      (r.prog = false → r.start + l.sliceBudget r.unit * usec ≤ l.now →
        (gdUnit r.unit = true → r.began = false → exec (.sliceBudgetExpiry i) s = .next (s.setLane i (l.sliceDone r 3 0))) ∧
        (gdUnit r.unit = false ∨ r.began = true →
          exec (.sliceBudgetExpiry i) s = .next (s.setLane i ((l.sliceDone r 4 0).wr ST_STAT_ACAUSE 1)))) ∧
      (r.unit = 6 ∨ r.unit = 7 ∨ r.unit = 9 → exec (.sliceAccessAbort i) s =
        .next (s.setLane i ((l.sliceDone r 4 0).wr ST_STAT_ACAUSE 2).progNext)) ∧
      (r.unit ≠ 6 → r.unit ≠ 7 → r.unit ≠ 9 → exec (.sliceAccessAbort i) s = .next s) ∧
      (gdUnit r.unit = true → exec (.gdSliceInjection i) s = .next (s.setLane i
        { l with st := { l.st with run := some { r with began := true } } })) ∧
      (gdUnit r.unit = false → exec (.gdSliceInjection i) s = .next s) ∧
      (∀ n, l.st.prog = some n → exec (.stAbort i) s = .next (s.setLane i { l with st := { l.st with progStop := true } }))) ∧
    (l.mode = mService → l.rd LC_STAT_STATE = 1 ∨ l.rd LC_STAT_STATE = 3 → l.st.run = none → l.st.prog = none →
      exec (.stProggo i) s = .next (s.setLane i ((l.set ST_STAT_PROG).progRun 64))) ∧
    (l.mode ≠ mService ∨ (l.rd LC_STAT_STATE ≠ 1 ∧ l.rd LC_STAT_STATE ≠ 3) ∨ l.st.run ≠ none ∨ l.st.prog ≠ none →
      exec (.stProggo i) s = .next s) ∧
    (∀ n, l.st.prog = some n → l.st.run = none → exec (.stAbort i) s = .next (s.setLane i
      ((if n.done = 0 then l else l.partDone (l.stepUnit n.step) n.res n.cov n.time).progEnd))) ∧
    (l.st.prog = none → exec (.stAbort i) s = .next s) ∧
    exec (.stCntclr i) s = .next (s.setLane i (l.setReg ST_CNT_PASS.addr 0#64)) ∧
    (∀ m : GlMsg, l.glAccept m 8 = none → exec (.memtokReceive i m) s = .next (s.setLane i l.glDiscard)) ∧
    (∀ (m : GlMsg) (j : LaneId), l.glAccept m 8 = some j →
      let e := l.seeEpoch m
      let h := byteAt m.payload 1
      let seq := leField m.payload 4 4
      let old := e.rd ST_TOK_SEQ
      let a := { e with st := { e.st with tokAt := e.now, holder := if old ≤ seq then h else e.st.holder } }
      (h = l.me.code → old ≤ seq → exec (.memtokReceive i m) s = .next (s.setLane i (a.tokTake seq))) ∧
      (h ≠ l.me.code → old < seq → exec (.memtokReceive i m) s = .next (s.setLane i
        ((Lane.wr { a with st := { a.st with passDue := false } } ST_TOK_SEQ seq).clr ST_STAT_TOKEN))) ∧
      (seq < old ∨ (h ≠ l.me.code ∧ seq = old) → exec (.memtokReceive i m) s = .next (s.setLane i a))) ∧
    (let lost := l.firstPartaker = some l.me ∧ l.rd ST_STAT_TOKEN = 0 ∧
        (l.st.tokAt + 4 * outerCycle l.prof ≤ l.now ∨ l.holderGone = true)
     (lost →
        let seq := (l.rd ST_TOK_SEQ + 1) % 2 ^ 32
        let a := (l.tokSend 2 l.me seq).tokTake seq
        let b := { a with st := { a.st with waitUntil := a.now + outerCycle a.prof, tokAt := a.now } }
        exec (.memtokRegen i) s = .next (s.setLane i ((b.bump ST_CNT_REGEN).raise srcST 2 clsCE none seq))) ∧
     (¬ lost → exec (.memtokRegen i) s = .next s)) ∧
    (l.mode = mService → l.life = lcManufacture ∨ l.life = lcReturn → exec (.stSweep i) s = .next (s.setLane i l.sweepBoot)) ∧
    (l.mode ≠ mService ∨ (l.life ≠ lcManufacture ∧ l.life ≠ lcReturn) → exec (.stSweep i) s = .next s)

/-- On a lane in operation: LCADV in BLANK with key slot 0 programmed starts the write of MANUFACTURE, without it is refused with result 5, and
in MANUFACTURE or RETURN with 2; LCTERM in the three open states starts the write of TERMINATED; both are ignored in the other states and
while an OTP write runs (the model's choice, log entry 47). KEYPROG in BLANK or MANUFACTURE programs an empty slot, and KEYREV in
MANUFACTURE or RETURN revokes a slot where another may sign images; else they do nothing, KEYPROG of a slot already programmed among them
(the model's choice, log entry 47). FTMODE in MANUFACTURE, and FTMON there in SERVICE, set FTM; JTAG SWEEP in BLANK restarts with a sweep,
and a lane that holds the token abdicates first; else they do nothing. That SWEEP acts while an OTP write runs, and that GO then does
nothing, are the model's choice (log entry 47). With CP ON, GO does nothing while an OTP write runs; outside SERVICE it is refused with
result 3; in SERVICE MANUFACTURE moves to PRODUCTION (with FTM set, result 4), PRODUCTION to RETURN on a valid token (else the result of its
first failed check, with kind 1), MANUFACTURE, PRODUCTION and RETURN to TERMINATED, and every other target is refused with result 2. An OTP
write that ends well gives result 1: one of a state gives event 174, abdicates a token held and enters BOOT, one of a key slot takes effect;
one that fails gives result 9 and kind 2, with event 174 where it was one of a state (that the write of a key slot is no life-cycle request
with that event is the model's choice, log entry 47); without one its end does nothing (R302, R478 to R483, R498; Table 14.2). -/
def Obligations.LifeCycleCommandsComplete : Prop :=
  ∀ (s : State) (i : LaneId), s.ready i .clocked →
    let l := s.lane i
    (l.jtagOpen = false ∨ l.on LC_STAT_BUSY = true → exec (.lcadv i) s = .next s ∧ exec (.lcterm i) s = .next s) ∧
    (l.on LC_STAT_BUSY = false →
      (l.life = lcBlank → l.on (keyFlag 0 3) = true → exec (.lcadv i) s = .next (s.setLane i (l.otpStart (.state lcManufacture)))) ∧
      (l.life = lcBlank → l.on (keyFlag 0 3) = false → exec (.lcadv i) s = .next (s.setLane i (l.lcRefuse 5))) ∧
      (l.life = lcManufacture ∨ l.life = lcReturn → exec (.lcadv i) s = .next (s.setLane i (l.lcRefuse 2))) ∧
      (l.jtagOpen = true → exec (.lcterm i) s = .next (s.setLane i (l.otpStart (.state lcTerminated))))) ∧
    (∀ (k : Fin 4) (img rtn : Bool) (hash : List Byte),
      let may := (l.life = lcBlank ∨ l.life = lcManufacture) ∧ l.on LC_STAT_BUSY = false ∧ l.on (keyFlag k 3) = false
      (may → exec (.keyprog i k img rtn hash) s = .next (s.setLane i (l.otpStart (.program k img rtn hash)))) ∧
      (¬ may → exec (.keyprog i k img rtn hash) s = .next s)) ∧
    (∀ k : Fin 4,
      let may := (l.life = lcManufacture ∨ l.life = lcReturn) ∧ l.on LC_STAT_BUSY = false ∧ ∃ j : Fin 4, j ≠ k ∧ l.imgKey j = true
      (may → exec (.keyrev i k) s = .next (s.setLane i (l.otpStart (.revoke k)))) ∧
      (¬ may → exec (.keyrev i k) s = .next s)) ∧
    (l.life = lcManufacture → exec (.ftmode i) s = .next (s.setLane i (l.set LC_STAT_FTM))) ∧
    (l.life ≠ lcManufacture → exec (.ftmode i) s = .next s) ∧
    (l.life = lcBlank → exec (.jtagSweep i) s =
      let b := l.abdicateNow.enterBoot
      .next (s.setLane i { b with st := { b.st with swJtag := true } })) ∧
    (l.life ≠ lcBlank → exec (.jtagSweep i) s = .next s) ∧
    (l.domOn .cp = true → ∀ target : Fin 8,
      (l.on LC_STAT_BUSY = true → exec (.lcGo i target) s = .next s) ∧
      (l.on LC_STAT_BUSY = false → l.mode ≠ mService → exec (.lcGo i target) s = .next (s.setLane i (l.lcRefuse 3))) ∧
      (l.on LC_STAT_BUSY = false → l.mode = mService →
        let fac := l.life = lcManufacture ∧ target.val = lcProduction
        let ret := l.life = lcProduction ∧ target.val = lcReturn
        let term := target.val = lcTerminated ∧ (l.life = lcManufacture ∨ l.life = lcProduction ∨ l.life = lcReturn)
        (fac → l.on LC_STAT_FTM = false → exec (.lcGo i target) s = .next (s.setLane i (l.otpStart (.state lcProduction)))) ∧
        (fac → l.on LC_STAT_FTM = true → exec (.lcGo i target) s = .next (s.setLane i (l.lcRefuse 4))) ∧
        (ret → l.tokenResult = none → exec (.lcGo i target) s = .next (s.setLane i (l.otpStart (.state lcReturn)))) ∧
        (ret → ∀ r, l.tokenResult = some r →
          exec (.lcGo i target) s = .next (s.setLane i ((l.lcResult r).raise srcLC 1 clsCE none r))) ∧
        (term → exec (.lcGo i target) s = .next (s.setLane i (l.otpStart (.state lcTerminated)))) ∧
        (¬ fac → ¬ ret → ¬ term → exec (.lcGo i target) s = .next (s.setLane i (l.lcRefuse 2))))) ∧
    (l.domOn .cp = true →
      (l.mode = mService → l.life = lcManufacture → exec (.lcFtmon i) s = .next (s.setLane i (l.set LC_STAT_FTM))) ∧
      (l.mode ≠ mService ∨ l.life ≠ lcManufacture → exec (.lcFtmon i) s = .next s)) ∧
    (l.lc.write = none → ∀ ok, exec (.otpWriteComplete i ok) s = .next s) ∧
    (∀ w, l.lc.write = some w →
      let a : Lane := { l with lc := {} }
      (∀ c, w = .state c → exec (.otpWriteComplete i true) s = .next (s.setLane i ((((a.lcResult 1).abdicateNow).otpBurn w).enterBoot)) ∧
        exec (.otpWriteComplete i false) s = .next (s.setLane i (a.lcRefuse 9))) ∧
      ((∀ c, w ≠ .state c) → exec (.otpWriteComplete i true) s = .next (s.setLane i
        (((a.otpBurn w).wr LC_STAT_RESULT 1).clr LC_STAT_BUSY)) ∧
        exec (.otpWriteComplete i false) s =
          let b := (a.wr LC_STAT_RESULT 9).clr LC_STAT_BUSY
          .next (s.setLane i (b.raise srcLC 2 clsCE none (b.dataOf LC_STAT_STATE.addr)))))

/-- For every state, lane and axis, and every value with bits 2 and 3 set, unless the access has to wait for its domain (R450; it then takes
effect as the same write when the domain is ON): the write of MOD_CTL_x, given as a command or leaving the store buffer, does exactly what
the same write with bit 2 clear does. On a lane in operation that has the axis, with its domain ON, the write leaves a pending request for
passthrough off (R143). -/
def Obligations.PassOffWinsOverPassOn : Prop :=
  ∀ (s : State) (i : LaneId) (x : Ax) (v : Word), v.getLsbD 2 = true → v.getLsbD 3 = true →
    let a := (MOD_CTL_PASSOFF x).addr
    let off := v &&& ~~~4#64
    ((s.lane i).domOn (.pg x) = true ∨ (s.lane i).coming (.pg x) = false →
      exec (.registerWrite i false a 4 v) s = exec (.registerWrite i false a 4 off) s) ∧
    (∀ l : Lane, l.domOn (.pg x) = true ∨ l.coming (.pg x) = false → l.release (.device a 4 v) = l.release (.device a 4 off)) ∧
    (s.ready i (.domain .cp) → (s.lane i).part.hasAxis x = true → (s.lane i).domOn (.pg x) = true →
      ∃ t, exec (.registerWrite i false a 4 v) s = .next (s.setLane i t) ∧ (t.ax x).md.passReq = some false)

/-- On a lane in operation with CP ON, joined and running or held by the debugger, where (once a commit that is in progress has been completed,
R276) the last two rollbacks were flagged at t1 and, before it, t, with now at most t + 10 ms: a mismatch stops the pair, and PC_ROLLFATAL
(FT) waits at the fault collector at once, not among the messages held for a commit. With nothing else waiting and none accepted in the same
CLK_BUS cycle, its acceptance latches it and runs the fatal reaction (R275). -/
def Obligations.ThirdRollbackIsFatal : Prop :=
  ∀ (s : State) (i : LaneId) (p : Fin 5) (slot : Bool) (r : Fin 128) (a : Word) (t1 t : Nat), s.ready i (.domain .cp) →
    let l := s.lane i
    l.on PC_STAT_PAIR = false → l.pc.core = .running ∨ l.pc.core = .halted → l.midDone.pc.rbTimes = [t1, t] → l.midDone.now ≤ t + 10 * msec →
    ∃ (u : Lane) (w : List Msg) (data : Nat),
      let m : Msg := ⟨u.mkMsg srcPC 2 clsFT none data, false⟩
      exec (.pairMismatch i p slot r a) s = .next (s.setLane i u) ∧ u.pc.core = .stopped ∧ u.fc.wait = w ++ [m] ∧
      (w = [] → u.pw.rootLost = false → u.accDone = false → (s.setLane i u).ready i (.domain .cp) →
        exec (.faultMessageAccept i) (s.setLane i u) = .next (s.setLane i
          ((({ u with fc := { u.fc with wait := [] } }).latchMsg m.bits).fatal m.bits)))

/-- On a lane in operation with CP ON and its root running, on which no message has been accepted in this CLK_BUS cycle, for the message that
the collector takes next: it is latched or counted, and an FT that is not suppressed then has the fatal reaction. With FIRSTV = 0, FC_FIRST
takes the message, FC_FIRSTTIME the lane's time and FIRSTV reads 1, OVF as before; with FIRSTV = 1, FC_FIRST and FC_FIRSTTIME stay and OVF
is set. The counter of its class steps up, to its highest value at most, and the two others stay. REARM clears FIRSTV. A second message in
the same CLK_BUS cycle is not accepted. That the counter steps once per message is the model's reading (log entry 60). -/
def Obligations.FirstMessageIsLatched : Prop :=
  ∀ (s : State) (i : LaneId) (m : Msg) (r : List Msg), s.ready i (.domain .cp) →
    let l := s.lane i
    l.pw.rootLost = false → l.accDone = false → nextMsg l.fc.wait = some (m, r) →
    let c := ({ l with fc := { l.fc with wait := r } }).latchMsg m.bits
    let k := classCnt (takenClass m.bits)
    exec (.faultMessageAccept i) s = .next (s.setLane i (if takenClass m.bits = clsFT ∧ m.supp = false then c.fatal m.bits else c)) ∧
    (l.rd FC_STAT_FIRSTV = 0 →
      c.reg FC_FIRST.addr = m.bits ∧ c.reg FC_FIRSTTIME.addr = BitVec.ofNat 64 l.ntime ∧ c.rd FC_STAT_FIRSTV = 1 ∧
      c.rd FC_STAT_OVF = l.rd FC_STAT_OVF) ∧
    (l.rd FC_STAT_FIRSTV = 1 →
      c.reg FC_FIRST.addr = l.reg FC_FIRST.addr ∧ c.reg FC_FIRSTTIME.addr = l.reg FC_FIRSTTIME.addr ∧ c.rd FC_STAT_FIRSTV = 1 ∧
      c.rd FC_STAT_OVF = 1) ∧
    c.rd k = Nat.min (l.rd k + 1) (2 ^ k.w - 1) ∧
    (∀ f ∈ [FC_CNT_CE, FC_CNT_UC, FC_CNT_FT], f ≠ k → c.rd f = l.rd f) ∧
    (∃ t, exec (.fcRearm i) s = .next (s.setLane i t) ∧ t.rd FC_STAT_FIRSTV = 0) ∧
    (takenClass m.bits ≠ clsFT → exec (.faultMessageAccept i) (s.setLane i c) = .next (s.setLane i c))

/-- On a lane in operation with CP ON, with a level of the stack and a slot of the pool free, no stall, and the stamps of the items that wait
within half of their 32-bit range from some stamp b on, after the charge of a running BIST flow: SC_ENTER returns 0 and leaves the items
where none is eligible; else it takes an eligible item to the top of the stack and returns its descriptor, and every other eligible item has
a higher priority number, or an equal one and no earlier stamp. The priority of a posted item is its own and of a timer item its timer's
where FIXED = 0, and in every other case its flow's (R354, R359, R361). -/
def Obligations.DispatchFollowsPriority : Prop :=
  ∀ (s : State) (i : LaneId), s.ready i (.domain .cp) →
    let l := (s.lane i).bistCharge
    let p := fun (j : Item) =>
      if l.rd (SC_FLOWCFG_FIXED j.flow) = 0 ∧ (j.kind = .post ∨ j.kind = .timer) then j.prio else l.rd (SC_FLOWCFG_PRIO j.flow)
    (∃ b : Nat, ∀ j ∈ l.sc.items, j.stamp < 2 ^ 32 ∧ (j.stamp + 2 ^ 32 - b % 2 ^ 32) % 2 ^ 32 < 2 ^ 31) → l.sc.stack.length < 8 → l.on SC_STAT_POOLSTALL = false → l.sc.free ≠ 0 →
    ∃ t, exec (.scEnter i) s = .next (s.setLane i t) ∧
      ((∀ j ∈ l.sc.items, l.eligible j = false) → t.rdata = 0#64 ∧ t.sc.items = l.sc.items ∧ t.sc.stack = l.sc.stack) ∧
      ((∃ j ∈ l.sc.items, l.eligible j = true) →
        ∃ it ∈ l.sc.items, l.eligible it = true ∧ t.sc.stack = it :: l.sc.stack ∧
          t.rdata = BitVec.ofNat 64 (2 ^ 63 + it.kind.code * 2 ^ 60 + p it * 2 ^ 56 + it.count * 2 ^ 48 + it.flow * 2 ^ 40 +
            (l.sc.stack.length + 1) * 2 ^ 36 + it.src % 2 ^ 32) ∧
          ∀ j ∈ l.sc.items, l.eligible j = true → p it < p j ∨ (p it = p j ∧ stampBefore j.stamp it.stamp = false))

/-- On a lane in operation with CP ON. A push into a Hamper that has no room waits, and changes no Hamper, until the releases of its CLK_BUS
cycle are over; one that is then still FULL, and at once one with CAP = 0, has its push ignored: no Hamper changes, OVR is set and its field
of HQ_OVRCNT steps up, whoever pushes. A staging write or a push where the core is not the producer, and a push of more than 56 bytes,
change no Hamper and no staging register and set PRODREJ; a write to Hamper storage changes no Hamper and sets STWR. Each raises its kind
only where that has not been raised in the outer cycle (R382, R386, R51). That a full Hamper's push waits for the end of the CLK_BUS cycle
of its release is the model's choice (log entry 66), as is that a DIVGO which a commit in progress has released takes effect with a write by
command (log entry 35). -/
def Obligations.RefusedHamperPushesAreIgnored : Prop :=
  ∀ (s : State) (i : LaneId), s.ready i (.domain .cp) →
    let l := s.lane i
    let once := fun (kind : Nat) (t : Lane) =>
      if l.fc.ceDone.contains (srcHQ, kind, 2) then t.fc.wait = l.fc.wait
      else t.fc.ceDone.contains (srcHQ, kind, 2) = true ∧ t.fc.wait.length ≤ l.fc.wait.length + 1
    let ovr := fun (h : Fin 8) (t : Lane) =>
      t.hq = l.hq ∧ t.rd (HQ_STAT_OVR h) = 1 ∧ t.rd (ovrCnt h) = Nat.min (l.rd (ovrCnt h) + 1) 15 ∧ once 1 t
    let rej := fun (f : Fld) (t : Lane) =>
      t.hq = l.hq ∧ t.rd f = 1 ∧ (∀ (h : Fin 8) (n : Fin 7), t.reg (HQ_PUT h n).addr = l.reg (HQ_PUT h n).addr) ∧ once 4 t
    (∀ h : Fin 8,
      (∀ prio payloads, l.rd (HQ_CFG_CAP h) = 0 → ovr h (l.hamperPush h prio payloads .none)) ∧
      (∀ prio payloads, l.hamperFull h payloads.length = true → ovr h (l.lateJudge ⟨h.val, prio, payloads, .none⟩) ∧
        (l.rd (HQ_CFG_CAP h) ≠ 0 → l.hamperPush h prio payloads .none =
          { l with hq := { l.hq with late := l.hq.late ++ [⟨h.val, prio, payloads, .none⟩] } })) ∧
      (∀ v : Word32, l.rd (HQ_CFG_PROD h) = 0 → getBits (v.setWidth 64) 0 6 ≤ 56 →
        (l.rd (HQ_CFG_CAP h) = 0 → ∃ t, exec (.hqPush i h v) s = .next (s.setLane i t) ∧ ovr h t) ∧
        (l.rd (HQ_CFG_CAP h) ≠ 0 → l.hamperFull h 1 = true → ∃ t p, exec (.hqPush i h v) s = .next (s.setLane i t) ∧
          p.hamper = h.val ∧ t = { l with hq := { l.hq with late := l.hq.late ++ [p] } })) ∧
      (∀ p : LatePush, l.hq.late = [p] → p.hamper = h.val → p.for_ = .none → l.hamperFull h p.payloads.length = true →
        (∀ k : Fin 8, l.hqEnd.hq.get k = l.hq.get k) ∧ l.hqEnd.hq.late = [] ∧ l.hqEnd.rd (HQ_STAT_OVR h) = 1 ∧
        l.hqEnd.rd (ovrCnt h) = Nat.min (l.rd (ovrCnt h) + 1) 15)) ∧
    (∀ h : Fin 8, l.rd (HQ_CFG_PROD h) ≠ 0 → ∀ (n : Fin 7) (v : Word),
      ∃ t, exec (.hqPutWrite i h n v) s = .next (s.setLane i t) ∧ rej HQ_GSTAT_PRODREJ t) ∧
    (∀ (h : Fin 8) (v : Word32), l.rd (HQ_CFG_PROD h) ≠ 0 ∨ 56 < getBits (v.setWidth 64) 0 6 →
      ∃ t, exec (.hqPush i h v) s = .next (s.setLane i t) ∧ rej HQ_GSTAT_PRODREJ t) ∧
    (∀ (a n : Nat) (v : Word), n ∈ [1, 2, 4, 8] → a % n = 0 → 0x10000000 ≤ a → a < 0x10040000 →
      ∃ t : Lane, exec (.registerWrite i false a n v) s = .next (s.setLane i t.divApply) ∧ rej HQ_GSTAT_STWR t)

/-- On a lane in operation with CP ON, for every Hamper: HQ_REWIND cuts the take log at the soft mark, puts the entries after it before those
that already wait to be replayed, in the order in which they were taken, leaves the queue, counts them as queued again and returns how many
they were. No other Hamper and no byte of memory changes (R391). -/
def Obligations.RewindReplaysInOrder : Prop :=
  ∀ (s : State) (i : LaneId) (h : Fin 8), s.ready i (.domain .cp) →
    let l := s.lane i
    let q := l.hq.get h
    let moved := q.log.drop q.soft
    ∃ t, exec (.hqRewind i h) s = .next (s.setLane i t) ∧ t.rdata = BitVec.ofNat 64 moved.length ∧ t.busErr = false ∧
      (t.hq.get h).log = q.log.take q.soft ∧ (t.hq.get h).replay = moved ++ q.replay ∧ (t.hq.get h).queue = q.queue ∧
      (t.hq.get h).queued = q.queued + moved.length ∧ (∀ k : Fin 8, k ≠ h → t.hq.get k = l.hq.get k) ∧ ∀ a, t.byte a = l.byte a

/-- On a lane in operation, for every frame whose checks give a result other than OK (and other than none): HP_CNT.ERR steps up, HP_STAT.ERR is
set, HP_FRAME is raised only where it has not been raised in the outer cycle, and nothing else changes: the Hampers, the memory, the modes
and every other component are as before but for the response sent, the fault message and the event, and so are all registers but HP_STAT,
HP_CNT, FC_DROP and the event status; of HP_CNT the counts of PUT and SERVICE stay. A PUT whose Hamper has CAP = 0 counts and sets ERR too,
and changes no Hamper; one that finds no room waits for the releases of its CLK_BUS cycle, and counts and sets ERR, changing no Hamper,
where it is then still FULL (R401; R383). That it waits so is the model's choice (log entry 66). -/
def Obligations.FailedHostFrameHasNoEffect : Prop :=
  ∀ (s : State) (i : LaneId), s.ready i .clocked →
    let l := s.lane i
    let counted := fun (t : Lane) => t.rd HP_CNT_ERR = Nat.min (l.rd HP_CNT_ERR + 1) 255 ∧ t.rd HP_STAT_ERR = 1
    (∀ (c : Instr) (b rest : List Byte) (whole mode3 : Bool) (r : Nat),
      (c = .hostBadCommand i b whole mode3 ∨
       (whole = true ∧ ((∃ h : Fin 8, b = BitVec.ofNat 8 (0x10 + h) :: rest ∧ c = .hostPut i h rest mode3) ∨
        (b = 0x30#8 :: 1#8 :: rest ∧ c = .enterService i rest mode3) ∨ (b = 0x30#8 :: 2#8 :: rest ∧ c = .restart i rest mode3) ∨
        (b = 0x30#8 :: 3#8 :: rest ∧ c = .handover i rest mode3) ∨ (b = 0x30#8 :: 4#8 :: rest ∧ c = .ceiling i rest mode3) ∨
        (∃ k : Fin 128, b = 0x30#8 :: BitVec.ofNat 8 (0x80 + k) :: rest ∧ c = .integratorCode i k rest mode3)))) →
      l.frameResult b whole = some r → r ≠ 0 →
      ∃ t, exec c s = .next (s.setLane i t) ∧ counted t ∧
        { t with regs := l.regs, out := l.out, fc := l.fc, sc := l.sc, hq := l.hq } = l ∧ t.hq = { l.hq with irqCyc := t.hq.irqCyc } ∧
        (∀ a, a ∉ [HP_STAT_ERR.addr, HP_CNT_ERR.addr, FC_DROP_CE.addr, (SY_EVSTAT_EV 4).addr] → t.reg a = l.reg a) ∧
        t.rd HP_CNT_PUT = l.rd HP_CNT_PUT ∧ t.rd HP_CNT_SVC = l.rd HP_CNT_SVC ∧
        (l.fc.ceDone.contains (srcHP, 1, 2) = true → t.fc = l.fc) ∧ t.fc.wait.length ≤ l.fc.wait.length + 1) ∧
    (∀ (h : Fin 8) (rest : List Byte) (mode3 : Bool), l.frameResult (BitVec.ofNat 8 (0x10 + h) :: rest) true = some 0 →
      (l.rd (HQ_CFG_CAP h) = 0 →
        ∃ t, exec (.hostPut i h rest mode3) s = .next (s.setLane i t) ∧ counted t ∧ t.hq = { l.hq with irqCyc := t.hq.irqCyc } ∧
          t.rd HP_CNT_PUT = l.rd HP_CNT_PUT) ∧
      (l.rd (HQ_CFG_CAP h) ≠ 0 → l.hamperFull h 1 = true →
        ∃ t p, exec (.hostPut i h rest mode3) s = .next (s.setLane i t) ∧ t.hq = { l.hq with late := l.hq.late ++ [p] } ∧
          p.hamper = h.val ∧ p.payloads.length = 1 ∧ p.for_ = .put (0x10 + h.val) ∧ t.rd HP_CNT_PUT = l.rd HP_CNT_PUT)) ∧
    (∀ (h : Fin 8) (prio b : Nat) (ps : List (List Byte)), l.hamperFull h ps.length = true →
      let t := l.lateJudge ⟨h.val, prio, ps, .put b⟩
      counted t ∧ t.hq = { l.hq with irqCyc := t.hq.irqCyc } ∧ t.rd HP_CNT_PUT = l.rd HP_CNT_PUT)

/-- On a lane in operation with NW ON, the controller on and not listening, with some buffer pending whose format the controller sends (FD
frames need CN_CFG.FD, log entry 31): among these there is a buffer n such that every one has a higher ID, or the same ID and a number no
lower; a transmission that succeeds sends the frame of n, clears its PEND bit and sets its DONE bit, and leaves the PEND bits of the others;
one that is lost leaves the PEND bits where ONESHOT = 0 and else clears the one of n. A request sets PEND bits and clears none (R442). -/
def Obligations.LowestCanIdGoesFirst : Prop :=
  ∀ (s : State) (i : LaneId), s.ready i (.domain .nw) →
    let l := s.lane i
    let pend := fun (t : Lane) (k : Nat) => (t.rd CN_TXSTAT_PEND).testBit k
    let ripe := fun k : Fin 8 => pend l k && l.cnFormat (l.rd (CN_TXHDR k))
    let id := fun k => l.rd (CN_TXHDR k) % 2 ^ 29
    (l.cnOn = true → l.on CN_CFG_LISTEN = false → (∃ k : Fin 8, ripe k = true) →
      ∃ n : Fin 8, ripe n = true ∧ (∀ k : Fin 8, ripe k = true → id n < id k ∨ (id n = id k ∧ n ≤ k)) ∧
        (∃ t, exec (.canFrameSent i true) s = .next (s.setLane i t) ∧ t.out = l.out ++ [.can n (l.cnFrame n)] ∧ pend t n = false ∧
          (t.rd CN_TXSTAT_DONE).testBit n = true ∧ ∀ k : Fin 8, k ≠ n → pend t k = pend l k) ∧
        (∃ t, exec (.canFrameSent i false) s = .next (s.setLane i t) ∧ t.out = l.out ∧
          pend t n = !l.on CN_CFG_ONESHOT ∧ ∀ k : Fin 8, k ≠ n → pend t k = pend l k)) ∧
    (∀ m : Byte, ∃ t, exec (.cnTxreq i m) s = .next (s.setLane i t) ∧
      ∀ k : Fin 8, pend t k = (pend l k || m.getLsbD k))

/-- On a lane in operation with CP ON, for an aligned write of 1, 2, 4 or 8 bytes to MRAM, given as a command or leaving the store buffer:
inside the configuration slot or the firmware slot from which the lane was loaded it changes nothing but SY_IMGSTAT.SLOTWR, which it sets;
in every other configuration or firmware slot the bytes are written and SLOTWR stays; a self-test slice of a block that the write touches is
stopped first, whatever the slot (R504; R489). A good access clears the mark of a bus error, and a DIVGO that a commit in progress has
released takes effect with the command (log entry 35). -/
def Obligations.LoadedSlotIsWriteProtected : Prop :=
  ∀ (s : State) (i : LaneId) (a n : Nat) (v : Word), s.ready i (.domain .cp) →
    let l := s.lane i
    let inCfg := fun k => cfgSlot k ≤ a ∧ a < cfgSlot k + 0x200000
    let inFw := fun k => fwSlot l.part k ≤ a ∧ a < fwSlot l.part k + fwSize l.part
    let k := { l with busErr := false }.accessed a n
    n ∈ [1, 2, 4, 8] → a % n = 0 → (∃ k : Fin 2, inCfg k ∨ inFw k) →
    (l.rd SY_IMGSTAT_LOADED = 1 → inCfg (l.rd SY_IMGSTAT_SLOT) ∨ inFw l.im.fwSlot →
      exec (.registerWrite i false a n v) s = .next (s.setLane i (k.set SY_IMGSTAT_SLOTWR).divApply) ∧
      l.release (.device a n v) = k.set SY_IMGSTAT_SLOTWR) ∧
    (l.rd SY_IMGSTAT_LOADED = 0 ∨ (¬ inCfg (l.rd SY_IMGSTAT_SLOT) ∧ ¬ inFw l.im.fwSlot) →
      exec (.registerWrite i false a n v) s = .next (s.setLane i (k.setBytes a (leBytes n v.toNat)).divApply) ∧
      l.release (.device a n v) = k.setBytes a (leBytes n v.toNat))

/-- On a lane in operation with CP ON whose core is held in reset, in a life-cycle state that grants core debug (BLANK, MANUFACTURE and RETURN,
codes 0, 1 and 3), for writes and reads alike: an access of a width other than 1, 2, 4 or 8 bytes or not aligned to its width ends with a
bus error; TCM takes every aligned width, and stops a self-test slice of the block; a register of 32 bits takes 4 bytes and a register of 64
bits 8 (or 4, R84), and any other width at its address is a bus error, outside the windows; an aligned access to an offset of a present
block that names no window and touches no register reads 0 and writes nothing (R578, R579, R84). A DIVGO that a commit in progress has
released takes effect with the write (log entry 35). -/
def Obligations.AccessesFollowTheirWidths : Prop :=
  ∀ (s : State) (i : LaneId), s.ready i (.domain .cp) →
    let l := s.lane i
    let bad := { l with rdata := 0#64, busErr := true }
    let ok := { l with busErr := false }
    l.rd LC_STAT_STATE ∈ [0, 1, 3] → l.pc.core = .held → ∀ (a n : Nat) (v : Word),
    (n ∉ [1, 2, 4, 8] ∨ a % n ≠ 0 →
      exec (.registerWrite i false a n v) s = .next (s.setLane i bad.divApply) ∧ exec (.coreDebug i (.read a n)) s = .next (s.setLane i bad)) ∧
    (n ∈ [1, 2, 4, 8] → a % n = 0 →
      (a < 0x400000 →
        exec (.registerWrite i false a n v) s = .next (s.setLane i ((ok.accessed a n).setBytes a (leBytes n v.toNat)).divApply) ∧
        ∃ w, exec (.coreDebug i (.read a n)) s = .next (s.setLane i { ok.accessed a n with rdata := w, busErr := false })) ∧
      (∀ b x o, blockOf a = some (b, x, o) → l.hasBlock b x = true → winOf a = none → inFfTable x a = false →
        (∀ d, descOf a = some d → 8 * n ≠ d.wide → ¬ (d.wide = 64 ∧ n = 4) →
          exec (.registerWrite i false a n v) s = .next (s.setLane i bad.divApply) ∧
          exec (.coreDebug i (.read a n)) s = .next (s.setLane i bad)) ∧
        (descOf a = none → descOf (a - 4) = none → touchesReg a n = false →
          exec (.registerWrite i false a n v) s = .next (s.setLane i ok.divApply) ∧
          exec (.coreDebug i (.read a n)) s = .next (s.setLane i { l with rdata := 0#64, busErr := false }))))

/-- On a lane in operation with CP ON whose core is held in reset, in a life-cycle state that grants core debug (codes 0, 1 and 3): a read of
SY_CAP0 returns 0x0000004000030207 on an APX-9603, 0x0000004000030203 on an APX-9602 and 0x0000002000000107 on an APX-9613, and a read of
SY_CAP1 returns 0x0000000001000008; the reads change nothing else, and a write of either leaves every register and component as it was, so
that they read so after it too (R4). A write clears the mark of a bus error, and a DIVGO that a commit in progress has released takes effect
with it (log entry 35). -/
def Obligations.CapabilityWordsReadTheirTable : Prop :=
  ∀ (s : State) (i : LaneId), s.ready i (.domain .cp) →
    let l := s.lane i
    let read := fun (a : Nat) (w : Word) =>
      exec (.coreDebug i (.read a 8)) s = .next (s.setLane i { l with rdata := w, busErr := false })
    l.rd LC_STAT_STATE ∈ [0, 1, 3] → l.pc.core = .held →
    (l.part = .apx9603 → read 0xF00000010 0x0000004000030207#64) ∧
    (l.part = .apx9602 → read 0xF00000010 0x0000004000030203#64) ∧
    (l.part = .apx9613 → read 0xF00000010 0x0000002000000107#64) ∧
    read 0xF00000018 0x0000000001000008#64 ∧
    (∀ v : Word, ∀ a ∈ [0xF00000010, 0xF00000018], ∃ t : Lane, exec (.registerWrite i false a 8 v) s = .next (s.setLane i t.divApply) ∧
      { t with regs := l.regs } = { l with busErr := false } ∧ ∀ b, t.reg b = l.reg b)

/-- On a lane in operation with CP ON, for a write at its own width of any register of the SY block. Where a storing field (RW, OW, LV) would
leave its range, nothing changes. Else a bit of a storing field takes the written bit, a bit of a WC field that is written as 1 becomes 0,
but for a bit of SY_EVSTAT_k whose source occurs in the CLK_BUS cycle that runs, which stays as it is, and every other bit, reserved or
read-only, keeps its value; no other register and no byte of memory changes. (The other blocks use the same operation for registers without
an effect of their own.) A write clears the mark of a bus error, and a DIVGO that a commit in progress has released takes effect with it
(log entry 35). -/
def Obligations.RegisterWritesKeepTypes : Prop :=
  ∀ (s : State) (i : LaneId) (x : Ax) (d : RegDesc) (a n : Nat) (v : Word), s.ready i (.domain .cp) →
    let l := s.lane i
    l.place a n = some (.reg .sy x d) →
    let has := fun (p : Acc → Bool) (k : Nat) => d.fields.any (fun f => p f.acc && decide (f.lo ≤ k) && decide (k < f.lo + f.w))
    (d.fits Acc.stores v.toNat = false → exec (.registerWrite i false a n v) s = .next (s.setLane i { l with busErr := false }.divApply)) ∧
    (d.fits Acc.stores v.toNat = true → ∃ t : Lane, exec (.registerWrite i false a n v) s = .next (s.setLane i t.divApply) ∧
      (∀ k : Fin 64, (t.reg a).getLsbD k =
        ((if has Acc.stores k then v.getLsbD k else (l.reg a).getLsbD k) &&
          !(has Acc.clears k && v.getLsbD k && !(l.evFresh a).testBit k))) ∧
      (∀ b, b ≠ a → t.reg b = l.reg b) ∧ (∀ b, t.byte b = l.byte b) ∧ { t with regs := l.regs } = { l with busErr := false })

/-- For all Q24.40 operands: the exact product of the raw values, as a fraction of 1.0, and the exact quotient, by a divisor other than 0,
inside the range are rounded to a whole raw value that is at most half a step away, and at exactly half a step is the one farther from zero;
an exact result outside the range gives the end of the range with the saturation flag. Sum and difference are exact but for saturation. A
division by 0 gives the end of the range with the sign of the dividend, 0 by 0 gives 0, each with the flag (R53, R55, R589). -/
def Obligations.EngineArithmeticRoundsToNearest : Prop :=
  (∀ n d : Int, d ≠ 0 →
    let r := Q.roundDiv n d
    2 * (r * d - n).natAbs ≤ d.natAbs ∧ (2 * (r * d - n).natAbs = d.natAbs → n.natAbs < (r * d).natAbs)) ∧
  (∀ a b : Q,
    let gives := fun (n d : Int) (q : Q) =>
      (Q.bot * d ≤ n → n ≤ Q.top * d → q = ⟨Q.roundDiv n d, a.ovf || b.ovf⟩) ∧ (Q.top * d < n → q = ⟨Q.top, true⟩) ∧
      (n < Q.bot * d → q = ⟨Q.bot, true⟩)
    gives (a.raw + b.raw) 1 (a.add b) ∧ gives (a.raw - b.raw) 1 (a.sub b) ∧ gives (a.raw * b.raw) Q.unit (a.mul b) ∧
    (0 < b.raw → gives (a.raw * Q.unit) b.raw (a.div b)) ∧ (b.raw < 0 → gives (-(a.raw * Q.unit)) (-b.raw) (a.div b)) ∧
    (b.raw = 0 → a.div b = ⟨if 0 < a.raw then Q.top else if a.raw < 0 then Q.bot else 0, true⟩))

/-- On a lane in operation with CP ON. A failure of the MRAM controller (FT), a bus parity error (FT), an uncorrectable TCM error (FT), an
uncorrectable MRAM error (UC) and a device time-out (UC) each put their message behind those that wait, however many wait. A corrected TCM
error raises its CE message only where it has not been raised in the outer cycle: with two messages of its source waiting, it is dropped and
FC_DROP steps up; a second one in the cycle changes nothing. Registers other than FC_DROP, memory and every other component keep their
values, but for what a failed read returns (R51, R320, R323). -/
def Obligations.FaultMessagesReachTheCollector : Prop :=
  ∀ (s : State) (i : LaneId), s.ready i (.domain .cp) →
    let l := s.lane i
    let joins := fun (c : Instr) (m : Word) (t : Lane) =>
      exec c s = .next (s.setLane i t) ∧ t.fc = { l.fc with wait := l.fc.wait ++ [⟨m, false⟩] } ∧
        { t with fc := l.fc, rdata := l.rdata, busErr := l.busErr } = l
    (∀ c : Byte, ∃ t, joins (.mramControllerFailure i c) (l.mkMsg srcMC 3 clsFT none c.toNat) t ∧ t.busErr = l.busErr) ∧
    (∀ a : BitVec 40,
      (∃ t, joins (.busParityError i a) (l.mkMsg srcBI 2 clsFT none a.toNat) t ∧ t.busErr = l.busErr) ∧
      (∃ t, joins (.deviceAccessTimeout i a) (l.mkMsg srcBI 1 clsUC none a.toNat) t ∧ t.busErr = true) ∧
      (∃ t, joins (.eccError i .tcm false a) (l.mkMsg srcTM 2 clsFT none a.toNat) t ∧ t.busErr = l.busErr) ∧
      (∃ t, joins (.eccError i .mram false a) (l.mkMsg srcMC 2 clsUC none a.toNat) t ∧ t.busErr = true) ∧
      (l.fc.ceDone.contains (srcTM, 1, 2) = true → exec (.eccError i .tcm true a) s = .next s) ∧
      (l.fc.ceDone.contains (srcTM, 1, 2) = false →
        ∃ t, exec (.eccError i .tcm true a) s = .next (s.setLane i t) ∧ t.fc.ceDone.contains (srcTM, 1, 2) = true ∧
          { t with fc := l.fc, regs := l.regs } = l ∧ (∀ b, b ≠ FC_DROP_CE.addr → t.reg b = l.reg b) ∧
          (l.waiting srcTM < 2 → t.regs = l.regs ∧ t.fc.wait = l.fc.wait ++ [⟨l.mkMsg srcTM 1 clsCE none a.toNat, false⟩]) ∧
          (2 ≤ l.waiting srcTM → t.fc.wait = l.fc.wait ∧ t.rd FC_DROP_CE = Nat.min (l.rd FC_DROP_CE + 1) 65535)))

/-- On a lane in operation with CP and NW ON: IRQSET and IRQCLR of the host port, and CNTCLR of the DC-link monitor, the wake block, the host
port, the Hampers, the CAN controller and the fault collector answer a next state in which every register but the ones named here (HP_STAT;
DL_CNT, WK_CNT, HP_CNT, HQ_OVRCNT, CN_CNT; FC_CNT and FC_DROP), every byte of memory and every other component is as before; the cleared
registers hold 0. IRQCLR has no effect in the CLK_BUS cycle in which hardware has set IRQ (R406). -/
def Obligations.CounterClearsTouchTheirRegisters : Prop :=
  ∀ (s : State) (i : LaneId), s.ready i (.domain .cp) → s.ready i (.domain .nw) →
    let l := s.lane i
    let only := fun (c : Instr) (rs : List Nat) (t : Lane) =>
      exec c s = .next (s.setLane i t) ∧ { t with regs := l.regs } = l ∧ (∀ a, a ∉ rs → t.reg a = l.reg a) ∧ ∀ a, t.byte a = l.byte a
    (∃ t, only (.hpIrqset i) [HP_STAT_IRQ.addr] t ∧ t.rd HP_STAT_IRQ = 1 ∧ t.rd HP_STAT_LAST = l.rd HP_STAT_LAST) ∧
    (l.hq.irqCyc ≠ some (l.now / cycBus) →
      ∃ t, only (.hpIrqclr i) [HP_STAT_IRQ.addr] t ∧ t.rd HP_STAT_IRQ = 0 ∧ t.rd HP_STAT_LAST = l.rd HP_STAT_LAST) ∧
    (l.hq.irqCyc = some (l.now / cycBus) → exec (.hpIrqclr i) s = .next s) ∧
    (∀ p ∈ [(Instr.dlCntclr i, [DL_CNT_OV1.addr]), (Instr.wkCntclr i, [WK_CNT_MATCH.addr]), (Instr.hpCntclr i, [HP_CNT_PUT.addr]),
        (Instr.hqCntclr i, [HQ_OVRCNT_CNT0.addr]), (Instr.cnCntclr i, [CN_CNT_TXDONE.addr]),
        (Instr.fcCntclr i, [FC_CNT_CE.addr, FC_DROP_CE.addr])],
      ∃ t, only p.1 p.2 t ∧ ∀ a ∈ p.2, t.reg a = 0#64)

/-- On a lane in operation with CP ON, and NW ON for the windows of the network and the CAN controller: an aligned write of 1, 2, 4 or 8 bytes
to TCM, to an MRAM address outside the loaded slots and the neighbour dump slots, or to one of the windows that firmware fills (the Guyline
transmit command, TT transmit, CAN transmit) leaves every byte outside its own as it was, puts its bytes in place, least significant first,
and leaves every register and every other component, but for a self-test slice of the block, which it stops (R489). The order of the bytes
is the model's choice (log entry 9); the mark of a bus error is cleared, and a DIVGO that a commit in progress has released takes effect
with the write (log entry 35). -/
def Obligations.StoresStayInTheirBytes : Prop :=
  ∀ (s : State) (i : LaneId) (a n : Nat) (v : Word), s.ready i (.domain .cp) →
    let l := s.lane i
    n ∈ [1, 2, 4, 8] → a % n = 0 →
    (a < 0x400000 ∨ (inMram l.part a = true ∧ l.loadedSlot a = false ∧ inRange a (nbSlot l.part 0) 0x400000 = false) ∨
      inRange a txCmd 112 = true ∨
      (l.domOn .nw = true ∧ (inRange a 0xF000B4000 0x2000 = true ∨ inRange a 0xF000C1000 0x200 = true))) →
    let k := { l with busErr := false }.accessed a n
    ∃ t : Lane, exec (.registerWrite i false a n v) s = .next (s.setLane i t.divApply) ∧ { t with mem := k.mem } = k ∧ k.mem = l.mem ∧
      (∀ b, b < a ∨ a + n ≤ b → t.byte b = l.byte b) ∧
      ∀ k : Fin 8, (k : Nat) < n → t.byte (a + k) = BitVec.ofNat 8 (v.toNat / 256 ^ (k : Nat))
end

