-- ==== Sys2Proof/Laws/Guyline.lean ====
section
/-!
SUPPORT. What a message on the Guyline must be to be taken, and that a message that the model makes is intact.
-/

namespace Sys2Proof

open Machine (crc32c)

/-- A message with its trailer is intact. -/
@[simp] theorem GlMsg.sealed_intact (m : GlMsg) : m.sealed.intact = true :=
  decide_eq_true (Nat.mod_eq_of_lt (BitVec.isLt _))

@[simp] theorem GlMsg.sealed_measured (m : GlMsg) : m.sealed.measured = m.measured := rfl

namespace Machine

/-- A message is taken only where it is intact, of its length, from another lane and addressed to this one. -/
theorem Lane.glAccept_some (l : Lane) (m : GlMsg) (len : Nat) (j : LaneId) (h : l.glAccept m len = some j) :
    m.intact = true ∧ m.measured = true ∧ m.len = len ∧ (m.route / 16).testBit l.me.code = true ∧ LaneId.ofCode (m.route % 4) = some j ∧
      j ≠ l.me := by
  simp only [Lane.glAccept] at h
  split at h
  · cases h
  · rename_i hc
    simp only [not_or, Bool.not_eq_false, Classical.not_not] at hc
    split at h
    · rename_i i hi
      split at h
      · cases h
      · rename_i hne
        cases h
        exact ⟨hc.1, hc.2.1, hc.2.2.1, hc.2.2.2.2.2, hi, hne⟩
    · cases h

/-- A message that another lane has made for this one is taken. -/
theorem Lane.glAccept_sealed (l : Lane) (m : GlMsg) (len : Nat) (j : LaneId)
    (h : m.measured = true ∧ m.len = len ∧ m.route / 4 % 4 = 0 ∧ m.route < 128 ∧ (m.route / 16).testBit l.me.code = true ∧
      LaneId.ofCode (m.route % 4) = some j ∧ j ≠ l.me) : l.glAccept m.sealed len = some j := by
  obtain ⟨hm, hl, hr, hb, ht, hj, hne⟩ := h
  have hroute : m.sealed.route = m.route := rfl
  have hlen : m.sealed.len = m.len := rfl
  simp [Lane.glAccept, hm, hl, hr, ht, hj, hne, hroute, hlen, Nat.not_le.mpr hb]

end Machine

end Sys2Proof
end

