-- ==== Sys2Proof/Laws/Registers.lean ====
section
/-!
SUPPORT. Reads after writes, of registers, of fields and of bytes, and that every write keeps the canonical forms.
-/

namespace Sys2Proof.Machine

/-! ### Sorted lists of pairs -/

theorem rising_cons {α : Type} (p : Nat × α) (r : List (Nat × α)) (h : rising (p :: r) = true) :
    rising r = true ∧ ∀ q ∈ r, p.1 < q.1 := by
  induction r generalizing p with
  | nil => simp [rising]
  | cons q t ih =>
    simp only [rising, Bool.and_eq_true, decide_eq_true_eq] at h
    refine ⟨h.2, ?_⟩
    intro u hu
    rcases List.mem_cons.mp hu with rfl | hu
    · exact h.1
    · exact Nat.lt_trans h.1 ((ih q h.2).2 u hu)

theorem rising_of {α : Type} (p : Nat × α) (r : List (Nat × α)) (h : rising r = true) (hp : ∀ q ∈ r, p.1 < q.1) :
    rising (p :: r) = true := by
  cases r with
  | nil => rfl
  | cons q t => simp [rising, h, hp q (by simp)]

theorem rising_filter {α : Type} (f : Nat × α → Bool) (r : List (Nat × α)) (h : rising r = true) : rising (r.filter f) = true := by
  induction r with
  | nil => rfl
  | cons p t ih =>
    have h' := rising_cons p t h
    rw [List.filter_cons]
    split
    · exact rising_of p _ (ih h'.1) (fun q hq => h'.2 q (List.mem_filter.mp hq).1)
    · exact ih h'.1

theorem mem_insertSorted {α : Type} (a : Nat) (v : α) (r : List (Nat × α)) (q : Nat × α) :
    q ∈ insertSorted a v r ↔ q = (a, v) ∨ q ∈ r := by
  induction r with
  | nil => simp [insertSorted]
  | cons p t ih =>
    unfold insertSorted
    split
    · simp
    · simp only [List.mem_cons, ih]
      constructor
      · rintro (h | h | h)
        · exact .inr (.inl h)
        · exact .inl h
        · exact .inr (.inr h)
      · rintro (h | h | h)
        · exact .inr (.inl h)
        · exact .inl h
        · exact .inr (.inr h)

theorem rising_insertSorted {α : Type} (a : Nat) (v : α) (r : List (Nat × α)) (h : rising r = true) (ha : ∀ q ∈ r, q.1 ≠ a) :
    rising (insertSorted a v r) = true := by
  induction r with
  | nil => rfl
  | cons p t ih =>
    have h' := rising_cons p t h
    unfold insertSorted
    split
    · rename_i hlt
      exact rising_of _ _ h (fun q hq => by
        rcases List.mem_cons.mp hq with rfl | hq
        · exact hlt
        · exact Nat.lt_trans hlt (h'.2 q hq))
    · rename_i hge
      have hne := ha p (by simp)
      refine rising_of _ _ (ih h'.1 (fun q hq => ha q (by simp [hq]))) (fun q hq => ?_)
      rcases (mem_insertSorted a v t q).mp hq with rfl | hq
      · show p.1 < a
        omega
      · exact h'.2 q hq

/-! ### The register file -/

theorem regGet_filter (r : List (Nat × Word)) (a b : Nat) (h : b ≠ a) : regGet (r.filter (fun p => p.1 ≠ a)) b = regGet r b := by
  induction r with
  | nil => rw [List.filter_nil]
  | cons p t ih =>
    obtain ⟨c, w⟩ := p
    rw [List.filter_cons]
    by_cases hc : c = a
    · subst hc
      simp only [ne_eq, not_true_eq_false, decide_false, Bool.false_eq_true, if_false, ih, regGet, if_neg h]
    · simp only [ne_eq, hc, not_false_eq_true, decide_true, if_true, regGet, ih]

theorem regGet_filter_self (r : List (Nat × Word)) (a : Nat) : regGet (r.filter (fun p => p.1 ≠ a)) a = resetReg a := by
  induction r with
  | nil => rw [List.filter_nil, regGet]
  | cons p t ih =>
    obtain ⟨c, w⟩ := p
    rw [List.filter_cons]
    by_cases hc : c = a
    · simp only [ne_eq, hc, not_true_eq_false, decide_false, Bool.false_eq_true, if_false, ih]
    · simp only [ne_eq, hc, not_false_eq_true, decide_true, if_true, regGet, if_neg (Ne.symm hc), ih]

theorem regGet_insertSorted (r : List (Nat × Word)) (a b : Nat) (v : Word) (h : b ≠ a) :
    regGet (insertSorted a v r) b = regGet r b := by
  induction r with
  | nil => simp [insertSorted, regGet, h]
  | cons p t ih =>
    obtain ⟨c, w⟩ := p
    unfold insertSorted
    split
    · simp [regGet, h]
    · simp [regGet, ih]

theorem regGet_insertSorted_self (r : List (Nat × Word)) (a : Nat) (v : Word) (h : ∀ q ∈ r, q.1 ≠ a) :
    regGet (insertSorted a v r) a = v := by
  induction r with
  | nil => simp [insertSorted, regGet]
  | cons p t ih =>
    obtain ⟨c, w⟩ := p
    unfold insertSorted
    split
    · simp [regGet]
    · have hc : a ≠ c := fun e => h (c, w) (by simp) e.symm
      simp [regGet, hc, ih (fun q hq => h q (by simp [hq]))]

theorem filter_ne_mem {α : Type} (r : List (Nat × α)) (a : Nat) : ∀ q ∈ r.filter (fun p => p.1 ≠ a), q.1 ≠ a := by
  intro q hq
  simpa using (List.mem_filter.mp hq).2

/-- A register holds what was written to it. -/
theorem regGet_regPut (r : List (Nat × Word)) (a : Nat) (v : Word) : regGet (regPut r a v) a = v := by
  unfold regPut
  split
  · rename_i h; rw [h]; exact regGet_filter_self r a
  · exact regGet_insertSorted_self _ a v (filter_ne_mem r a)

/-- A write of a register leaves every other one. -/
theorem regGet_regPut_ne (r : List (Nat × Word)) (a b : Nat) (v : Word) (h : b ≠ a) : regGet (regPut r a v) b = regGet r b := by
  unfold regPut
  split
  · exact regGet_filter r a b h
  · rw [regGet_insertSorted _ a b v h]; exact regGet_filter r a b h

/-- A write of a register keeps the canonical form of the register file. -/
theorem regsWf_regPut (r : List (Nat × Word)) (a : Nat) (v : Word) (h : regsWf r = true) : regsWf (regPut r a v) = true := by
  simp only [regsWf, Bool.and_eq_true, List.all_eq_true] at h ⊢
  unfold regPut
  split
  · exact ⟨rising_filter _ r h.1, fun q hq => h.2 q (List.mem_filter.mp hq).1⟩
  · rename_i hv
    refine ⟨rising_insertSorted a v _ (rising_filter _ r h.1) (filter_ne_mem r a), fun q hq => ?_⟩
    rcases (mem_insertSorted a v _ q).mp hq with rfl | hq
    · simpa using hv
    · exact h.2 q (List.mem_filter.mp hq).1

@[simp] theorem Lane.reg_setReg (l : Lane) (a : Nat) (v : Word) : (l.setReg a v).reg a = v := regGet_regPut l.regs a v

theorem Lane.reg_setReg_ne (l : Lane) (a b : Nat) (v : Word) (h : b ≠ a) : (l.setReg a v).reg b = l.reg b :=
  regGet_regPut_ne l.regs a b v h

theorem Lane.canonical_setReg (l : Lane) (a : Nat) (v : Word) (h : regsWf l.regs = true) : regsWf (l.setReg a v).regs = true :=
  regsWf_regPut l.regs a v h

/-! ### Fields -/

theorem getBits_eq (o : Word) (lo w : Nat) : getBits o lo w = o.toNat / 2 ^ lo % 2 ^ w := by
  simp [getBits, BitVec.extractLsb'_toNat, Nat.shiftRight_eq_div_pow]

theorem setBits_getLsbD (o : Word) (lo w v i : Nat) (hi : i < 64) :
    (setBits o lo w v).getLsbD i = if lo ≤ i ∧ i < lo + w then v.testBit (i - lo) else o.getLsbD i := by
  unfold setBits
  simp only [BitVec.getLsbD_or, BitVec.getLsbD_and, BitVec.getLsbD_not, BitVec.getLsbD_shiftLeft, BitVec.getLsbD_setWidth,
    BitVec.getLsbD_allOnes, BitVec.getLsbD_ofNat, hi, decide_true, Bool.true_and]
  by_cases h1 : i < lo
  · have : ¬ (lo ≤ i ∧ i < lo + w) := by omega
    simp [h1, this]
  · have h2 : i - lo < 64 := by omega
    by_cases h3 : i - lo < w
    · have h4 : lo ≤ i ∧ i < lo + w := by omega
      simp [h1, h2, h3, h4]
    · have h4 : ¬ (lo ≤ i ∧ i < lo + w) := by omega
      simp [h1, h2, h3, h4]

/-- A field holds what was written to it, cut to its width. -/
theorem getBits_setBits (o : Word) (lo w v : Nat) (h : lo + w ≤ 64) : getBits (setBits o lo w v) lo w = v % 2 ^ w := by
  unfold getBits
  have : (setBits o lo w v).extractLsb' lo w = BitVec.ofNat w v := by
    apply BitVec.eq_of_getLsbD_eq
    intro i hi
    rw [BitVec.getLsbD_extractLsb', setBits_getLsbD o lo w v (lo + i) (by omega)]
    have : lo ≤ lo + i ∧ lo + i < lo + w := by omega
    rw [if_pos this, BitVec.getLsbD_ofNat]
    simp [hi]
  rw [this, BitVec.toNat_ofNat]

/-- A write of a field leaves a field that shares no bit with it. -/
theorem getBits_setBits_disj (o : Word) (lo w v lo' w' : Nat) (h : lo + w ≤ lo' ∨ lo' + w' ≤ lo) :
    getBits (setBits o lo w v) lo' w' = getBits o lo' w' := by
  unfold getBits
  have : (setBits o lo w v).extractLsb' lo' w' = o.extractLsb' lo' w' := by
    apply BitVec.eq_of_getLsbD_eq
    intro i hi
    rw [BitVec.getLsbD_extractLsb', BitVec.getLsbD_extractLsb']
    by_cases h64 : lo' + i < 64
    · rw [setBits_getLsbD o lo w v (lo' + i) h64]
      have : ¬ (lo ≤ lo' + i ∧ lo' + i < lo + w) := by omega
      simp [this]
    · rw [BitVec.getLsbD_of_ge _ _ (by omega), BitVec.getLsbD_of_ge _ _ (by omega)]
  rw [this]

theorem Lane.reg_wr_ne (l : Lane) (f : Fld) (v b : Nat) (h : b ≠ f.addr) : (l.wr f v).reg b = l.reg b := l.reg_setReg_ne _ b _ h

theorem Lane.rd_wr (l : Lane) (f : Fld) (v : Nat) (h : f.lo + f.w ≤ 64) : (l.wr f v).rd f = v % 2 ^ f.w := by
  simp only [Lane.rd, Lane.wr, Lane.reg_setReg]
  exact getBits_setBits _ _ _ _ h

theorem Lane.rd_wr_ne (l : Lane) (f g : Fld) (v : Nat) (h : g.addr ≠ f.addr) : (l.wr f v).rd g = l.rd g := by
  simp only [Lane.rd, l.reg_wr_ne f v g.addr h]

theorem Lane.rd_wr_disj (l : Lane) (f g : Fld) (v : Nat) (h : f.lo + f.w ≤ g.lo ∨ g.lo + g.w ≤ f.lo) : (l.wr f v).rd g = l.rd g := by
  by_cases ha : g.addr = f.addr
  · simp only [Lane.rd, Lane.wr, ha, Lane.reg_setReg]
    exact getBits_setBits_disj _ _ _ _ _ _ h
  · exact l.rd_wr_ne f g v ha

theorem Lane.rd_setReg_ne (l : Lane) (a : Nat) (v : Word) (g : Fld) (h : g.addr ≠ a) : (l.setReg a v).rd g = l.rd g := by
  simp only [Lane.rd, l.reg_setReg_ne a g.addr v h]

/-- A UC or an FT message is never dropped: it joins the messages that wait (spec/09_fault_collection.md R320). -/
theorem Lane.present_waits (l : Lane) (m : Msg) (h : msgClass m.bits ≠ clsCE) :
    l.present m = { l with fc := { l.fc with wait := l.fc.wait ++ [m] } } := by
  unfold Lane.present
  rw [if_neg (fun c => h c.1)]

/-! ### Memory -/

theorem memFind_filter (m : List Host.Cell) (a b : Nat) (h : b ≠ a) : memFind (m.filter (fun p => p.1 ≠ a)) b = memFind m b := by
  induction m with
  | nil => rfl
  | cons p t ih =>
    obtain ⟨c, w⟩ := p
    rw [List.filter_cons]
    by_cases hc : c = a
    · subst hc
      simp only [ne_eq, not_true_eq_false, decide_false, Bool.false_eq_true, if_false, ih, memFind, if_neg h]
    · simp only [ne_eq, hc, not_false_eq_true, decide_true, if_true, memFind, ih]

theorem memFind_filter_self (m : List Host.Cell) (a : Nat) : memFind (m.filter (fun p => p.1 ≠ a)) a = none := by
  induction m with
  | nil => rfl
  | cons p t ih =>
    obtain ⟨c, w⟩ := p
    rw [List.filter_cons]
    by_cases hc : c = a
    · simp only [ne_eq, hc, not_true_eq_false, decide_false, Bool.false_eq_true, if_false, ih]
    · simp only [ne_eq, hc, not_false_eq_true, decide_true, if_true, memFind, if_neg (Ne.symm hc), ih]

theorem memFind_insertSorted (m : List Host.Cell) (a b : Nat) (v : Byte) (h : b ≠ a) :
    memFind (insertSorted a v m) b = memFind m b := by
  induction m with
  | nil => simp [insertSorted, memFind, h]
  | cons p t ih =>
    obtain ⟨c, w⟩ := p
    unfold insertSorted
    split
    · simp [memFind, h]
    · simp [memFind, ih]

theorem memFind_insertSorted_self (m : List Host.Cell) (a : Nat) (v : Byte) (h : ∀ q ∈ m, q.1 ≠ a) :
    memFind (insertSorted a v m) a = some v := by
  induction m with
  | nil => simp [insertSorted, memFind]
  | cons p t ih =>
    obtain ⟨c, w⟩ := p
    unfold insertSorted
    split
    · simp [memFind]
    · have hc : a ≠ c := fun e => h (c, w) (by simp) e.symm
      simp [memFind, hc, ih (fun q hq => h q (by simp [hq]))]

/-- A byte reads as what was written to it. -/
@[simp] theorem Lane.byte_setByte (l : Lane) (a : Nat) (v : Byte) : (l.setByte a v).byte a = v := by
  by_cases h : some v = memDefault a
  · have h1 : memFind (memPut l.mem a v) a = none := by rw [memPut, if_pos h, memFind_filter_self]
    simp only [Lane.byte, Lane.setByte, h1, ← h]
  · have h1 : memFind (memPut l.mem a v) a = some v := by
      rw [memPut, if_neg h, memFind_insertSorted_self _ a v (filter_ne_mem l.mem a)]
    simp only [Lane.byte, Lane.setByte, h1]

/-- A write of a byte leaves every other byte. -/
theorem Lane.byte_setByte_ne (l : Lane) (a b : Nat) (v : Byte) (h : b ≠ a) : (l.setByte a v).byte b = l.byte b := by
  have : memFind (memPut l.mem a v) b = memFind l.mem b := by
    unfold memPut
    split
    · exact memFind_filter l.mem a b h
    · rw [memFind_insertSorted _ a b v h]; exact memFind_filter l.mem a b h
  unfold Lane.byte Lane.setByte
  dsimp only
  rw [this]

/-- A write of bytes leaves every byte outside them. -/
theorem Lane.byte_setBytes_out (l : Lane) (a b : Nat) (v : List Byte) (h : b < a ∨ a + v.length ≤ b) :
    (l.setBytes a v).byte b = l.byte b := by
  induction v generalizing l a with
  | nil => rfl
  | cons c r ih =>
    simp only [List.length_cons] at h
    rw [Lane.setBytes, ih (l.setByte a c) (a + 1) (by omega), l.byte_setByte_ne a b c (by omega)]

/-- Bytes read back as they were written. -/
theorem Lane.byte_setBytes (l : Lane) (a i : Nat) (v : List Byte) (h : i < v.length) : (l.setBytes a v).byte (a + i) = v[i] := by
  induction v generalizing l a i with
  | nil => simp at h
  | cons c r ih =>
    cases i with
    | zero =>
      rw [Lane.setBytes, Lane.byte_setBytes_out _ _ _ _ (by omega)]
      simp
    | succ n =>
      have := ih (l.setByte a c) (a + 1) n (by simpa using h)
      rw [Lane.setBytes, show a + (n + 1) = a + 1 + n by omega, this]
      simp

theorem Memory.wf_memPut (m : List Host.Cell) (a : Nat) (v : Byte) (h : Memory.wf m = true) : Memory.wf (memPut m a v) = true := by
  simp only [Memory.wf, Bool.and_eq_true, List.all_eq_true] at h ⊢
  unfold memPut
  split
  · exact ⟨rising_filter _ m h.1, fun q hq => h.2 q (List.mem_filter.mp hq).1⟩
  · rename_i hv
    refine ⟨rising_insertSorted a v _ (rising_filter _ m h.1) (filter_ne_mem m a), fun q hq => ?_⟩
    rcases (mem_insertSorted a v _ q).mp hq with rfl | hq
    · simpa using hv
    · exact h.2 q (List.mem_filter.mp hq).1

/-- A write of a byte keeps the canonical form of the memory. -/
theorem Lane.wf_setByte (l : Lane) (a : Nat) (v : Byte) (h : Memory.wf l.mem = true) : Memory.wf (l.setByte a v).mem = true :=
  Memory.wf_memPut l.mem a v h

/-- A write of bytes keeps the canonical form of the memory. -/
theorem Lane.wf_setBytes (l : Lane) (a : Nat) (v : List Byte) (h : Memory.wf l.mem = true) :
    Memory.wf (l.setBytes a v).mem = true := by
  induction v generalizing l a with
  | nil => exact h
  | cons b r ih => exact ih (l.setByte a b) (a + 1) (l.wf_setByte a b h)

end Sys2Proof.Machine
end

