-- ==== Sys2Proof/Laws/State.lean ====
section
/-!
SUPPORT. One small lemma per field of a lane and per update of it, so that no proof unfolds a record update.
-/

namespace Sys2Proof.Machine

/-! ### The lanes of the module -/

@[simp] theorem State.lane_setLane (s : State) (i : LaneId) (l : Lane) : (s.setLane i l).lane i = l := by cases i <;> rfl

theorem State.lane_setLane_ne (s : State) (i j : LaneId) (l : Lane) (h : j ≠ i) : (s.setLane i l).lane j = s.lane j := by
  cases i <;> cases j <;> first | rfl | exact absurd rfl h

@[simp] theorem State.part_setLane (s : State) (i : LaneId) (l : Lane) : (s.setLane i l).part = s.part := by cases i <;> rfl

@[simp] theorem State.pending_setLane (s : State) (i : LaneId) (l : Lane) : (s.setLane i l).pending = s.pending := by cases i <;> rfl

@[simp] theorem State.setLane_lane (s : State) (i : LaneId) : s.setLane i (s.lane i) = s := by cases i <;> rfl

theorem State.onLane_here (s : State) (i : LaneId) (f : Lane → Lane) (h : s.part.hasLane i = true) :
    s.onLane i f = s.setLane i (f (s.lane i)) := by simp [State.onLane, h]

theorem State.onLane_absent (s : State) (i : LaneId) (f : Lane → Lane) (h : s.part.hasLane i = false) : s.onLane i f = s := by
  simp [State.onLane, h]

theorem State.onLane_same (s : State) (i : LaneId) (f : Lane → Lane) (h : f (s.lane i) = s.lane i) : s.onLane i f = s := by
  unfold State.onLane; split
  · rw [h]; simp
  · rfl

@[simp] theorem State.part_onLane (s : State) (i : LaneId) (f : Lane → Lane) : (s.onLane i f).part = s.part := by
  unfold State.onLane; split <;> simp

@[simp] theorem State.pending_onLane (s : State) (i : LaneId) (f : Lane → Lane) : (s.onLane i f).pending = s.pending := by
  unfold State.onLane; split <;> simp

theorem State.lane_onLane_ne (s : State) (i j : LaneId) (f : Lane → Lane) (h : j ≠ i) : (s.onLane i f).lane j = s.lane j := by
  unfold State.onLane; split
  · exact State.lane_setLane_ne s i j _ h
  · rfl

/-- The queue is no part of a lane. -/
@[simp] theorem State.lane_withPending (s : State) (i : LaneId) (r : List Instr) : State.lane { s with pending := r } i = s.lane i := by
  cases i <;> rfl

/-! ### The blocks of an axis -/

@[simp] theorem Lane.ax_setAx (l : Lane) (x : Ax) (a : AxSt) : (l.setAx x a).ax x = a := by cases x <;> rfl

theorem Lane.ax_setAx_ne (l : Lane) (x y : Ax) (a : AxSt) (h : y ≠ x) : (l.setAx x a).ax y = l.ax y := by
  cases x <;> cases y <;> first | rfl | exact absurd rfl h

@[simp] theorem Lane.setAx_me (l : Lane) (x : Ax) (a : AxSt) : (l.setAx x a).me = l.me := by cases x <;> rfl
@[simp] theorem Lane.setAx_part (l : Lane) (x : Ax) (a : AxSt) : (l.setAx x a).part = l.part := by cases x <;> rfl
@[simp] theorem Lane.setAx_now (l : Lane) (x : Ax) (a : AxSt) : (l.setAx x a).now = l.now := by cases x <;> rfl
@[simp] theorem Lane.setAx_regs (l : Lane) (x : Ax) (a : AxSt) : (l.setAx x a).regs = l.regs := by cases x <;> rfl
@[simp] theorem Lane.setAx_mem (l : Lane) (x : Ax) (a : AxSt) : (l.setAx x a).mem = l.mem := by cases x <;> rfl
@[simp] theorem Lane.setAx_tcmGen (l : Lane) (x : Ax) (a : AxSt) : (l.setAx x a).tcmGen = l.tcmGen := by cases x <;> rfl
@[simp] theorem Lane.setAx_fresh (l : Lane) (x : Ax) (a : AxSt) : (l.setAx x a).fresh = l.fresh := by cases x <;> rfl
@[simp] theorem Lane.setAx_rdata (l : Lane) (x : Ax) (a : AxSt) : (l.setAx x a).rdata = l.rdata := by cases x <;> rfl
@[simp] theorem Lane.setAx_busErr (l : Lane) (x : Ax) (a : AxSt) : (l.setAx x a).busErr = l.busErr := by cases x <;> rfl
@[simp] theorem Lane.setAx_out (l : Lane) (x : Ax) (a : AxSt) : (l.setAx x a).out = l.out := by cases x <;> rfl
@[simp] theorem Lane.setAx_sy (l : Lane) (x : Ax) (a : AxSt) : (l.setAx x a).sy = l.sy := by cases x <;> rfl
@[simp] theorem Lane.setAx_pc (l : Lane) (x : Ax) (a : AxSt) : (l.setAx x a).pc = l.pc := by cases x <;> rfl
@[simp] theorem Lane.setAx_gl (l : Lane) (x : Ax) (a : AxSt) : (l.setAx x a).gl = l.gl := by cases x <;> rfl
@[simp] theorem Lane.setAx_fc (l : Lane) (x : Ax) (a : AxSt) : (l.setAx x a).fc = l.fc := by cases x <;> rfl
@[simp] theorem Lane.setAx_sc (l : Lane) (x : Ax) (a : AxSt) : (l.setAx x a).sc = l.sc := by cases x <;> rfl
@[simp] theorem Lane.setAx_hq (l : Lane) (x : Ax) (a : AxSt) : (l.setAx x a).hq = l.hq := by cases x <;> rfl
@[simp] theorem Lane.setAx_tt (l : Lane) (x : Ax) (a : AxSt) : (l.setAx x a).tt = l.tt := by cases x <;> rfl
@[simp] theorem Lane.setAx_cn (l : Lane) (x : Ax) (a : AxSt) : (l.setAx x a).cn = l.cn := by cases x <;> rfl
@[simp] theorem Lane.setAx_ao (l : Lane) (x : Ax) (a : AxSt) : (l.setAx x a).ao = l.ao := by cases x <;> rfl
@[simp] theorem Lane.setAx_pm (l : Lane) (x : Ax) (a : AxSt) : (l.setAx x a).pm = l.pm := by cases x <;> rfl
@[simp] theorem Lane.setAx_pw (l : Lane) (x : Ax) (a : AxSt) : (l.setAx x a).pw = l.pw := by cases x <;> rfl
@[simp] theorem Lane.setAx_st (l : Lane) (x : Ax) (a : AxSt) : (l.setAx x a).st = l.st := by cases x <;> rfl
@[simp] theorem Lane.setAx_lc (l : Lane) (x : Ax) (a : AxSt) : (l.setAx x a).lc = l.lc := by cases x <;> rfl
@[simp] theorem Lane.setAx_im (l : Lane) (x : Ax) (a : AxSt) : (l.setAx x a).im = l.im := by cases x <;> rfl
@[simp] theorem Lane.setAx_saf (l : Lane) (x : Ax) (a : AxSt) : (l.setAx x a).saf = l.saf := by cases x <;> rfl
@[simp] theorem Lane.setAx_trip (l : Lane) (x : Ax) (a : AxSt) : (l.setAx x a).trip = l.trip := by cases x <;> rfl
@[simp] theorem Lane.setAx_dl (l : Lane) (x : Ax) (a : AxSt) : (l.setAx x a).dl = l.dl := by cases x <;> rfl
@[simp] theorem Lane.setAx_mon (l : Lane) (x : Ax) (a : AxSt) : (l.setAx x a).mon = l.mon := by cases x <;> rfl
@[simp] theorem Lane.setAx_sf (l : Lane) (x : Ax) (a : AxSt) : (l.setAx x a).sf = l.sf := by cases x <;> rfl

/-! ### Register writes change the register file alone -/

@[simp] theorem Lane.setReg_me (l : Lane) (a : Nat) (v : Word) : (l.setReg a v).me = l.me := rfl
@[simp] theorem Lane.setReg_part (l : Lane) (a : Nat) (v : Word) : (l.setReg a v).part = l.part := rfl
@[simp] theorem Lane.setReg_now (l : Lane) (a : Nat) (v : Word) : (l.setReg a v).now = l.now := rfl
@[simp] theorem Lane.setReg_mem (l : Lane) (a : Nat) (v : Word) : (l.setReg a v).mem = l.mem := rfl
@[simp] theorem Lane.setReg_tcmGen (l : Lane) (a : Nat) (v : Word) : (l.setReg a v).tcmGen = l.tcmGen := rfl
@[simp] theorem Lane.setReg_fresh (l : Lane) (a : Nat) (v : Word) : (l.setReg a v).fresh = l.fresh := rfl
@[simp] theorem Lane.setReg_rdata (l : Lane) (a : Nat) (v : Word) : (l.setReg a v).rdata = l.rdata := rfl
@[simp] theorem Lane.setReg_busErr (l : Lane) (a : Nat) (v : Word) : (l.setReg a v).busErr = l.busErr := rfl
@[simp] theorem Lane.setReg_out (l : Lane) (a : Nat) (v : Word) : (l.setReg a v).out = l.out := rfl
@[simp] theorem Lane.setReg_sy (l : Lane) (a : Nat) (v : Word) : (l.setReg a v).sy = l.sy := rfl
@[simp] theorem Lane.setReg_pc (l : Lane) (a : Nat) (v : Word) : (l.setReg a v).pc = l.pc := rfl
@[simp] theorem Lane.setReg_gl (l : Lane) (a : Nat) (v : Word) : (l.setReg a v).gl = l.gl := rfl
@[simp] theorem Lane.setReg_fc (l : Lane) (a : Nat) (v : Word) : (l.setReg a v).fc = l.fc := rfl
@[simp] theorem Lane.setReg_sc (l : Lane) (a : Nat) (v : Word) : (l.setReg a v).sc = l.sc := rfl
@[simp] theorem Lane.setReg_hq (l : Lane) (a : Nat) (v : Word) : (l.setReg a v).hq = l.hq := rfl
@[simp] theorem Lane.setReg_tt (l : Lane) (a : Nat) (v : Word) : (l.setReg a v).tt = l.tt := rfl
@[simp] theorem Lane.setReg_cn (l : Lane) (a : Nat) (v : Word) : (l.setReg a v).cn = l.cn := rfl
@[simp] theorem Lane.setReg_ao (l : Lane) (a : Nat) (v : Word) : (l.setReg a v).ao = l.ao := rfl
@[simp] theorem Lane.setReg_pm (l : Lane) (a : Nat) (v : Word) : (l.setReg a v).pm = l.pm := rfl
@[simp] theorem Lane.setReg_pw (l : Lane) (a : Nat) (v : Word) : (l.setReg a v).pw = l.pw := rfl
@[simp] theorem Lane.setReg_st (l : Lane) (a : Nat) (v : Word) : (l.setReg a v).st = l.st := rfl
@[simp] theorem Lane.setReg_lc (l : Lane) (a : Nat) (v : Word) : (l.setReg a v).lc = l.lc := rfl
@[simp] theorem Lane.setReg_im (l : Lane) (a : Nat) (v : Word) : (l.setReg a v).im = l.im := rfl
@[simp] theorem Lane.setReg_saf (l : Lane) (a : Nat) (v : Word) : (l.setReg a v).saf = l.saf := rfl
@[simp] theorem Lane.setReg_trip (l : Lane) (a : Nat) (v : Word) : (l.setReg a v).trip = l.trip := rfl
@[simp] theorem Lane.setReg_dl (l : Lane) (a : Nat) (v : Word) : (l.setReg a v).dl = l.dl := rfl
@[simp] theorem Lane.setReg_mon (l : Lane) (a : Nat) (v : Word) : (l.setReg a v).mon = l.mon := rfl
@[simp] theorem Lane.setReg_sf (l : Lane) (a : Nat) (v : Word) : (l.setReg a v).sf = l.sf := rfl
@[simp] theorem Lane.setReg_ax0 (l : Lane) (a : Nat) (v : Word) : (l.setReg a v).ax0 = l.ax0 := rfl
@[simp] theorem Lane.setReg_ax1 (l : Lane) (a : Nat) (v : Word) : (l.setReg a v).ax1 = l.ax1 := rfl
@[simp] theorem Lane.setReg_ax (l : Lane) (a : Nat) (v : Word) (x : Ax) : (l.setReg a v).ax x = l.ax x := by cases x <;> rfl

@[simp] theorem Lane.wr_me (l : Lane) (f : Fld) (v : Nat) : (l.wr f v).me = l.me := rfl
@[simp] theorem Lane.wr_part (l : Lane) (f : Fld) (v : Nat) : (l.wr f v).part = l.part := rfl
@[simp] theorem Lane.wr_now (l : Lane) (f : Fld) (v : Nat) : (l.wr f v).now = l.now := rfl
@[simp] theorem Lane.wr_mem (l : Lane) (f : Fld) (v : Nat) : (l.wr f v).mem = l.mem := rfl
@[simp] theorem Lane.wr_tcmGen (l : Lane) (f : Fld) (v : Nat) : (l.wr f v).tcmGen = l.tcmGen := rfl
@[simp] theorem Lane.wr_fresh (l : Lane) (f : Fld) (v : Nat) : (l.wr f v).fresh = l.fresh := rfl
@[simp] theorem Lane.wr_rdata (l : Lane) (f : Fld) (v : Nat) : (l.wr f v).rdata = l.rdata := rfl
@[simp] theorem Lane.wr_busErr (l : Lane) (f : Fld) (v : Nat) : (l.wr f v).busErr = l.busErr := rfl
@[simp] theorem Lane.wr_out (l : Lane) (f : Fld) (v : Nat) : (l.wr f v).out = l.out := rfl
@[simp] theorem Lane.wr_sy (l : Lane) (f : Fld) (v : Nat) : (l.wr f v).sy = l.sy := rfl
@[simp] theorem Lane.wr_pc (l : Lane) (f : Fld) (v : Nat) : (l.wr f v).pc = l.pc := rfl
@[simp] theorem Lane.wr_gl (l : Lane) (f : Fld) (v : Nat) : (l.wr f v).gl = l.gl := rfl
@[simp] theorem Lane.wr_fc (l : Lane) (f : Fld) (v : Nat) : (l.wr f v).fc = l.fc := rfl
@[simp] theorem Lane.wr_sc (l : Lane) (f : Fld) (v : Nat) : (l.wr f v).sc = l.sc := rfl
@[simp] theorem Lane.wr_hq (l : Lane) (f : Fld) (v : Nat) : (l.wr f v).hq = l.hq := rfl
@[simp] theorem Lane.wr_tt (l : Lane) (f : Fld) (v : Nat) : (l.wr f v).tt = l.tt := rfl
@[simp] theorem Lane.wr_cn (l : Lane) (f : Fld) (v : Nat) : (l.wr f v).cn = l.cn := rfl
@[simp] theorem Lane.wr_ao (l : Lane) (f : Fld) (v : Nat) : (l.wr f v).ao = l.ao := rfl
@[simp] theorem Lane.wr_pm (l : Lane) (f : Fld) (v : Nat) : (l.wr f v).pm = l.pm := rfl
@[simp] theorem Lane.wr_pw (l : Lane) (f : Fld) (v : Nat) : (l.wr f v).pw = l.pw := rfl
@[simp] theorem Lane.wr_st (l : Lane) (f : Fld) (v : Nat) : (l.wr f v).st = l.st := rfl
@[simp] theorem Lane.wr_lc (l : Lane) (f : Fld) (v : Nat) : (l.wr f v).lc = l.lc := rfl
@[simp] theorem Lane.wr_im (l : Lane) (f : Fld) (v : Nat) : (l.wr f v).im = l.im := rfl
@[simp] theorem Lane.wr_saf (l : Lane) (f : Fld) (v : Nat) : (l.wr f v).saf = l.saf := rfl
@[simp] theorem Lane.wr_trip (l : Lane) (f : Fld) (v : Nat) : (l.wr f v).trip = l.trip := rfl
@[simp] theorem Lane.wr_dl (l : Lane) (f : Fld) (v : Nat) : (l.wr f v).dl = l.dl := rfl
@[simp] theorem Lane.wr_mon (l : Lane) (f : Fld) (v : Nat) : (l.wr f v).mon = l.mon := rfl
@[simp] theorem Lane.wr_sf (l : Lane) (f : Fld) (v : Nat) : (l.wr f v).sf = l.sf := rfl
@[simp] theorem Lane.wr_ax0 (l : Lane) (f : Fld) (v : Nat) : (l.wr f v).ax0 = l.ax0 := rfl
@[simp] theorem Lane.wr_ax1 (l : Lane) (f : Fld) (v : Nat) : (l.wr f v).ax1 = l.ax1 := rfl
@[simp] theorem Lane.wr_ax (l : Lane) (f : Fld) (v : Nat) (x : Ax) : (l.wr f v).ax x = l.ax x := by cases x <;> rfl

@[simp] theorem Lane.wrS_me (l : Lane) (f : Fld) (v : Int) : (l.wrS f v).me = l.me := rfl
@[simp] theorem Lane.wrS_part (l : Lane) (f : Fld) (v : Int) : (l.wrS f v).part = l.part := rfl
@[simp] theorem Lane.wrS_now (l : Lane) (f : Fld) (v : Int) : (l.wrS f v).now = l.now := rfl
@[simp] theorem Lane.wrS_mem (l : Lane) (f : Fld) (v : Int) : (l.wrS f v).mem = l.mem := rfl
@[simp] theorem Lane.wrS_tcmGen (l : Lane) (f : Fld) (v : Int) : (l.wrS f v).tcmGen = l.tcmGen := rfl
@[simp] theorem Lane.wrS_fresh (l : Lane) (f : Fld) (v : Int) : (l.wrS f v).fresh = l.fresh := rfl
@[simp] theorem Lane.wrS_rdata (l : Lane) (f : Fld) (v : Int) : (l.wrS f v).rdata = l.rdata := rfl
@[simp] theorem Lane.wrS_busErr (l : Lane) (f : Fld) (v : Int) : (l.wrS f v).busErr = l.busErr := rfl
@[simp] theorem Lane.wrS_out (l : Lane) (f : Fld) (v : Int) : (l.wrS f v).out = l.out := rfl
@[simp] theorem Lane.wrS_sy (l : Lane) (f : Fld) (v : Int) : (l.wrS f v).sy = l.sy := rfl
@[simp] theorem Lane.wrS_pc (l : Lane) (f : Fld) (v : Int) : (l.wrS f v).pc = l.pc := rfl
@[simp] theorem Lane.wrS_gl (l : Lane) (f : Fld) (v : Int) : (l.wrS f v).gl = l.gl := rfl
@[simp] theorem Lane.wrS_fc (l : Lane) (f : Fld) (v : Int) : (l.wrS f v).fc = l.fc := rfl
@[simp] theorem Lane.wrS_sc (l : Lane) (f : Fld) (v : Int) : (l.wrS f v).sc = l.sc := rfl
@[simp] theorem Lane.wrS_hq (l : Lane) (f : Fld) (v : Int) : (l.wrS f v).hq = l.hq := rfl
@[simp] theorem Lane.wrS_tt (l : Lane) (f : Fld) (v : Int) : (l.wrS f v).tt = l.tt := rfl
@[simp] theorem Lane.wrS_cn (l : Lane) (f : Fld) (v : Int) : (l.wrS f v).cn = l.cn := rfl
@[simp] theorem Lane.wrS_ao (l : Lane) (f : Fld) (v : Int) : (l.wrS f v).ao = l.ao := rfl
@[simp] theorem Lane.wrS_pm (l : Lane) (f : Fld) (v : Int) : (l.wrS f v).pm = l.pm := rfl
@[simp] theorem Lane.wrS_pw (l : Lane) (f : Fld) (v : Int) : (l.wrS f v).pw = l.pw := rfl
@[simp] theorem Lane.wrS_st (l : Lane) (f : Fld) (v : Int) : (l.wrS f v).st = l.st := rfl
@[simp] theorem Lane.wrS_lc (l : Lane) (f : Fld) (v : Int) : (l.wrS f v).lc = l.lc := rfl
@[simp] theorem Lane.wrS_im (l : Lane) (f : Fld) (v : Int) : (l.wrS f v).im = l.im := rfl
@[simp] theorem Lane.wrS_saf (l : Lane) (f : Fld) (v : Int) : (l.wrS f v).saf = l.saf := rfl
@[simp] theorem Lane.wrS_trip (l : Lane) (f : Fld) (v : Int) : (l.wrS f v).trip = l.trip := rfl
@[simp] theorem Lane.wrS_dl (l : Lane) (f : Fld) (v : Int) : (l.wrS f v).dl = l.dl := rfl
@[simp] theorem Lane.wrS_mon (l : Lane) (f : Fld) (v : Int) : (l.wrS f v).mon = l.mon := rfl
@[simp] theorem Lane.wrS_sf (l : Lane) (f : Fld) (v : Int) : (l.wrS f v).sf = l.sf := rfl
@[simp] theorem Lane.wrS_ax0 (l : Lane) (f : Fld) (v : Int) : (l.wrS f v).ax0 = l.ax0 := rfl
@[simp] theorem Lane.wrS_ax1 (l : Lane) (f : Fld) (v : Int) : (l.wrS f v).ax1 = l.ax1 := rfl
@[simp] theorem Lane.wrS_ax (l : Lane) (f : Fld) (v : Int) (x : Ax) : (l.wrS f v).ax x = l.ax x := by cases x <;> rfl

@[simp] theorem Lane.set_me (l : Lane) (f : Fld) : (l.set f).me = l.me := rfl
@[simp] theorem Lane.set_part (l : Lane) (f : Fld) : (l.set f).part = l.part := rfl
@[simp] theorem Lane.set_now (l : Lane) (f : Fld) : (l.set f).now = l.now := rfl
@[simp] theorem Lane.set_mem (l : Lane) (f : Fld) : (l.set f).mem = l.mem := rfl
@[simp] theorem Lane.set_tcmGen (l : Lane) (f : Fld) : (l.set f).tcmGen = l.tcmGen := rfl
@[simp] theorem Lane.set_fresh (l : Lane) (f : Fld) : (l.set f).fresh = l.fresh := rfl
@[simp] theorem Lane.set_rdata (l : Lane) (f : Fld) : (l.set f).rdata = l.rdata := rfl
@[simp] theorem Lane.set_busErr (l : Lane) (f : Fld) : (l.set f).busErr = l.busErr := rfl
@[simp] theorem Lane.set_out (l : Lane) (f : Fld) : (l.set f).out = l.out := rfl
@[simp] theorem Lane.set_sy (l : Lane) (f : Fld) : (l.set f).sy = l.sy := rfl
@[simp] theorem Lane.set_pc (l : Lane) (f : Fld) : (l.set f).pc = l.pc := rfl
@[simp] theorem Lane.set_gl (l : Lane) (f : Fld) : (l.set f).gl = l.gl := rfl
@[simp] theorem Lane.set_fc (l : Lane) (f : Fld) : (l.set f).fc = l.fc := rfl
@[simp] theorem Lane.set_sc (l : Lane) (f : Fld) : (l.set f).sc = l.sc := rfl
@[simp] theorem Lane.set_hq (l : Lane) (f : Fld) : (l.set f).hq = l.hq := rfl
@[simp] theorem Lane.set_tt (l : Lane) (f : Fld) : (l.set f).tt = l.tt := rfl
@[simp] theorem Lane.set_cn (l : Lane) (f : Fld) : (l.set f).cn = l.cn := rfl
@[simp] theorem Lane.set_ao (l : Lane) (f : Fld) : (l.set f).ao = l.ao := rfl
@[simp] theorem Lane.set_pm (l : Lane) (f : Fld) : (l.set f).pm = l.pm := rfl
@[simp] theorem Lane.set_pw (l : Lane) (f : Fld) : (l.set f).pw = l.pw := rfl
@[simp] theorem Lane.set_st (l : Lane) (f : Fld) : (l.set f).st = l.st := rfl
@[simp] theorem Lane.set_lc (l : Lane) (f : Fld) : (l.set f).lc = l.lc := rfl
@[simp] theorem Lane.set_im (l : Lane) (f : Fld) : (l.set f).im = l.im := rfl
@[simp] theorem Lane.set_saf (l : Lane) (f : Fld) : (l.set f).saf = l.saf := rfl
@[simp] theorem Lane.set_trip (l : Lane) (f : Fld) : (l.set f).trip = l.trip := rfl
@[simp] theorem Lane.set_dl (l : Lane) (f : Fld) : (l.set f).dl = l.dl := rfl
@[simp] theorem Lane.set_mon (l : Lane) (f : Fld) : (l.set f).mon = l.mon := rfl
@[simp] theorem Lane.set_sf (l : Lane) (f : Fld) : (l.set f).sf = l.sf := rfl
@[simp] theorem Lane.set_ax0 (l : Lane) (f : Fld) : (l.set f).ax0 = l.ax0 := rfl
@[simp] theorem Lane.set_ax1 (l : Lane) (f : Fld) : (l.set f).ax1 = l.ax1 := rfl
@[simp] theorem Lane.set_ax (l : Lane) (f : Fld) (x : Ax) : (l.set f).ax x = l.ax x := by cases x <;> rfl

@[simp] theorem Lane.clr_me (l : Lane) (f : Fld) : (l.clr f).me = l.me := rfl
@[simp] theorem Lane.clr_part (l : Lane) (f : Fld) : (l.clr f).part = l.part := rfl
@[simp] theorem Lane.clr_now (l : Lane) (f : Fld) : (l.clr f).now = l.now := rfl
@[simp] theorem Lane.clr_mem (l : Lane) (f : Fld) : (l.clr f).mem = l.mem := rfl
@[simp] theorem Lane.clr_tcmGen (l : Lane) (f : Fld) : (l.clr f).tcmGen = l.tcmGen := rfl
@[simp] theorem Lane.clr_fresh (l : Lane) (f : Fld) : (l.clr f).fresh = l.fresh := rfl
@[simp] theorem Lane.clr_rdata (l : Lane) (f : Fld) : (l.clr f).rdata = l.rdata := rfl
@[simp] theorem Lane.clr_busErr (l : Lane) (f : Fld) : (l.clr f).busErr = l.busErr := rfl
@[simp] theorem Lane.clr_out (l : Lane) (f : Fld) : (l.clr f).out = l.out := rfl
@[simp] theorem Lane.clr_sy (l : Lane) (f : Fld) : (l.clr f).sy = l.sy := rfl
@[simp] theorem Lane.clr_pc (l : Lane) (f : Fld) : (l.clr f).pc = l.pc := rfl
@[simp] theorem Lane.clr_gl (l : Lane) (f : Fld) : (l.clr f).gl = l.gl := rfl
@[simp] theorem Lane.clr_fc (l : Lane) (f : Fld) : (l.clr f).fc = l.fc := rfl
@[simp] theorem Lane.clr_sc (l : Lane) (f : Fld) : (l.clr f).sc = l.sc := rfl
@[simp] theorem Lane.clr_hq (l : Lane) (f : Fld) : (l.clr f).hq = l.hq := rfl
@[simp] theorem Lane.clr_tt (l : Lane) (f : Fld) : (l.clr f).tt = l.tt := rfl
@[simp] theorem Lane.clr_cn (l : Lane) (f : Fld) : (l.clr f).cn = l.cn := rfl
@[simp] theorem Lane.clr_ao (l : Lane) (f : Fld) : (l.clr f).ao = l.ao := rfl
@[simp] theorem Lane.clr_pm (l : Lane) (f : Fld) : (l.clr f).pm = l.pm := rfl
@[simp] theorem Lane.clr_pw (l : Lane) (f : Fld) : (l.clr f).pw = l.pw := rfl
@[simp] theorem Lane.clr_st (l : Lane) (f : Fld) : (l.clr f).st = l.st := rfl
@[simp] theorem Lane.clr_lc (l : Lane) (f : Fld) : (l.clr f).lc = l.lc := rfl
@[simp] theorem Lane.clr_im (l : Lane) (f : Fld) : (l.clr f).im = l.im := rfl
@[simp] theorem Lane.clr_saf (l : Lane) (f : Fld) : (l.clr f).saf = l.saf := rfl
@[simp] theorem Lane.clr_trip (l : Lane) (f : Fld) : (l.clr f).trip = l.trip := rfl
@[simp] theorem Lane.clr_dl (l : Lane) (f : Fld) : (l.clr f).dl = l.dl := rfl
@[simp] theorem Lane.clr_mon (l : Lane) (f : Fld) : (l.clr f).mon = l.mon := rfl
@[simp] theorem Lane.clr_sf (l : Lane) (f : Fld) : (l.clr f).sf = l.sf := rfl
@[simp] theorem Lane.clr_ax0 (l : Lane) (f : Fld) : (l.clr f).ax0 = l.ax0 := rfl
@[simp] theorem Lane.clr_ax1 (l : Lane) (f : Fld) : (l.clr f).ax1 = l.ax1 := rfl
@[simp] theorem Lane.clr_ax (l : Lane) (f : Fld) (x : Ax) : (l.clr f).ax x = l.ax x := by cases x <;> rfl

@[simp] theorem Lane.put_me (l : Lane) (f : Fld) (b : Bool) : (l.put f b).me = l.me := rfl
@[simp] theorem Lane.put_part (l : Lane) (f : Fld) (b : Bool) : (l.put f b).part = l.part := rfl
@[simp] theorem Lane.put_now (l : Lane) (f : Fld) (b : Bool) : (l.put f b).now = l.now := rfl
@[simp] theorem Lane.put_mem (l : Lane) (f : Fld) (b : Bool) : (l.put f b).mem = l.mem := rfl
@[simp] theorem Lane.put_tcmGen (l : Lane) (f : Fld) (b : Bool) : (l.put f b).tcmGen = l.tcmGen := rfl
@[simp] theorem Lane.put_fresh (l : Lane) (f : Fld) (b : Bool) : (l.put f b).fresh = l.fresh := rfl
@[simp] theorem Lane.put_rdata (l : Lane) (f : Fld) (b : Bool) : (l.put f b).rdata = l.rdata := rfl
@[simp] theorem Lane.put_busErr (l : Lane) (f : Fld) (b : Bool) : (l.put f b).busErr = l.busErr := rfl
@[simp] theorem Lane.put_out (l : Lane) (f : Fld) (b : Bool) : (l.put f b).out = l.out := rfl
@[simp] theorem Lane.put_sy (l : Lane) (f : Fld) (b : Bool) : (l.put f b).sy = l.sy := rfl
@[simp] theorem Lane.put_pc (l : Lane) (f : Fld) (b : Bool) : (l.put f b).pc = l.pc := rfl
@[simp] theorem Lane.put_gl (l : Lane) (f : Fld) (b : Bool) : (l.put f b).gl = l.gl := rfl
@[simp] theorem Lane.put_fc (l : Lane) (f : Fld) (b : Bool) : (l.put f b).fc = l.fc := rfl
@[simp] theorem Lane.put_sc (l : Lane) (f : Fld) (b : Bool) : (l.put f b).sc = l.sc := rfl
@[simp] theorem Lane.put_hq (l : Lane) (f : Fld) (b : Bool) : (l.put f b).hq = l.hq := rfl
@[simp] theorem Lane.put_tt (l : Lane) (f : Fld) (b : Bool) : (l.put f b).tt = l.tt := rfl
@[simp] theorem Lane.put_cn (l : Lane) (f : Fld) (b : Bool) : (l.put f b).cn = l.cn := rfl
@[simp] theorem Lane.put_ao (l : Lane) (f : Fld) (b : Bool) : (l.put f b).ao = l.ao := rfl
@[simp] theorem Lane.put_pm (l : Lane) (f : Fld) (b : Bool) : (l.put f b).pm = l.pm := rfl
@[simp] theorem Lane.put_pw (l : Lane) (f : Fld) (b : Bool) : (l.put f b).pw = l.pw := rfl
@[simp] theorem Lane.put_st (l : Lane) (f : Fld) (b : Bool) : (l.put f b).st = l.st := rfl
@[simp] theorem Lane.put_lc (l : Lane) (f : Fld) (b : Bool) : (l.put f b).lc = l.lc := rfl
@[simp] theorem Lane.put_im (l : Lane) (f : Fld) (b : Bool) : (l.put f b).im = l.im := rfl
@[simp] theorem Lane.put_saf (l : Lane) (f : Fld) (b : Bool) : (l.put f b).saf = l.saf := rfl
@[simp] theorem Lane.put_trip (l : Lane) (f : Fld) (b : Bool) : (l.put f b).trip = l.trip := rfl
@[simp] theorem Lane.put_dl (l : Lane) (f : Fld) (b : Bool) : (l.put f b).dl = l.dl := rfl
@[simp] theorem Lane.put_mon (l : Lane) (f : Fld) (b : Bool) : (l.put f b).mon = l.mon := rfl
@[simp] theorem Lane.put_sf (l : Lane) (f : Fld) (b : Bool) : (l.put f b).sf = l.sf := rfl
@[simp] theorem Lane.put_ax0 (l : Lane) (f : Fld) (b : Bool) : (l.put f b).ax0 = l.ax0 := rfl
@[simp] theorem Lane.put_ax1 (l : Lane) (f : Fld) (b : Bool) : (l.put f b).ax1 = l.ax1 := rfl
@[simp] theorem Lane.put_ax (l : Lane) (f : Fld) (b : Bool) (x : Ax) : (l.put f b).ax x = l.ax x := by cases x <;> rfl

@[simp] theorem Lane.wq_me (l : Lane) (f : Fld) (v : Q) : (l.wq f v).me = l.me := rfl
@[simp] theorem Lane.wq_part (l : Lane) (f : Fld) (v : Q) : (l.wq f v).part = l.part := rfl
@[simp] theorem Lane.wq_now (l : Lane) (f : Fld) (v : Q) : (l.wq f v).now = l.now := rfl
@[simp] theorem Lane.wq_mem (l : Lane) (f : Fld) (v : Q) : (l.wq f v).mem = l.mem := rfl
@[simp] theorem Lane.wq_tcmGen (l : Lane) (f : Fld) (v : Q) : (l.wq f v).tcmGen = l.tcmGen := rfl
@[simp] theorem Lane.wq_fresh (l : Lane) (f : Fld) (v : Q) : (l.wq f v).fresh = l.fresh := rfl
@[simp] theorem Lane.wq_rdata (l : Lane) (f : Fld) (v : Q) : (l.wq f v).rdata = l.rdata := rfl
@[simp] theorem Lane.wq_busErr (l : Lane) (f : Fld) (v : Q) : (l.wq f v).busErr = l.busErr := rfl
@[simp] theorem Lane.wq_out (l : Lane) (f : Fld) (v : Q) : (l.wq f v).out = l.out := rfl
@[simp] theorem Lane.wq_sy (l : Lane) (f : Fld) (v : Q) : (l.wq f v).sy = l.sy := rfl
@[simp] theorem Lane.wq_pc (l : Lane) (f : Fld) (v : Q) : (l.wq f v).pc = l.pc := rfl
@[simp] theorem Lane.wq_gl (l : Lane) (f : Fld) (v : Q) : (l.wq f v).gl = l.gl := rfl
@[simp] theorem Lane.wq_fc (l : Lane) (f : Fld) (v : Q) : (l.wq f v).fc = l.fc := rfl
@[simp] theorem Lane.wq_sc (l : Lane) (f : Fld) (v : Q) : (l.wq f v).sc = l.sc := rfl
@[simp] theorem Lane.wq_hq (l : Lane) (f : Fld) (v : Q) : (l.wq f v).hq = l.hq := rfl
@[simp] theorem Lane.wq_tt (l : Lane) (f : Fld) (v : Q) : (l.wq f v).tt = l.tt := rfl
@[simp] theorem Lane.wq_cn (l : Lane) (f : Fld) (v : Q) : (l.wq f v).cn = l.cn := rfl
@[simp] theorem Lane.wq_ao (l : Lane) (f : Fld) (v : Q) : (l.wq f v).ao = l.ao := rfl
@[simp] theorem Lane.wq_pm (l : Lane) (f : Fld) (v : Q) : (l.wq f v).pm = l.pm := rfl
@[simp] theorem Lane.wq_pw (l : Lane) (f : Fld) (v : Q) : (l.wq f v).pw = l.pw := rfl
@[simp] theorem Lane.wq_st (l : Lane) (f : Fld) (v : Q) : (l.wq f v).st = l.st := rfl
@[simp] theorem Lane.wq_lc (l : Lane) (f : Fld) (v : Q) : (l.wq f v).lc = l.lc := rfl
@[simp] theorem Lane.wq_im (l : Lane) (f : Fld) (v : Q) : (l.wq f v).im = l.im := rfl
@[simp] theorem Lane.wq_saf (l : Lane) (f : Fld) (v : Q) : (l.wq f v).saf = l.saf := rfl
@[simp] theorem Lane.wq_trip (l : Lane) (f : Fld) (v : Q) : (l.wq f v).trip = l.trip := rfl
@[simp] theorem Lane.wq_dl (l : Lane) (f : Fld) (v : Q) : (l.wq f v).dl = l.dl := rfl
@[simp] theorem Lane.wq_mon (l : Lane) (f : Fld) (v : Q) : (l.wq f v).mon = l.mon := rfl
@[simp] theorem Lane.wq_sf (l : Lane) (f : Fld) (v : Q) : (l.wq f v).sf = l.sf := rfl
@[simp] theorem Lane.wq_ax0 (l : Lane) (f : Fld) (v : Q) : (l.wq f v).ax0 = l.ax0 := rfl
@[simp] theorem Lane.wq_ax1 (l : Lane) (f : Fld) (v : Q) : (l.wq f v).ax1 = l.ax1 := rfl
@[simp] theorem Lane.wq_ax (l : Lane) (f : Fld) (v : Q) (x : Ax) : (l.wq f v).ax x = l.ax x := by cases x <;> rfl

/-! ### A counter, a message and an event -/

/-! ### A counter, a message and an event: all that each of them can change -/

/-- A saturating counter changes its own register alone. -/
theorem Lane.bump_form (l : Lane) (f : Fld) :
    ∃ r, l.bump f = { l with regs := r } ∧ ∀ b, b ≠ f.addr → regGet r b = regGet l.regs b := by
  unfold Lane.bump
  split
  · exact ⟨_, rfl, fun b h => l.reg_wr_ne f _ b h⟩
  · exact ⟨l.regs, rfl, fun _ _ => rfl⟩

/-- A message presented changes the messages that wait, or the count of dropped ones. -/
theorem Lane.present_form (l : Lane) (m : Msg) :
    ∃ r c, l.present m = { l with regs := r, fc := c } ∧ ∀ b, b ≠ FC_DROP_CE.addr → regGet r b = regGet l.regs b := by
  unfold Lane.present
  split
  · obtain ⟨r, h, hr⟩ := Lane.bump_form l FC_DROP_CE
    exact ⟨r, l.fc, h, hr⟩
  · exact ⟨l.regs, _, rfl, fun _ _ => rfl⟩

theorem Lane.raise_form (l : Lane) (src kind cls : Nat) (x : Option Ax) (d : Nat) :
    ∃ r c, l.raise src kind cls x d = { l with regs := r, fc := c } ∧ ∀ b, b ≠ FC_DROP_CE.addr → regGet r b = regGet l.regs b :=
  Lane.present_form l _

theorem Lane.raiseOnce_form (l : Lane) (src kind cls : Nat) (x : Option Ax) (d : Nat) :
    ∃ r c, l.raiseOnce src kind cls x d = { l with regs := r, fc := c } ∧
      ∀ b, b ≠ FC_DROP_CE.addr → regGet r b = regGet l.regs b := by
  unfold Lane.raiseOnce
  split
  · exact ⟨l.regs, l.fc, rfl, fun _ _ => rfl⟩
  · obtain ⟨r, c, h, hr⟩ := Lane.raise_form l src kind cls x d
    rw [h]
    exact ⟨r, _, rfl, hr⟩

/-- An occurrence for an item changes the flow scheduler alone. -/
theorem Lane.arise_form (l : Lane) (k : ItemKind) (src flow prio : Nat) : ∃ c, l.arise k src flow prio = { l with sc := c } := by
  unfold Lane.arise
  by_cases h1 : k ≠ .post ∧ l.sc.items.any (fun i => i.kind = k ∧ i.src = src)
  · rw [if_pos h1]
    by_cases h2 : k = .hamper
    · rw [if_pos h2]; exact ⟨l.sc, rfl⟩
    · rw [if_neg h2]; exact ⟨_, rfl⟩
  · rw [if_neg h1]; exact ⟨_, rfl⟩

/-- An event changes its word of SY_EVSTAT and the flow scheduler. -/
theorem Lane.event_form (l : Lane) (n : Nat) :
    ∃ r c, l.event n = { l with regs := r, sc := c } ∧ ∀ b, b ≠ (SY_EVSTAT_EV (n / 32)).addr → regGet r b = regGet l.regs b := by
  unfold Lane.event
  generalize hw : l.wr (SY_EVSTAT_EV (n / 32)) ((l.rd (SY_EVSTAT_EV (n / 32))) ||| (2 ^ (n % 32))) = w
  have h0 : w = { l with regs := w.regs } := by rw [← hw]; rfl
  have hr : ∀ b, b ≠ (SY_EVSTAT_EV (n / 32)).addr → regGet w.regs b = regGet l.regs b := by
    rw [← hw]; exact fun b h => l.reg_wr_ne _ _ b h
  obtain ⟨c, h1⟩ := Lane.arise_form (w.evNote n) .event n ((w.evNote n).rd (SC_EVMAP_FLOW n)) 0
  have hn : w.evNote n = { l with regs := w.regs, sc := (w.evNote n).sc } := by
    show ({ w with sc := (w.evNote n).sc } : Lane) = _
    rw [h0]
  by_cases h : (w.evNote n).on (SC_EVMAP_EN n) = true
  · simp only [hw, h, if_true]
    rw [h1]
    exact ⟨w.regs, c, by rw [hn], hr⟩
  · simp only [hw, h, if_false, Bool.false_eq_true]
    exact ⟨w.regs, _, hn, hr⟩

theorem Lane.reg_bump_ne (l : Lane) (f : Fld) (b : Nat) (h : b ≠ f.addr) : (l.bump f).reg b = l.reg b := by
  obtain ⟨r, e, hr⟩ := l.bump_form f
  rw [e]; exact hr b h

theorem Lane.reg_present_ne (l : Lane) (m : Msg) (b : Nat) (h : b ≠ FC_DROP_CE.addr) : (l.present m).reg b = l.reg b := by
  obtain ⟨r, c, e, hr⟩ := l.present_form m
  rw [e]; exact hr b h

theorem Lane.reg_raise_ne (l : Lane) (src kind cls : Nat) (x : Option Ax) (d b : Nat) (h : b ≠ FC_DROP_CE.addr) :
    (l.raise src kind cls x d).reg b = l.reg b := by
  obtain ⟨r, c, e, hr⟩ := l.raise_form src kind cls x d
  rw [e]; exact hr b h

theorem Lane.reg_raiseOnce_ne (l : Lane) (src kind cls : Nat) (x : Option Ax) (d b : Nat) (h : b ≠ FC_DROP_CE.addr) :
    (l.raiseOnce src kind cls x d).reg b = l.reg b := by
  obtain ⟨r, c, e, hr⟩ := l.raiseOnce_form src kind cls x d
  rw [e]; exact hr b h

theorem Lane.reg_event_ne (l : Lane) (n b : Nat) (h : b ≠ (SY_EVSTAT_EV (n / 32)).addr) : (l.event n).reg b = l.reg b := by
  obtain ⟨r, c, e, hr⟩ := l.event_form n
  rw [e]; exact hr b h

/-- A message changes no register but the count of dropped ones. -/
theorem Lane.rd_raise_ne (l : Lane) (src kind cls : Nat) (x : Option Ax) (d : Nat) (f : Fld) (h : f.addr ≠ FC_DROP_CE.addr) :
    (l.raise src kind cls x d).rd f = l.rd f := by
  simp only [Lane.rd, l.reg_raise_ne src kind cls x d f.addr h]

theorem Lane.rd_raiseOnce_ne (l : Lane) (src kind cls : Nat) (x : Option Ax) (d : Nat) (f : Fld) (h : f.addr ≠ FC_DROP_CE.addr) :
    (l.raiseOnce src kind cls x d).rd f = l.rd f := by
  simp only [Lane.rd, l.reg_raiseOnce_ne src kind cls x d f.addr h]

theorem Lane.rd_event_ne (l : Lane) (n : Nat) (f : Fld) (h : f.addr ≠ (SY_EVSTAT_EV (n / 32)).addr) : (l.event n).rd f = l.rd f := by
  simp only [Lane.rd, l.reg_event_ne n f.addr h]

theorem Lane.rd_bump_ne (l : Lane) (f g : Fld) (h : g.addr ≠ f.addr) : (l.bump f).rd g = l.rd g := by
  simp only [Lane.rd, l.reg_bump_ne f g.addr h]

@[simp] theorem Lane.bump_me (l : Lane) (f : Fld) : (l.bump f).me = l.me := by
  obtain ⟨_, h, _⟩ := Lane.bump_form l f
  rw [h]
@[simp] theorem Lane.bump_part (l : Lane) (f : Fld) : (l.bump f).part = l.part := by
  obtain ⟨_, h, _⟩ := Lane.bump_form l f
  rw [h]
@[simp] theorem Lane.bump_now (l : Lane) (f : Fld) : (l.bump f).now = l.now := by
  obtain ⟨_, h, _⟩ := Lane.bump_form l f
  rw [h]
@[simp] theorem Lane.bump_mem (l : Lane) (f : Fld) : (l.bump f).mem = l.mem := by
  obtain ⟨_, h, _⟩ := Lane.bump_form l f
  rw [h]
@[simp] theorem Lane.bump_tcmGen (l : Lane) (f : Fld) : (l.bump f).tcmGen = l.tcmGen := by
  obtain ⟨_, h, _⟩ := Lane.bump_form l f
  rw [h]
@[simp] theorem Lane.bump_fresh (l : Lane) (f : Fld) : (l.bump f).fresh = l.fresh := by
  obtain ⟨_, h, _⟩ := Lane.bump_form l f
  rw [h]
@[simp] theorem Lane.bump_rdata (l : Lane) (f : Fld) : (l.bump f).rdata = l.rdata := by
  obtain ⟨_, h, _⟩ := Lane.bump_form l f
  rw [h]
@[simp] theorem Lane.bump_busErr (l : Lane) (f : Fld) : (l.bump f).busErr = l.busErr := by
  obtain ⟨_, h, _⟩ := Lane.bump_form l f
  rw [h]
@[simp] theorem Lane.bump_out (l : Lane) (f : Fld) : (l.bump f).out = l.out := by
  obtain ⟨_, h, _⟩ := Lane.bump_form l f
  rw [h]
@[simp] theorem Lane.bump_sy (l : Lane) (f : Fld) : (l.bump f).sy = l.sy := by
  obtain ⟨_, h, _⟩ := Lane.bump_form l f
  rw [h]
@[simp] theorem Lane.bump_pc (l : Lane) (f : Fld) : (l.bump f).pc = l.pc := by
  obtain ⟨_, h, _⟩ := Lane.bump_form l f
  rw [h]
@[simp] theorem Lane.bump_gl (l : Lane) (f : Fld) : (l.bump f).gl = l.gl := by
  obtain ⟨_, h, _⟩ := Lane.bump_form l f
  rw [h]
@[simp] theorem Lane.bump_fc (l : Lane) (f : Fld) : (l.bump f).fc = l.fc := by
  obtain ⟨_, h, _⟩ := Lane.bump_form l f
  rw [h]
@[simp] theorem Lane.bump_sc (l : Lane) (f : Fld) : (l.bump f).sc = l.sc := by
  obtain ⟨_, h, _⟩ := Lane.bump_form l f
  rw [h]
@[simp] theorem Lane.bump_hq (l : Lane) (f : Fld) : (l.bump f).hq = l.hq := by
  obtain ⟨_, h, _⟩ := Lane.bump_form l f
  rw [h]
@[simp] theorem Lane.bump_tt (l : Lane) (f : Fld) : (l.bump f).tt = l.tt := by
  obtain ⟨_, h, _⟩ := Lane.bump_form l f
  rw [h]
@[simp] theorem Lane.bump_cn (l : Lane) (f : Fld) : (l.bump f).cn = l.cn := by
  obtain ⟨_, h, _⟩ := Lane.bump_form l f
  rw [h]
@[simp] theorem Lane.bump_ao (l : Lane) (f : Fld) : (l.bump f).ao = l.ao := by
  obtain ⟨_, h, _⟩ := Lane.bump_form l f
  rw [h]
@[simp] theorem Lane.bump_pm (l : Lane) (f : Fld) : (l.bump f).pm = l.pm := by
  obtain ⟨_, h, _⟩ := Lane.bump_form l f
  rw [h]
@[simp] theorem Lane.bump_pw (l : Lane) (f : Fld) : (l.bump f).pw = l.pw := by
  obtain ⟨_, h, _⟩ := Lane.bump_form l f
  rw [h]
@[simp] theorem Lane.bump_st (l : Lane) (f : Fld) : (l.bump f).st = l.st := by
  obtain ⟨_, h, _⟩ := Lane.bump_form l f
  rw [h]
@[simp] theorem Lane.bump_lc (l : Lane) (f : Fld) : (l.bump f).lc = l.lc := by
  obtain ⟨_, h, _⟩ := Lane.bump_form l f
  rw [h]
@[simp] theorem Lane.bump_im (l : Lane) (f : Fld) : (l.bump f).im = l.im := by
  obtain ⟨_, h, _⟩ := Lane.bump_form l f
  rw [h]
@[simp] theorem Lane.bump_saf (l : Lane) (f : Fld) : (l.bump f).saf = l.saf := by
  obtain ⟨_, h, _⟩ := Lane.bump_form l f
  rw [h]
@[simp] theorem Lane.bump_trip (l : Lane) (f : Fld) : (l.bump f).trip = l.trip := by
  obtain ⟨_, h, _⟩ := Lane.bump_form l f
  rw [h]
@[simp] theorem Lane.bump_dl (l : Lane) (f : Fld) : (l.bump f).dl = l.dl := by
  obtain ⟨_, h, _⟩ := Lane.bump_form l f
  rw [h]
@[simp] theorem Lane.bump_mon (l : Lane) (f : Fld) : (l.bump f).mon = l.mon := by
  obtain ⟨_, h, _⟩ := Lane.bump_form l f
  rw [h]
@[simp] theorem Lane.bump_sf (l : Lane) (f : Fld) : (l.bump f).sf = l.sf := by
  obtain ⟨_, h, _⟩ := Lane.bump_form l f
  rw [h]
@[simp] theorem Lane.bump_ax0 (l : Lane) (f : Fld) : (l.bump f).ax0 = l.ax0 := by
  obtain ⟨_, h, _⟩ := Lane.bump_form l f
  rw [h]
@[simp] theorem Lane.bump_ax1 (l : Lane) (f : Fld) : (l.bump f).ax1 = l.ax1 := by
  obtain ⟨_, h, _⟩ := Lane.bump_form l f
  rw [h]
@[simp] theorem Lane.bump_ax (l : Lane) (f : Fld) (y : Ax) : (l.bump f).ax y = l.ax y := by
  obtain ⟨_, h, _⟩ := Lane.bump_form l f
  rw [h]
  cases y <;> rfl

@[simp] theorem Lane.present_me (l : Lane) (m : Msg) : (l.present m).me = l.me := by
  obtain ⟨_, _, h, _⟩ := Lane.present_form l m
  rw [h]
@[simp] theorem Lane.present_part (l : Lane) (m : Msg) : (l.present m).part = l.part := by
  obtain ⟨_, _, h, _⟩ := Lane.present_form l m
  rw [h]
@[simp] theorem Lane.present_now (l : Lane) (m : Msg) : (l.present m).now = l.now := by
  obtain ⟨_, _, h, _⟩ := Lane.present_form l m
  rw [h]
@[simp] theorem Lane.present_mem (l : Lane) (m : Msg) : (l.present m).mem = l.mem := by
  obtain ⟨_, _, h, _⟩ := Lane.present_form l m
  rw [h]
@[simp] theorem Lane.present_tcmGen (l : Lane) (m : Msg) : (l.present m).tcmGen = l.tcmGen := by
  obtain ⟨_, _, h, _⟩ := Lane.present_form l m
  rw [h]
@[simp] theorem Lane.present_fresh (l : Lane) (m : Msg) : (l.present m).fresh = l.fresh := by
  obtain ⟨_, _, h, _⟩ := Lane.present_form l m
  rw [h]
@[simp] theorem Lane.present_rdata (l : Lane) (m : Msg) : (l.present m).rdata = l.rdata := by
  obtain ⟨_, _, h, _⟩ := Lane.present_form l m
  rw [h]
@[simp] theorem Lane.present_busErr (l : Lane) (m : Msg) : (l.present m).busErr = l.busErr := by
  obtain ⟨_, _, h, _⟩ := Lane.present_form l m
  rw [h]
@[simp] theorem Lane.present_out (l : Lane) (m : Msg) : (l.present m).out = l.out := by
  obtain ⟨_, _, h, _⟩ := Lane.present_form l m
  rw [h]
@[simp] theorem Lane.present_sy (l : Lane) (m : Msg) : (l.present m).sy = l.sy := by
  obtain ⟨_, _, h, _⟩ := Lane.present_form l m
  rw [h]
@[simp] theorem Lane.present_pc (l : Lane) (m : Msg) : (l.present m).pc = l.pc := by
  obtain ⟨_, _, h, _⟩ := Lane.present_form l m
  rw [h]
@[simp] theorem Lane.present_gl (l : Lane) (m : Msg) : (l.present m).gl = l.gl := by
  obtain ⟨_, _, h, _⟩ := Lane.present_form l m
  rw [h]
@[simp] theorem Lane.present_sc (l : Lane) (m : Msg) : (l.present m).sc = l.sc := by
  obtain ⟨_, _, h, _⟩ := Lane.present_form l m
  rw [h]
@[simp] theorem Lane.present_hq (l : Lane) (m : Msg) : (l.present m).hq = l.hq := by
  obtain ⟨_, _, h, _⟩ := Lane.present_form l m
  rw [h]
@[simp] theorem Lane.present_tt (l : Lane) (m : Msg) : (l.present m).tt = l.tt := by
  obtain ⟨_, _, h, _⟩ := Lane.present_form l m
  rw [h]
@[simp] theorem Lane.present_cn (l : Lane) (m : Msg) : (l.present m).cn = l.cn := by
  obtain ⟨_, _, h, _⟩ := Lane.present_form l m
  rw [h]
@[simp] theorem Lane.present_ao (l : Lane) (m : Msg) : (l.present m).ao = l.ao := by
  obtain ⟨_, _, h, _⟩ := Lane.present_form l m
  rw [h]
@[simp] theorem Lane.present_pm (l : Lane) (m : Msg) : (l.present m).pm = l.pm := by
  obtain ⟨_, _, h, _⟩ := Lane.present_form l m
  rw [h]
@[simp] theorem Lane.present_pw (l : Lane) (m : Msg) : (l.present m).pw = l.pw := by
  obtain ⟨_, _, h, _⟩ := Lane.present_form l m
  rw [h]
@[simp] theorem Lane.present_st (l : Lane) (m : Msg) : (l.present m).st = l.st := by
  obtain ⟨_, _, h, _⟩ := Lane.present_form l m
  rw [h]
@[simp] theorem Lane.present_lc (l : Lane) (m : Msg) : (l.present m).lc = l.lc := by
  obtain ⟨_, _, h, _⟩ := Lane.present_form l m
  rw [h]
@[simp] theorem Lane.present_im (l : Lane) (m : Msg) : (l.present m).im = l.im := by
  obtain ⟨_, _, h, _⟩ := Lane.present_form l m
  rw [h]
@[simp] theorem Lane.present_saf (l : Lane) (m : Msg) : (l.present m).saf = l.saf := by
  obtain ⟨_, _, h, _⟩ := Lane.present_form l m
  rw [h]
@[simp] theorem Lane.present_trip (l : Lane) (m : Msg) : (l.present m).trip = l.trip := by
  obtain ⟨_, _, h, _⟩ := Lane.present_form l m
  rw [h]
@[simp] theorem Lane.present_dl (l : Lane) (m : Msg) : (l.present m).dl = l.dl := by
  obtain ⟨_, _, h, _⟩ := Lane.present_form l m
  rw [h]
@[simp] theorem Lane.present_mon (l : Lane) (m : Msg) : (l.present m).mon = l.mon := by
  obtain ⟨_, _, h, _⟩ := Lane.present_form l m
  rw [h]
@[simp] theorem Lane.present_sf (l : Lane) (m : Msg) : (l.present m).sf = l.sf := by
  obtain ⟨_, _, h, _⟩ := Lane.present_form l m
  rw [h]
@[simp] theorem Lane.present_ax0 (l : Lane) (m : Msg) : (l.present m).ax0 = l.ax0 := by
  obtain ⟨_, _, h, _⟩ := Lane.present_form l m
  rw [h]
@[simp] theorem Lane.present_ax1 (l : Lane) (m : Msg) : (l.present m).ax1 = l.ax1 := by
  obtain ⟨_, _, h, _⟩ := Lane.present_form l m
  rw [h]
@[simp] theorem Lane.present_ax (l : Lane) (m : Msg) (y : Ax) : (l.present m).ax y = l.ax y := by
  obtain ⟨_, _, h, _⟩ := Lane.present_form l m
  rw [h]
  cases y <;> rfl

@[simp] theorem Lane.raise_me (l : Lane) (src kind cls : Nat) (x : Option Ax) (d : Nat) : (l.raise src kind cls x d).me = l.me := by
  obtain ⟨_, _, h, _⟩ := Lane.raise_form l src kind cls x d
  rw [h]
@[simp] theorem Lane.raise_part (l : Lane) (src kind cls : Nat) (x : Option Ax) (d : Nat) : (l.raise src kind cls x d).part = l.part := by
  obtain ⟨_, _, h, _⟩ := Lane.raise_form l src kind cls x d
  rw [h]
@[simp] theorem Lane.raise_now (l : Lane) (src kind cls : Nat) (x : Option Ax) (d : Nat) : (l.raise src kind cls x d).now = l.now := by
  obtain ⟨_, _, h, _⟩ := Lane.raise_form l src kind cls x d
  rw [h]
@[simp] theorem Lane.raise_mem (l : Lane) (src kind cls : Nat) (x : Option Ax) (d : Nat) : (l.raise src kind cls x d).mem = l.mem := by
  obtain ⟨_, _, h, _⟩ := Lane.raise_form l src kind cls x d
  rw [h]
@[simp] theorem Lane.raise_tcmGen (l : Lane) (src kind cls : Nat) (x : Option Ax) (d : Nat) : (l.raise src kind cls x d).tcmGen = l.tcmGen := by
  obtain ⟨_, _, h, _⟩ := Lane.raise_form l src kind cls x d
  rw [h]
@[simp] theorem Lane.raise_fresh (l : Lane) (src kind cls : Nat) (x : Option Ax) (d : Nat) : (l.raise src kind cls x d).fresh = l.fresh := by
  obtain ⟨_, _, h, _⟩ := Lane.raise_form l src kind cls x d
  rw [h]
@[simp] theorem Lane.raise_rdata (l : Lane) (src kind cls : Nat) (x : Option Ax) (d : Nat) : (l.raise src kind cls x d).rdata = l.rdata := by
  obtain ⟨_, _, h, _⟩ := Lane.raise_form l src kind cls x d
  rw [h]
@[simp] theorem Lane.raise_busErr (l : Lane) (src kind cls : Nat) (x : Option Ax) (d : Nat) : (l.raise src kind cls x d).busErr = l.busErr := by
  obtain ⟨_, _, h, _⟩ := Lane.raise_form l src kind cls x d
  rw [h]
@[simp] theorem Lane.raise_out (l : Lane) (src kind cls : Nat) (x : Option Ax) (d : Nat) : (l.raise src kind cls x d).out = l.out := by
  obtain ⟨_, _, h, _⟩ := Lane.raise_form l src kind cls x d
  rw [h]
@[simp] theorem Lane.raise_sy (l : Lane) (src kind cls : Nat) (x : Option Ax) (d : Nat) : (l.raise src kind cls x d).sy = l.sy := by
  obtain ⟨_, _, h, _⟩ := Lane.raise_form l src kind cls x d
  rw [h]
@[simp] theorem Lane.raise_pc (l : Lane) (src kind cls : Nat) (x : Option Ax) (d : Nat) : (l.raise src kind cls x d).pc = l.pc := by
  obtain ⟨_, _, h, _⟩ := Lane.raise_form l src kind cls x d
  rw [h]
@[simp] theorem Lane.raise_gl (l : Lane) (src kind cls : Nat) (x : Option Ax) (d : Nat) : (l.raise src kind cls x d).gl = l.gl := by
  obtain ⟨_, _, h, _⟩ := Lane.raise_form l src kind cls x d
  rw [h]
@[simp] theorem Lane.raise_sc (l : Lane) (src kind cls : Nat) (x : Option Ax) (d : Nat) : (l.raise src kind cls x d).sc = l.sc := by
  obtain ⟨_, _, h, _⟩ := Lane.raise_form l src kind cls x d
  rw [h]
@[simp] theorem Lane.raise_hq (l : Lane) (src kind cls : Nat) (x : Option Ax) (d : Nat) : (l.raise src kind cls x d).hq = l.hq := by
  obtain ⟨_, _, h, _⟩ := Lane.raise_form l src kind cls x d
  rw [h]
@[simp] theorem Lane.raise_tt (l : Lane) (src kind cls : Nat) (x : Option Ax) (d : Nat) : (l.raise src kind cls x d).tt = l.tt := by
  obtain ⟨_, _, h, _⟩ := Lane.raise_form l src kind cls x d
  rw [h]
@[simp] theorem Lane.raise_cn (l : Lane) (src kind cls : Nat) (x : Option Ax) (d : Nat) : (l.raise src kind cls x d).cn = l.cn := by
  obtain ⟨_, _, h, _⟩ := Lane.raise_form l src kind cls x d
  rw [h]
@[simp] theorem Lane.raise_ao (l : Lane) (src kind cls : Nat) (x : Option Ax) (d : Nat) : (l.raise src kind cls x d).ao = l.ao := by
  obtain ⟨_, _, h, _⟩ := Lane.raise_form l src kind cls x d
  rw [h]
@[simp] theorem Lane.raise_pm (l : Lane) (src kind cls : Nat) (x : Option Ax) (d : Nat) : (l.raise src kind cls x d).pm = l.pm := by
  obtain ⟨_, _, h, _⟩ := Lane.raise_form l src kind cls x d
  rw [h]
@[simp] theorem Lane.raise_pw (l : Lane) (src kind cls : Nat) (x : Option Ax) (d : Nat) : (l.raise src kind cls x d).pw = l.pw := by
  obtain ⟨_, _, h, _⟩ := Lane.raise_form l src kind cls x d
  rw [h]
@[simp] theorem Lane.raise_st (l : Lane) (src kind cls : Nat) (x : Option Ax) (d : Nat) : (l.raise src kind cls x d).st = l.st := by
  obtain ⟨_, _, h, _⟩ := Lane.raise_form l src kind cls x d
  rw [h]
@[simp] theorem Lane.raise_lc (l : Lane) (src kind cls : Nat) (x : Option Ax) (d : Nat) : (l.raise src kind cls x d).lc = l.lc := by
  obtain ⟨_, _, h, _⟩ := Lane.raise_form l src kind cls x d
  rw [h]
@[simp] theorem Lane.raise_im (l : Lane) (src kind cls : Nat) (x : Option Ax) (d : Nat) : (l.raise src kind cls x d).im = l.im := by
  obtain ⟨_, _, h, _⟩ := Lane.raise_form l src kind cls x d
  rw [h]
@[simp] theorem Lane.raise_saf (l : Lane) (src kind cls : Nat) (x : Option Ax) (d : Nat) : (l.raise src kind cls x d).saf = l.saf := by
  obtain ⟨_, _, h, _⟩ := Lane.raise_form l src kind cls x d
  rw [h]
@[simp] theorem Lane.raise_trip (l : Lane) (src kind cls : Nat) (x : Option Ax) (d : Nat) : (l.raise src kind cls x d).trip = l.trip := by
  obtain ⟨_, _, h, _⟩ := Lane.raise_form l src kind cls x d
  rw [h]
@[simp] theorem Lane.raise_dl (l : Lane) (src kind cls : Nat) (x : Option Ax) (d : Nat) : (l.raise src kind cls x d).dl = l.dl := by
  obtain ⟨_, _, h, _⟩ := Lane.raise_form l src kind cls x d
  rw [h]
@[simp] theorem Lane.raise_mon (l : Lane) (src kind cls : Nat) (x : Option Ax) (d : Nat) : (l.raise src kind cls x d).mon = l.mon := by
  obtain ⟨_, _, h, _⟩ := Lane.raise_form l src kind cls x d
  rw [h]
@[simp] theorem Lane.raise_sf (l : Lane) (src kind cls : Nat) (x : Option Ax) (d : Nat) : (l.raise src kind cls x d).sf = l.sf := by
  obtain ⟨_, _, h, _⟩ := Lane.raise_form l src kind cls x d
  rw [h]
@[simp] theorem Lane.raise_ax0 (l : Lane) (src kind cls : Nat) (x : Option Ax) (d : Nat) : (l.raise src kind cls x d).ax0 = l.ax0 := by
  obtain ⟨_, _, h, _⟩ := Lane.raise_form l src kind cls x d
  rw [h]
@[simp] theorem Lane.raise_ax1 (l : Lane) (src kind cls : Nat) (x : Option Ax) (d : Nat) : (l.raise src kind cls x d).ax1 = l.ax1 := by
  obtain ⟨_, _, h, _⟩ := Lane.raise_form l src kind cls x d
  rw [h]
@[simp] theorem Lane.raise_ax (l : Lane) (src kind cls : Nat) (x : Option Ax) (d : Nat) (y : Ax) : (l.raise src kind cls x d).ax y = l.ax y := by
  obtain ⟨_, _, h, _⟩ := Lane.raise_form l src kind cls x d
  rw [h]
  cases y <;> rfl

@[simp] theorem Lane.raiseOnce_me (l : Lane) (src kind cls : Nat) (x : Option Ax) (d : Nat) : (l.raiseOnce src kind cls x d).me = l.me := by
  obtain ⟨_, _, h, _⟩ := Lane.raiseOnce_form l src kind cls x d
  rw [h]
@[simp] theorem Lane.raiseOnce_part (l : Lane) (src kind cls : Nat) (x : Option Ax) (d : Nat) : (l.raiseOnce src kind cls x d).part = l.part := by
  obtain ⟨_, _, h, _⟩ := Lane.raiseOnce_form l src kind cls x d
  rw [h]
@[simp] theorem Lane.raiseOnce_now (l : Lane) (src kind cls : Nat) (x : Option Ax) (d : Nat) : (l.raiseOnce src kind cls x d).now = l.now := by
  obtain ⟨_, _, h, _⟩ := Lane.raiseOnce_form l src kind cls x d
  rw [h]
@[simp] theorem Lane.raiseOnce_mem (l : Lane) (src kind cls : Nat) (x : Option Ax) (d : Nat) : (l.raiseOnce src kind cls x d).mem = l.mem := by
  obtain ⟨_, _, h, _⟩ := Lane.raiseOnce_form l src kind cls x d
  rw [h]
@[simp] theorem Lane.raiseOnce_tcmGen (l : Lane) (src kind cls : Nat) (x : Option Ax) (d : Nat) : (l.raiseOnce src kind cls x d).tcmGen = l.tcmGen := by
  obtain ⟨_, _, h, _⟩ := Lane.raiseOnce_form l src kind cls x d
  rw [h]
@[simp] theorem Lane.raiseOnce_fresh (l : Lane) (src kind cls : Nat) (x : Option Ax) (d : Nat) : (l.raiseOnce src kind cls x d).fresh = l.fresh := by
  obtain ⟨_, _, h, _⟩ := Lane.raiseOnce_form l src kind cls x d
  rw [h]
@[simp] theorem Lane.raiseOnce_rdata (l : Lane) (src kind cls : Nat) (x : Option Ax) (d : Nat) : (l.raiseOnce src kind cls x d).rdata = l.rdata := by
  obtain ⟨_, _, h, _⟩ := Lane.raiseOnce_form l src kind cls x d
  rw [h]
@[simp] theorem Lane.raiseOnce_busErr (l : Lane) (src kind cls : Nat) (x : Option Ax) (d : Nat) : (l.raiseOnce src kind cls x d).busErr = l.busErr := by
  obtain ⟨_, _, h, _⟩ := Lane.raiseOnce_form l src kind cls x d
  rw [h]
@[simp] theorem Lane.raiseOnce_out (l : Lane) (src kind cls : Nat) (x : Option Ax) (d : Nat) : (l.raiseOnce src kind cls x d).out = l.out := by
  obtain ⟨_, _, h, _⟩ := Lane.raiseOnce_form l src kind cls x d
  rw [h]
@[simp] theorem Lane.raiseOnce_sy (l : Lane) (src kind cls : Nat) (x : Option Ax) (d : Nat) : (l.raiseOnce src kind cls x d).sy = l.sy := by
  obtain ⟨_, _, h, _⟩ := Lane.raiseOnce_form l src kind cls x d
  rw [h]
@[simp] theorem Lane.raiseOnce_pc (l : Lane) (src kind cls : Nat) (x : Option Ax) (d : Nat) : (l.raiseOnce src kind cls x d).pc = l.pc := by
  obtain ⟨_, _, h, _⟩ := Lane.raiseOnce_form l src kind cls x d
  rw [h]
@[simp] theorem Lane.raiseOnce_gl (l : Lane) (src kind cls : Nat) (x : Option Ax) (d : Nat) : (l.raiseOnce src kind cls x d).gl = l.gl := by
  obtain ⟨_, _, h, _⟩ := Lane.raiseOnce_form l src kind cls x d
  rw [h]
@[simp] theorem Lane.raiseOnce_sc (l : Lane) (src kind cls : Nat) (x : Option Ax) (d : Nat) : (l.raiseOnce src kind cls x d).sc = l.sc := by
  obtain ⟨_, _, h, _⟩ := Lane.raiseOnce_form l src kind cls x d
  rw [h]
@[simp] theorem Lane.raiseOnce_hq (l : Lane) (src kind cls : Nat) (x : Option Ax) (d : Nat) : (l.raiseOnce src kind cls x d).hq = l.hq := by
  obtain ⟨_, _, h, _⟩ := Lane.raiseOnce_form l src kind cls x d
  rw [h]
@[simp] theorem Lane.raiseOnce_tt (l : Lane) (src kind cls : Nat) (x : Option Ax) (d : Nat) : (l.raiseOnce src kind cls x d).tt = l.tt := by
  obtain ⟨_, _, h, _⟩ := Lane.raiseOnce_form l src kind cls x d
  rw [h]
@[simp] theorem Lane.raiseOnce_cn (l : Lane) (src kind cls : Nat) (x : Option Ax) (d : Nat) : (l.raiseOnce src kind cls x d).cn = l.cn := by
  obtain ⟨_, _, h, _⟩ := Lane.raiseOnce_form l src kind cls x d
  rw [h]
@[simp] theorem Lane.raiseOnce_ao (l : Lane) (src kind cls : Nat) (x : Option Ax) (d : Nat) : (l.raiseOnce src kind cls x d).ao = l.ao := by
  obtain ⟨_, _, h, _⟩ := Lane.raiseOnce_form l src kind cls x d
  rw [h]
@[simp] theorem Lane.raiseOnce_pm (l : Lane) (src kind cls : Nat) (x : Option Ax) (d : Nat) : (l.raiseOnce src kind cls x d).pm = l.pm := by
  obtain ⟨_, _, h, _⟩ := Lane.raiseOnce_form l src kind cls x d
  rw [h]
@[simp] theorem Lane.raiseOnce_pw (l : Lane) (src kind cls : Nat) (x : Option Ax) (d : Nat) : (l.raiseOnce src kind cls x d).pw = l.pw := by
  obtain ⟨_, _, h, _⟩ := Lane.raiseOnce_form l src kind cls x d
  rw [h]
@[simp] theorem Lane.raiseOnce_st (l : Lane) (src kind cls : Nat) (x : Option Ax) (d : Nat) : (l.raiseOnce src kind cls x d).st = l.st := by
  obtain ⟨_, _, h, _⟩ := Lane.raiseOnce_form l src kind cls x d
  rw [h]
@[simp] theorem Lane.raiseOnce_lc (l : Lane) (src kind cls : Nat) (x : Option Ax) (d : Nat) : (l.raiseOnce src kind cls x d).lc = l.lc := by
  obtain ⟨_, _, h, _⟩ := Lane.raiseOnce_form l src kind cls x d
  rw [h]
@[simp] theorem Lane.raiseOnce_im (l : Lane) (src kind cls : Nat) (x : Option Ax) (d : Nat) : (l.raiseOnce src kind cls x d).im = l.im := by
  obtain ⟨_, _, h, _⟩ := Lane.raiseOnce_form l src kind cls x d
  rw [h]
@[simp] theorem Lane.raiseOnce_saf (l : Lane) (src kind cls : Nat) (x : Option Ax) (d : Nat) : (l.raiseOnce src kind cls x d).saf = l.saf := by
  obtain ⟨_, _, h, _⟩ := Lane.raiseOnce_form l src kind cls x d
  rw [h]
@[simp] theorem Lane.raiseOnce_trip (l : Lane) (src kind cls : Nat) (x : Option Ax) (d : Nat) : (l.raiseOnce src kind cls x d).trip = l.trip := by
  obtain ⟨_, _, h, _⟩ := Lane.raiseOnce_form l src kind cls x d
  rw [h]
@[simp] theorem Lane.raiseOnce_dl (l : Lane) (src kind cls : Nat) (x : Option Ax) (d : Nat) : (l.raiseOnce src kind cls x d).dl = l.dl := by
  obtain ⟨_, _, h, _⟩ := Lane.raiseOnce_form l src kind cls x d
  rw [h]
@[simp] theorem Lane.raiseOnce_mon (l : Lane) (src kind cls : Nat) (x : Option Ax) (d : Nat) : (l.raiseOnce src kind cls x d).mon = l.mon := by
  obtain ⟨_, _, h, _⟩ := Lane.raiseOnce_form l src kind cls x d
  rw [h]
@[simp] theorem Lane.raiseOnce_sf (l : Lane) (src kind cls : Nat) (x : Option Ax) (d : Nat) : (l.raiseOnce src kind cls x d).sf = l.sf := by
  obtain ⟨_, _, h, _⟩ := Lane.raiseOnce_form l src kind cls x d
  rw [h]
@[simp] theorem Lane.raiseOnce_ax0 (l : Lane) (src kind cls : Nat) (x : Option Ax) (d : Nat) : (l.raiseOnce src kind cls x d).ax0 = l.ax0 := by
  obtain ⟨_, _, h, _⟩ := Lane.raiseOnce_form l src kind cls x d
  rw [h]
@[simp] theorem Lane.raiseOnce_ax1 (l : Lane) (src kind cls : Nat) (x : Option Ax) (d : Nat) : (l.raiseOnce src kind cls x d).ax1 = l.ax1 := by
  obtain ⟨_, _, h, _⟩ := Lane.raiseOnce_form l src kind cls x d
  rw [h]
@[simp] theorem Lane.raiseOnce_ax (l : Lane) (src kind cls : Nat) (x : Option Ax) (d : Nat) (y : Ax) : (l.raiseOnce src kind cls x d).ax y = l.ax y := by
  obtain ⟨_, _, h, _⟩ := Lane.raiseOnce_form l src kind cls x d
  rw [h]
  cases y <;> rfl

@[simp] theorem Lane.arise_me (l : Lane) (k : ItemKind) (src flow prio : Nat) : (l.arise k src flow prio).me = l.me := by
  obtain ⟨_, h⟩ := Lane.arise_form l k src flow prio
  rw [h]
@[simp] theorem Lane.arise_part (l : Lane) (k : ItemKind) (src flow prio : Nat) : (l.arise k src flow prio).part = l.part := by
  obtain ⟨_, h⟩ := Lane.arise_form l k src flow prio
  rw [h]
@[simp] theorem Lane.arise_now (l : Lane) (k : ItemKind) (src flow prio : Nat) : (l.arise k src flow prio).now = l.now := by
  obtain ⟨_, h⟩ := Lane.arise_form l k src flow prio
  rw [h]
@[simp] theorem Lane.arise_regs (l : Lane) (k : ItemKind) (src flow prio : Nat) : (l.arise k src flow prio).regs = l.regs := by
  obtain ⟨_, h⟩ := Lane.arise_form l k src flow prio
  rw [h]
@[simp] theorem Lane.arise_mem (l : Lane) (k : ItemKind) (src flow prio : Nat) : (l.arise k src flow prio).mem = l.mem := by
  obtain ⟨_, h⟩ := Lane.arise_form l k src flow prio
  rw [h]
@[simp] theorem Lane.arise_tcmGen (l : Lane) (k : ItemKind) (src flow prio : Nat) : (l.arise k src flow prio).tcmGen = l.tcmGen := by
  obtain ⟨_, h⟩ := Lane.arise_form l k src flow prio
  rw [h]
@[simp] theorem Lane.arise_fresh (l : Lane) (k : ItemKind) (src flow prio : Nat) : (l.arise k src flow prio).fresh = l.fresh := by
  obtain ⟨_, h⟩ := Lane.arise_form l k src flow prio
  rw [h]
@[simp] theorem Lane.arise_rdata (l : Lane) (k : ItemKind) (src flow prio : Nat) : (l.arise k src flow prio).rdata = l.rdata := by
  obtain ⟨_, h⟩ := Lane.arise_form l k src flow prio
  rw [h]
@[simp] theorem Lane.arise_busErr (l : Lane) (k : ItemKind) (src flow prio : Nat) : (l.arise k src flow prio).busErr = l.busErr := by
  obtain ⟨_, h⟩ := Lane.arise_form l k src flow prio
  rw [h]
@[simp] theorem Lane.arise_out (l : Lane) (k : ItemKind) (src flow prio : Nat) : (l.arise k src flow prio).out = l.out := by
  obtain ⟨_, h⟩ := Lane.arise_form l k src flow prio
  rw [h]
@[simp] theorem Lane.arise_sy (l : Lane) (k : ItemKind) (src flow prio : Nat) : (l.arise k src flow prio).sy = l.sy := by
  obtain ⟨_, h⟩ := Lane.arise_form l k src flow prio
  rw [h]
@[simp] theorem Lane.arise_pc (l : Lane) (k : ItemKind) (src flow prio : Nat) : (l.arise k src flow prio).pc = l.pc := by
  obtain ⟨_, h⟩ := Lane.arise_form l k src flow prio
  rw [h]
@[simp] theorem Lane.arise_gl (l : Lane) (k : ItemKind) (src flow prio : Nat) : (l.arise k src flow prio).gl = l.gl := by
  obtain ⟨_, h⟩ := Lane.arise_form l k src flow prio
  rw [h]
@[simp] theorem Lane.arise_fc (l : Lane) (k : ItemKind) (src flow prio : Nat) : (l.arise k src flow prio).fc = l.fc := by
  obtain ⟨_, h⟩ := Lane.arise_form l k src flow prio
  rw [h]
@[simp] theorem Lane.arise_hq (l : Lane) (k : ItemKind) (src flow prio : Nat) : (l.arise k src flow prio).hq = l.hq := by
  obtain ⟨_, h⟩ := Lane.arise_form l k src flow prio
  rw [h]
@[simp] theorem Lane.arise_tt (l : Lane) (k : ItemKind) (src flow prio : Nat) : (l.arise k src flow prio).tt = l.tt := by
  obtain ⟨_, h⟩ := Lane.arise_form l k src flow prio
  rw [h]
@[simp] theorem Lane.arise_cn (l : Lane) (k : ItemKind) (src flow prio : Nat) : (l.arise k src flow prio).cn = l.cn := by
  obtain ⟨_, h⟩ := Lane.arise_form l k src flow prio
  rw [h]
@[simp] theorem Lane.arise_ao (l : Lane) (k : ItemKind) (src flow prio : Nat) : (l.arise k src flow prio).ao = l.ao := by
  obtain ⟨_, h⟩ := Lane.arise_form l k src flow prio
  rw [h]
@[simp] theorem Lane.arise_pm (l : Lane) (k : ItemKind) (src flow prio : Nat) : (l.arise k src flow prio).pm = l.pm := by
  obtain ⟨_, h⟩ := Lane.arise_form l k src flow prio
  rw [h]
@[simp] theorem Lane.arise_pw (l : Lane) (k : ItemKind) (src flow prio : Nat) : (l.arise k src flow prio).pw = l.pw := by
  obtain ⟨_, h⟩ := Lane.arise_form l k src flow prio
  rw [h]
@[simp] theorem Lane.arise_st (l : Lane) (k : ItemKind) (src flow prio : Nat) : (l.arise k src flow prio).st = l.st := by
  obtain ⟨_, h⟩ := Lane.arise_form l k src flow prio
  rw [h]
@[simp] theorem Lane.arise_lc (l : Lane) (k : ItemKind) (src flow prio : Nat) : (l.arise k src flow prio).lc = l.lc := by
  obtain ⟨_, h⟩ := Lane.arise_form l k src flow prio
  rw [h]
@[simp] theorem Lane.arise_im (l : Lane) (k : ItemKind) (src flow prio : Nat) : (l.arise k src flow prio).im = l.im := by
  obtain ⟨_, h⟩ := Lane.arise_form l k src flow prio
  rw [h]
@[simp] theorem Lane.arise_saf (l : Lane) (k : ItemKind) (src flow prio : Nat) : (l.arise k src flow prio).saf = l.saf := by
  obtain ⟨_, h⟩ := Lane.arise_form l k src flow prio
  rw [h]
@[simp] theorem Lane.arise_trip (l : Lane) (k : ItemKind) (src flow prio : Nat) : (l.arise k src flow prio).trip = l.trip := by
  obtain ⟨_, h⟩ := Lane.arise_form l k src flow prio
  rw [h]
@[simp] theorem Lane.arise_dl (l : Lane) (k : ItemKind) (src flow prio : Nat) : (l.arise k src flow prio).dl = l.dl := by
  obtain ⟨_, h⟩ := Lane.arise_form l k src flow prio
  rw [h]
@[simp] theorem Lane.arise_mon (l : Lane) (k : ItemKind) (src flow prio : Nat) : (l.arise k src flow prio).mon = l.mon := by
  obtain ⟨_, h⟩ := Lane.arise_form l k src flow prio
  rw [h]
@[simp] theorem Lane.arise_sf (l : Lane) (k : ItemKind) (src flow prio : Nat) : (l.arise k src flow prio).sf = l.sf := by
  obtain ⟨_, h⟩ := Lane.arise_form l k src flow prio
  rw [h]
@[simp] theorem Lane.arise_ax0 (l : Lane) (k : ItemKind) (src flow prio : Nat) : (l.arise k src flow prio).ax0 = l.ax0 := by
  obtain ⟨_, h⟩ := Lane.arise_form l k src flow prio
  rw [h]
@[simp] theorem Lane.arise_ax1 (l : Lane) (k : ItemKind) (src flow prio : Nat) : (l.arise k src flow prio).ax1 = l.ax1 := by
  obtain ⟨_, h⟩ := Lane.arise_form l k src flow prio
  rw [h]
@[simp] theorem Lane.arise_ax (l : Lane) (k : ItemKind) (src flow prio : Nat) (y : Ax) : (l.arise k src flow prio).ax y = l.ax y := by
  obtain ⟨_, h⟩ := Lane.arise_form l k src flow prio
  rw [h]
  cases y <;> rfl

@[simp] theorem Lane.event_me (l : Lane) (n : Nat) : (l.event n).me = l.me := by
  obtain ⟨_, _, h, _⟩ := Lane.event_form l n
  rw [h]
@[simp] theorem Lane.event_part (l : Lane) (n : Nat) : (l.event n).part = l.part := by
  obtain ⟨_, _, h, _⟩ := Lane.event_form l n
  rw [h]
@[simp] theorem Lane.event_now (l : Lane) (n : Nat) : (l.event n).now = l.now := by
  obtain ⟨_, _, h, _⟩ := Lane.event_form l n
  rw [h]
@[simp] theorem Lane.event_mem (l : Lane) (n : Nat) : (l.event n).mem = l.mem := by
  obtain ⟨_, _, h, _⟩ := Lane.event_form l n
  rw [h]
@[simp] theorem Lane.event_tcmGen (l : Lane) (n : Nat) : (l.event n).tcmGen = l.tcmGen := by
  obtain ⟨_, _, h, _⟩ := Lane.event_form l n
  rw [h]
@[simp] theorem Lane.event_fresh (l : Lane) (n : Nat) : (l.event n).fresh = l.fresh := by
  obtain ⟨_, _, h, _⟩ := Lane.event_form l n
  rw [h]
@[simp] theorem Lane.event_rdata (l : Lane) (n : Nat) : (l.event n).rdata = l.rdata := by
  obtain ⟨_, _, h, _⟩ := Lane.event_form l n
  rw [h]
@[simp] theorem Lane.event_busErr (l : Lane) (n : Nat) : (l.event n).busErr = l.busErr := by
  obtain ⟨_, _, h, _⟩ := Lane.event_form l n
  rw [h]
@[simp] theorem Lane.event_out (l : Lane) (n : Nat) : (l.event n).out = l.out := by
  obtain ⟨_, _, h, _⟩ := Lane.event_form l n
  rw [h]
@[simp] theorem Lane.event_sy (l : Lane) (n : Nat) : (l.event n).sy = l.sy := by
  obtain ⟨_, _, h, _⟩ := Lane.event_form l n
  rw [h]
@[simp] theorem Lane.event_pc (l : Lane) (n : Nat) : (l.event n).pc = l.pc := by
  obtain ⟨_, _, h, _⟩ := Lane.event_form l n
  rw [h]
@[simp] theorem Lane.event_gl (l : Lane) (n : Nat) : (l.event n).gl = l.gl := by
  obtain ⟨_, _, h, _⟩ := Lane.event_form l n
  rw [h]
@[simp] theorem Lane.event_fc (l : Lane) (n : Nat) : (l.event n).fc = l.fc := by
  obtain ⟨_, _, h, _⟩ := Lane.event_form l n
  rw [h]
@[simp] theorem Lane.event_hq (l : Lane) (n : Nat) : (l.event n).hq = l.hq := by
  obtain ⟨_, _, h, _⟩ := Lane.event_form l n
  rw [h]
@[simp] theorem Lane.event_tt (l : Lane) (n : Nat) : (l.event n).tt = l.tt := by
  obtain ⟨_, _, h, _⟩ := Lane.event_form l n
  rw [h]
@[simp] theorem Lane.event_cn (l : Lane) (n : Nat) : (l.event n).cn = l.cn := by
  obtain ⟨_, _, h, _⟩ := Lane.event_form l n
  rw [h]
@[simp] theorem Lane.event_ao (l : Lane) (n : Nat) : (l.event n).ao = l.ao := by
  obtain ⟨_, _, h, _⟩ := Lane.event_form l n
  rw [h]
@[simp] theorem Lane.event_pm (l : Lane) (n : Nat) : (l.event n).pm = l.pm := by
  obtain ⟨_, _, h, _⟩ := Lane.event_form l n
  rw [h]
@[simp] theorem Lane.event_pw (l : Lane) (n : Nat) : (l.event n).pw = l.pw := by
  obtain ⟨_, _, h, _⟩ := Lane.event_form l n
  rw [h]
@[simp] theorem Lane.event_st (l : Lane) (n : Nat) : (l.event n).st = l.st := by
  obtain ⟨_, _, h, _⟩ := Lane.event_form l n
  rw [h]
@[simp] theorem Lane.event_lc (l : Lane) (n : Nat) : (l.event n).lc = l.lc := by
  obtain ⟨_, _, h, _⟩ := Lane.event_form l n
  rw [h]
@[simp] theorem Lane.event_im (l : Lane) (n : Nat) : (l.event n).im = l.im := by
  obtain ⟨_, _, h, _⟩ := Lane.event_form l n
  rw [h]
@[simp] theorem Lane.event_saf (l : Lane) (n : Nat) : (l.event n).saf = l.saf := by
  obtain ⟨_, _, h, _⟩ := Lane.event_form l n
  rw [h]
@[simp] theorem Lane.event_trip (l : Lane) (n : Nat) : (l.event n).trip = l.trip := by
  obtain ⟨_, _, h, _⟩ := Lane.event_form l n
  rw [h]
@[simp] theorem Lane.event_dl (l : Lane) (n : Nat) : (l.event n).dl = l.dl := by
  obtain ⟨_, _, h, _⟩ := Lane.event_form l n
  rw [h]
@[simp] theorem Lane.event_mon (l : Lane) (n : Nat) : (l.event n).mon = l.mon := by
  obtain ⟨_, _, h, _⟩ := Lane.event_form l n
  rw [h]
@[simp] theorem Lane.event_sf (l : Lane) (n : Nat) : (l.event n).sf = l.sf := by
  obtain ⟨_, _, h, _⟩ := Lane.event_form l n
  rw [h]
@[simp] theorem Lane.event_ax0 (l : Lane) (n : Nat) : (l.event n).ax0 = l.ax0 := by
  obtain ⟨_, _, h, _⟩ := Lane.event_form l n
  rw [h]
@[simp] theorem Lane.event_ax1 (l : Lane) (n : Nat) : (l.event n).ax1 = l.ax1 := by
  obtain ⟨_, _, h, _⟩ := Lane.event_form l n
  rw [h]
@[simp] theorem Lane.event_ax (l : Lane) (n : Nat) (y : Ax) : (l.event n).ax y = l.ax y := by
  obtain ⟨_, _, h, _⟩ := Lane.event_form l n
  rw [h]
  cases y <;> rfl

/-! ### Memory and outputs -/

@[simp] theorem Lane.setByte_me (l : Lane) (a : Nat) (v : Byte) : (l.setByte a v).me = l.me := rfl
@[simp] theorem Lane.setByte_part (l : Lane) (a : Nat) (v : Byte) : (l.setByte a v).part = l.part := rfl
@[simp] theorem Lane.setByte_now (l : Lane) (a : Nat) (v : Byte) : (l.setByte a v).now = l.now := rfl
@[simp] theorem Lane.setByte_regs (l : Lane) (a : Nat) (v : Byte) : (l.setByte a v).regs = l.regs := rfl
@[simp] theorem Lane.setByte_tcmGen (l : Lane) (a : Nat) (v : Byte) : (l.setByte a v).tcmGen = l.tcmGen := rfl
@[simp] theorem Lane.setByte_fresh (l : Lane) (a : Nat) (v : Byte) : (l.setByte a v).fresh = l.fresh := rfl
@[simp] theorem Lane.setByte_rdata (l : Lane) (a : Nat) (v : Byte) : (l.setByte a v).rdata = l.rdata := rfl
@[simp] theorem Lane.setByte_busErr (l : Lane) (a : Nat) (v : Byte) : (l.setByte a v).busErr = l.busErr := rfl
@[simp] theorem Lane.setByte_out (l : Lane) (a : Nat) (v : Byte) : (l.setByte a v).out = l.out := rfl
@[simp] theorem Lane.setByte_sy (l : Lane) (a : Nat) (v : Byte) : (l.setByte a v).sy = l.sy := rfl
@[simp] theorem Lane.setByte_pc (l : Lane) (a : Nat) (v : Byte) : (l.setByte a v).pc = l.pc := rfl
@[simp] theorem Lane.setByte_gl (l : Lane) (a : Nat) (v : Byte) : (l.setByte a v).gl = l.gl := rfl
@[simp] theorem Lane.setByte_fc (l : Lane) (a : Nat) (v : Byte) : (l.setByte a v).fc = l.fc := rfl
@[simp] theorem Lane.setByte_sc (l : Lane) (a : Nat) (v : Byte) : (l.setByte a v).sc = l.sc := rfl
@[simp] theorem Lane.setByte_hq (l : Lane) (a : Nat) (v : Byte) : (l.setByte a v).hq = l.hq := rfl
@[simp] theorem Lane.setByte_tt (l : Lane) (a : Nat) (v : Byte) : (l.setByte a v).tt = l.tt := rfl
@[simp] theorem Lane.setByte_cn (l : Lane) (a : Nat) (v : Byte) : (l.setByte a v).cn = l.cn := rfl
@[simp] theorem Lane.setByte_ao (l : Lane) (a : Nat) (v : Byte) : (l.setByte a v).ao = l.ao := rfl
@[simp] theorem Lane.setByte_pm (l : Lane) (a : Nat) (v : Byte) : (l.setByte a v).pm = l.pm := rfl
@[simp] theorem Lane.setByte_pw (l : Lane) (a : Nat) (v : Byte) : (l.setByte a v).pw = l.pw := rfl
@[simp] theorem Lane.setByte_st (l : Lane) (a : Nat) (v : Byte) : (l.setByte a v).st = l.st := rfl
@[simp] theorem Lane.setByte_lc (l : Lane) (a : Nat) (v : Byte) : (l.setByte a v).lc = l.lc := rfl
@[simp] theorem Lane.setByte_im (l : Lane) (a : Nat) (v : Byte) : (l.setByte a v).im = l.im := rfl
@[simp] theorem Lane.setByte_saf (l : Lane) (a : Nat) (v : Byte) : (l.setByte a v).saf = l.saf := rfl
@[simp] theorem Lane.setByte_trip (l : Lane) (a : Nat) (v : Byte) : (l.setByte a v).trip = l.trip := rfl
@[simp] theorem Lane.setByte_dl (l : Lane) (a : Nat) (v : Byte) : (l.setByte a v).dl = l.dl := rfl
@[simp] theorem Lane.setByte_mon (l : Lane) (a : Nat) (v : Byte) : (l.setByte a v).mon = l.mon := rfl
@[simp] theorem Lane.setByte_sf (l : Lane) (a : Nat) (v : Byte) : (l.setByte a v).sf = l.sf := rfl
@[simp] theorem Lane.setByte_ax0 (l : Lane) (a : Nat) (v : Byte) : (l.setByte a v).ax0 = l.ax0 := rfl
@[simp] theorem Lane.setByte_ax1 (l : Lane) (a : Nat) (v : Byte) : (l.setByte a v).ax1 = l.ax1 := rfl
@[simp] theorem Lane.setByte_ax (l : Lane) (a : Nat) (v : Byte) (x : Ax) : (l.setByte a v).ax x = l.ax x := by cases x <;> rfl

theorem Lane.setBytes_form (l : Lane) (a : Nat) (v : List Byte) : ∃ m, l.setBytes a v = { l with mem := m } := by
  induction v generalizing l a with
  | nil => exact ⟨l.mem, rfl⟩
  | cons b r ih =>
    obtain ⟨m, h⟩ := ih (l.setByte a b) (a + 1)
    exact ⟨m, by rw [Lane.setBytes, h]; rfl⟩

@[simp] theorem Lane.setBytes_me (l : Lane) (a : Nat) (v : List Byte) : (l.setBytes a v).me = l.me := by
  obtain ⟨_, h⟩ := Lane.setBytes_form l a v
  rw [h]
@[simp] theorem Lane.setBytes_part (l : Lane) (a : Nat) (v : List Byte) : (l.setBytes a v).part = l.part := by
  obtain ⟨_, h⟩ := Lane.setBytes_form l a v
  rw [h]
@[simp] theorem Lane.setBytes_now (l : Lane) (a : Nat) (v : List Byte) : (l.setBytes a v).now = l.now := by
  obtain ⟨_, h⟩ := Lane.setBytes_form l a v
  rw [h]
@[simp] theorem Lane.setBytes_regs (l : Lane) (a : Nat) (v : List Byte) : (l.setBytes a v).regs = l.regs := by
  obtain ⟨_, h⟩ := Lane.setBytes_form l a v
  rw [h]
@[simp] theorem Lane.setBytes_tcmGen (l : Lane) (a : Nat) (v : List Byte) : (l.setBytes a v).tcmGen = l.tcmGen := by
  obtain ⟨_, h⟩ := Lane.setBytes_form l a v
  rw [h]
@[simp] theorem Lane.setBytes_fresh (l : Lane) (a : Nat) (v : List Byte) : (l.setBytes a v).fresh = l.fresh := by
  obtain ⟨_, h⟩ := Lane.setBytes_form l a v
  rw [h]
@[simp] theorem Lane.setBytes_rdata (l : Lane) (a : Nat) (v : List Byte) : (l.setBytes a v).rdata = l.rdata := by
  obtain ⟨_, h⟩ := Lane.setBytes_form l a v
  rw [h]
@[simp] theorem Lane.setBytes_busErr (l : Lane) (a : Nat) (v : List Byte) : (l.setBytes a v).busErr = l.busErr := by
  obtain ⟨_, h⟩ := Lane.setBytes_form l a v
  rw [h]
@[simp] theorem Lane.setBytes_out (l : Lane) (a : Nat) (v : List Byte) : (l.setBytes a v).out = l.out := by
  obtain ⟨_, h⟩ := Lane.setBytes_form l a v
  rw [h]
@[simp] theorem Lane.setBytes_sy (l : Lane) (a : Nat) (v : List Byte) : (l.setBytes a v).sy = l.sy := by
  obtain ⟨_, h⟩ := Lane.setBytes_form l a v
  rw [h]
@[simp] theorem Lane.setBytes_pc (l : Lane) (a : Nat) (v : List Byte) : (l.setBytes a v).pc = l.pc := by
  obtain ⟨_, h⟩ := Lane.setBytes_form l a v
  rw [h]
@[simp] theorem Lane.setBytes_gl (l : Lane) (a : Nat) (v : List Byte) : (l.setBytes a v).gl = l.gl := by
  obtain ⟨_, h⟩ := Lane.setBytes_form l a v
  rw [h]
@[simp] theorem Lane.setBytes_fc (l : Lane) (a : Nat) (v : List Byte) : (l.setBytes a v).fc = l.fc := by
  obtain ⟨_, h⟩ := Lane.setBytes_form l a v
  rw [h]
@[simp] theorem Lane.setBytes_sc (l : Lane) (a : Nat) (v : List Byte) : (l.setBytes a v).sc = l.sc := by
  obtain ⟨_, h⟩ := Lane.setBytes_form l a v
  rw [h]
@[simp] theorem Lane.setBytes_hq (l : Lane) (a : Nat) (v : List Byte) : (l.setBytes a v).hq = l.hq := by
  obtain ⟨_, h⟩ := Lane.setBytes_form l a v
  rw [h]
@[simp] theorem Lane.setBytes_tt (l : Lane) (a : Nat) (v : List Byte) : (l.setBytes a v).tt = l.tt := by
  obtain ⟨_, h⟩ := Lane.setBytes_form l a v
  rw [h]
@[simp] theorem Lane.setBytes_cn (l : Lane) (a : Nat) (v : List Byte) : (l.setBytes a v).cn = l.cn := by
  obtain ⟨_, h⟩ := Lane.setBytes_form l a v
  rw [h]
@[simp] theorem Lane.setBytes_ao (l : Lane) (a : Nat) (v : List Byte) : (l.setBytes a v).ao = l.ao := by
  obtain ⟨_, h⟩ := Lane.setBytes_form l a v
  rw [h]
@[simp] theorem Lane.setBytes_pm (l : Lane) (a : Nat) (v : List Byte) : (l.setBytes a v).pm = l.pm := by
  obtain ⟨_, h⟩ := Lane.setBytes_form l a v
  rw [h]
@[simp] theorem Lane.setBytes_pw (l : Lane) (a : Nat) (v : List Byte) : (l.setBytes a v).pw = l.pw := by
  obtain ⟨_, h⟩ := Lane.setBytes_form l a v
  rw [h]
@[simp] theorem Lane.setBytes_st (l : Lane) (a : Nat) (v : List Byte) : (l.setBytes a v).st = l.st := by
  obtain ⟨_, h⟩ := Lane.setBytes_form l a v
  rw [h]
@[simp] theorem Lane.setBytes_lc (l : Lane) (a : Nat) (v : List Byte) : (l.setBytes a v).lc = l.lc := by
  obtain ⟨_, h⟩ := Lane.setBytes_form l a v
  rw [h]
@[simp] theorem Lane.setBytes_im (l : Lane) (a : Nat) (v : List Byte) : (l.setBytes a v).im = l.im := by
  obtain ⟨_, h⟩ := Lane.setBytes_form l a v
  rw [h]
@[simp] theorem Lane.setBytes_saf (l : Lane) (a : Nat) (v : List Byte) : (l.setBytes a v).saf = l.saf := by
  obtain ⟨_, h⟩ := Lane.setBytes_form l a v
  rw [h]
@[simp] theorem Lane.setBytes_trip (l : Lane) (a : Nat) (v : List Byte) : (l.setBytes a v).trip = l.trip := by
  obtain ⟨_, h⟩ := Lane.setBytes_form l a v
  rw [h]
@[simp] theorem Lane.setBytes_dl (l : Lane) (a : Nat) (v : List Byte) : (l.setBytes a v).dl = l.dl := by
  obtain ⟨_, h⟩ := Lane.setBytes_form l a v
  rw [h]
@[simp] theorem Lane.setBytes_mon (l : Lane) (a : Nat) (v : List Byte) : (l.setBytes a v).mon = l.mon := by
  obtain ⟨_, h⟩ := Lane.setBytes_form l a v
  rw [h]
@[simp] theorem Lane.setBytes_sf (l : Lane) (a : Nat) (v : List Byte) : (l.setBytes a v).sf = l.sf := by
  obtain ⟨_, h⟩ := Lane.setBytes_form l a v
  rw [h]
@[simp] theorem Lane.setBytes_ax0 (l : Lane) (a : Nat) (v : List Byte) : (l.setBytes a v).ax0 = l.ax0 := by
  obtain ⟨_, h⟩ := Lane.setBytes_form l a v
  rw [h]
@[simp] theorem Lane.setBytes_ax1 (l : Lane) (a : Nat) (v : List Byte) : (l.setBytes a v).ax1 = l.ax1 := by
  obtain ⟨_, h⟩ := Lane.setBytes_form l a v
  rw [h]
@[simp] theorem Lane.setBytes_ax (l : Lane) (a : Nat) (v : List Byte) (y : Ax) : (l.setBytes a v).ax y = l.ax y := by
  obtain ⟨_, h⟩ := Lane.setBytes_form l a v
  rw [h]
  cases y <;> rfl


@[simp] theorem Lane.send_me (l : Lane) (o : Sent) : (l.send o).me = l.me := rfl
@[simp] theorem Lane.send_part (l : Lane) (o : Sent) : (l.send o).part = l.part := rfl
@[simp] theorem Lane.send_now (l : Lane) (o : Sent) : (l.send o).now = l.now := rfl
@[simp] theorem Lane.send_regs (l : Lane) (o : Sent) : (l.send o).regs = l.regs := rfl
@[simp] theorem Lane.send_mem (l : Lane) (o : Sent) : (l.send o).mem = l.mem := rfl
@[simp] theorem Lane.send_tcmGen (l : Lane) (o : Sent) : (l.send o).tcmGen = l.tcmGen := rfl
@[simp] theorem Lane.send_fresh (l : Lane) (o : Sent) : (l.send o).fresh = l.fresh := rfl
@[simp] theorem Lane.send_rdata (l : Lane) (o : Sent) : (l.send o).rdata = l.rdata := rfl
@[simp] theorem Lane.send_busErr (l : Lane) (o : Sent) : (l.send o).busErr = l.busErr := rfl
@[simp] theorem Lane.send_sy (l : Lane) (o : Sent) : (l.send o).sy = l.sy := rfl
@[simp] theorem Lane.send_pc (l : Lane) (o : Sent) : (l.send o).pc = l.pc := rfl
@[simp] theorem Lane.send_gl (l : Lane) (o : Sent) : (l.send o).gl = l.gl := rfl
@[simp] theorem Lane.send_fc (l : Lane) (o : Sent) : (l.send o).fc = l.fc := rfl
@[simp] theorem Lane.send_sc (l : Lane) (o : Sent) : (l.send o).sc = l.sc := rfl
@[simp] theorem Lane.send_hq (l : Lane) (o : Sent) : (l.send o).hq = l.hq := rfl
@[simp] theorem Lane.send_tt (l : Lane) (o : Sent) : (l.send o).tt = l.tt := rfl
@[simp] theorem Lane.send_cn (l : Lane) (o : Sent) : (l.send o).cn = l.cn := rfl
@[simp] theorem Lane.send_ao (l : Lane) (o : Sent) : (l.send o).ao = l.ao := rfl
@[simp] theorem Lane.send_pm (l : Lane) (o : Sent) : (l.send o).pm = l.pm := rfl
@[simp] theorem Lane.send_pw (l : Lane) (o : Sent) : (l.send o).pw = l.pw := rfl
@[simp] theorem Lane.send_st (l : Lane) (o : Sent) : (l.send o).st = l.st := rfl
@[simp] theorem Lane.send_lc (l : Lane) (o : Sent) : (l.send o).lc = l.lc := rfl
@[simp] theorem Lane.send_im (l : Lane) (o : Sent) : (l.send o).im = l.im := rfl
@[simp] theorem Lane.send_saf (l : Lane) (o : Sent) : (l.send o).saf = l.saf := rfl
@[simp] theorem Lane.send_trip (l : Lane) (o : Sent) : (l.send o).trip = l.trip := rfl
@[simp] theorem Lane.send_dl (l : Lane) (o : Sent) : (l.send o).dl = l.dl := rfl
@[simp] theorem Lane.send_mon (l : Lane) (o : Sent) : (l.send o).mon = l.mon := rfl
@[simp] theorem Lane.send_sf (l : Lane) (o : Sent) : (l.send o).sf = l.sf := rfl
@[simp] theorem Lane.send_ax0 (l : Lane) (o : Sent) : (l.send o).ax0 = l.ax0 := rfl
@[simp] theorem Lane.send_ax1 (l : Lane) (o : Sent) : (l.send o).ax1 = l.ax1 := rfl
@[simp] theorem Lane.send_ax (l : Lane) (o : Sent) (x : Ax) : (l.send o).ax x = l.ax x := by cases x <;> rfl

end Sys2Proof.Machine
end

