-- ==== Sys2Proof/Laws/Keep.lean ====
section
/-!
SUPPORT. What every operation on a lane keeps: its identity and its canonical forms; and, but for the few that change it, its mode. The
lemmas chain by `trans`, so that a statement over every step goes through the operations and never unfolds a record.
-/

namespace Sys2Proof.Machine

/-- One lane comes from another by operations that keep its identity and its canonical forms. -/
structure Lane.Keeps (l t : Lane) : Prop where
  me : t.me = l.me
  form : l.canonical = true → t.canonical = true

/-- The mode is kept as well. -/
structure Lane.Calm (l t : Lane) : Prop extends Lane.Keeps l t where
  mode : t.mode = l.mode

theorem Lane.Keeps.refl (l : Lane) : l.Keeps l := ⟨rfl, id⟩
theorem Lane.Calm.refl (l : Lane) : l.Calm l := ⟨.refl l, rfl⟩
theorem Lane.Keeps.trans {l m t : Lane} (h : l.Keeps m) (k : m.Keeps t) : l.Keeps t := ⟨k.me.trans h.me, fun c => k.form (h.form c)⟩
theorem Lane.Calm.trans {l m t : Lane} (h : l.Calm m) (k : m.Calm t) : l.Calm t := ⟨h.toKeeps.trans k.toKeeps, k.mode.trans h.mode⟩

/-- A change of neither identity, register file nor memory. -/
theorem Lane.Calm.of {l t : Lane} (h : t.me = l.me) (r : t.regs = l.regs) (m : t.mem = l.mem) : l.Calm t :=
  ⟨⟨h, fun c => by simpa only [Lane.canonical, r, m] using c⟩, by simp only [Lane.mode, Lane.rd, Lane.reg, r]⟩

theorem Lane.keeps_setReg (l : Lane) (a : Nat) (v : Word) : l.Keeps (l.setReg a v) :=
  ⟨rfl, fun c => by
    simp only [Lane.canonical, Bool.and_eq_true] at c ⊢
    exact ⟨l.canonical_setReg a v c.1, c.2⟩⟩

theorem Lane.calm_setReg (l : Lane) (a : Nat) (v : Word) (h : SY_MODE_OWN.addr ≠ a) : l.Calm (l.setReg a v) :=
  ⟨l.keeps_setReg a v, l.rd_setReg_ne a v SY_MODE_OWN h⟩

theorem Lane.calm_setByte (l : Lane) (a : Nat) (v : Byte) : l.Calm (l.setByte a v) :=
  ⟨⟨rfl, fun c => by
    simp only [Lane.canonical, Bool.and_eq_true] at c ⊢
    exact ⟨c.1, l.wf_setByte a v c.2⟩⟩, rfl⟩

theorem Lane.calm_setBytes (l : Lane) (a : Nat) (v : List Byte) : l.Calm (l.setBytes a v) := by
  induction v generalizing l a with
  | nil => exact .refl l
  | cons b r ih => exact (l.calm_setByte a b).trans (ih (l.setByte a b) (a + 1))

theorem Lane.keeps_wr (l : Lane) (f : Fld) (v : Nat) : l.Keeps (l.wr f v) := l.keeps_setReg _ _

/-- A field of another register, or of other bits of SY_MODE. -/
theorem Lane.calm_wr (l : Lane) (f : Fld) (v : Nat)
    (h : SY_MODE_OWN.addr ≠ f.addr ∨ f.lo + f.w ≤ SY_MODE_OWN.lo ∨ SY_MODE_OWN.lo + SY_MODE_OWN.w ≤ f.lo) : l.Calm (l.wr f v) := by
  refine ⟨l.keeps_wr f v, ?_⟩
  rcases h with h | h
  · exact l.rd_wr_ne f SY_MODE_OWN v h
  · exact l.rd_wr_disj f SY_MODE_OWN v h

theorem Lane.calm_bump (l : Lane) (f : Fld) (h : SY_MODE_OWN.addr ≠ f.addr) : l.Calm (l.bump f) := by
  unfold Lane.bump
  split
  · exact l.calm_wr f _ (.inl h)
  · exact .refl l

theorem Lane.calm_present (l : Lane) (m : Msg) : l.Calm (l.present m) := by
  unfold Lane.present
  split
  · exact l.calm_bump _ (by simp only [SY_MODE_OWN, FC_DROP_CE]; omega)
  · exact .of rfl rfl rfl

theorem Lane.calm_raise (l : Lane) (src kind cls : Nat) (x : Option Ax) (d : Nat) : l.Calm (l.raise src kind cls x d) := l.calm_present _

theorem Lane.calm_raiseOnce (l : Lane) (src kind cls : Nat) (x : Option Ax) (d : Nat) : l.Calm (l.raiseOnce src kind cls x d) := by
  have form : ∀ (k : Lane) (c : List (Nat × Nat × Nat)), k.Calm { k with fc := { k.fc with ceDone := c } } := fun k c => .of rfl rfl rfl
  unfold Lane.raiseOnce
  split
  · exact .refl l
  · exact (l.calm_raise src kind cls x d).trans (form _ _)

theorem Lane.calm_arise (l : Lane) (k : ItemKind) (src flow prio : Nat) : l.Calm (l.arise k src flow prio) := by
  unfold Lane.arise
  simp only
  by_cases h : k ≠ .post ∧ (l.sc.items.any fun i => decide (i.kind = k ∧ i.src = src)) = true
  · rw [if_pos h]
    by_cases q : k = .hamper
    · rw [if_pos q]
      exact .refl l
    · rw [if_neg q]
      exact .of rfl rfl rfl
  · rw [if_neg h]
    exact .of rfl rfl rfl

theorem Lane.calm_event (l : Lane) (n : Nat) : l.Calm (l.event n) := by
  have h : SY_MODE_OWN.addr ≠ (SY_EVSTAT_EV (n / 32)).addr := by
    simp only [SY_MODE_OWN, SY_EVSTAT_EV]
    omega
  have w := l.calm_wr (SY_EVSTAT_EV (n / 32)) (l.rd (SY_EVSTAT_EV (n / 32)) ||| 2 ^ (n % 32)) (.inl h)
  have e := w.trans (t := (l.wr (SY_EVSTAT_EV (n / 32)) (l.rd (SY_EVSTAT_EV (n / 32)) ||| 2 ^ (n % 32))).evNote n) (.of rfl rfl rfl)
  unfold Lane.event
  simp only
  split
  · exact e.trans (Lane.calm_arise _ _ _ _ _)
  · exact e

theorem Lane.calm_when (l : Lane) (c : Bool) (f : Lane → Lane) (h : ∀ k : Lane, k.Calm (f k)) : l.Calm (l.when c f) := by
  unfold Lane.when
  split
  · exact h l
  · exact .refl l

theorem Lane.calm_each {α : Type} (l : Lane) (xs : List α) (f : Lane → α → Lane) (h : ∀ (k : Lane) x, x ∈ xs → k.Calm (f k x)) :
    l.Calm (l.each xs f) := by
  unfold Lane.each
  induction xs generalizing l with
  | nil => exact .refl l
  | cons x r ih => exact (h l x (.head _)).trans (ih (f l x) (fun k y hy => h k y (.tail _ hy)))

/-- A change of the mode keeps the rest. -/
theorem Lane.keeps_each {α : Type} (l : Lane) (xs : List α) (f : Lane → α → Lane) (h : ∀ (k : Lane) x, x ∈ xs → k.Keeps (f k x)) :
    l.Keeps (l.each xs f) := by
  unfold Lane.each
  induction xs generalizing l with
  | nil => exact .refl l
  | cons x r ih => exact (h l x (.head _)).trans (ih (f l x) (fun k y hy => h k y (.tail _ hy)))

end Sys2Proof.Machine
end

