-- ==== Sys2Proof/Laws/Step.lean ====
section
/-!
SUPPORT. What every command can do, said once: it changes the lane it names, where that lane has what the command needs.
-/

namespace Sys2Proof.Machine

theorem State.actAo_gate (s : State) (i : LaneId) (f : Lane → Lane) :
    s.actAo i f = .next (s.onLane i (fun l => if Gate.always.holds l then f l else l)) := by
  simp [State.actAo, Gate.holds]

theorem State.actWake_gate (s : State) (i : LaneId) (f : Lane → Lane) :
    s.actWake i f = .next (s.onLane i (fun l => if Gate.wake.holds l then f l else l)) := by
  unfold State.actWake
  congr 2
  funext l
  cases h : l.sy.held <;> simp [Gate.holds, h]

theorem State.act_gate (s : State) (i : LaneId) (f : Lane → Lane) :
    s.act i f = .next (s.onLane i (fun l => if Gate.clocked.holds l then f l else l)) := by
  unfold State.act State.actWake
  congr 2
  funext l
  cases h : l.sy.held <;> cases h2 : l.pw.stopped <;> simp [Gate.holds, Lane.clocked, h, h2]

theorem State.actD_gate (s : State) (i : LaneId) (d : Dom) (f : Lane → Lane) :
    s.actD i d f = .next (s.onLane i (fun l => if (Gate.domain d).holds l then f l else l)) := by
  unfold State.actD
  rw [State.act_gate]
  congr 2
  funext l
  cases h : l.clocked <;> simp [Gate.holds, h]

theorem State.actX_gate (s : State) (i : LaneId) (x : Ax) (d : Dom) (f : Lane → Lane) :
    s.actX i x d f = .next (s.onLane i (fun l => if (Gate.axis x d).holds l then f l else l)) := by
  unfold State.actX
  rw [State.actD_gate]
  congr 2
  funext l
  cases h : l.clocked <;> cases h2 : l.domOn d <;> simp [Gate.holds, h, h2]

theorem State.actTq_gate (s : State) (i : LaneId) (x : Ax) (f : Lane → Lane) :
    s.actTq i x f = .next (s.onLane i (fun l => if (Gate.table x).holds l then f l else l)) := by
  unfold State.actTq
  rw [State.actX_gate]
  congr 2
  funext l
  cases h : l.clocked <;> cases h2 : l.domOn (.le x) <;> cases h3 : l.part.hasAxis x <;> simp [Gate.holds, h, h2, h3]

theorem State.accD_gate (s : State) (i : LaneId) (d : Dom) (r : RegAcc) (f : Lane → Lane) :
    s.accD i d r f = .next (s.onLane i (fun l => if Gate.clocked.holds l then (if l.domOn d then f l else l.downAccess d r) else l)) :=
  State.act_gate s i _

theorem State.accX_gate (s : State) (i : LaneId) (x : Ax) (d : Dom) (r : RegAcc) (f : Lane → Lane) :
    s.accX i x d r f = .next (s.onLane i (fun l => if (Gate.present x).holds l then
      (if l.domOn d then f l else l.downAccess d r) else l)) := by
  unfold State.accX
  rw [State.act_gate]
  congr 2
  funext l
  cases h : l.clocked <;> cases h2 : l.part.hasAxis x <;> simp [Gate.holds, h, h2]

theorem State.accTq_gate (s : State) (i : LaneId) (x : Ax) (r : RegAcc) (f : Lane → Lane) :
    s.accTq i x r f = .next (s.onLane i (fun l => if (Gate.engine x).holds l then
      (if l.domOn (.le x) then f l else l.downAccess (.le x) r) else l)) := by
  unfold State.accTq
  rw [State.act_gate]
  congr 2
  funext l
  cases h : l.clocked <;> cases h2 : l.part.hasAxis x <;> cases h3 : l.part.hasTq <;> simp [Gate.holds, h, h2, h3]

theorem State.accD_down (s : State) (i : LaneId) (d : Dom) (r : RegAcc) (f : Lane → Lane) (hr : s.ready i .clocked)
    (hd : (s.lane i).domOn d = false) : s.accD i d r f = .next (s.inLane i (fun l => l.downAccess d r)) := by
  rw [State.accD_gate, State.onLane_here s i _ hr.1]
  simp [State.inLane, hr.2, hd]

theorem State.accX_down (s : State) (i : LaneId) (x : Ax) (d : Dom) (r : RegAcc) (f : Lane → Lane) (hr : s.ready i (.present x))
    (hd : (s.lane i).domOn d = false) : s.accX i x d r f = .next (s.inLane i (fun l => l.downAccess d r)) := by
  rw [State.accX_gate, State.onLane_here s i _ hr.1]
  simp [State.inLane, hr.2, hd]

theorem State.accTq_down (s : State) (i : LaneId) (x : Ax) (r : RegAcc) (f : Lane → Lane) (hr : s.ready i (.engine x))
    (hd : (s.lane i).domOn (.le x) = false) : s.accTq i x r f = .next (s.inLane i (fun l => l.downAccess (.le x) r)) := by
  rw [State.accTq_gate, State.onLane_here s i _ hr.1]
  simp [State.inLane, hr.2, hd]

/-- The collector's command with its own conditions (spec/09_fault_collection.md R321). -/
theorem execFaultMessageAccept_gate (s : State) (i : LaneId) :
    execFaultMessageAccept i s = .next (s.onLane i (fun l => if Gate.collector.holds l then
      (if l.pw.rootLost then l.acceptLpo else l.acceptMsg) else l)) := by
  unfold execFaultMessageAccept State.actWake
  congr 2
  funext l
  cases h : l.sy.held <;> cases h2 : l.pw.rootLost <;> cases h3 : l.pw.stopped <;> cases h4 : l.domOn .cp <;>
    simp [Gate.holds, h, h2, h3, h4]

/-- Every command answers a next state, in which nothing but the lane it names can have changed, and that only where the lane has what the
command needs. -/
theorem exec_gate (c : Instr) (s : State) :
    ∃ f : Lane → Lane, exec c s = .next (s.onLane c.lane (fun l => if (gateOf c).holds l then f l else l)) := by
  cases c with
  | powerUp => exact ⟨_, State.actAo_gate s _ _⟩
  | resetRelease => exact ⟨_, State.actAo_gate s _ _⟩
  | nrstAssert => exact ⟨_, State.actAo_gate s _ _⟩
  | supplyOutOfRange => exact ⟨_, State.actAo_gate s _ _⟩
  | vbatLow => exact ⟨_, State.act_gate s _ _⟩
  | vbatBrownOut => exact ⟨_, State.actAo_gate s _ _⟩
  | pllLock => exact ⟨_, State.actWake_gate s _ _⟩
  | sweepEnd => exact ⟨_, State.act_gate s _ _⟩
  | imageLoadEnd => exact ⟨_, State.act_gate s _ _⟩
  | imageLock => exact ⟨_, State.act_gate s _ _⟩
  | gateDriverCheckEnd => exact ⟨_, State.act_gate s _ _⟩
  | outerCycleBoundary => exact ⟨_, State.act_gate s _ _⟩
  | armTimeout => exact ⟨_, State.act_gate s _ _⟩
  | degradedTimeExpiry => exact ⟨_, State.act_gate s _ _⟩
  | dieTemperatureHold => exact ⟨_, State.act_gate s _ _⟩
  | commandAgeLimit => exact ⟨_, State.act_gate s _ _⟩
  | autoRestart => exact ⟨_, State.act_gate s _ _⟩
  | partitionDecision => exact ⟨_, State.act_gate s _ _⟩
  | leInnerPeriod => exact ⟨_, State.actX_gate s _ _ _ _⟩
  | leOpen => exact ⟨_, State.accX_gate s _ _ _ _ _⟩
  | leClose => exact ⟨_, State.accX_gate s _ _ _ _ _⟩
  | leIntclr => exact ⟨_, State.accX_gate s _ _ _ _ _⟩
  | leCntclr => exact ⟨_, State.accX_gate s _ _ _ _ _⟩
  | leOwWrite => exact ⟨_, State.accX_gate s _ _ _ _ _⟩
  | leLvWrite => exact ⟨_, State.accX_gate s _ _ _ _ _⟩
  | leOpenmaxExpiry => exact ⟨_, State.actX_gate s _ _ _ _⟩
  | modReload => exact ⟨_, State.actX_gate s _ _ _ _⟩
  | modWriteStageWrite => exact ⟨_, State.accX_gate s _ _ _ _ _⟩
  | modCommit => exact ⟨_, State.accX_gate s _ _ _ _ _⟩
  | modDiscard => exact ⟨_, State.accX_gate s _ _ _ _ _⟩
  | modPasson => exact ⟨_, State.accX_gate s _ _ _ _ _⟩
  | modPassoff => exact ⟨_, State.accX_gate s _ _ _ _ _⟩
  | modCntclr => exact ⟨_, State.accX_gate s _ _ _ _ _⟩
  | delayLineCalibration => exact ⟨_, State.actX_gate s _ _ _ _⟩
  | tripOnset => exact ⟨_, State.actAo_gate s _ _⟩
  | tripInputInactive => exact ⟨_, State.actAo_gate s _ _⟩
  | auxWindowStart => exact ⟨_, State.actD_gate s _ _ _⟩
  | auxWindowEnd => exact ⟨_, State.actD_gate s _ _ _⟩
  | modTripclr => exact ⟨_, State.accD_gate s _ _ _ _⟩
  | blankcntRead => exact ⟨_, State.accD_gate s _ _ _ _⟩
  | tqDecision => exact ⟨_, State.actTq_gate s _ _ _⟩
  | alignTimerExpiry => exact ⟨_, State.actTq_gate s _ _ _⟩
  | holdTimerExpiry => exact ⟨_, State.actTq_gate s _ _ _⟩
  | lowSpeedTimerExpiry => exact ⟨_, State.actTq_gate s _ _ _⟩
  | catchPulse => exact ⟨_, State.actTq_gate s _ _ _⟩
  | catchTimeout => exact ⟨_, State.actTq_gate s _ _ _⟩
  | tqOwWrite => exact ⟨_, State.accTq_gate s _ _ _ _⟩
  | tqCntclr => exact ⟨_, State.accTq_gate s _ _ _ _⟩
  | gateEnableRequest => exact ⟨_, State.accX_gate s _ _ _ _ _⟩
  | gateEnableDrop => exact ⟨_, State.accX_gate s _ _ _ _ _⟩
  | gdSafeRequest => exact ⟨_, State.accX_gate s _ _ _ _ _⟩
  | gdCntclr => exact ⟨_, State.accX_gate s _ _ _ _ _⟩
  | interlockRefusal => exact ⟨_, State.actX_gate s _ _ _ _⟩
  | minimumGapDelay => exact ⟨_, State.actX_gate s _ _ _ _⟩
  | hardShort => exact ⟨_, State.actAo_gate s _ _⟩
  | cpuvChange => exact ⟨_, State.actAo_gate s _ _⟩
  | keepAliveLoss => exact ⟨_, State.actAo_gate s _ _⟩
  | keepAliveReceive => exact ⟨_, State.actAo_gate s _ _⟩
  | ov1Assert => exact ⟨_, State.actAo_gate s _ _⟩
  | ov1Release => exact ⟨_, State.actAo_gate s _ _⟩
  | ov2Assert => exact ⟨_, State.actAo_gate s _ _⟩
  | ov2Release => exact ⟨_, State.actAo_gate s _ _⟩
  | chopperPeriod => exact ⟨_, State.actAo_gate s _ _⟩
  | chopperOnEnd => exact ⟨_, State.actAo_gate s _ _⟩
  | chopperWatchExpiry => exact ⟨_, State.actAo_gate s _ _⟩
  | chopperOvercurrent => exact ⟨_, State.actAo_gate s _ _⟩
  | dlChclr => exact ⟨_, State.act_gate s _ _⟩
  | dlCntclr => exact ⟨_, State.act_gate s _ _⟩
  | commutatorHallChange => exact ⟨_, State.actX_gate s _ _ _ _⟩
  | monitorConversion => exact ⟨_, State.actD_gate s _ _ _⟩
  | adCntclr => exact ⟨_, State.accX_gate s _ _ _ _ _⟩
  | hallEdge => exact ⟨_, State.actAo_gate s _ _⟩
  | neighbourCode => exact ⟨_, State.actX_gate s _ _ _ _⟩
  | sincosSample => exact ⟨_, State.actX_gate s _ _ _ _⟩
  | positionCompareTick => exact ⟨_, State.actX_gate s _ _ _ _⟩
  | compareWrite => exact ⟨_, State.accX_gate s _ _ _ _ _⟩
  | fbPosadjWrite => exact ⟨_, State.accX_gate s _ _ _ _ _⟩
  | fbFltclr => exact ⟨_, State.accX_gate s _ _ _ _ _⟩
  | readmission => exact ⟨_, State.actX_gate s _ _ _ _⟩
  | fbCntclr => exact ⟨_, State.accX_gate s _ _ _ _ _⟩
  | supplyOvercurrent => exact ⟨_, State.actD_gate s _ _ _⟩
  | supplyUndervoltage => exact ⟨_, State.actD_gate s _ _ _⟩
  | sfSupplyClr => exact ⟨_, State.accD_gate s _ _ _ _⟩
  | supplyPulseStart => exact ⟨_, State.actD_gate s _ _ _⟩
  | pulseCheck => exact ⟨_, State.actD_gate s _ _ _⟩
  | crossShortCheck => exact ⟨_, State.actD_gate s _ _ _⟩
  | pulseMaskEnd => exact ⟨_, State.actD_gate s _ _ _⟩
  | boundaryCommit => exact ⟨_, State.act_gate s _ _⟩
  | intermediateCommit => exact ⟨_, State.act_gate s _ _⟩
  | pairMismatch => exact ⟨_, State.actD_gate s _ _ _⟩
  | pcSplit => exact ⟨_, State.actD_gate s _ _ _⟩
  | pcRejoin => exact ⟨_, State.actD_gate s _ _ _⟩
  | pcCntclr => exact ⟨_, State.actD_gate s _ _ _⟩
  | linkLossOfLock => exact ⟨_, State.actD_gate s _ _ _⟩
  | blockLock => exact ⟨_, State.actD_gate s _ _ _⟩
  | linkUp => exact ⟨_, State.actD_gate s _ _ _⟩
  | messageForward => exact ⟨_, State.actD_gate s _ _ _⟩
  | syncReceive => exact ⟨_, State.actD_gate s _ _ _⟩
  | heartbeatReceive => exact ⟨_, State.actD_gate s _ _ _⟩
  | heartbeatDue => exact ⟨_, State.actD_gate s _ _ _⟩
  | ftannReceive => exact ⟨_, State.actD_gate s _ _ _⟩
  | claimReceive => exact ⟨_, State.actD_gate s _ _ _⟩
  | abdicateReceive => exact ⟨_, State.actD_gate s _ _ _⟩
  | handoverReceive => exact ⟨_, State.actD_gate s _ _ _⟩
  | commandReceive => exact ⟨_, State.actD_gate s _ _ _⟩
  | cfghashReceive => exact ⟨_, State.actD_gate s _ _ _⟩
  | statecopyReceive => exact ⟨_, State.actD_gate s _ _ _⟩
  | electionWindowEnd => exact ⟨_, State.actD_gate s _ _ _⟩
  | voteTimeout => exact ⟨_, State.actD_gate s _ _ _⟩
  | glAbdicate => exact ⟨_, State.actD_gate s _ _ _⟩
  | glHandgo => exact ⟨_, State.actD_gate s _ _ _⟩
  | handoverTimeout => exact ⟨_, State.actD_gate s _ _ _⟩
  | glElig => exact ⟨_, State.actD_gate s _ _ _⟩
  | glInelig => exact ⟨_, State.actD_gate s _ _ _⟩
  | glCntclr => exact ⟨_, State.actD_gate s _ _ _⟩
  | faultMessageAccept => exact ⟨_, execFaultMessageAccept_gate s _⟩
  | fcRearm => exact ⟨_, State.actD_gate s _ _ _⟩
  | fcCntclr => exact ⟨_, State.actD_gate s _ _ _⟩
  | fcDumpdone => exact ⟨_, State.actD_gate s _ _ _⟩
  | fcNbfree => exact ⟨_, State.actD_gate s _ _ _⟩
  | faultInjection => exact ⟨_, State.actD_gate s _ _ _⟩
  | lanternToggle => exact ⟨_, State.act_gate s _ _⟩
  | lanternTend => exact ⟨_, State.actD_gate s _ _ _⟩
  | tendTimeout => exact ⟨_, State.actD_gate s _ _ _⟩
  | neighbourLanternEdge => exact ⟨_, State.actD_gate s _ _ _⟩
  | neighbourWatchTimeout => exact ⟨_, State.actD_gate s _ _ _⟩
  | dumpContextStart => exact ⟨_, State.actD_gate s _ _ _⟩
  | dumpContextTimeout => exact ⟨_, State.actD_gate s _ _ _⟩
  | dumpEngineStart => exact ⟨_, State.actD_gate s _ _ _⟩
  | dumpAnswerTimeout => exact ⟨_, State.actD_gate s _ _ _⟩
  | dumpDataSend => exact ⟨_, State.actD_gate s _ _ _⟩
  | dumpOfferReceive => exact ⟨_, State.actD_gate s _ _ _⟩
  | dumpAcceptReceive => exact ⟨_, State.actD_gate s _ _ _⟩
  | dumpRefuseReceive => exact ⟨_, State.actD_gate s _ _ _⟩
  | dumpDataReceive => exact ⟨_, State.actD_gate s _ _ _⟩
  | dumpEndReceive => exact ⟨_, State.actD_gate s _ _ _⟩
  | dumpStoreComplete => exact ⟨_, State.actD_gate s _ _ _⟩
  | dumpReceiveTimeout => exact ⟨_, State.actD_gate s _ _ _⟩
  | dumpDoneReceive => exact ⟨_, State.actD_gate s _ _ _⟩
  | scPost => exact ⟨_, State.actD_gate s _ _ _⟩
  | scEnter => exact ⟨_, State.actD_gate s _ _ _⟩
  | scNext => exact ⟨_, State.actD_gate s _ _ _⟩
  | scCntclr => exact ⟨_, State.actD_gate s _ _ _⟩
  | flowEnableWrite => exact ⟨_, State.actD_gate s _ _ _⟩
  | timerArm => exact ⟨_, State.actD_gate s _ _ _⟩
  | timerInsertion => exact ⟨_, State.actD_gate s _ _ _⟩
  | timerExpiry => exact ⟨_, State.actD_gate s _ _ _⟩
  | headroomUpdate => exact ⟨_, State.actD_gate s _ _ _⟩
  | deferralAge => exact ⟨_, State.actD_gate s _ _ _⟩
  | hqPutWrite => exact ⟨_, State.actD_gate s _ _ _⟩
  | hqPush => exact ⟨_, State.actD_gate s _ _ _⟩
  | hqTake => exact ⟨_, State.actD_gate s _ _ _⟩
  | hqMark => exact ⟨_, State.actD_gate s _ _ _⟩
  | hqRewind => exact ⟨_, State.actD_gate s _ _ _⟩
  | hqCntclr => exact ⟨_, State.actD_gate s _ _ _⟩
  | hostNop => exact ⟨_, State.act_gate s _ _⟩
  | hostPut => exact ⟨_, State.act_gate s _ _⟩
  | hostStatus => exact ⟨_, State.act_gate s _ _⟩
  | hostBadCommand => exact ⟨_, State.act_gate s _ _⟩
  | enterService => exact ⟨_, State.act_gate s _ _⟩
  | restart => exact ⟨_, State.act_gate s _ _⟩
  | handover => exact ⟨_, State.act_gate s _ _⟩
  | ceiling => exact ⟨_, State.act_gate s _ _⟩
  | integratorCode => exact ⟨_, State.act_gate s _ _⟩
  | hpIrqset => exact ⟨_, State.act_gate s _ _⟩
  | hpIrqclr => exact ⟨_, State.act_gate s _ _⟩
  | hpCntclr => exact ⟨_, State.act_gate s _ _⟩
  | cycleStart => exact ⟨_, State.actD_gate s _ _ _⟩
  | syncLossExpiry => exact ⟨_, State.actD_gate s _ _ _⟩
  | masterTakeExpiry => exact ⟨_, State.actD_gate s _ _ _⟩
  | portMute => exact ⟨_, State.actD_gate s _ _ _⟩
  | portUnmute => exact ⟨_, State.actD_gate s _ _ _⟩
  | partnerAbsence => exact ⟨_, State.actD_gate s _ _ _⟩
  | fetchPoint => exact ⟨_, State.actD_gate s _ _ _⟩
  | frameSend => exact ⟨_, State.actD_gate s _ _ _⟩
  | ttTxrdy => exact ⟨_, State.accD_gate s _ _ _ _⟩
  | crelasFrameReceive => exact ⟨_, State.actD_gate s _ _ _⟩
  | ttUnmute => exact ⟨_, State.accD_gate s _ _ _ _⟩
  | ttCntclr => exact ⟨_, State.accD_gate s _ _ _ _⟩
  | portLinkChange => exact ⟨_, State.actD_gate s _ _ _⟩
  | canFrameReceive => exact ⟨_, State.actD_gate s _ _ _⟩
  | canFrameSent => exact ⟨_, State.actD_gate s _ _ _⟩
  | canProtocolError => exact ⟨_, State.actD_gate s _ _ _⟩
  | busOffRecovery => exact ⟨_, State.actD_gate s _ _ _⟩
  | cnTxreq => exact ⟨_, State.accD_gate s _ _ _ _⟩
  | cnRecover => exact ⟨_, State.accD_gate s _ _ _ _⟩
  | cnCntclr => exact ⟨_, State.accD_gate s _ _ _ _⟩
  | pdReqWrite => exact ⟨_, State.act_gate s _ _⟩
  | domainTransition => exact ⟨_, State.act_gate s _ _⟩
  | sleep => exact ⟨_, State.actD_gate s _ _ _⟩
  | lpoCalibrationEnd => exact ⟨_, State.act_gate s _ _⟩
  | ckCalgo => exact ⟨_, State.act_gate s _ _⟩
  | ckDivgo => exact ⟨_, State.act_gate s _ _⟩
  | rootLoss => exact ⟨_, State.act_gate s _ _⟩
  | frequencyCheck => exact ⟨_, State.act_gate s _ _⟩
  | whistleFrame => exact ⟨_, State.actAo_gate s _ _⟩
  | slowAlarm => exact ⟨_, State.actAo_gate s _ _⟩
  | safetyInputWake => exact ⟨_, State.actAo_gate s _ _⟩
  | wkCntclr => exact ⟨_, State.act_gate s _ _⟩
  | voltageRequest => exact ⟨_, State.act_gate s _ _⟩
  | voltageAcknowledge => exact ⟨_, State.act_gate s _ _⟩
  | voltageAckTimeout => exact ⟨_, State.act_gate s _ _⟩
  | transactionFail => exact ⟨_, State.act_gate s _ _⟩
  | transactionRetry => exact ⟨_, State.act_gate s _ _⟩
  | operationWrite => exact ⟨_, State.act_gate s _ _⟩
  | clearFaults => exact ⟨_, State.act_gate s _ _⟩
  | statusWordRead => exact ⟨_, State.act_gate s _ _⟩
  | operationRead => exact ⟨_, State.act_gate s _ _⟩
  | pmPoll => exact ⟨_, State.act_gate s _ _⟩
  | pmAlert => exact ⟨_, State.actAo_gate s _ _⟩
  | stSlice => exact ⟨_, State.actD_gate s _ _ _⟩
  | sliceEnd => exact ⟨_, State.actD_gate s _ _ _⟩
  | sliceBudgetExpiry => exact ⟨_, State.actD_gate s _ _ _⟩
  | sliceAccessAbort => exact ⟨_, State.actD_gate s _ _ _⟩
  | stSweep => exact ⟨_, State.actD_gate s _ _ _⟩
  | stProggo => exact ⟨_, State.actD_gate s _ _ _⟩
  | stAbort => exact ⟨_, State.actD_gate s _ _ _⟩
  | stCntclr => exact ⟨_, State.actD_gate s _ _ _⟩
  | memtokReceive => exact ⟨_, State.actD_gate s _ _ _⟩
  | memtokRegen => exact ⟨_, State.actD_gate s _ _ _⟩
  | lcadv => exact ⟨_, State.act_gate s _ _⟩
  | lcterm => exact ⟨_, State.act_gate s _ _⟩
  | keyprog => exact ⟨_, State.act_gate s _ _⟩
  | keyrev => exact ⟨_, State.act_gate s _ _⟩
  | ftmode => exact ⟨_, State.act_gate s _ _⟩
  | jtagSweep => exact ⟨_, State.act_gate s _ _⟩
  | lcGo => exact ⟨_, State.actD_gate s _ _ _⟩
  | lcFtmon => exact ⟨_, State.actD_gate s _ _ _⟩
  | otpWriteComplete => exact ⟨_, State.act_gate s _ _⟩
  | safetyInputChange => exact ⟨_, State.actAo_gate s _ _⟩
  | safetyDiscrepancy => exact ⟨_, State.actD_gate s _ _ _⟩
  | sfDiscclr => exact ⟨_, State.accD_gate s _ _ _ _⟩
  | sfInjgo => exact ⟨_, State.accD_gate s _ _ _ _⟩
  | injectionPhaseEnd => exact ⟨_, State.actD_gate s _ _ _⟩
  | registerWrite => exact ⟨_, State.actD_gate s _ _ _⟩
  | pmbusTransactionEnd => exact ⟨_, State.act_gate s _ _⟩
  | gdSliceInjection => exact ⟨_, State.actD_gate s _ _ _⟩
  | eccError => exact ⟨_, State.actD_gate s _ _ _⟩
  | mramControllerFailure => exact ⟨_, State.actD_gate s _ _ _⟩
  | busParityError => exact ⟨_, State.actD_gate s _ _ _⟩
  | deviceAccessTimeout => exact ⟨_, State.actD_gate s _ _ _⟩
  | coreDebug => exact ⟨_, State.actD_gate s _ _ _⟩

/-- What becomes of the lane depends on the lane alone, but for the commands that read other lanes. -/
theorem exec_gate_own (c : Instr) (h : readsLanes c = false) :
    ∃ f : Lane → Lane, ∀ s, exec c s = .next (s.onLane c.lane (fun l => if (gateOf c).holds l then f l else l)) := by
  cases c with
  | powerUp => exact ⟨_, fun s => State.actAo_gate s _ _⟩
  | resetRelease => exact ⟨_, fun s => State.actAo_gate s _ _⟩
  | nrstAssert => exact ⟨_, fun s => State.actAo_gate s _ _⟩
  | supplyOutOfRange => exact ⟨_, fun s => State.actAo_gate s _ _⟩
  | vbatLow => exact ⟨_, fun s => State.act_gate s _ _⟩
  | vbatBrownOut => exact ⟨_, fun s => State.actAo_gate s _ _⟩
  | pllLock => exact ⟨_, fun s => State.actWake_gate s _ _⟩
  | sweepEnd => exact ⟨_, fun s => State.act_gate s _ _⟩
  | imageLoadEnd => exact ⟨_, fun s => State.act_gate s _ _⟩
  | imageLock => exact ⟨_, fun s => State.act_gate s _ _⟩
  | gateDriverCheckEnd => exact ⟨_, fun s => State.act_gate s _ _⟩
  | outerCycleBoundary => cases h
  | armTimeout => exact ⟨_, fun s => State.act_gate s _ _⟩
  | degradedTimeExpiry => exact ⟨_, fun s => State.act_gate s _ _⟩
  | dieTemperatureHold => exact ⟨_, fun s => State.act_gate s _ _⟩
  | commandAgeLimit => cases h
  | autoRestart => exact ⟨_, fun s => State.act_gate s _ _⟩
  | partitionDecision => exact ⟨_, fun s => State.act_gate s _ _⟩
  | leInnerPeriod => exact ⟨_, fun s => State.actX_gate s _ _ _ _⟩
  | leOpen => exact ⟨_, fun s => State.accX_gate s _ _ _ _ _⟩
  | leClose => exact ⟨_, fun s => State.accX_gate s _ _ _ _ _⟩
  | leIntclr => exact ⟨_, fun s => State.accX_gate s _ _ _ _ _⟩
  | leCntclr => exact ⟨_, fun s => State.accX_gate s _ _ _ _ _⟩
  | leOwWrite => exact ⟨_, fun s => State.accX_gate s _ _ _ _ _⟩
  | leLvWrite => exact ⟨_, fun s => State.accX_gate s _ _ _ _ _⟩
  | leOpenmaxExpiry => exact ⟨_, fun s => State.actX_gate s _ _ _ _⟩
  | modReload => exact ⟨_, fun s => State.actX_gate s _ _ _ _⟩
  | modWriteStageWrite => exact ⟨_, fun s => State.accX_gate s _ _ _ _ _⟩
  | modCommit => exact ⟨_, fun s => State.accX_gate s _ _ _ _ _⟩
  | modDiscard => exact ⟨_, fun s => State.accX_gate s _ _ _ _ _⟩
  | modPasson => exact ⟨_, fun s => State.accX_gate s _ _ _ _ _⟩
  | modPassoff => exact ⟨_, fun s => State.accX_gate s _ _ _ _ _⟩
  | modCntclr => exact ⟨_, fun s => State.accX_gate s _ _ _ _ _⟩
  | delayLineCalibration => exact ⟨_, fun s => State.actX_gate s _ _ _ _⟩
  | tripOnset => exact ⟨_, fun s => State.actAo_gate s _ _⟩
  | tripInputInactive => exact ⟨_, fun s => State.actAo_gate s _ _⟩
  | auxWindowStart => exact ⟨_, fun s => State.actD_gate s _ _ _⟩
  | auxWindowEnd => exact ⟨_, fun s => State.actD_gate s _ _ _⟩
  | modTripclr => exact ⟨_, fun s => State.accD_gate s _ _ _ _⟩
  | blankcntRead => exact ⟨_, fun s => State.accD_gate s _ _ _ _⟩
  | tqDecision => exact ⟨_, fun s => State.actTq_gate s _ _ _⟩
  | alignTimerExpiry => exact ⟨_, fun s => State.actTq_gate s _ _ _⟩
  | holdTimerExpiry => exact ⟨_, fun s => State.actTq_gate s _ _ _⟩
  | lowSpeedTimerExpiry => exact ⟨_, fun s => State.actTq_gate s _ _ _⟩
  | catchPulse => exact ⟨_, fun s => State.actTq_gate s _ _ _⟩
  | catchTimeout => exact ⟨_, fun s => State.actTq_gate s _ _ _⟩
  | tqOwWrite => exact ⟨_, fun s => State.accTq_gate s _ _ _ _⟩
  | tqCntclr => exact ⟨_, fun s => State.accTq_gate s _ _ _ _⟩
  | gateEnableRequest => exact ⟨_, fun s => State.accX_gate s _ _ _ _ _⟩
  | gateEnableDrop => exact ⟨_, fun s => State.accX_gate s _ _ _ _ _⟩
  | gdSafeRequest => exact ⟨_, fun s => State.accX_gate s _ _ _ _ _⟩
  | gdCntclr => exact ⟨_, fun s => State.accX_gate s _ _ _ _ _⟩
  | interlockRefusal => exact ⟨_, fun s => State.actX_gate s _ _ _ _⟩
  | minimumGapDelay => exact ⟨_, fun s => State.actX_gate s _ _ _ _⟩
  | hardShort => exact ⟨_, fun s => State.actAo_gate s _ _⟩
  | cpuvChange => exact ⟨_, fun s => State.actAo_gate s _ _⟩
  | keepAliveLoss => exact ⟨_, fun s => State.actAo_gate s _ _⟩
  | keepAliveReceive => exact ⟨_, fun s => State.actAo_gate s _ _⟩
  | ov1Assert => exact ⟨_, fun s => State.actAo_gate s _ _⟩
  | ov1Release => exact ⟨_, fun s => State.actAo_gate s _ _⟩
  | ov2Assert => exact ⟨_, fun s => State.actAo_gate s _ _⟩
  | ov2Release => exact ⟨_, fun s => State.actAo_gate s _ _⟩
  | chopperPeriod => exact ⟨_, fun s => State.actAo_gate s _ _⟩
  | chopperOnEnd => exact ⟨_, fun s => State.actAo_gate s _ _⟩
  | chopperWatchExpiry => exact ⟨_, fun s => State.actAo_gate s _ _⟩
  | chopperOvercurrent => exact ⟨_, fun s => State.actAo_gate s _ _⟩
  | dlChclr => exact ⟨_, fun s => State.act_gate s _ _⟩
  | dlCntclr => exact ⟨_, fun s => State.act_gate s _ _⟩
  | commutatorHallChange => exact ⟨_, fun s => State.actX_gate s _ _ _ _⟩
  | monitorConversion => exact ⟨_, fun s => State.actD_gate s _ _ _⟩
  | adCntclr => exact ⟨_, fun s => State.accX_gate s _ _ _ _ _⟩
  | hallEdge => exact ⟨_, fun s => State.actAo_gate s _ _⟩
  | neighbourCode => cases h
  | sincosSample => exact ⟨_, fun s => State.actX_gate s _ _ _ _⟩
  | positionCompareTick => exact ⟨_, fun s => State.actX_gate s _ _ _ _⟩
  | compareWrite => exact ⟨_, fun s => State.accX_gate s _ _ _ _ _⟩
  | fbPosadjWrite => exact ⟨_, fun s => State.accX_gate s _ _ _ _ _⟩
  | fbFltclr => exact ⟨_, fun s => State.accX_gate s _ _ _ _ _⟩
  | readmission => exact ⟨_, fun s => State.actX_gate s _ _ _ _⟩
  | fbCntclr => exact ⟨_, fun s => State.accX_gate s _ _ _ _ _⟩
  | supplyOvercurrent => exact ⟨_, fun s => State.actD_gate s _ _ _⟩
  | supplyUndervoltage => exact ⟨_, fun s => State.actD_gate s _ _ _⟩
  | sfSupplyClr => exact ⟨_, fun s => State.accD_gate s _ _ _ _⟩
  | supplyPulseStart => exact ⟨_, fun s => State.actD_gate s _ _ _⟩
  | pulseCheck => exact ⟨_, fun s => State.actD_gate s _ _ _⟩
  | crossShortCheck => exact ⟨_, fun s => State.actD_gate s _ _ _⟩
  | pulseMaskEnd => exact ⟨_, fun s => State.actD_gate s _ _ _⟩
  | boundaryCommit => exact ⟨_, fun s => State.act_gate s _ _⟩
  | intermediateCommit => exact ⟨_, fun s => State.act_gate s _ _⟩
  | pairMismatch => exact ⟨_, fun s => State.actD_gate s _ _ _⟩
  | pcSplit => exact ⟨_, fun s => State.actD_gate s _ _ _⟩
  | pcRejoin => exact ⟨_, fun s => State.actD_gate s _ _ _⟩
  | pcCntclr => exact ⟨_, fun s => State.actD_gate s _ _ _⟩
  | linkLossOfLock => exact ⟨_, fun s => State.actD_gate s _ _ _⟩
  | blockLock => exact ⟨_, fun s => State.actD_gate s _ _ _⟩
  | linkUp => exact ⟨_, fun s => State.actD_gate s _ _ _⟩
  | messageForward => exact ⟨_, fun s => State.actD_gate s _ _ _⟩
  | syncReceive => exact ⟨_, fun s => State.actD_gate s _ _ _⟩
  | heartbeatReceive => exact ⟨_, fun s => State.actD_gate s _ _ _⟩
  | heartbeatDue => exact ⟨_, fun s => State.actD_gate s _ _ _⟩
  | ftannReceive => exact ⟨_, fun s => State.actD_gate s _ _ _⟩
  | claimReceive => exact ⟨_, fun s => State.actD_gate s _ _ _⟩
  | abdicateReceive => exact ⟨_, fun s => State.actD_gate s _ _ _⟩
  | handoverReceive => exact ⟨_, fun s => State.actD_gate s _ _ _⟩
  | commandReceive => exact ⟨_, fun s => State.actD_gate s _ _ _⟩
  | cfghashReceive => exact ⟨_, fun s => State.actD_gate s _ _ _⟩
  | statecopyReceive => exact ⟨_, fun s => State.actD_gate s _ _ _⟩
  | electionWindowEnd => exact ⟨_, fun s => State.actD_gate s _ _ _⟩
  | voteTimeout => exact ⟨_, fun s => State.actD_gate s _ _ _⟩
  | glAbdicate => exact ⟨_, fun s => State.actD_gate s _ _ _⟩
  | glHandgo => exact ⟨_, fun s => State.actD_gate s _ _ _⟩
  | handoverTimeout => exact ⟨_, fun s => State.actD_gate s _ _ _⟩
  | glElig => exact ⟨_, fun s => State.actD_gate s _ _ _⟩
  | glInelig => exact ⟨_, fun s => State.actD_gate s _ _ _⟩
  | glCntclr => exact ⟨_, fun s => State.actD_gate s _ _ _⟩
  | faultMessageAccept => exact ⟨_, fun s => execFaultMessageAccept_gate s _⟩
  | fcRearm => exact ⟨_, fun s => State.actD_gate s _ _ _⟩
  | fcCntclr => exact ⟨_, fun s => State.actD_gate s _ _ _⟩
  | fcDumpdone => exact ⟨_, fun s => State.actD_gate s _ _ _⟩
  | fcNbfree => exact ⟨_, fun s => State.actD_gate s _ _ _⟩
  | faultInjection => exact ⟨_, fun s => State.actD_gate s _ _ _⟩
  | lanternToggle => exact ⟨_, fun s => State.act_gate s _ _⟩
  | lanternTend => exact ⟨_, fun s => State.actD_gate s _ _ _⟩
  | tendTimeout => exact ⟨_, fun s => State.actD_gate s _ _ _⟩
  | neighbourLanternEdge => exact ⟨_, fun s => State.actD_gate s _ _ _⟩
  | neighbourWatchTimeout => exact ⟨_, fun s => State.actD_gate s _ _ _⟩
  | dumpContextStart => exact ⟨_, fun s => State.actD_gate s _ _ _⟩
  | dumpContextTimeout => exact ⟨_, fun s => State.actD_gate s _ _ _⟩
  | dumpEngineStart => exact ⟨_, fun s => State.actD_gate s _ _ _⟩
  | dumpAnswerTimeout => exact ⟨_, fun s => State.actD_gate s _ _ _⟩
  | dumpDataSend => exact ⟨_, fun s => State.actD_gate s _ _ _⟩
  | dumpOfferReceive => exact ⟨_, fun s => State.actD_gate s _ _ _⟩
  | dumpAcceptReceive => exact ⟨_, fun s => State.actD_gate s _ _ _⟩
  | dumpRefuseReceive => exact ⟨_, fun s => State.actD_gate s _ _ _⟩
  | dumpDataReceive => exact ⟨_, fun s => State.actD_gate s _ _ _⟩
  | dumpEndReceive => exact ⟨_, fun s => State.actD_gate s _ _ _⟩
  | dumpStoreComplete => exact ⟨_, fun s => State.actD_gate s _ _ _⟩
  | dumpReceiveTimeout => exact ⟨_, fun s => State.actD_gate s _ _ _⟩
  | dumpDoneReceive => exact ⟨_, fun s => State.actD_gate s _ _ _⟩
  | scPost => exact ⟨_, fun s => State.actD_gate s _ _ _⟩
  | scEnter => exact ⟨_, fun s => State.actD_gate s _ _ _⟩
  | scNext => exact ⟨_, fun s => State.actD_gate s _ _ _⟩
  | scCntclr => exact ⟨_, fun s => State.actD_gate s _ _ _⟩
  | flowEnableWrite => exact ⟨_, fun s => State.actD_gate s _ _ _⟩
  | timerArm => exact ⟨_, fun s => State.actD_gate s _ _ _⟩
  | timerInsertion => exact ⟨_, fun s => State.actD_gate s _ _ _⟩
  | timerExpiry => exact ⟨_, fun s => State.actD_gate s _ _ _⟩
  | headroomUpdate => exact ⟨_, fun s => State.actD_gate s _ _ _⟩
  | deferralAge => exact ⟨_, fun s => State.actD_gate s _ _ _⟩
  | hqPutWrite => exact ⟨_, fun s => State.actD_gate s _ _ _⟩
  | hqPush => exact ⟨_, fun s => State.actD_gate s _ _ _⟩
  | hqTake => exact ⟨_, fun s => State.actD_gate s _ _ _⟩
  | hqMark => exact ⟨_, fun s => State.actD_gate s _ _ _⟩
  | hqRewind => exact ⟨_, fun s => State.actD_gate s _ _ _⟩
  | hqCntclr => exact ⟨_, fun s => State.actD_gate s _ _ _⟩
  | hostNop => exact ⟨_, fun s => State.act_gate s _ _⟩
  | hostPut => exact ⟨_, fun s => State.act_gate s _ _⟩
  | hostStatus => exact ⟨_, fun s => State.act_gate s _ _⟩
  | hostBadCommand => exact ⟨_, fun s => State.act_gate s _ _⟩
  | enterService => exact ⟨_, fun s => State.act_gate s _ _⟩
  | restart => exact ⟨_, fun s => State.act_gate s _ _⟩
  | handover => exact ⟨_, fun s => State.act_gate s _ _⟩
  | ceiling => exact ⟨_, fun s => State.act_gate s _ _⟩
  | integratorCode => exact ⟨_, fun s => State.act_gate s _ _⟩
  | hpIrqset => exact ⟨_, fun s => State.act_gate s _ _⟩
  | hpIrqclr => exact ⟨_, fun s => State.act_gate s _ _⟩
  | hpCntclr => exact ⟨_, fun s => State.act_gate s _ _⟩
  | cycleStart => exact ⟨_, fun s => State.actD_gate s _ _ _⟩
  | syncLossExpiry => exact ⟨_, fun s => State.actD_gate s _ _ _⟩
  | masterTakeExpiry => exact ⟨_, fun s => State.actD_gate s _ _ _⟩
  | portMute => exact ⟨_, fun s => State.actD_gate s _ _ _⟩
  | portUnmute => exact ⟨_, fun s => State.actD_gate s _ _ _⟩
  | partnerAbsence => exact ⟨_, fun s => State.actD_gate s _ _ _⟩
  | fetchPoint => exact ⟨_, fun s => State.actD_gate s _ _ _⟩
  | frameSend => exact ⟨_, fun s => State.actD_gate s _ _ _⟩
  | ttTxrdy => exact ⟨_, fun s => State.accD_gate s _ _ _ _⟩
  | crelasFrameReceive => exact ⟨_, fun s => State.actD_gate s _ _ _⟩
  | ttUnmute => exact ⟨_, fun s => State.accD_gate s _ _ _ _⟩
  | ttCntclr => exact ⟨_, fun s => State.accD_gate s _ _ _ _⟩
  | portLinkChange => exact ⟨_, fun s => State.actD_gate s _ _ _⟩
  | canFrameReceive => exact ⟨_, fun s => State.actD_gate s _ _ _⟩
  | canFrameSent => exact ⟨_, fun s => State.actD_gate s _ _ _⟩
  | canProtocolError => exact ⟨_, fun s => State.actD_gate s _ _ _⟩
  | busOffRecovery => exact ⟨_, fun s => State.actD_gate s _ _ _⟩
  | cnTxreq => exact ⟨_, fun s => State.accD_gate s _ _ _ _⟩
  | cnRecover => exact ⟨_, fun s => State.accD_gate s _ _ _ _⟩
  | cnCntclr => exact ⟨_, fun s => State.accD_gate s _ _ _ _⟩
  | pdReqWrite => exact ⟨_, fun s => State.act_gate s _ _⟩
  | domainTransition => exact ⟨_, fun s => State.act_gate s _ _⟩
  | sleep => exact ⟨_, fun s => State.actD_gate s _ _ _⟩
  | lpoCalibrationEnd => exact ⟨_, fun s => State.act_gate s _ _⟩
  | ckCalgo => exact ⟨_, fun s => State.act_gate s _ _⟩
  | ckDivgo => exact ⟨_, fun s => State.act_gate s _ _⟩
  | rootLoss => exact ⟨_, fun s => State.act_gate s _ _⟩
  | frequencyCheck => exact ⟨_, fun s => State.act_gate s _ _⟩
  | whistleFrame => exact ⟨_, fun s => State.actAo_gate s _ _⟩
  | slowAlarm => exact ⟨_, fun s => State.actAo_gate s _ _⟩
  | safetyInputWake => exact ⟨_, fun s => State.actAo_gate s _ _⟩
  | wkCntclr => exact ⟨_, fun s => State.act_gate s _ _⟩
  | voltageRequest => exact ⟨_, fun s => State.act_gate s _ _⟩
  | voltageAcknowledge => exact ⟨_, fun s => State.act_gate s _ _⟩
  | voltageAckTimeout => exact ⟨_, fun s => State.act_gate s _ _⟩
  | transactionFail => exact ⟨_, fun s => State.act_gate s _ _⟩
  | transactionRetry => exact ⟨_, fun s => State.act_gate s _ _⟩
  | operationWrite => exact ⟨_, fun s => State.act_gate s _ _⟩
  | clearFaults => exact ⟨_, fun s => State.act_gate s _ _⟩
  | statusWordRead => exact ⟨_, fun s => State.act_gate s _ _⟩
  | operationRead => exact ⟨_, fun s => State.act_gate s _ _⟩
  | pmPoll => exact ⟨_, fun s => State.act_gate s _ _⟩
  | pmAlert => exact ⟨_, fun s => State.actAo_gate s _ _⟩
  | stSlice => exact ⟨_, fun s => State.actD_gate s _ _ _⟩
  | sliceEnd => exact ⟨_, fun s => State.actD_gate s _ _ _⟩
  | sliceBudgetExpiry => exact ⟨_, fun s => State.actD_gate s _ _ _⟩
  | sliceAccessAbort => exact ⟨_, fun s => State.actD_gate s _ _ _⟩
  | stSweep => exact ⟨_, fun s => State.actD_gate s _ _ _⟩
  | stProggo => exact ⟨_, fun s => State.actD_gate s _ _ _⟩
  | stAbort => exact ⟨_, fun s => State.actD_gate s _ _ _⟩
  | stCntclr => exact ⟨_, fun s => State.actD_gate s _ _ _⟩
  | memtokReceive => exact ⟨_, fun s => State.actD_gate s _ _ _⟩
  | memtokRegen => exact ⟨_, fun s => State.actD_gate s _ _ _⟩
  | lcadv => exact ⟨_, fun s => State.act_gate s _ _⟩
  | lcterm => exact ⟨_, fun s => State.act_gate s _ _⟩
  | keyprog => exact ⟨_, fun s => State.act_gate s _ _⟩
  | keyrev => exact ⟨_, fun s => State.act_gate s _ _⟩
  | ftmode => exact ⟨_, fun s => State.act_gate s _ _⟩
  | jtagSweep => exact ⟨_, fun s => State.act_gate s _ _⟩
  | lcGo => exact ⟨_, fun s => State.actD_gate s _ _ _⟩
  | lcFtmon => exact ⟨_, fun s => State.actD_gate s _ _ _⟩
  | otpWriteComplete => exact ⟨_, fun s => State.act_gate s _ _⟩
  | safetyInputChange => exact ⟨_, fun s => State.actAo_gate s _ _⟩
  | safetyDiscrepancy => exact ⟨_, fun s => State.actD_gate s _ _ _⟩
  | sfDiscclr => exact ⟨_, fun s => State.accD_gate s _ _ _ _⟩
  | sfInjgo => exact ⟨_, fun s => State.accD_gate s _ _ _ _⟩
  | injectionPhaseEnd => exact ⟨_, fun s => State.actD_gate s _ _ _⟩
  | registerWrite => exact ⟨_, fun s => State.actD_gate s _ _ _⟩
  | pmbusTransactionEnd => exact ⟨_, fun s => State.act_gate s _ _⟩
  | gdSliceInjection => exact ⟨_, fun s => State.actD_gate s _ _ _⟩
  | eccError => exact ⟨_, fun s => State.actD_gate s _ _ _⟩
  | mramControllerFailure => exact ⟨_, fun s => State.actD_gate s _ _ _⟩
  | busParityError => exact ⟨_, fun s => State.actD_gate s _ _ _⟩
  | deviceAccessTimeout => exact ⟨_, fun s => State.actD_gate s _ _ _⟩
  | coreDebug => exact ⟨_, fun s => State.actD_gate s _ _ _⟩

/-- A command that is a core access meets a domain that is not ON (R450 of 13_power_clocks_wake). -/
theorem exec_down (c : Instr) (s : State) (d : Dom) (r : RegAcc) (h : accessOf c = some (d, r)) (hr : s.ready c.lane (gateOf c))
    (hd : (s.lane c.lane).domOn d = false) : exec c s = .next (s.inLane c.lane (fun l => l.downAccess d r)) := by
  cases c with
  | powerUp => cases h
  | resetRelease => cases h
  | nrstAssert => cases h
  | supplyOutOfRange => cases h
  | vbatLow => cases h
  | vbatBrownOut => cases h
  | pllLock => cases h
  | sweepEnd => cases h
  | imageLoadEnd => cases h
  | imageLock => cases h
  | gateDriverCheckEnd => cases h
  | outerCycleBoundary => cases h
  | armTimeout => cases h
  | degradedTimeExpiry => cases h
  | dieTemperatureHold => cases h
  | commandAgeLimit => cases h
  | autoRestart => cases h
  | partitionDecision => cases h
  | leInnerPeriod => cases h
  | leOpen => cases h; exact State.accX_down s _ _ _ _ _ hr hd
  | leClose => cases h; exact State.accX_down s _ _ _ _ _ hr hd
  | leIntclr => cases h; exact State.accX_down s _ _ _ _ _ hr hd
  | leCntclr => cases h; exact State.accX_down s _ _ _ _ _ hr hd
  | leOwWrite => cases h; exact State.accX_down s _ _ _ _ _ hr hd
  | leLvWrite => cases h; exact State.accX_down s _ _ _ _ _ hr hd
  | leOpenmaxExpiry => cases h
  | modReload => cases h
  | modWriteStageWrite => cases h; exact State.accX_down s _ _ _ _ _ hr hd
  | modCommit => cases h; exact State.accX_down s _ _ _ _ _ hr hd
  | modDiscard => cases h; exact State.accX_down s _ _ _ _ _ hr hd
  | modPasson => cases h; exact State.accX_down s _ _ _ _ _ hr hd
  | modPassoff => cases h; exact State.accX_down s _ _ _ _ _ hr hd
  | modCntclr => cases h; exact State.accX_down s _ _ _ _ _ hr hd
  | delayLineCalibration => cases h
  | tripOnset => cases h
  | tripInputInactive => cases h
  | auxWindowStart => cases h
  | auxWindowEnd => cases h
  | modTripclr => cases h; exact State.accD_down s _ _ _ _ hr hd
  | blankcntRead => cases h; exact State.accD_down s _ _ _ _ hr hd
  | tqDecision => cases h
  | alignTimerExpiry => cases h
  | holdTimerExpiry => cases h
  | lowSpeedTimerExpiry => cases h
  | catchPulse => cases h
  | catchTimeout => cases h
  | tqOwWrite => cases h; exact State.accTq_down s _ _ _ _ hr hd
  | tqCntclr => cases h; exact State.accTq_down s _ _ _ _ hr hd
  | gateEnableRequest => cases h; exact State.accX_down s _ _ _ _ _ hr hd
  | gateEnableDrop => cases h; exact State.accX_down s _ _ _ _ _ hr hd
  | gdSafeRequest => cases h; exact State.accX_down s _ _ _ _ _ hr hd
  | gdCntclr => cases h; exact State.accX_down s _ _ _ _ _ hr hd
  | interlockRefusal => cases h
  | minimumGapDelay => cases h
  | hardShort => cases h
  | cpuvChange => cases h
  | keepAliveLoss => cases h
  | keepAliveReceive => cases h
  | ov1Assert => cases h
  | ov1Release => cases h
  | ov2Assert => cases h
  | ov2Release => cases h
  | chopperPeriod => cases h
  | chopperOnEnd => cases h
  | chopperWatchExpiry => cases h
  | chopperOvercurrent => cases h
  | dlChclr => cases h
  | dlCntclr => cases h
  | commutatorHallChange => cases h
  | monitorConversion => cases h
  | adCntclr => cases h; exact State.accX_down s _ _ _ _ _ hr hd
  | hallEdge => cases h
  | neighbourCode => cases h
  | sincosSample => cases h
  | positionCompareTick => cases h
  | compareWrite => cases h; exact State.accX_down s _ _ _ _ _ hr hd
  | fbPosadjWrite => cases h; exact State.accX_down s _ _ _ _ _ hr hd
  | fbFltclr => cases h; exact State.accX_down s _ _ _ _ _ hr hd
  | readmission => cases h
  | fbCntclr => cases h; exact State.accX_down s _ _ _ _ _ hr hd
  | supplyOvercurrent => cases h
  | supplyUndervoltage => cases h
  | sfSupplyClr => cases h; exact State.accD_down s _ _ _ _ hr hd
  | supplyPulseStart => cases h
  | pulseCheck => cases h
  | crossShortCheck => cases h
  | pulseMaskEnd => cases h
  | boundaryCommit => cases h
  | intermediateCommit => cases h
  | pairMismatch => cases h
  | pcSplit => cases h
  | pcRejoin => cases h
  | pcCntclr => cases h
  | linkLossOfLock => cases h
  | blockLock => cases h
  | linkUp => cases h
  | messageForward => cases h
  | syncReceive => cases h
  | heartbeatReceive => cases h
  | heartbeatDue => cases h
  | ftannReceive => cases h
  | claimReceive => cases h
  | abdicateReceive => cases h
  | handoverReceive => cases h
  | commandReceive => cases h
  | cfghashReceive => cases h
  | statecopyReceive => cases h
  | electionWindowEnd => cases h
  | voteTimeout => cases h
  | glAbdicate => cases h
  | glHandgo => cases h
  | handoverTimeout => cases h
  | glElig => cases h
  | glInelig => cases h
  | glCntclr => cases h
  | faultMessageAccept => cases h
  | fcRearm => cases h
  | fcCntclr => cases h
  | fcDumpdone => cases h
  | fcNbfree => cases h
  | faultInjection => cases h
  | lanternToggle => cases h
  | lanternTend => cases h
  | tendTimeout => cases h
  | neighbourLanternEdge => cases h
  | neighbourWatchTimeout => cases h
  | dumpContextStart => cases h
  | dumpContextTimeout => cases h
  | dumpEngineStart => cases h
  | dumpAnswerTimeout => cases h
  | dumpDataSend => cases h
  | dumpOfferReceive => cases h
  | dumpAcceptReceive => cases h
  | dumpRefuseReceive => cases h
  | dumpDataReceive => cases h
  | dumpEndReceive => cases h
  | dumpStoreComplete => cases h
  | dumpReceiveTimeout => cases h
  | dumpDoneReceive => cases h
  | scPost => cases h
  | scEnter => cases h
  | scNext => cases h
  | scCntclr => cases h
  | flowEnableWrite => cases h
  | timerArm => cases h
  | timerInsertion => cases h
  | timerExpiry => cases h
  | headroomUpdate => cases h
  | deferralAge => cases h
  | hqPutWrite => cases h
  | hqPush => cases h
  | hqTake => cases h
  | hqMark => cases h
  | hqRewind => cases h
  | hqCntclr => cases h
  | hostNop => cases h
  | hostPut => cases h
  | hostStatus => cases h
  | hostBadCommand => cases h
  | enterService => cases h
  | restart => cases h
  | handover => cases h
  | ceiling => cases h
  | integratorCode => cases h
  | hpIrqset => cases h
  | hpIrqclr => cases h
  | hpCntclr => cases h
  | cycleStart => cases h
  | syncLossExpiry => cases h
  | masterTakeExpiry => cases h
  | portMute => cases h
  | portUnmute => cases h
  | partnerAbsence => cases h
  | fetchPoint => cases h
  | frameSend => cases h
  | ttTxrdy => cases h; exact State.accD_down s _ _ _ _ hr hd
  | crelasFrameReceive => cases h
  | ttUnmute => cases h; exact State.accD_down s _ _ _ _ hr hd
  | ttCntclr => cases h; exact State.accD_down s _ _ _ _ hr hd
  | portLinkChange => cases h
  | canFrameReceive => cases h
  | canFrameSent => cases h
  | canProtocolError => cases h
  | busOffRecovery => cases h
  | cnTxreq => cases h; exact State.accD_down s _ _ _ _ hr hd
  | cnRecover => cases h; exact State.accD_down s _ _ _ _ hr hd
  | cnCntclr => cases h; exact State.accD_down s _ _ _ _ hr hd
  | pdReqWrite => cases h
  | domainTransition => cases h
  | sleep => cases h
  | lpoCalibrationEnd => cases h
  | ckCalgo => cases h
  | ckDivgo => cases h
  | rootLoss => cases h
  | frequencyCheck => cases h
  | whistleFrame => cases h
  | slowAlarm => cases h
  | safetyInputWake => cases h
  | wkCntclr => cases h
  | voltageRequest => cases h
  | voltageAcknowledge => cases h
  | voltageAckTimeout => cases h
  | transactionFail => cases h
  | transactionRetry => cases h
  | operationWrite => cases h
  | clearFaults => cases h
  | statusWordRead => cases h
  | operationRead => cases h
  | pmPoll => cases h
  | pmAlert => cases h
  | stSlice => cases h
  | sliceEnd => cases h
  | sliceBudgetExpiry => cases h
  | sliceAccessAbort => cases h
  | stSweep => cases h
  | stProggo => cases h
  | stAbort => cases h
  | stCntclr => cases h
  | memtokReceive => cases h
  | memtokRegen => cases h
  | lcadv => cases h
  | lcterm => cases h
  | keyprog => cases h
  | keyrev => cases h
  | ftmode => cases h
  | jtagSweep => cases h
  | lcGo => cases h
  | lcFtmon => cases h
  | otpWriteComplete => cases h
  | safetyInputChange => cases h
  | safetyDiscrepancy => cases h
  | sfDiscclr => cases h; exact State.accD_down s _ _ _ _ hr hd
  | sfInjgo => cases h; exact State.accD_down s _ _ _ _ hr hd
  | injectionPhaseEnd => cases h
  | registerWrite => cases h
  | pmbusTransactionEnd => cases h
  | gdSliceInjection => cases h
  | eccError => cases h
  | mramControllerFailure => cases h
  | busParityError => cases h
  | deviceAccessTimeout => cases h
  | coreDebug => cases h

/-- A lane that is there and has what the gate asks for takes the operation. -/
theorem State.onLane_ready (s : State) (i : LaneId) (g : Gate) (f : Lane → Lane) (h : s.ready i g) :
    s.onLane i (fun l => if g.holds l then f l else l) = s.inLane i f := by
  rw [State.onLane_here s i _ h.1]
  simp only [h.2, if_true]
  rfl

theorem State.actAo_ready (s : State) (i : LaneId) (f : Lane → Lane) (h : s.ready i .always) : s.actAo i f = .next (s.inLane i f) := by
  rw [State.actAo_gate, State.onLane_ready s i _ f h]

theorem State.actWake_ready (s : State) (i : LaneId) (f : Lane → Lane) (h : s.ready i .wake) :
    s.actWake i f = .next (s.inLane i f) := by
  rw [State.actWake_gate, State.onLane_ready s i _ f h]

theorem State.act_ready (s : State) (i : LaneId) (f : Lane → Lane) (h : s.ready i .clocked) : s.act i f = .next (s.inLane i f) := by
  rw [State.act_gate, State.onLane_ready s i _ f h]

theorem State.actD_ready (s : State) (i : LaneId) (d : Dom) (f : Lane → Lane) (h : s.ready i (.domain d)) :
    s.actD i d f = .next (s.inLane i f) := by
  rw [State.actD_gate, State.onLane_ready s i _ f h]

theorem State.actX_ready (s : State) (i : LaneId) (x : Ax) (d : Dom) (f : Lane → Lane) (h : s.ready i (.axis x d)) :
    s.actX i x d f = .next (s.inLane i f) := by
  rw [State.actX_gate, State.onLane_ready s i _ f h]

theorem State.actTq_ready (s : State) (i : LaneId) (x : Ax) (f : Lane → Lane) (h : s.ready i (.table x)) :
    s.actTq i x f = .next (s.inLane i f) := by
  rw [State.actTq_gate, State.onLane_ready s i _ f h]

theorem State.accD_ready (s : State) (i : LaneId) (d : Dom) (r : RegAcc) (f : Lane → Lane) (h : s.ready i (.domain d)) :
    s.accD i d r f = .next (s.inLane i f) := by
  have hh := h.2
  simp only [Gate.holds, Bool.and_eq_true] at hh
  rw [State.accD_gate, State.onLane_here s i _ h.1]
  simp [State.inLane, Gate.holds, hh]

theorem State.accX_ready (s : State) (i : LaneId) (x : Ax) (d : Dom) (r : RegAcc) (f : Lane → Lane) (h : s.ready i (.axis x d)) :
    s.accX i x d r f = .next (s.inLane i f) := by
  have hh := h.2
  simp only [Gate.holds, Bool.and_eq_true] at hh
  rw [State.accX_gate, State.onLane_here s i _ h.1]
  simp [State.inLane, Gate.holds, hh]

theorem State.accTq_ready (s : State) (i : LaneId) (x : Ax) (r : RegAcc) (f : Lane → Lane) (h : s.ready i (.table x)) :
    s.accTq i x r f = .next (s.inLane i f) := by
  have hh := h.2
  simp only [Gate.holds, Bool.and_eq_true] at hh
  rw [State.accTq_gate, State.onLane_here s i _ h.1]
  simp [State.inLane, Gate.holds, hh]

/-- A change at a pin, where the function it feeds runs. -/
theorem State.actPin_ready (s : State) (i : LaneId) (ok : Lane → Bool) (pin f : Lane → Lane) (h : s.part.hasLane i = true)
    (hk : ok (s.lane i) = true) : s.actPin i ok pin f = .next (s.inLane i f) := by
  unfold State.actPin
  rw [State.actAo_ready s i _ ⟨h, rfl⟩]
  simp [State.inLane, hk]

/-- A change at a pin, where the function it feeds does not run: the level is kept. -/
theorem State.actPin_kept (s : State) (i : LaneId) (ok : Lane → Bool) (pin f : Lane → Lane) (h : s.part.hasLane i = true)
    (hk : ok (s.lane i) = false) : s.actPin i ok pin f = .next (s.inLane i pin) := by
  unfold State.actPin
  rw [State.actAo_ready s i _ ⟨h, rfl⟩]
  simp [State.inLane, hk]

/-- A function of the driver die of a lane that is out of reset. -/
theorem State.actDie_ready (s : State) (i : LaneId) (f : Lane → Lane) (h : s.part.hasLane i = true) (hh : (s.lane i).sy.held = false) :
    s.actDie i f = .next (s.inLane i f) := by
  unfold State.actDie
  rw [State.actAo_ready s i _ ⟨h, rfl⟩]
  simp [State.inLane, Lane.inDie, hh]

/-- A function of the driver die of a lane held in reset: nobody hears of it. -/
theorem State.actDie_held (s : State) (i : LaneId) (f : Lane → Lane) (h : s.part.hasLane i = true) (hh : (s.lane i).sy.held = true)
    (hd : (s.lane i).sy.dead = false) : s.actDie i f = .next (s.inLane i (fun l => l.dieOnly f)) := by
  unfold State.actDie
  rw [State.actAo_ready s i _ ⟨h, rfl⟩]
  simp [State.inLane, Lane.inDie, hh, hd]

/-- A function of the driver die of a lane whose A_VBAT is below 4.5 V does nothing. -/
theorem State.actDie_dead (s : State) (i : LaneId) (f : Lane → Lane) (h : s.part.hasLane i = true) (hh : (s.lane i).sy.held = true)
    (hd : (s.lane i).sy.dead = true) : s.actDie i f = .next s := by
  unfold State.actDie
  rw [State.actAo_ready s i _ ⟨h, rfl⟩]
  simp [State.inLane, Lane.inDie, hh, hd]

/-- A function of AO of a lane that is out of reset. -/
theorem State.actAo_awake (s : State) (i : LaneId) (f : Lane → Lane) (h : s.part.hasLane i = true) (hh : (s.lane i).sy.held = false) :
    s.actAo i (fun l => l.inAo f) = .next (s.inLane i f) := by
  rw [State.actAo_ready s i _ ⟨h, rfl⟩]
  simp [State.inLane, Lane.inAo, hh]

/-- Two operations that agree on a lane change the module alike. -/
theorem State.inLane_congr (s : State) (i : LaneId) (f g : Lane → Lane) (h : f (s.lane i) = g (s.lane i)) :
    s.inLane i f = s.inLane i g := by
  unfold State.inLane
  rw [h]

end Sys2Proof.Machine
end

