-- ==== Sys2Proof/Tests/Slice0.lean ====
section
/-!
SUPPORT. Small tests of the model: that WellFormed refuses an ill-formed operand for each of its checks, values worked out by hand from the
spec's tables, and for every statement with hypotheses states and operands that meet them.
-/

namespace Sys2Proof.Tests

open Machine

set_option Elab.async false

/-- Lane A of an APX-9603 in operation: out of reset, the core running, at a time well after power-up, with some fields set. -/
def up (fs : List (Fld × Nat)) (f : Lane → Lane := id) : Lane :=
  f (fs.foldl (fun l p => l.wr p.1 p.2)
    { Lane.reset .apx9603 .A with now := 100000000, sy := { held := false, boots := 1 }, pc := { core := .running } })

/-- The module with that lane. -/
def mk (l : Lane) : State := { State.reset with la := l }

/-- An access that lies within one lane's memory. -/
def nextLane (o : Host.Outcome State Fault Refusal) : Option Lane :=
  match o with
  | .next s => some s.la
  | _ => none

/-! ### Well-formed commands -/

theorem test_wf_access_misaligned : (Instr.registerWrite .A false 2 4 0#64).wf = false := by decide
theorem test_wf_access_width : (Instr.registerWrite .A false 0 3 0#64).wf = false := by decide
theorem test_wf_access_address : (Instr.registerWrite .A false (2 ^ 40) 4 0#64).wf = false := by decide
theorem test_wf_access_value : (Instr.registerWrite .A false 0 1 256#64).wf = false := by decide
theorem test_wf_access_good : (Instr.registerWrite .A false (2 ^ 40 - 8) 8 (-1)).wf = true := by decide
theorem test_wf_lv_width : (Instr.leLvWrite .A .x0 .setp 2 0#64).wf = false := by decide
theorem test_wf_lv_value : (Instr.leLvWrite .A .x0 .setp 4 0x100000000#64).wf = false := by decide
theorem test_wf_debug : (Instr.coreDebug .A (.read 1 2)).wf = false := by decide
theorem test_wf_compare : (Instr.compareWrite .A .x0 0 .config 0x100000000#64).wf = false := by decide
theorem test_wf_load : (Instr.imageLoadEnd .A [(0x8000000, [])]).wf = false := by decide
theorem test_wf_hash : (Instr.keyprog .A 0 true false [0#8]).wf = false := by decide
/-- A CLAIM but for one field. -/
def claim (type route len cycle epoch chunk chunks : Nat) (p pad : List Byte) (trailer : Nat) : Bool :=
  (Instr.claimReceive .A ⟨type, route, len, cycle, epoch, chunk, chunks, p, pad, trailer⟩).wf

theorem test_wf_message :
    claim 3 0x71 8 0 0 0 1 [] [] 0 = true ∧ claim 256 0 8 0 0 0 1 [] [] 0 = false ∧ claim 3 256 8 0 0 0 1 [] [] 0 = false ∧
    claim 3 0 65536 0 0 0 1 [] [] 0 = false ∧ claim 3 0 8 (2 ^ 32) 0 0 1 [] [] 0 = false ∧ claim 3 0 8 0 (2 ^ 32) 0 1 [] [] 0 = false ∧
    claim 3 0 8 0 0 65536 1 [] [] 0 = false ∧ claim 3 0 8 0 0 0 65536 [] [] 0 = false ∧
    claim 3 0 8 0 0 0 1 (List.replicate 257 0#8) [] 0 = false ∧ claim 3 0 8 0 0 0 1 [] (List.replicate 8 0#8) 0 = false ∧
    claim 3 0 8 0 0 0 1 [] [] (2 ^ 32) = false := by decide +kernel
theorem test_wf_can :
    (Instr.canFrameReceive .A ⟨2 ^ 32, 0, false, false, []⟩).wf = false ∧ (Instr.canFrameReceive .A ⟨0, 16, false, false, []⟩).wf = false ∧
    (Instr.canFrameReceive .A ⟨0, 15, false, false, List.replicate 65 0#8⟩).wf = false := by decide +kernel
theorem test_wf_crelas :
    (Instr.crelasFrameReceive .A 0 ⟨List.replicate 1518 0#8, true⟩ 0#16).wf = true ∧
    (Instr.crelasFrameReceive .A 0 ⟨List.replicate 1519 0#8, true⟩ 0#16).wf = false := by decide +kernel

theorem test_wf_lengths :
    (Instr.ttTxrdy .A 0 257).wf = false ∧ (Instr.ttTxrdy .A 0 256).wf = true ∧ (Instr.sliceEnd .A .pass 1001).wf = false ∧
    (Instr.sliceEnd .A .pass 1000).wf = true := by decide

/-! ### Values from the spec's tables and from the standards it cites -/

/-- The check value of CRC-32C, of the bytes "123456789". -/
theorem test_crc32c :
    crc32c [0x31#8, 0x32#8, 0x33#8, 0x34#8, 0x35#8, 0x36#8, 0x37#8, 0x38#8, 0x39#8] = 0xE3069283 := by decide +kernel
/-- 1.5 and −1.5 raw steps: ties go away from zero (R55). -/
theorem test_round_ties : Q.roundDiv 3 2 = 2 ∧ Q.roundDiv (-3) 2 = -2 ∧ Q.roundDiv 5 4 = 1 ∧ Q.roundDiv (-5) 4 = -1 := by decide
/-- The lengths of Table 1.4. -/
theorem test_profiles : outerUs 0 = 50 ∧ outerUs 1 = 100 ∧ outerUs 2 = 400 ∧ profMv 0 = 800 ∧ profMv 2 = 680 := by decide
/-- The parts of Table 0.3. -/
theorem test_parts : Part.hasLane .apx9602 .C = false ∧ Part.hasAxis .apx9613 .x1 = false ∧ Part.hasTq .apx9613 = false := by decide
/-- A DLC of 15 is 64 bytes in the FD format, 8 in the classical one (ISO 11898-1). -/
theorem test_dlc : dlcLen true 15 = 64 ∧ dlcLen false 15 = 8 ∧ dlcLen true 9 = 12 := by decide

/-! ### States and operands that meet the hypotheses of the statements -/

theorem wit_FrontCommandRuns : ({ State.reset with pending := [.hpIrqset .A, .hpIrqclr .B] } : State).pending = .hpIrqset .A :: [.hpIrqclr .B] :=
  rfl

theorem wit_IdleStepIsTime : State.reset.pending = [] ∧ State.reset.part.hasLane .C = true ∧ (State.reset.lane .C).sy.held = true ∧
    ({ State.reset with part := .apx9602 } : State).part.hasLane .C = false := by decide

theorem wit_NotReadyChangesNothing :
    let off : Lane := { up [(PD_STAT_STATE, 2 * 4 ^ 3)] with part := .apx9613 }
    ({ State.reset with part := .apx9602 } : State).part.hasLane (Instr.lane (.hpIrqset .C)) = false ∧
    gateOf (.hpIrqset .A) ≠ .always ∧ (State.reset.lane .A).sy.held = true ∧
    gateOf (.hpIrqset .A) ≠ .wake ∧ gateOf (.hpIrqset .A) ≠ .collector ∧
      ({ up [] with pw := { rootLost := true } } : Lane).pw.stopped = true ∧
    gateOf (.canFrameSent .A true) = .domain .nw ∧ (up [(PD_STAT_STATE, 2 * 4 ^ 6)]).domOn .nw = false ∧
    gateOf (.minimumGapDelay .A .x1) = .axis .x1 (.pg .x1) ∧ off.part.hasAxis .x1 = false ∧
    gateOf (.minimumGapDelay .A .x0) = .axis .x0 (.pg .x0) ∧ off.domOn (.pg .x0) = false ∧
    gateOf (.catchTimeout .A .x0) = .table .x0 ∧ off.part.hasTq = false := by decide +kernel

theorem wit_AbsentLaneStaysAsleep :
    let s : State := { part := .apx9602, la := Lane.reset .apx9602 .A, lb := Lane.reset .apx9602 .B, lc := Lane.reset .apx9602 .C, pending := [] }
    s.part.hasLane .C = false ∧ s.lane .C = Lane.reset s.part .C ∧ s.part.hasLane .A = true ∧ s.part.hasLane .B = true ∧
    step s = .next s.tick :=
  ⟨rfl, rfl, rfl, rfl, rfl⟩

theorem wit_RunLeavesOtherLanes :
    let s : State := { State.reset with pending := [.powerUp .A, .hpIrqset .B] }
    let s' : State := { s with lc := { s.lc with now := 1 } }
    2 ≤ s.pending.length ∧ s'.pending = s.pending ∧ s'.part = s.part ∧ (s.pending.take 2).all (fun c => decide (c.lane ≠ .C)) = true ∧
    s'.lane .A = s.lane .A ∧ s'.lane .B = s.lane .B ∧ s'.lane .C ≠ s.lane .C := by decide +kernel

theorem wit_EqualReadsAreEqualFiles : regsWf (up [(HP_STAT_IRQ, 1)]).regs = true ∧ Memory.wf ((up []).setByte 5 1#8).mem = true := by
  decide +kernel

theorem wit_LoopEnginePeriodCompletes :
    let l := up [] (fun l => l.setMd .x0 { (l.ax .x0).md with running := true })
    (mk l).ready .A (.axis .x0 (.le .x0)) ∧ (((mk l).lane .A).ax .x0).md.running = true ∧
    ((mk l).lane .A).on (LE_STAT_DRIVE .x0) = false ∧
    (up [(LE_STAT_STATE .x0, leFault)]).rd (LE_STAT_STATE .x0) = leFault ∧ l.rd (LE_STAT_STATE .x0) ≠ leFault := by decide +kernel

theorem wit_LoopEngineCommandsComplete :
    let l := up [(LE_STAT_STATE .x0, leOpen), (LE_STAT_FORCED .x0, 0)]
    let d := up [(LE_OPENMAX_MAX_US .x0, 1000)] (fun l => l.setLe .x0 { (l.ax .x0).le with openAt := some (l.now - 1000 * usec) })
    (mk l).ready .A (.axis .x0 (.le .x0)) ∧ (up [(LE_STAT_STATE .x0, leClosed)]).rd (LE_STAT_STATE .x0) = leClosed ∧
    l.rd (LE_STAT_STATE .x0) = leOpen ∧ l.on (LE_STAT_FORCED .x0) = false ∧ (l.ax .x0).le.openAt = none ∧
    inFfTable .x0 (fricBase .x0) = true ∧
    (∃ a d, inFfTable .x0 a = false ∧ blockOf a = some (.le, .x0, a % 0x10000) ∧ descOf a = some d ∧ d.bits (fun k => k = .ow) ≠ 0 ∧
      d.wide = 64 ∧ d.fits (fun k => k = .ow) 0 = true) ∧
    l.on PC_STAT_PAIR = false ∧
    (d.ax .x0).le.openAt = some (d.now - 1000 * usec) ∧ d.now - 1000 * usec + d.rd (LE_OPENMAX_MAX_US .x0) * usec ≤ d.now := by
  refine ⟨?_, ?_, ?_, ?_, ?_, ?_, ⟨0xF01000020, (descOf 0xF01000020).getD ⟨0, 0, 0, 0, 0, 0, []⟩, ?_⟩, ?_⟩ <;> decide +kernel
theorem wit_RefusedOwWriteIsCountedAndReported :
    let l := up [(LE_STAT_STATE .x0, leClosed)]
    (mk l).ready .A (.axis .x0 (.le .x0)) ∧ l.rd (LE_STAT_STATE .x0) ≠ leOpen ∧ inFfTable .x0 (cogBase .x0) = true ∧
    inFfTable .x0 0xF01000020 = false ∧ blockOf 0xF01000020 = some (.le, .x0, 0x20) ∧ (descOf 0xF01000020).isSome = true ∧
    0xF01000020 ≠ (LE_REJ_OWREJ .x0).addr ∧ 0xF01000020 ≠ FC_DROP_CE.addr ∧ 0xF01000020 ≠ (SY_EVSTAT_EV 1).addr := by decide +kernel

theorem wit_ModulatorCommandsComplete :
    let l := up [(LE_STAT_DRIVE .x0, 0)] (fun l => l.setMd .x0 { (l.ax .x0).md with running := true })
    (mk l).ready .A (.axis .x0 (.pg .x0)) ∧ l.reloadRuns .x0 false = true ∧ (l.modReload .x0 false).on (LE_STAT_DRIVE .x0) = false ∧
    ((l.set (LE_STAT_DRIVE .x0)).modReload .x0 false).on (LE_STAT_DRIVE .x0) = true ∧
    ((l.set (LE_STAT_DRIVE .x0)).modReload .x0 false).domOn (.le .x0) = true ∧ periodOk 51200 = true ∧ periodOk 25600000 = true ∧ periodOk 51199 = false ∧
    srcIsDirect (up [(MOD_CFG_SRC .x0, 1)]) .x0 = true ∧ srcIsLe (up [(MOD_CFG_SRC .x0, 0)]) .x0 = true ∧
    srcIsLe (up [(MOD_CFG_SRC .x0, 2)]) .x0 = false ∧ srcIsDirect (up [(MOD_CFG_SRC .x0, 2)]) .x0 = false ∧
    overlapMask 51200 ((List.range 3).map ((up [(MOD_CFG_SRC .x0, 1), (MOD_PER_TICKS .x0, 51200)]).directPhase .x0 51200)) = 0 := by
  decide +kernel

theorem wit_OverlappingGroupIsNotCommitted :
    let l := up [(MOD_CFG_SRC .x0, 1), (MOD_PER_TICKS .x0, 51200), (cmpR .x0 0, 100), (cmpF .x0 0, 40000), (cmpR .x0 1, 100),
      (cmpF .x0 1, 40000), (MOD_ENVD_DMAX .x0, 65535)] (fun l =>
        l.setMd .x0 { (l.ax .x0).md with reloadAt := some (l.now - 4), dirty := false, dirtySeen := false })
    (mk l).ready .A (.axis .x0 (.pg .x0)) ∧ (l.ax .x0).md.reloadAt = some (l.now - 4) ∧ l.now - 4 + 4 ≤ l.now ∧ srcIsLe l .x0 = false ∧
    srcIsDirect l .x0 = true ∧ overlapMask 51200 ((List.range 3).map (l.directPhase .x0 51200)) ≠ 0 := by decide +kernel

theorem wit_TripCommandsComplete :
    let l := up [(MOD_TRIPCFG_EN 0, 1), (MOD_TRIPCFG_BLANK 0, 1), (MOD_AUXCFG_EN 0, 1)] (fun l =>
      { l with trip := { l.trip with aux0 := some l.now } })
    let b : Lane := { l with trip := { l.trip with blanked := 1, aux0 := some (l.now + 1) } }
    (mk l).ready .A (.domain (.pg .x0)) ∧ l.rd (MOD_TRIPCFG_EN 0) ≠ 0 ∧ l.trip.input.testBit 0 = false ∧ l.blankOpen 0 = false ∧
    b.blankOpen 0 = true ∧ l.trip.blanked.testBit 0 = false ∧ l.on (MOD_AUXCFG_EN 0) = true ∧ l.trip.aux 0 = some l.now := by decide +kernel

theorem wit_DcLinkCommandsComplete :
    let l := up [(DL_OV_OV1, 500), (DL_OV_OV2, 600), (DL_CFG_EN, 1)]
    let a := up [(DL_STAT_OV1, 1), (DL_STAT_OV2, 1), (DL_CFG_EN, 1)] (fun l =>
      { l with dl := { l.dl with perAt := l.now - l.chopPer, onEnd := l.now, watch := some l.now } })
    let f := up [(DL_STAT_CHFAULT, 1)]
    (mk l).ready .A .clocked ∧ l.rd DL_OV_OV1 ≠ 0 ∧ l.on DL_STAT_OV1 = false ∧ l.rd DL_OV_OV2 ≠ 0 ∧ l.on DL_STAT_OV2 = false ∧
    a.on DL_STAT_OV2 = true ∧ a.on DL_STAT_OV1 = true ∧ a.on DL_CFG_EN = true ∧ a.rd DL_STAT_CHFAULT = 0 ∧
    a.dl.perAt + a.chopPer ≤ a.now ∧ a.dl.onEnd ≤ a.now ∧ a.dl.watch = some a.now ∧
    f.on DL_STAT_OV1 = false ∧ f.rd DL_STAT_CHFAULT ≠ 0 := by decide +kernel

theorem wit_GateDriverCommandsComplete :
    let l := up [(GD_TRIPSTAT_HS .x0, 1), (GD_STAT_PASS .x0, 1), (GD_STAT_CPUV .x0, 0)]
    let r := up [] (fun l => l.setGd .x0 { (l.ax .x0).gd with refusals := [l.now, l.now, l.now - msec] })
    let w := up [] (fun l => l.setGd .x0 { (l.ax .x0).gd with refusals := [l.now, l.now, l.now - msec - 1] })
    (mk l).ready .A (.axis .x0 (.pg .x0)) ∧ (mk l).ready .A .clocked ∧ l.part.hasAxis .x0 = true ∧
    (r.ax .x0).gd.refusals = [r.now, r.now, r.now - msec] ∧ r.now - (r.now - msec) ≤ msec ∧
    (w.ax .x0).gd.refusals = [w.now, w.now, w.now - msec - 1] ∧ msec < w.now - (w.now - msec - 1) ∧
    l.on (GD_STAT_PASS .x0) = true ∧ (commRow 1).isSome = true ∧
    (l.rd (GD_TRIPSTAT_HS .x0)).testBit 0 = true ∧ (l.rd (GD_TRIPSTAT_HS .x0)).testBit 1 = false ∧
    l.on (GD_STAT_CPUV .x0) = false ∧ l.cpuvLevel .x0 ≤ 65535 := by decide +kernel

/-- An axis whose enable no case of R186 refuses. -/
theorem wit_GateEnable : ∃ l : Lane, (mk l).ready .A (.axis .x0 (.pg .x0)) ∧ l.enableRefused .x0 = false :=
  ⟨up [(SY_MODE_OWN, mOperate), (GD_SNSRATIO_N .x0, 1), (GD_OCTH_AMPS .x0, 1), (MOD_ENVD_DMAX .x0, 1)], by decide +kernel⟩

theorem wit_LateKeepAliveCounts :
    let l := up [] (fun l => { l with dl := { l.dl with kaEnd := some (l.now - kaCycle + 1), kaLost := false } })
    let e := up [] (fun l => { l with dl := { l.dl with kaEnd := some (l.now - kaCycle), kaLost := true } })
    (mk l).ready .A .always ∧ l.dl.kaEnd = some (l.now - kaCycle + 1) ∧ l.now - kaCycle + 1 ≤ l.now ∧
    l.now < l.now - kaCycle + 1 + kaCycle ∧ l.dl.kaLost = false ∧
    e.dl.kaEnd = some (e.now - kaCycle) ∧ e.now - kaCycle + kaCycle ≤ e.now ∧ e.dl.kaLost = true := by decide +kernel

theorem wit_TorqueTableCommandsComplete :
    let f := fun (t : TqSt) (st : Nat) => up [(TQ_STAT_SLSTATE .x0, st), (LE_STAT_STATE .x0, leOpen)] (fun l => l.setTq .x0 t)
    let al := f { alignAt := 0, n := 100000000 } slAlign
    let ho := f { holdAt := some 0, n := 100000000 } slRamp
    let lo := f { lowAt := some 0, n := 100000000 } slRun
    let ca := f { catchAt := 0, n := catchLimit } slCatch
    (mk al).ready .A (.table .x0) ∧ al.rd (TQ_STAT_SLSTATE .x0) = slAlign ∧
    (al.ax .x0).tq.alignAt + decisionsOf (al.q (TQ_ALIGNT .x0)) ≤ (al.ax .x0).tq.n ∧
    (ho.ax .x0).tq.holdAt = some 0 ∧ ho.rd (TQ_STAT_SLSTATE .x0) = slRamp ∧
    0 + decisionsOf (ho.q (TQ_HOLDT .x0)) ≤ (ho.ax .x0).tq.n ∧ ho.rd (TQ_STAT_LOCK .x0) = 0 ∧
    (lo.ax .x0).tq.lowAt = some 0 ∧ lo.rd (TQ_STAT_SLSTATE .x0) = slRun ∧
    ca.rd (TQ_STAT_SLSTATE .x0) = slCatch ∧ (ca.ax .x0).tq.catchAt + catchLimit ≤ (ca.ax .x0).tq.n ∧
    (ca.ax .x0).tq.n ≤ (ca.ax .x0).tq.catchAt + catchLimit ∧
    blockOf 0xF01020020 = some (.tq, .x0, 0x20) ∧ al.rd (LE_STAT_STATE .x0) = leOpen ∧
    (up [(LE_STAT_STATE .x0, leClosed)]).rd (LE_STAT_STATE .x0) ≠ leOpen := by decide +kernel

theorem wit_TableRuns :
    let l := up [(LE_STAT_DRIVE .x0, 1)] (fun l => l.setMd .x0 { (l.ax .x0).md with running := true })
    l.tqRuns .x0 = true ∧ (up []).tqRuns .x0 = false := by decide +kernel
theorem wit_LateKeepAliveNeverArmed : (up []).dl.kaEnd = none ∧ (mk (up [])).ready .A .always := by decide +kernel

theorem wit_FeedbackCommandsComplete :
    let l := up [(FB_SCWIN_LO .x0, 0), (FB_SCWIN_HI .x0, 65535), (FB_CFG_SENS .x0, 2), (FB_SCAMP_SIN .x0, 1000), (FB_SCAMP_COS .x0, 1000), (LE_STAT_STATE .x0, leOpen)] (fun l =>
      l.setFb .x0 { (l.ax .x0).fb with sc := { clean := some (l.now - cleanSpan) }, own := { code := 5, clean := some (l.now - cleanSpan) } })
    (mk l).ready .A (.domain .fb) ∧ (mk l).ready .A (.axis .x0 .fb) ∧ (l.ax .x0).fb.maskHall = none ∧
    ((l.setFb .x0 { (l.ax .x0).fb with maskHall := some 1 }).ax .x0).fb.maskHall = some 1 ∧
    ¬ (l.scNorm .x0 1000 0).2.2.raw < (winQ (l.rd (FB_SCWIN_LO .x0))).raw ∧
    ¬ (winQ (l.rd (FB_SCWIN_HI .x0))).raw < (l.scNorm .x0 1000 0).2.2.raw ∧ (l.ax .x0).fb.maskSc = false ∧ l.hasSc .x0 = true ∧
    l.rd (LE_STAT_STATE .x0) = leOpen ∧ (up [(LE_STAT_STATE .x0, leClosed)]).rd (LE_STAT_STATE .x0) ≠ leOpen ∧
    (l.ax .x0).fb.sc.clean = some (l.now - cleanSpan) ∧ l.now - cleanSpan + cleanSpan ≤ l.now ∧
    (l.ax .x0).fb.own.clean = some (l.now - cleanSpan) ∧ (hallIdx (l.ax .x0).fb.own.code).isSome = true := by decide +kernel

theorem wit_SensorSupplyCommandsComplete :
    let pulse := fun (back : Nat) (ok : Bool) => up [(SF_SSCFG_PULSE 0, 1), (ssStat 0 0, 1)] (fun l =>
      l.setPulse 0 (some { slot := 0, start := l.now - back * usec, fell := ok, crossOk := ok }))
    let l := up [(SF_SSCFG_PULSE 0, 1), (ssStat 0 0, 1)]
    (mk l).ready .A (.domain .fb) ∧ l.sf.pulse 0 = none ∧
    slotLane 0 = l.me.code ∧ slotSupply 0 = 0 ∧ l.on (SF_SSCFG_PULSE 0) = true ∧ l.on (ssStat 0 0) = true ∧
    slotLane 5 ≠ l.me.code ∧ (up [(TT_STAT_TQ, 0)]).timeIsNetwork = true ∧
    (pulse 10 false).sf.pulse 0 = some { slot := 0, start := l.now - 10 * usec, fell := false, crossOk := false } ∧
    l.now - 10 * usec + 10 * usec ≤ l.now ∧
    (pulse 15 false).sf.pulse (slotSupply 0) = some { slot := 0, start := l.now - 15 * usec, fell := false, crossOk := false } ∧
    (pulse 30 true).sf.pulse 0 = some { slot := 0, start := l.now - 30 * usec, fell := true, crossOk := true } ∧
    (pulse 30 true).supplyMin 0 < 65535 := by decide +kernel

theorem wit_ResetCommandsComplete : (mk (up [])).ready .A .always ∧ (State.reset.lane .A).sy.held = true ∧ (up []).sy.held = false := by
  decide +kernel

theorem wit_BootCommandsComplete :
    let boot := fun (p : BootPhase) => up [(SY_MODE_OWN, mBoot)] (fun l => { l with im := { l.im with phase := p, gdRun := 1 } })
    let w := up [(SY_MODE_OWN, mOperate)] (fun l => { l with pw := { l.pw with step := .lock } })
    (mk (boot .lock)).ready .A .wake ∧ (boot .lock).mode = mBoot ∧ (boot .lock).im.phase = .lock ∧
    (mk w).ready .A .wake ∧ w.mode ≠ mBoot ∧ w.pw.step = .lock ∧
    (mk (boot .sweep)).ready .A .clocked ∧ (boot .sweep).im.phase = .sweep ∧ (boot .load).im.phase = .load ∧
    (boot .loaded).im.phase = .loaded ∧ (boot .loaded).im.gdRun.testBit Ax.x0.idx = true := by decide +kernel

theorem wit_GateDriverCheck :
    ∃ l : Lane, decide (l.rd (GD_CPMON_MV .x0) < l.cpuvLevel .x0) = false := ⟨up [(GD_CPMON_MV .x0, 65535)], by decide +kernel⟩

theorem wit_SafetyInputCommandsComplete :
    let l := up [(SF_SAFCFG_EN 0, 1), (SF_SAFCFG_DISC 0, 20), (SY_MODE_OWN, mOperate)] (fun l =>
      l.setSaf 0 { disc := some (l.now - 20 * msec) })
    let j := fun (chanB release : Bool) => up [(SY_MODE_OWN, mOperate)] (fun l =>
      { l with saf := { l.saf with inj := some { input := 0, chanB := chanB, release := release, due := l.now, failed := false } } })
    let a := up [(SY_MODE_OWN, mArming), (SY_ARMTIME_MS, 1)]
    (mk l).ready .A (.domain .fb) ∧ (mk l).ready .A .clocked ∧ l.injecting 0 = false ∧ (j false false).injecting 0 = true ∧
    (l.saf.get 0).disc = some (l.now - 20 * msec) ∧ l.on (SF_SAFCFG_EN 0) = true ∧ l.on (safStat 0 5) = false ∧
    l.now - 20 * msec + l.rd (SF_SAFCFG_DISC 0) * msec ≤ l.now ∧ l.mode ≠ mBoot ∧ l.saf.inj = none ∧
    (j true true).saf.inj.isSome = true ∧ (j true true).now ≤ (j true true).now ∧
    a.mode = mArming ∧ modeLive l.mode = true ∧
    ({ a with now := a.armEnd } : Lane).armEnd ≤ ({ a with now := a.armEnd } : Lane).now ∧
    (a.armProofs).sy.reqHold ≠ some .armTimeout ∧ (a.armProofs).armComplete = false := by
  decide +kernel

theorem wit_ModeCommandsComplete :
    let d := up [(SY_MODE_OWN, mDegraded), (SY_DEGBUD_S, 60), (SY_DEGUSED_MS, 60000)]
    let h := up [(SY_MODE_OWN, mOperate)] (fun l => { l with sy := { l.sy with hotSince := some (l.now - 10 * msec) } })
    let r := fun (rest : FcSt) => up [(SY_MODE_OWN, mSafeHold)] (fun l =>
      { l with sy := { l.sy with autoDue := true, autoTick := true }, fc := rest })
    let p := up [(SY_MODE_OWN, mOperate)] (fun l => { l with sy := { l.sy with partAt := some (l.now - l.partWait) } })
    (mk d).ready .A .clocked ∧ d.mode = mDegraded ∧ d.sy.reqHold = none ∧
    d.rd SY_DEGBUD_S * 1000 ≤ d.rd SY_DEGUSED_MS + d.degLoose / msec ∧
    h.sy.hotSince = some (h.now - 10 * msec) ∧ modeLive h.mode = true ∧ h.now - 10 * msec + 10 * msec ≤ h.now ∧
    (r {}).sy.autoDue = true ∧ (r {}).sy.autoTick = true ∧ (r {}).mode = mSafeHold ∧ (r {}).dumping = false ∧
    (r { deDue := true }).dumping = true ∧
    p.sy.partAt = some (p.now - p.partWait) ∧ p.now - p.partWait + p.partWait ≤ p.now ∧ modeLive p.mode = true := by decide +kernel

theorem wit_ModeToken :
    let l := up [(SY_MODE_OWN, mOperate), (GL_STAT_TSTATE, tsLeader)]
    l.holdsToken = true ∧ (mk l).cmdFresh .A = false := by decide +kernel
theorem wit_PairCommandsComplete :
    let l := up [(SY_MODE_OWN, mOperate), (PC_CFG_SPLITEN, 1), (GL_STAT_TSTATE, tsFollower)] (fun l =>
      { l with sy := { l.sy with cycled := true }, pc := { l.pc with store := [.device 0xF00000020 4 0#64] } })
    let m := l.commitMark true
    let es := fun (e : DrainEcc) => (drainSplit m.drainLeft e.failed).1
    let d := fun (e : DrainEcc) => (({ m with pc := { m.pc with drained := (es e).map Prod.fst } } : Lane).drainNote (es e) e.corrected).drain (es e)
    let o : Lane := { l with pc := { l.pc with mid := some (l.commitOpen true) } }
    let r := up [(SY_MODE_OWN, mOperate), (PC_STAT_PAIR, 1), (PC_STAT_SHBIST, 0)]
    (mk l).ready .A .clocked ∧ (mk l).ready .A (.domain .cp) ∧ l.commits = true ∧ l.pc.mid = none ∧
    (d ⟨[0], none, none⟩).sy.boots = m.sy.boots ∧ (d drainClean).sy.boots = m.sy.boots ∧ o.pc.mid = some (l.commitOpen true) ∧
    (drainSplit m.drainLeft none).2 = [] ∧ (drainSplit m.drainLeft (some 0)).2 = [(0, .device 0xF00000020 4 0#64)] ∧
    ((drainSplit m.drainLeft none).1.take 0).length < (drainSplit m.drainLeft none).1.length ∧ (up [(SY_MODE_OWN, mOperate)]).commits = false ∧
    l.on PC_STAT_PAIR = false ∧ l.pairLives = true ∧ l.pc.reqRejoin = false ∧ l.maySplit = true ∧ (up []).maySplit = false ∧
    r.on PC_STAT_PAIR = true ∧ r.on PC_STAT_SHBIST = false ∧ r.pc.shadowOk = true ∧
    (up [(SY_MODE_OWN, mBoot)]).commits = false ∧ ({ l with pc := { l.pc with reqRejoin := true } } : Lane).pc.reqRejoin = true ∧
    (l.set PC_STAT_PAIR).on PC_STAT_PAIR = true ∧ (l.set PC_STAT_PAIR).maySplit = true ∧ (r.set PC_STAT_SHBIST).on PC_STAT_SHBIST = true ∧
    (up [] (fun l => { l with pc := { l.pc with core := .dump } })).on PC_STAT_PAIR = false ∧
    (up [] (fun l => { l with pc := { l.pc with core := .stopped } })).pairLives = false := by decide +kernel

theorem wit_IntermediateCommit :
    let f := up [(SY_MODE_OWN, mOperate)] (fun l =>
      { l with sy := { l.sy with cycled := true }, pc := { l.pc with store := List.replicate 512 (.line 0x1000 []) } })
    let c := f.commitRun false
    f.commits = true ∧ (f.place 0 1).isSome = true ∧ f.bufferFull 0 = true ∧ (c drainClean).pc.mid = none ∧
    (c drainClean).pairLives = true ∧ (c drainClean).bufferFull 0 = false ∧ (c ⟨[], none, some 1⟩).pc.mid.isSome = true ∧
    (c ⟨[], some 1, none⟩).pairLives = false ∧ (f.place 0 3).isNone = true ∧ (up [(SY_MODE_OWN, mOperate)]).bufferFull 0 = false := by
  decide +kernel

theorem wit_AccessCommandsComplete :
    let l := up [(LC_STAT_STATE, 3)]
    let h : Lane := { l with pc := { l.pc with core := .halted } }
    (mk l).ready .A (.domain .cp) ∧ l.place 0 3 = none ∧ l.place 0x3FFFFC 4 = some .tcm ∧ l.downAt 0x3FFFFC .tcm = none ∧
    (∃ d, l.place 0xF00000020 4 = some (.reg .sy .x0 d) ∧ l.downAt 0xF00000020 (.reg .sy .x0 d) = none) ∧
    l.place 0xF01000024 4 = some (.half .le .x0 0xF01000020) ∧ l.place 0xF0000FFF8 8 = some .nothing ∧ l.place 0x400000 1 = none ∧
    l.pc.core = .running ∧ l.bufferFull 0 = false ∧ l.rd LC_STAT_STATE = 3 ∧ h.pc.core = .halted ∧ (State.reset.lane .A).pc.core = .held :=
  ⟨by decide +kernel, by decide +kernel, by decide +kernel, by decide +kernel,
    ⟨(descOf 0xF00000020).getD ⟨0, 0, 0, 0, 0, 0, []⟩, by decide +kernel⟩, by decide +kernel⟩

theorem wit_GuylineLinkCommandsComplete :
    let l := up [(GL_LINK_LOCK 0, 1), (GL_LINK_UP 0, 0), (GL_STAT_LEADER, 1)] (fun l => { l with gl := { l.gl with dueAt := some l.now } })
    let m : GlMsg := GlMsg.sealed ⟨4, 0x21, 8, 0, 0, 0, 1, List.replicate 8 0#8, [], 0⟩
    let e := up [(GL_STAT_TSTATE, tsCandidate), (GL_CFG_ELECTWIN, 4), (GL_STAT_VOTE, 1)] (fun l => { l with gl := { l.gl with armCycles := 4 } })
    let v := up [(SY_MODE_OWN, mArming), (GL_STAT_TSTATE, tsFollower), (GL_CFG_ELECTWIN, 4)] (fun l =>
      { l with gl := { l.gl with armCycles := 4 } })
    let h := up [(GL_STAT_TSTATE, tsHanding)] (fun l => { l with gl := { l.gl with handDue := some l.now } })
    (mk l).ready .A (.domain .cp) ∧ l.rd (GL_LINK_LOCK Port.next.idx) ≠ 0 ∧ l.on (GL_LINK_LOCK Port.next.idx) = true ∧
    l.rd (GL_LINK_UP Port.next.idx) = 0 ∧
    (m.intact = true ∧ m.measured = true ∧ m.route / 4 % 4 = 0 ∧ m.route < 128 ∧ m.route % 4 ≤ 2 ∧
      (m.route / 16).testBit l.me.code = false ∧ (m.route / 16).testBit (l.neighbour Port.prev.other).code = true) ∧
    l.rd GL_STAT_LEADER ≠ LaneId.C.code ∧ l.rd (GL_LINK_FWD Port.next.idx) = 0 ∧ l.rd GL_STAT_LEADER = LaneId.B.code ∧ LaneId.B ≠ l.me ∧
    l.neighbour .next = .B ∧ l.gl.dueAt = some l.now ∧
    e.rd GL_STAT_TSTATE = tsCandidate ∧ e.rd GL_CFG_ELECTWIN ≤ e.gl.armCycles ∧ e.rd GL_STAT_VOTE ≠ 0 ∧
    v.mode = mArming ∧ v.rd GL_STAT_VOTE = 0 ∧ v.rd GL_STAT_TSTATE = tsFollower ∧ v.rd GL_CFG_ELECTWIN ≤ v.gl.armCycles ∧
    v.holderHash = none ∧ h.gl.handDue = some h.now ∧ h.rd GL_STAT_TSTATE = tsHanding := by decide +kernel

/-- A message of a type and length from lane B to all, over its port PREV. -/
def msg (type len epoch : Nat) (p : List Byte) : GlMsg :=
  GlMsg.sealed ⟨type, 0x71, len, 7, epoch, 0, 1, p ++ List.replicate (len - p.length) 0#8, [], 0⟩

theorem wit_GuylineMessagesComplete :
    let l := up [(GL_EPOCH, 5), (GL_STAT_LEADER, 1)]
    (mk l).ready .A (.domain .cp) ∧ l.glAccept { msg 1 16 5 [] with trailer := 0 } 16 = none ∧
    l.glAccept (msg 1 16 5 []) 16 = some .B ∧ (msg 1 16 4 []).epoch < l.rd GL_EPOCH ∧ l.rd GL_EPOCH ≤ (msg 1 16 5 []).epoch ∧
    l.glAccept (msg 2 8 5 []) 8 = some .B ∧ l.gl.handDue = none ∧ l.rd GL_STAT_LEADER = LaneId.B.code ∧
    byteAt (msg 5 8 5 [0#8]).payload 0 = l.me.code ∧ l.glAccept (msg 7 32 5 []) 32 = some .B := by decide +kernel
theorem wit_LongMessages :
    let l := up [(GL_EPOCH, 5), (GL_STAT_LEADER, 1)]
    l.glAccept (msg 6 112 5 []) 112 = some .B ∧ l.glAccept (msg 8 256 5 []) 256 = some .B :=
  ⟨Lane.glAccept_sealed _ _ _ _ (by decide +kernel), Lane.glAccept_sealed _ _ _ _ (by decide +kernel)⟩

theorem wit_FaultCommandsComplete :
    let ft : Msg := ⟨(up []).mkMsg srcTM 2 clsFT none 0, false⟩
    let ce : Msg := ⟨(up []).mkMsg srcHQ 1 clsCE none 0, false⟩
    let ck : Msg := ⟨(up []).mkMsg srcCK 1 clsFT none 0, false⟩
    let l := up [(LC_STAT_STATE, 1), (LC_STAT_FTM, 1)] (fun l => { l with fc := { l.fc with wait := [ce, ft] } })
    let r := up [] (fun l => { l with fc := { l.fc with wait := [ce, ck] }, pw := { l.pw with rootLost := true } })
    (mk l).ready .A .collector ∧ l.pw.rootLost = false ∧ nextMsg l.fc.wait = some (ft, [ce]) ∧ takenClass ft.bits = clsFT ∧
    takenClass ce.bits ≠ clsFT ∧ (mk r).ready .A .collector ∧ r.pw.rootLost = true ∧
    r.fc.wait.find? (fun k => msgSrc k.bits = srcCK && msgKind k.bits = 1) = some ck ∧
    (mk l).ready .A (.domain .cp) ∧ l.injectOpen = true := by decide +kernel

theorem wit_LanternCommandsComplete :
    let l := up [(FC_LANTSTAT_RUN, 1)] (fun l => { l with fc := { l.fc with lantNext := some l.now } })
    let td := fun (back : Nat) (t : Bool) => up [(FC_LANTSTAT_LASTKEY, 0x0F)] (fun l =>
      { l with fc := { l.fc with tendWatch := true, tendAt := l.now - back, tended := t } })
    let w := fun (st valid back : Nat) => up [(watchFld .next, st)] (fun l =>
      { l with fc := { l.fc with next := { edgeAt := some (l.now - back), valid := valid } } })
    let per := (up []).lantPer
    let good := fun (l : Lane) (back : Nat) => decide (l.lantPer ≤ 4 * back) && decide (4 * back < 3 * l.lantPer + 4 * cycPer)
    (mk l).ready .A .clocked ∧ l.fc.lantNext = some l.now ∧ l.on FC_LANTSTAT_RUN = true ∧ (up []).on FC_LANTSTAT_RUN = false ∧
    (mk (td 0 true)).ready .A (.domain .cp) ∧ (td 0 true).fc.tendWatch = true ∧ (0xF0 : Nat) = 255 - (td 0 true).rd FC_LANTSTAT_LASTKEY ∧
    (td 0 true).fc.tended = true ∧ ((td 0 true).tendMin = 0 ∨ (td 0 true).now < (td 0 true).fc.tendAt + (td 0 true).tendMin) ∧
    (td ((up []).tendMax) false).fc.tended = false ∧
    (td ((up []).tendMax) false).fc.tendAt + (td 0 true).tendMax ≤ (td ((up []).tendMax) false).now ∧
    (td ((up []).tendMax) false).now < (td ((up []).tendMax) false).fc.tendAt + (td 0 true).tendMax + cycPer ∧
    (td ((up []).tendMax + cycPer) false).fc.tendAt + (td 0 true).tendMax + cycPer ≤ (up []).now ∧
    (w wToggling 0 per).rd (watchFld .next) ≠ wOff ∧ (w wToggling 0 per).part.hasLane ((up []).neighbour .next) = true ∧
    (w wToggling 0 per).rd (watchFld .next) = wToggling ∧ good (up []) (per / 4) = true ∧ good (up []) (3 * per / 4 + cycPer - 1) = true ∧
    good (up []) (3 * per / 4 + cycPer) = false ∧ good (up []) (per / 4 - 1) = false ∧
    (w wToggling 0 (3 * per / 4)).now - 3 * per / 4 + 3 * per / 4 ≤ (w wToggling 0 0).now := by decide +kernel
theorem wit_DumpSendCommandsComplete :
    let d := up [] (fun l => { l with fc := { l.fc with dcxDue := true, deDue := true } })
    let c := up [] (fun l => { l with pc := { l.pc with core := .dump }, fc := { l.fc with dcxAt := 0 } })
    let c : Lane := { c with now := c.dcxEnd }
    let tx := fun (p : DumpPhase) => up [(GL_LINK_UP 0, 1)] (fun l =>
      { l with fc := { l.fc with tx := p, txAt := l.now - dumpLimit, txLast := some (l.now - dumpStep) } })
    (mk d).ready .A (.domain .cp) ∧ d.fc.dcxDue = true ∧ d.fc.deDue = true ∧ c.pc.core = .dump ∧ c.dcxEnd ≤ c.now ∧
    (tx (.offered .prev)).fc.tx = .offered .prev ∧ (tx (.offered .prev)).fc.txAt + dumpLimit ≤ (tx (.offered .prev)).now ∧
    (tx (.ended .prev)).fc.tx = .ended .prev ∧ (tx (.sending .prev)).fc.tx = .sending .prev ∧
    (tx (.sending .prev)).fc.txLast = some ((up []).now - dumpStep) ∧ (up []).now - dumpStep + dumpStep ≤ (up []).now ∧
    ¬ ((tx (.sending .prev)).rd (GL_LINK_UP 0) = 0 ∧ (tx (.sending .prev)).rd (GL_LINK_UP 1) = 0) ∧
    (tx (.sending .prev)).fc.txSent = 0 ∧ 0 < (tx (.sending .prev)).recordLen / 256 ∧
    (up []).glAccept (msg 0x20 8 0 [2#8]) 8 = some .B ∧ byteAt (msg 0x20 8 0 [2#8]).payload 0 = 2 ∧ (up []).portOf .B = .next ∧
    (tx (.offered .next)).fc.tx = .offered ((up []).portOf .B) ∧ byteAt (msg 0x20 8 0 [3#8]).payload 0 = 3 ∧
    byteAt (msg 0x20 8 0 [5#8]).payload 0 = 5 ∧ (tx (.ended .next)).fc.tx = .ended ((up []).portOf .B) := by decide +kernel

theorem wit_DumpReceiveCommandsComplete :
    let rx := fun (e : Bool) (got : Nat) => up [(FC_NBSTAT_FULL 0, 0)] (fun l =>
      { l with fc := { l.fc with rx0 := { busy := true, chunks := 1, got := got, at_ := l.now - dumpLimit, ended := e } } })
    let full := up [(FC_NBSTAT_FULL 0, 1)]
    let send := up [] (fun l => { l with fc := { l.fc with tx := .ended .next } })
    let boot := up [(SY_MODE_OWN, mBoot)]
    let oper := up [(SY_MODE_OWN, mOperate)]
    (mk (rx true 1)).ready .A (.domain .cp) ∧ ((rx true 1).fc.rx .next).busy = true ∧ ((rx true 1).fc.rx .next).ended = true ∧
    ((rx false 1).fc.rx .next).ended = false ∧ ((rx false 1).fc.rx .next).at_ + dumpLimit ≤ (rx false 1).now ∧
    (up []).glAccept (msg 0x20 8 0 [1#8]) 8 = some .B ∧ byteAt (msg 0x20 8 0 [1#8]).payload 0 = 1 ∧
    full.on (FC_NBSTAT_FULL 0) = true ∧ send.on (FC_NBSTAT_FULL 0) = false ∧ send.fc.tx ≠ .idle ∧
    boot.fc.tx = .idle ∧ boot.mode = mBoot ∧ boot.im.phase = .lock ∧ ¬ (oper.mode = mBoot ∧ oper.im.phase = .lock) ∧
    byteAt (msg 0x20 8 0 [4#8]).payload 0 = 4 ∧ ((rx false 1).fc.rx .next).got = ((rx false 1).fc.rx .next).chunks ∧
    ((rx false 0).fc.rx .next).got ≠ ((rx false 0).fc.rx .next).chunks ∧
    (msg 0x20 256 0 []).chunk < ((rx false 0).fc.rx .next).chunks ∧
    (msg 0x20 256 0 []).chunk < 8192 := by decide +kernel
theorem wit_DumpDataAccepted : (up []).glAccept (msg 0x20 256 0 []) 256 = some .B :=
  Lane.glAccept_sealed _ _ _ _ (by decide +kernel)

/-- A lane of which flow 3 is enabled at priority 2, with items. -/
def busy (items stack : List Item) (f : Lane → Lane := id) : Lane :=
  up [(SY_MODE_OWN, mOperate), (SC_FLOWEN_EN 0, 8), (SC_FLOWCFG_PRIO 3, 2), (SC_HEAD_H, 255)] (fun l =>
    f { l with sc := { l.sc with items := items, stack := stack, nextStamp := 9, bistAt := l.now } })

theorem wit_SchedulerCommandsComplete :
    let e : Item := ⟨.event, 40, 3, 0, 1, 0, 0⟩
    let l := busy [e] []
    let f := busy [] (List.replicate 3 e) (fun l => { l with sc := { l.sc with done := 2045 } })
    let t := up [(SC_TMRCFG_LIST 5, 1), (SC_TLCFG_CAP 1, 1)] (fun l =>
      { l with sc := { l.sc with walks := [⟨5, 0, 1, l.now⟩], tl0 := [⟨7, 0, 0⟩] } })
    (mk l).ready .A (.domain .cp) ∧ l.rd SC_CFG_RESV < l.sc.free ∧ f.sc.free ≤ f.rd SC_CFG_RESV ∧
    l.bistCharge.sc.stack.length < 8 ∧ l.bistCharge.on SC_STAT_POOLSTALL = false ∧ l.bistCharge.best = some e ∧
    (busy [] []).bistCharge.best = none ∧ l.bistCharge.sc.stack = [] ∧ (busy [e] [e, e]).bistCharge.sc.stack = e :: [e] ∧
    (busy [e] [e, e]).best = some e ∧
    t.sc.walks.find? (fun w => w.timer = 5) = some ⟨5, 0, 1, t.now⟩ ∧ (up [(SC_TLCFG_CAP 1, 0)]).rd (SC_TLCFG_CAP 1) ≤ (up []).sc.occupancy 1 ∧
    (up []).sc.occupancy 1 < t.rd (SC_TLCFG_CAP 1) ∧ t.dueTimer ≠ none ∧
    l.sc.lastMs < l.scTick / 1000 := by decide +kernel

theorem wit_SchedulerTimers :
    let a := fun (v : Word32) => (up [(SC_TLCFG_CAP 1, 1)]).setReg (SC_TMRCFG_ARM 5).addr (v.setWidth 64 &&& 0xFF0000FF#64)
    (a 0#32).rd (SC_TMRCFG_ARM 5) = 0 ∧ (a 0xFFFFFFFF#32).rd (SC_TMRCFG_ARM 5) ≠ 0 := by decide +kernel

theorem wit_SchedulerAge :
    let e : Item := ⟨.event, 40, 3, 0, 1, 0, 0⟩
    let l := busy [e] [] (fun l => ((l.wr (SC_FLOWCFG_COST 3) 7).wr SC_HEAD_H 0).wr SC_HCFG_DAGE 1)
    l.bistCharge.sc.items.any (fun it => it.flow = 3 && !l.bistCharge.headroomOk it &&
      decide (it.since + l.bistCharge.rd SC_HCFG_DAGE * msec < l.bistCharge.now)) = true ∧
    l.bistCharge.on (SC_FLOWSTAT_AGED 3) = false := by decide +kernel

/-- An entry of a Hamper. -/
def ent (prio slot : Nat) : Entry := ⟨prio, 0, 1, slot, 0, [7#8], slot, 0⟩

theorem wit_HamperCommandsComplete :
    let l := up [(HQ_CFG_PROD 0, 0), (HQ_CFG_CAP 0, 2), (HQ_CFG_PROD 1, 1), (HQ_CFG_PROD 2, 0), (HQ_CFG_CAP 2, 0)] (fun l =>
      { l with hq := { l.hq with h0 := { queue := [ent 5 1] }, h1 := { replay := [ent 1 2] } } })
    (mk l).ready .A (.domain .cp) ∧ l.rd (HQ_CFG_PROD 0) = 0 ∧ l.rd (HQ_CFG_PROD 1) ≠ 0 ∧ 56 < getBits 57#64 0 6 ∧ getBits 56#64 0 6 ≤ 56 ∧
    l.hamperFull 0 1 = false ∧ l.hamperFull 2 1 = true ∧ (l.hq.get 1).replay = ent 1 2 :: [] ∧ (l.hq.get 0).replay = [] ∧
    bestEntry (l.hq.get 0).queue = some (ent 5 1) ∧ (l.hq.get 2).replay = [] ∧ (l.hq.get 2).queue = [] := by decide +kernel

theorem wit_TakesFollowPriority :
    let l := up [] (fun l => { l with hq := { l.hq with h0 := { queue := [ent 5 1, ent 2 2, ent 2 3] } } })
    (mk l).ready .A (.domain .cp) ∧ (((mk l).lane .A).hq.get 0).replay = [] ∧ (((mk l).lane .A).hq.get 0).queue ≠ [] ∧
    bestEntry (l.hq.get 0).queue = some (ent 2 2) := by decide +kernel

/-- A frame with its CRC. -/
def frame (b : List Byte) : List Byte := b ++ leBytes 4 (crc32c b)

theorem wit_HostCommandsComplete :
    let l := up [(SY_MODE_OWN, mSafeHold), (HP_CFG_EN, 1), (HP_CFG_SVCEN, 1), (HP_SVCKEY_KEY, 0x1234), (HQ_CFG_PROD 1, 1),
      (HP_CFG_SVCHQ, 7), (LC_STAT_STATE, 2), (SY_STILL_V, 100)]
    let sv := fun (c : Byte) => frame [0x30#8, c, 0x34#8, 0x12#8, 0#8, 0#8, 0#8, 0#8]
    (mk l).ready .A .clocked ∧ l.frameResult (frame [0x11#8, 0#8, 0#8]) true = some 0 ∧ l.frameResult (frame [0x11#8, 0#8, 1#8, 9#8]) true = some 0 ∧
    l.frameResult [0x11#8, 0#8] true = some 3 ∧ l.frameResult [0x11#8, 0#8, 0#8, 0#8, 0#8, 0#8, 0#8] true = some 4 ∧
    (up []).frameResult (frame [0x11#8, 0#8, 0#8]) true = some 5 ∧ l.frameResult (frame [0x12#8, 0#8, 0#8]) true = some 6 ∧
    l.frameResult (sv 1#8) true = some 0 ∧ l.frameResult (sv 2#8) true = some 0 ∧ l.frameResult (sv 3#8) true = some 0 ∧
    l.frameResult (sv 4#8) true = some 0 ∧ l.frameResult (sv 0x80#8) true = some 0 ∧ l.frameResult (sv 0xFF#8) true = some 0 ∧
    (l.wr HP_SVCKEY_KEY 0).frameResult (sv 1#8) true = some 7 ∧ (l.wr SY_MODE_OWN mOperate).frameResult (sv 2#8) true = some 8 ∧
    l.frameResult (sv 5#8) true = some 2 ∧ l.frameResult [] false = some 1 ∧ l.frameResult [] true = some 2 := by decide +kernel
theorem wit_NetworkCommandsComplete :
    let on : List (Fld × Nat) := [(TT_CFG_EN, 1), (SY_MODE_OWN, mOperate)]
    let l := up (on ++ [(TT_STAT_SSTATE, ssSync), (TT_MCFG_LOSS, 4), (TT_SLOTA_KIND 3, kOwn), (TT_SLOTB_PORTS 3, 1), (TT_CFG_PORTEN, 1),
      (TT_PORTSTAT_LINK 0, 1), (TT_SLOTA_MAXLEN 3, 16), (TT_PORTSTAT_VIOL 1, 4), (TT_PORTSTAT_CLEAN 2, 16), (TT_PORTSTAT_MUTED 2, 1)])
      (fun l => { l with tt := { l.tt with noRef := 4, tx := [(3, { sent := true })], fetched := some ⟨3, 0, false, []⟩ } })
    let h := up (on ++ [(TT_STAT_SSTATE, ssHold), (TT_MCFG_RANK, 1), (TT_MCFG_TAKE, 8)]) (fun l => { l with tt := { l.tt with noRef := 8 } })
    (mk l).ready .A (.domain .nw) ∧ l.ttOn = true ∧ l.tt.cyc ≠ some (l.ntime / ttCycle) ∧ l.rd TT_STAT_SSTATE = ssSync ∧
    l.rd TT_MCFG_LOSS ≤ l.tt.noRef ∧ h.ttOn = true ∧ (h.rd TT_STAT_SSTATE = ssUnsync ∨ h.rd TT_STAT_SSTATE = ssHold) ∧
    h.rd TT_MCFG_RANK ≠ 0 ∧ h.rd TT_MCFG_TAKE ≤ h.tt.noRef ∧
    l.rd (TT_PORTSTAT_VIOL 1) = 4 ∧ l.rd (TT_PORTSTAT_MUTED 1) = 0 ∧ l.rd (TT_PORTSTAT_CLEAN 2) = 16 ∧ l.on (TT_PORTSTAT_MUTED 2) = true ∧
    l.on (TT_PORTSTAT_LINK 0) ≠ false ∧ l.on (TT_PORTSTAT_LINK 1) ≠ true ∧
    l.rd (TT_SLOTA_KIND 3) = kOwn ∧ l.ownReference 3 = false ∧ (l.rd TT_TXPEND_RDY).testBit 3 = false ∧ (l.tt.slot 3).sent = true ∧
    l.tt.fetched = some ⟨3, 0, false, []⟩ ∧ ssSync ≤ l.rd TT_STAT_SSTATE ∧ l.rd (TT_SLOTB_PORTS 3) &&& l.portsUp ≠ 0 ∧
    l.rd (TT_SLOTA_KIND 4) ≠ kOwn ∧ l.rd (TT_SLOTA_MAXLEN 3) < 17 ∧ 16 ≤ l.rd (TT_SLOTA_MAXLEN 3) := by decide +kernel

theorem wit_NetworkPartners :
    let l := fun (st : Nat) => up [(TT_PTAB_STATE 9, st), (TT_ROLL_ABS, 3)] (fun l => l.wr (TT_PTAB_LASTCYC 9) ((l.ttCount + 65536 - 3) % 65536))
    (l ptPresent).rd TT_ROLL_ABS ≤ ((l ptPresent).ttCount + 65536 - (l ptPresent).rd (TT_PTAB_LASTCYC 9)) % 65536 ∧
    (l ptPresent).rd (TT_PTAB_STATE 9) = ptPresent ∧ (l ptGuest).rd (TT_PTAB_STATE 9) = ptGuest := by decide +kernel

theorem wit_CrelasReceptionCompletes :
    let l := up [(TT_CFG_EN, 1), (SY_MODE_OWN, mOperate), (TT_STAT_SSTATE, ssSync), (TT_CFG_PORTEN, 1), (TT_PORTSTAT_LINK 0, 1),
      (TT_SLOTA_KIND 0, kRx), (TT_SLOTB_PORTS 0, 1)] (fun l => { l with tt := { l.tt with ntAt := 0 } })
    let pos := l.ntime - 0 + 100 - l.rd (TT_PDLY_NS 0)
    (mk l).ready .A (.domain .nw) ∧ l.ttOn = true ∧ l.portsUp.testBit 0 = true ∧ ssSync ≤ l.rd TT_STAT_SSTATE ∧ l.on TT_CFG_HUB = false ∧
    keyGet l.tt.wins 0 ≠ some (32 * (pos / ttCycle) + l.slotAt (pos % ttCycle)) ∧
    l.slotAt (pos % ttCycle) = 31 ∧ 2 * (pos % ttCycle - l.slotStart 31) ≤ (l.wr TT_CFG_GUARD 2).guardNs ∧
    pos % ttCycle + frameTime 256 ≤ ttCycle ∧ (l.wr TT_CFG_GUARD 0).guardNs < pos % ttCycle - l.slotStart 31 := by decide +kernel

theorem wit_CanCommandsComplete :
    let l := up [(CN_CFG_EN, 1), (CN_FMAP_EN 2, 1), (CN_FID_ID 2, 0x123), (CN_FMASK_ID 2, 0x1FFFFFFF), (CN_TXSTAT_PEND, 6),
      (CN_TXHDR 1, 0x200), (CN_TXHDR 2, 0x100)]
    let b := up [(CN_STAT_BUSOFF, 1)] (fun l => { l with cn := { recovering := true } })
    (mk l).ready .A (.domain .nw) ∧ l.cnOn = true ∧ l.on CN_CFG_LISTEN = false ∧ l.on CN_CFG_ONESHOT = false ∧
    l.cnHeard.cnFilter (0x124 % 2 ^ 30) = none ∧ l.cnHeard.cnFilter (0x123 % 2 ^ 30) = some 2 ∧
    (List.replicate 48 0#8).length ≤ 48 ∧ 48 < (List.replicate 64 0#8).length ∧ l.cnNext = some 2 ∧
    b.on CN_STAT_BUSOFF = true ∧ b.cn.recovering = true := by decide +kernel

theorem wit_PowerCommandsComplete :
    let l := up [(SY_MODE_OWN, mOperate)] (fun l =>
      { l with pw := { l.pw with moves := [⟨3, 2, l.now⟩] } })
    let s := up [(SY_MODE_OWN, mSafeHold), (WK_CFG_ALW, 0)] (fun l => { l with pw := { l.pw with alarm := true } })
    let a := up [(WK_ALARM, 1), (WK_CFG_SAFW, 1), (WK_CFG_SAFEN, 1)] (fun l => { l with pw := { l.pw with alarm := true } })
    (mk l).ready .A .clocked ∧ l.pw.step = .awake ∧ l.moveOf 3 = some ⟨3, 2, l.now⟩ ∧ (mk s).ready .A (.domain .cp) ∧ s.pw.step = .awake ∧
    s.pw.wakeAt = none ∧ ¬ (s.on WK_CFG_ALW = true ∧ s.rd WK_ALARM ≤ s.slow) ∧ l.maySleep = false ∧ (mk a).ready .A .wake ∧
    whistleBits [] = some [] ∧ a.pw.alarm = true ∧ a.rd WK_ALARM ≤ a.slow ∧ a.on WK_CFG_SAFW = true ∧
    (a.rd WK_CFG_SAFEN).testBit (2 * 0 + false.toNat) = true := by decide +kernel

theorem wit_ClockCommandsComplete :
    let c := up [] (fun l => { l with pw := { l.pw with cal := true } })
    let s := fun (mv : Nat) => up [(SY_MODE_OWN, mService), (CK_STAT_DIV, 1), (PM_VACK_MV, mv)]
    let f := up [(CK_STAT_LOCK, 1), (CK_LPOCAL_CNT, 800000)] (fun l => { l with pw := { l.pw with freqAt := l.now - freqStep } })
    (mk c).ready .A .clocked ∧ c.pw.cal = true ∧ c.pw.step = .awake ∧
    (792000#20).toNat = 792000 ∧ (808000#20).toNat = 808000 ∧ (791999#20).toNat < 792000 ∧ 808000 < (808001#20).toNat ∧
    (s 750).mode = mService ∧ 2#2 ≠ 0#2 ∧ (s 750).rd CK_STAT_DIV ≠ (2#2).toNat ∧ divMv 2 ≤ (s (divMv 2)).rd PM_VACK_MV ∧
    (s (divMv 2 - 1)).rd PM_VACK_MV < divMv 2 ∧ f.rd CK_STAT_LOCK ≠ 0 ∧ f.pw.freqAt + freqStep ≤ f.now ∧
    f.rd CK_LPOCAL_CNT = 800000 ∧ ¬ (800000 < 50 * (8 * 102000 - 800000)) ∧ 800000 < 50 * (8 * 102001 - 800000) := by decide +kernel

theorem wit_RegulatorCommandsComplete :
    let on : List (Fld × Nat) := [(PM_CFG_EN, 1), (PM_VWIN_MIN, 600), (PM_VWIN_MAX, 850), (SY_MODE_OWN, mOperate), (PM_CFG_POLL, 1)]
    let r : PmReq := { mv := 750, why := .firmware, stopAt := some 0 }
    let l := up on (fun l => { l with now := pmTimeout, pm := { l.pm with req := some r } })
    let a := up (on ++ [(PM_STAT_PGOOD, 1), (PM_CFG_SETTLE, 1), (PM_CFG_ACKSRC, 0)]) (fun l => { l with now := usec, pm := { l.pm with req := some r } })
    let q := fun (again : Bool) (t : Option Nat) => up on (fun l =>
      { l with pm := { l.pm with cur := some ⟨.readVout, .poll⟩, again := again, retryAt := t } })
    (mk l).ready .A .clocked ∧ (up on).pmOn = true ∧ (up on).on PM_STAT_BUSY = false ∧ (up on).pmCfg PM_VWIN_MIN = 600 ∧
    (up on).pmCfg PM_VWIN_MAX = 850 ∧ l.pm.req = some r ∧ r.stopAt = some 0 ∧ 0 + pmTimeout ≤ l.now ∧
    a.pmCfg PM_CFG_ACKSRC = 0 ∧ a.on PM_STAT_PGOOD = true ∧ 0 + a.pmCfg PM_CFG_SETTLE * usec ≤ a.now ∧ a.now < 0 + pmTimeout ∧
    (q false none).pm.cur = some ⟨.readVout, .poll⟩ ∧ (q true none).pm.again = true ∧ (q true (some 5)).pm.retryAt = some 5 ∧
    (0xBF#8).toNat / 64 = 2 ∧ (0x80#8).toNat / 64 = 2 ∧ (0x7F#8).toNat / 64 ≠ 2 ∧ (up on).rd PM_CFG_POLL = 1 ∧ (up on).rd PM_STAT_BUSY = 0 ∧
    (up on).mode ≠ mBoot ∧ (up on).on PM_STAT_ALERT = false := by decide +kernel

theorem wit_SelfTestCommandsComplete :
    let run := fun (u : Nat) (b : Bool) => up [] (fun l =>
      { l with st := { l.st with run := some { unit := u, index := 0, start := 0, prog := false, began := b } } })
    let m := up [(SY_MODE_OWN, mService), (LC_STAT_STATE, 1)]
    let r := up [(SY_MODE_OWN, mOperate), (LC_STAT_STATE, 2), (ST_TOK_SEQ, 6)]
    let p := up [] (fun l => { l with st := { l.st with prog := some { step := 0 } } })
    (mk r).ready .A (.domain .cp) ∧ r.rd LC_STAT_STATE = 2 ∧ r.sliceRefused 31 0 = true ∧ (run 0 false).st.run.isSome = true ∧
    (0 + (run 0 false).sliceBudget 0 * usec ≤ (run 0 false).now) ∧ gdUnit 0 = false ∧
    (List.range 32).any (fun u => gdUnit u) = true ∧
    m.mode = mService ∧ m.rd LC_STAT_STATE = 1 ∧ m.life = lcManufacture ∧ m.st.run = none ∧ m.st.prog = none ∧ p.st.prog = some { step := 0 } ∧
    r.glAccept (msg 0x10 8 0 [0#8, 0#8, 0#8, 0#8, 7#8]) 8 = some .B ∧
    r.rd ST_TOK_SEQ < leField (msg 0x10 8 0 [0#8, 0#8, 0#8, 0#8, 7#8]).payload 4 4 ∧
    byteAt (msg 0x10 8 0 [0#8, 0#8, 0#8, 0#8, 7#8]).payload 1 = r.me.code ∧ byteAt (msg 0x10 8 0 [0#8, 1#8]).payload 1 ≠ r.me.code := by
  decide +kernel

theorem wit_LifeCycleCommandsComplete :
    let l := fun (s : Nat) => up [(LC_STAT_STATE, s)]
    let v := up [(LC_STAT_STATE, lcManufacture), (SY_MODE_OWN, mService)]
    let p := up [(LC_STAT_STATE, lcProduction), (SY_MODE_OWN, mService)]
    (mk (l lcBlank)).ready .A .clocked ∧ (l lcBlank).on LC_STAT_BUSY = false ∧ (l lcBlank).life = lcBlank ∧ (l lcReturn).life = lcReturn ∧
    (up [(LC_STAT_STATE, lcBlank), (keyFlag 0 3, 1)]).on (keyFlag 0 3) = true ∧ (l lcBlank).on (keyFlag 0 3) = false ∧
    (l lcBlank).jtagOpen = true ∧ (l lcProduction).jtagOpen = false ∧ v.domOn .cp = true ∧ (l lcManufacture).mode ≠ mService ∧
    v.mode = mService ∧ v.life = lcManufacture ∧ v.on LC_STAT_FTM = false ∧ p.life = lcProduction ∧
    ({ l lcBlank with lc := { write := some (.state lcManufacture) } } : Lane).lc.write = some (.state lcManufacture) := by decide +kernel
theorem wit_PassOffWinsOverPassOn : (12#64).getLsbD 2 = true ∧ (12#64).getLsbD 3 = true ∧ (mk (up [])).ready .A (.domain .cp) ∧
    ((mk (up [])).lane .A).part.hasAxis .x0 = true ∧ ((mk (up [])).lane .A).domOn (.pg .x0) = true := by decide +kernel

theorem wit_ThirdRollbackIsFatal :
    let l := up [] (fun l => { l with pc := { l.pc with rbTimes := [l.now, l.now - 10 * msec] } })
    (mk l).ready .A (.domain .cp) ∧ l.on PC_STAT_PAIR = false ∧ l.pc.core = .running ∧ l.pc.rbTimes = [l.now, l.now - 10 * msec] ∧
    l.now ≤ l.now - 10 * msec + 10 * msec ∧ (l.rollback 0 false 0 0#64).fc.wait.length = 1 ∧ (l.rollback 0 false 0 0#64).pw.rootLost = false ∧
    (mk (l.rollback 0 false 0 0#64)).ready .A (.domain .cp) := by decide +kernel

theorem wit_FirstMessageIsLatched :
    let m : Msg := ⟨(up []).mkMsg srcHQ 1 clsCE none 0, false⟩
    let l := fun (v : Nat) => up [(FC_STAT_FIRSTV, v)] (fun l => { l with fc := { l.fc with wait := [m] } })
    (mk (l 0)).ready .A (.domain .cp) ∧ (l 0).pw.rootLost = false ∧ nextMsg (l 0).fc.wait = some (m, []) ∧ (l 0).rd FC_STAT_FIRSTV = 0 ∧
    (l 1).rd FC_STAT_FIRSTV = 1 := by decide +kernel

theorem wit_DispatchFollowsPriority :
    let e : Item := ⟨.event, 40, 3, 0, 1, 0, 0⟩
    let l := (busy [e] (List.replicate 7 e)).bistCharge
    (mk (busy [e] [])).ready .A (.domain .cp) ∧ l.sc.stack.length < 8 ∧ l.on SC_STAT_POOLSTALL = false ∧ l.sc.free ≠ 0 ∧ e ∈ l.sc.items ∧
    l.eligible e = true ∧ (busy [] []).bistCharge.sc.items = [] := by decide +kernel

theorem wit_RefusedHamperPushesAreIgnored :
    let l := up [(HQ_CFG_CAP 0, 1), (HQ_CFG_PROD 1, 1)] (fun l => { l with hq := { l.hq with h0 := { queue := [ent 1 1] } } })
    (mk l).ready .A (.domain .cp) ∧ l.rd (HQ_CFG_CAP 0) = (l.hq.get 0).occ ∧ l.rd (HQ_CFG_CAP 2) = 0 ∧ l.rd (HQ_CFG_PROD 0) = 0 ∧
    getBits ((56#32).setWidth 64) 0 6 ≤ 56 ∧ 56 < getBits ((57#32).setWidth 64) 0 6 ∧ l.rd (HQ_CFG_PROD 1) ≠ 0 ∧
    (8 ∈ [1, 2, 4, 8] ∧ 0x1003FFF8 % 8 = 0 ∧ 0x10000000 ≤ 0x1003FFF8 ∧ 0x1003FFF8 < 0x10040000) := by decide +kernel

theorem wit_FailedHostFrameHasNoEffect :
    let l := up [(SY_MODE_OWN, mOperate), (HP_CFG_EN, 1), (HQ_CFG_PROD 1, 1), (HP_CFG_SVCHQ, 7)]
    (mk l).ready .A .clocked ∧ l.frameResult [0xFF#8] true = some 2 ∧ l.frameResult (frame [0x11#8, 0#8, 0#8]) true = some 0 ∧
    l.hamperFull 1 1 = true := by decide +kernel

theorem wit_LowestCanIdGoesFirst :
    let l := up [(CN_CFG_EN, 1), (CN_TXSTAT_PEND, 0x90), (CN_TXHDR 4, 7), (CN_TXHDR 7, 7)]
    (mk l).ready .A (.domain .nw) ∧ l.cnOn = true ∧ l.on CN_CFG_LISTEN = false ∧ (l.rd CN_TXSTAT_PEND).testBit 7 = true ∧
    l.cnNext = some 4 := by decide +kernel

theorem wit_LoadedSlotIsWriteProtected :
    let l := up [(SY_IMGSTAT_LOADED, 1), (SY_IMGSTAT_SLOT, 1)]
    (mk l).ready .A (.domain .cp) ∧ l.rd SY_IMGSTAT_LOADED = 1 ∧ l.rd SY_IMGSTAT_SLOT = 1 ∧
    (8 ∈ [1, 2, 4, 8] ∧ 0x1003FFFF8 % 8 = 0 ∧ cfgSlot 1 ≤ 0x1003FFFF8 ∧ 0x1003FFFF8 < cfgSlot 1 + 0x200000) ∧
    (fwSlot l.part l.im.fwSlot ≤ 0x100400000 ∧ 0x100400000 < fwSlot l.part l.im.fwSlot + fwSize l.part) ∧
    (cfgSlot 0 ≤ 0x1001FFFFF ∧ 0x1001FFFFF < cfgSlot 0 + 0x200000 ∧ 0x1001FFFFF < cfgSlot 1) ∧ (up []).rd SY_IMGSTAT_LOADED = 0 := by
  decide +kernel

/-- A lane that a debugger holds. -/
def held (fs : List (Fld × Nat)) : Lane := up ((LC_STAT_STATE, 1) :: fs) (fun l => { l with pc := {} })

theorem wit_AccessesFollowTheirWidths :
    let l := held []
    (mk l).ready .A (.domain .cp) ∧ l.rd LC_STAT_STATE = 1 ∧ l.pc.core = .held ∧ (16 ∉ [1, 2, 4, 8]) ∧ 2 % 4 ≠ 0 ∧
    (8 ∈ [1, 2, 4, 8] ∧ 0x3FFFF8 % 8 = 0 ∧ 0x3FFFF8 < 0x400000) ∧
    (blockOf 0xF0000FFF8 = some (.sy, .x0, 0xFFF8) ∧ l.hasBlock .sy .x0 = true ∧ winOf 0xF0000FFF8 = none ∧
      inFfTable .x0 0xF0000FFF8 = false ∧ descOf 0xF0000FFF8 = none ∧ descOf (0xF0000FFF8 - 4) = none ∧
      touchesReg 0xF0000FFF8 8 = false) ∧
    (blockOf 0xF00000028 = some (.sy, .x0, 0x28) ∧ winOf 0xF00000028 = none ∧ (descOf 0xF00000028).map (fun d => d.wide) = some 32) := by
  decide +kernel

theorem wit_CapabilityWordsReadTheirTable :
    (mk (held [])).ready .A (.domain .cp) ∧ (held []).rd LC_STAT_STATE = 1 ∧ (held []).pc.core = .held ∧ (held []).part = .apx9603 := by
  decide +kernel

theorem wit_RegisterWritesKeepTypes :
    ∃ d : RegDesc, (mk (up [])).ready .A (.domain .cp) ∧ (up []).place 0xF00000028 4 = some (.reg .sy .x0 d) ∧
      d.fits Acc.stores 0 = true := ⟨(descOf 0xF00000028).getD ⟨0, 0, 0, 0, 0, 0, []⟩, by decide +kernel⟩

/-- A register of SY with a range: the profile codes end at 2. -/
theorem wit_RegisterOutOfRange :
    ∃ d : RegDesc, ∃ a, (up []).place a 4 = some (.reg .sy .x0 d) ∧ d.fits Acc.stores 0xFFFFFFFF = false :=
  ⟨(descOf SY_PROF_INF.addr).getD ⟨0, 0, 0, 0, 0, 0, []⟩, SY_PROF_INF.addr, by decide +kernel⟩

theorem wit_FaultMessagesReachTheCollector :
    let w := fun (n : Nat) => up [] (fun l =>
      { l with fc := { l.fc with wait := List.replicate n ⟨l.mkMsg srcTM 1 clsCE none 0, false⟩ } })
    (mk (w 1)).ready .A (.domain .cp) ∧ (w 1).waiting srcTM < 2 ∧ 2 ≤ (w 2).waiting srcTM ∧
    (w 1).fc.ceDone.contains (srcTM, 1, 2) = false ∧
    ({ w 1 with fc := { (w 1).fc with ceDone := [(srcTM, 1, 2)] } } : Lane).fc.ceDone.contains (srcTM, 1, 2) = true := by decide +kernel

theorem wit_CounterClearsTouchTheirRegisters : (mk (up [])).ready .A (.domain .cp) ∧ (mk (up [])).ready .A (.domain .nw) := by decide +kernel

theorem wit_StoresStayInTheirBytes :
    let l := up []
    (mk l).ready .A (.domain .cp) ∧ 8 ∈ [1, 2, 4, 8] ∧ (0x3FFFF8 % 8 = 0 ∧ 0x3FFFF8 < 0x400000) ∧
    (0x103FFFFF8 % 8 = 0 ∧ inMram l.part 0x103FFFFF8 = true ∧ l.loadedSlot 0x103FFFFF8 = false ∧
      inRange 0x103FFFFF8 (nbSlot l.part 0) 0x400000 = false) ∧
    (inRange (txCmd + 104) txCmd 112 = true ∧ (txCmd + 104) % 8 = 0) ∧ l.domOn .nw = true ∧
    inRange 0xF000B5FF8 0xF000B4000 0x2000 = true ∧ inRange 0xF000C11F8 0xF000C1000 0x200 = true := by decide +kernel

/-! ### Single commands -/

/-- The fields of a fault message stand where Table 9.1 puts them. -/
theorem test_message : (up []).mkMsg srcTM 2 clsFT none 0x1234 = 0x0802C00000001234#64 := by decide +kernel
/-- IRQSET sets HP_STAT.IRQ (R406). -/
theorem test_irqset : (nextLane (exec (.hpIrqset .A) (mk (up [])))).map (fun l => l.rd HP_STAT_IRQ) = some 1 := by decide +kernel
/-- 3,125 root periods are two LPO cycles (R459). -/
theorem test_slow : ({ up [] with now := 3125 } : Lane).slow = 2 ∧ ({ up [] with now := 3124 } : Lane).slow = 1 := by decide +kernel
/-- A word without bits in the table spells no command. -/
theorem test_decode : decodeTableWord 16 0x1234 = none := rfl
/-- With nothing commanded, a period of the root passes. -/
theorem test_idle : step State.reset = .next State.reset.tick ∧ State.reset.tick.la.now = 1 := ⟨rfl, by decide +kernel⟩
/-- Two messages of a source wait; the third CE is dropped and counted (R320). -/
theorem test_drop :
    let l := up [] (fun l => { l with fc := { l.fc with wait := List.replicate 2 ⟨l.mkMsg srcTM 1 clsCE none 0, false⟩ } })
    (nextLane (exec (.eccError .A .tcm true 0) (mk l))).map (fun l => (l.fc.wait.length, l.rd FC_DROP_CE)) = some (2, 1) := by decide +kernel

/-! ### Further branches of the statements -/

/-- The lane at a network time, in ns. -/
def atNs (n : Nat) (l : Lane) : Lane := { l with tt := { l.tt with nt0 := (n : Int) * ntUnit, ntAt := l.now } }

/-- A third rollback of the loop engine within 10 ms, at the input latch, leaves it in FAULT. -/
theorem wit2_LoopEnginePeriodCompletes :
    let l := up [(LE_STAT_STATE .x0, leClosed)] (fun l => l.setMd .x0 { (l.ax .x0).md with running := true })
    let l := (l.leRollback .x0 false).leRollback .x0 false
    let a := (l.srcSelect .x0 (l.ax .x0).ad.sampAt).adSample .x0 ⟨0, 0, 0, 0⟩
    (mk l).ready .A (.axis .x0 (.le .x0)) ∧ l.rd (LE_STAT_STATE .x0) ≠ leFault ∧ l.on (LE_STAT_DRIVE .x0) = false ∧
    (a.leLatch .x0 .between).rd (LE_STAT_STATE .x0) = leFault ∧ (a.leLatch .x0 .agree).rd (LE_STAT_STATE .x0) ≠ leFault := by decide +kernel

theorem wit2_LoopEngineCommandsComplete :
    let l := up [(LE_STAT_STATE .x0, leOpen)]
    let m := up [(LE_OPENMAX_MAX_US .x0, 1000)] (fun l => l.setLe .x0 { (l.ax .x0).le with openAt := some (l.now - 1000 * usec + 1) })
    let d := fun a => (descOf a).getD ⟨0, 0, 0, 0, 0, 0, []⟩
    (l.set (LE_STAT_FORCED .x0)).on (LE_STAT_FORCED .x0) = true ∧ (l.set PC_STAT_PAIR).on PC_STAT_PAIR = true ∧
    (m.ax .x0).le.openAt = some (m.now - 1000 * usec + 1) ∧ m.now < m.now - 1000 * usec + 1 + m.rd (LE_OPENMAX_MAX_US .x0) * usec ∧
    blockOf 0xF01000040 = some (.le, .x0, 0x40) ∧ descOf 0xF01000040 = some (d 0xF01000040) ∧ (d 0xF01000040).wide = 64 ∧
    (d 0xF01000040).bits (fun k => k = .ow) ≠ 0 ∧ (d 0xF01000040).fits (fun k => k = .ow) 0xFFFFFFFFFFFFFFFF = false ∧
    blockOf (LE_ENVSHARE .x0).addr = some (.le, .x0, (LE_ENVSHARE .x0).addr % 0x10000) ∧
    (d (LE_ENVSHARE .x0).addr).bits (fun k => k = .rl) ≠ 0 ∧ (d (LE_ENVSHARE .x0).addr).bits (fun k => k = .ow) = 0 ∧
    (d (LE_ENVSHARE .x0).addr).wide = 64 ∧ (d (LE_ENVSHARE .x0).addr).fits (fun k => k = .rl) (2 ^ 40) = true ∧
    (d (LE_ENVSHARE .x0).addr).fits (fun k => k = .rl) (2 ^ 40 + 1) = false ∧ inFfTable .x0 (LE_ENVSHARE .x0).addr = false := by
  decide +kernel

theorem wit2_ModulatorCommandsComplete :
    srcIsTable (up [(LE_STAT_DRIVE .x0, 1), (MOD_CFG_SRC .x0, 2)]) .x0 = true ∧ srcIsTable (up [(MOD_CFG_SRC .x0, 0)]) .x0 = false ∧
    (up []).reloadRuns .x0 true = false := by decide +kernel

theorem wit2_TripCommandsComplete :
    let l := up [(MOD_TRIPCFG_EN 0, 1), (MOD_TRIPCFG_POL 0, 1), (MOD_TRIPCFG_FILT 0, 9)]
    (l.tripSource 0 true 9).tripStands 0 = true ∧ (l.tripSource 0 true 8).tripStands 0 = false ∧ (l.tripSource 0 false 9).tripStands 0 = false ∧
    (l.tripSource 5 true 0).tripStands 5 = true ∧ Gate.holds (.domain (.pg .x0)) (up []) = true ∧
    Gate.holds (.domain (.pg .x0)) (Lane.reset .apx9603 .A) = false ∧
    ({ l with trip := l.trip.setAux 0 (some (l.now + 1)) } : Lane).trip.aux 0 = some (l.now + 1) ∧ l.trip.aux 0 = none := by decide +kernel

theorem wit2_DcLinkCommandsComplete :
    let l := up [(DL_OV_OV1, 500), (DL_OV_OV2, 600), (DL_CFG_EN, 1)] (fun l => { l with dl := { l.dl with onEnd := l.now + 1 } })
    let h : Lane := { l with sy := { l.sy with held := true } }
    l.dieRd DL_OV_OV1 = 500 ∧ l.dieRd DL_OV_OV2 = 600 ∧ (up []).dieRd DL_OV_OV1 = 0 ∧ l.dieOn DL_CFG_EN = true ∧ l.now < l.dl.onEnd ∧
    l.dl.watch = none ∧ h.part.hasLane .A = true ∧ h.sy.held = true ∧ l.clocked = true ∧
    ({ l with pw := { l.pw with rootLost := true } } : Lane).sy.held = false := by decide +kernel

theorem wit2_GateDriverCommandsComplete :
    (up []).enableRefused .x0 = true ∧ (commRow 0).isSome = false ∧ (up []).rd (GD_STAT_PASS .x0) = 0 ∧
    (up []).on (GD_STAT_CPUV .x0) = false ∧ (up [(GD_CPMON_MV .x0, 9999)]).rd (GD_CPMON_MV .x0) < (up []).cpuvLevel .x0 ∧
    ¬ (up [(GD_CPMON_MV .x0, 10000)]).rd (GD_CPMON_MV .x0) < (up []).cpuvLevel .x0 := by decide +kernel

theorem wit2_LateKeepAliveCounts :
    let l := up [] (fun l => { l with dl := { l.dl with kaEnd := some (l.now + 1), kaLost := true } })
    l.part.hasLane .A = true ∧ l.sy.held = false ∧ l.dl.kaEnd = some (l.now + 1) ∧ l.now < l.now + 1 ∧ l.dl.kaLost = true := by decide +kernel

theorem wit2_TorqueTableCommandsComplete :
    let f := fun (t : TqSt) (st : Nat) => up [(TQ_STAT_SLSTATE .x0, st), (LE_STAT_STATE .x0, leOpen), (TQ_CATCH_PER .x0, 200),
      (TQ_CATCH_PW .x0, 10), (TQ_ALIGNT .x0, 2 ^ 40)] (fun l => l.setTq .x0 t)
    let ca := f { catchAt := 5, n := 215 } slCatch
    let d := fun a => (descOf a).getD ⟨0, 0, 0, 0, 0, 0, []⟩
    (ca.ax .x0).tq.catchAt + ((ca.ax .x0).tq.pulses + 1) * ca.rd (TQ_CATCH_PER .x0) + ca.rd (TQ_CATCH_PW .x0) ≤ (ca.ax .x0).tq.n ∧
    (ca.ax .x0).tq.n ≤ (ca.ax .x0).tq.catchAt + catchLimit ∧
    (f { n := 214, catchAt := 5 } slCatch).rd (TQ_STAT_SLSTATE .x0) = slCatch ∧
    214 < 5 + (0 + 1) * ca.rd (TQ_CATCH_PER .x0) + ca.rd (TQ_CATCH_PW .x0) ∧
    ((f { alignAt := 0, n := 0 } slAlign).ax .x0).tq.n < 0 + decisionsOf (ca.q (TQ_ALIGNT .x0)) ∧
    ((f { holdAt := none } slRamp).ax .x0).tq.holdAt = none ∧ ((f { lowAt := none } slRun).ax .x0).tq.lowAt = none ∧
    (d (TQ_CATCH_PER .x0).addr).bits (fun k => k = .ow) ≠ 0 ∧ (d (TQ_ALIGNT .x0).addr).wide = 64 ∧
    catchFits .x0 (TQ_CATCH_PER .x0).addr 1 = false ∧ (∀ b d o, blockOf 0 = some (.tq, .x0, o) → regUnder 0 4 = some (b, d) → d.bits (fun k => k = .ow) = 0 ∧ d.bits (fun k => k = .rl) = 0) := by
  refine ⟨?_, ?_, ?_, ?_, ?_, ?_, ?_, ?_, ?_, ?_, ?_⟩
  case refine_11 =>
    intro b d o h
    have h0 : blockOf 0 = none := by decide +kernel
    rw [h0] at h
    cases h
  all_goals decide +kernel

theorem wit2_FeedbackCommandsComplete :
    let l := up [(FB_CFG_SENS .x0, 2), (FB_SCWIN_LO .x0, 65535), (FB_SCAMP_SIN .x0, 1000), (FB_SCAMP_COS .x0, 1000), (FB_SCCFG_SCN .x0, 1)]
    let off := up [(PD_STAT_STATE, 2 * 4 ^ 5), (FB_CFG_SENS .x0, 2)]
    let link := up [(GL_LINK_LOCK 0, 1)]
    l.hasHall .x0 = false ∧ (up [(FB_CFG_SENS .x0, 1)]).hasHall .x0 = true ∧ (up [(FB_CFG_SENS .x0, 1)]).hasSc .x0 = false ∧
    ((l.setFb .x0 { (l.ax .x0).fb with maskSc := true }).ax .x0).fb.maskSc = true ∧
    (l.scNorm .x0 100 0).2.2.raw < (winQ (l.rd (FB_SCWIN_LO .x0))).raw ∧ (l.ax .x0).fb.sc.nout + 1 = l.rd (FB_SCCFG_SCN .x0) ∧
    l.cleanDone (l.ax .x0).fb.sc.clean = false ∧ l.cleanDone ((l.ax .x0).fb.hall .halls).clean = false ∧
    (State.linkFrom (mk link) .A .next .x0).2 = false ∧
    (State.linkFrom { mk link with lb := up [] } .A .next .x0).2 = false ∧
    (State.linkFrom { mk link with lb := { (up [(FB_CFG_SENS .x0, 1)] (fun l => l.setFb .x0 { (l.ax .x0).fb with own := { code := 5 } })) with me := .B } } .A .next .x0).2 = true ∧
    (off.clocks = false ∨ off.domOn .fb = false ∨ off.part.hasAxis .x0 = false) := by decide +kernel

theorem wit2_SensorSupplyCommandsComplete :
    let l := up [(SF_SSCFG_PULSE 0, 1), (ssStat 0 0, 1)]
    (atNs (slotOffset 0) l).atPulse 0 = true ∧ (atNs (slotOffset 0 + 9) l).atPulse 0 = true ∧ (atNs (slotOffset 0 + 10) l).atPulse 0 = false ∧
    (atNs (10000000 + slotOffset 5) l).atPulse 5 = true ∧ (atNs (slotOffset 5) l).atPulse 4 = false ∧
    (up [(TT_STAT_TQ, 2)]).timeIsNetwork = false ∧ (up [(TT_STAT_TQ, 1)]).timeIsNetwork = false ∧ l.sf.other = none ∧
    ({ l with sf := { l.sf with other := some { slot := 5, start := l.now - 15 * usec } } } : Lane).sf.other.isSome = true := by decide +kernel

theorem wit2_BootCommandsComplete :
    (up []).tickHere = true ∧ (atNs 20 (up [])).tickHere = false ∧ (up []).im.gdRun.testBit 0 = false ∧
    (up [(SY_MODE_OWN, mOperate)]).pw.step = .awake ∧ (up [(SY_MODE_OWN, mOperate)]).im.phase ≠ .load := by decide +kernel

theorem wit2_SafetyInputCommandsComplete :
    let off := up [(PD_STAT_STATE, 2 * 4 ^ 5)]
    let a := up [(SY_MODE_OWN, mArming), (SY_ARMTIME_MS, 1)] (fun l => { l with sy := { l.sy with reqHold := some .armTimeout } })
    let a : Lane := { a with now := a.armEnd }
    (off.clocks = false ∨ off.domOn .fb = false) ∧ (up []).saf.inj = none ∧ ((up []).saf.get 0).disc = none ∧
    (a.armProofs).sy.reqHold = some .armTimeout ∧ (a.armProofs).armComplete = false ∧
    modeLive (up [(SY_MODE_OWN, mService)]).mode = false ∧ (up [(SY_MODE_OWN, mBoot)]).mode = mBoot := by decide +kernel

/-- A lane in ARMING of which every proof has passed. -/
theorem wit2_ArmingProven : ∃ l : Lane, l.mode = mArming ∧ l.armComplete = true :=
  ⟨up [(SY_MODE_OWN, mArming), (SF_ARMSTAT_SAFSS, 1), (SF_ARMSTAT_GD0, 1), (SF_ARMSTAT_GD1, 1), (SF_ARMSTAT_REG, 1), (SF_ARMSTAT_QUORUM, 1)], by decide +kernel⟩

theorem wit2_ModeCommandsComplete :
    let l := up [(SY_MODE_OWN, mDegraded), (SY_DEGBUD_S, 60)] (fun l => { l with sy := { l.sy with thermRem := some 0 } })
    let p := up [(SY_MODE_OWN, mSafeHold)] (fun l => { l with sy := { l.sy with partAt := some (l.now - l.partWait) } })
    l.tickHere = true ∧ (atNs 20 l).tickHere = false ∧ l.rd SY_DEGUSED_MS + l.degLoose / msec < l.rd SY_DEGBUD_S * 1000 ∧
    l.sy.thermRem = some 0 ∧ (up []).sy.thermRem ≠ some 0 ∧ ((up [(SY_MODE_OWN, mBoot)]).boundaryHead 0 0).modeStep.mode = mBoot ∧
    (l.boundaryHead 0 0).modeStep.mode ≠ mBoot ∧ l.holdsToken = false ∧ p.atTick = true ∧ modeLive p.mode = false ∧
    p.sy.partAt = some (p.now - p.partWait) ∧ (atNs 20 p).atTick = false ∧
    ({ p with gl := { p.gl with tickAt := some (p.now - cycPer + 1) } } : Lane).atTick = true := by decide +kernel

theorem wit2_GuylineLink :
    let m : GlMsg := .sealed ⟨4, 0x21, 8, 0, 0, 0, 1, List.replicate 8 0#8, [], 0⟩
    let l := up [(GL_STAT_LEADER, 1)]
    let t : Lane := { l with gl := { l.gl with tickAt := some l.now, syncDirect := true } }
    ({ m with trailer := m.trailer + 1 }).intact = false ∧ ({ m with pad := [0#8] }).measured = false ∧ t.gl.tickAt = some t.now ∧
    l.gl.tickAt = none ∧ t.gl.syncDirect = true ∧ l.gl.dueAt = none ∧ l.rd GL_STAT_TSTATE ≠ tsCandidate ∧ l.mode ≠ mArming ∧
    l.gl.handDue = none ∧ (up [(SY_MODE_OWN, mBoot)]).commits = false ∧ l.rd (GL_LINK_LOCK 0) = 0 ∧
    (m.route / 16).testBit LaneId.B.code = true := by decide +kernel

theorem wit2_FaultCommandsComplete :
    let m : Msg := ⟨(up []).mkMsg srcCK 1 clsFT none 0, true⟩
    let l := up [] (fun l => { l with fc := { l.fc with wait := [m] }, pw := { l.pw with rootLost := true } })
    nextMsg (up []).fc.wait = none ∧ m.supp = true ∧
    l.fc.wait.find? (fun k => msgSrc k.bits = srcCK && msgKind k.bits = 1 && takenClass k.bits = clsFT) = some m ∧
    (up [(LC_STAT_STATE, 2)]).injectOpen = false := by decide +kernel

theorem wit2_LanternAndDump :
    let l := up []
    let s := up [] (fun l => { l with fc := { l.fc with tx := .sending .prev, txLast := some l.now } })
    l.fc.tendWatch = false ∧ l.rd (watchFld .next) = wOff ∧ l.fc.lantNext = none ∧ l.fc.dcxDue = false ∧ l.pc.core ≠ .dump ∧
    l.on FC_STAT_DCX = false ∧ l.fc.deDue = false ∧ l.fc.tx = .idle ∧ s.fc.tx = .sending .prev ∧ s.fc.txLast = some s.now ∧ s.now < s.now + dumpStep ∧
    s.rd (GL_LINK_UP 0) = 0 ∧ s.rd (GL_LINK_UP 1) = 0 ∧ (l.set PC_STAT_PAIR).on PC_STAT_PAIR = true ∧
    ((l.fc.watch .next).edgeAt = none) ∧ (l.wr (watchFld .next) wToggling).rd (watchFld .next) = wToggling ∧
    l.glAccept ⟨0x20, 0x71, 8, 7, 0, 0, 1, [], [], 0⟩ 8 = none ∧ (l.fc.rx .next).busy = false := by decide +kernel

theorem wit2_SchedulerCommandsComplete :
    let e : Item := ⟨.event, 40, 3, 0, 1, 0, 0⟩
    let w := up [] (fun l => { l with sc := { l.sc with walks := [⟨5, 0, 1, l.now + 1⟩] } })
    (busy [e] (List.replicate 8 e)).bistCharge.sc.stack.length = 8 ∧ ((busy [e] []).set SC_STAT_POOLSTALL).bistCharge.on SC_STAT_POOLSTALL = true ∧
    w.sc.walks.find? (fun w => w.timer = 5) = some ⟨5, 0, 1, w.now + 1⟩ ∧ w.now < w.now + 1 ∧ (up []).dueTimer = none ∧
    (up [] (fun l => { l with sc := { l.sc with lastMs := l.scTick / 1000 } })).sc.lastMs = (up []).scTick / 1000 ∧
    (busy [e] []).bistCharge.sc.items.any (fun it => it.flow = 3 && !(busy [e] []).bistCharge.headroomOk it) = false := by decide +kernel

theorem wit2_HamperCommandsComplete :
    let l := up [(HQ_CFG_CAP 0, 2)] (fun l => { l with hq := { l.hq with h0 := { queue := [ent 5 1] }, late := [⟨0, 3, [[]], .none⟩] } })
    let y := up [(HQ_CFG_CAP 0, 2)] (fun l => { l with hq := { l.hq with h0 := { queue := [{ ent 5 1 with at_ := l.now }] } } })
    l.rd (HQ_CFG_CAP 0) ≠ 0 ∧ l.hamperFull 0 1 = false ∧ l.hamperFull 0 2 = true ∧ l.hq.late.any (fun q => q.hamper = 0) = true ∧
    (up []).hq.late.any (fun q => q.hamper = 0) = false ∧
    bestEntry ((l.hq.get 0).queue.filter (fun e => decide (e.at_ / cycBus ≠ l.now / cycBus))) = some (ent 5 1) ∧
    (y.hq.get 0).queue.filter (fun e => decide (e.at_ / cycBus ≠ y.now / cycBus)) = [] ∧
    (l.hq.get 0).queue.any (fun e => decide (e.at_ / cycBus ≠ l.now / cycBus)) = true ∧ l.rd (HQ_CFG_CAP 1) = 0 := by decide +kernel

theorem wit2_RefusedHamperPushesAreIgnored :
    let l := up [(HQ_CFG_CAP 0, 1)] (fun l => { l with hq := { l.hq with h0 := { queue := [ent 1 1] }, late := [⟨0, 3, [[]], .none⟩] } })
    l.hamperFull 0 1 = true ∧ l.hq.late = [⟨0, 3, [[]], .none⟩] ∧ l.hqEnd.rd (HQ_STAT_OVR 0) = 1 ∧ l.hqEnd.hq.late = [] := by decide +kernel

theorem wit2_HostIrq :
    let l := up [] (fun l => { l with hq := { l.hq with irqCyc := some (l.now / cycBus) } })
    l.hq.irqCyc = some (l.now / cycBus) ∧ (up []).hq.irqCyc ≠ some ((up []).now / cycBus) ∧
    (up [(HQ_CFG_CAP 0, 1)] (fun l => { l with hq := { l.hq with h0 := { queue := [ent 1 1] } } })).hamperFull 0 1 = true := by decide +kernel

theorem wit2_NetworkCommandsComplete :
    let l := up [(TT_CFG_EN, 1), (SY_MODE_OWN, mOperate), (TT_SLOTA_START 3, 5000), (TT_STAT_SSTATE, ssSync)]
    (atNs (49999 + 1 - 2000) l).atSlot 3 2000 = some 3 ∧ (atNs 50009 l).atSlot 3 0 = some 3 ∧ (atNs 50010 l).atSlot 3 0 = none ∧
    (atNs 49990 l).atSlot 3 0 = none ∧ (atNs 500000 l).atSlot 0 0 = some 32 ∧ l.tt.fetchAt = none ∧ l.tt.sentAt = none ∧
    ({ l with tt := { l.tt with cyc := some (l.ntime / ttCycle) } } : Lane).tt.cyc = some (l.ntime / ttCycle) ∧ (up []).ttOn = false ∧
    ssSync ≤ l.rd TT_STAT_SSTATE ∧ (up []).rd TT_STAT_SSTATE < ssSync ∧ (l.tt.slot 3).sent = false ∧
    (up []).portsUp.testBit 0 = false ∧ (up [(TT_SLOTA_MAXLEN 3, 16), (TT_SLOTA_KIND 3, kOwn)]).rd (TT_SLOTA_KIND 3) = kOwn := by decide +kernel

theorem wit2_CanCommandsComplete :
    let l := up [(CN_CFG_EN, 1), (CN_TXSTAT_PEND, 1), (CN_TXHDR 0, 2 ^ 30)]
    l.cnFormat (2 ^ 30) = false ∧ (l.set CN_CFG_FD).cnFormat (2 ^ 30) = true ∧ l.cnFormat 0x123 = true ∧ l.cnNext = none ∧
    (l.set CN_CFG_FD).cnNext = some 0 ∧ (up []).cnOn = false ∧ (up []).on CN_STAT_BUSOFF = false := by decide +kernel

theorem wit2_PowerAndClock :
    let l := up [(SY_MODE_OWN, mOperate)]
    let e : Lane := { l with pw := { l.pw with step := .calib, wakeAt := some (l.now, 1) } }
    l.moveOf 3 = none ∧ e.pw.step ≠ .awake ∧ e.pw.wakeAt = some (e.now, 1) ∧ whistleBits [.illegal] = none ∧ (whistleBits (List.replicate 24 (.bit true))).isSome = true ∧
    l.pw.alarm = false ∧ l.on WK_CFG_SAFW = false ∧ l.pw.cal = false ∧ l.mode ≠ mService ∧
    ({ l with pw := { l.pw with rootLost := true } } : Lane).pw.rootLost = true ∧ l.rd CK_STAT_LOCK = 0 ∧
    (792000 ≤ 792000 ∧ (808000 : Nat) ≤ 808000) ∧ l.pmOn = false ∧ l.pm.cur = none ∧ l.pm.req = none ∧
    (l.set PM_STAT_ALERT).on PM_STAT_ALERT = true := by decide +kernel

theorem wit2_TestAndLife :
    let l := up [(LC_STAT_STATE, lcProduction)]
    let b := up [(LC_STAT_STATE, lcBlank)]
    let x := up [(LC_STAT_STATE, lcBlank), (LC_STAT_BUSY, 1)]
    l.st.run = none ∧ l.st.prog = none ∧ l.mode ≠ mService ∧ l.jtagOpen = false ∧ x.on LC_STAT_BUSY = true ∧ b.lc.write = none ∧
    gdUnit 6 = false ∧ (up [] (fun l => { l with st := { l.st with run := some { unit := 6, index := 0, start := 0, prog := true, began := false } } })).st.run =
      some { unit := 6, index := 0, start := 0, prog := true, began := false } ∧
    b.glAccept ⟨0x10, 0x71, 8, 7, 0, 0, 1, [], [], 0⟩ 8 = none ∧ b.rd ST_STAT_TOKEN = 0 ∧ b.st.tokAt + 4 * outerCycle b.prof ≤ b.now ∧
    (up [(LC_STAT_STATE, 0)]).sliceRefused 0 0 = true := by decide +kernel

theorem wit2_LowestCanIdGoesFirst :
    let l := up [(CN_CFG_EN, 1), (CN_TXSTAT_PEND, 0x90), (CN_TXHDR 4, 2 ^ 30), (CN_TXHDR 7, 7)]
    (l.rd CN_TXSTAT_PEND).testBit 7 = true ∧ l.cnFormat (l.rd (CN_TXHDR 7)) = true ∧ l.cnNext = some 7 := by decide +kernel

theorem wit2_DispatchFollowsPriority :
    let e : Item := ⟨.event, 40, 3, 0, 1, 2 ^ 32 - 1, 0⟩
    let f : Item := ⟨.event, 41, 3, 0, 1, 0, 0⟩
    ∀ j ∈ (busy [e, f] []).bistCharge.sc.items, j.stamp < 2 ^ 32 ∧ (j.stamp + 2 ^ 32 - (2 ^ 32 - 1) % 2 ^ 32) % 2 ^ 32 < 2 ^ 31 := by
  decide +kernel

theorem wit2_ThirdRollbackIsFatal :
    let l := up [] (fun l => { l with pc := { core := .halted, rbTimes := [l.now, l.now - 10 * msec] } })
    l.pc.core = .halted ∧ l.midDone.pc.rbTimes = [l.now, l.now - 10 * msec] ∧ l.midDone.now ≤ l.now - 10 * msec + 10 * msec := by decide +kernel

/-! ### Branches added with the waits of accesses, the intermediate commits and the lane modes -/

theorem wit3_NotReadyChangesNothing :
    let off : Lane := { up [] with part := .apx9613 }
    let d := up [(PD_STAT_STATE, 2 * 4)]
    let c := up [(PD_STAT_STATE, 3 * 4)] (fun l => { l with pw := { l.pw with moves := [⟨1, 0, l.now + 1⟩] } })
    let p := up [(PD_STAT_STATE, 2 * 4 ^ 3)]
    gateOf (.leOpen .A .x1) = .present .x1 ∧ off.part.hasAxis .x1 = false ∧
    gateOf (.tqOwWrite .A .x0 0xF01020020 8 0#64) = .engine .x0 ∧ off.part.hasTq = false ∧
    accessOf (.leOwWrite .A .x0 0xF01000020 8 0#64) = some (.le .x0, ⟨0xF01000020, 8, some 0#64⟩) ∧
    (mk d).ready .A (gateOf (.leOwWrite .A .x0 0xF01000020 8 0#64)) ∧ d.domOn (.le .x0) = false ∧ d.coming (.le .x0) = false ∧
    (mk c).ready .A (gateOf (.leOwWrite .A .x0 0xF01000020 8 0#64)) ∧ c.domOn (.le .x0) = false ∧ c.coming (.le .x0) = true ∧
    (accessOf (.blankcntRead .A)).map (fun e => (e.1, e.2.val)) = some (.pg .x0, none) ∧ (mk p).ready .A (gateOf (.blankcntRead .A)) ∧
    p.domOn (.pg .x0) = false ∧ p.coming (.pg .x0) = false := by decide +kernel

theorem wit3_AbsentLaneStaysAsleep :
    let s := mk ((up [(HP_STAT_IRQ, 1)]).setByte 5 1#8)
    s.named ∧ (∀ i, (s.lane i).canonical = true) ∧ s ≠ State.reset := by
  refine ⟨fun i => ?_, fun i => ?_, ?_⟩
  · cases i <;> rfl
  · cases i <;> decide +kernel
  · decide +kernel

theorem wit3_AbsentAsleep :
    let s : State := { part := .apx9602, la := { up [] with part := .apx9602 }, lb := Lane.reset .apx9602 .B, lc := Lane.reset .apx9602 .C, pending := [] }
    s.absentAsleep := by
  intro s i hi
  cases i
  · cases hi
  · cases hi
  · rfl

theorem wit3_UpperHalf :
    regUnder 0xF01000024 4 = (descOf 0xF01000020).map (fun d => (0xF01000020, d)) ∧ (descOf 0xF01000020).isSome = true ∧
    regUnder ((TQ_IMAX .x0).addr + 4) 4 = (descOf (TQ_IMAX .x0).addr).map (fun d => ((TQ_IMAX .x0).addr, d)) := by decide +kernel

theorem wit3_TorqueTableCommandsComplete :
    let d := (descOf (TQ_IMAX .x0).addr).getD ⟨0, 0, 0, 0, 0, 0, []⟩
    let o := up [(TQ_STAT_SLSTATE .x0, slCatch), (TQ_CATCHIMAX .x0, 2 ^ 64 - 1)]
    let m := fun l : Lane => magOf (statorAl ((l.adTake .x0 ⟨0, 0, 0, 0⟩).adScale .x0 ⟨0, 0, 0, 0⟩)) (statorBe ((l.adTake .x0 ⟨0, 0, 0, 0⟩).adScale .x0 ⟨0, 0, 0, 0⟩))
    d.bits (fun k => k = .ow) = 0 ∧ d.bits (fun k => k = .rl) ≠ 0 ∧ d.wide = 64 ∧ d.fits (fun k => k = .rl) 0 = true ∧
    d.fits (fun k => k = .rl) (2 ^ 63) = false ∧ o.rdS (TQ_CATCHIMAX .x0) < (m o).raw ∧ ¬ (up [(TQ_CATCHIMAX .x0, 2 ^ 62)]).rdS (TQ_CATCHIMAX .x0) < (m (up [])).raw := by
  decide +kernel

theorem wit3_OverlappingGroupIsNotCommitted :
    let l := up [(MOD_CFG_SRC .x0, 1), (MOD_PER_TICKS .x0, 51200), (cmpR .x0 0, 100), (cmpF .x0 0, 40000), (cmpR .x0 1, 100),
      (cmpF .x0 1, 40000), (MOD_ENVD_DMAX .x0, 65535)] (fun l => l.setMd .x0 { (l.ax .x0).md with reloadAt := some l.now })
    ((l.ax .x0).md.reloadAt.any (fun r => decide (l.now < r + 4))) = true ∧ srcIsLe l .x0 = false ∧ srcIsDirect l .x0 = true ∧
    overlapMask 51200 ((List.range 3).map (l.directPhase .x0 51200)) ≠ 0 := by decide +kernel

theorem wit3_GateDriverCommandsComplete :
    let a := up [(SY_MODE_OWN, mArming)] (fun l => { l with im := { l.im with gdRun := 3 } })
    (mk a).ready .A (.axis .x0 (.pg .x0)) ∧ a.mode = mArming ∧ a.im.gdRun ≠ 0 ∧ (up []).im.gdRun = 0 ∧
    (up [(SY_MODE_OWN, mArming)]).enableRefused .x0 = true := by decide +kernel

theorem wit3_LateKeepAliveCounts :
    let r := up [] (fun l => { l with pw := { l.pw with rootLost := true } })
    r.pw.rootLost = true ∧ r.part.hasLane .A = true ∧ r.sy.held = false ∧ (up []).pw.rootLost = false := by decide +kernel

theorem wit3_BootCommandsComplete :
    let b := up [(SY_MODE_OWN, mBoot)] (fun l => { l with im := { l.im with phase := .loaded } })
    (mk b).ready .A .clocked ∧ b.im.phase = .loaded ∧ b.mode = mBoot ∧ b.tickHere = true ∧
    (up [(SY_MODE_OWN, mOperate)]).mode ≠ mBoot := by decide +kernel

theorem wit3_SafetyInputCommandsComplete :
    let l := up [(SF_SAFCFG_FILT 0, 5)] (fun l => l.setSaf 0 { a := false, atA := some (l.now - 100 * 5 * cycPer + cycPer) })
    let m := up [(SF_SAFCFG_FILT 0, 5)] (fun l => l.setSaf 0 { a := false, atA := some (l.now - 100 * 5 * cycPer) })
    let p := up [(SY_MODE_OWN, mArming), (SY_ARMTIME_MS, 1), (SF_ARMSTAT_SAFSS, 1), (SF_ARMSTAT_GD0, 1), (SF_ARMSTAT_GD1, 1), (SF_ARMSTAT_REG, 1),
      (SF_ARMSTAT_QUORUM, 1)]
    l.safAccepts 0 false true = false ∧ m.safAccepts 0 false true = true ∧ (up []).safAccepts 0 true true = true ∧
    p.mode = mArming ∧ ({ p with now := p.armEnd } : Lane).armProofs.armComplete = true := by decide +kernel

theorem wit3_PairCommandsComplete :
    let l := up [(SY_MODE_OWN, mService), (LC_STAT_STATE, lcManufacture)] (fun l =>
      { l with sy := { l.sy with cycled := true }, pc := { l.pc with store := [.device ST_CTL_SWEEP.addr 4 1#64] } })
    let m := l.commitMark true
    let es := (drainSplit m.drainLeft none).1
    l.commits = true ∧ l.pc.mid = none ∧
    ((({ m with pc := { m.pc with drained := es.map Prod.fst } } : Lane).drainNote es []).drain es).sy.boots ≠ m.sy.boots := by decide +kernel

theorem wit3_AccessCommandsComplete :
    let l := up [(PD_STAT_STATE, 2 * 4 ^ 5)]
    let a := (FB_CFG_SENS .x0).addr
    ∃ p, l.place a 4 = some p ∧ l.downAt a p = some .fb ∧ (up []).downAt a p = none :=
  ⟨.reg .fb .x0 ((descOf (FB_CFG_SENS .x0).addr).getD ⟨0, 0, 0, 0, 0, 0, []⟩), by decide +kernel⟩

theorem wit3_OwnModeFollowsItsTable :
    let l := up [(SY_MODE_OWN, mOperate), (SF_ARMSTAT_ESTAB, 1)]
    let r := up [(SY_MODE_OWN, mSafeHold)] (fun l => { l with fc := { l.fc with restartWait := true } })
    (∀ i, ((mk r).lane i).fc.restartWait = true → ((mk r).lane i).mode = mSafeHold ∨ ((mk r).lane i).mode = mService) ∧
    (mk l).ready .A .clocked ∧ l.tickHere = true ∧ modeLive l.mode = true ∧
    (l.boundaryHead 0 0).sy.reqHold = none ∧ ({ l with sy := { l.sy with reqHold := some .quorum } } : Lane).sy.reqHold.isSome = true := by
  refine ⟨fun i => ?_, by decide +kernel⟩
  cases i <;> decide +kernel

theorem wit3_GuylineLinkCommandsComplete :
    let b := up [(SY_MODE_OWN, mBoot)] (fun l => { l with im := { l.im with phase := .lock } })
    (mk b).ready .A (.domain .cp) ∧ b.training = false ∧ (up [(SY_MODE_OWN, mOperate)]).training = true := by decide +kernel

theorem wit3_NetworkCommandsComplete :
    let l := up [(TT_CFG_EN, 1), (SY_MODE_OWN, mOperate)]
    (atNs 500000 l).ttOn = true ∧ (atNs 500000 l).ntMark 0 ttCycle = true ∧ (atNs 500000 l).tt.cyc ≠ some ((atNs 500000 l).ntime / ttCycle) ∧
    (atNs 500010 l).ntMark 0 ttCycle = false := by decide +kernel

theorem wit3_CanCommandsComplete :
    let l := up [(CN_CFG_EN, 1)]
    l.on CN_CFG_LISTEN = false ∧ (up [(CN_STAT_PASSIVE, 1)]).on CN_STAT_PASSIVE = true ∧ l.on CN_STAT_PASSIVE = false ∧
    (l.set CN_CFG_LISTEN).on CN_CFG_LISTEN = true := by decide +kernel

theorem wit3_RegulatorCommandsComplete :
    let l := up [(PM_CFG_EN, 1)] (fun l => { l with pm := { l.pm with cur := some ⟨.statusWord, .alert⟩, again := true } })
    l.pm.cur = some ⟨.statusWord, .alert⟩ ∧ l.pm.retryAt = none ∧ l.pm.again = true ∧ (up []).pmOn = false := by decide +kernel

theorem wit3_SelfTestCommandsComplete :
    let p := up [] (fun l => { l with st := { l.st with prog := some { step := 2, done := 1, res := 1, time := 5 } } })
    p.st.prog = some { step := 2, done := 1, res := 1, time := 5 } ∧ p.st.run = none := by decide +kernel

theorem wit3_PassOffWinsOverPassOn :
    let c := up [(PD_STAT_STATE, 3 * 4 ^ 3)] (fun l => { l with pw := { l.pw with moves := [⟨3, 0, l.now + 1⟩] } })
    (12#64).getLsbD 2 = true ∧ (12#64).getLsbD 3 = true ∧ (up []).domOn (.pg .x0) = true ∧ c.domOn (.pg .x0) = false ∧
    c.coming (.pg .x0) = true ∧ (up [(PD_STAT_STATE, 2 * 4 ^ 3)]).coming (.pg .x0) = false := by decide +kernel

theorem wit3_CoreDebugStates :
    (up [(LC_STAT_STATE, lcBlank)]).rd LC_STAT_STATE ∈ [0, 1, 3] ∧ (up [(LC_STAT_STATE, lcReturn)]).rd LC_STAT_STATE ∈ [0, 1, 3] ∧
    (up [(LC_STAT_STATE, lcManufacture)]).rd LC_STAT_STATE ∈ [0, 1, 3] ∧ (up [(LC_STAT_STATE, lcProduction)]).debugOpen = false := by
  decide +kernel

/-- Event 8 occurs, and a clear of its bit in the same CLK_BUS cycle leaves it; one in the next cycle clears it. -/
theorem wit3_RegisterWritesKeepTypes :
    let l := (up []).event 8
    let n : Lane := { l with now := l.now + cycBus }
    (l.evFresh (SY_EVSTAT_EV 0).addr).testBit 8 = true ∧ (l.reg (SY_EVSTAT_EV 0).addr).getLsbD 8 = true ∧
    ((l.fieldWrite (SY_EVSTAT_EV 0).addr 256).reg (SY_EVSTAT_EV 0).addr).getLsbD 8 = true ∧
    ((n.fieldWrite (SY_EVSTAT_EV 0).addr 256).reg (SY_EVSTAT_EV 0).addr).getLsbD 8 = false := by decide +kernel

theorem wit4_LoopEnginePeriodCompletes :
    let l := up [(LE_STAT_STATE .x0, leFault)] (fun l => l.setMd .x0 { (l.ax .x0).md with running := true })
    let a := (l.srcSelect .x0 (l.ax .x0).ad.sampAt).adSample .x0 ⟨0, 0, 0, 0⟩
    (mk l).ready .A (.axis .x0 (.le .x0)) ∧ l.on (LE_STAT_DRIVE .x0) = false ∧
    (a.noteSensor .x0 (a.fbEval .x0 (l.ax .x0).ad.sampAt)).rd (LE_STAT_STATE .x0) = leFault := by decide +kernel

/-- A lane held in reset, with its supply and without. -/
def down (dead : Bool) : Lane := up [(WK_CFG_SAFW, 1), (WK_CFG_SAFEN, 1), (WK_ALARM, 1)] (fun l =>
  { l with sy := { l.sy with held := true, dead := dead }, pw := { l.pw with alarm := true } })

theorem wit4_HeldLanes :
    (mk (down false)).ready .A .always ∧ (down false).part.hasLane .A = true ∧ (down false).sy.held = true ∧ (down false).sy.dead = false ∧
    (mk (down true)).ready .A .always ∧ (down true).sy.held = true ∧ (down true).sy.dead = true ∧
    (down false).pw.alarm = true ∧ (down false).rd WK_ALARM ≤ (down false).slow ∧ (down false).on WK_CFG_SAFW = true ∧
    ((down false).rd WK_CFG_SAFEN).testBit (2 * 0 + false.toNat) = true ∧ (up []).pw.alarm = false ∧ (up []).on WK_CFG_SAFW = false := by
  decide +kernel

theorem wit4_ModeCommandsComplete :
    let r := fun (rest : FcSt) => up [(SY_MODE_OWN, mSafeHold)] (fun l =>
      { l with sy := { l.sy with autoDue := true, autoTick := true }, fc := rest })
    (mk (r {})).ready .A .clocked ∧ (r {}).atTick = true ∧ (r {}).dumping = false ∧ (r { deDue := true }).dumping = true ∧
    (r { deDue := true }).sy.autoDue = true ∧ (r { deDue := true }).atTick = true := by decide +kernel

theorem wit4_GuylineLinkCommandsComplete :
    let f := fun (ns : Nat) (step : Bool) => up [(GL_STAT_LEADER, 1)] (fun l =>
      { atNs ns l with gl := { l.gl with tickAt := some (atNs 0 l).now, step := step } })
    (mk (f 0 false)).ready .A (.domain .cp) ∧ (f 0 false).gl.tickAt = some (atNs 0 (up [])).now ∧ (f 0 false).gl.step = false ∧
    (f 0 true).gl.step = true ∧ (f 0 false).rd GL_STAT_LEADER = LaneId.B.code ∧ LaneId.B ≠ (f 0 false).me ∧
    (f 0 false).now < (atNs 0 (up [])).now + 25 * usec ∧ (f 0 false).gl.adjust = 0 := by decide +kernel

/-- A lane that has accepted a message in the present CLK_BUS cycle, or in an earlier one. -/
def took (back : Nat) (first : Bool) (root : Bool) : Lane := up [(FC_STAT_FIRSTV, 1)] (fun l =>
  { l with pw := { l.pw with rootLost := root }, fc := { l.fc with
    wait := [⟨l.mkMsg srcHQ 1 clsCE none 0, false⟩]
    acc := some ⟨({ l with now := l.now - back, pw := { l.pw with rootLost := root } } : Lane).accCycle, 0#64, 7, first, false⟩ } })

theorem wit4_FaultCommandsComplete :
    (mk (took 0 true false)).ready .A .collector ∧ (took 0 true false).accDone = true ∧ (took 0 false true).accDone = true ∧
    (took cycBus true false).accDone = false ∧ (took 0 true false).fc.acc.any (·.first) = true ∧
    (took 0 false false).fc.acc.any (·.first) = false ∧ (mk (took 0 false false)).ready .A (.domain .cp) ∧
    (took cycBus false false).pw.rootLost = false ∧ nextMsg (took cycBus false false).fc.wait ≠ none ∧ (up []).accDone = false := by
  decide +kernel

theorem wit4_FirstMessageIsLatched :
    let m : Msg := ⟨(up []).mkMsg srcHQ 1 clsCE none 0, false⟩
    let l := up [] (fun l => { l with fc := { l.fc with wait := [m] } })
    (mk l).ready .A (.domain .cp) ∧ l.pw.rootLost = false ∧ l.accDone = false ∧ nextMsg l.fc.wait = some (m, []) ∧
    takenClass m.bits ≠ clsFT := by decide +kernel

theorem wit4_ThirdRollbackIsFatal :
    let l := up [] (fun l => { l with pc := { l.pc with rbTimes := [l.now, l.now - 10 * msec] } })
    (l.rollback 0 false 0 0#64).accDone = false := by decide +kernel

theorem wit4_LifeCycleCommandsComplete :
    let w := fun (w : OtpWrite) => up [(LC_STAT_STATE, lcBlank)] (fun l => { l with lc := { write := some w } })
    (mk (w (.revoke 1))).ready .A .clocked ∧ (w (.revoke 1)).lc.write = some (.revoke 1) ∧ (w (.state lcTerminated)).life = lcBlank := by
  decide +kernel

/-! ### Values by hand from the rules -/

/-- Of two messages that wait, one is accepted per CLK_BUS cycle; a REARM in the cycle of the second makes it the first (R319, R325). -/
theorem test_one_message_per_cycle :
    let m := fun n => (⟨(up []).mkMsg srcHQ n clsCE none 0, false⟩ : Msg)
    let l := up [] (fun l => { l with fc := { l.fc with wait := [m 1, m 2] } })
    let a := l.acceptMsg
    let b := ({ a with now := a.now + cycBus } : Lane).acceptMsg
    a.fc.wait = [m 2] ∧ a.acceptMsg.fc.wait = [m 2] ∧ a.rearm.rd FC_STAT_FIRSTV = 1 ∧ b.fc.wait = [] ∧
    b.reg FC_FIRST.addr = (m 1).bits ∧ b.rd FC_STAT_OVF = 1 ∧
    b.rearm.reg FC_FIRST.addr = (m 2).bits ∧ b.rearm.rd FC_STAT_OVF = 0 ∧ b.rearm.rd FC_STAT_FIRSTV = 1 := by decide +kernel

/-- SAFE-HOLD announced while the lane is in BOOT does not end its ARMING (R24). -/
theorem test_announcement_in_boot_is_ignored :
    let c := fun m => (up [(SY_MODE_OWN, m)]).cmdTake (BitVec.ofNat 8 mSafeHold :: List.replicate 255 0xFF#8)
    ((c mBoot).wr SY_MODE_OWN mArming).announced = 7 ∧ (c mArming).announced = mSafeHold := by decide +kernel

/-- A follower whose tick is late, corrected by SYNC past the present instant, ticks at once (R294). -/
theorem test_late_tick_is_not_skipped :
    let l := up [] (fun l => { atNs 20 l with gl := { l.gl with adjust := 80, tickAt := some ((atNs 0 l).now - outerCycle l.prof) } })
    l.tickHere = false ∧ (l.tickMove 0).tickHere = true ∧ (l.tickMove 0).gl.adjust + (l.tickMove 0).gl.carry = 0 := by decide +kernel

/-- A threshold of 0 of an axis not used is in range and one of 3 A is not (R193); ALG 4 of a program step is reserved (Table 14.6). -/
theorem test_load_ranges :
    (up []).outOfRange (GD_OCTH_AMPS .x0).addr = false ∧ (up [(GD_OCTH_AMPS .x0, 3)]).outOfRange (GD_OCTH_AMPS .x0).addr = true ∧
    (up [(GD_OCTH_AMPS .x0, 4)]).outOfRange (GD_OCTH_AMPS .x0).addr = false ∧
    ((up []).setReg (ST_PROG 1).addr (4 * 2 ^ 52)).outOfRange (ST_PROG 1).addr = true ∧
    ((up []).setReg (ST_PROG 1).addr (3 * 2 ^ 52)).outOfRange (ST_PROG 1).addr = false := by decide +kernel

/-- A high-side demand that falls 10 ns before a trip's low-side ASC holds the low side off until 20 ns have passed (R188, R192). -/
theorem test_gap_runs_from_the_demand :
    let b := up [(MOD_CFG_SRC .x0, 1), (MOD_PERA_TICKS .x0, 51200), (actR .x0 0, 0), (actF .x0 0, 1600), (GD_STAT_ENA .x0, 1),
      (MOD_DT_DTH .x0, 0)]
      (fun l => l.setMd .x0 { (l.ax .x0).md with running := true, valleyAt := l.now })
    let at_ := fun (n : Nat) (l : Lane) => ({ l with now := 100000000 + n } : Lane)
    let n := (at_ 1 b).gateNote .x0
    let t := ({ at_ 116 n with trip := { n.trip with asc0 := 3 } } : Lane).gateNote .x0
    (at_ 99 n).line .x0 0 = true ∧ (at_ 100 n).line .x0 0 = false ∧ t.line .x0 1 = true ∧ t.gate .x0 1 = false ∧
    (at_ 131 t).gate .x0 1 = false ∧ (at_ 132 t).gate .x0 1 = true ∧ t.rd (GD_XCNT_DTCLIP .x0) = 1 := by decide +kernel

end Sys2Proof.Tests
end

section
/-!
SUPPORT. Accesses to registers: where one leads, what a write does to each bit, and the commands that carry one to the bus
(spec/18_address_map.md R577 to R580, R592; spec/00_scope.md R10, R11).
-/

namespace Sys2Proof.Machine

/-! ### Where a register access leads -/

/-- The register blocks lie above every memory. -/
theorem blockOf_some_ge {a : Nat} {e : Blk × Ax × Nat} (h : blockOf a = some e) : 0xF00000000 ≤ a := by
  refine Nat.le_of_not_lt fun hlt => ?_
  simp only [blockOf, hlt, if_true] at h
  cases h

/-- The SY block is the first one, and belongs to no axis. -/
theorem blockOf_sy {a o : Nat} {x : Ax} (h : blockOf a = some (.sy, x, o)) : x = .x0 ∧ a = 0xF00000000 + o ∧ o < 0x10000 := by
  have hge := blockOf_some_ge h
  unfold blockOf at h
  split at h
  · cases h
  split at h
  · split at h <;> cases h
    exact ⟨rfl, by omega, by omega⟩
  split at h
  · cases h
  split at h
  · dsimp only at h
    split at h
    case h_7 => split at h <;> cases h
    all_goals cases h
  · cases h

/-- The descriptor at an address is one of its block, for the offset in it. -/
theorem descOf_some {a : Nat} {d : RegDesc} (h : descOf a = some d) :
    ∃ b x o, blockOf a = some (b, x, o) ∧ d ∈ b.regs ∧ d.has o = true := by
  unfold descOf at h
  split at h
  · cases h
  · rename_i b x o hb
    split at h
    · cases h
    · exact ⟨b, x, o, hb, List.mem_of_find?_eq_some h, List.find?_some (p := fun d : RegDesc => d.has o) h⟩

/-- A register that is no family stands at one offset. -/
theorem RegDesc.has_single {d : RegDesc} {o : Nat} (h1 : d.count1 = 1) (h2 : d.count2 = 1) (h : d.has o = true) : o = d.off := by
  simp only [RegDesc.has, h1, h2, Nat.lt_one_iff, Bool.and_eq_true, decide_eq_true_eq] at h
  obtain ⟨hle, ⟨hi, hj⟩, hq⟩ := h
  rw [hj, hi] at hq
  omega

/-- A whole register is reached at its own address, at its own width. -/
theorem regPlace_reg {b b' : Blk} {x x' : Ax} {a n : Nat} {d : RegDesc} (h : regPlace b x a n = some (.reg b' x' d)) :
    b' = b ∧ x' = x ∧ descOf a = some d ∧ 8 * n = d.wide := by
  unfold regPlace at h
  split at h
  · rename_i d' hd
    split at h
    · rename_i hw
      cases h
      exact ⟨rfl, rfl, hd, hw⟩
    · split at h <;> cases h
  · split at h
    · split at h
      · cases h
      · split at h <;> cases h
    · split at h <;> cases h

/-- An access of a register's own width reaches it whole. -/
theorem regPlace_whole (b : Blk) (x : Ax) {a n : Nat} {d : RegDesc} (hd : descOf a = some d) (hw : 8 * n = d.wide) :
    regPlace b x a n = some (.reg b x d) := by
  simp [regPlace, hd, hw]

/-- What it takes for an access to reach a whole register. -/
theorem Lane.place_reg {l : Lane} {a n : Nat} {b : Blk} {x : Ax} {d : RegDesc} (h : l.place a n = some (.reg b x d)) :
    (∃ o, blockOf a = some (b, x, o)) ∧ descOf a = some d ∧ 8 * n = d.wide := by
  unfold Lane.place at h
  split at h
  · cases h
  split at h
  · cases h
  split at h
  · cases h
  split at h
  · cases h
  split at h
  · split at h <;> cases h
  rename_i b' x' o hb
  split at h
  · cases h
  split at h
  · cases h
  split at h
  · cases h
  obtain ⟨rfl, rfl, hd, hw⟩ := regPlace_reg h
  exact ⟨⟨o, hb⟩, hd, hw⟩

/-- No register address lies in MRAM. -/
theorem inMram_register (p : Part) {a : Nat} (h : 0xF00000000 ≤ a) : inMram p a = false := by
  cases p <;> simp [inMram] <;> omega

theorem inRange_above {a base size : Nat} (h : base + size ≤ a) : inRange a base size = false := by
  simp only [inRange, Bool.and_eq_false_iff, decide_eq_false_iff_not]
  omega

/-- An aligned access to a block that the lane has, outside the windows and the tables, is a register access. -/
theorem Lane.place_of_block (l : Lane) {a n o : Nat} {b : Blk} {x : Ax} (hn : n ∈ [1, 2, 4, 8]) (ha : a % n = 0)
    (hb : blockOf a = some (b, x, o)) (hh : l.hasBlock b x = true) (hw : winOf a = none) (ht : inFfTable x a = false) :
    l.place a n = regPlace b x a n := by
  have hge := blockOf_some_ge hb
  have htcm : ¬ a < 0x400000 := by omega
  have hst : inRange a 0x10000000 0x40000 = false := inRange_above (by omega)
  have hn' : n = 1 ∨ n = 2 ∨ n = 4 ∨ n = 8 := by simpa using hn
  simp [Lane.place, hn', ha, htcm, hst, inMram_register, hge, hb, hh, hw, ht]

/-- An access to a block of CP meets no other domain that could be down. -/
theorem Lane.downAt_of_cp (l : Lane) {a o : Nat} {b : Blk} {x : Ax} (p : Place) (hb : blockOf a = some (b, x, o))
    (hd : blkDom b x = none) : l.downAt a p = none := by
  simp [Lane.downAt, domAt, hb, hd]

/-- An access to a register touches no memory that a self-test slice checks. -/
theorem Lane.accessed_register (l : Lane) {a : Nat} (n : Nat) (h : 0xF00000000 ≤ a) : l.accessed a n = l := by
  have htcm : ¬ a < 0x400000 := by omega
  have hst : inRange a 0x10000000 0x40000 = false := inRange_above (by omega)
  simp [Lane.accessed, htcm, hst, inMram_register, h]

/-- A write of a whole register whose domain is ON is the block's write, with the mark of a bus error cleared. -/
theorem Lane.devWrite_reg (l : Lane) {a n : Nat} {b : Blk} {x : Ax} {d : RegDesc} (v : Word)
    (hp : l.place a n = some (.reg b x d)) (hd : l.downAt a (.reg b x d) = none) :
    l.devWrite a n v = { l with busErr := false }.regWrite b x (a % 0x10000) a n v := by
  obtain ⟨⟨o, hb⟩, -, -⟩ := Lane.place_reg hp
  have hd' : { l with busErr := false }.downAt a (.reg b x d) = none := hd
  simp [Lane.devWrite, hp, hd', Lane.accessed_register _ _ (blockOf_some_ge hb)]

/-- A read of a whole register whose domain is ON is the block's read. -/
theorem Lane.devRead_reg (l : Lane) {a n : Nat} {b : Blk} {x : Ax} {d : RegDesc}
    (hp : l.place a n = some (.reg b x d)) (hd : l.downAt a (.reg b x d) = none) :
    l.devRead a n = { l with busErr := false }.regRead b x a d := by
  obtain ⟨⟨o, hb⟩, -, -⟩ := Lane.place_reg hp
  have hd' : { l with busErr := false }.downAt a (.reg b x d) = none := hd
  simp [Lane.devRead, hp, hd', Lane.accessed_register _ _ (blockOf_some_ge hb)]

/-! ### The commands that carry an access to the bus -/

/-- A write that is no store of the core takes effect on the bus at once. -/
theorem exec_registerWrite_bus (s : State) (i : LaneId) (a n : Nat) (v : Word) (h : s.ready i (.domain .cp)) :
    exec (.registerWrite i false a n v) s = .next (s.setLane i ((s.lane i).devWrite a n v).divApply) :=
  State.actD_ready s i .cp _ h

theorem Lane.debugOpen_iff (l : Lane) : l.debugOpen = true ↔ l.rd LC_STAT_STATE ∈ [0, 1, 3] := by
  simp [Lane.debugOpen, or_assoc]

/-- A read by the debugger goes straight to the bus while the core is held in reset. -/
theorem exec_coreDebug_read_held (s : State) (i : LaneId) (a n : Nat) (h : s.ready i (.domain .cp))
    (ho : (s.lane i).rd LC_STAT_STATE ∈ [0, 1, 3]) (hc : (s.lane i).pc.core = .held) :
    exec (.coreDebug i (.read a n)) s = .next (s.setLane i ((s.lane i).devRead a n)) := by
  have hopen := (s.lane i).debugOpen_iff.mpr ho
  calc exec (.coreDebug i (.read a n)) s
      = .next (s.inLane i (fun l => if l.debugOpen then l.debug (.read a n) else l)) := State.actD_ready s i .cp _ h
    _ = .next (s.setLane i ((s.lane i).devRead a n)) := by simp [State.inLane, hopen, Lane.debug, hc]

/-! ### What a write does to each bit -/

/-- Whether a field of one of some access types covers a bit. -/
def RegDesc.covers (d : RegDesc) (p : Acc → Bool) (k : Nat) : Bool :=
  d.fields.any (fun f => p f.acc && decide (f.lo ≤ k) && decide (k < f.lo + f.w))

/-- The bits of a field, as a mask. -/
theorem testBit_fieldMask (lo w k : Nat) : ((2 ^ w - 1) * 2 ^ lo).testBit k = (decide (lo ≤ k) && decide (k < lo + w)) := by
  rw [← Nat.shiftLeft_eq, Nat.testBit_shiftLeft, Nat.testBit_two_pow_sub_one]
  by_cases hk : lo ≤ k
  · simp [hk, show k - lo < w ↔ k < lo + w by omega]
  · simp [hk]

/-- The mask of some access types holds the bits that their fields cover. -/
theorem RegDesc.testBit_bits (d : RegDesc) (p : Acc → Bool) (k : Nat) : (d.bits p).testBit k = d.covers p k := by
  have fold : ∀ (fs : List FieldDesc) (m : Nat),
      (fs.foldl (fun a f => if p f.acc then a ||| ((2 ^ f.w - 1) * 2 ^ f.lo) else a) m).testBit k =
        (m.testBit k || fs.any (fun f => p f.acc && decide (f.lo ≤ k) && decide (k < f.lo + f.w))) := by
    intro fs
    induction fs with
    | nil => simp
    | cons f fs ih =>
      intro m
      rw [List.foldl_cons, ih, List.any_cons]
      cases hp : p f.acc <;> simp [testBit_fieldMask, Bool.or_assoc]
  simp [RegDesc.bits, RegDesc.covers, fold]

/-- A bit of a register after a write: a storing field takes the written bit, and a WC field loses a bit written as 1 (R580). -/
theorem RegDesc.getLsbD_afterWrite (d : RegDesc) (old v : Word) (k : Fin 64) :
    (d.afterWrite old v.toNat).getLsbD k =
      ((if d.covers Acc.stores k then v.getLsbD k else old.getLsbD k) && !(d.covers Acc.clears k && v.getLsbD k)) := by
  have hv : v.toNat.testBit k = v.getLsbD k := rfl
  simp only [RegDesc.afterWrite, mergeBits, BitVec.getLsbD_and, BitVec.getLsbD_or, BitVec.getLsbD_not, BitVec.getLsbD_ofNat, k.isLt,
    decide_true, Bool.true_and, Nat.testBit_and, RegDesc.testBit_bits, hv]
  cases d.covers Acc.stores k <;> simp

/-- A write that a field's range refuses changes nothing (R592). -/
theorem Lane.fieldWrite_refused (l : Lane) {a v : Nat} {d : RegDesc} (hd : descOf a = some d) (hf : d.fits Acc.stores v = false) :
    l.fieldWrite a v = l := by
  simp [Lane.fieldWrite, hd, hf]

/-- A write that every range admits replaces the register; an event bit whose source occurs now stays. -/
theorem Lane.fieldWrite_fits (l : Lane) {a v : Nat} {d : RegDesc} (hd : descOf a = some d) (hf : d.fits Acc.stores v = true) :
    l.fieldWrite a v = l.setReg a (d.afterWrite (l.reg a) v ||| (l.reg a &&& BitVec.ofNat 64 (l.evFresh a))) := by
  simp [Lane.fieldWrite, hd, hf]

/-- A bit of a register after a write that is admitted, where no event bit lies beside a storing field: an event bit that is being set
is not cleared. -/
theorem Lane.getLsbD_reg_fieldWrite (l : Lane) {a : Nat} {d : RegDesc} (v : Word) (k : Fin 64) (hd : descOf a = some d)
    (hf : d.fits Acc.stores v.toNat = true) (he : d.covers Acc.stores k = true → l.evFresh a = 0) :
    ((l.fieldWrite a v.toNat).reg a).getLsbD k =
      ((if d.covers Acc.stores k then v.getLsbD k else (l.reg a).getLsbD k) &&
        !(d.covers Acc.clears k && v.getLsbD k && !(l.evFresh a).testBit k)) := by
  simp only [Lane.fieldWrite_fits l hd hf, Lane.reg_setReg, BitVec.getLsbD_or, BitVec.getLsbD_and, BitVec.getLsbD_ofNat, k.isLt,
    decide_true, Bool.true_and, RegDesc.getLsbD_afterWrite]
  cases hs : d.covers Acc.stores k with
  | true => simp [he hs]
  | false => cases (l.reg a).getLsbD k <;> cases (l.evFresh a).testBit k <;> simp

theorem Lane.reg_fieldWrite_ne (l : Lane) {a b : Nat} (v : Nat) (h : b ≠ a) : (l.fieldWrite a v).reg b = l.reg b := by
  unfold Lane.fieldWrite
  split
  · rfl
  · split
    · exact l.reg_setReg_ne a b _ h
    · rfl

/-- A write of fields touches the register file alone. -/
theorem Lane.fieldWrite_frame (l : Lane) (a v : Nat) (rs : List (Nat × Word)) :
    { l.fieldWrite a v with regs := rs } = { l with regs := rs } := by
  unfold Lane.fieldWrite
  split
  · rfl
  · split <;> rfl

theorem Lane.byte_fieldWrite (l : Lane) (a v b : Nat) : (l.fieldWrite a v).byte b = l.byte b :=
  (congrArg (fun m : Lane => m.byte b) (l.fieldWrite_frame a v []) :)

/-! ### The SY block -/

/-- Below the event banks no bit stays set for an event. -/
theorem Lane.evFresh_below (l : Lane) {a : Nat} (h : a < 0xF00000080) : l.evFresh a = 0 := by
  have hne : ∀ k, a ≠ (SY_EVSTAT_EV k).addr := fun k => by simp only [SY_EVSTAT_EV]; omega
  have fold : ∀ ss : List Nat, ss.foldl (fun m s => if a = (SY_EVSTAT_EV (s / 32)).addr then m ||| 2 ^ (s % 32) else m) 0 = 0 := by
    intro ss
    induction ss with
    | nil => rfl
    | cons s ss ih => rw [List.foldl_cons, if_neg (hne _), ih]
  exact fold l.evHere

/-- SY_PROF is the one register of SY with a storing field. -/
theorem regsSY_stores : ∀ d ∈ regsSY, d.fields.any (fun f => Acc.stores f.acc) = true →
    d.off = 0x20 ∧ d.count1 = 1 ∧ d.count2 = 1 := by decide

/-- No event bit lies in a register of SY with a storing field. -/
theorem Lane.evFresh_of_stores (l : Lane) {a o : Nat} {x : Ax} {d : RegDesc} {k : Nat} (hb : blockOf a = some (.sy, x, o))
    (hd : descOf a = some d) (hk : d.covers Acc.stores k = true) : l.evFresh a = 0 := by
  obtain ⟨b, x', o', hb', hmem, hhas⟩ := descOf_some hd
  obtain ⟨rfl, rfl, rfl⟩ : Blk.sy = b ∧ x = x' ∧ o = o' := by simpa [hb] using hb'
  have hst : d.fields.any (fun f => Acc.stores f.acc) = true := by
    obtain ⟨f, hf, hc⟩ := List.any_eq_true.mp hk
    simp only [Bool.and_eq_true] at hc
    exact List.any_eq_true.mpr ⟨f, hf, hc.1.1⟩
  obtain ⟨hoff, h1, h2⟩ := regsSY_stores d hmem hst
  have ho := RegDesc.has_single h1 h2 hhas
  exact l.evFresh_below (by have := (blockOf_sy hb).2.1; omega)

/-- A write of a whole register of SY is a write of its fields. -/
theorem Lane.devWrite_sy (l : Lane) {a n : Nat} {x : Ax} {d : RegDesc} (v : Word) (hp : l.place a n = some (.reg .sy x d)) :
    l.devWrite a n v = { l with busErr := false }.fieldWrite a v.toNat := by
  obtain ⟨⟨o, hb⟩, -, -⟩ := Lane.place_reg hp
  exact l.devWrite_reg v hp (l.downAt_of_cp _ hb rfl)

/-- The command that writes a whole register of SY. -/
theorem exec_registerWrite_sy (s : State) (i : LaneId) {x : Ax} {d : RegDesc} {a n : Nat} (v : Word) (h : s.ready i (.domain .cp))
    (hp : (s.lane i).place a n = some (.reg .sy x d)) :
    exec (.registerWrite i false a n v) s = .next (s.setLane i ({ s.lane i with busErr := false }.fieldWrite a v.toNat).divApply) := by
  rw [exec_registerWrite_bus s i a n v h, Lane.devWrite_sy _ v hp]

/-- Settles O56: the write is one of fields, whose bits follow their types one by one. -/
theorem registerWritesKeepTypes : Obligations.RegisterWritesKeepTypes := by
  unfold Obligations.RegisterWritesKeepTypes
  intro s i x d a n v hr l hp has
  obtain ⟨⟨o, hb⟩, hd, -⟩ := Lane.place_reg hp
  have hexec := exec_registerWrite_sy s i v hr hp
  refine ⟨fun hf => ?_, fun hf => ⟨_, hexec, fun k => ?_, fun b hne => ?_, fun b => ?_, ?_⟩⟩
  · rw [hexec, Lane.fieldWrite_refused _ hd hf]
  · exact Lane.getLsbD_reg_fieldWrite { l with busErr := false } v k hd hf (Lane.evFresh_of_stores _ hb hd)
  · exact Lane.reg_fieldWrite_ne { l with busErr := false } _ hne
  · exact Lane.byte_fieldWrite { l with busErr := false } a _ b
  · exact Lane.fieldWrite_frame { l with busErr := false } a v.toNat l.regs

/-! ### The capability words -/

/-- No field of a register with RO fields alone has another access type. -/
theorem RegDesc.covers_of_readOnly {d : RegDesc} {p : Acc → Bool} (h : ∀ f ∈ d.fields, f.acc = .ro) (hp : p .ro = false) (k : Nat) :
    d.covers p k = false := by
  refine List.any_eq_false.mpr fun f hf => ?_
  simp [h f hf, hp]

/-- A write of a register with RO fields alone leaves every register (R10). -/
theorem Lane.reg_fieldWrite_readOnly (l : Lane) {a : Nat} {d : RegDesc} (v : Word) (hd : descOf a = some d)
    (h : ∀ f ∈ d.fields, f.acc = .ro) (b : Nat) : (l.fieldWrite a v.toNat).reg b = l.reg b := by
  by_cases hb : b = a
  · subst hb
    have hs := fun k => RegDesc.covers_of_readOnly (p := Acc.stores) h rfl k
    have hc := fun k => RegDesc.covers_of_readOnly (p := Acc.clears) h rfl k
    have hf : d.fits Acc.stores v.toNat = true := List.all_eq_true.mpr fun f hf => by simp [h f hf, Acc.stores]
    refine BitVec.eq_of_getLsbD_eq fun k hk => ?_
    have hbit := l.getLsbD_reg_fieldWrite v ⟨k, hk⟩ hd hf (by simp [hs])
    simpa [hs, hc] using hbit
  · exact l.reg_fieldWrite_ne _ hb

/-- No read of a register of SY has an effect of its own. -/
theorem Lane.regRead_sy (l : Lane) {a o : Nat} {x : Ax} (d : RegDesc) (hb : blockOf a = some (.sy, x, o)) :
    l.regRead .sy x a d = l.returns (l.viewReg .sy x a d) := by
  obtain ⟨-, ha, ho⟩ := blockOf_sy hb
  have h1 : a ≠ SC_ENTER.addr := by simp only [SC_ENTER]; omega
  have h2 : a ≠ SC_NEXT.addr := by simp only [SC_NEXT]; omega
  have h3 : a ≠ MOD_BLANKCNT_CNT0.addr := by simp only [ne_eq, MOD_BLANKCNT_CNT0]; omega
  simp [Lane.regRead, h1, h2, h3]

/-- A read of a whole register of SY returns its view and clears the mark of a bus error. -/
theorem Lane.devRead_sy (l : Lane) {a n : Nat} {x : Ax} {d : RegDesc} (hp : l.place a n = some (.reg .sy x d)) :
    l.devRead a n = l.returns (l.viewReg .sy x a d) := by
  obtain ⟨⟨o, hb⟩, -, -⟩ := Lane.place_reg hp
  rw [l.devRead_reg hp (l.downAt_of_cp _ hb rfl), Lane.regRead_sy _ d hb]
  rfl

/-- The addresses of SY_CAP0 and SY_CAP1. -/
def capAddrs : List Nat := [0xF00000010, 0xF00000018]

theorem capAddrs_in_sy : ∀ a ∈ capAddrs,
    blockOf a = some (.sy, .x0, a % 0x10000) ∧ winOf a = none ∧ inFfTable .x0 a = false ∧ a % 8 = 0 := by
  decide

theorem capAddrs_readOnly :
    ∀ a ∈ capAddrs, (descOf a).any (fun d => decide (8 * 8 = d.wide ∧ ∀ f ∈ d.fields, f.acc = .ro)) = true := by
  decide

/-- The capability words are 64-bit registers of RO fields in every lane. -/
theorem Lane.place_capability (l : Lane) {a : Nat} (ha : a ∈ capAddrs) :
    ∃ d, l.place a 8 = some (.reg .sy .x0 d) ∧ ∀ f ∈ d.fields, f.acc = .ro := by
  obtain ⟨hb, hw, ht, hal⟩ := capAddrs_in_sy a ha
  obtain ⟨d, hd, hro⟩ := (Option.any_eq_true _ _).mp (capAddrs_readOnly a ha)
  obtain ⟨hwide, hro⟩ := of_decide_eq_true hro
  have hblk : l.hasBlock .sy .x0 = true := by cases hp : l.part <;> simp [Lane.hasBlock, Part.hasAxis, hp]
  exact ⟨d, (l.place_of_block (by simp) hal hb hblk hw ht).trans (regPlace_whole _ _ hd hwide), hro⟩

/-- A read of SY_CAP0 returns the word of the part (Table 0.6). -/
theorem Lane.devRead_cap0 (l : Lane) : l.devRead 0xF00000010 8 = l.returns (cap0 l.part) := by
  obtain ⟨d, hp, -⟩ := l.place_capability (a := 0xF00000010) (by simp [capAddrs])
  exact l.devRead_sy hp

/-- A read of SY_CAP1 returns the same word on every part (Table 0.6). -/
theorem Lane.devRead_cap1 (l : Lane) : l.devRead 0xF00000018 8 = l.returns 0x01000008#64 := by
  obtain ⟨d, hp, -⟩ := l.place_capability (a := 0xF00000018) (by simp [capAddrs])
  exact l.devRead_sy hp

/-- Settles O55: the hardware computes both words when they are read, and all their fields are RO. -/
theorem capabilityWordsReadTheirTable : Obligations.CapabilityWordsReadTheirTable := by
  unfold Obligations.CapabilityWordsReadTheirTable
  intro s i hr l read hopen hheld
  have hread : ∀ (a : Nat) (w : Word), l.devRead a 8 = l.returns w → read a w := by
    intro a w h
    have hexec := exec_coreDebug_read_held s i a 8 hr hopen hheld
    rwa [show (s.lane i).devRead a 8 = l.returns w from h] at hexec
  have hcap0 := hread 0xF00000010 (cap0 l.part) l.devRead_cap0
  refine ⟨fun hp => ?_, fun hp => ?_, fun hp => ?_, hread _ _ l.devRead_cap1, fun v a ha => ?_⟩
  · rwa [hp] at hcap0
  · rwa [hp] at hcap0
  · rwa [hp] at hcap0
  · obtain ⟨d, hp, hro⟩ := l.place_capability ha
    obtain ⟨-, hd, -⟩ := Lane.place_reg hp
    exact ⟨_, exec_registerWrite_sy s i v hr hp, Lane.fieldWrite_frame { l with busErr := false } a v.toNat l.regs,
      Lane.reg_fieldWrite_readOnly { l with busErr := false } v hd hro⟩

end Sys2Proof.Machine
end

section
/-!
SUPPORT. The arithmetic of the engines (spec/02_loop_engine.md R53, R55, R589): rounding to the nearest, and saturation at the ends.
-/

namespace Sys2Proof.Machine.Q

/-- The magnitude of a rounded quotient. -/
def roundMag (n d : Int) : Nat := (2 * n.natAbs + d.natAbs) / (2 * d.natAbs)

/-- A rounded quotient times its divisor has the sign of the dividend. -/
theorem roundDiv_mul (n d : Int) (hd : d ≠ 0) :
    roundDiv n d * d = if n < 0 then -((roundMag n d * d.natAbs : Nat) : Int) else ((roundMag n d * d.natAbs : Nat) : Int) := by
  have hdef : roundDiv n d = if (n < 0) = (d < 0) then (roundMag n d : Int) else -(roundMag n d : Int) := rfl
  rw [hdef, Int.natCast_mul]
  rcases Int.lt_or_gt_of_ne hd with hneg | hpos
  · have hk : (d.natAbs : Int) = -d := by omega
    rw [hk]
    by_cases hn : n < 0
    · rw [if_pos (propext ⟨fun _ => hneg, fun _ => hn⟩), if_pos hn, Int.mul_neg, Int.neg_neg]
    · rw [if_neg (fun h => hn (h.mpr hneg)), if_neg hn, Int.neg_mul, Int.mul_neg]
  · have hk : (d.natAbs : Int) = d := by omega
    have hd' : ¬ d < 0 := by omega
    rw [hk]
    by_cases hn : n < 0
    · rw [if_neg (fun h => hd' (h.mp hn)), if_pos hn, Int.neg_mul]
    · rw [if_pos (propext ⟨fun h => absurd h hn, fun h => absurd h hd'⟩), if_neg hn]

/-- The magnitude of a rounded quotient is at most half a step off, and above the exact one at a tie. -/
theorem roundMag_near (n d : Int) (hd : d ≠ 0) :
    2 * (roundMag n d * d.natAbs) ≤ 2 * n.natAbs + d.natAbs ∧ 2 * n.natAbs < 2 * (roundMag n d * d.natAbs) + d.natAbs := by
  have hk : 0 < 2 * d.natAbs := by omega
  have hle := Nat.div_mul_le_self (2 * n.natAbs + d.natAbs) (2 * d.natAbs)
  have hlt := Nat.lt_div_mul_add (a := 2 * n.natAbs + d.natAbs) hk
  have hform : (2 * n.natAbs + d.natAbs) / (2 * d.natAbs) * (2 * d.natAbs) = 2 * (roundMag n d * d.natAbs) := by
    rw [roundMag, Nat.mul_left_comm]
  omega

/-- Rounding to the nearest, with ties away from zero (R55). -/
theorem roundDiv_nearest (n d : Int) (hd : d ≠ 0) :
    2 * (roundDiv n d * d - n).natAbs ≤ d.natAbs ∧
      (2 * (roundDiv n d * d - n).natAbs = d.natAbs → n.natAbs < (roundDiv n d * d).natAbs) := by
  obtain ⟨hle, hlt⟩ := roundMag_near n d hd
  rw [roundDiv_mul n d hd]
  generalize roundMag n d * d.natAbs = p at hle hlt ⊢
  by_cases hn : n < 0
  · rw [if_pos hn]; omega
  · rw [if_neg hn]; omega

/-- A whole number needs no rounding. -/
@[simp] theorem roundDiv_one (n : Int) : roundDiv n 1 = n := by
  have h := (roundDiv_nearest n 1 (by decide)).1
  omega

/-- What the exact result `n / d` of an operation gives (R55): rounded inside the range, and the end with the flag outside it. -/
def Gives (o : Bool) (n d : Int) (q : Q) : Prop :=
  (bot * d ≤ n → n ≤ top * d → q = ⟨roundDiv n d, o⟩) ∧ (top * d < n → q = ⟨top, true⟩) ∧ (n < bot * d → q = ⟨bot, true⟩)

theorem sat_gives (v : Int) (o : Bool) : Gives o v 1 (sat v o) := by
  simp only [Gives, sat, roundDiv_one, Int.mul_one, gt_iff_lt]
  refine ⟨fun hlo hhi => ?_, fun h => if_pos h, fun h => ?_⟩
  · rw [if_neg (by omega), if_neg (by omega)]
  · have hends : bot < top := by decide
    rw [if_neg (by omega), if_pos h]

theorem ratio_gives (n : Int) {d : Int} (o : Bool) (hd : 0 < d) : Gives o n d (ratio n d o) := by
  have hk : (d.natAbs : Int) = d := by omega
  have hd' : ¬ d < 0 := by omega
  have hends : bot * d < top * d := Int.mul_lt_mul_of_pos_right (by decide) hd
  simp only [Gives, ratio, hk, gt_iff_lt, if_neg hd']
  refine ⟨fun hlo hhi => ?_, fun h => if_pos h, fun h => ?_⟩
  · rw [if_neg (by omega), if_neg (by omega)]
  · rw [if_neg (by omega), if_pos h]

/-- A negative divisor passes its sign to the dividend. -/
theorem ratio_neg (n : Int) {d : Int} (o : Bool) (hd : d < 0) : ratio n d o = ratio (-n) (-d) o := by
  have hpos : ¬ -d < 0 := by omega
  simp only [ratio, hd, hpos, if_true, if_false, Int.natAbs_neg]

theorem div_of_ne (a b : Q) (h : b.raw ≠ 0) : a.div b = ratio (a.raw * unit) b.raw (a.ovf || b.ovf) := if_neg h

/-- Division by zero saturates with the sign of the dividend (R589). -/
theorem div_by_zero (a b : Q) (h : b.raw = 0) : a.div b = ⟨if 0 < a.raw then top else if a.raw < 0 then bot else 0, true⟩ := by
  unfold div
  rw [if_pos h]
  rcases Int.lt_trichotomy a.raw 0 with hneg | hzero | hpos
  · rw [if_neg (by omega), if_neg (by omega), if_neg (by omega), if_pos hneg]
  · simp [hzero]
  · rw [if_neg (by omega), if_pos hpos, if_pos hpos]

end Sys2Proof.Machine.Q

namespace Sys2Proof.Machine

/-- Settles O57: all four operations form their exact result and round it by one division, which is to the nearest. -/
theorem engineArithmeticRoundsToNearest : Obligations.EngineArithmeticRoundsToNearest := by
  unfold Obligations.EngineArithmeticRoundsToNearest
  refine ⟨Q.roundDiv_nearest, fun a b => ⟨Q.sat_gives _ _, Q.sat_gives _ _, Q.ratio_gives _ _ (by decide), fun hpos => ?_, fun hneg => ?_,
    Q.div_by_zero a b⟩⟩
  · rw [Q.div_of_ne a b (by omega)]
    exact Q.ratio_gives _ _ hpos
  · rw [Q.div_of_ne a b (by omega), Q.ratio_neg _ _ hneg]
    exact Q.ratio_gives _ _ (by omega)

end Sys2Proof.Machine
end

section
/-!
SUPPORT. The commands of the loop engine: what each does, case by case (spec/02_loop_engine.md R56, R77 to R85, R590).
-/

namespace Sys2Proof.Machine

variable (l : Lane) (x : Ax)

/-! ### Requests, counters and the open time -/

theorem Lane.leOpenReq_closed (h : l.rd (LE_STAT_STATE x) = leClosed) :
    l.leOpenReq x = l.setLe x { (l.ax x).le with req := some false } := if_pos h

theorem Lane.leOpenReq_ignored (h : l.rd (LE_STAT_STATE x) ≠ leClosed) : l.leOpenReq x = l := if_neg h

/-- Whether a CLOSE that arrives now comes in the expiry cycle of the open timer (R79). -/
def Lane.closeLate (l : Lane) (x : Ax) : Bool :=
  (l.ax x).le.openAt.any (fun t => l.inExpiry (t + l.rd (LE_OPENMAX_MAX_US x) * usec) cycLe)

/-- The open timer stopped by the arrival of a CLOSE (R79). -/
def Lane.closeArrival (l : Lane) (x : Ax) : Lane := (l.openStop x).when (l.closeLate x) (fun l => l.set (LE_STAT_LATE x))

theorem Lane.leCloseReq_ignored (h : l.rd (LE_STAT_STATE x) ≠ leOpen) : l.leCloseReq x = l := if_pos h

theorem Lane.leCloseReq_forced (h : l.rd (LE_STAT_STATE x) = leOpen) (hf : l.on (LE_STAT_FORCED x) = true) :
    l.leCloseReq x = l.bump (LE_REJ_CLOSEREJ x) := by
  simp [Lane.leCloseReq, h, hf]

theorem Lane.leCloseReq_waits (h : l.rd (LE_STAT_STATE x) = leOpen) (hf : l.on (LE_STAT_FORCED x) = false) :
    l.leCloseReq x = (l.closeArrival x).setLe x { ((l.closeArrival x).ax x).le with req := some true } := by
  cases ho : (l.ax x).le.openAt <;> simp [Lane.leCloseReq, h, hf, Lane.closeArrival, Lane.closeLate, ho]

theorem Lane.leIntClr_open (h : l.rd (LE_STAT_STATE x) = leOpen) :
    l.leIntClr x = l.setLe x { (l.ax x).le with intd := 0, intq := 0, ints := 0, intp := 0 } := if_pos h

theorem Lane.leIntClr_refused (h : l.rd (LE_STAT_STATE x) ≠ leOpen) : l.leIntClr x = l.owReject x := if_neg h

theorem Lane.leOpenMax_due {t : Nat} (h : (l.ax x).le.openAt = some t) (hd : t + l.rd (LE_OPENMAX_MAX_US x) * usec ≤ l.now) :
    l.leOpenMax x = ((((l.openStop x).wr (LE_STAT_STATE x) leFault).raise srcLE 3 clsUC (some x)
      ((l.openStop x).dataOf (LE_OPENTIME_USED_US x).addr)).eventAx x 1).axisSafe x 6 false := by
  simp [Lane.leOpenMax, h, Lane.due, hd]

/-- Before its end, or where it does not run, the open time commands nothing. -/
theorem Lane.leOpenMax_early (h : ∀ t, (l.ax x).le.openAt = some t → l.now < t + l.rd (LE_OPENMAX_MAX_US x) * usec) :
    l.leOpenMax x = l := by
  cases ho : (l.ax x).le.openAt with
  | none => simp [Lane.leOpenMax, ho]
  | some t => simp only [Lane.leOpenMax, ho, Lane.due, decide_eq_true_eq, if_neg (Nat.not_le.mpr (h t ho))]

/-! ### Register writes -/

/-- A refused OW write leaves every register but its counter, the count of dropped messages and its event bank. -/
theorem Lane.reg_owReject_ne {a : Nat} (h : a ≠ (LE_REJ_OWREJ x).addr) (hd : a ≠ FC_DROP_CE.addr)
    (he : a ≠ (SY_EVSTAT_EV ((32 + 32 * x.idx + 4) / 32)).addr) : (l.owReject x).reg a = l.reg a := by
  unfold Lane.owReject Lane.eventAx
  rw [Lane.reg_event_ne _ _ _ he, Lane.reg_raiseOnce_ne _ _ _ _ _ _ _ hd, Lane.reg_bump_ne _ _ _ h]

theorem Lane.leOwWrite_table {a : Nat} (n : Nat) (v : Word) (ht : inFfTable x a = true) :
    l.leOwWrite x a n v =
      if l.rd (LE_STAT_STATE x) = leOpen then l.setBytes a (leBytes n v.toNat) else l.owReject x := if_pos ht

/-- A write that reaches an OW or RL register of the engine is judged by its width, then by the state, then by the range. -/
theorem Lane.leOwWrite_reg {a n b o : Nat} {d : RegDesc} (v : Word) (ht : inFfTable x a = false) (hb : blockOf a = some (.le, x, o))
    (hu : regUnder a n = some (b, d)) (hw : d.bits (fun k => k = .ow) ≠ 0 ∨ d.bits (fun k => k = .rl) ≠ 0) :
    l.leOwWrite x a n v =
      if d.wide = 64 ∧ n ≠ 8 then l.leRefuse x (LE_REJ_HALFWR x)
      else if d.bits (fun k => k = .ow) = 0 then (if d.fits (fun k => k = .rl) v.toNat then l else l.leRefuse x (LE_REJ_RANGE x))
      else if l.rd (LE_STAT_STATE x) ≠ leOpen then l.owReject x
      else if d.fits (fun k => k = .ow) v.toNat then l.setReg a (d.afterWrite (l.reg a) v.toNat)
      else l.leRefuse x (LE_REJ_RANGE x) := by
  have hsome : ¬ (d.bits (fun k => k = .ow) = 0 ∧ d.bits (fun k => k = .rl) = 0) := fun h => hw.elim (· h.1) (· h.2)
  simp [Lane.leOwWrite, ht, hb, hu, hsome]

section
variable {l x} {a n b o : Nat} {d : RegDesc} (v : Word) (ht : inFfTable x a = false) (hb : blockOf a = some (.le, x, o))
  (hu : regUnder a n = some (b, d))
include ht hb hu

/-- A write in part of a 64-bit OW or RL register (R84). -/
theorem Lane.leOwWrite_half (hw : d.bits (fun k => k = .ow) ≠ 0 ∨ d.bits (fun k => k = .rl) ≠ 0) (h64 : d.wide = 64) (hn : n ≠ 8) :
    l.leOwWrite x a n v = l.leRefuse x (LE_REJ_HALFWR x) := by
  rw [l.leOwWrite_reg x v ht hb hu hw, if_pos ⟨h64, hn⟩]

/-- A write of an RL register after the lock (R85). -/
theorem Lane.leOwWrite_locked (hr : d.bits (fun k => k = .rl) ≠ 0) (ho : d.bits (fun k => k = .ow) = 0) (hfull : d.wide = 64 → n = 8) :
    l.leOwWrite x a n v = if d.fits (fun k => k = .rl) v.toNat then l else l.leRefuse x (LE_REJ_RANGE x) := by
  rw [l.leOwWrite_reg x v ht hb hu (.inr hr), if_neg (fun h => h.2 (hfull h.1)), if_pos ho]

variable (ho : d.bits (fun k => k = .ow) ≠ 0) (hfull : d.wide = 64 → n = 8)
include ho hfull

/-- A write of an OW register in its full width outside OPEN (R82). -/
theorem Lane.leOwWrite_refused (hs : l.rd (LE_STAT_STATE x) ≠ leOpen) : l.leOwWrite x a n v = l.owReject x := by
  rw [l.leOwWrite_reg x v ht hb hu (.inl ho), if_neg (fun h => h.2 (hfull h.1)), if_neg ho, if_pos hs]

/-- A write of an OW register in its full width in OPEN (R81, R85). -/
theorem Lane.leOwWrite_open (hs : l.rd (LE_STAT_STATE x) = leOpen) :
    l.leOwWrite x a n v =
      if d.fits (fun k => k = .ow) v.toNat then l.setReg a (d.afterWrite (l.reg a) v.toNat) else l.leRefuse x (LE_REJ_RANGE x) := by
  rw [l.leOwWrite_reg x v ht hb hu (.inl ho), if_neg (fun h => h.2 (hfull h.1)), if_neg ho, if_neg (fun hne => hne hs)]

end

theorem Lane.leLvWrite_split (r : LvReg) (n : Nat) (v : Word) (h : l.on PC_STAT_PAIR = true) :
    l.leLvWrite x r n v = l.fwdReject (lvAddr r x) := if_pos h

theorem Lane.leLvWrite_whole (r : LvReg) (v : Word) (h : l.on PC_STAT_PAIR = false) :
    l.leLvWrite x r 8 v = l.setReg (lvAddr r x) v := by
  simp [Lane.leLvWrite, h]

theorem Lane.leLvWrite_half (r : LvReg) {n : Nat} (v : Word) (h : l.on PC_STAT_PAIR = false) (hn : n ≠ 8) :
    l.leLvWrite x r n v = l.leRefuse x (LE_REJ_HALFWR x) := by
  simp [Lane.leLvWrite, h, hn]

/-! ### The inner period -/

/-- The lane with the position source of a period chosen and its sample taken. -/
def Lane.leSampled (l : Lane) (x : Ax) (c : AdcCodes) : Lane := (l.srcSelect x (l.ax x).ad.sampAt).adSample x c

/-- What an inner period does after its input latch, outside FAULT. -/
def Lane.leConcludes (l : Lane) (x : Ax) (p : Posn) (cmp : Compare) : Lane :=
  let v : AdVals := ⟨.of (l.ax x).ad.ia, .of (l.ax x).ad.ib, .of (l.ax x).ad.ic, l.q (AD_VDC x)⟩
  let b := (l.leRequest x).1.slBegin x v.vdc (l.leRequest x).2
  let out := b.leOutStep x v p (l.leRequest x).2
  match cmp with
  | .agree | .between => ((out.1.modDuties x out.2.da out.2.db out.2.dc).leRefStep x (b.lePosn x p)).rampStep x (l.tIn x)
  | .output => (l.leRollback x true).rampStep x (l.tIn x)
  | .stateWrite | .message => ((l.modDuties x out.2.da out.2.db out.2.dc).leRollback x false).rampStep x (l.tIn x)

theorem Lane.lePeriod_eq (c : AdcCodes) (cmp : Compare) (hrun : (l.ax x).md.running = true) (hd : l.on (LE_STAT_DRIVE x) = false) :
    l.lePeriod x c cmp =
      let a := l.leSampled x c
      let p := a.fbEval x (l.ax x).ad.sampAt
      let k := (a.noteSensor x p).leLatch x cmp
      if k.rd (LE_STAT_STATE x) = leFault then k else k.leConcludes x p cmp := by
  rw [Lane.lePeriod, if_neg (by simp [hrun, hd])]
  cases cmp <;> rfl

/-- In FAULT an input latch does nothing (R590). -/
theorem Lane.leLatch_fault (cmp : Compare) (h : l.rd (LE_STAT_STATE x) = leFault) : l.leLatch x cmp = l := if_pos h

/-! ### The commands -/

section
variable (s : State) (i : LaneId) (x : Ax) (h : s.ready i (.axis x (.le x)))
include h

theorem exec_leInnerPeriod (c : AdcCodes) (cmp : Compare) :
    exec (.leInnerPeriod i x c cmp) s = .next (s.setLane i ((s.lane i).lePeriod x c cmp)) := State.actX_ready s i x _ _ h

theorem exec_leOpen : exec (.leOpen i x) s = .next (s.setLane i ((s.lane i).leOpenReq x)) := State.accX_ready s i x _ _ _ h

theorem exec_leClose : exec (.leClose i x) s = .next (s.setLane i ((s.lane i).leCloseReq x)) := State.accX_ready s i x _ _ _ h

theorem exec_leIntclr : exec (.leIntclr i x) s = .next (s.setLane i ((s.lane i).leIntClr x)) := State.accX_ready s i x _ _ _ h

theorem exec_leCntclr : exec (.leCntclr i x) s = .next (s.setLane i ((s.lane i).leCntClr x)) := State.accX_ready s i x _ _ _ h

theorem exec_leOwWrite (a n : Nat) (v : Word) :
    exec (.leOwWrite i x a n v) s = .next (s.setLane i ((s.lane i).leOwWrite x a n v)) := State.accX_ready s i x _ _ _ h

theorem exec_leLvWrite (r : LvReg) (n : Nat) (v : Word) :
    exec (.leLvWrite i x r n v) s = .next (s.setLane i ((s.lane i).leLvWrite x r n v)) := State.accX_ready s i x _ _ _ h

theorem exec_leOpenmaxExpiry : exec (.leOpenmaxExpiry i x) s = .next (s.setLane i ((s.lane i).leOpenMax x)) :=
  State.actX_ready s i x _ _ h

end

/-- Settles O8: a period is its input latch and, outside FAULT, what the outcome of the compare lets stand. -/
theorem loopEnginePeriodCompletes : Obligations.LoopEnginePeriodCompletes := by
  unfold Obligations.LoopEnginePeriodCompletes
  intro s i x c cmp hr hrun hdrive t a p a' l v b out
  have hexec : exec (.leInnerPeriod i x c cmp) s =
      .next (s.setLane i (if l.rd (LE_STAT_STATE x) = leFault then l else l.leConcludes x p cmp)) := by
    rw [exec_leInnerPeriod s i x hr, Lane.lePeriod_eq _ _ _ _ hrun hdrive]
    rfl
  refine ⟨fun hf => ?_, fun _ hl => ?_, fun hl => ⟨?_, ?_, ?_⟩⟩
  · have hsame : l = a' := a'.leLatch_fault x cmp hf
    rw [hexec, hsame, if_pos hf]
  · rw [hexec, if_pos hl]
  all_goals rw [hexec, if_neg hl]
  · rintro (rfl | rfl) <;> rfl
  · rintro rfl; rfl
  · rintro (rfl | rfl) <;> rfl

/-- Settles O9: each command is the operation of its engine, case by case. -/
theorem loopEngineCommandsComplete : Obligations.LoopEngineCommandsComplete := by
  unfold Obligations.LoopEngineCommandsComplete
  intro s i x hr l le st late stopped
  refine ⟨fun h => ?_, fun h => ?_, fun h => ?_, fun h hf => ?_, fun h hf => ?_, fun h => ?_, fun h => ?_, exec_leCntclr s i x hr,
    fun a n v ht hs => ?_, fun a n v b d o ht hb hu ho hfull hs => ⟨fun hfit => ?_, fun hfit => ?_⟩,
    fun a n v b d o ht hb hu hw h64 hn => ?_, fun a n v b d o ht hb hu hrl ho hfull => ⟨fun hfit => ?_, fun hfit => ?_⟩,
    fun r v hp => ⟨?_, fun n hn => ?_⟩, fun r n v hp => ?_, fun t ht hd => ?_, fun h => ?_⟩
  · rw [exec_leOpen s i x hr, Lane.leOpenReq_closed _ _ h]
  · rw [exec_leOpen s i x hr, Lane.leOpenReq_ignored _ _ h, State.setLane_lane]
  · rw [exec_leClose s i x hr, Lane.leCloseReq_ignored _ _ h, State.setLane_lane]
  · rw [exec_leClose s i x hr, Lane.leCloseReq_forced _ _ h hf]
  · rw [exec_leClose s i x hr, Lane.leCloseReq_waits _ _ h hf]
    rfl
  · rw [exec_leIntclr s i x hr, Lane.leIntClr_open _ _ h]
  · rw [exec_leIntclr s i x hr, Lane.leIntClr_refused _ _ h]
    rfl
  · rw [exec_leOwWrite s i x hr, Lane.leOwWrite_table _ _ _ _ ht, if_pos hs]
  · rw [exec_leOwWrite s i x hr, Lane.leOwWrite_open v ht hb hu ho hfull hs, if_pos hfit]
  · rw [exec_leOwWrite s i x hr, Lane.leOwWrite_open v ht hb hu ho hfull hs, if_neg (by simp [hfit])]
    rfl
  · rw [exec_leOwWrite s i x hr, Lane.leOwWrite_half v ht hb hu hw h64 hn]
    rfl
  · rw [exec_leOwWrite s i x hr, Lane.leOwWrite_locked v ht hb hu hrl ho hfull, if_pos hfit, State.setLane_lane]
  · rw [exec_leOwWrite s i x hr, Lane.leOwWrite_locked v ht hb hu hrl ho hfull, if_neg (by simp [hfit])]
    rfl
  · rw [exec_leLvWrite s i x hr, Lane.leLvWrite_whole _ _ _ _ hp]
  · rw [exec_leLvWrite s i x hr, Lane.leLvWrite_half _ _ _ _ hp hn]
    rfl
  · rw [exec_leLvWrite s i x hr, Lane.leLvWrite_split _ _ _ _ _ hp]
    rfl
  · rw [exec_leOpenmaxExpiry s i x hr, Lane.leOpenMax_due _ _ ht hd]
  · rw [exec_leOpenmaxExpiry s i x hr, Lane.leOpenMax_early _ _ h, State.setLane_lane]

/-- Settles O10: both writes are the refusal, which touches no register but its counter, the drop count and the event bank. -/
theorem refusedOwWriteIsCountedAndReported : Obligations.RefusedOwWriteIsCountedAndReported := by
  unfold Obligations.RefusedOwWriteIsCountedAndReported
  intro s i x hr l refused hs
  refine ⟨fun a n v ht => ?_, fun a n v b d o ht hb hu ho hfull => ⟨?_, Lane.reg_owReject_ne l x⟩⟩
  · rw [exec_leOwWrite s i x hr, Lane.leOwWrite_table _ _ _ _ ht, if_neg hs]
    rfl
  · rw [exec_leOwWrite s i x hr, Lane.leOwWrite_refused v ht hb hu ho hfull hs]
    rfl

end Sys2Proof.Machine
end

section
/-!
SUPPORT. The commands of the torque-table engine: what each does, case by case (spec/04_torque_table_sensorless.md R148 to R177, Table 4.5).
-/

namespace Sys2Proof.Machine

variable (l : Lane) (x : Ax)

/-! ### Decisions -/

/-- The lane with the sample of a decision taken, and in CATCH the gates noted before it. -/
def Lane.tqSampled (l : Lane) (x : Ax) (c : AdcCodes) : Lane :=
  (l.when (decide (l.rd (TQ_STAT_SLSTATE x) = slCatch)) (fun l => l.gateMark x)).adTake x c

/-- What a decision without a mismatch does after its sample; `first` tells that the engine was idle before. -/
def Lane.tqConcludes (l : Lane) (x : Ax) (v : AdVals) (table : Bool) (ext : Nat) (first : Bool) : Lane :=
  let st := l.appliedState x
  let td := if table then tqTd else spanQ ((128 + ext : Nat) : Int)
  let o := l.tqEstimate x v st td
  let b := (l.setTq x { o.t with trefU := (l.ax x).tq.tref }).when table (fun l =>
    (l.setAd x { (l.ax x).ad with dec := [v.ia.raw, v.ib.raw, v.ic.raw, v.vdc.raw] }).rampStep x td)
  let d := if table then b.tqSwitch x o first else b.wr (TQ_STAT_VEC x) st
  ((((d.leOvf x o.ovf).tqPosition x (l.ax x).tq.thPll).tqLock x o.clean v.vdc).tqHandover x).slBegin x v.vdc false

/-- A decision of a running engine on which the pair agrees (R148). -/
theorem Lane.tqDecision_agree (c : AdcCodes) (ext : Nat) (h : l.tqRuns x = true) :
    l.tqDecision x c ext false =
      (l.tqSampled x c).tqConcludes x ((l.tqSampled x c).adScale x c) (l.on (LE_STAT_DRIVE x)) ext (!(l.ax x).tq.started) :=
  (if_pos h).trans (if_neg Bool.false_ne_true)

/-- A decision of a running engine on which the pair mismatches keeps what the snapshot holds (R164). -/
theorem Lane.tqDecision_mismatch (c : AdcCodes) (ext : Nat) (h : l.tqRuns x = true) :
    l.tqDecision x c ext true = (l.tqSampled x c).tqRollback x := (if_pos h).trans (if_pos rfl)

theorem Lane.tqDecision_idle (c : AdcCodes) (ext : Nat) (mm : Bool) (h : l.tqRuns x = false) :
    l.tqDecision x c ext mm = l.setTq x { (l.ax x).tq with started := false } := if_neg (by simp [h])

/-! ### The timers -/

theorem Lane.alignExpiry_due (hs : l.rd (TQ_STAT_SLSTATE x) = slAlign)
    (hd : (l.ax x).tq.alignAt + decisionsOf (l.q (TQ_ALIGNT x)) ≤ (l.ax x).tq.n) :
    l.alignExpiry x =
      (l.setTq x { (l.ax x).tq with thFo := l.rdS (TQ_ALIGNANG x), wFo := 0, holdAt := none }).slSet x slRamp := if_pos ⟨hs, hd⟩

theorem Lane.alignExpiry_early
    (h : l.rd (TQ_STAT_SLSTATE x) ≠ slAlign ∨ (l.ax x).tq.n < (l.ax x).tq.alignAt + decisionsOf (l.q (TQ_ALIGNT x))) :
    l.alignExpiry x = l := if_neg (fun hc => h.elim (· hc.1) (Nat.not_lt.mpr hc.2))

theorem Lane.holdExpiry_due {t : Nat} (ht : (l.ax x).tq.holdAt = some t) (hs : l.rd (TQ_STAT_SLSTATE x) = slRamp)
    (hd : t + decisionsOf (l.q (TQ_HOLDT x)) ≤ (l.ax x).tq.n) (hl : l.rd (TQ_STAT_LOCK x) = 0) :
    l.holdExpiry x = ((l.setTq x { (l.ax x).tq with holdAt := none }).raise srcTQ 5 clsUC (some x)
      (l.dataOf (TQ_STAT_SLSTATE x).addr)).axisSafe x 6 false := by
  simp [Lane.holdExpiry, ht, hs, hd, hl]

theorem Lane.holdExpiry_early (h : ∀ t, (l.ax x).tq.holdAt = some t →
      l.rd (TQ_STAT_SLSTATE x) ≠ slRamp ∨ (l.ax x).tq.n < t + decisionsOf (l.q (TQ_HOLDT x)) ∨ l.rd (TQ_STAT_LOCK x) ≠ 0) :
    l.holdExpiry x = l := by
  cases ht : (l.ax x).tq.holdAt with
  | none => simp [Lane.holdExpiry, ht]
  | some t =>
    have hnot : ¬ (l.rd (TQ_STAT_SLSTATE x) = slRamp ∧ t + decisionsOf (l.q (TQ_HOLDT x)) ≤ (l.ax x).tq.n ∧ l.rd (TQ_STAT_LOCK x) = 0) :=
      fun ⟨hs, hd, hl⟩ => (h t ht).elim (· hs) (fun h => h.elim (Nat.not_lt.mpr hd) (· hl))
    simp only [Lane.holdExpiry, ht, if_neg hnot]

theorem Lane.lowExpiry_due {t : Nat} (ht : (l.ax x).tq.lowAt = some t) (hs : l.rd (TQ_STAT_SLSTATE x) = slRun)
    (hd : t + decisionsOf (l.q (TQ_HOLDT x)) ≤ (l.ax x).tq.n) : l.lowExpiry x = l.slAlignStart x := by
  simp [Lane.lowExpiry, ht, hs, hd]

theorem Lane.lowExpiry_early (h : ∀ t, (l.ax x).tq.lowAt = some t →
      l.rd (TQ_STAT_SLSTATE x) ≠ slRun ∨ (l.ax x).tq.n < t + decisionsOf (l.q (TQ_HOLDT x))) : l.lowExpiry x = l := by
  cases ht : (l.ax x).tq.lowAt with
  | none => simp [Lane.lowExpiry, ht]
  | some t =>
    have hnot : ¬ (l.rd (TQ_STAT_SLSTATE x) = slRun ∧ t + decisionsOf (l.q (TQ_HOLDT x)) ≤ (l.ax x).tq.n) :=
      fun ⟨hs, hd⟩ => (h t ht).elim (· hs) (Nat.not_lt.mpr hd)
    simp only [Lane.lowExpiry, ht, if_neg hnot]

theorem Lane.catchTimeout_due (hs : l.rd (TQ_STAT_SLSTATE x) = slCatch) (hd : (l.ax x).tq.catchAt + catchLimit ≤ (l.ax x).tq.n) :
    l.catchTimeout x = l.lockLost x (l.backEmf x (.of (l.ax x).tq.catchW)) true := if_pos ⟨hs, hd⟩

theorem Lane.catchTimeout_early (h : l.rd (TQ_STAT_SLSTATE x) ≠ slCatch ∨ (l.ax x).tq.n < (l.ax x).tq.catchAt + catchLimit) :
    l.catchTimeout x = l := if_neg (fun hc => h.elim (· hc.1) (Nat.not_lt.mpr hc.2))

/-! ### Catch pulses -/

/-- The decision at which the pulse that runs ends (R175). -/
def Lane.pulseEnd (l : Lane) (x : Ax) : Nat :=
  (l.ax x).tq.catchAt + ((l.ax x).tq.pulses + 1) * l.rd (TQ_CATCH_PER x) + l.rd (TQ_CATCH_PW x)

/-- The magnitude of the current at the end of a pulse. -/
def Lane.pulseMag (l : Lane) (x : Ax) (c : AdcCodes) : Q :=
  magOf (statorAl ((l.adTake x c).adScale x c)) (statorBe ((l.adTake x c).adScale x c))

/-- The lane with the sample of a pulse taken and a saturation of its magnitude noted (R589). -/
def Lane.pulseSampled (l : Lane) (x : Ax) (c : AdcCodes) : Lane := (l.adTake x c).leOvf x (l.pulseMag x c).ovf

/-- A pulse that has ended with too much current is loss of lock (Table 4.5). -/
theorem Lane.catchPulse_overcurrent (c : AdcCodes) (hs : l.rd (TQ_STAT_SLSTATE x) = slCatch) (he : l.pulseEnd x ≤ (l.ax x).tq.n)
    (hc : (l.ax x).tq.n ≤ (l.ax x).tq.catchAt + catchLimit)
    (hi : (l.pulseSampled x c).rdS (TQ_CATCHIMAX x) < (l.pulseMag x c).raw) :
    l.catchPulse x c = (l.pulseSampled x c).lockLost x ((l.pulseSampled x c).backEmf x (.of (l.ax x).tq.catchW)) true :=
  (if_pos ⟨hs, he, hc⟩).trans (if_pos hi)

theorem Lane.catchPulse_none (c : AdcCodes) (h : l.rd (TQ_STAT_SLSTATE x) ≠ slCatch ∨ (l.ax x).tq.n < l.pulseEnd x ∨
      (l.ax x).tq.catchAt + catchLimit < (l.ax x).tq.n) : l.catchPulse x c = l :=
  if_neg (fun ⟨hs, he, hc⟩ => h.elim (· hs) (fun h => h.elim (Nat.not_lt.mpr he) (Nat.not_lt.mpr hc)))

/-! ### Register writes -/

/-- An OW write that the loop's state refuses, as the torque-table engine counts and reports it (R177). -/
def Lane.tqReject (l : Lane) (x : Ax) : Lane :=
  (l.bump (TQ_CNT_OWREJ x)).raiseOnce srcTQ 7 clsCE (some x) ((l.bump (TQ_CNT_OWREJ x)).dataOf (TQ_CNT_OWREJ x).addr)

/-- A write that reaches an OW or RL register of the engine is judged by its width, then by the state, then by the range. -/
theorem Lane.tqOwWrite_reg {a n b o : Nat} {d : RegDesc} (v : Word) (hb : blockOf a = some (.tq, x, o))
    (hu : regUnder a n = some (b, d)) (hw : d.bits (fun k => k = .ow) ≠ 0 ∨ d.bits (fun k => k = .rl) ≠ 0) :
    l.tqOwWrite x a n v =
      if d.wide = 64 ∧ n ≠ 8 then l.bump (TQ_CNT_HALFWR x)
      else if d.bits (fun k => k = .ow) = 0 then (if d.fits (fun k => k = .rl) v.toNat then l else l.bump (TQ_CNT_RANGE x))
      else if l.rd (LE_STAT_STATE x) ≠ leOpen then l.tqReject x
      else if d.fits (fun k => k = .ow) v.toNat && catchFits x a v.toNat then l.setReg a (d.afterWrite (l.reg a) v.toNat)
      else l.bump (TQ_CNT_RANGE x) := by
  have hsome : ¬ (d.bits (fun k => k = .ow) = 0 ∧ d.bits (fun k => k = .rl) = 0) := fun h => hw.elim (· h.1) (· h.2)
  simp [Lane.tqOwWrite, Lane.tqReject, hb, hu, hsome]

/-- A write that reaches no OW or RL register of the engine does nothing. -/
theorem Lane.tqOwWrite_elsewhere {a n : Nat} (v : Word) (h : ∀ b d o, blockOf a = some (.tq, x, o) → regUnder a n = some (b, d) →
      d.bits (fun k => k = .ow) = 0 ∧ d.bits (fun k => k = .rl) = 0) : l.tqOwWrite x a n v = l := by
  unfold Lane.tqOwWrite
  split
  · rename_i y o b d hb hu
    by_cases hy : y = x
    · subst hy
      obtain ⟨ho, hr⟩ := h b d o hb hu
      exact if_pos (.inr ⟨decide_eq_true ho, hr⟩)
    · exact if_pos (.inl hy)
  · rfl

section
variable {l x} {a n b o : Nat} {d : RegDesc} (v : Word) (hb : blockOf a = some (.tq, x, o)) (hu : regUnder a n = some (b, d))
include hb hu

/-- A write in part of a 64-bit OW or RL register (R84). -/
theorem Lane.tqOwWrite_half (hw : d.bits (fun k => k = .ow) ≠ 0 ∨ d.bits (fun k => k = .rl) ≠ 0) (h64 : d.wide = 64) (hn : n ≠ 8) :
    l.tqOwWrite x a n v = l.bump (TQ_CNT_HALFWR x) := by
  rw [l.tqOwWrite_reg x v hb hu hw, if_pos ⟨h64, hn⟩]

/-- A write of an RL register after the lock (R85). -/
theorem Lane.tqOwWrite_locked (hr : d.bits (fun k => k = .rl) ≠ 0) (ho : d.bits (fun k => k = .ow) = 0) (hfull : d.wide = 64 → n = 8) :
    l.tqOwWrite x a n v = if d.fits (fun k => k = .rl) v.toNat then l else l.bump (TQ_CNT_RANGE x) := by
  rw [l.tqOwWrite_reg x v hb hu (.inr hr), if_neg (fun h => h.2 (hfull h.1)), if_pos ho]

variable (ho : d.bits (fun k => k = .ow) ≠ 0) (hfull : d.wide = 64 → n = 8)
include ho hfull

/-- A write of an OW register in its full width outside OPEN (R177). -/
theorem Lane.tqOwWrite_refused (hs : l.rd (LE_STAT_STATE x) ≠ leOpen) : l.tqOwWrite x a n v = l.tqReject x := by
  rw [l.tqOwWrite_reg x v hb hu (.inl ho), if_neg (fun h => h.2 (hfull h.1)), if_neg ho, if_pos hs]

/-- A write of an OW register in its full width in OPEN (R177, R85). -/
theorem Lane.tqOwWrite_open (hs : l.rd (LE_STAT_STATE x) = leOpen) :
    l.tqOwWrite x a n v =
      if d.fits (fun k => k = .ow) v.toNat && catchFits x a v.toNat then l.setReg a (d.afterWrite (l.reg a) v.toNat)
      else l.bump (TQ_CNT_RANGE x) := by
  rw [l.tqOwWrite_reg x v hb hu (.inl ho), if_neg (fun h => h.2 (hfull h.1)), if_neg ho, if_neg (fun hne => hne hs)]

end

/-! ### The commands -/

section
variable (s : State) (i : LaneId) (x : Ax) (h : s.ready i (.table x))
include h

theorem exec_tqDecision (p : PhaseCodes) (k : BitVec 14) (ext : Fin 128) (mm : Bool) :
    exec (.tqDecision i x p k ext mm) s = .next (s.setLane i ((s.lane i).tqDecision x ⟨p.u, p.v, p.w, k⟩ ext mm)) :=
  State.actTq_ready s i x _ h

theorem exec_alignTimerExpiry : exec (.alignTimerExpiry i x) s = .next (s.setLane i ((s.lane i).alignExpiry x)) :=
  State.actTq_ready s i x _ h

theorem exec_holdTimerExpiry : exec (.holdTimerExpiry i x) s = .next (s.setLane i ((s.lane i).holdExpiry x)) :=
  State.actTq_ready s i x _ h

theorem exec_lowSpeedTimerExpiry : exec (.lowSpeedTimerExpiry i x) s = .next (s.setLane i ((s.lane i).lowExpiry x)) :=
  State.actTq_ready s i x _ h

theorem exec_catchTimeout : exec (.catchTimeout i x) s = .next (s.setLane i ((s.lane i).catchTimeout x)) :=
  State.actTq_ready s i x _ h

theorem exec_catchPulse (c : AdcCodes) : exec (.catchPulse i x c) s = .next (s.setLane i ((s.lane i).catchPulse x c)) :=
  State.actTq_ready s i x _ h

theorem exec_tqOwWrite (a n : Nat) (v : Word) :
    exec (.tqOwWrite i x a n v) s = .next (s.setLane i ((s.lane i).tqOwWrite x a n v)) := State.accTq_ready s i x _ _ h

theorem exec_tqCntclr : exec (.tqCntclr i x) s = .next (s.setLane i ((s.lane i).tqCntClr x)) := State.accTq_ready s i x _ _ h

end

/-- Settles O17: each command is the operation of its engine, case by case. -/
theorem torqueTableCommandsComplete : Obligations.TorqueTableCommandsComplete := by
  unfold Obligations.TorqueTableCommandsComplete
  intro s i x hr l t
  refine ⟨fun p k ext hrun => ⟨?_, ?_⟩, fun p k ext mm hidle => ?_, fun hs hd => ?_, fun h => ?_, fun t' ht hs hd hl => ?_, fun h => ?_,
    fun t' ht hs hd => ?_, fun h => ?_, fun hs hd => ?_, fun h => ?_, fun c hs he hc => ⟨fun hi => ?_, fun _ => ?_⟩, fun c h => ?_,
    fun a n v b d o hb hu ho hfull => ⟨fun hs hfit hcatch => ?_, fun hs hbad => ?_, fun hs => ?_⟩,
    fun a n v b d o hb hu hw h64 hn => ?_, fun a n v b d o hb hu ho hrl hfull => ⟨fun hfit => ?_, fun hfit => ?_⟩, fun a n v h => ?_,
    exec_tqCntclr s i x hr⟩
  · rw [exec_tqDecision s i x hr, Lane.tqDecision_agree _ _ _ _ hrun]
    rfl
  · rw [exec_tqDecision s i x hr, Lane.tqDecision_mismatch _ _ _ _ hrun]
    rfl
  · rw [exec_tqDecision s i x hr, Lane.tqDecision_idle _ _ _ _ _ hidle]
  · rw [exec_alignTimerExpiry s i x hr, Lane.alignExpiry_due _ _ hs hd]
  · rw [exec_alignTimerExpiry s i x hr, Lane.alignExpiry_early _ _ h, State.setLane_lane]
  · rw [exec_holdTimerExpiry s i x hr, Lane.holdExpiry_due _ _ ht hs hd hl]
  · rw [exec_holdTimerExpiry s i x hr, Lane.holdExpiry_early _ _ h, State.setLane_lane]
  · rw [exec_lowSpeedTimerExpiry s i x hr, Lane.lowExpiry_due _ _ ht hs hd]
  · rw [exec_lowSpeedTimerExpiry s i x hr, Lane.lowExpiry_early _ _ h, State.setLane_lane]
  · rw [exec_catchTimeout s i x hr, Lane.catchTimeout_due _ _ hs hd]
  · rw [exec_catchTimeout s i x hr, Lane.catchTimeout_early _ _ h, State.setLane_lane]
  · rw [exec_catchPulse s i x hr, Lane.catchPulse_overcurrent _ _ _ hs he hc hi]
    rfl
  · rw [exec_catchPulse s i x hr]
  · rw [exec_catchPulse s i x hr, Lane.catchPulse_none _ _ _ h, State.setLane_lane]
  · rw [exec_tqOwWrite s i x hr, Lane.tqOwWrite_open v hb hu ho hfull hs, if_pos (by simp [hfit, hcatch])]
  · have hrange : ¬ (d.fits (fun k => k = .ow) v.toNat && catchFits x a v.toNat) = true := by
      rcases hbad with hfit | hcatch
      · simp [hfit]
      · simp [hcatch]
    rw [exec_tqOwWrite s i x hr, Lane.tqOwWrite_open v hb hu ho hfull hs, if_neg hrange]
  · rw [exec_tqOwWrite s i x hr, Lane.tqOwWrite_refused v hb hu ho hfull hs]
    rfl
  · rw [exec_tqOwWrite s i x hr, Lane.tqOwWrite_half v hb hu hw h64 hn]
  · rw [exec_tqOwWrite s i x hr, Lane.tqOwWrite_locked v hb hu hrl ho hfull, if_pos hfit, State.setLane_lane]
  · rw [exec_tqOwWrite s i x hr, Lane.tqOwWrite_locked v hb hu hrl ho hfull, if_neg (by simp [hfit])]
  · rw [exec_tqOwWrite s i x hr, Lane.tqOwWrite_elsewhere _ _ _ h, State.setLane_lane]

end Sys2Proof.Machine
end

section
/-!
SUPPORT. The commands of the modulator and of the trips: what each does, case by case (spec/03_modulator.md R102 to R143).
-/

namespace Sys2Proof.Machine

variable (l : Lane) (x : Ax)

/-! ### The hidden state of a modulator, and the registers beside it -/

@[simp] theorem Lane.md_setMd (m : ModSt) : ((l.setMd x m).ax x).md = m := by simp [Lane.setMd]

@[simp] theorem Lane.rd_setMd (m : ModSt) (f : Fld) : (l.setMd x m).rd f = l.rd f := by
  simp only [Lane.rd, Lane.reg, Lane.setMd, Lane.setAx_regs]

/-! ### Reloads and the stages -/

theorem Lane.reload_none (peak : Bool) (cmp : Compare) (h : l.reloadRuns x peak = false) : l.reload x peak cmp = l :=
  if_neg (ne_true_of_eq_false h)

theorem Lane.reload_runs (peak : Bool) (cmp : Compare) (h : l.reloadRuns x peak = true) :
    l.reload x peak cmp = if (l.modReload x peak).on (LE_STAT_DRIVE x) && (l.modReload x peak).domOn (.le x)
      then (l.modReload x peak).leTick x cmp else l.modReload x peak := if_pos h

theorem Lane.stageWrite_period_range (v : Nat) (h : periodOk (v % 2 ^ 25) = false) :
    l.stageWrite x .period v = l.bump (MOD_REJ_RANGE x) := if_pos h

theorem Lane.stageWrite_period (v : Nat) (h : periodOk (v % 2 ^ 25) = true) :
    l.stageWrite x .period v = if srcIsTable l x then l else ((l.wr (MOD_PER_TICKS x) v).markDirty x).lateWrite x :=
  if_neg (fun hf => Bool.false_ne_true (hf.symm.trans h))

theorem Lane.stageWrite_rise (n : Fin 6) (v : Nat) : l.stageWrite x (.rise n) v =
    if srcIsDirect l x then ((l.wr (cmpR x n) v).markDirty x).lateWrite x else l.bump (MOD_REJ_SRCREJ x) := rfl

theorem Lane.stageWrite_fall (n : Fin 6) (v : Nat) : l.stageWrite x (.fall n) v =
    if srcIsDirect l x then ((l.wr (cmpF x n) v).markDirty x).lateWrite x else l.bump (MOD_REJ_SRCREJ x) := rfl

/-- A write or a COMMIT in the CLK_PWM cycle of a reload is late (R119). -/
theorem Lane.lateWrite_eq : l.lateWrite x =
    if (l.ax x).md.reloadAt.any (fun r => decide (l.now < r + 4)) then (l.set (MOD_STAT_LATEWR x)).eventAx x 9 else l := by
  unfold Lane.lateWrite
  cases (l.ax x).md.reloadAt <;> simp

@[simp] theorem Lane.ax_lateWrite (y : Ax) : (l.lateWrite x).ax y = l.ax y := by
  rw [Lane.lateWrite_eq]
  split
  · simp [Lane.eventAx]
  · rfl

/-- A late write touches its mark and its event bank. -/
theorem Lane.rd_lateWrite_ne (f : Fld) (h : f.addr ≠ (MOD_STAT_LATEWR x).addr)
    (he : f.addr ≠ (SY_EVSTAT_EV ((32 + 32 * x.idx + 9) / 32)).addr) : (l.lateWrite x).rd f = l.rd f := by
  rw [Lane.lateWrite_eq]
  split
  · exact (Lane.rd_event_ne _ _ f he).trans (l.rd_wr_ne _ f 1 h)
  · rfl

/-! ### COMMIT -/

/-- The lane at a COMMIT, before the group is formed: nothing is written since it (R115, R119). -/
def Lane.commitTaken (l : Lane) (x : Ax) : Lane :=
  (l.lateWrite x).setMd x { ((l.lateWrite x).ax x).md with dirty := false, dirtySeen := false }

/-- The phases of the write stage, processed as the DIRECT source has them (R109). -/
def Lane.directPhases (l : Lane) (x : Ax) : List (Ival × Ival × Bool) :=
  (List.range 3).map (l.directPhase x (l.rd (MOD_PER_TICKS x)))

/-- The phases that fail the overlap check (R110). -/
def Lane.overlaps (l : Lane) (x : Ax) : Nat := overlapMask (l.rd (MOD_PER_TICKS x)) (l.directPhases x)

/-- A group refused by the overlap check, with the mask of its phases (R110). -/
def Lane.overlapReject (l : Lane) (x : Ax) (m : Nat) : Lane :=
  ((l.set (MOD_STAT_OVERLAP x)).raiseOnce srcMOD 2 clsCE (some x) m).eventAx x 10

theorem Lane.modCommit_le (h : srcIsLe (l.commitTaken x) x = true) :
    l.modCommit x = (l.commitTaken x).fillCommitted x ((l.commitTaken x).leGroup x) := if_pos h

section
variable {l x} (h : srcIsLe (l.commitTaken x) x = false)
include h

theorem Lane.modCommit_direct (hd : srcIsDirect (l.commitTaken x) x = true) (hm : (l.commitTaken x).overlaps x = 0) :
    l.modCommit x = (l.commitTaken x).fillCommitted x
      (directGroup ((l.commitTaken x).rd (MOD_PER_TICKS x)) ((l.commitTaken x).directPhases x)) :=
  (if_neg (ne_true_of_eq_false h)).trans ((if_pos hd).trans (if_pos hm))

/-- A group that fails the overlap check is not committed (R110). -/
theorem Lane.modCommit_overlap (hd : srcIsDirect (l.commitTaken x) x = true) (hm : (l.commitTaken x).overlaps x ≠ 0) :
    l.modCommit x = (l.commitTaken x).overlapReject x ((l.commitTaken x).overlaps x) :=
  (if_neg (ne_true_of_eq_false h)).trans ((if_pos hd).trans (if_neg hm))

theorem Lane.modCommit_table (hd : srcIsDirect (l.commitTaken x) x = false) :
    l.modCommit x = (l.commitTaken x).fillCommitted x (tableGroup (profPeriod (l.commitTaken x).prof)) :=
  (if_neg (ne_true_of_eq_false h)).trans (if_neg (ne_true_of_eq_false hd))

end

/-- A COMMIT finds the source as it was. -/
theorem Lane.rd_source_commitTaken : (l.commitTaken x).rd (MOD_CFG_SRC x) = l.rd (MOD_CFG_SRC x) := by
  rw [Lane.commitTaken, Lane.rd_setMd, Lane.rd_lateWrite_ne]
  · cases x <;> decide
  · cases x <;> decide

@[simp] theorem Lane.committed_commitTaken : ((l.commitTaken x).ax x).md.committed = (l.ax x).md.committed := by
  simp [Lane.commitTaken]

@[simp] theorem Lane.ax_overlapReject (m : Nat) (y : Ax) : (l.overlapReject x m).ax y = l.ax y := by
  simp [Lane.overlapReject, Lane.eventAx]

theorem Lane.on_overlap_overlapReject (m : Nat) : (l.overlapReject x m).on (MOD_STAT_OVERLAP x) = true := by
  have hset : (l.set (MOD_STAT_OVERLAP x)).rd (MOD_STAT_OVERLAP x) = 1 := l.rd_wr _ 1 (by cases x <;> decide)
  have hrd : (l.overlapReject x m).rd (MOD_STAT_OVERLAP x) = 1 := by
    rw [Lane.overlapReject, Lane.eventAx, Lane.rd_event_ne, Lane.rd_raiseOnce_ne, hset]
    · cases x <;> decide
    · cases x <;> decide
  simp [Lane.on, hrd]

/-! ### The delay line -/

theorem Lane.hrCal_passed (taps : Nat) : l.hrCal x true taps =
    let h := l.wr (MOD_HRCAL_TAPS x) taps
    (h.setMd x { (h.ax x).md with calAt := some h.now, trimNew := some taps }).clr (MOD_STAT_HRDEG x) := by
  simp only [Lane.hrCal, if_true]

theorem Lane.hrCal_failed (taps : Nat) : l.hrCal x false taps =
    let f := (((l.wr (MOD_HRCAL_TAPS x) taps).set (MOD_STAT_HRFAIL x)).set (MOD_STAT_HRDEG x)).hrcalNow x
    (f.raise srcMOD 4 clsCE (some x) (f.dataOf (MOD_HRCAL_TAPS x).addr)).eventAx x 11 := by
  simp only [Lane.hrCal, Bool.false_eq_true, if_false]

/-! ### The commands of the modulator -/

section
variable (s : State) (i : LaneId) (x : Ax) (h : s.ready i (.axis x (.pg x)))
include h

theorem exec_modReload (peak : Bool) (cmp : Compare) :
    exec (.modReload i x peak cmp) s = .next (s.setLane i ((s.lane i).reload x peak cmp)) := State.actX_ready s i x _ _ h

theorem exec_modWriteStageWrite (r : StageReg) (v : Word32) :
    exec (.modWriteStageWrite i x r v) s = .next (s.setLane i ((s.lane i).stageWrite x r v.toNat)) := State.accX_ready s i x _ _ _ h

theorem exec_modCommit : exec (.modCommit i x) s = .next (s.setLane i ((s.lane i).modCommit x)) := State.accX_ready s i x _ _ _ h

theorem exec_modDiscard : exec (.modDiscard i x) s = .next (s.setLane i ((s.lane i).modDiscard x)) := State.accX_ready s i x _ _ _ h

theorem exec_modPasson : exec (.modPasson i x) s =
    .next (s.setLane i ((s.lane i).setMd x { ((s.lane i).ax x).md with passReq := some true })) := State.accX_ready s i x _ _ _ h

theorem exec_modPassoff : exec (.modPassoff i x) s =
    .next (s.setLane i ((s.lane i).setMd x { ((s.lane i).ax x).md with passReq := some false })) := State.accX_ready s i x _ _ _ h

theorem exec_modCntclr : exec (.modCntclr i x) s = .next (s.setLane i ((s.lane i).modCntClr x)) := State.accX_ready s i x _ _ _ h

theorem exec_delayLineCalibration (ok : Bool) (taps : Fin 128) :
    exec (.delayLineCalibration i x ok taps) s = .next (s.setLane i ((s.lane i).hrCal x ok taps)) := State.actX_ready s i x _ _ h

end

/-- Settles O11: each command is the operation of its stage, case by case. -/
theorem modulatorCommandsComplete : Obligations.ModulatorCommandsComplete := by
  unfold Obligations.ModulatorCommandsComplete
  intro s i x hr l md
  refine ⟨fun peak cmp => ⟨fun h => ?_, fun h => ⟨fun hno => ?_, fun hdrive hle => ?_⟩⟩,
    fun v => ⟨fun ht hp => ?_, fun ht hp => ?_, fun hp => ?_⟩,
    fun v n => ⟨fun h => ⟨?_, ?_⟩, fun h => ⟨?_, ?_⟩⟩, ⟨fun h => ?_, fun h hd hm => ?_, fun h hd => ?_⟩, exec_modDiscard s i x hr,
    exec_modPasson s i x hr, exec_modPassoff s i x hr, exec_modCntclr s i x hr,
    fun taps => ⟨?_, ?_⟩⟩
  · rw [exec_modReload s i x hr, Lane.reload_none _ _ _ _ h, State.setLane_lane]
  · have hnot : ¬ ((l.modReload x peak).on (LE_STAT_DRIVE x) && (l.modReload x peak).domOn (.le x)) = true :=
      ne_true_of_eq_false (Bool.and_eq_false_iff.mpr hno)
    rw [exec_modReload s i x hr, Lane.reload_runs _ _ _ _ h, if_neg hnot]
  · rw [exec_modReload s i x hr, Lane.reload_runs _ _ _ _ h, if_pos (Bool.and_eq_true_iff.mpr ⟨hdrive, hle⟩)]
  · rw [exec_modWriteStageWrite s i x hr, Lane.stageWrite_period _ _ _ hp, if_pos ht, State.setLane_lane]
  · rw [exec_modWriteStageWrite s i x hr, Lane.stageWrite_period _ _ _ hp, if_neg (ne_true_of_eq_false ht)]
  · rw [exec_modWriteStageWrite s i x hr, Lane.stageWrite_period_range _ _ _ hp]
  · rw [exec_modWriteStageWrite s i x hr, Lane.stageWrite_rise, if_pos h]
  · rw [exec_modWriteStageWrite s i x hr, Lane.stageWrite_fall, if_pos h]
  · rw [exec_modWriteStageWrite s i x hr, Lane.stageWrite_rise, if_neg (ne_true_of_eq_false h)]
  · rw [exec_modWriteStageWrite s i x hr, Lane.stageWrite_fall, if_neg (ne_true_of_eq_false h)]
  · rw [exec_modCommit s i x hr, Lane.modCommit_le _ _ h]
    rfl
  · rw [exec_modCommit s i x hr, Lane.modCommit_direct h hd hm]
    rfl
  · rw [exec_modCommit s i x hr, Lane.modCommit_table h hd]
    rfl
  · rw [exec_delayLineCalibration s i x hr, Lane.hrCal_passed]
  · rw [exec_delayLineCalibration s i x hr, Lane.hrCal_failed]

/-- Settles O12: the COMMIT is the refusal of the overlap check, which touches no stage. -/
theorem overlappingGroupIsNotCommitted : Obligations.OverlappingGroupIsNotCommitted := by
  unfold Obligations.OverlappingGroupIsNotCommitted
  intro s i x hr l w c hs m t hle hdirect hm
  have hc : c = l.commitTaken x := by rw [Lane.commitTaken, Lane.lateWrite_eq]
  have hsrc := l.rd_source_commitTaken x
  have hle' : srcIsLe (l.commitTaken x) x = false := by rw [srcIsLe, hsrc]; exact hle
  have hdirect' : srcIsDirect (l.commitTaken x) x = true := by rw [srcIsDirect, hsrc]; exact hdirect
  have ht : t = c.overlapReject x m := rfl
  refine ⟨?_, ?_, ?_⟩
  · rw [exec_modCommit s i x hr, Lane.modCommit_overlap hle' hdirect' (hc ▸ hm), ← hc]
    rfl
  · rw [ht, Lane.ax_overlapReject, hc, Lane.committed_commitTaken]
  · rw [ht]
    exact c.on_overlap_overlapReject x m

end Sys2Proof.Machine
end

section
/-!
SUPPORT. The commands of the trips: what each does, case by case (spec/03_modulator.md R129 to R132, R137).
-/

namespace Sys2Proof.Machine

variable (l : Lane)

/-! ### A trip input becomes active -/

/-- The lane with the input of a trip active. -/
def Lane.tripActive (l : Lane) (n : Nat) : Lane := { l with trip := { l.trip with input := l.trip.input ||| 2 ^ n } }

theorem Lane.tripEnter_ignored (n : Nat) (h : l.rd (MOD_TRIPCFG_EN n) = 0 ∨ l.trip.input.testBit n = true) : l.tripEnter n = l :=
  if_pos h

/-- An input that becomes active acts outside its window, and inside one is remembered (R130, R132). -/
theorem Lane.tripEnter_active (n : Nat) (he : l.rd (MOD_TRIPCFG_EN n) ≠ 0) (hi : l.trip.input.testBit n = false) :
    l.tripEnter n =
      let a := l.tripActive n
      if a.blankOpen n then { a with trip := { a.trip with blanked := a.trip.blanked ||| 2 ^ n } } else a.tripAct n :=
  if_neg (fun h => h.elim he (ne_true_of_eq_false hi))

/-- An onset records its source as it does where the modulator takes no part, and enters where that stands active after the filter
(R130, R195). -/
theorem Lane.ocOnset_eq (n : Nat) (p : TripPulse) :
    l.ocOnset n p.sw.toNat p.high p.cyc.toNat =
      if (l.tripAway n p).tripStands n then (l.tripAway n p).tripEnter n else l.tripAway n p := rfl

/-- An onset below its filter, of a disabled trip, or of one already active. -/
theorem Lane.ocOnset_ignored (n : Nat) (p : TripPulse)
    (h : (l.tripAway n p).tripStands n = false ∨ (l.tripAway n p).rd (MOD_TRIPCFG_EN n) = 0 ∨
      (l.tripAway n p).trip.input.testBit n = true) : l.ocOnset n p.sw.toNat p.high p.cyc.toNat = l.tripAway n p := by
  rw [Lane.ocOnset_eq]
  rcases h with hs | h
  · rw [if_neg (ne_true_of_eq_false hs)]
  · rw [Lane.tripEnter_ignored _ _ h, ite_self]

/-- An onset that the filter passes, of an enabled trip that is not active. -/
theorem Lane.ocOnset_active (n : Nat) (p : TripPulse) (hs : (l.tripAway n p).tripStands n = true)
    (he : (l.tripAway n p).rd (MOD_TRIPCFG_EN n) ≠ 0) (hi : (l.tripAway n p).trip.input.testBit n = false) :
    l.ocOnset n p.sw.toNat p.high p.cyc.toNat =
      let a := (l.tripAway n p).tripActive n
      if a.blankOpen n then { a with trip := { a.trip with blanked := a.trip.blanked ||| 2 ^ n } } else a.tripAct n := by
  rw [Lane.ocOnset_eq, if_pos hs, Lane.tripEnter_active _ _ he hi]

/-! ### Blanking windows -/

theorem Lane.auxStart_enabled (k : Nat) (h : l.on (MOD_AUXCFG_EN k) = true) :
    l.auxStart k = { l with trip := l.trip.setAux k (some (l.now + 4 * l.rd (MOD_AUXCFG_LEN k))) } := if_pos h

theorem Lane.auxStart_disabled (k : Nat) (h : l.on (MOD_AUXCFG_EN k) = false) : l.auxStart k = l := if_neg (ne_true_of_eq_false h)

/-- The end of a window lets the trips act that it still holds back (R132). -/
theorem Lane.auxEnd_due {k t : Nat} (ht : l.trip.aux k = some t) (hd : t ≤ l.now) :
    l.auxEnd k =
      let a : Lane := { l with trip := l.trip.setAux k none }
      a.each ((List.range 8).filter (fun n => a.trip.blanked.testBit n && decide (a.rd (MOD_TRIPCFG_BLANK n) = k + 1)))
        (fun l n => { l with trip := { l.trip with blanked := dropBit l.trip.blanked n } }.tripAct n) := by
  simp only [Lane.auxEnd, ht, Lane.due, decide_eq_true hd, if_true]

theorem Lane.auxEnd_early {k : Nat} (h : ∀ t, l.trip.aux k = some t → l.now < t) : l.auxEnd k = l := by
  cases ht : l.trip.aux k with
  | none => simp only [Lane.auxEnd, ht]
  | some t => simp only [Lane.auxEnd, ht, Lane.due, decide_eq_true_eq, if_neg (Nat.not_le.mpr (h t ht))]

/-! ### The commands of the trips -/

section
variable (s : State) (i : LaneId) (h : s.ready i (.domain (.pg .x0)))
include h

theorem exec_tripOnset (n : Fin 8) (p : TripPulse) :
    exec (.tripOnset i n p) s = .next (s.setLane i ((s.lane i).ocOnset n p.sw.toNat p.high p.cyc.toNat)) :=
  State.actPin_ready s i _ _ _ h.1 h.2

theorem exec_tripInputInactive (n : Fin 8) : exec (.tripInputInactive i n) s = .next (s.setLane i ((s.lane i).tripOff n)) :=
  State.actPin_ready s i _ _ _ h.1 h.2

theorem exec_auxWindowStart (k : Fin 4) : exec (.auxWindowStart i k) s = .next (s.setLane i ((s.lane i).auxStart k)) :=
  State.actD_ready s i _ _ h

theorem exec_auxWindowEnd (k : Fin 4) : exec (.auxWindowEnd i k) s = .next (s.setLane i ((s.lane i).auxEnd k)) :=
  State.actD_ready s i _ _ h

theorem exec_modTripclr (m : BitVec 8) : exec (.modTripclr i m) s = .next (s.setLane i ((s.lane i).tripClr m.toNat)) :=
  State.accD_ready s i _ _ _ h

theorem exec_blankcntRead : exec (.blankcntRead i) s = .next (s.setLane i (s.lane i).blankRead) := State.accD_ready s i _ _ _ h

end

section
variable (s : State) (i : LaneId) (h : s.part.hasLane i = true) (hg : Gate.holds (.domain (.pg .x0)) (s.lane i) = false)
include h hg

/-- While the modulator takes no part, an onset leaves its source's level and the die's marks. -/
theorem exec_tripOnset_away (n : Fin 8) (p : TripPulse) :
    exec (.tripOnset i n p) s = .next (s.setLane i ((s.lane i).tripAway n p)) :=
  State.actPin_kept s i _ _ _ h hg

theorem exec_tripInputInactive_away (n : Fin 8) : exec (.tripInputInactive i n) s = .next (s.setLane i ((s.lane i).tripGone n)) :=
  State.actPin_kept s i _ _ _ h hg

end

/-- Settles O13: each command is the operation of the trips, case by case; where the modulator takes no part, the level is kept. -/
theorem tripCommandsComplete : Obligations.TripCommandsComplete := by
  unfold Obligations.TripCommandsComplete
  intro s i
  refine ⟨fun hr => ?_, fun hp hg => ⟨fun n sw high cyc => exec_tripOnset_away s i hp hg n ⟨sw, high, cyc⟩,
    exec_tripInputInactive_away s i hp hg⟩⟩
  intro l
  refine ⟨fun n sw high cyc => ?_, exec_tripInputInactive s i hr, fun k => ⟨fun h => ?_, fun h => ?_⟩,
    fun k => ⟨fun t ht hd => ?_, fun h => ?_⟩, exec_modTripclr s i hr, exec_blankcntRead s i hr⟩
  · intro o p a
    refine ⟨fun h => ?_, fun hs he hi => ⟨fun hb => ?_, fun hb => ?_⟩⟩
    · rw [exec_tripOnset s i hr, Lane.ocOnset_ignored _ _ ⟨sw, high, cyc⟩ h]
      rfl
    · rw [exec_tripOnset s i hr, Lane.ocOnset_active _ _ ⟨sw, high, cyc⟩ hs he hi]
      exact congrArg (fun t => Host.Outcome.next (s.setLane i t)) (if_neg (ne_true_of_eq_false hb))
    · rw [exec_tripOnset s i hr, Lane.ocOnset_active _ _ ⟨sw, high, cyc⟩ hs he hi]
      exact congrArg (fun t => Host.Outcome.next (s.setLane i t)) (if_pos hb)
  · rw [exec_auxWindowStart s i hr, Lane.auxStart_enabled _ _ h]
  · rw [exec_auxWindowStart s i hr, Lane.auxStart_disabled _ _ h, State.setLane_lane]
  · rw [exec_auxWindowEnd s i hr, Lane.auxEnd_due _ ht hd]
  · rw [exec_auxWindowEnd s i hr, Lane.auxEnd_early _ h, State.setLane_lane]

end Sys2Proof.Machine
end

section
/-!
SUPPORT. A write of MOD_CTL_x: where it leads, and that PASSOFF in it wins over PASSON (spec/03_modulator.md R143).
-/

namespace Sys2Proof.Machine

variable (l : Lane) (x : Ax)

/-! ### Commands of a domain -/

/-- Two operations that agree on a lane make the same command of a domain. -/
theorem State.actD_congr (s : State) (i : LaneId) (d : Dom) {f g : Lane → Lane} (h : f (s.lane i) = g (s.lane i)) :
    s.actD i d f = s.actD i d g := by
  simp only [State.actD_gate, State.onLane, h]

/-! ### Accesses that reach no register -/

/-- An aligned access to a block that the lane has not. -/
theorem Lane.place_of_absent_block {a n o : Nat} {b : Blk} {x : Ax} (hn : n ∈ [1, 2, 4, 8]) (ha : a % n = 0)
    (hb : blockOf a = some (b, x, o)) (hh : l.hasBlock b x = false) : l.place a n = some .nothing := by
  have hge := blockOf_some_ge hb
  have htcm : ¬ a < 0x400000 := by omega
  have hst : inRange a 0x10000000 0x40000 = false := inRange_above (by omega)
  have hn' : n = 1 ∨ n = 2 ∨ n = 4 ∨ n = 8 := by simpa using hn
  simp [Lane.place, hn', ha, htcm, hst, inMram_register, hge, hb, hh]

theorem Lane.devWrite_nothing {a n : Nat} (v : Word) (hp : l.place a n = some .nothing) :
    l.devWrite a n v = { l with busErr := false }.accessed a n := by
  have hd : { l with busErr := false }.downAt a .nothing = none := by
    unfold Lane.downAt
    cases domAt a <;> simp
  simp [Lane.devWrite, hp, hd]

/-- A write to a register of a domain that is not ON and not on its way there has the marks of such an access alone (R450). -/
theorem Lane.devWrite_off {a n o : Nat} {b : Blk} {d : RegDesc} {m : Dom} (v : Word) (hp : l.place a n = some (.reg b x d))
    (hb : blockOf a = some (b, x, o)) (hm : blkDom b x = some m) (hoff : l.domOn m = false) (hc : l.coming m = false) :
    l.devWrite a n v = { l with busErr := false }.offAccess a := by
  have hd : { l with busErr := false }.downAt a (.reg b x d) = some m := by
    have hon : { l with busErr := false }.domOn m = false := hoff
    simp [Lane.downAt, domAt, hb, hm, hon]
  have hc' : { l with busErr := false }.coming m = false := hc
  simp [Lane.devWrite, hp, hd, Lane.downAccess, hc', wrAcc]

/-! ### Where a write of MOD_CTL_x leads -/

theorem blockOf_modCtl : blockOf (MOD_CTL_PASSOFF x).addr = some (.mod, x, 0) := by cases x <;> decide

theorem descOf_modCtl : (descOf (MOD_CTL_PASSOFF x).addr).any (fun d => decide (8 * 4 = d.wide)) = true := by cases x <;> decide

theorem Lane.place_modCtl (h : l.part.hasAxis x = true) : ∃ d, l.place (MOD_CTL_PASSOFF x).addr 4 = some (.reg .mod x d) := by
  obtain ⟨d, hd, hw⟩ := (Option.any_eq_true _ _).mp (descOf_modCtl x)
  have hplace := l.place_of_block (a := (MOD_CTL_PASSOFF x).addr) (n := 4) (by simp) (by cases x <;> decide) (blockOf_modCtl x)
    (by simp [Lane.hasBlock, h]) (by cases x <;> decide) (by cases x <;> decide)
  exact ⟨d, hplace.trans (regPlace_whole _ _ hd (of_decide_eq_true hw))⟩

theorem Lane.place_modCtl_absent (h : l.part.hasAxis x = false) : l.place (MOD_CTL_PASSOFF x).addr 4 = some .nothing :=
  l.place_of_absent_block (by simp) (by cases x <;> decide) (blockOf_modCtl x) (by simp [Lane.hasBlock, h])

/-- A write of MOD_CTL_x of an axis that the lane has, with its domain ON, acts on its bits. -/
theorem Lane.devWrite_modCtl (v : Word) (h : l.part.hasAxis x = true) (hon : l.domOn (.pg x) = true) :
    l.devWrite (MOD_CTL_PASSOFF x).addr 4 v = { l with busErr := false }.modCtl x v := by
  obtain ⟨d, hp⟩ := l.place_modCtl x h
  have hd : l.downAt (MOD_CTL_PASSOFF x).addr (.reg .mod x d) = none := by
    simp [Lane.downAt, domAt, blockOf_modCtl, blkDom, hon]
  have hoffset : (MOD_CTL_PASSOFF x).addr % 0x10000 = 0 := by cases x <;> decide
  rw [l.devWrite_reg v hp hd, hoffset]
  rfl

/-! ### PASSOFF wins -/

/-- What a write of MOD_CTL_x does before it looks at passthrough: CNTCLR, and DISCARD or COMMIT (R120). -/
def Lane.modCtlStages (l : Lane) (x : Ax) (v : Word) : Lane :=
  let l := l.when (wbit v 4) (fun l => l.modCntClr x)
  if wbit v 1 then l.modDiscard x else l.when (wbit v 0) (fun l => l.modCommit x)

theorem Lane.modCtl_passoff {v : Word} (h : wbit v 3 = true) :
    l.modCtl x v = (l.modCtlStages x v).setMd x { ((l.modCtlStages x v).ax x).md with passReq := some false } := if_pos h

/-- Clearing PASSON leaves every other bit. -/
theorem wbit_without_passon (v : Word) {k : Nat} (h : k ≠ 2) : wbit (v &&& ~~~4#64) k = wbit v k := by
  have hmask : (4#64).getLsbD k = false := by
    rw [BitVec.getLsbD_ofNat, show 4 = 2 ^ 2 from rfl, Nat.testBit_two_pow_of_ne h.symm, Bool.and_false]
  rw [wbit, wbit, BitVec.getLsbD_and, BitVec.getLsbD_not, hmask]
  by_cases hk : k < 64
  · simp [hk]
  · simp [BitVec.getLsbD_of_ge v k (Nat.le_of_not_lt hk)]

theorem Lane.modCtlStages_without_passon (v : Word) : l.modCtlStages x (v &&& ~~~4#64) = l.modCtlStages x v := by
  unfold Lane.modCtlStages
  rw [wbit_without_passon v (k := 4) (by decide), wbit_without_passon v (k := 1) (by decide),
    wbit_without_passon v (k := 0) (by decide)]

/-- With PASSOFF written, PASSON has no effect (R143). -/
theorem Lane.modCtl_without_passon {v : Word} (h : wbit v 3 = true) : l.modCtl x (v &&& ~~~4#64) = l.modCtl x v := by
  have h' : wbit (v &&& ~~~4#64) 3 = true := (wbit_without_passon v (by decide)).trans h
  rw [Lane.modCtl_passoff l x h', Lane.modCtl_passoff l x h, Lane.modCtlStages_without_passon]

/-- A write with PASSOFF leaves a request for passthrough off (R142). -/
theorem Lane.passReq_modCtl {v : Word} (h : wbit v 3 = true) : ((l.modCtl x v).ax x).md.passReq = some false := by
  rw [Lane.modCtl_passoff l x h, Lane.md_setMd]

theorem Lane.devWrite_modCtl_without_passon {v : Word} (h : wbit v 3 = true)
    (hd : l.domOn (.pg x) = true ∨ l.coming (.pg x) = false) :
    l.devWrite (MOD_CTL_PASSOFF x).addr 4 v = l.devWrite (MOD_CTL_PASSOFF x).addr 4 (v &&& ~~~4#64) := by
  cases hx : l.part.hasAxis x with
  | false =>
    have hp := l.place_modCtl_absent x hx
    rw [l.devWrite_nothing v hp, l.devWrite_nothing _ hp]
  | true =>
    cases hon : l.domOn (.pg x) with
    | true => rw [l.devWrite_modCtl x v hx hon, l.devWrite_modCtl x _ hx hon, Lane.modCtl_without_passon _ x h]
    | false =>
      have hc : l.coming (.pg x) = false := hd.resolve_left (by simp [hon])
      obtain ⟨d, hp⟩ := l.place_modCtl x hx
      rw [l.devWrite_off x v hp (blockOf_modCtl x) rfl hon hc, l.devWrite_off x _ hp (blockOf_modCtl x) rfl hon hc]

/-- A divisor that a commit has released touches no block of an axis. -/
@[simp] theorem Lane.ax_divApply (y : Ax) : l.divApply.ax y = l.ax y := by
  have hset : ∀ (k : Lane) (d : Nat), (k.setDiv d).ax y = k.ax y := fun k d => by
    unfold Lane.setDiv
    split
    · rfl
    · split <;> simp
  unfold Lane.divApply
  split
  · unfold Lane.divGo
    split
    · rw [hset]
      cases y <;> rfl
    · cases y <;> rfl
  · rfl

/-- Settles O45: the write acts on its bits in one place, where PASSOFF is looked at before PASSON. -/
theorem passOffWinsOverPassOn : Obligations.PassOffWinsOverPassOn := by
  unfold Obligations.PassOffWinsOverPassOn
  intro s i x v _ hoff a off
  refine ⟨fun hd => ?_, fun l hd => l.devWrite_modCtl_without_passon x hoff hd, fun hr hx hon => ?_⟩
  · exact State.actD_congr s i .cp (congrArg Lane.divApply ((s.lane i).devWrite_modCtl_without_passon x hoff hd))
  · refine ⟨_, exec_registerWrite_bus s i a 4 v hr, ?_⟩
    rw [Lane.ax_divApply, Lane.devWrite_modCtl _ x v hx hon]
    exact Lane.passReq_modCtl _ x hoff

end Sys2Proof.Machine
end

section
/-!
SUPPORT. Events in the driver die, and the commands of the DC link and the chopper: what each does, case by case (spec/05_gate_drive.md
R181, R209 to R212).
-/

namespace Sys2Proof.Machine

/-! ### Events in the die of a lane that is out of reset -/

section
variable {s : State} {i : LaneId} {f : Lane → Lane} (hp : s.part.hasLane i = true) (hh : (s.lane i).sy.held = false)
include hp hh

/-- An event in the die, with what it makes of the lane. -/
theorem State.actDie_to {t : Lane} (h : f (s.lane i) = t) : s.actDie i f = .next (s.setLane i t) := by
  rw [State.actDie_ready s i f hp hh, State.inLane, h]

/-- An event in the die that leaves the lane as it is. -/
theorem State.actDie_ignored (h : f (s.lane i) = s.lane i) : s.actDie i f = .next s := by
  rw [State.actDie_to hp hh h, State.setLane_lane]

end

/-! ### The comparators (R209, R212) -/

variable (l : Lane)

/-- The lane at the first assertion of OV1, before the chopper acts: the next turn-on is watched (R209, R211). -/
def Lane.ov1Noted (l : Lane) : Lane :=
  let a := (l.set DL_STAT_OV1).bump DL_CNT_OV1
  let b := (a.raiseOnce srcDL 1 clsCE none (a.dataOf DL_STAT_OV1.addr)).event 184
  { b with dl := { b.dl with first := true } }

/-- The lane at the first assertion of OV2, before its trip acts (R212). -/
def Lane.ov2Noted (l : Lane) : Lane :=
  let a := (l.set DL_STAT_OV2).bump DL_CNT_OV2
  (a.raise srcDL 3 clsUC none (a.dataOf DL_STAT_OV2.addr)).event 185

theorem Lane.ov1Assert_first (he : l.dieRd DL_OV_OV1 ≠ 0) (ho : l.on DL_STAT_OV1 = false) :
    l.ov1Assert = if l.ov1Noted.dieOn DL_CFG_EN then l.ov1Noted.chopPulse else l.ov1Noted :=
  if_neg (fun h => h.elim he (ne_true_of_eq_false ho))

theorem Lane.ov1Assert_ignored (h : l.dieRd DL_OV_OV1 = 0 ∨ l.on DL_STAT_OV1 = true) : l.ov1Assert = l := if_pos h

theorem Lane.ov2Assert_first (he : l.dieRd DL_OV_OV2 ≠ 0) (ho : l.on DL_STAT_OV2 = false) :
    l.ov2Assert = (l.ov2Noted.tripOnset 6 true 0).each l.ov2Noted.axes Lane.gateSettle :=
  if_neg (fun h => h.elim he (ne_true_of_eq_false ho))

theorem Lane.ov2Assert_ignored (h : l.dieRd DL_OV_OV2 = 0 ∨ l.on DL_STAT_OV2 = true) : l.ov2Assert = l := if_pos h

theorem Lane.ov2Release_asserted (h : l.on DL_STAT_OV2 = true) : l.ov2Release = (l.clr DL_STAT_OV2).tripOff 6 := if_pos h

theorem Lane.ov2Release_ignored (h : l.on DL_STAT_OV2 = false) : l.ov2Release = l := if_neg (ne_true_of_eq_false h)

/-! ### The chopper (R210, R211) -/

theorem Lane.chopPeriod_due (ho : l.on DL_STAT_OV1 = true) (he : l.dieOn DL_CFG_EN = true) (hf : l.rd DL_STAT_CHFAULT = 0)
    (hd : l.dl.perAt + l.chopPer ≤ l.now) : l.chopPeriod = l.chopPulse := if_pos ⟨ho, he, hf, decide_eq_true hd⟩

theorem Lane.chopPeriod_ignored (h : l.on DL_STAT_OV1 = false ∨ l.dieOn DL_CFG_EN = false ∨ l.rd DL_STAT_CHFAULT ≠ 0 ∨
    l.now < l.dl.perAt + l.chopPer) : l.chopPeriod = l := by
  refine if_neg (fun ⟨ho, he, hf, hd⟩ => ?_)
  rcases h with h | h | h | h
  · exact ne_true_of_eq_false h ho
  · exact ne_true_of_eq_false h he
  · exact h hf
  · exact Nat.not_le.mpr h (of_decide_eq_true hd)

theorem Lane.chopOnEnd_due (h : l.dl.onEnd ≤ l.now) : l.chopOnEnd = l.clr DL_STAT_CHON := if_pos (decide_eq_true h)

theorem Lane.chopOnEnd_early (h : l.now < l.dl.onEnd) : l.chopOnEnd = l := if_neg (fun hd => Nat.not_le.mpr h (of_decide_eq_true hd))

/-- The lane with the watch of the first turn-on ended. -/
def Lane.watchEnded (l : Lane) : Lane := { l with dl := { l.dl with watch := none } }

/-- A watch that is due ends, and what was seen of the current says how (R211, R13). -/
theorem Lane.chopWatch_due {t : Nat} (ht : l.dl.watch = some t) (hd : t ≤ l.now) (seen : Arrival) :
    l.chopWatch seen = match seen with
      | .before => l.watchEnded
      | .inExpiry => l.watchEnded.set DL_STAT_LATE
      | .never => (l.watchEnded.set DL_STAT_NOCUR).chopFault := by
  cases seen <;> simp only [Lane.chopWatch, ht, Lane.due, decide_eq_true hd, if_true] <;> rfl

theorem Lane.chopWatch_early (h : ∀ t, l.dl.watch = some t → l.now < t) (seen : Arrival) : l.chopWatch seen = l := by
  cases ht : l.dl.watch with
  | none => simp only [Lane.chopWatch, ht]
  | some t => simp only [Lane.chopWatch, ht, Lane.due, decide_eq_true_eq, if_neg (Nat.not_le.mpr (h t ht))]

theorem Lane.chopClr_released (ho : l.on DL_STAT_OV1 = false) (hf : l.rd DL_STAT_CHFAULT ≠ 0) :
    l.chopClr = (l.clr DL_STAT_CHFAULT).tripOff 7 := if_neg (fun h => h.elim (ne_true_of_eq_false ho) hf)

theorem Lane.chopClr_ignored (h : l.on DL_STAT_OV1 = true ∨ l.rd DL_STAT_CHFAULT = 0) : l.chopClr = l := if_pos h

/-! ### The commands -/

variable (s : State) (i : LaneId)

theorem exec_ov1Assert : exec (.ov1Assert i) s = s.actDie i Lane.ov1Assert := rfl
theorem exec_ov1Release : exec (.ov1Release i) s = s.actDie i Lane.ov1Release := rfl
theorem exec_ov2Assert : exec (.ov2Assert i) s = s.actDie i Lane.ov2Assert := rfl
theorem exec_ov2Release : exec (.ov2Release i) s = s.actDie i Lane.ov2Release := rfl
theorem exec_chopperPeriod : exec (.chopperPeriod i) s = s.actDie i Lane.chopPeriod := rfl
theorem exec_chopperOnEnd : exec (.chopperOnEnd i) s = s.actDie i Lane.chopOnEnd := rfl
theorem exec_chopperWatchExpiry (seen : Arrival) :
    exec (.chopperWatchExpiry i seen) s = s.actDie i (fun l => l.chopWatch seen) := rfl
theorem exec_chopperOvercurrent : exec (.chopperOvercurrent i) s = s.actDie i Lane.chopOver := rfl

theorem exec_dlChclr (h : s.ready i .clocked) : exec (.dlChclr i) s = .next (s.setLane i (s.lane i).chopClr) := State.act_ready s i _ h

theorem exec_dlCntclr (h : s.ready i .clocked) : exec (.dlCntclr i) s = .next (s.setLane i ((s.lane i).setReg DL_CNT_OV1.addr 0#64)) :=
  State.act_ready s i _ h

/-- Settles O14: each command is an event in the driver die, case by case; CHCLR and CNTCLR are the controller's. -/
theorem dcLinkCommandsComplete : Obligations.DcLinkCommandsComplete := by
  unfold Obligations.DcLinkCommandsComplete
  intro s i hp l
  refine ⟨fun hh => ⟨⟨fun he ho => ?_, fun h => ?_⟩, ?_, ⟨fun he ho => ?_, fun h => ?_⟩, fun h => ?_, fun h => ?_, fun ho he hf hd => ?_,
      fun h => ?_, fun h => ?_, fun h => ?_, fun t ht hd => ⟨?_, ?_, ?_⟩, fun h r => ?_, ?_⟩,
    fun hc => ⟨fun ho hf => ?_, fun h => ?_, exec_dlCntclr s i ⟨hp, hc⟩⟩, fun hh hd r => ?_, fun hh hd => ?_⟩
  · rw [exec_ov1Assert, State.actDie_to hp hh (Lane.ov1Assert_first _ he ho)]
    rfl
  · rw [exec_ov1Assert, State.actDie_ignored hp hh (Lane.ov1Assert_ignored _ h)]
  · rw [exec_ov1Release, State.actDie_to hp hh rfl]
    rfl
  · rw [exec_ov2Assert, State.actDie_to hp hh (Lane.ov2Assert_first _ he ho)]
    rfl
  · rw [exec_ov2Assert, State.actDie_ignored hp hh (Lane.ov2Assert_ignored _ h)]
  · rw [exec_ov2Release, State.actDie_to hp hh (Lane.ov2Release_asserted _ h)]
  · rw [exec_ov2Release, State.actDie_ignored hp hh (Lane.ov2Release_ignored _ h)]
  · rw [exec_chopperPeriod, State.actDie_to hp hh (Lane.chopPeriod_due _ ho he hf hd)]
  · rw [exec_chopperPeriod, State.actDie_ignored hp hh (Lane.chopPeriod_ignored _ h)]
  · rw [exec_chopperOnEnd, State.actDie_to hp hh (Lane.chopOnEnd_due _ h)]
  · rw [exec_chopperOnEnd, State.actDie_ignored hp hh (Lane.chopOnEnd_early _ h)]
  · rw [exec_chopperWatchExpiry, State.actDie_to hp hh (Lane.chopWatch_due _ ht hd .before)]
    rfl
  · rw [exec_chopperWatchExpiry, State.actDie_to hp hh (Lane.chopWatch_due _ ht hd .inExpiry)]
    rfl
  · rw [exec_chopperWatchExpiry, State.actDie_to hp hh (Lane.chopWatch_due _ ht hd .never)]
    rfl
  · rw [exec_chopperWatchExpiry, State.actDie_ignored hp hh (Lane.chopWatch_early _ h r)]
  · rw [exec_chopperOvercurrent, State.actDie_to hp hh rfl]
    rfl
  · rw [exec_dlChclr s i ⟨hp, hc⟩, Lane.chopClr_released _ ho hf]
  · rw [exec_dlChclr s i ⟨hp, hc⟩, Lane.chopClr_ignored _ h, State.setLane_lane]
  · have dead : ∀ f, s.actDie i f = .next s := fun f => State.actDie_dead s i f hp hh hd
    exact ⟨dead _, dead _, dead _, dead _, dead _, dead _, dead _, dead _⟩
  · have held : ∀ f, s.actDie i f = .next (s.setLane i (l.dieOnly f)) := fun f => State.actDie_held s i f hp hh hd
    exact ⟨held _, held _, held _, held _, held _, held _, fun r => held _, held _⟩

end Sys2Proof.Machine
end

section
/-!
SUPPORT. The commands of the gate driver: what each does, case by case (spec/05_gate_drive.md R185 to R187, R190 to R192, R196, R199, R213).
-/

namespace Sys2Proof.Machine

variable (l : Lane) (x : Ax)

/-! ### Gate enable (R186, R539) -/

/-- In ARMING no request reaches the die before its check has ended (R539). -/
theorem Lane.gateEnable_checking (hm : l.mode = mArming) (hr : l.im.gdRun ≠ 0) : l.gateEnable x = l := if_pos ⟨hm, hr⟩

/-- Any other request is judged by R186. -/
theorem Lane.gateEnable_judged (h : l.mode ≠ mArming ∨ l.im.gdRun = 0) :
    l.gateEnable x =
      if l.enableRefused x then (l.set (GD_STAT_ENREJ x)).raiseOnce srcGD 7 clsCE (some x) (l.dataOf SY_MODE_OWN.addr)
      else (l.set (GD_STAT_ENA x)).gateSettle x :=
  if_neg (fun ⟨hm, hr⟩ => h.elim (fun h => h hm) (fun h => hr h))

/-! ### The interlock (R190 to R192) -/

/-- The lane at an interlock refusal: the leg is held, and the refusal is counted and reported (R190). -/
def Lane.interlockHeld (l : Lane) (x : Ax) (leg : Nat) : Lane :=
  let g := (l.ax x).gd
  let a := (l.setGd x { g with legs := g.legs ||| 2 ^ leg, refusals := (l.now :: g.refusals).take 3 }).gateNote x
  let b := (a.set (GD_STAT_XHOLD x)).bump (GD_XCNT_TOTAL x)
  (b.raiseOnce srcGD 3 clsUC (some x) (b.xcnt x)).eventAx x 29

/-- Whether a refusal now is the fourth within 1 ms (R191): whether the third before it is that near. -/
def Lane.fourthRefusal (l : Lane) (x : Ax) : Bool :=
  match (l.ax x).gd.refusals with
  | [_, _, t] => decide (l.now - t ≤ msec)
  | _ => false

theorem Lane.fourthRefusal_near {r₁ r₂ t : Nat} (h : (l.ax x).gd.refusals = [r₁, r₂, t]) (hn : l.now - t ≤ msec) :
    l.fourthRefusal x = true := by
  simp only [Lane.fourthRefusal, h, decide_eq_true hn]

theorem Lane.fourthRefusal_far (h : ∀ r₁ r₂ t, (l.ax x).gd.refusals = [r₁, r₂, t] → msec < l.now - t) : l.fourthRefusal x = false := by
  unfold Lane.fourthRefusal
  split
  next r₁ r₂ t hr => exact decide_eq_false (Nat.not_le.mpr (h r₁ r₂ t hr))
  next => rfl

/-- A refusal holds its leg, and only the fourth within 1 ms is an axis fault (R190, R191). -/
theorem Lane.interlock_eq (leg : Nat) :
    l.interlock x leg =
      let c := l.interlockHeld x leg
      if l.fourthRefusal x then (c.raise srcGD 4 clsUC (some x) (c.xcnt x)).axisSafe x 2 true else c := rfl

/-! ### The internal commutator (R213, R214) -/

theorem Lane.commHall_off (code : Nat) (h : l.rd (GD_STAT_PASS x) = 0) : l.commHall x code = l := if_pos h

/-- In passthrough the code is taken, and an illegal one is counted besides (R214). -/
theorem Lane.commHall_passing (code : Nat) (h : l.rd (GD_STAT_PASS x) ≠ 0) :
    l.commHall x code =
      let a := l.commChange x (fun l' => l'.wr (GD_COMM_HALL x) code)
      let b := a.bump (GD_COMM_ILL x)
      if (commRow code).isSome then a else b.raiseOnce srcGD 8 clsCE (some x) (b.dataOf (GD_COMM_ILL x).addr) := by
  rw [Lane.commHall, if_neg h]
  cases commRow code with
  | some _ => simp only [Option.isSome_some, if_true]
  | none => simp only [Option.isSome_none, Bool.false_eq_true, if_false]

/-! ### Hard shorts (R196) -/

/-- The lane with a hard short latched: its axis is in axis safe state with ASC. -/
def Lane.shortLatched (l : Lane) (x : Ax) (gate : Nat) : Lane :=
  (l.wr (GD_TRIPSTAT_HS x) (l.rd (GD_TRIPSTAT_HS x) ||| 2 ^ gate)).safeEnter x 1 true

theorem Lane.hardShort_again (gate : Nat) (h : (l.rd (GD_TRIPSTAT_HS x)).testBit gate = true) :
    l.hardShort x gate = (l.shortLatched x gate).gateSettle x :=
  congrArg (fun t : Lane => t.gateSettle x) (if_pos h)

/-- The first short of a switch is reported (R196). -/
theorem Lane.hardShort_first (gate : Nat) (h : (l.rd (GD_TRIPSTAT_HS x)).testBit gate = false) :
    l.hardShort x gate =
      let a := l.shortLatched x gate
      ((a.raise srcGD 1 clsUC (some x) (a.rd (GD_TRIPSTAT_HS x) + 256 * a.rd (GD_STAT_SIDE x))).eventAx x 28).gateSettle x :=
  congrArg (fun t : Lane => t.gateSettle x) (if_neg (ne_true_of_eq_false h))

/-! ### The high-side supply (R185) -/

/-- Whether the headroom measured last is below its limit. -/
def Lane.headroomLow (l : Lane) (x : Ax) : Bool := decide (l.rd (GD_CPMON_MV x) < l.cpuvLevel x)

theorem Lane.cpuvEval_known (h : l.on (GD_STAT_CPUV x) = true ∨ l.headroomLow x = false) :
    l.cpuvEval x = ((l.put (GD_STAT_CPUV x) (l.headroomLow x)).sideEval x).gateSettle x := by
  refine congrArg (fun t : Lane => (t.sideEval x).gateSettle x) (if_neg ?_)
  change ¬ (l.headroomLow x && !l.on (GD_STAT_CPUV x)) = true
  rcases h with h | h
  · simp [h]
  · simp [h]

/-- Headroom that falls below its limit is reported (R185). -/
theorem Lane.cpuvEval_falls (h : l.on (GD_STAT_CPUV x) = false) (hl : l.headroomLow x = true) :
    l.cpuvEval x =
      let a := l.put (GD_STAT_CPUV x) (l.headroomLow x)
      (((a.raise srcGD 6 clsUC (some x) (a.dataOf (GD_CPMON_MV x).addr)).eventAx x 31).sideEval x).gateSettle x := by
  refine congrArg (fun t : Lane => (t.sideEval x).gateSettle x) (if_pos ?_)
  change (l.headroomLow x && !l.on (GD_STAT_CPUV x)) = true
  simp [h, hl]

/-! ### The commands -/

section
variable (s : State) (i : LaneId) (x : Ax) (h : s.ready i (.axis x (.pg x)))
include h

theorem exec_gateEnableRequest : exec (.gateEnableRequest i x) s = .next (s.setLane i ((s.lane i).gateEnable x)) :=
  State.accX_ready s i x _ _ _ h

theorem exec_gateEnableDrop : exec (.gateEnableDrop i x) s = .next (s.setLane i ((s.lane i).gateDrop x)) :=
  State.accX_ready s i x _ _ _ h

theorem exec_gdSafeRequest : exec (.gdSafeRequest i x) s = .next (s.setLane i ((s.lane i).axisSafe x 8 false)) :=
  State.accX_ready s i x _ _ _ h

theorem exec_gdCntclr : exec (.gdCntclr i x) s = .next (s.setLane i ((s.lane i).gdCntClr x)) := State.accX_ready s i x _ _ _ h

theorem exec_interlockRefusal (leg : Fin 3) :
    exec (.interlockRefusal i x leg) s = .next (s.setLane i ((s.lane i).interlock x leg)) := State.actX_ready s i x _ _ h

theorem exec_minimumGapDelay : exec (.minimumGapDelay i x) s = .next (s.setLane i ((s.lane i).bump (GD_XCNT_DTCLIP x))) :=
  State.actX_ready s i x _ _ h

/-- The code that the hall lines show reaches the commutator; another is no change of theirs. -/
theorem exec_commutatorHallChange (code : Fin 8) :
    exec (.commutatorHallChange i x code) s = .next (s.setLane i
      (if (s.lane i).hallLines x = code.val then (s.lane i).commHall x code else s.lane i)) := State.actX_ready s i x _ _ h

end

section
variable (s : State) (i : LaneId) (x : Ax) (hp : s.part.hasLane i = true) (hh : (s.lane i).sy.held = false)
  (hx : (s.lane i).part.hasAxis x = true)
include hp hh hx

theorem exec_hardShort (gate : Fin 6) : exec (.hardShort i x gate) s = .next (s.setLane i ((s.lane i).hardShort x gate)) :=
  State.actDie_to hp hh (if_pos hx)

theorem exec_cpuvChange (mv : BitVec 16) : exec (.cpuvChange i x mv) s = .next (s.setLane i ((s.lane i).cpuvChange x mv.toNat)) :=
  State.actDie_to hp hh (if_pos hx)

end

/-- Settles O15: each command is the operation of the gate driver, case by case; a short and the headroom are events in the die. -/
theorem gateDriverCommandsComplete : Obligations.GateDriverCommandsComplete := by
  unfold Obligations.GateDriverCommandsComplete
  intro s i x
  refine ⟨fun hr => ?_, fun hp hh hx => ?_⟩
  · intro l
    refine ⟨fun hm hg => ?_, fun hj hok => ?_, fun hj hbad => ?_, exec_gateEnableDrop s i x hr, exec_gdSafeRequest s i x hr,
      exec_gdCntclr s i x hr, fun leg => ⟨fun hfar => ?_, fun r₁ r₂ t hrs hnear => ?_⟩, exec_minimumGapDelay s i x hr, fun code h => ?_,
      fun code hpass hcode => ⟨fun hlegal => ?_, fun hill => ?_⟩⟩
    · rw [exec_gateEnableRequest s i x hr, Lane.gateEnable_checking _ x hm hg, State.setLane_lane]
    · rw [exec_gateEnableRequest s i x hr, Lane.gateEnable_judged _ x hj, if_neg (ne_true_of_eq_false hok)]
    · rw [exec_gateEnableRequest s i x hr, Lane.gateEnable_judged _ x hj, if_pos hbad]
    · rw [exec_interlockRefusal s i x hr, Lane.interlock_eq, Lane.fourthRefusal_far _ x hfar]
      rfl
    · rw [exec_interlockRefusal s i x hr, Lane.interlock_eq, Lane.fourthRefusal_near _ x hrs hnear]
      rfl
    · rw [exec_commutatorHallChange s i x hr]
      rcases h with hoff | hother
      · rw [Lane.commHall_off _ x _ hoff, ite_self, State.setLane_lane]
      · rw [if_neg hother, State.setLane_lane]
    · rw [exec_commutatorHallChange s i x hr, if_pos hcode, Lane.commHall_passing _ x _ hpass]
      exact congrArg (fun t => Host.Outcome.next (s.setLane i t)) (if_pos hlegal)
    · rw [exec_commutatorHallChange s i x hr, if_pos hcode, Lane.commHall_passing _ x _ hpass]
      exact congrArg (fun t => Host.Outcome.next (s.setLane i t)) (if_neg (ne_true_of_eq_false hill))
  · intro l
    refine ⟨fun gate => ⟨fun h => ?_, fun h => ?_⟩, fun mv => ⟨fun h => ?_, fun ho hl => ?_⟩⟩
    · rw [exec_hardShort s i x hp hh hx, Lane.hardShort_again _ x gate h]
      rfl
    · rw [exec_hardShort s i x hp hh hx, Lane.hardShort_first _ x gate h]
      rfl
    · rw [exec_cpuvChange s i x hp hh hx, Lane.cpuvChange, Lane.cpuvEval_known _ x h]
      rfl
    · rw [exec_cpuvChange s i x hp hh hx, Lane.cpuvChange, Lane.cpuvEval_falls _ x ho hl]
      rfl

end Sys2Proof.Machine
end

section
/-!
SUPPORT. The keep-alive of the driver die: when one is late, lost, or the first after a loss (spec/05_gate_drive.md R204 to R207).
-/

namespace Sys2Proof.Machine

variable (l : Lane)

/-! ### One operation for each of a list -/

/-- What an operation gives for its own entry and leaves for every other holds of all entries in the end. -/
theorem Lane.each_all {α : Type} {f : Lane → α → Lane} {P : Lane → α → Prop} (own : ∀ k a, P (f k a) a)
    (kept : ∀ k a b, P k b → P (f k a) b) (xs : List α) : ∀ a ∈ xs, P (l.each xs f) a := by
  have stays : ∀ (ys : List α) (k : Lane) (b : α), P k b → P (k.each ys f) b := fun ys => by
    induction ys with
    | nil => exact fun _ _ h => h
    | cons y ys ih => exact fun k b h => ih (f k y) b (kept k y b h)
  induction xs generalizing l with
  | nil => exact fun _ h => nomatch h
  | cons x xs ih =>
    intro a ha
    rcases List.mem_cons.mp ha with rfl | ha
    · exact stays xs (f l a) a (own l a)
    · exact ih (f l x) a ha

/-! ### LATE -/

theorem Lane.on_late_set (x : Ax) : (l.set (GD_STAT_LATE x)).on (GD_STAT_LATE x) = true := by
  have hrd : (l.set (GD_STAT_LATE x)).rd (GD_STAT_LATE x) = 1 := l.rd_wr _ 1 (by cases x <;> decide)
  simp [Lane.on, hrd]

/-- The mark of one axis leaves that of another. -/
theorem Lane.on_late_set_kept (x y : Ax) (h : l.on (GD_STAT_LATE y) = true) : (l.set (GD_STAT_LATE x)).on (GD_STAT_LATE y) = true := by
  by_cases hxy : y = x
  · rw [hxy, Lane.on_late_set]
  · have haddr : (GD_STAT_LATE y).addr ≠ (GD_STAT_LATE x).addr := by
      revert hxy
      cases x <;> cases y <;> decide
    rw [Lane.on, Lane.set, Lane.rd_wr_ne _ _ _ _ haddr]
    exact h

/-- LATE set on every axis reads 1 on every axis (R206). -/
theorem Lane.on_late_each (x : Ax) (xs : List Ax) (h : x ∈ xs) :
    (l.each xs (fun l x => l.set (GD_STAT_LATE x))).on (GD_STAT_LATE x) = true :=
  l.each_all (P := fun k y => k.on (GD_STAT_LATE y) = true) Lane.on_late_set Lane.on_late_set_kept xs x h

/-! ### A keep-alive arrives (R206, R207) -/

/-- The lane with the window started again. -/
def Lane.kaRestarted (l : Lane) : Lane := { l with dl := { l.dl with kaEnd := some (l.now + kaWindow), kaLost := false } }

/-- Whether a keep-alive now falls into the expiry cycle of its window. -/
def Lane.kaLate (l : Lane) : Bool :=
  match l.dl.kaEnd with
  | some t => l.inExpiry t kaCycle
  | none => false

theorem Lane.kaLate_inside {t : Nat} (ht : l.dl.kaEnd = some t) (hd : t ≤ l.now) (hc : l.now < t + kaCycle) : l.kaLate = true := by
  simp only [Lane.kaLate, ht, Lane.inExpiry, decide_eq_true hd, decide_eq_true hc, Bool.and_self]

theorem Lane.kaLate_outside (h : ∀ t, l.dl.kaEnd = some t → l.now < t ∨ t + kaCycle ≤ l.now) : l.kaLate = false := by
  unfold Lane.kaLate
  split
  next t ht =>
    rcases h t ht with h | h
    · rw [Lane.inExpiry, decide_eq_false (Nat.not_le.mpr h), Bool.false_and]
    · rw [Lane.inExpiry, decide_eq_false (Nat.not_lt.mpr h), Bool.and_false]
  next => rfl

/-- A keep-alive starts the window again; one in the expiry cycle is marked, and one after a loss is reported. -/
theorem Lane.keepAlive_eq :
    l.keepAlive =
      let a := l.kaRestarted
      let b := if l.kaLate then a.each a.axes (fun l x => l.set (GD_STAT_LATE x)) else a
      if l.dl.kaLost then b.raise srcGD 5 clsFT none (b.dataOf (GD_STAT_ENA .x0).addr) else b := rfl

theorem Lane.keepAlive_late (h : l.kaLate = true) (hl : l.dl.kaLost = false) :
    l.keepAlive = l.kaRestarted.each l.kaRestarted.axes (fun l x => l.set (GD_STAT_LATE x)) := by
  simp only [Lane.keepAlive_eq, h, hl, if_true, Bool.false_eq_true, if_false]

theorem Lane.keepAlive_inTime (h : l.kaLate = false) (hl : l.dl.kaLost = false) : l.keepAlive = l.kaRestarted := by
  simp only [Lane.keepAlive_eq, h, hl, Bool.false_eq_true, if_false]

/-- The first keep-alive after a loss without a lane reset is reported (R207). -/
theorem Lane.keepAlive_afterLoss (h : l.kaLate = false) (hl : l.dl.kaLost = true) :
    l.keepAlive = l.kaRestarted.raise srcGD 5 clsFT none (l.kaRestarted.dataOf (GD_STAT_ENA .x0).addr) := by
  simp only [Lane.keepAlive_eq, h, hl, if_true, Bool.false_eq_true, if_false]

/-! ### None arrives (R205) -/

/-- At the end of the window every axis enters axis safe state with its SAFEMODE. -/
theorem Lane.keepAliveLoss_due {t : Nat} (ht : l.dl.kaEnd = some t) (hd : t ≤ l.now) :
    l.keepAliveLoss =
      let b : Lane := { l with dl := { l.dl with kaEnd := none, kaLost := true } }
      b.each b.axes (fun l x => ((l.set (GD_STAT_KALOSS x)).axisSafe x 3 false).eventAx x 31) := by
  simp only [Lane.keepAliveLoss, ht, Lane.due, decide_eq_true hd, if_true]

/-! ### The commands -/

section
variable {s : State} {i : LaneId} (hp : s.part.hasLane i = true) (hh : (s.lane i).sy.held = false)
include hp hh

/-- While the PLL root is lost, no keep-alive is sent (R454). -/
theorem exec_keepAliveReceive_rootLost (hl : (s.lane i).pw.rootLost = true) : exec (.keepAliveReceive i) s = .next s :=
  State.actDie_ignored hp hh (if_pos (by simp [hl]))

theorem exec_keepAliveReceive (hl : (s.lane i).pw.rootLost = false) :
    exec (.keepAliveReceive i) s = .next (s.setLane i (s.lane i).keepAlive) :=
  State.actDie_to hp hh (if_neg (by simp [hl, hh]))

theorem exec_keepAliveLoss : exec (.keepAliveLoss i) s = .next (s.setLane i (s.lane i).keepAliveLoss) := State.actDie_to hp hh rfl

end

/-- Settles O16: a keep-alive is judged by whether it is late and whether one was lost before it; LATE on each axis leaves the other's. -/
theorem lateKeepAliveCounts : Obligations.LateKeepAliveCounts := by
  unfold Obligations.LateKeepAliveCounts
  intro s i hp hh l a
  refine ⟨exec_keepAliveReceive_rootLost hp hh, fun t hr ht hd hc hl => ⟨?_, fun x hx => a.on_late_each x a.axes hx⟩,
    fun hr hout => ⟨fun hl => ?_, fun hl => ?_⟩, fun t ht hd => ?_⟩
  · rw [exec_keepAliveReceive hp hh hr, Lane.keepAlive_late _ (Lane.kaLate_inside _ ht hd hc) hl]
    rfl
  · rw [exec_keepAliveReceive hp hh hr, Lane.keepAlive_inTime _ (Lane.kaLate_outside _ hout) hl]
    rfl
  · rw [exec_keepAliveReceive hp hh hr, Lane.keepAlive_afterLoss _ (Lane.kaLate_outside _ hout) hl]
    rfl
  · rw [exec_keepAliveLoss hp hh, Lane.keepAliveLoss_due _ ht hd]

end Sys2Proof.Machine
end

section
/-!
SUPPORT. The commands of the feedback block: what each does, case by case (spec/06_feedback.md R226, R230, R232 to R246).
-/

namespace Sys2Proof.Machine

variable (l : Lane) (x : Ax)

/-! ### The hidden state of a feedback block, and the registers beside it -/

@[simp] theorem Lane.fb_setFb (f : FbSt) : ((l.setFb x f).ax x).fb = f := by simp [Lane.setFb]

@[simp] theorem Lane.ax_wr (f : Fld) (v : Nat) (y : Ax) : (l.wr f v).ax y = l.ax y := by cases y <;> rfl

/-! ### Monitor channels (R225, R226) -/

theorem Lane.monitor_absent {n : Nat} (v : Nat) (h : 14 ≤ n) : l.monitor n v = l := if_pos h

/-- What follows the record of a conversion, its judgement and the watch of the die temperatures, changes AD_MONSTAT and counts a message
that is dropped. -/
theorem Lane.rd_monitor_ne {n : Nat} (v : Nat) (h : n < 14) (f : Fld) (hs : f.addr ≠ AD_MONSTAT_OUT.addr)
    (hd : f.addr ≠ FC_DROP_CE.addr) :
    (l.monitor n v).rd f = (l.energyAccount.wr (AD_MON n) v).rd f := by
  rw [Lane.monitor, if_neg (Nat.not_le.mpr h)]
  extract_lets _ _ _ _ _ recorded _ judged
  change judged.rd f = recorded.rd f
  unfold judged
  split
  · rfl
  · split
    · exact recorded.rd_wr_ne _ f _ hs
    · exact (Lane.rd_raiseOnce_ne _ _ _ _ _ _ f hd).trans (recorded.rd_wr_ne _ f _ hs)

/-- The monitor register of a source shows its latest conversion (R226). -/
theorem Lane.rd_monitor {n : Nat} (v : BitVec 16) (h : n < 14) : (l.monitor n v.toNat).rd (AD_MON n) = v.toNat := by
  have hstat : (AD_MON n).addr ≠ AD_MONSTAT_OUT.addr := by
    simp only [AD_MON, AD_MONSTAT_OUT]
    omega
  have hdrop : (AD_MON n).addr ≠ FC_DROP_CE.addr := by
    simp only [AD_MON, FC_DROP_CE]
    omega
  calc (l.monitor n v.toNat).rd (AD_MON n)
      = (l.energyAccount.wr (AD_MON n) v.toNat).rd (AD_MON n) := l.rd_monitor_ne v.toNat h _ hstat hdrop
    _ = v.toNat % 2 ^ 16 := l.energyAccount.rd_wr (AD_MON n) v.toNat (by decide : 0 + 16 ≤ 64)
    _ = v.toNat := Nat.mod_eq_of_lt v.isLt

/-! ### Hall codes (R232, R243, R253) -/

/-- The lane with an own hall code and the raw lines recorded. -/
def Lane.hallNoted (l : Lane) (x : Ax) (code raw : Nat) : Lane :=
  (l.setFb x { (l.ax x).fb with raw := raw }).wr (FB_HCODE_OWN x) code

@[simp] theorem Lane.maskHall_hallNoted (code raw : Nat) : ((l.hallNoted x code raw).ax x).fb.maskHall = (l.ax x).fb.maskHall := by
  simp [Lane.hallNoted]

/-- A code under a mask, or where the halls are no own group, is only noted (R253, R227). -/
theorem Lane.hallEdge_eq (code raw : Nat) :
    l.hallEdge x code raw =
      let a := l.hallNoted x code raw
      (if (l.ax x).fb.maskHall.isSome = true ∨ a.hasHall x = false then
        a.setFb x { (a.ax x).fb with own := { (a.ax x).fb.own with code := code } }
      else a.hallTake x .halls (a.now - 16 * a.rd (FB_CFG_HFILT x)) code).passThrough x := by
  have hmask := l.maskHall_hallNoted x code raw
  change Lane.passThrough (match ((l.hallNoted x code raw).ax x).fb.maskHall with | some _ => _ | none => _) x = _
  rw [hmask]
  cases (l.ax x).fb.maskHall with
  | some c => rfl
  | none =>
    have hcond : ((l.hallNoted x code raw).hasHall x = false) = (false = true ∨ (l.hallNoted x code raw).hasHall x = false) :=
      propext (or_iff_right Bool.false_ne_true).symm
    exact congrArg (fun t : Lane => t.passThrough x) (ite_congr hcond (fun _ => rfl) (fun _ => rfl))

theorem Lane.hallEdge_noted (code raw : Nat) (h : (l.ax x).fb.maskHall.isSome = true ∨ (l.hallNoted x code raw).hasHall x = false) :
    l.hallEdge x code raw =
      let a := l.hallNoted x code raw
      (a.setFb x { (a.ax x).fb with own := { (a.ax x).fb.own with code := code } }).passThrough x := by
  rw [Lane.hallEdge_eq]
  exact congrArg (fun t : Lane => t.passThrough x) (if_pos h)

/-- Without a mask, the own hall source takes the code (R232, R234). -/
theorem Lane.hallEdge_taken (code raw : Nat) (hm : (l.ax x).fb.maskHall = none) (hg : (l.hallNoted x code raw).hasHall x = true) :
    l.hallEdge x code raw =
      let a := l.hallNoted x code raw
      (a.hallTake x .halls (a.now - 16 * a.rd (FB_CFG_HFILT x)) code).passThrough x := by
  rw [Lane.hallEdge_eq]
  exact congrArg (fun t : Lane => t.passThrough x) (if_neg (by simp [hm, hg]))

/-! ### Sine and cosine (R237, R238) -/

/-- The squared magnitude of a sample (R237). -/
def Lane.scM2 (l : Lane) (x : Ax) (cs cc : Int) : Q := (l.scNorm x cs cc).2.2

/-- Whether a sample lies below the window (R252). -/
def Lane.scLow (l : Lane) (x : Ax) (cs cc : Int) : Bool := decide ((l.scM2 x cs cc).raw < (winQ (l.rd (FB_SCWIN_LO x))).raw)

/-- The lane with the squared magnitude of a sample recorded, and whether it is low (R252). -/
def Lane.scNoted (l : Lane) (x : Ax) (cs cc : Int) : Lane :=
  (l.wq (FB_SCM2 x) (l.scM2 x cs cc)).setFb x { (l.ax x).fb with sc := { (l.ax x).fb.sc with low := l.scLow x cs cc } }

/-- Whether a sample lies outside the window: below it, or above it (R237). -/
def Lane.scOutside (l : Lane) (x : Ax) (cs cc : Int) : Prop :=
  l.scLow x cs cc = true ∨ (winQ ((l.scNoted x cs cc).rd (FB_SCWIN_HI x))).raw < (l.scM2 x cs cc).raw

/-- The lane with a sample outside the window counted (R237), of the block's state before it. -/
def Lane.scCounted (l : Lane) (x : Ax) (f : FbSt) (low : Bool) : Lane :=
  let b := l.bump (FB_CNT_SCOUT x)
  b.setFb x { f with sc := { f.sc with nout := f.sc.nout + 1, low := low, clean := f.sc.clean.map (fun _ => nextTick b.now) } }

/-- The group is faulty with the last of FB_SCCFG_x.SCN samples in a row outside the window (R237). -/
def Lane.scJudged (l : Lane) (x : Ax) (nout : Nat) : Lane :=
  if nout = l.rd (FB_SCCFG_SCN x) then (l.groupFault x true).raise srcFB 3 clsUC (some x) (l.dataOf (FB_CNT_SCOUT x).addr) else l

/-- The tracker of the block moved by the sine and cosine of a sample (R237). -/
def Lane.scTracked (l : Lane) (x : Ax) (t : SinCos) (sin cos : Q) : SinCos :=
  t.track (Q.atan2 sin cos) (turnQ (l.rd (FB_ANG_EOFS x))) (l.pp x) (l.rd (FB_SCCFG_SCPER x)) (l.rd (FB_TRK_BW x)) (l.now - 1024)

section
variable {l x} {cs cc : Int}

/-- Under a mask, or where the pair is no own group, a sample is no more than recorded (R253, R227). -/
theorem Lane.scSample_noted (h : (l.ax x).fb.maskSc = true ∨ (l.scNoted x cs cc).hasSc x = false) :
    l.scSample x cs cc = l.scNoted x cs cc := if_pos h

/-- Any other sample is judged by the window. -/
theorem Lane.not_masked_or_absent (hm : (l.ax x).fb.maskSc = false) (hg : (l.scNoted x cs cc).hasSc x = true) :
    ¬ ((l.ax x).fb.maskSc = true ∨ (l.scNoted x cs cc).hasSc x = false) := by
  simp [hm, hg]

variable (hm : (l.ax x).fb.maskSc = false) (hg : (l.scNoted x cs cc).hasSc x = true)
include hm hg

/-- Inside the window a sample moves the tracker (R237). -/
theorem Lane.scSample_inside (h : ¬ l.scOutside x cs cc) :
    l.scSample x cs cc =
      let m := l.scNorm x cs cc
      let a := l.scNoted x cs cc
      ((a.setFb x { (l.ax x).fb with sc := a.scTracked x (l.ax x).fb.sc m.1 m.2.1 }).passThrough x).posSettle x :=
  (if_neg (Lane.not_masked_or_absent hm hg)).trans (if_neg h)

/-- Outside the window it is counted (R237). -/
theorem Lane.scSample_outside (h : l.scOutside x cs cc) :
    l.scSample x cs cc =
      (((l.scNoted x cs cc).scCounted x (l.ax x).fb (l.scLow x cs cc)).scJudged x ((l.ax x).fb.sc.nout + 1)).passThrough x :=
  (if_neg (Lane.not_masked_or_absent hm hg)).trans (if_pos h)

end

/-! ### POSADJ (R240, R246) -/

theorem Lane.posAdj_refused (v : Word) (h : l.rd (LE_STAT_STATE x) ≠ leOpen) : l.posAdj x v = l.owReject x := if_pos h

theorem Lane.posAdj_open (v : Word) (h : l.rd (LE_STAT_STATE x) = leOpen) :
    l.posAdj x v =
      let f := (l.ax x).fb
      let p := (Q.of f.tick).add (.of v.toInt)
      let a := l.setFb x { f with base := f.base + (p.raw - f.tick), tick := p.raw, pos := p.raw }
      (if p.ovf then a.posOvf x else a).each (List.range 4) (fun l n => l.cmpJudge x n) :=
  if_neg (fun hne => hne h)

/-! ### Readmission (R230) -/

theorem Lane.readmit_sinCos (h : l.cleanDone (l.ax x).fb.sc.clean = true) :
    l.readmit x .sinCos =
      let f := (l.ax x).fb
      (l.setFb x { f with sc := { f.sc with clean := none, started := false, nout := 0 } }).clr (FB_STAT_SCF x) := if_pos h

theorem Lane.readmit_sinCos_unclean (h : l.cleanDone (l.ax x).fb.sc.clean = false) : l.readmit x .sinCos = l :=
  if_neg (ne_true_of_eq_false h)

/-- A hall source whose fault is cleared: a neighbour is no longer barred, or the own group is no longer faulty. -/
def Lane.hallCleared (l : Lane) (x : Ax) : FbGroup → Lane
  | .nextNb => l.clr (FB_STAT_NBNB x)
  | .prevNb => l.clr (FB_STAT_NBPB x)
  | _ => (l.clr (FB_STAT_HF x)).passThrough x

/-- A hall source is readmitted with its clean ticks complete and a legal code on its lines. -/
theorem Lane.readmit_hall {g : FbGroup} (hg : g ≠ .sinCos) :
    l.readmit x g =
      let f := (l.ax x).fb
      if l.cleanDone (f.hall g).clean && (hallIdx (f.hall g).code).isSome then
        (l.setFb x (f.setHall g { f.hall g with clean := none })).hallCleared x g
      else l := by
  cases g with
  | sinCos => exact absurd rfl hg
  | halls => rfl
  | nextNb => rfl
  | prevNb => rfl

theorem Lane.readmit_hall_clean {g : FbGroup} (hg : g ≠ .sinCos) (hc : l.cleanDone ((l.ax x).fb.hall g).clean = true)
    (hl : (hallIdx ((l.ax x).fb.hall g).code).isSome = true) :
    l.readmit x g =
      (l.setFb x ((l.ax x).fb.setHall g { (l.ax x).fb.hall g with clean := none })).hallCleared x g := by
  rw [l.readmit_hall x hg]
  exact if_pos (by rw [hc, hl]; rfl)

theorem Lane.readmit_hall_unclean {g : FbGroup} (hg : g ≠ .sinCos)
    (h : l.cleanDone ((l.ax x).fb.hall g).clean = false ∨ (hallIdx ((l.ax x).fb.hall g).code).isSome = false) :
    l.readmit x g = l := by
  rw [l.readmit_hall x hg]
  refine if_neg (fun hb => ?_)
  obtain ⟨hc, hl⟩ := Bool.and_eq_true_iff.mp hb
  exact h.elim (fun h => ne_true_of_eq_false h hc) (fun h => ne_true_of_eq_false h hl)

/-! ### The commands -/

theorem exec_monitorConversion (s : State) (i : LaneId) (h : s.ready i (.domain .fb)) (n : Fin 16) (v : BitVec 16) :
    exec (.monitorConversion i n v) s = .next (s.setLane i ((s.lane i).monitor n v.toNat)) := State.actD_ready s i _ _ h

section
variable (s : State) (i : LaneId) (x : Ax) (h : s.ready i (.axis x .fb))
include h

theorem exec_adCntclr : exec (.adCntclr i x) s = .next (s.setLane i ((s.lane i).setReg (AD_CNT_CLIP x).addr 0#64)) :=
  State.accX_ready s i x _ _ _ h

theorem exec_fbCntclr : exec (.fbCntclr i x) s = .next (s.setLane i ((s.lane i).setReg (FB_CNT_ILL x).addr 0#64)) :=
  State.accX_ready s i x _ _ _ h

theorem exec_hallEdge (code raw : Fin 8) :
    exec (.hallEdge i x code raw) s = .next (s.setLane i ((s.lane i).hallEdge x code raw)) :=
  State.actPin_ready s i _ _ _ h.1 h.2

/-- The code and valid bit that the neighbour lane passes on are taken. -/
theorem exec_neighbourCode (n : Port) (code : Fin 8) (valid : Bool) (hl : s.linkFrom i n x = (code.val, valid)) :
    exec (.neighbourCode i x n code valid) s = .next (s.setLane i ((s.lane i).nbCode x n code valid)) :=
  (State.actX_ready s i x _ _ h).trans (congrArg (fun t => Host.Outcome.next (s.setLane i t)) (if_pos hl))

/-- A code or valid bit that it does not pass on is no change of them. -/
theorem exec_neighbourCode_ignored (n : Port) (code : Fin 8) (valid : Bool) (hl : s.linkFrom i n x ≠ (code.val, valid)) :
    exec (.neighbourCode i x n code valid) s = .next s :=
  (State.actX_ready s i x _ _ h).trans
    ((congrArg (fun t => Host.Outcome.next (s.setLane i t)) (if_neg hl)).trans (congrArg _ (s.setLane_lane i)))

theorem exec_sincosSample (cs cc : BitVec 16) :
    exec (.sincosSample i x cs cc) s = .next (s.setLane i ((s.lane i).scSample x cs.toInt cc.toInt)) := State.actX_ready s i x _ _ h

theorem exec_positionCompareTick : exec (.positionCompareTick i x) s = .next (s.setLane i ((s.lane i).posTick x)) :=
  State.actX_ready s i x _ _ h

theorem exec_compareWrite (n : Fin 4) (r : CmpReg) (v : Word) :
    exec (.compareWrite i x n r v) s = .next (s.setLane i ((s.lane i).cmpWrite x n r v)) := State.accX_ready s i x _ _ _ h

theorem exec_fbPosadjWrite (v : Word) : exec (.fbPosadjWrite i x v) s = .next (s.setLane i ((s.lane i).posAdj x v)) :=
  State.accX_ready s i x _ _ _ h

theorem exec_fbFltclr : exec (.fbFltclr i x) s = .next (s.setLane i ((s.lane i).fltClr x)) := State.accX_ready s i x _ _ _ h

theorem exec_readmission (g : FbGroup) : exec (.readmission i x g) s = .next (s.setLane i ((s.lane i).readmit x g)) :=
  State.actX_ready s i x _ _ h

end

/-- Where the feedback block takes no part, a hall edge leaves the raw lines of an axis that the part has. -/
theorem exec_hallEdge_away (s : State) (i : LaneId) (x : Ax) (code raw : Fin 8) (hp : s.part.hasLane i = true)
    (h : (s.lane i).clocks = false ∨ (s.lane i).domOn .fb = false ∨ (s.lane i).part.hasAxis x = false) :
    exec (.hallEdge i x code raw) s = .next (s.setLane i (if (s.lane i).part.hasAxis x then
      (s.lane i).setFb x { ((s.lane i).ax x).fb with raw := raw.val } else s.lane i)) := by
  refine State.actPin_kept s i _ _ _ hp ?_
  rcases h with h | h | h
  · simp [h]
  · simp [h]
  · simp [h]

/-- Settles O18: each command is the operation of the feedback block, case by case; elsewhere a hall edge leaves the raw lines. -/
theorem feedbackCommandsComplete : Obligations.FeedbackCommandsComplete := by
  unfold Obligations.FeedbackCommandsComplete
  intro s i
  refine ⟨fun hr => ?_, fun x hr => ?_, exec_hallEdge_away s i⟩
  · intro l
    refine ⟨fun n v hn => ?_, fun n v hn => ⟨exec_monitorConversion s i hr n v, l.rd_monitor v hn⟩⟩
    rw [exec_monitorConversion s i hr, Lane.monitor_absent _ _ hn, State.setLane_lane]
  · intro l f
    refine ⟨exec_adCntclr s i x hr, exec_fbCntclr s i x hr, fun code raw => ⟨fun hm hg => ?_, fun h => ?_⟩,
      fun c => ⟨exec_neighbourCode s i x hr .next c true, exec_neighbourCode s i x hr .next c false,
        exec_neighbourCode s i x hr .prev c true, exec_neighbourCode s i x hr .prev c false,
        fun n v => exec_neighbourCode_ignored s i x hr n c v⟩,
      fun cs cc => ⟨fun h => ?_, fun hm hg => ⟨fun hlow hhigh => ?_, fun hout => ?_⟩⟩, exec_positionCompareTick s i x hr,
      fun n v => ⟨exec_compareWrite s i x hr n .value v, exec_compareWrite s i x hr n .config v⟩,
      fun v => ⟨fun ho => ?_, fun ho => ?_⟩, exec_fbFltclr s i x hr, fun hc => ?_, fun hc => ?_,
      fun hc hl => ?_, fun hc hl => ?_, fun hc hl => ?_, fun g hg h => ?_⟩
    · rw [exec_hallEdge s i x hr, Lane.hallEdge_taken _ x _ _ hm hg]
      rfl
    · rw [exec_hallEdge s i x hr, Lane.hallEdge_noted _ x _ _ h]
      rfl
    · rw [exec_sincosSample s i x hr, Lane.scSample_noted h]
      rfl
    · rw [exec_sincosSample s i x hr, Lane.scSample_inside hm hg (not_or.mpr ⟨ne_true_of_eq_false hlow, hhigh⟩)]
      rfl
    · rw [exec_sincosSample s i x hr, Lane.scSample_outside hm hg hout]
      rfl
    · rw [exec_fbPosadjWrite s i x hr, Lane.posAdj_open _ x v ho]
    · rw [exec_fbPosadjWrite s i x hr, Lane.posAdj_refused _ x v ho]
    · rw [exec_readmission s i x hr, Lane.readmit_sinCos _ x hc]
    · rw [exec_readmission s i x hr, Lane.readmit_sinCos_unclean _ x hc, State.setLane_lane]
    · rw [exec_readmission s i x hr, Lane.readmit_hall_clean _ x (g := .halls) (by decide) hc hl]
      rfl
    · rw [exec_readmission s i x hr, Lane.readmit_hall_clean _ x (g := .nextNb) (by decide) hc hl]
      rfl
    · rw [exec_readmission s i x hr, Lane.readmit_hall_clean _ x (g := .prevNb) (by decide) hc hl]
      rfl
    · rw [exec_readmission s i x hr, Lane.readmit_hall_unclean _ x hg h, State.setLane_lane]

end Sys2Proof.Machine
end

section
/-!
SUPPORT. The commands of the sensor supplies: what each does, case by case (spec/06_feedback.md R248 to R254).
-/

namespace Sys2Proof.Machine

variable (l : Lane)

/-! ### Instants that have come -/

theorem Lane.due_of_le {t : Nat} (h : t ≤ l.now) : l.due t = true := decide_eq_true h

theorem Lane.not_due_of_lt {t : Nat} (h : l.now < t) : l.due t = false := decide_eq_false (Nat.not_le.mpr h)

/-! ### Overcurrent and undervoltage (R248) -/

theorem Lane.supplyUv_pulsing {k : Nat} (mv : Nat) (h : (l.sf.pulse k).isSome = true) : l.supplyUv k mv = l := by
  obtain ⟨p, hp⟩ := Option.isSome_iff_exists.mp h
  simp only [Lane.supplyUv, hp]

/-- The lane with a supply latched off by undervoltage (R248). -/
def Lane.uvLatched (l : Lane) (k mv : Nat) : Lane := ((l.wr (SF_SSMON_MV k) mv).set (ssStat k 2)).clr (ssStat k 0)

theorem Lane.supplyUv_steady {k : Nat} (mv : Nat) (h : l.sf.pulse k = none) :
    l.supplyUv k mv =
      let a := l.uvLatched k mv
      ((a.groupsFault (a.groupsOn k)).raise srcSF 2 clsUC none (a.dataOf (SF_SSMON_MV k).addr)).event 188 := by
  simp only [Lane.supplyUv, h]
  rfl

/-! ### Pulse slots (R250, R253) -/

theorem Lane.pulseStart_elsewhere {k : Nat} (h : l.atPulse k = false) : l.pulseStart k = l := if_pos h

section
variable {l} {k : Nat} (ht : l.atPulse k = true)
include ht

theorem Lane.pulseStart_own (ho : slotLane k = l.me.code) :
    l.pulseStart k =
      if l.on (SF_SSCFG_PULSE (slotSupply k)) = true ∧ l.on (ssStat (slotSupply k) 0) = true then
        (l.setPulse (slotSupply k) (some { slot := k, start := l.now })).each (l.groupsOn (slotSupply k)) Lane.maskOn
      else l :=
  (if_neg (fun h => ne_true_of_eq_false h ht)).trans (if_pos ho)

theorem Lane.pulseStart_other (ho : slotLane k ≠ l.me.code) :
    l.pulseStart k =
      if l.timeIsNetwork = true then { l with sf := { l.sf with other := some { slot := k, start := l.now } } } else l :=
  (if_neg (fun h => ne_true_of_eq_false h ht)).trans (if_neg ho)

end

/-- Away from its instant, on a supply that does not pulse or is not ON, and for another lane without network time, a slot does nothing. -/
theorem Lane.pulseStart_ignored {k : Nat} (h : l.atPulse k = false ∨
      (slotLane k = l.me.code ∧ (l.on (SF_SSCFG_PULSE (slotSupply k)) = false ∨ l.on (ssStat (slotSupply k) 0) = false)) ∨
      (slotLane k ≠ l.me.code ∧ l.timeIsNetwork = false)) : l.pulseStart k = l := by
  cases ht : l.atPulse k with
  | false => exact l.pulseStart_elsewhere ht
  | true =>
    rcases h with h | ⟨ho, h⟩ | ⟨ho, h⟩
    · exact absurd ht (ne_true_of_eq_false h)
    · rw [Lane.pulseStart_own ht ho]
      exact if_neg (fun ⟨hp, hs⟩ => h.elim (fun h => ne_true_of_eq_false h hp) (fun h => ne_true_of_eq_false h hs))
    · rw [Lane.pulseStart_other ht ho, if_neg (ne_true_of_eq_false h)]

/-! ### Pulse checks (R251, R254) -/

section
variable {l} {k : Nat} {p : Pulse} (hp : l.sf.pulse k = some p)
include hp

/-- The fall check wants less than 1.0 V. -/
theorem Lane.pulseCheck_fall (mv : Nat) (hd : p.start + 10 * usec ≤ l.now) :
    l.pulseCheck k false mv =
      let a := l.wr (SF_SSMON_MV k) mv
      if mv < 1000 then a.setPulse k (some { p with fell := true }) else a.pulseFail k := by
  simp only [Lane.pulseCheck, hp, Bool.false_eq_true, if_false, l.due_of_le hd, if_true]

/-- The recovery check wants more than 90 % of nominal, and proves a supply whose pulse fell and passed its cross-short check. -/
theorem Lane.pulseCheck_recovery (mv : Nat) (hd : p.start + 30 * usec ≤ l.now) :
    l.pulseCheck k true mv =
      let a := l.wr (SF_SSMON_MV k) mv
      if a.supplyMin k < mv then (if p.fell && p.crossOk then a.set (ssStat k 5) else a) else a.pulseFail k := by
  simp only [Lane.pulseCheck, hp, if_true, l.due_of_le hd]

/-- The mask of the groups of a pulse ends (R253). -/
theorem Lane.maskEnd_due (hd : p.start + 30 * usec ≤ l.now) :
    l.maskEnd k = (l.setPulse k none).each (l.groupsOn k) Lane.maskOff := by
  simp only [Lane.maskEnd, hp, l.due_of_le hd, if_true]

end

theorem Lane.pulseCheck_early {k : Nat} (recovery : Bool) (mv : Nat)
    (h : ∀ p, l.sf.pulse k = some p → l.now < p.start + (if recovery then 30 else 10) * usec) : l.pulseCheck k recovery mv = l := by
  cases hp : l.sf.pulse k with
  | none => simp only [Lane.pulseCheck, hp]
  | some p => simp only [Lane.pulseCheck, hp, l.not_due_of_lt (h p hp), Bool.false_eq_true, if_false]

theorem Lane.maskEnd_early {k : Nat} (h : ∀ p, l.sf.pulse k = some p → l.now < p.start + 30 * usec) : l.maskEnd k = l := by
  cases hp : l.sf.pulse k with
  | none => simp only [Lane.maskEnd, hp]
  | some p => simp only [Lane.maskEnd, hp, l.not_due_of_lt (h p hp), Bool.false_eq_true, if_false]

/-! ### Cross-short checks (R252) -/

/-- The pulse that a slot checks: the own one of its supply, or the one of another lane. -/
def Lane.slotPulse (l : Lane) (k : Nat) : Option Pulse := if slotLane k = l.me.code then l.sf.pulse (slotSupply k) else l.sf.other

section
variable {l} {k : Nat} {p : Pulse} (hs : p.slot = k) (hd : p.start + 15 * usec ≤ l.now)
include hs hd

theorem Lane.crossCheck_own (ho : slotLane k = l.me.code) (hp : l.sf.pulse (slotSupply k) = some p) :
    l.crossCheck k =
      let bad := l.crossBad true (slotSupply k)
      (l.setPulse (slotSupply k) (some { p with crossOk := decide (bad = []) })).each bad (fun l e => l.crossFail k e.1 e.2) := by
  simp only [Lane.crossCheck, decide_eq_true ho, if_true, hp, hs, l.due_of_le hd, and_self]

theorem Lane.crossCheck_other (ho : slotLane k ≠ l.me.code) (hp : l.sf.other = some p) :
    l.crossCheck k =
      Lane.each { l with sf := { l.sf with other := none } } (l.crossBad false (slotSupply k)) (fun l e => l.crossFail k e.1 e.2) := by
  simp only [Lane.crossCheck, decide_eq_false ho, Bool.false_eq_true, if_false, hp, hs, l.due_of_le hd, and_self, if_true]

end

/-- Without the pulse of its slot, or before it is due, the check does nothing. -/
theorem Lane.crossCheck_ignored {k : Nat} (h : ∀ p, l.slotPulse k = some p → p.slot ≠ k ∨ l.now < p.start + 15 * usec) :
    l.crossCheck k = l := by
  have hsel : (if decide (slotLane k = l.me.code) = true then l.sf.pulse (slotSupply k) else l.sf.other) = l.slotPulse k :=
    ite_congr decide_eq_true_eq (fun _ => rfl) (fun _ => rfl)
  cases hp : l.slotPulse k with
  | none => simp only [Lane.crossCheck, hsel, hp]
  | some p =>
    have hnot : ¬ (p.slot = k ∧ l.due (p.start + 15 * usec) = true) := fun ⟨hs, hd⟩ =>
      (h p hp).elim (fun h => h hs) (fun h => ne_true_of_eq_false (l.not_due_of_lt h) hd)
    simp only [Lane.crossCheck, hsel, hp, if_neg hnot]

/-! ### The commands -/

section
variable (s : State) (i : LaneId) (h : s.ready i (.domain .fb))
include h

theorem exec_supplyOvercurrent (k : Fin 2) (ma : BitVec 16) :
    exec (.supplyOvercurrent i k ma) s = .next (s.setLane i ((s.lane i).supplyOc k ma.toNat)) := State.actD_ready s i _ _ h

theorem exec_supplyUndervoltage (k : Fin 2) (mv : BitVec 16) :
    exec (.supplyUndervoltage i k mv) s = .next (s.setLane i ((s.lane i).supplyUv k mv.toNat)) := State.actD_ready s i _ _ h

theorem exec_sfSupplyClr (k : Fin 2) : exec (.sfSupplyClr i k) s = .next (s.setLane i ((s.lane i).supplyClr k)) :=
  State.accD_ready s i _ _ _ h

theorem exec_supplyPulseStart (slot : Fin 6) :
    exec (.supplyPulseStart i slot) s = .next (s.setLane i ((s.lane i).pulseStart slot)) := State.actD_ready s i _ _ h

theorem exec_pulseCheck (k : Fin 2) (recovery : Bool) (mv : BitVec 16) :
    exec (.pulseCheck i k recovery mv) s = .next (s.setLane i ((s.lane i).pulseCheck k recovery mv.toNat)) :=
  State.actD_ready s i _ _ h

theorem exec_crossShortCheck (slot : Fin 6) :
    exec (.crossShortCheck i slot) s = .next (s.setLane i ((s.lane i).crossCheck slot)) := State.actD_ready s i _ _ h

theorem exec_pulseMaskEnd (k : Fin 2) : exec (.pulseMaskEnd i k) s = .next (s.setLane i ((s.lane i).maskEnd k)) :=
  State.actD_ready s i _ _ h

end

/-- Settles O19: each command is the operation of the supplies, case by case; a check or an end acts on its pulse when it is due. -/
theorem sensorSupplyCommandsComplete : Obligations.SensorSupplyCommandsComplete := by
  unfold Obligations.SensorSupplyCommandsComplete
  intro s i hr l
  refine ⟨exec_supplyOvercurrent s i hr, fun k mv h => ?_, fun k mv h => ?_, exec_sfSupplyClr s i hr,
    fun slot => ⟨fun ht ho hp hs => ?_, fun ht ho hn => ?_, fun h => ?_⟩,
    fun k mv p hp => ⟨fun hd => ⟨fun hv => ?_, fun hv => ?_⟩,
      fun hd => ⟨fun hv hf hc => ?_, fun hv hf => ?_, fun hv => ?_⟩, fun hd => ?_⟩,
    fun k => ⟨fun h mv => ?_, fun h => ⟨fun mv => ?_, ?_⟩⟩, fun slot p ho hp hs hd => ?_, fun slot p ho hp hs hd => ?_,
    fun slot h => ?_⟩
  · rw [exec_supplyUndervoltage s i hr, Lane.supplyUv_pulsing _ _ h, State.setLane_lane]
  · rw [exec_supplyUndervoltage s i hr, Lane.supplyUv_steady _ _ h]
    rfl
  · rw [exec_supplyPulseStart s i hr, Lane.pulseStart_own ht ho, if_pos ⟨hp, hs⟩]
  · rw [exec_supplyPulseStart s i hr, Lane.pulseStart_other ht ho, if_pos hn]
  · rw [exec_supplyPulseStart s i hr, Lane.pulseStart_ignored _ h, State.setLane_lane]
  · rw [exec_pulseCheck s i hr, Lane.pulseCheck_fall hp _ hd]
    exact congrArg (fun t => Host.Outcome.next (s.setLane i t)) (if_pos hv)
  · rw [exec_pulseCheck s i hr, Lane.pulseCheck_fall hp _ hd]
    exact congrArg (fun t => Host.Outcome.next (s.setLane i t)) (if_neg (Nat.not_lt.mpr hv))
  · rw [exec_pulseCheck s i hr, Lane.pulseCheck_recovery hp _ hd]
    exact congrArg (fun t => Host.Outcome.next (s.setLane i t)) ((if_pos hv).trans (if_pos (by rw [hf, hc]; rfl)))
  · have hno : ¬ (p.fell && p.crossOk) = true := by
      rcases hf with h | h
      · simp [h]
      · simp [h]
    rw [exec_pulseCheck s i hr, Lane.pulseCheck_recovery hp _ hd]
    exact congrArg (fun t => Host.Outcome.next (s.setLane i t)) ((if_pos hv).trans (if_neg hno))
  · rw [exec_pulseCheck s i hr, Lane.pulseCheck_recovery hp _ hd]
    exact congrArg (fun t => Host.Outcome.next (s.setLane i t)) (if_neg (Nat.not_lt.mpr hv))
  · rw [exec_pulseMaskEnd s i hr, Lane.maskEnd_due hp hd]
  · rw [exec_pulseCheck s i hr, Lane.pulseCheck_early _ false _ h, State.setLane_lane]
  · rw [exec_pulseCheck s i hr, Lane.pulseCheck_early _ true _ h, State.setLane_lane]
  · rw [exec_pulseMaskEnd s i hr, Lane.maskEnd_early _ h, State.setLane_lane]
  · rw [exec_crossShortCheck s i hr, Lane.crossCheck_own hs hd ho hp]
  · rw [exec_crossShortCheck s i hr, Lane.crossCheck_other hs hd ho hp]
  · rw [exec_crossShortCheck s i hr, Lane.crossCheck_ignored _ h, State.setLane_lane]

end Sys2Proof.Machine
end

section
/-!
SUPPORT. Rollbacks: which mismatch is rolled back, and what the third within 10 ms does (spec/07_paired_execution.md R272 to R276;
spec/09_fault_collection.md R319, R320, R326).
-/

namespace Sys2Proof.Machine

/-! ### The core -/

theorem Lane.pairLives_iff (l : Lane) : l.pairLives = true ↔ l.pc.core = .running ∨ l.pc.core = .halted := by
  simp [Lane.pairLives]

/-- A pair that does not execute neither runs nor is held by the debugger. -/
theorem Lane.pairLives_eq_false (l : Lane) : l.pairLives = false ↔ l.pc.core ≠ .running ∧ l.pc.core ≠ .halted := by
  simp [Lane.pairLives]

theorem Lane.not_pairLives_of_dump {l : Lane} (h : l.pc.core = .dump) : l.pairLives = false := by
  simp [Lane.pairLives, h]

/-! ### Messages -/

/-- A message carries the class it was raised with. -/
theorem Lane.msgClass_mkMsg (l : Lane) (src kind : Nat) {cls : Nat} (x : Option Ax) (data : Nat) (h : cls < 4) :
    msgClass (l.mkMsg src kind cls x data) = cls := by
  have hcode : l.me.code < 4 := by cases l.me <;> decide
  unfold msgClass Lane.mkMsg
  rw [getBits_eq, BitVec.toNat_ofNat]
  cases x with
  | none =>
    dsimp only
    omega
  | some y =>
    have hidx : y.idx < 2 := by cases y <;> decide
    dsimp only
    omega

/-- An FT message waits at the collector at once (R320). -/
theorem Lane.wait_raise_ft (l : Lane) (src kind : Nat) (x : Option Ax) (data : Nat) :
    (l.raise src kind clsFT x data).fc.wait = l.fc.wait ++ [⟨l.mkMsg src kind clsFT x data, false⟩] := by
  have hcls : msgClass (l.mkMsg src kind clsFT x data) = clsFT := l.msgClass_mkMsg src kind x data (by decide)
  rw [Lane.raise, Lane.present_waits]
  rw [hcls]
  decide

/-- A message made after another was raised is what it would have been before. -/
theorem Lane.mkMsg_raise (l : Lane) (src kind cls : Nat) (x : Option Ax) (data : Nat) (src' kind' cls' : Nat) (x' : Option Ax) (data' : Nat) :
    (l.raise src kind cls x data).mkMsg src' kind' cls' x' data' = l.mkMsg src' kind' cls' x' data' := by
  unfold Lane.mkMsg
  rw [Lane.raise_me]

/-- An FT message that waits alone, and is not suppressed, is latched and has the fatal reaction at its acceptance (R319, R324, R326). -/
theorem Lane.acceptMsg_single_ft {l : Lane} {m : Msg} (hw : l.fc.wait = [m]) (ha : l.accDone = false)
    (hc : msgClass m.bits = clsFT) (hs : m.supp = false) :
    l.acceptMsg = (({ l with fc := { l.fc with wait := [] } }).latchMsg m.bits).fatal m.bits := by
  have hnext : nextMsg [m] = some (m, []) := rfl
  have htaken : takenClass m.bits = clsFT := by
    rw [takenClass, hc]
    rfl
  simp only [Lane.acceptMsg, ha, hw, hnext, htaken, hs, Bool.false_eq_true, if_false, and_self, if_true]

/-- The collector of a lane in operation takes the next message. -/
theorem exec_faultMessageAccept (s : State) (i : LaneId) (h : s.ready i (.domain .cp)) (hroot : (s.lane i).pw.rootLost = false) :
    exec (.faultMessageAccept i) s = .next (s.setLane i (s.lane i).acceptMsg) := by
  have hgate : Gate.collector.holds (s.lane i) = true := by
    have hcp := h.2
    simp only [Gate.holds, Lane.clocked, Bool.and_eq_true] at hcp ⊢
    obtain ⟨⟨hheld, hstop⟩, hon⟩ := hcp
    simp [hheld, hstop, hon]
  calc exec (.faultMessageAccept i) s
      = .next (s.inLane i (fun l => if l.pw.rootLost then l.acceptLpo else l.acceptMsg)) :=
        (execFaultMessageAccept_gate s i).trans (congrArg Host.Outcome.next (State.onLane_ready s i .collector _ ⟨h.1, hgate⟩))
    _ = .next (s.setLane i (s.lane i).acceptMsg) := by simp [State.inLane, hroot]

/-- A lane replaced twice is the one put there last. -/
theorem State.setLane_setLane (s : State) (i : LaneId) (k l : Lane) : (s.setLane i k).setLane i l = s.setLane i l := by
  cases i <;> rfl

/-! ### Commands whose outcome is known -/

/-- A command that needs the lane's clocks, where its operation gives a lane. -/
theorem State.act_to {s : State} {i : LaneId} {f : Lane → Lane} {t : Lane} (h : s.ready i .clocked) (hf : f (s.lane i) = t) :
    s.act i f = .next (s.setLane i t) := by
  rw [State.act_ready s i f h, State.inLane, hf]

/-- The same where the operation leaves the lane as it is. -/
theorem State.act_ignored {s : State} {i : LaneId} {f : Lane → Lane} (h : s.ready i .clocked) (hf : f (s.lane i) = s.lane i) :
    s.act i f = .next s := by
  rw [State.act_to h hf, State.setLane_lane]

/-- A command of a domain, where its operation gives a lane. -/
theorem State.actD_to {s : State} {i : LaneId} {d : Dom} {f : Lane → Lane} {t : Lane} (h : s.ready i (.domain d))
    (hf : f (s.lane i) = t) : s.actD i d f = .next (s.setLane i t) := by
  rw [State.actD_ready s i d f h, State.inLane, hf]

/-- The same where the operation leaves the lane as it is. -/
theorem State.actD_ignored {s : State} {i : LaneId} {d : Dom} {f : Lane → Lane} (h : s.ready i (.domain d))
    (hf : f (s.lane i) = s.lane i) : s.actD i d f = .next s := by
  rw [State.actD_to h hf, State.setLane_lane]

/-! ### A mismatch -/

/-- A mismatch while JOINED and executing is rolled back once a commit in progress has ended (R272, R276). -/
theorem Lane.mismatch_joined {l : Lane} (p : Nat) (slot : Bool) (r : Nat) (a : Word) (hj : l.on PC_STAT_PAIR = false)
    (hl : l.pairLives = true) : l.mismatch p slot r a = l.midDone.rollback p slot r a := by
  rcases l.pairLives_iff.mp hl with hc | hc <;> simp [Lane.mismatch, hj, hc]

/-- A mismatch in the dump context hands over to the dump engine (R340). -/
theorem Lane.mismatch_dump {l : Lane} (p : Nat) (slot : Bool) (r : Nat) (a : Word) (hj : l.on PC_STAT_PAIR = false)
    (hc : l.pc.core = .dump) : l.mismatch p slot r a = l.dcxHand 3 := by
  simp [Lane.mismatch, hj, hc]

theorem Lane.mismatch_split {l : Lane} (p : Nat) (slot : Bool) (r : Nat) (a : Word) (h : l.on PC_STAT_PAIR = true) :
    l.mismatch p slot r a = l := if_pos h

theorem Lane.mismatch_idle {l : Lane} (p : Nat) (slot : Bool) (r : Nat) (a : Word) (hl : l.pairLives = false)
    (hd : l.pc.core ≠ .dump) : l.mismatch p slot r a = l := by
  obtain ⟨hr, hh⟩ := l.pairLives_eq_false.mp hl
  unfold Lane.mismatch
  split
  · rfl
  · cases hc : l.pc.core with
    | running => exact absurd hc hr
    | halted => exact absurd hc hh
    | dump => exact absurd hc hd
    | held => rfl
    | stopped => rfl

theorem exec_pairMismatch (s : State) (i : LaneId) (p : Fin 5) (slot : Bool) (r : Fin 128) (a : Word) (h : s.ready i (.domain .cp)) :
    exec (.pairMismatch i p slot r a) s = .next (s.setLane i ((s.lane i).mismatch p slot r a)) := State.actD_ready s i .cp _ h

/-! ### The third rollback within 10 ms -/

/-- What every mismatch that is rolled back does: its record, the undoing and the notes (R273). -/
def Lane.rolledBack (l : Lane) (p : Nat) (slot : Bool) (r : Nat) (a : Word) : Lane :=
  (l.mismatchNote p slot r a).rollUndo.rollNote p

/-- What PC_ROLLFATAL carries: the point of the mismatch and the count of rollbacks. -/
def Lane.rollFatalData (l : Lane) (p : Nat) : Nat := p + l.rd PC_RBCNT_TOTAL * 256

/-- The third rollback within 10 ms stops the pair and raises PC_ROLLFATAL (R275). -/
theorem Lane.rollback_fatal {l : Lane} (p : Nat) (slot : Bool) (r : Nat) (a : Word) (h : l.rollFatal = true) :
    l.rollback p slot r a =
      let k := l.rolledBack p slot r a
      ({ k with pc := { k.pc with core := .stopped } }).raise srcPC 2 clsFT none (k.rollFatalData p) := if_pos h

theorem Lane.rollFatal_of_times {l : Lane} {t1 t : Nat} (ht : l.pc.rbTimes = [t1, t]) (h : l.now ≤ t + 10 * msec) :
    l.rollFatal = true := by
  rw [Lane.rollFatal, ht]
  exact decide_eq_true h

/-- Settles O46: the third rollback raises its FT past the messages held for a commit, and the collector latches it first. -/
theorem thirdRollbackIsFatal : Obligations.ThirdRollbackIsFatal := by
  unfold Obligations.ThirdRollbackIsFatal
  intro s i p slot r a t1 t hr l hj hc hrb hnow
  have hfatal : l.midDone.rollFatal = true := Lane.rollFatal_of_times hrb hnow
  generalize hk : l.midDone.rolledBack p slot r a = k
  generalize hx : ({ k with pc := { k.pc with core := .stopped } } : Lane) = x
  have hstopped : x.pc.core = .stopped := by rw [← hx]
  have hroll : l.mismatch p slot r a = x.raise srcPC 2 clsFT none (k.rollFatalData p) := by
    rw [Lane.mismatch_joined _ _ _ _ hj (l.pairLives_iff.mpr hc), Lane.rollback_fatal _ _ _ _ hfatal, hk, ← hx]
  refine ⟨x.raise srcPC 2 clsFT none (k.rollFatalData p), x.fc.wait, k.rollFatalData p, ?_, ?_, ?_, fun hw hroot hacc hready => ?_⟩
  · rw [exec_pairMismatch s i p slot r a hr]
    exact congrArg (fun u => Host.Outcome.next (s.setLane i u)) hroll
  · rw [Lane.raise_pc, hstopped]
  · rw [Lane.mkMsg_raise, Lane.wait_raise_ft]
  · have hone := x.wait_raise_ft srcPC 2 none (k.rollFatalData p)
    rw [hw, List.nil_append, ← x.mkMsg_raise srcPC 2 clsFT none (k.rollFatalData p)] at hone
    rw [exec_faultMessageAccept _ i hready (by rw [State.lane_setLane]; exact hroot), State.lane_setLane, State.setLane_setLane,
      Lane.acceptMsg_single_ft hone hacc (Lane.msgClass_mkMsg _ _ _ _ _ (by decide)) rfl]

end Sys2Proof.Machine
end

section
/-!
SUPPORT. The accesses of the core and of the debugger: what a write at each kind of place does, and which way an access takes
(spec/07_paired_execution.md R265; spec/18_address_map.md R577 to R579; spec/13_power_clocks_wake.md R450;
spec/14_self_test_lifecycle.md R476).
-/

namespace Sys2Proof.Machine

variable (l : Lane)

/-! ### A write that takes effect now -/

/-- What a write does at the place it reaches. -/
def Lane.writeAt (l : Lane) (p : Place) (a n : Nat) (v : Word) : Lane :=
  match p with
  | .tcm => l.setBytes a (leBytes n v.toNat)
  | .storage => l.storageReject
  | .mram => l.mramWrite a n v
  | .window w => l.winWrite w a n v
  | .table x => l.leOwWrite x a n v
  | .reg b x _ => l.regWrite b x (a % 0x10000) a n v
  | .half b x at_ => l.halfWrite b x at_ v
  | .nothing => l

/-- An access that no region takes ends with a bus error (R578). -/
theorem Lane.devWrite_no_place {a n : Nat} (v : Word) (h : l.place a n = none) : l.devWrite a n v = l.busError := by
  simp [Lane.devWrite, h]

/-- A write in a domain that is not ON waits, or is an off-access (R450). -/
theorem Lane.devWrite_down {a n : Nat} (v : Word) {p : Place} {d : Dom} (hp : l.place a n = some p) (hd : l.downAt a p = some d) :
    l.devWrite a n v = { l with busErr := false }.downAccess d (wrAcc a n v) := by
  have hd' : { l with busErr := false }.downAt a p = some d := hd
  simp [Lane.devWrite, hp, hd']

/-- Any other write acts at its place, after it has stopped a slice of the memory it touches (R489). -/
theorem Lane.devWrite_place {a n : Nat} (v : Word) {p : Place} (hp : l.place a n = some p) (hd : l.downAt a p = none) :
    l.devWrite a n v = ({ l with busErr := false }.accessed a n).writeAt p a n v := by
  have hd' : { l with busErr := false }.downAt a p = none := hd
  simp only [Lane.devWrite, hp, hd']
  cases p <;> rfl

/-! ### A write that the core issues -/

theorem Lane.coreWrite_lives {l : Lane} (a n : Nat) (v : Word) (h : l.pairLives = true) :
    l.coreWrite a n v = l.coreStore drainClean a n v := by
  rcases l.pairLives_iff.mp h with hc | hc <;> simp [Lane.coreWrite, hc]

theorem Lane.coreWrite_dump {l : Lane} (a n : Nat) (v : Word) (h : l.pc.core = .dump) : l.coreWrite a n v = l.dumpWrite a n v := by
  simp [Lane.coreWrite, h]

theorem Lane.coreWrite_idle {l : Lane} (a n : Nat) (v : Word) (hl : l.pairLives = false) (hd : l.pc.core ≠ .dump) :
    l.coreWrite a n v = l := by
  obtain ⟨hr, hh⟩ := l.pairLives_eq_false.mp hl
  unfold Lane.coreWrite
  cases hc : l.pc.core with
  | running => exact absurd hc hr
  | halted => exact absurd hc hh
  | dump => exact absurd hc hd
  | held => rfl
  | stopped => rfl

/-- A store while no commit is in progress finds room, and enters the buffer (R265). -/
theorem Lane.coreStore_room {l : Lane} (e : DrainEcc) {a n : Nat} (v : Word) (hp : (l.place a n).isSome = true)
    (hl : l.pairLives = true) (hm : l.pc.mid = none) (hf : l.bufferFull a = false) :
    l.coreStore e a n v = Lane.storeIn { l with busErr := false } a n v := by
  simp [Lane.coreStore, Option.isSome_iff_ne_none.mp hp, hl, hm, hf]

/-! ### The commands -/

section
variable (s : State) (i : LaneId) (h : s.ready i (.domain .cp))
include h

theorem exec_registerWrite_core (a n : Nat) (v : Word) :
    exec (.registerWrite i true a n v) s = .next (s.setLane i ((s.lane i).coreWrite a n v)) := State.actD_ready s i .cp _ h

/-- In the life-cycle states that grant core debug, a request acts on the core. -/
theorem exec_coreDebug_open (op : DebugOp) (ho : (s.lane i).debugOpen = true) :
    exec (.coreDebug i op) s = .next (s.setLane i ((s.lane i).debug op)) :=
  State.actD_to h (if_pos ho)

/-- In any other life-cycle state it changes nothing. -/
theorem exec_coreDebug_shut (op : DebugOp) (ho : ¬ (s.lane i).debugOpen = true) : exec (.coreDebug i op) s = .next s :=
  State.actD_ignored h (if_neg ho)

/-- A request that leaves the core as it is changes nothing. -/
theorem exec_coreDebug_same {op : DebugOp} (ho : (s.lane i).debugOpen = true) (hs : (s.lane i).debug op = s.lane i) :
    exec (.coreDebug i op) s = .next s := by
  rw [exec_coreDebug_open s i h op ho, hs, State.setLane_lane]

end

/-- Settles O25: a write at each kind of place, on the bus and by the core, and the requests of the debugger in each state of the core. -/
theorem accessCommandsComplete : Obligations.AccessCommandsComplete := by
  unfold Obligations.AccessCommandsComplete
  intro s i hr l
  have hopen : l.debugOpen = true ↔ l.rd LC_STAT_STATE = 0 ∨ l.rd LC_STAT_STATE = 1 ∨ l.rd LC_STAT_STATE = 3 := by
    simp [l.debugOpen_iff]
  refine ⟨fun a n v => ⟨fun hp => ?_, fun p d hp hd => ?_, fun p hp hd => ?_, fun hl => ?_, fun hp hl hm hf => ?_, fun hc => ?_,
    fun hl hc => ?_⟩, fun hn op => exec_coreDebug_shut s i hr op (mt hopen.mp hn), fun ho => ?_⟩
  · rw [exec_registerWrite_bus s i a n v hr, Lane.devWrite_no_place _ v hp]
    rfl
  · rw [exec_registerWrite_bus s i a n v hr, Lane.devWrite_down _ v hp hd]
  · have hw := exec_registerWrite_bus s i a n v hr
    rw [Lane.devWrite_place _ v hp hd] at hw
    refine ⟨?_, ?_, ?_, fun w => ?_, fun x => ?_, fun b x d => ?_, fun b x w => ?_, ?_⟩ <;>
    · rintro rfl
      exact hw
  · rw [exec_registerWrite_core s i hr, Lane.coreWrite_lives a n v hl]
  · rw [exec_registerWrite_core s i hr, Lane.coreWrite_lives a n v hl, Lane.coreStore_room _ v hp hl hm hf]
  · rw [exec_registerWrite_core s i hr, Lane.coreWrite_dump a n v hc]
  · rw [exec_registerWrite_core s i hr, Lane.coreWrite_idle a n v hl hc, State.setLane_lane]
  · have hdo := fun op => exec_coreDebug_open s i hr op (hopen.mpr ho)
    have hsame := fun {op} => exec_coreDebug_same s i hr (op := op) (hopen.mpr ho)
    refine ⟨fun hc => ?_, fun hc => hsame (if_neg hc), fun hc => hsame (if_neg hc), fun hc a n v => ⟨?_, fun hd => ?_, fun hd => ?_⟩,
      fun hc => ?_, hsame rfl, fun hc a n v => ⟨?_, ?_⟩⟩
    · rw [hdo, Lane.debug, if_pos hc]
    · rw [hdo, Lane.debug, if_neg hc]
    · rw [hdo, Lane.debug, if_neg hc, if_pos hd]
    · rw [hdo, Lane.debug, if_neg hc, if_neg hd]
    · rw [hdo, Lane.debug, if_pos hc]
    · rw [hdo, Lane.debug, if_pos hc]
    · rw [hdo, Lane.debug, if_pos hc]

end Sys2Proof.Machine
end

section
/-!
SUPPORT. Commits, intermediate commits, SPLIT and REJOIN of the paired cores (spec/07_paired_execution.md R263 to R271, R279 to R283).
-/

namespace Sys2Proof.Machine

/-! ### The drain of a commit -/

/-- The entries that a commit drains before an uncorrectable error, and those that such an error leaves (R267). -/
def Lane.drainParts (m : Lane) (e : DrainEcc) : List (Nat × Store) × List (Nat × Store) := drainSplit m.drainLeft e.failed

/-- The entries that leave the buffer before a pause. -/
def Lane.drainTaken (m : Lane) (e : DrainEcc) : List (Nat × Store) :=
  match e.pause with
  | some n => (m.drainParts e).1.take n
  | none => (m.drainParts e).1

/-- The lane after they have left. -/
def Lane.drainedLane (m : Lane) (e : DrainEcc) : Lane :=
  (({ m with pc := { m.pc with drained := m.pc.drained ++ (m.drainTaken e).map Prod.fst } }).drainNote (m.drainTaken e) e.corrected).drain
    (m.drainTaken e)

/-- How a commit ends whose entries have left: with the entries that an uncorrectable error leaves, or whole (R267). -/
def Lane.drainClose (d : Lane) (c : Commit) : List (Nat × Store) → Lane
  | (k, _) :: _ => ({ d with pc := { d.pc with mid := none, core := .stopped } }).raise srcPC 3 clsFT none k
  | [] => d.commitEnd c

/-- The three ways out of a drain: the lane has entered BOOT, a pause leaves entries, or the commit ends. -/
theorem Lane.commitDrain_eq (m : Lane) (c : Commit) (e : DrainEcc) :
    m.commitDrain c e =
      let d := m.drainedLane e
      if d.sy.boots ≠ m.sy.boots then d
      else if (m.drainTaken e).length < (m.drainParts e).1.length then { d with pc := { d.pc with mid := some c } }
      else d.drainClose c (m.drainParts e).2 := rfl

variable {m : Lane} {c : Commit} {e : DrainEcc}

theorem Lane.commitDrain_boot (h : (m.drainedLane e).sy.boots ≠ m.sy.boots) : m.commitDrain c e = m.drainedLane e := by
  rw [Lane.commitDrain_eq]
  exact if_pos h

theorem Lane.commitDrain_paused (h : (m.drainedLane e).sy.boots = m.sy.boots)
    (hp : (m.drainTaken e).length < (m.drainParts e).1.length) :
    m.commitDrain c e = { m.drainedLane e with pc := { (m.drainedLane e).pc with mid := some c } } := by
  rw [Lane.commitDrain_eq]
  exact (if_neg (not_not_intro h)).trans (if_pos hp)

theorem Lane.commitDrain_through (h : (m.drainedLane e).sy.boots = m.sy.boots)
    (hp : (m.drainParts e).1.length ≤ (m.drainTaken e).length) :
    m.commitDrain c e = (m.drainedLane e).drainClose c (m.drainParts e).2 := by
  rw [Lane.commitDrain_eq]
  exact (if_neg (not_not_intro h)).trans (if_neg (Nat.not_lt.mpr hp))

/-! ### Which commits are taken -/

/-- A commit goes on where one is in progress, and otherwise starts with its marks (R266, R271). -/
theorem Lane.commitRun_from {l : Lane}
    (h : (l.pc.mid = some c ∧ m = l) ∨ (l.pc.mid = none ∧ c = l.commitOpen true ∧ m = l.commitMark true)) (e : DrainEcc) :
    l.commitRun true e = m.commitDrain c e := by
  rcases h with ⟨hm, rfl⟩ | ⟨hm, rfl, rfl⟩ <;> simp [Lane.commitRun, hm]

theorem Lane.commitBoundary_taken {l : Lane} (h : l.commits = true) (e : DrainEcc) : l.commitBoundary e = l.commitRun true e := if_pos h

theorem Lane.commitBoundary_untaken {l : Lane} (h : l.commits = false) (e : DrainEcc) : l.commitBoundary e = l :=
  if_neg (ne_true_of_eq_false h)

theorem Lane.cycled_of_commits {l : Lane} (h : l.commits = true) : l.sy.cycled = true := by
  simp only [Lane.commits, Bool.and_eq_true] at h
  exact h.2

/-! ### A store that needs an intermediate commit -/

/-- Whether a store calls for an intermediate commit: one of a place, that finds the buffer full or a commit in progress (R266). -/
def Lane.callsCommit (l : Lane) (a n : Nat) : Prop := l.commits ∧ (l.place a n).isSome ∧ (l.pc.mid.isSome ∨ l.bufferFull a)

/-- Such a store gets its commit first; what it does then depends on what the commit leaves. -/
theorem Lane.coreStore_commits {l : Lane} {a n : Nat} (e : DrainEcc) (v : Word) (h : l.callsCommit a n) :
    l.coreStore e a n v =
      let k := l.commitRun false e
      if k.pc.mid.isSome || !k.pairLives || k.bufferFull a then k else Lane.storeIn { k with busErr := false } a n v := by
  obtain ⟨hc, hp, hneed⟩ := h
  have hrun : (l.pc.mid.isSome || (l.bufferFull a && l.sy.cycled)) = true := by
    rw [Lane.cycled_of_commits hc, Bool.and_true, Bool.or_eq_true]
    exact hneed
  have hplace : ¬ (l.place a n).isNone = true := by
    rw [Option.isNone_iff_eq_none]
    exact Option.isSome_iff_ne_none.mp hp
  rw [Lane.coreStore, if_neg hplace, if_pos hrun]

/-- It enters the buffer if the pair still lives and there is room (R266). -/
theorem Lane.coreStore_enters {l : Lane} {a n : Nat} (v : Word) (h : l.callsCommit a n) (hm : (l.commitRun false e).pc.mid = none)
    (hl : (l.commitRun false e).pairLives = true) (hf : (l.commitRun false e).bufferFull a = false) :
    l.coreStore e a n v = Lane.storeIn { l.commitRun false e with busErr := false } a n v := by
  rw [Lane.coreStore_commits e v h]
  exact if_neg (by simp [hm, hl, hf])

theorem Lane.coreStore_left_out {l : Lane} {a n : Nat} (v : Word) (h : l.callsCommit a n)
    (hk : (l.commitRun false e).pc.mid.isSome = true ∨ (l.commitRun false e).pairLives = false ∨
      (l.commitRun false e).bufferFull a = true) : l.coreStore e a n v = l.commitRun false e := by
  rw [Lane.coreStore_commits e v h]
  exact if_pos (by simpa [or_assoc] using hk)

/-! ### SPLIT and REJOIN -/

/-- The requests of a commit as taken: none is left. -/
def Lane.requestsTaken (l : Lane) : Lane := { l with pc := { l.pc with reqSplit := false, reqRejoin := false } }

/-- A REJOIN that waits is taken, with a SPLIT or without (R283). -/
theorem Lane.pairApply_rejoin {l : Lane} (h : l.pc.reqRejoin = true) : l.pairApply = l.requestsTaken.pairRejoin := if_pos h

theorem Lane.pairApply_split {l : Lane} (h : l.pc.reqRejoin = false) (hs : l.pc.reqSplit = true) :
    l.pairApply = l.requestsTaken.pairSplit := (if_neg (ne_true_of_eq_false h)).trans (if_pos hs)

theorem Lane.pairSplit_allowed {l : Lane} (hj : l.on PC_STAT_PAIR = false) (hm : l.maySplit = true) : l.pairSplit = l.pairSet true :=
  if_pos ⟨hj, hm⟩

theorem Lane.pairSplit_ignored {l : Lane} (h : l.on PC_STAT_PAIR = true ∨ l.maySplit = false) :
    l.pairSplit = l.pairIgnored PC_STAT_SPLITREJ :=
  if_neg fun ⟨hj, hm⟩ => h.elim (fun h => ne_true_of_eq_false hj h) (fun h => ne_true_of_eq_false h hm)

theorem Lane.pairRejoin_allowed {l : Lane} (hs : l.on PC_STAT_PAIR = true) (ht : l.on PC_STAT_SHBIST = false)
    (hk : l.pc.shadowOk = true) : l.pairRejoin = l.pairSet false := if_pos ⟨hs, ht, hk⟩

theorem Lane.pairRejoin_ignored {l : Lane} (h : l.on PC_STAT_PAIR = false ∨ l.on PC_STAT_SHBIST = true ∨ l.pc.shadowOk = false) :
    l.pairRejoin = l.pairIgnored PC_STAT_REJREJ := by
  refine if_neg fun ⟨hs, ht, hk⟩ => ?_
  rcases h with h | h | h
  · exact ne_true_of_eq_false h hs
  · exact ne_true_of_eq_false ht h
  · exact ne_true_of_eq_false h hk

/-! ### The commands -/

section
variable (s : State) (i : LaneId)

theorem exec_boundaryCommit (h : s.ready i .clocked) (e : DrainEcc) :
    exec (.boundaryCommit i e) s = .next (s.setLane i ((s.lane i).commitBoundary e)) := State.act_ready s i _ h

theorem exec_intermediateCommit (h : s.ready i .clocked) (e : DrainEcc) {a n : Nat} (v : Word) (hc : (s.lane i).callsCommit a n) :
    exec (.intermediateCommit i e a n v) s = .next (s.setLane i ((s.lane i).coreStore e a n v)) := State.act_to h (if_pos hc)

theorem exec_intermediateCommit_ignored (h : s.ready i .clocked) (e : DrainEcc) {a n : Nat} (v : Word)
    (hc : ¬ (s.lane i).callsCommit a n) : exec (.intermediateCommit i e a n v) s = .next s := State.act_ignored h (if_neg hc)

variable (h : s.ready i (.domain .cp))
include h

theorem exec_pcRejoin (hc : (s.lane i).commits = true) :
    exec (.pcRejoin i) s = .next (s.setLane i (s.lane i).requestsTaken.pairRejoin) :=
  State.actD_to h ((if_pos hc).trans (Lane.pairApply_rejoin rfl))

theorem exec_pcSplit_alone (hc : (s.lane i).commits = true) (hr : (s.lane i).pc.reqRejoin = false) :
    exec (.pcSplit i) s = .next (s.setLane i (s.lane i).requestsTaken.pairSplit) :=
  State.actD_to h ((if_pos hc).trans (Lane.pairApply_split hr rfl))

/-- A SPLIT released with a REJOIN is taken as REJOIN (R283). -/
theorem exec_pcSplit_with_rejoin (hc : (s.lane i).commits = true) (hr : (s.lane i).pc.reqRejoin = true) :
    exec (.pcSplit i) s = exec (.pcRejoin i) s := by
  have hsplit : exec (.pcSplit i) s = .next (s.setLane i (s.lane i).requestsTaken.pairRejoin) :=
    State.actD_to h ((if_pos hc).trans (Lane.pairApply_rejoin hr))
  rw [hsplit, exec_pcRejoin s i h hc]

theorem exec_pcSplit_untaken (hc : (s.lane i).commits = false) : exec (.pcSplit i) s = .next s :=
  State.actD_ignored h (if_neg (ne_true_of_eq_false hc))

theorem exec_pcRejoin_untaken (hc : (s.lane i).commits = false) : exec (.pcRejoin i) s = .next s :=
  State.actD_ignored h (if_neg (ne_true_of_eq_false hc))

theorem exec_pcCntclr : exec (.pcCntclr i) s = .next (s.setLane i (s.lane i).pcCntClr) := State.actD_ready s i .cp _ h

end

/-- Settles O24: each command is an operation of the pair, whose cases are the cases of the statement. -/
theorem pairCommandsComplete : Obligations.PairCommandsComplete := by
  unfold Obligations.PairCommandsComplete
  intro s i l
  refine ⟨fun hr hc => ⟨fun e m c hfrom => ?_, fun e a n v hp hneed => ?_, fun e a n v hno => ?_⟩, fun hr hc e a n v => ⟨?_, ?_⟩,
    fun hr => ⟨fun p slot r a => ⟨fun hj hl => ?_, fun hj hd => ?_, fun h => ?_⟩,
      fun hc => ⟨exec_pcSplit_untaken s i hr hc, exec_pcRejoin_untaken s i hr hc⟩, exec_pcSplit_with_rejoin s i hr,
      fun hc hreq => ⟨fun hj hm => ?_, fun h => ?_⟩, fun hc => ⟨fun hj ht hk => ?_, fun h => ?_⟩, exec_pcCntclr s i hr⟩⟩
  · have hcommit : exec (.boundaryCommit i e) s = .next (s.setLane i (m.commitDrain c e)) := by
      rw [exec_boundaryCommit s i hr, Lane.commitBoundary_taken hc, Lane.commitRun_from hfrom]
    refine ⟨fun hb => ?_, fun hb hp => ?_, fun hb hp => ⟨fun k st rest hleft => ?_, fun hleft => ?_⟩⟩
    · rw [hcommit, Lane.commitDrain_boot (m := m) (e := e) hb]
      rfl
    · rw [hcommit, Lane.commitDrain_paused (m := m) (e := e) hb hp]
      rfl
    · rw [hcommit, Lane.commitDrain_through hb hp, show (m.drainParts e).2 = _ from hleft]
      rfl
    · rw [hcommit, Lane.commitDrain_through hb hp, show (m.drainParts e).2 = _ from hleft]
      rfl
  · have hcall : l.callsCommit a n := ⟨hc, hp, hneed⟩
    have hstore := exec_intermediateCommit s i hr e v hcall
    refine ⟨fun hm hl hf => ?_, fun h => ?_⟩
    · rw [hstore, Lane.coreStore_enters v hcall hm hl hf]
    · rw [hstore, Lane.coreStore_left_out v hcall h]
  · refine exec_intermediateCommit_ignored s i hr e v fun ⟨_, hp, hneed⟩ => ?_
    rcases hno with h | ⟨hm, hf⟩
    · exact Option.isSome_iff_ne_none.mp hp (Option.isNone_iff_eq_none.mp h)
    · exact hneed.elim (fun h => Option.isSome_iff_ne_none.mp h hm) (ne_true_of_eq_false hf)
  · rw [exec_boundaryCommit s i hr, Lane.commitBoundary_untaken hc, State.setLane_lane]
  · exact exec_intermediateCommit_ignored s i hr e v fun ⟨h, _⟩ => ne_true_of_eq_false hc h
  · rw [exec_pairMismatch s i p slot r a hr, Lane.mismatch_joined _ _ _ _ hj hl]
  · rw [exec_pairMismatch s i p slot r a hr, Lane.mismatch_dump _ _ _ _ hj hd]
  · have hsame : l.mismatch p slot r a = l :=
      h.elim (Lane.mismatch_split _ _ _ _) (fun ⟨hl, hd⟩ => Lane.mismatch_idle _ _ _ _ hl hd)
    rw [exec_pairMismatch s i p slot r a hr, hsame, State.setLane_lane]
  · rw [exec_pcSplit_alone s i hr hc hreq, Lane.pairSplit_allowed (l := l.requestsTaken) hj hm]
    rfl
  · rw [exec_pcSplit_alone s i hr hc hreq, Lane.pairSplit_ignored (l := l.requestsTaken) h]
    rfl
  · rw [exec_pcRejoin s i hr hc, Lane.pairRejoin_allowed (l := l.requestsTaken) hj ht hk]
    rfl
  · rw [exec_pcRejoin s i hr hc, Lane.pairRejoin_ignored (l := l.requestsTaken) h]
    rfl

end Sys2Proof.Machine
end

section
/-!
SUPPORT. The life-cycle commands: what each does, case by case (spec/14_self_test_lifecycle.md R478 to R483, R486, R498; Table 14.2).
-/

namespace Sys2Proof.Machine

variable (l : Lane)

/-- A lane in operation with a domain ON is in operation for that domain. -/
theorem State.ready_domain {s : State} {i : LaneId} {d : Dom} (h : s.ready i .clocked) (hd : (s.lane i).domOn d = true) :
    s.ready i (.domain d) := ⟨h.1, Bool.and_eq_true_iff.mpr ⟨h.2, hd⟩⟩

/-! ### Requests through JTAG -/

theorem Lane.jtagOpen_iff : l.jtagOpen = true ↔ l.life = lcBlank ∨ l.life = lcManufacture ∨ l.life = lcReturn := by
  simp [Lane.jtagOpen, or_assoc]

/-- LCADV and LCTERM are ignored outside the three open states and while an OTP write runs. -/
theorem Lane.jtagShut_of (h : l.jtagOpen = false ∨ l.on LC_STAT_BUSY = true) : (!l.jtagOpen || l.on LC_STAT_BUSY) = true := by
  rcases h with h | h <;> simp [h]

theorem Lane.not_jtagShut (ho : l.jtagOpen = true) (hb : l.on LC_STAT_BUSY = false) : ¬ (!l.jtagOpen || l.on LC_STAT_BUSY) = true := by
  simp [ho, hb]

theorem Lane.lcAdv_ignored (h : l.jtagOpen = false ∨ l.on LC_STAT_BUSY = true) : l.lcAdv = l := if_pos (l.jtagShut_of h)

theorem Lane.lcTerm_ignored (h : l.jtagOpen = false ∨ l.on LC_STAT_BUSY = true) : l.lcTerm = l := if_pos (l.jtagShut_of h)

theorem Lane.lcAdv_blank (hb : l.on LC_STAT_BUSY = false) (h : l.life = lcBlank) :
    l.lcAdv = if l.on (keyFlag 0 3) then l.otpStart (.state lcManufacture) else l.lcRefuse 5 :=
  (if_neg (l.not_jtagShut (l.jtagOpen_iff.mpr (.inl h)) hb)).trans (if_pos h)

theorem Lane.lcAdv_again (hb : l.on LC_STAT_BUSY = false) (h : l.life = lcManufacture ∨ l.life = lcReturn) : l.lcAdv = l.lcRefuse 2 := by
  have hblank : l.life ≠ lcBlank := by rcases h with h | h <;> simp [h, lcBlank, lcManufacture, lcReturn]
  exact (if_neg (l.not_jtagShut (l.jtagOpen_iff.mpr (.inr h)) hb)).trans (if_neg hblank)

theorem Lane.lcTerm_open (ho : l.jtagOpen = true) (hb : l.on LC_STAT_BUSY = false) : l.lcTerm = l.otpStart (.state lcTerminated) :=
  if_neg (l.not_jtagShut ho hb)

/-! ### Key slots -/

/-- KEYPROG acts in BLANK and MANUFACTURE on an empty slot, while no OTP write runs. -/
theorem Lane.keyProg_eq (k : Nat) (img rtn : Bool) (hash : List Byte) :
    l.keyProg k img rtn hash =
      if (l.life = lcBlank ∨ l.life = lcManufacture) ∧ l.on LC_STAT_BUSY = false ∧ l.on (keyFlag k 3) = false then
        l.otpStart (.program k img rtn hash) else l := by
  simp [Lane.keyProg, and_assoc]

/-- Some other slot may sign images, as KEYREV looks for it. -/
theorem Lane.any_imgKey_iff (k : Fin 4) :
    [0, 1, 2, 3].any (fun j => j ≠ k.val && l.imgKey j) = true ↔ ∃ j : Fin 4, j ≠ k ∧ l.imgKey j = true := by
  rw [List.any_eq_true]
  constructor
  · rintro ⟨j, hj, h⟩
    have hlt : j < 4 := List.mem_range.mp hj
    simp only [Bool.and_eq_true, decide_eq_true_eq] at h
    exact ⟨⟨j, hlt⟩, fun he => h.1 (congrArg Fin.val he), h.2⟩
  · rintro ⟨j, hne, h⟩
    exact ⟨j.val, List.mem_range.mpr j.isLt, by simp [h, Fin.val_ne_of_ne hne]⟩

/-- KEYREV acts in MANUFACTURE and RETURN where another slot may sign images, while no OTP write runs. -/
theorem Lane.keyRev_eq (k : Fin 4) :
    l.keyRev k =
      if (l.life = lcManufacture ∨ l.life = lcReturn) ∧ l.on LC_STAT_BUSY = false ∧ ∃ j : Fin 4, j ≠ k ∧ l.imgKey j = true then
        l.otpStart (.revoke k) else l := by
  simp only [Lane.keyRev, ← l.any_imgKey_iff k, Bool.and_eq_true, Bool.or_eq_true, decide_eq_true_eq, Bool.not_eq_true', and_assoc]

/-! ### The request of the core -/

theorem Lane.lcGo_busy (t : Nat) (h : l.on LC_STAT_BUSY = true) : l.lcGo t = l := if_pos h

theorem Lane.lcGo_elsewhere (t : Nat) (hb : l.on LC_STAT_BUSY = false) (hm : l.mode ≠ mService) : l.lcGo t = l.lcRefuse 3 :=
  (if_neg (ne_true_of_eq_false hb)).trans (if_pos hm)

/-- In SERVICE the request is judged by the state and its target (Table 14.2). -/
theorem Lane.lcGo_service (t : Nat) (hb : l.on LC_STAT_BUSY = false) (hm : l.mode = mService) :
    l.lcGo t =
      if l.life = lcManufacture ∧ t = lcProduction then (if l.on LC_STAT_FTM then l.lcRefuse 4 else l.otpStart (.state lcProduction))
      else if l.life = lcProduction ∧ t = lcReturn then l.returnRequest
      else if t = lcTerminated ∧ (l.life = lcManufacture ∨ l.life = lcProduction ∨ l.life = lcReturn) then
        l.otpStart (.state lcTerminated)
      else l.lcRefuse 2 := (if_neg (ne_true_of_eq_false hb)).trans (if_neg (not_not_intro hm))

section
variable {l} {t : Nat} (hb : l.on LC_STAT_BUSY = false) (hm : l.mode = mService)
include hb hm

theorem Lane.lcGo_production (h : l.life = lcManufacture ∧ t = lcProduction) :
    l.lcGo t = if l.on LC_STAT_FTM then l.lcRefuse 4 else l.otpStart (.state lcProduction) :=
  (l.lcGo_service t hb hm).trans (if_pos h)

theorem Lane.lcGo_return (h : l.life = lcProduction ∧ t = lcReturn) : l.lcGo t = l.returnRequest := by
  have hfac : ¬ (l.life = lcManufacture ∧ t = lcProduction) := by simp [h.2, lcProduction, lcReturn]
  rw [l.lcGo_service t hb hm, if_neg hfac, if_pos h]

theorem Lane.lcGo_terminated (h : t = lcTerminated ∧ (l.life = lcManufacture ∨ l.life = lcProduction ∨ l.life = lcReturn)) :
    l.lcGo t = l.otpStart (.state lcTerminated) := by
  have hfac : ¬ (l.life = lcManufacture ∧ t = lcProduction) := by simp [h.1, lcProduction, lcTerminated]
  have hret : ¬ (l.life = lcProduction ∧ t = lcReturn) := by simp [h.1, lcReturn, lcTerminated]
  rw [l.lcGo_service t hb hm, if_neg hfac, if_neg hret, if_pos h]

theorem Lane.lcGo_refused (hfac : ¬ (l.life = lcManufacture ∧ t = lcProduction)) (hret : ¬ (l.life = lcProduction ∧ t = lcReturn))
    (hterm : ¬ (t = lcTerminated ∧ (l.life = lcManufacture ∨ l.life = lcProduction ∨ l.life = lcReturn))) :
    l.lcGo t = l.lcRefuse 2 := by
  rw [l.lcGo_service t hb hm, if_neg hfac, if_neg hret, if_neg hterm]

end

theorem Lane.returnRequest_granted (h : l.tokenResult = none) : l.returnRequest = l.otpStart (.state lcReturn) := by
  simp only [Lane.returnRequest, h]

theorem Lane.returnRequest_refused {r : Nat} (h : l.tokenResult = some r) :
    l.returnRequest = (l.lcResult r).raise srcLC 1 clsCE none r := by
  simp only [Lane.returnRequest, h]

/-! ### The end of an OTP write -/

theorem Lane.otpEnd_none (ok : Bool) (h : l.lc.write = none) : l.otpEnd ok = l := by
  simp only [Lane.otpEnd, h]

theorem Lane.otpEnd_done {w : OtpWrite} (h : l.lc.write = some w) : l.otpEnd true = ({ l with lc := {} } : Lane).otpApply w := by
  simp only [Lane.otpEnd, h, if_true]

theorem Lane.otpEnd_failed {w : OtpWrite} (h : l.lc.write = some w) : l.otpEnd false = ({ l with lc := {} } : Lane).otpFail w := by
  simp only [Lane.otpEnd, h, Bool.false_eq_true, if_false]

/-- The write of a state takes the lane into BOOT, without the token. -/
theorem Lane.otpApply_state (c : Nat) : l.otpApply (.state c) = (((l.lcResult 1).abdicateNow).otpBurn (.state c)).enterBoot := rfl

theorem Lane.otpFail_state (c : Nat) : l.otpFail (.state c) = l.lcRefuse 9 := rfl

/-- The write of a key slot takes effect, and drives no event of a request. -/
theorem Lane.otpApply_key {w : OtpWrite} (h : ∀ c, w ≠ .state c) : l.otpApply w = (l.otpBurn w).lcEnd 1 := by
  cases w with
  | state c => exact absurd rfl (h c)
  | program k img rtn hash => rfl
  | revoke k => rfl

theorem Lane.otpFail_key {w : OtpWrite} (h : ∀ c, w ≠ .state c) :
    l.otpFail w = (l.lcEnd 9).raise srcLC 2 clsCE none ((l.lcEnd 9).dataOf LC_STAT_STATE.addr) := by
  cases w with
  | state c => exact absurd rfl (h c)
  | program k img rtn hash => rfl
  | revoke k => rfl

/-! ### Factory test mode -/

theorem Lane.ftmOn_manufacture (h : l.life = lcManufacture) : l.ftmOn = l.set LC_STAT_FTM := if_pos h

theorem Lane.ftmOn_ignored (h : l.life ≠ lcManufacture) : l.ftmOn = l := if_neg h

/-- Settles O44: each command is the operation of the life cycle, case by case. -/
theorem lifeCycleCommandsComplete : Obligations.LifeCycleCommandsComplete := by
  unfold Obligations.LifeCycleCommandsComplete
  intro s i hr l
  refine ⟨fun h => ⟨State.act_ignored hr (l.lcAdv_ignored h), State.act_ignored hr (l.lcTerm_ignored h)⟩,
    fun hb => ⟨fun h hk => State.act_to hr ((l.lcAdv_blank hb h).trans (if_pos hk)),
      fun h hk => State.act_to hr ((l.lcAdv_blank hb h).trans (if_neg (ne_true_of_eq_false hk))),
      fun h => State.act_to hr (l.lcAdv_again hb h), fun ho => State.act_to hr (l.lcTerm_open ho hb)⟩,
    fun k img rtn hash => ⟨fun h => State.act_to hr ((l.keyProg_eq k img rtn hash).trans (if_pos h)),
      fun h => State.act_ignored hr ((l.keyProg_eq k img rtn hash).trans (if_neg h))⟩,
    fun k => ⟨fun h => State.act_to hr ((l.keyRev_eq k).trans (if_pos h)),
      fun h => State.act_ignored hr ((l.keyRev_eq k).trans (if_neg h))⟩,
    fun h => State.act_to hr (l.ftmOn_manufacture h), fun h => State.act_ignored hr (l.ftmOn_ignored h),
    fun h => State.act_to hr (if_pos h), fun h => State.act_ignored hr (if_neg h),
    fun hcp target => ?_, fun hcp => ?_, fun h ok => State.act_ignored hr (l.otpEnd_none ok h), fun w hw => ?_⟩
  · have hd := State.ready_domain hr hcp
    refine ⟨fun hb => State.actD_ignored hd (l.lcGo_busy _ hb), fun hb hm => State.actD_to hd (l.lcGo_elsewhere _ hb hm),
      fun hb hm => ⟨fun h hf => ?_, fun h hf => ?_, fun h ht => ?_, fun h r ht => ?_, fun h => ?_, fun hfac hret hterm => ?_⟩⟩
    · exact State.actD_to hd ((Lane.lcGo_production hb hm h).trans (if_neg (ne_true_of_eq_false hf)))
    · exact State.actD_to hd ((Lane.lcGo_production hb hm h).trans (if_pos hf))
    · exact State.actD_to hd ((Lane.lcGo_return hb hm h).trans (l.returnRequest_granted ht))
    · exact State.actD_to hd ((Lane.lcGo_return hb hm h).trans (l.returnRequest_refused ht))
    · exact State.actD_to hd (Lane.lcGo_terminated hb hm h)
    · exact State.actD_to hd (Lane.lcGo_refused hb hm hfac hret hterm)
  · have hd := State.ready_domain hr hcp
    refine ⟨fun hm h => State.actD_to hd ((if_pos hm).trans (l.ftmOn_manufacture h)), fun h => State.actD_ignored hd ?_⟩
    by_cases hm : l.mode = mService
    · exact (if_pos hm).trans (l.ftmOn_ignored (h.resolve_left (not_not_intro hm)))
    · exact if_neg hm
  · refine ⟨?_, fun hc => ⟨State.act_to hr ((l.otpEnd_done hw).trans (Lane.otpApply_key _ hc)),
      State.act_to hr ((l.otpEnd_failed hw).trans (Lane.otpFail_key _ hc))⟩⟩
    rintro c rfl
    exact ⟨State.act_to hr ((l.otpEnd_done hw).trans (Lane.otpApply_state _ c)),
      State.act_to hr ((l.otpEnd_failed hw).trans (Lane.otpFail_state _ c))⟩

end Sys2Proof.Machine
end

section
/-!
SUPPORT. The commands of start-up: what each does, case by case (spec/16_start_up.md R500, R502, R528, R531, R546; R305).
-/

namespace Sys2Proof.Machine

variable (l : Lane)

/-- A command that a lane out of reset takes, where its operation gives a lane. -/
theorem State.actWake_to {s : State} {i : LaneId} {f : Lane → Lane} {t : Lane} (h : s.ready i .wake) (hf : f (s.lane i) = t) :
    s.actWake i f = .next (s.setLane i t) := by
  rw [State.actWake_ready s i f h, State.inLane, hf]

/-- The same where the operation leaves the lane as it is. -/
theorem State.actWake_ignored {s : State} {i : LaneId} {f : Lane → Lane} (h : s.ready i .wake) (hf : f (s.lane i) = s.lane i) :
    s.actWake i f = .next s := by
  rw [State.actWake_to h hf, State.setLane_lane]

/-! ### The lock, the sweep and the load -/

theorem Lane.pllLock_boot (h : l.mode = mBoot ∧ l.im.phase = .lock) : l.pllLock = l.bootLock := if_pos h

theorem Lane.pllLock_wake (h : ¬ (l.mode = mBoot ∧ l.im.phase = .lock)) (hs : l.pw.step = .lock) : l.pllLock = l.wakeLock :=
  (if_neg h).trans (if_pos hs)

theorem Lane.pllLock_ignored (h : ¬ (l.mode = mBoot ∧ l.im.phase = .lock)) (hs : l.pw.step ≠ .lock) : l.pllLock = l :=
  (if_neg h).trans (if_neg hs)

theorem Lane.sweepEnd_due (fails : Nat) (h : l.im.phase = .sweep) : l.sweepEnd fails = (l.sweepResults fails).bootLoad := if_pos h

theorem Lane.sweepEnd_ignored (fails : Nat) (h : l.im.phase ≠ .sweep) : l.sweepEnd fails = l := if_neg h

/-- The load tries the slots in their order, after it has marked those without a valid MAGIC (R502). -/
theorem Lane.imageLoad_due (q : List (Nat × List Byte)) (h : l.im.phase = .load) :
    l.imageLoad q =
      let src : LoadSrc := ⟨l.on SY_IMGSTAT_SRC, q⟩
      let order := l.slotOrder src
      (l.imgClear.each ([0, 1].filter (fun n => !order.contains n)) (fun l n => l.imgReport n (some { code := 0x01 }))).trySlots
        src order false 0 := if_neg (not_not_intro h)

theorem Lane.imageLoad_ignored (q : List (Nat × List Byte)) (h : l.im.phase ≠ .load) : l.imageLoad q = l := if_pos h

theorem Lane.imageLock_due (hp : l.im.phase = .loaded) (hm : l.mode = mBoot) (ht : l.tickHere = true) :
    l.imageLock = (((((((l.glBoundary 0 0).lockImage).armStart).proofStart).modeFollow).postureStep).newCycle).hashSend :=
  if_pos ⟨hp, hm, ht⟩

theorem Lane.imageLock_ignored (h : l.im.phase ≠ .loaded ∨ l.mode ≠ mBoot ∨ l.tickHere = false) : l.imageLock = l := by
  refine if_neg fun ⟨hp, hm, ht⟩ => ?_
  rcases h with h | h | h
  · exact h hp
  · exact h hm
  · exact ne_true_of_eq_false h ht

/-! ### The gate-driver check -/

/-- The lane with the check of an axis no longer running. -/
def Lane.gdCheckOver (l : Lane) (x : Ax) : Lane := { l with im := { l.im with gdRun := l.im.gdRun - 2 ^ x.idx } }

/-- Whether the high-side supply of an axis reads too low (R546). -/
def Lane.gdSupplyLow (l : Lane) (x : Ax) : Bool := decide (l.rd (GD_CPMON_MV x) < l.cpuvLevel x)

/-- A check that fails stores what it found, and reports it (R546). -/
def Lane.gdCheckFailed (l : Lane) (x : Ax) (comp : Nat) (gate : Bool) : Lane :=
  let b := l.wr ⟨SF_GDCHK_COMP0.addr, 8 * x.idx, 8⟩ (comp + (if l.gdSupplyLow x then 64 else 0) + (if gate then 128 else 0))
  ((b.set (gdFail x)).raise srcSF 7 clsUC none (b.dataOf SF_GDCHK_COMP0.addr)).event 191

theorem Lane.gdCheckEnd_idle (x : Ax) (comp : Nat) (gate : Bool) (h : l.im.gdRun.testBit x.idx = false) :
    l.gdCheckEnd x comp gate = l :=
  if_neg (ne_true_of_eq_false h)

/-- A running check ends with its proof or with its failure. -/
theorem Lane.gdCheckEnd_running (x : Ax) (comp : Nat) (gate : Bool) (h : l.im.gdRun.testBit x.idx = true) :
    l.gdCheckEnd x comp gate =
      if comp = 0 ∧ gate = false ∧ (l.gdCheckOver x).gdSupplyLow x = false then (l.gdCheckOver x).provenBy (gdProof x) true
      else (l.gdCheckOver x).gdCheckFailed x comp gate := if_pos h

/-- Settles O21: each command is its step of start-up, in its own phase and in any other. -/
theorem bootCommandsComplete : Obligations.BootCommandsComplete := by
  unfold Obligations.BootCommandsComplete
  intro s i l
  refine ⟨fun hr hm hp => State.actWake_to hr (l.pllLock_boot ⟨hm, hp⟩),
    fun hr hno => ⟨fun hs => State.actWake_to hr (l.pllLock_wake hno hs), fun hs => State.actWake_ignored hr (l.pllLock_ignored hno hs)⟩,
    fun hr => ⟨fun hp fails => State.act_to hr (l.sweepEnd_due _ hp), fun hp q => State.act_to hr (l.imageLoad_due q hp),
      fun hp fails => State.act_ignored hr (l.sweepEnd_ignored _ hp), fun hp q => State.act_ignored hr (l.imageLoad_ignored q hp),
      fun hp hm ht => State.act_to hr (l.imageLock_due hp hm ht), fun h => State.act_ignored hr (l.imageLock_ignored h),
      fun x comp gate hrun => State.act_ignored hr (l.gdCheckEnd_idle x _ gate hrun), fun x comp gate hrun => ?_⟩⟩
  have hend := l.gdCheckEnd_running x comp.toNat gate hrun
  exact ⟨fun h => State.act_to hr (hend.trans (if_pos h)), fun h => State.act_to hr (hend.trans (if_neg h))⟩

end Sys2Proof.Machine
end

section
/-!
SUPPORT. How a message on the Guyline is taken, and the message types that carry leadership (spec/08_leadership_guyline.md R291 to R308).
-/

namespace Sys2Proof.Machine

variable {l : Lane} {m : GlMsg} {len : Nat} {j : LaneId} {f : Lane → LaneId → Lane}

/-! ### Discarded, aged and handled messages -/

/-- A message that is not taken is discarded and counted (R293). -/
theorem Lane.glHear_discarded (h : l.glAccept m len = none) : l.glHear m len f = l.glDiscard := by
  simp only [Lane.glHear, h]

theorem Lane.glHear_taken (h : l.glAccept m len = some j) : l.glHear m len f = f l j := by
  simp only [Lane.glHear, h]

theorem Lane.glIn_discarded (h : l.glAccept m len = none) : l.glIn m len f = l.glDiscard := Lane.glHear_discarded h

theorem Lane.glEpochHear_discarded (h : l.glAccept m len = none) : l.glEpochHear m len f = l.glDiscard := Lane.glHear_discarded h

theorem Lane.glEpochIn_discarded (h : l.glAccept m len = none) : l.glEpochIn m len f = l.glDiscard :=
  Lane.glEpochHear_discarded h

/-- A message taken without regard to its epoch raises the highest epoch known (R300). -/
theorem Lane.glIn_taken (h : l.glAccept m len = some j) : l.glIn m len f = f (l.seeEpoch m) j := Lane.glHear_taken h

/-- A message of an epoch below the highest known changes nothing (R300). -/
theorem Lane.glEpochHear_aged (h : l.glAccept m len = some j) (he : m.epoch < l.rd GL_EPOCH) : l.glEpochHear m len f = l :=
  (Lane.glHear_taken h).trans (if_pos he)

theorem Lane.glEpochHear_current (h : l.glAccept m len = some j) (he : l.rd GL_EPOCH ≤ m.epoch) : l.glEpochHear m len f = f l j :=
  (Lane.glHear_taken h).trans (if_neg (Nat.not_lt.mpr he))

theorem Lane.glEpochIn_aged (h : l.glAccept m len = some j) (he : m.epoch < l.rd GL_EPOCH) : l.glEpochIn m len f = l :=
  Lane.glEpochHear_aged h he

theorem Lane.glEpochIn_current (h : l.glAccept m len = some j) (he : l.rd GL_EPOCH ≤ m.epoch) :
    l.glEpochIn m len f = f (l.seeEpoch m) j := Lane.glEpochHear_current h he

/-! ### The eight types -/

/-- A message of any of the eight types that is not taken is discarded and counted (R293). -/
theorem exec_glReceive_discarded (s : State) (i : LaneId) (hr : s.ready i (.domain .cp)) (m : GlMsg) :
    ∀ k ∈ ([(.heartbeatReceive i, 16), (.ftannReceive i, 8), (.claimReceive i, 8), (.abdicateReceive i, 8), (.handoverReceive i, 8),
        (.commandReceive i, 112), (.cfghashReceive i, 32), (.statecopyReceive i, 256)] : List ((GlMsg → Instr) × Nat)),
      (s.lane i).glAccept m k.2 = none → exec (k.1 m) s = .next (s.setLane i (s.lane i).glDiscard) := by
  simp only [List.forall_mem_cons]
  exact ⟨fun h => State.actD_to hr (Lane.glEpochHear_discarded h), fun h => State.actD_to hr (Lane.glIn_discarded h),
    fun h => State.actD_to hr (Lane.glEpochHear_discarded h), fun h => State.actD_to hr (Lane.glIn_discarded h),
    fun h => State.actD_to hr (Lane.glEpochIn_discarded h), fun h => State.actD_to hr (Lane.glEpochIn_discarded h),
    fun h => State.actD_to hr (Lane.glIn_discarded h), fun h => State.actD_to hr (Lane.glEpochIn_discarded h),
    fun _ hk => absurd hk List.not_mem_nil⟩

/-- A message of one of the five types that carry an epoch to be checked changes nothing where its epoch is old (R300). -/
theorem exec_glReceive_aged (s : State) (i : LaneId) (hr : s.ready i (.domain .cp)) (m : GlMsg) (j : LaneId) :
    ∀ k ∈ ([(.heartbeatReceive i, 16), (.claimReceive i, 8), (.handoverReceive i, 8), (.commandReceive i, 112),
        (.statecopyReceive i, 256)] : List ((GlMsg → Instr) × Nat)),
      (s.lane i).glAccept m k.2 = some j → m.epoch < (s.lane i).rd GL_EPOCH → exec (k.1 m) s = .next s := by
  simp only [List.forall_mem_cons]
  exact ⟨fun h he => State.actD_ignored hr (Lane.glEpochHear_aged h he), fun h he => State.actD_ignored hr (Lane.glEpochHear_aged h he),
    fun h he => State.actD_ignored hr (Lane.glEpochIn_aged h he), fun h he => State.actD_ignored hr (Lane.glEpochIn_aged h he),
    fun h he => State.actD_ignored hr (Lane.glEpochIn_aged h he), fun _ hk => absurd hk List.not_mem_nil⟩

/-- Settles O28: a message is discarded, aged, or handled by what its type does. -/
theorem guylineMessagesComplete : Obligations.GuylineMessagesComplete := by
  unfold Obligations.GuylineMessagesComplete
  intro s i hr l kinds aged
  refine ⟨fun k hk m => exec_glReceive_discarded s i hr m k hk, fun k hk m j => exec_glReceive_aged s i hr m j k hk,
    fun m j => ⟨?heartbeat, ?ftann, ?claim, ?abdicate, ?handover, ?command, ?cfghash, ?statecopy⟩⟩
  case heartbeat => exact fun h he => State.actD_to hr (Lane.glEpochHear_current h he)
  case ftann => exact fun h => State.actD_to hr (Lane.glIn_taken h)
  case claim => exact fun h he => State.actD_to hr (Lane.glEpochHear_current h he)
  case abdicate => exact fun h => State.actD_to hr (Lane.glIn_taken h)
  case handover => exact fun h he => State.actD_to hr (Lane.glEpochIn_current h he)
  case command => exact fun h he => State.actD_to hr (Lane.glEpochIn_current h he)
  case cfghash => exact fun h => State.actD_to hr (Lane.glIn_taken h)
  case statecopy => exact fun h he => State.actD_to hr (Lane.glEpochIn_current h he)

end Sys2Proof.Machine
end

section
/-!
SUPPORT. The receiving side of a dump: what each command does, case by case (spec/09_fault_collection.md R344).
-/

namespace Sys2Proof.Machine

variable {l : Lane} {m : GlMsg} {j : LaneId}

/-! ### Control messages -/

section
variable {form : Nat} {f : Lane → Port → Lane}

theorem Lane.dumpIn_discarded (h : l.glAccept m 8 = none) : l.dumpIn m form f = l.glDiscard := Lane.glIn_discarded h

/-- A control message of the form awaited is handled at the port that faces its sender. -/
theorem Lane.dumpIn_form (h : l.glAccept m 8 = some j) (hf : byteAt m.payload 0 = form) :
    l.dumpIn m form f = f (l.seeEpoch m) ((l.seeEpoch m).portOf j) := (Lane.glIn_taken h).trans (if_pos hf)

/-- One of another form raises the highest epoch known alone. -/
theorem Lane.dumpIn_otherForm (h : l.glAccept m 8 = some j) (hf : byteAt m.payload 0 ≠ form) : l.dumpIn m form f = l.seeEpoch m :=
  (Lane.glIn_taken h).trans (if_neg hf)

end

/-! ### OFFER -/

/-- The answer to an OFFER (R344). -/
def Lane.offerAnswer (l : Lane) (m : GlMsg) (p : Port) : Lane :=
  if l.on (FC_NBSTAT_FULL p.idx) then ((l.set (FC_NBSTAT_REFUSED p.idx)).event 5).dumpCtl p 3 1 0
  else if l.fc.tx ≠ .idle then (l.event 5).dumpCtl p 3 2 0
  else if l.mode = mBoot ∧ l.im.phase = .lock then (l.event 5).dumpCtl p 3 3 0
  else (l.setRx p { busy := true, chunks := leField m.payload 4 4, at_ := l.now }).dumpCtl p 2 0 0

theorem Lane.offerIn_offer (h : l.glAccept m 8 = some j) (hf : byteAt m.payload 0 = 1) :
    l.offerIn m = (l.seeEpoch m).offerAnswer m ((l.seeEpoch m).portOf j) := Lane.dumpIn_form h hf

section
variable {p : Port}

theorem Lane.offerAnswer_full (h : l.on (FC_NBSTAT_FULL p.idx) = true) :
    l.offerAnswer m p = ((l.set (FC_NBSTAT_REFUSED p.idx)).event 5).dumpCtl p 3 1 0 := if_pos h

variable (hf : l.on (FC_NBSTAT_FULL p.idx) = false)
include hf

theorem Lane.offerAnswer_sending (ht : l.fc.tx ≠ .idle) : l.offerAnswer m p = (l.event 5).dumpCtl p 3 2 0 :=
  (if_neg (ne_true_of_eq_false hf)).trans (if_pos ht)

variable (ht : l.fc.tx = .idle)
include ht

theorem Lane.offerAnswer_unlocked (hb : l.mode = mBoot ∧ l.im.phase = .lock) : l.offerAnswer m p = (l.event 5).dumpCtl p 3 3 0 :=
  (if_neg (ne_true_of_eq_false hf)).trans ((if_neg (not_not_intro ht)).trans (if_pos hb))

theorem Lane.offerAnswer_accept (hb : ¬ (l.mode = mBoot ∧ l.im.phase = .lock)) :
    l.offerAnswer m p = (l.setRx p { busy := true, chunks := leField m.payload 4 4, at_ := l.now }).dumpCtl p 2 0 0 :=
  (if_neg (ne_true_of_eq_false hf)).trans ((if_neg (not_not_intro ht)).trans (if_neg hb))

end

/-! ### DATA and END -/

/-- Whether a slot awaits messages of a record, as it does from ACCEPT to END; in the form in which the model tests it. -/
abbrev DumpRx.awaits (r : DumpRx) : Prop := r.busy = true ∧ (!r.ended) = true

theorem DumpRx.awaits_of {r : DumpRx} (hb : r.busy = true) (he : r.ended = false) : r.awaits := ⟨hb, by simp [he]⟩

theorem DumpRx.not_awaits {r : DumpRx} (h : r.busy = false ∨ r.ended = true) : ¬ r.awaits := by
  rcases h with h | h <;> simp [DumpRx.awaits, h]

/-- The port that faces the sender of a message. -/
def Lane.senderPort (l : Lane) (m : GlMsg) (j : LaneId) : Port := (l.seeEpoch m).portOf j

/-- The reception in the slot of that port. -/
def Lane.senderRx (l : Lane) (m : GlMsg) (j : LaneId) : DumpRx := (l.seeEpoch m).fc.rx (l.senderPort m j)

/-- The check of a record at its END (R344). -/
def Lane.endJudge (l : Lane) (m : GlMsg) (p : Port) : Lane :=
  let r := l.fc.rx p
  let a := (l.rxLate p).accessed (nbSlot l.part p.idx) (256 * r.chunks)
  if r.got = r.chunks ∧ crc32c (a.bytes (nbSlot a.part p.idx) (256 * r.chunks)) = leField m.payload 4 4 then
    a.setRx p { r with ended := true }
  else (a.rxFail p).dumpCtl p 5 1 0

theorem Lane.endIn_awaited (h : l.glAccept m 8 = some j) (hf : byteAt m.payload 0 = 4) (ha : (l.senderRx m j).awaits) :
    l.endIn m = (l.seeEpoch m).endJudge m (l.senderPort m j) :=
  (show l.endIn m = _ from Lane.dumpIn_form h hf).trans (if_pos ha)

theorem Lane.endIn_ignored (h : l.glAccept m 8 = some j) (hno : byteAt m.payload 0 ≠ 4 ∨ ¬ (l.senderRx m j).awaits) :
    l.endIn m = l.seeEpoch m := by
  by_cases hf : byteAt m.payload 0 = 4
  · exact (show l.endIn m = _ from Lane.dumpIn_form h hf).trans (if_neg (hno.resolve_left (not_not_intro hf)))
  · exact Lane.dumpIn_otherForm h hf

/-- A chunk inside its record is written into the slot (R344). -/
theorem Lane.dataIn_awaited (h : l.glAccept m 256 = some j) (ha : (l.senderRx m j).awaits) (hc : m.chunk < (l.senderRx m j).chunks)
    (hs : m.chunk < 8192) :
    l.dataIn m =
      let e := l.seeEpoch m
      let p := l.senderPort m j
      let r := l.senderRx m j
      let at_ := nbSlot e.part p.idx + 256 * m.chunk
      (((e.rxLate p).accessed at_ 256).setBytes at_ m.payload).setRx p { r with got := r.got + 1, at_ := e.now } :=
  (show l.dataIn m = _ from Lane.glIn_taken h).trans (if_pos ⟨ha.1, ha.2, hc, hs⟩)

theorem Lane.dataIn_ignored (h : l.glAccept m 256 = some j)
    (hno : ¬ (l.senderRx m j).awaits ∨ (l.senderRx m j).chunks ≤ m.chunk ∨ 8192 ≤ m.chunk) : l.dataIn m = l.seeEpoch m := by
  refine (show l.dataIn m = _ from Lane.glIn_taken h).trans (if_neg fun ⟨hb, he, hc, hs⟩ => ?_)
  rcases hno with hno | hno | hno
  · exact hno ⟨hb, he⟩
  · exact Nat.not_le.mpr hc hno
  · exact Nat.not_le.mpr hs hno

/-! ### The end of a reception -/

section
variable {p : Port}

/-- The last MRAM write of a checked record sets FULL, and DONE is sent (R344). -/
theorem Lane.rxStored_done (hb : (l.fc.rx p).busy = true) (he : (l.fc.rx p).ended = true) :
    l.rxStored p =
      let a := ((l.setRx p {}).set (FC_NBSTAT_FULL p.idx)).wr (FC_NBSTAT_CHUNKS p.idx) (l.fc.rx p).chunks
      ((a.raise srcFC 3 clsCE none (p.idx + 65536 * (l.fc.rx p).chunks)).event 4).dumpCtl p 5 0 0 := if_pos ⟨hb, he⟩

theorem Lane.rxStored_ignored (h : (l.fc.rx p).busy = false ∨ (l.fc.rx p).ended = false) : l.rxStored p = l :=
  if_neg fun ⟨hb, he⟩ => h.elim (fun h => ne_true_of_eq_false h hb) (fun h => ne_true_of_eq_false h he)

theorem Lane.rxTimeout_due (ha : (l.fc.rx p).awaits) (hd : (l.fc.rx p).at_ + dumpLimit ≤ l.now) : l.rxTimeout p = l.rxFail p :=
  if_pos ⟨ha.1, ha.2, decide_eq_true hd⟩

theorem Lane.rxTimeout_ignored (h : ¬ (l.fc.rx p).awaits ∨ l.now < (l.fc.rx p).at_ + dumpLimit) : l.rxTimeout p = l :=
  if_neg fun ⟨hb, he, hd⟩ => h.elim (· ⟨hb, he⟩) (Nat.not_lt.mpr (of_decide_eq_true hd))

end

/-- Settles O32: each message is judged by its form and its transfer; a completion and a limit act on their own transfer. -/
theorem dumpReceiveCommandsComplete : Obligations.DumpReceiveCommandsComplete := by
  unfold Obligations.DumpReceiveCommandsComplete
  intro s i hr l
  refine ⟨fun p => ⟨State.actD_to hr rfl, fun hb he => State.actD_to hr (Lane.rxStored_done hb he),
      fun h => State.actD_ignored hr (Lane.rxStored_ignored h),
      fun hb he hd => State.actD_to hr (Lane.rxTimeout_due (DumpRx.awaits_of hb he) hd), fun h => State.actD_ignored hr ?_⟩,
    fun m h => ⟨State.actD_to hr (Lane.dumpIn_discarded h), State.actD_to hr (Lane.dumpIn_discarded h)⟩,
    fun m h => State.actD_to hr (Lane.glIn_discarded h), fun m j h => ?_, fun m j h => ?_⟩
  · rw [← or_assoc] at h
    exact Lane.rxTimeout_ignored (h.imp_left DumpRx.not_awaits)
  · have hoffer := fun hf => Lane.offerIn_offer h hf
    refine ⟨fun hf => State.actD_to hr (Lane.dumpIn_otherForm h hf),
      fun hf => ⟨fun hfull => State.actD_to hr ((hoffer hf).trans (Lane.offerAnswer_full hfull)),
        fun hfree ht => State.actD_to hr ((hoffer hf).trans (Lane.offerAnswer_sending hfree ht)),
        fun hfree ht hm hp => State.actD_to hr ((hoffer hf).trans (Lane.offerAnswer_unlocked hfree ht ⟨hm, hp⟩)),
        fun hfree ht hno => State.actD_to hr ((hoffer hf).trans (Lane.offerAnswer_accept hfree ht hno))⟩,
      fun hno => State.actD_to hr (Lane.endIn_ignored h (hno.imp_right DumpRx.not_awaits)), fun hf hb he => ?_⟩
    have hend := Lane.endIn_awaited h hf (DumpRx.awaits_of hb he)
    exact ⟨fun hgood => State.actD_to hr (hend.trans (if_pos hgood)), fun hbad => State.actD_to hr (hend.trans (if_neg hbad))⟩
  · refine ⟨fun hb he hc hs => State.actD_to hr (Lane.dataIn_awaited h (DumpRx.awaits_of hb he) hc hs), fun hno => ?_⟩
    rw [← or_assoc] at hno
    exact State.actD_to hr (Lane.dataIn_ignored h (hno.imp_left DumpRx.not_awaits))

end Sys2Proof.Machine
end

section
/-!
SUPPORT. Links, SYNC, due instants, election, vote, handover and eligibility: what each command does, case by case
(spec/08_leadership_guyline.md R288 to R305, R591).
-/

namespace Sys2Proof.Machine

variable (l : Lane) (p : Port)

/-! ### Links -/

/-- No route is to be restored at a port that has lost its link (R290). -/
def Lane.routeDropped (l : Lane) : Port → Lane
  | .next => { l with gl := { l.gl with restore0 := false } }
  | .prev => { l with gl := { l.gl with restore1 := false } }

/-- A port that comes up has its route to be restored, and CFGHASH is owed (R290, R305). -/
def Lane.routeOwed (l : Lane) : Port → Lane
  | .next => { l with gl := { l.gl with restore0 := true, hashOwed := true } }
  | .prev => { l with gl := { l.gl with restore1 := true, hashOwed := true } }

theorem Lane.linkLoss_unlocked (h : l.rd (GL_LINK_LOCK p.idx) = 0) : l.linkLoss p = l := if_pos h

theorem Lane.linkLoss_locked (h : l.rd (GL_LINK_LOCK p.idx) ≠ 0) :
    l.linkLoss p =
      let a := (((l.clr (GL_LINK_LOCK p.idx)).clr (GL_LINK_UP p.idx)).bump (GL_LINK_LOSS p.idx)).routeDropped p
      ((a.set (GL_LINK_LOOPBK p.idx)).raise srcGL 1 clsCE none p.idx).event 176 := if_neg h

theorem Lane.linkUp_locked (ns : Nat) (hl : l.on (GL_LINK_LOCK p.idx) = true) (hu : l.rd (GL_LINK_UP p.idx) = 0) :
    l.linkUp p ns = ((l.set (GL_LINK_UP p.idx)).wr (GL_LINK_DELAY p.idx) ns).routeOwed p := if_pos ⟨hl, hu⟩

theorem Lane.linkUp_ignored (ns : Nat) (h : l.on (GL_LINK_LOCK p.idx) = false ∨ l.rd (GL_LINK_UP p.idx) ≠ 0) : l.linkUp p ns = l :=
  if_neg fun ⟨hl, hu⟩ => h.elim (fun h => ne_true_of_eq_false h hl) (· hu)

/-! ### Messages for the other neighbour -/

section
variable {l p} {m : GlMsg}

/-- Whether a message is malformed, as a lane that passes it on sees it (R293). -/
def glMalformed (m : GlMsg) : Prop :=
  m.intact = false ∨ m.measured = false ∨ m.route / 4 % 4 ≠ 0 ∨ 128 ≤ m.route ∨ 2 < m.route % 4

/-- Whether a message that arrives on a port is not one for the lane on the other port (R289). -/
def Lane.notForward (l : Lane) (p : Port) (m : GlMsg) : Prop :=
  (m.route / 16).testBit l.me.code = true ∨ (m.route / 16).testBit (l.neighbour p.other).code = false

theorem Lane.glPass_malformed (h : glMalformed m) : l.glPass p m = l.glDiscard := if_pos h

theorem Lane.glPass_left (h : ¬ glMalformed m) (ho : l.notForward p m) : l.glPass p m = l := (if_neg h).trans (if_pos ho)

/-- A message for the lane on the other port is passed on, and FWD set (R289). -/
theorem Lane.glPass_forward (h : ¬ glMalformed m) (ho : ¬ l.notForward p m) :
    l.glPass p m =
      let a := (Lane.set { l with gl := { l.gl with fwdNow := true } } (GL_LINK_FWD 0)).set (GL_LINK_FWD 1)
      if a.on (GL_LINK_UP p.other.idx) then a.glReady ⟨p.other, true, m⟩ else a := (if_neg h).trans (if_neg ho)

end

/-! ### SYNC -/

/-- The lane after it has passed a SYNC on, where it forwards for the others (R591). -/
def Lane.syncPassed (l : Lane) (p : Port) (j : LaneId) (dly own : Nat) : Lane :=
  if l.on (GL_LINK_FWD p.idx) = true ∧ decide (l.neighbour p = j) = true ∧ l.on (GL_LINK_UP p.other.idx) = true
  then l.glSync p.other j ((dly + l.rd (GL_LINK_DELAY p.idx) + own) % 65536) else l

/-- How much later the token holder's tick comes than this lane's, by a SYNC that took `delay` ns: the error within half an outer cycle
(R294). -/
def Lane.syncError (l : Lane) (tick : Nat) (delay : Nat) : Int :=
  let c : Int := outerCycle l.prof
  let e := (l.now : Int) - (ofNs delay : Int) - (tick : Int)
  (e + c / 2) % c - c / 2

/-- The move of the tick for an error: all of it at a step, else at most 50 ns (R294). -/
def Lane.syncMove (l : Lane) (e : Int) : Int := if l.gl.step then e else if 80 < e then 80 else if e < -80 then -80 else e

/-- The lane with the error of a SYNC noted. -/
def Lane.syncNoted (l : Lane) (direct : Bool) (e : Int) : Lane :=
  { l with gl := { l.gl with syncErr := e, step := false, syncDirect := l.gl.syncDirect || direct } }

/-- The lane with its next tick moved, and nothing of the move left over. -/
def Lane.adjusted (l : Lane) (m : Int) : Lane := { l with gl := { l.gl with adjust := m, carry := 0 } }

/-- Whether an error shows as ALIGN: within 100 ns (R294). -/
def syncNear (e : Int) : Bool := decide (-160 ≤ e) && decide (e ≤ 160)

section
variable {l p} {j : LaneId} {dly own tick : Nat}

theorem Lane.syncIn_eq :
    l.syncIn p j dly own =
      let a := l.syncPassed p j dly own
      let direct := decide (l.neighbour p = j)
      match a.gl.tickAt with
      | none => a
      | some tick =>
        if a.rd GL_STAT_LEADER ≠ j.code ∨ j = a.me ∨ (!direct && a.gl.syncDirect) = true then a
        else
          let e := a.syncError tick (dly + l.rd (GL_LINK_DELAY p.idx))
          let b := a.syncNoted direct e
          (if a.gl.step then b.adjusted (a.syncMove e) else b.tickMove (a.syncMove e)).put GL_STAT_ALIGN (syncNear e) := rfl

/-- Before the first tick a SYNC moves nothing. -/
theorem Lane.syncIn_noTick (h : (l.syncPassed p j dly own).gl.tickAt = none) : l.syncIn p j dly own = l.syncPassed p j dly own := by
  rw [Lane.syncIn_eq]
  simp only [h]

/-- A SYNC that is not the token holder's, or that comes indirectly after a direct one, moves nothing (R294). -/
theorem Lane.syncIn_unheeded (ht : (l.syncPassed p j dly own).gl.tickAt = some tick)
    (h : (l.syncPassed p j dly own).rd GL_STAT_LEADER ≠ j.code ∨ j = (l.syncPassed p j dly own).me ∨
      (decide (l.neighbour p = j) = false ∧ (l.syncPassed p j dly own).gl.syncDirect = true)) :
    l.syncIn p j dly own = l.syncPassed p j dly own := by
  rw [Lane.syncIn_eq]
  simp only [ht]
  exact if_pos (h.imp_right (Or.imp_right fun ⟨hd, hs⟩ => by rw [hd, hs]; rfl))

/-- Any other SYNC moves the next tick by its error (R294). -/
theorem Lane.syncIn_heeded (ht : (l.syncPassed p j dly own).gl.tickAt = some tick)
    (hl : (l.syncPassed p j dly own).rd GL_STAT_LEADER = j.code) (hj : j ≠ (l.syncPassed p j dly own).me)
    (hd : decide (l.neighbour p = j) = true ∨ (l.syncPassed p j dly own).gl.syncDirect = false) :
    l.syncIn p j dly own =
      let a := l.syncPassed p j dly own
      let e := a.syncError tick (dly + l.rd (GL_LINK_DELAY p.idx))
      let b := a.syncNoted (decide (l.neighbour p = j)) e
      (if a.gl.step then b.adjusted (a.syncMove e) else b.tickMove (a.syncMove e)).put GL_STAT_ALIGN (syncNear e) := by
  rw [Lane.syncIn_eq]
  simp only [ht]
  refine if_neg fun h => ?_
  rcases h with h | h | h
  · exact h hl
  · exact hj h
  · rcases hd with hd | hd <;> simp [hd] at h

end

/-- How many root periods of the lane's clock pass until the network time reaches the next tick. -/
def Lane.tickLeft (l : Lane) : Int :=
  let p := 1000 * (outerUs l.prof : Int) * ntUnit
  if l.tickTime % p < l.tt.add then 0 else (p - l.tickTime % p + rootUnit - 1) / rootUnit

theorem outerUs_pos (n : Nat) : 0 < outerUs n := by
  unfold outerUs
  split <;> decide

theorem Lane.tickLeft_nonneg : 0 ≤ l.tickLeft := by
  have hp : 0 < 1000 * (outerUs l.prof : Int) * ntUnit :=
    Int.mul_pos (Int.mul_pos (by decide) (Int.natCast_pos.mpr (outerUs_pos _))) (by decide)
  have hlt := Int.emod_lt_of_pos l.tickTime hp
  have hroot : (0 : Int) < rootUnit := by decide
  unfold Lane.tickLeft
  dsimp only
  split
  · exact Int.le_refl 0
  · exact Int.ediv_nonneg (by omega) (Int.le_of_lt hroot)

theorem Lane.tickMove_eq (m : Int) :
    l.tickMove m =
      if (l.gl.tickAt.all (fun u => decide (u + 25 * usec ≤ l.now)) && decide (m < l.gl.adjust - l.tickLeft) &&
          !(l.adjusted m).tickHere) = true then
        { l with gl := { l.gl with adjust := l.gl.adjust - l.tickLeft, carry := m - (l.gl.adjust - l.tickLeft) } }
      else l.adjusted m := rfl

/-- The whole move is taken where the moved tick is here, where it comes no earlier than before, and within 25 µs of the last tick. -/
theorem Lane.tickMove_whole {m : Int} {tick : Nat} (ht : l.gl.tickAt = some tick)
    (h : (l.adjusted m).tickHere = true ∨ l.gl.adjust ≤ m ∨ l.now < tick + 25 * usec) : l.tickMove m = l.adjusted m := by
  have hleft := l.tickLeft_nonneg
  rw [Lane.tickMove_eq]
  refine if_neg fun hc => ?_
  simp only [ht, Option.all_some, Bool.and_eq_true, decide_eq_true_eq, Bool.not_eq_true'] at hc
  obtain ⟨⟨hlate, hback⟩, hnot⟩ := hc
  rcases h with h | h | h
  · exact ne_true_of_eq_false hnot h
  · omega
  · exact Nat.not_le.mpr h hlate

/-! ### Due instants -/

/-- Before a due instant, and after it has been judged, nothing is due. -/
theorem Lane.heartDue_early (h : ∀ t, l.gl.dueAt = some t → l.now < t) : l.heartDue = l := by
  cases ht : l.gl.dueAt with
  | none => simp only [Lane.heartDue, ht]
  | some t => simp only [Lane.heartDue, ht, Lane.due, decide_eq_true_eq, if_neg (Nat.not_le.mpr (h t ht))]

/-- A due instant that has come judges each other lane (R297). -/
theorem Lane.heartDue_due {t : Nat} (ht : l.gl.dueAt = some t) (hd : t ≤ l.now) :
    l.heartDue =
      let quiet := l.others.all (fun j => !(l.gl.peer j).fresh)
      let n := if quiet then l.gl.alone + 1 else 0
      let part := decide (n = 2) && l.others.any (fun j => (l.gl.peer j).known) && !l.sy.partGone && modeLive l.mode
      let a := { l with gl := { l.gl with dueAt := none, alone := n }
                        sy := if part then { l.sy with partAt := some t } else l.sy }
      a.each a.others Lane.heartMiss := by
  simp only [Lane.heartDue, ht, Lane.due, decide_eq_true hd, if_true]

/-! ### Election and vote -/

/-- The lane with an open vote decided by the hashes heard (R305). -/
def Lane.voteDecided (l : Lane) : Lane :=
  if l.rd GL_STAT_VOTE = 0 then l.voteSet (l.hashes.length = 1 || (l.hashes.any (fun p => p.1 ≠ l.me && p.2 = l.ownHash))) else l

/-- The end of the election window decides an open vote; then the highest eligible lane claims (R302, R305). -/
theorem Lane.windowEnd_due (hs : l.rd GL_STAT_TSTATE = tsCandidate) (hw : l.rd GL_CFG_ELECTWIN ≤ l.gl.armCycles) :
    l.windowEnd = if l.voteDecided.highest = true then l.voteDecided.claim else l.voteDecided.wr GL_STAT_TSTATE tsFollower :=
  if_pos ⟨hs, hw⟩

theorem Lane.windowEnd_ignored (h : l.rd GL_STAT_TSTATE ≠ tsCandidate ∨ l.gl.armCycles < l.rd GL_CFG_ELECTWIN) : l.windowEnd = l :=
  if_neg fun ⟨hs, hw⟩ => h.elim (· hs) (Nat.not_lt.mpr hw)

theorem Lane.voteTimeout_due (hm : l.mode = mArming) (hv : l.rd GL_STAT_VOTE = 0) (hs : l.rd GL_STAT_TSTATE = tsFollower)
    (hw : l.rd GL_CFG_ELECTWIN ≤ l.gl.armCycles) (hh : l.holderHash = none) : l.voteTimeout = l.voteSet false :=
  if_pos ⟨hm, hv, hs, hw, hh⟩

theorem Lane.voteTimeout_ignored (h : l.mode ≠ mArming ∨ l.rd GL_STAT_VOTE ≠ 0 ∨ l.rd GL_STAT_TSTATE ≠ tsFollower ∨
    l.gl.armCycles < l.rd GL_CFG_ELECTWIN ∨ l.holderHash ≠ none) : l.voteTimeout = l := by
  refine if_neg fun ⟨hm, hv, hs, hw, hh⟩ => ?_
  rcases h with h | h | h | h | h
  · exact h hm
  · exact h hv
  · exact h hs
  · exact Nat.not_lt.mpr hw h
  · exact h hh

/-! ### Handover -/

/-- A handover whose due instant has passed leaves the lane the leader (R304). -/
theorem Lane.handTimeout_due {t : Nat} (ht : l.gl.handDue = some t) (hd : t ≤ l.now) (hs : l.rd GL_STAT_TSTATE = tsHanding) :
    l.handTimeout =
      let a := Lane.wr { l with gl := { l.gl with handDue := none } } GL_STAT_TSTATE tsLeader
      ((a.set GL_STAT_HANDFAIL).raise srcGL 10 clsCE none a.gl.handTo).tokenCheck := by
  simp only [Lane.handTimeout, ht, hs, Lane.due, decide_eq_true hd, and_self, if_true]

theorem Lane.handTimeout_ignored (h : ∀ t, l.gl.handDue = some t → l.now < t ∨ l.rd GL_STAT_TSTATE ≠ tsHanding) :
    l.handTimeout = l := by
  cases ht : l.gl.handDue with
  | none => simp only [Lane.handTimeout, ht]
  | some t =>
    have hnot : ¬ (l.rd GL_STAT_TSTATE = tsHanding ∧ l.due t = true) :=
      fun ⟨hs, hd⟩ => (h t ht).elim (Nat.not_lt.mpr (of_decide_eq_true hd)) (· hs)
    simp only [Lane.handTimeout, ht, if_neg hnot]

/-- Settles O27: each command is an operation of the Guyline, case by case; a SYNC is first passed on, then heeded or not. -/
theorem guylineLinkCommandsComplete : Obligations.GuylineLinkCommandsComplete := by
  unfold Obligations.GuylineLinkCommandsComplete
  intro s i hr l
  refine ⟨fun p => ⟨fun h => State.actD_to hr (l.linkLoss_locked p h), fun h => State.actD_to hr (if_pos h),
      fun h => State.actD_ignored hr (if_neg (ne_true_of_eq_false h)),
      fun ns ht hl hu => State.actD_to hr ((if_pos ht).trans (l.linkUp_locked p _ hl hu)),
      fun h => State.actD_ignored hr (l.linkLoss_unlocked p h), fun ns h => State.actD_ignored hr ?_,
      fun m => ⟨fun hb => State.actD_to hr (Lane.glPass_malformed hb), fun hb ho => State.actD_ignored hr (Lane.glPass_left hb ho),
        fun hb ho => State.actD_to hr (Lane.glPass_forward hb ho)⟩,
      fun j dly own => ⟨fun h => State.actD_to hr (Lane.syncIn_noTick h), fun tick ht =>
        ⟨fun h => State.actD_to hr (Lane.syncIn_unheeded ht h), fun hl hj hd => ?_⟩⟩⟩,
    fun h => State.actD_ignored hr (l.heartDue_early h), fun t ht hd => State.actD_to hr (l.heartDue_due ht hd),
    fun hs hw => State.actD_to hr (l.windowEnd_due hs hw), fun h => State.actD_ignored hr (l.windowEnd_ignored h),
    fun h => State.actD_ignored hr (l.voteTimeout_ignored h), fun h => State.actD_ignored hr (l.handTimeout_ignored h),
    fun hm hv hs hw hh => State.actD_to hr (l.voteTimeout_due hm hv hs hw hh),
    fun t ht hd hs => State.actD_to hr (l.handTimeout_due ht hd hs),
    State.actD_to hr rfl, State.actD_to hr rfl, State.actD_to hr rfl,
    fun h => ⟨State.actD_to hr (if_pos h), fun t => State.actD_to hr (if_pos h)⟩,
    fun h => ⟨State.actD_ignored hr (if_neg (ne_true_of_eq_false h)),
      fun t => State.actD_ignored hr (if_neg (ne_true_of_eq_false h))⟩⟩
  · by_cases ht : l.training = true
    · exact (if_pos ht).trans (l.linkUp_ignored p _ (h.resolve_left (by simp [ht])))
    · exact if_neg ht
  · have hsync := Lane.syncIn_heeded ht hl hj hd
    refine ⟨fun h => State.actD_to hr (hsync.trans ?_), fun hstep => State.actD_to hr (hsync.trans ?_)⟩
    · by_cases hstep : (l.syncPassed p j dly.toNat own).gl.step = true
      · exact congrArg (fun a : Lane => a.put GL_STAT_ALIGN _) (if_pos hstep)
      · exact congrArg (fun a : Lane => a.put GL_STAT_ALIGN _)
          ((if_neg hstep).trans (Lane.tickMove_whole _ ht (h.resolve_left hstep)))
    · exact congrArg (fun a : Lane => a.put GL_STAT_ALIGN _) (if_neg (ne_true_of_eq_false hstep))

end Sys2Proof.Machine
end

section
/-!
SUPPORT. The fault collector: what an acceptance counts and latches, and what each command of the collector and of the memories does,
case by case (spec/09_fault_collection.md R319 to R325, R334, R335).
-/

namespace Sys2Proof.Machine

variable (l : Lane)

/-! ### Fields that share no bit -/

/-- Two fields share no bit: they stand in two registers, or apart in one. -/
abbrev Fld.apart (f g : Fld) : Prop := f.addr ≠ g.addr ∨ f.lo + f.w ≤ g.lo ∨ g.lo + g.w ≤ f.lo

theorem Lane.rd_lt (f : Fld) : l.rd f < 2 ^ f.w := by
  rw [Lane.rd, getBits_eq]
  exact Nat.mod_lt _ (Nat.two_pow_pos _)

/-- A register that is one field holds the value of that field. -/
theorem Lane.reg_of_whole (f : Fld) (h : f.lo = 0 ∧ f.w = 64) : l.reg f.addr = BitVec.ofNat 64 (l.rd f) := by
  rw [Lane.rd, getBits_eq, h.1, h.2, Nat.pow_zero, Nat.div_one, Nat.mod_eq_of_lt (BitVec.isLt _), BitVec.ofNat_toNat, BitVec.setWidth_eq]

theorem Lane.reg_wr_whole (f : Fld) (v : Nat) (h : f.lo = 0 ∧ f.w = 64) : (l.wr f v).reg f.addr = BitVec.ofNat 64 v := by
  rw [Lane.reg_of_whole _ f h, l.rd_wr f v (by omega), h.2]
  exact BitVec.eq_of_toNat_eq (by simp)

theorem Lane.rd_wr_apart {f g : Fld} (v : Nat) (h : g.apart f) : (l.wr f v).rd g = l.rd g :=
  h.elim (l.rd_wr_ne f g v) fun h => l.rd_wr_disj f g v h.symm

theorem Lane.rd_bump_apart {f g : Fld} (h : g.apart f) : (l.bump f).rd g = l.rd g := by
  unfold Lane.bump
  split
  · exact l.rd_wr_apart _ h
  · rfl

/-- A counter steps up, to its highest value at most. -/
theorem Lane.rd_bump {f : Fld} (hf : f.lo + f.w ≤ 64) : (l.bump f).rd f = Nat.min (l.rd f + 1) (2 ^ f.w - 1) := by
  have hlt := l.rd_lt f
  unfold Lane.bump
  split
  next hroom =>
    rw [l.rd_wr f _ hf, Nat.mod_eq_of_lt hroom]
    exact (Nat.min_eq_left (Nat.le_sub_one_of_lt hroom)).symm
  next hfull =>
    have htop : l.rd f = 2 ^ f.w - 1 := by omega
    rw [htop]
    exact (Nat.min_eq_right (Nat.le_succ _)).symm

theorem Lane.rd_of_on {f : Fld} (hw : f.w = 1) (h : l.on f = true) : l.rd f = 1 := by
  have hne : l.rd f ≠ 0 := of_decide_eq_true h
  have hlt := l.rd_lt f
  rw [hw] at hlt
  omega

/-! ### The class counters, and the fields of the first message -/

/-- The counters of Table 9.3. -/
def classCnts : List Fld := [FC_CNT_CE, FC_CNT_UC, FC_CNT_FT]

theorem classCnt_mem (c : Nat) : classCnt c ∈ classCnts := by
  unfold classCnt classCnts
  split
  · simp
  · split <;> simp

theorem classCnts_place : ∀ k ∈ classCnts, k.lo + k.w ≤ 64 ∧ k.apart FC_STAT_BADCLS ∧ k.addr ≠ (SY_EVSTAT_EV 0).addr := by decide

theorem classCnts_apart : ∀ k ∈ classCnts, ∀ f ∈ classCnts, f ≠ k → f.apart k := by decide

/-- The fields that latching a message writes. -/
def firstFlds : List Fld := [FC_FIRST, FC_FIRSTTIME, FC_STAT_FIRSTV, FC_STAT_OVF]

theorem firstFlds_place : ∀ f ∈ firstFlds, f.apart FC_STAT_BADCLS ∧ f.addr ≠ (SY_EVSTAT_EV 0).addr := by decide

theorem firstFlds_apart : ∀ f ∈ firstFlds, f ≠ FC_STAT_OVF → f.apart FC_STAT_OVF := by decide

theorem classCnts_apart_firstFlds : ∀ k ∈ classCnts, ∀ f ∈ firstFlds, k.apart f ∧ f.apart k := by decide

/-! ### The two parts of an acceptance (R324) -/

variable (m : Word)

/-- A message noted as the last accepted. -/
def Lane.accNoted (l : Lane) (m : Word) : Lane :=
  { l with fc := { l.fc with acc := some ⟨l.accCycle, m, l.ntime, !l.on FC_STAT_FIRSTV, l.on FC_STAT_OVF⟩ } }

/-- BADCLS set for a message of class 0b00. -/
def Lane.clsMarked (l : Lane) (m : Word) : Lane := if msgClass m = 0 then l.set FC_STAT_BADCLS else l

/-- A message noted and counted in its class, and the event of UC driven. -/
def Lane.counted (l : Lane) (m : Word) : Lane :=
  let l := ((l.accNoted m).clsMarked m).bump (classCnt (takenClass m))
  if takenClass m = clsUC then l.event 2 else l

/-- A message latched as the first, or OVF set. -/
def Lane.latched (l : Lane) (m : Word) : Lane :=
  if l.on FC_STAT_FIRSTV then (if l.on FC_STAT_OVF then l else (l.set FC_STAT_OVF).event 1)
  else (((l.wr FC_FIRST m.toNat).wr FC_FIRSTTIME l.ntime).set FC_STAT_FIRSTV).event 0

/-- An acceptance counts, then latches (R324). -/
theorem Lane.latchMsg_eq : l.latchMsg m = (l.counted m).latched m := rfl

/-! ### What the two parts leave unchanged -/

/-- A lane that differs from another in its registers and its flow scheduler alone. -/
def Lane.RegsOnly (l t : Lane) : Prop := ∃ r c, t = { l with regs := r, sc := c }

section
variable {l} {t u : Lane}

theorem Lane.RegsOnly.refl (l : Lane) : l.RegsOnly l := ⟨l.regs, l.sc, rfl⟩

theorem Lane.RegsOnly.trans (h : l.RegsOnly t) (k : t.RegsOnly u) : l.RegsOnly u := by
  obtain ⟨r, c, rfl⟩ := h
  obtain ⟨r', c', rfl⟩ := k
  exact ⟨r', c', rfl⟩

theorem Lane.RegsOnly.wr (h : l.RegsOnly t) (f : Fld) (v : Nat) : l.RegsOnly (t.wr f v) := h.trans ⟨_, t.sc, rfl⟩

theorem Lane.RegsOnly.bump (h : l.RegsOnly t) (f : Fld) : l.RegsOnly (t.bump f) := by
  obtain ⟨r, e, _⟩ := t.bump_form f
  exact h.trans ⟨r, t.sc, e⟩

theorem Lane.RegsOnly.event (h : l.RegsOnly t) (n : Nat) : l.RegsOnly (t.event n) := by
  obtain ⟨r, c, e, _⟩ := t.event_form n
  exact h.trans ⟨r, c, e⟩

theorem Lane.RegsOnly.ntime (h : l.RegsOnly t) : t.ntime = l.ntime := by
  obtain ⟨r, c, rfl⟩ := h
  rfl

theorem Lane.RegsOnly.accDone (h : l.RegsOnly t) : t.accDone = l.accDone := by
  obtain ⟨r, c, rfl⟩ := h
  rfl

end

theorem Lane.clsMarked_regsOnly : l.RegsOnly (l.clsMarked m) := by
  unfold Lane.clsMarked
  split
  · exact (Lane.RegsOnly.refl l).wr FC_STAT_BADCLS 1
  · exact .refl l

theorem Lane.counted_regsOnly : (l.accNoted m).RegsOnly (l.counted m) := by
  have hbump := ((l.accNoted m).clsMarked_regsOnly m).bump (classCnt (takenClass m))
  unfold Lane.counted
  dsimp only
  split
  · exact hbump.event 2
  · exact hbump

theorem Lane.latched_regsOnly : l.RegsOnly (l.latched m) := by
  have hstart := Lane.RegsOnly.refl l
  unfold Lane.latched
  split
  · split
    · exact hstart
    · exact (hstart.wr FC_STAT_OVF 1).event 1
  · exact (((hstart.wr FC_FIRST _).wr FC_FIRSTTIME _).wr FC_STAT_FIRSTV 1).event 0

theorem Lane.accDone_accNoted : (l.accNoted m).accDone = true := decide_eq_true rfl

/-- A message has been accepted in the cycle of an acceptance (R319). -/
theorem Lane.accDone_latchMsg : (l.latchMsg m).accDone = true :=
  ((l.counted_regsOnly m).trans ((l.counted m).latched_regsOnly m)).accDone.trans (l.accDone_accNoted m)

section
variable {f : Fld}

theorem Lane.rd_clsMarked (hb : f.apart FC_STAT_BADCLS) : (l.clsMarked m).rd f = l.rd f := by
  unfold Lane.clsMarked
  split
  · exact l.rd_wr_apart 1 hb
  · rfl

/-- Beside the event bits, a message counted leaves what the step of its class counter leaves. -/
theorem Lane.rd_counted_eq_bump (he : f.addr ≠ (SY_EVSTAT_EV 0).addr) :
    (l.counted m).rd f = (((l.accNoted m).clsMarked m).bump (classCnt (takenClass m))).rd f := by
  unfold Lane.counted
  dsimp only
  split
  · exact Lane.rd_event_ne _ 2 f he
  · rfl

theorem Lane.rd_counted (hb : f.apart FC_STAT_BADCLS) (hk : f.apart (classCnt (takenClass m)))
    (he : f.addr ≠ (SY_EVSTAT_EV 0).addr) : (l.counted m).rd f = l.rd f :=
  calc (l.counted m).rd f
      = (((l.accNoted m).clsMarked m).bump (classCnt (takenClass m))).rd f := l.rd_counted_eq_bump m he
    _ = ((l.accNoted m).clsMarked m).rd f := Lane.rd_bump_apart _ hk
    _ = l.rd f := Lane.rd_clsMarked _ m hb

/-- The counter of its class takes a message (R324). -/
theorem Lane.rd_counted_class :
    (l.counted m).rd (classCnt (takenClass m)) =
      Nat.min (l.rd (classCnt (takenClass m)) + 1) (2 ^ (classCnt (takenClass m)).w - 1) := by
  have hk := classCnt_mem (takenClass m)
  obtain ⟨hfit, hb, he⟩ := classCnts_place _ hk
  rw [l.rd_counted_eq_bump m he, Lane.rd_bump _ hfit, Lane.rd_clsMarked _ m hb]
  rfl

/-- Latching a message leaves the counters. -/
theorem Lane.rd_latched_class (hf : f ∈ classCnts) : (l.latched m).rd f = l.rd f := by
  obtain ⟨_, _, he⟩ := classCnts_place f hf
  have hg : ∀ g ∈ firstFlds, f.apart g := fun g h => (classCnts_apart_firstFlds f hf g h).1
  unfold Lane.latched
  split
  · split
    · rfl
    · exact (Lane.rd_event_ne _ 1 f he).trans (l.rd_wr_apart 1 (hg _ (by decide)))
  · exact (Lane.rd_event_ne _ 0 f he).trans ((Lane.rd_wr_apart _ 1 (hg _ (by decide))).trans
      ((Lane.rd_wr_apart _ _ (hg _ (by decide))).trans (l.rd_wr_apart _ (hg _ (by decide)))))

end

theorem Lane.latched_first (h : l.rd FC_STAT_FIRSTV = 0) :
    l.latched m = (((l.wr FC_FIRST m.toNat).wr FC_FIRSTTIME l.ntime).set FC_STAT_FIRSTV).event 0 :=
  if_neg (by simp [Lane.on, h])

theorem Lane.latched_again (h : l.rd FC_STAT_FIRSTV = 1) :
    l.latched m = if l.on FC_STAT_OVF then l else (l.set FC_STAT_OVF).event 1 :=
  if_pos (by simp [Lane.on, h])

/-- A message that is not the first changes nothing of the first but OVF. -/
theorem Lane.rd_latched_again (h : l.rd FC_STAT_FIRSTV = 1) {f : Fld} (hf : f ∈ firstFlds) (ho : f ≠ FC_STAT_OVF) :
    (l.latched m).rd f = l.rd f := by
  rw [l.latched_again m h]
  split
  · rfl
  · exact (Lane.rd_event_ne _ 1 f (firstFlds_place f hf).2).trans (l.rd_wr_apart 1 (firstFlds_apart f hf ho))

theorem Lane.rd_overflow_latched_again (h : l.rd FC_STAT_FIRSTV = 1) : (l.latched m).rd FC_STAT_OVF = 1 := by
  rw [l.latched_again m h]
  split
  next hset => exact l.rd_of_on rfl hset
  next => exact (Lane.rd_event_ne _ 1 _ (by decide)).trans (l.rd_wr FC_STAT_OVF 1 (by decide))

/-! ### An acceptance -/

/-- Counting leaves what latching writes. -/
theorem Lane.rd_counted_first {f : Fld} (hf : f ∈ firstFlds) : (l.counted m).rd f = l.rd f := by
  obtain ⟨hb, he⟩ := firstFlds_place f hf
  exact l.rd_counted m hb (classCnts_apart_firstFlds _ (classCnt_mem _) f hf).2 he

/-- The counter of its class steps up, to its highest value at most (R324). -/
theorem Lane.rd_latchMsg_class :
    (l.latchMsg m).rd (classCnt (takenClass m)) =
      Nat.min (l.rd (classCnt (takenClass m)) + 1) (2 ^ (classCnt (takenClass m)).w - 1) :=
  ((l.counted m).rd_latched_class m (classCnt_mem _)).trans (l.rd_counted_class m)

/-- The counters of the other classes stay. -/
theorem Lane.rd_latchMsg_otherClass {f : Fld} (hf : f ∈ classCnts) (h : f ≠ classCnt (takenClass m)) :
    (l.latchMsg m).rd f = l.rd f := by
  obtain ⟨_, hb, he⟩ := classCnts_place f hf
  exact ((l.counted m).rd_latched_class m hf).trans (l.rd_counted m hb (classCnts_apart _ (classCnt_mem _) f hf h) he)

/-- With FIRSTV = 0 the message and the lane's time are latched, and FIRSTV set (R324). -/
theorem Lane.latchMsg_first (h : l.rd FC_STAT_FIRSTV = 0) :
    (l.latchMsg m).reg FC_FIRST.addr = m ∧ (l.latchMsg m).reg FC_FIRSTTIME.addr = BitVec.ofNat 64 l.ntime ∧
      (l.latchMsg m).rd FC_STAT_FIRSTV = 1 ∧ (l.latchMsg m).rd FC_STAT_OVF = l.rd FC_STAT_OVF := by
  have hlatch : l.latchMsg m =
      ((((l.counted m).wr FC_FIRST m.toNat).wr FC_FIRSTTIME (l.counted m).ntime).set FC_STAT_FIRSTV).event 0 :=
    (l.latchMsg_eq m).trans ((l.counted m).latched_first m ((l.rd_counted_first m (by decide)).trans h))
  have htime : (l.counted m).ntime = l.ntime := (l.counted_regsOnly m).ntime
  rw [hlatch, htime]
  refine ⟨?_, ?_, ?_, ?_⟩
  · rw [Lane.reg_event_ne _ 0 _ (by decide), Lane.set, Lane.reg_wr_ne _ _ _ _ (by decide), Lane.reg_wr_ne _ _ _ _ (by decide),
      Lane.reg_wr_whole _ _ _ (by decide), BitVec.ofNat_toNat, BitVec.setWidth_eq]
  · rw [Lane.reg_event_ne _ 0 _ (by decide), Lane.set, Lane.reg_wr_ne _ _ _ _ (by decide), Lane.reg_wr_whole _ _ _ (by decide)]
  · rw [Lane.rd_event_ne _ 0 _ (by decide), Lane.set, Lane.rd_wr _ _ _ (by decide)]
    rfl
  · rw [Lane.rd_event_ne _ 0 _ (by decide), Lane.set, Lane.rd_wr_apart _ _ (by decide), Lane.rd_wr_apart _ _ (by decide),
      Lane.rd_wr_apart _ _ (by decide), l.rd_counted_first m (by decide)]

/-- With FIRSTV = 1 the first message and its time stay, and OVF is set (R324). -/
theorem Lane.latchMsg_again (h : l.rd FC_STAT_FIRSTV = 1) :
    (l.latchMsg m).reg FC_FIRST.addr = l.reg FC_FIRST.addr ∧ (l.latchMsg m).reg FC_FIRSTTIME.addr = l.reg FC_FIRSTTIME.addr ∧
      (l.latchMsg m).rd FC_STAT_FIRSTV = 1 ∧ (l.latchMsg m).rd FC_STAT_OVF = 1 := by
  have hv : (l.counted m).rd FC_STAT_FIRSTV = 1 := (l.rd_counted_first m (by decide)).trans h
  have hkeeps : ∀ f ∈ firstFlds, f ≠ FC_STAT_OVF → (l.latchMsg m).rd f = l.rd f := fun f hf ho =>
    ((l.counted m).rd_latched_again m hv hf ho).trans (l.rd_counted_first m hf)
  refine ⟨?_, ?_, (hkeeps _ (by decide) (by decide)).trans h, (l.counted m).rd_overflow_latched_again m hv⟩
  · rw [Lane.reg_of_whole _ _ (by decide), Lane.reg_of_whole _ _ (by decide), hkeeps _ (by decide) (by decide)]
  · rw [Lane.reg_of_whole _ _ (by decide), Lane.reg_of_whole _ _ (by decide), hkeeps _ (by decide) (by decide)]

/-! ### The collector's commands -/

section
variable {l} {k : Msg} {r : List Msg}

/-- The message next in order is latched, and an FT that is not suppressed has its fatal reaction (R319, R324, R326). -/
theorem Lane.acceptMsg_next (hd : l.accDone = false) (hn : nextMsg l.fc.wait = some (k, r)) :
    l.acceptMsg =
      let a := ({ l with fc := { l.fc with wait := r } }).latchMsg k.bits
      if takenClass k.bits = clsFT ∧ k.supp = false then a.fatal k.bits else a := by
  simp only [Lane.acceptMsg, hd, hn, Bool.false_eq_true, if_false]

theorem Lane.acceptMsg_none (hn : nextMsg l.fc.wait = none) : l.acceptMsg = l := by
  simp only [Lane.acceptMsg, hn, ite_self]

theorem Lane.acceptMsg_done (h : l.accDone = true) : l.acceptMsg = l := if_pos h

/-- The FT of the clock monitor, which the collector takes with the PLL root lost (R321). -/
def clockFt (k : Msg) : Bool := msgSrc k.bits = srcCK && msgKind k.bits = 1 && takenClass k.bits = clsFT

theorem Lane.acceptLpo_next (hd : l.accDone = false) (hn : l.fc.wait.find? clockFt = some k) :
    l.acceptLpo =
      let a := ({ l with fc := { l.fc with wait := l.fc.wait.filter (fun j => j ≠ k) } }).latchMsg k.bits
      if k.supp then a else a.fatal k.bits := by
  unfold clockFt at hn
  simp only [Lane.acceptLpo, hd, hn, Bool.false_eq_true, if_false]

theorem Lane.acceptLpo_none (hn : l.fc.wait.find? clockFt = none) : l.acceptLpo = l := by
  unfold clockFt at hn
  simp only [Lane.acceptLpo, hn, ite_self]

theorem Lane.acceptLpo_done (h : l.accDone = true) : l.acceptLpo = l := if_pos h

/-- What the collector does in its cycle, by the clock that it runs from (R319, R321). -/
def Lane.collect (l : Lane) : Lane := if l.pw.rootLost then l.acceptLpo else l.acceptMsg

theorem Lane.collect_root (h : l.pw.rootLost = false) : l.collect = l.acceptMsg := if_neg (ne_true_of_eq_false h)

theorem Lane.collect_lpo (h : l.pw.rootLost = true) : l.collect = l.acceptLpo := if_pos h

theorem Lane.collect_done (h : l.accDone = true) : l.collect = l := by
  unfold Lane.collect
  split
  · exact Lane.acceptLpo_done h
  · exact Lane.acceptMsg_done h

theorem Lane.collect_none (hr : l.pw.rootLost = false → nextMsg l.fc.wait = none)
    (hl : l.pw.rootLost = true → l.fc.wait.find? clockFt = none) : l.collect = l := by
  cases h : l.pw.rootLost with
  | false => exact (Lane.collect_root h).trans (Lane.acceptMsg_none (hr h))
  | true => exact (Lane.collect_lpo h).trans (Lane.acceptLpo_none (hl h))

theorem exec_faultMessageAccept_to {s : State} {i : LaneId} {t : Lane} (h : s.ready i .collector) (ht : (s.lane i).collect = t) :
    exec (.faultMessageAccept i) s = .next (s.setLane i t) :=
  calc exec (.faultMessageAccept i) s
      = .next (s.inLane i Lane.collect) :=
        (execFaultMessageAccept_gate s i).trans (congrArg Host.Outcome.next (State.onLane_ready s i .collector Lane.collect h))
    _ = .next (s.setLane i t) := by rw [State.inLane, ht]

theorem exec_faultMessageAccept_ignored {s : State} {i : LaneId} (h : s.ready i .collector) (ht : (s.lane i).collect = s.lane i) :
    exec (.faultMessageAccept i) s = .next s := by
  rw [exec_faultMessageAccept_to h ht, State.setLane_lane]

/-- At most one message is accepted per cycle, whatever clocks the lane has (R319). -/
theorem exec_faultMessageAccept_done {s : State} {i : LaneId} (h : (s.lane i).accDone = true) :
    exec (.faultMessageAccept i) s = .next s := by
  have hkept : (if Gate.collector.holds (s.lane i) then (s.lane i).collect else s.lane i) = s.lane i := by
    rw [Lane.collect_done h, ite_self]
  refine (execFaultMessageAccept_gate s i).trans (congrArg Host.Outcome.next ?_)
  unfold State.onLane
  split
  · exact (congrArg (s.setLane i) hkept).trans (s.setLane_lane i)
  · rfl

/-- The collector runs on a lane with CP ON. -/
theorem State.ready_collector {s : State} {i : LaneId} (h : s.ready i (.domain .cp)) : s.ready i .collector := by
  have hcp := h.2
  simp only [Gate.holds, Lane.clocked, Bool.and_eq_true] at hcp
  obtain ⟨⟨hheld, hstop⟩, hon⟩ := hcp
  exact ⟨h.1, by simp [Gate.holds, hheld, hstop, hon]⟩

theorem Lane.rearm_idle (h : l.accDone = false) : l.rearm = l.clr FC_STAT_FIRSTV := by
  unfold Lane.rearm
  split
  · exact if_pos h
  · rfl

variable {a : Accepted}

theorem Lane.rearm_first (ha : l.fc.acc = some a) (hd : l.accDone = true) (hf : a.first = true) : l.rearm = l := by
  simp only [Lane.rearm, ha, hd, hf, Bool.true_eq_false, if_false, if_true]

/-- A message accepted earlier in the cycle of REARM becomes the first (R325). -/
theorem Lane.rearm_later (ha : l.fc.acc = some a) (hd : l.accDone = true) (hf : a.first = false) :
    l.rearm =
      let b : Lane := { l with fc := { l.fc with acc := some { a with first := true } } }
      ((((b.wr FC_FIRST a.bits.toNat).wr FC_FIRSTTIME a.time).set FC_STAT_FIRSTV).put FC_STAT_OVF a.ovf).event 0 := by
  simp only [Lane.rearm, ha, hd, hf, Bool.true_eq_false, Bool.false_eq_true, if_false]

end

/-! ### Errors of the memories (R323) -/

section
variable (a : Nat)

theorem Lane.eccError_tcm_corrected : l.eccError .tcm true a = l.raiseOnce srcTM 1 clsCE none a := by
  simp only [Lane.eccError, if_true]

theorem Lane.eccError_tcm_uncorrected : l.eccError .tcm false a = l.raise srcTM 2 clsFT none a := by
  simp only [Lane.eccError, Bool.false_eq_true, if_false]

theorem Lane.eccError_mram_corrected : l.eccError .mram true a = l.raiseOnce srcMC 1 clsCE none a := by
  simp only [Lane.eccError, if_true]

theorem Lane.eccError_mram_uncorrected : l.eccError .mram false a = (l.raise srcMC 2 clsUC none a).busError := by
  simp only [Lane.eccError, Bool.false_eq_true, if_false]

theorem Lane.eccError_hamper_corrected :
    l.eccError .hamper true a = (l.raiseOnce srcHQ 2 clsCE none (a / 64 % 4096)).event 145 := by
  simp only [Lane.eccError, if_true]

theorem Lane.eccError_hamper_uncorrected :
    l.eccError .hamper false a = ((l.raise srcHQ 3 clsUC none (a / 64 % 4096)).event 145).busError := by
  simp only [Lane.eccError, Bool.false_eq_true, if_false]

end

/-- Settles O47: an acceptance counts a message in its class, then latches it as the first or sets OVF; neither part touches what the other
one writes. -/
theorem firstMessageIsLatched : Obligations.FirstMessageIsLatched := by
  unfold Obligations.FirstMessageIsLatched
  intro s i m r hr l hroot hdone hnext c k
  have hready := State.ready_collector hr
  let w : Lane := { l with fc := { l.fc with wait := r } }
  refine ⟨exec_faultMessageAccept_to hready ((Lane.collect_root hroot).trans (Lane.acceptMsg_next hdone hnext)),
    w.latchMsg_first m.bits, w.latchMsg_again m.bits, w.rd_latchMsg_class m.bits, fun f hf hk => w.rd_latchMsg_otherClass m.bits hf hk,
    ⟨l.clr FC_STAT_FIRSTV, State.actD_to hr (Lane.rearm_idle hdone), l.rd_wr FC_STAT_FIRSTV 0 (by decide)⟩,
    fun _ => exec_faultMessageAccept_done ?_⟩
  rw [State.lane_setLane]
  exact w.accDone_latchMsg m.bits

/-- Settles O29: each acceptance is of the message next in order, by the clock that runs; REARM goes by what was accepted in the cycle; the
memory and bus faults are their operations. -/
theorem faultCommandsComplete : Obligations.FaultCommandsComplete := by
  unfold Obligations.FaultCommandsComplete
  intro s i l
  refine ⟨fun hr => ⟨fun m r hd hroot hn => ?_, fun m hd hlost hn => ?_, exec_faultMessageAccept_done,
      fun hroot hlost => exec_faultMessageAccept_ignored hr (Lane.collect_none hroot hlost)⟩,
    fun hr => ⟨fun hd => State.actD_to hr (Lane.rearm_idle hd),
      fun a ha hd => ⟨fun hf => State.actD_ignored hr (Lane.rearm_first ha hd hf),
        fun hf => State.actD_to hr (Lane.rearm_later ha hd hf)⟩,
      State.actD_to hr rfl, fun supp ho => State.actD_to hr (if_pos ho),
      fun supp ho => State.actD_ignored hr (if_neg (ne_true_of_eq_false ho)),
      fun a => ⟨State.actD_to hr (l.eccError_tcm_corrected _), State.actD_to hr (l.eccError_tcm_uncorrected _),
        State.actD_to hr (l.eccError_mram_corrected _), State.actD_to hr (l.eccError_mram_uncorrected _),
        State.actD_to hr (l.eccError_hamper_corrected _), State.actD_to hr (l.eccError_hamper_uncorrected _),
        State.actD_to hr rfl, State.actD_to hr rfl⟩,
      fun c => State.actD_to hr rfl⟩⟩
  · have haccept : l.collect = _ := (Lane.collect_root hroot).trans (Lane.acceptMsg_next hd hn)
    refine ⟨fun hc hs => exec_faultMessageAccept_to hr (haccept.trans (if_pos ⟨hc, hs⟩)),
      fun h => exec_faultMessageAccept_to hr (haccept.trans (if_neg fun ⟨hc, hs⟩ => ?_))⟩
    exact h.elim (· hc) (ne_true_of_eq_false hs)
  · have haccept : l.collect = _ := (Lane.collect_lpo hlost).trans (Lane.acceptLpo_next hd hn)
    exact ⟨fun hs => exec_faultMessageAccept_to hr (haccept.trans (if_neg (ne_true_of_eq_false hs))),
      fun hs => exec_faultMessageAccept_to hr (haccept.trans (if_pos hs))⟩

end Sys2Proof.Machine
end

section
/-!
SUPPORT. The Lantern, its tends and the watch of the neighbours' Lanterns: what each command does, case by case
(spec/09_fault_collection.md R329 to R333, Table 9.7).
-/

namespace Sys2Proof.Machine

variable {l : Lane}

/-! ### The own Lantern (R329, R330) -/

section
variable {t : Nat}

/-- At a toggle instant while RUN the level inverts, and the next instant is half a period on. -/
theorem Lane.lantToggle_run (ht : l.fc.lantNext = some t) (hd : t ≤ l.now) (hr : l.on FC_LANTSTAT_RUN = true) :
    l.lantToggle =
      Lane.wr { l with fc := { l.fc with lantNext := some (t + l.lantPer / 2) } } FC_LANTSTAT_LEVEL (1 - l.rd FC_LANTSTAT_LEVEL) := by
  simp only [Lane.lantToggle, ht, l.due_of_le hd, hr, if_true]

theorem Lane.lantToggle_stopped (ht : l.fc.lantNext = some t) (hd : t ≤ l.now) (hr : l.on FC_LANTSTAT_RUN = false) :
    l.lantToggle = l.lantLow := by
  simp only [Lane.lantToggle, ht, l.due_of_le hd, hr, if_true, Bool.false_eq_true, if_false]

theorem Lane.lantToggle_early (h : ∀ t, l.fc.lantNext = some t → l.now < t) : l.lantToggle = l := by
  cases ht : l.fc.lantNext with
  | none => simp only [Lane.lantToggle, ht]
  | some t => simp only [Lane.lantToggle, ht, l.not_due_of_lt (h t ht), Bool.false_eq_true, if_false]

end

/-! ### Tends (R331) -/

section
variable {key : Nat}

theorem Lane.tend_unwatched (h : l.fc.tendWatch = false) : l.tend key = l := if_pos h

variable (hw : l.fc.tendWatch = true)
include hw

theorem Lane.tend_wrongKey (hk : key ≠ 255 - l.rd FC_LANTSTAT_LASTKEY) : l.tend key = l.tendFault 4 key :=
  (if_neg (by simp [hw])).trans (if_pos hk)

variable (hk : key = 255 - l.rd FC_LANTSTAT_LASTKEY)
include hk

/-- A tend with the right key is judged by its time. -/
theorem Lane.tend_rightKey :
    l.tend key =
      if l.fc.tended ∧ l.now < l.fc.tendAt + l.tendMin then l.tendFault 5 key
      else if l.fc.tendAt + l.tendMax + cycPer ≤ l.now then l.tendFault 3 key
      else
        (Lane.wr { l with fc := { l.fc with tendAt := l.now, tended := true } } FC_LANTSTAT_LASTKEY key).when
          (l.inExpiry (l.fc.tendAt + l.tendMax) cycPer) (fun l => l.set FC_LANTSTAT_LATE) :=
  (if_neg (by simp [hw])).trans (if_neg (not_not_intro hk))

theorem Lane.tend_early (ht : l.fc.tended = true) (hn : l.now < l.fc.tendAt + l.tendMin) : l.tend key = l.tendFault 5 key :=
  (Lane.tend_rightKey hw hk).trans (if_pos ⟨ht, hn⟩)

variable (hlong : l.fc.tended = false ∨ l.fc.tendAt + l.tendMin ≤ l.now)
include hlong

/-- A tend that is not early faults or is accepted by TMAX. -/
theorem Lane.tend_notEarly :
    l.tend key =
      if l.fc.tendAt + l.tendMax + cycPer ≤ l.now then l.tendFault 3 key
      else
        (Lane.wr { l with fc := { l.fc with tendAt := l.now, tended := true } } FC_LANTSTAT_LASTKEY key).when
          (l.inExpiry (l.fc.tendAt + l.tendMax) cycPer) (fun l => l.set FC_LANTSTAT_LATE) :=
  (Lane.tend_rightKey hw hk).trans
    (if_neg fun ⟨ht, hn⟩ => hlong.elim (fun h => ne_true_of_eq_false h ht) (Nat.not_le.mpr hn))

theorem Lane.tend_late (hn : l.fc.tendAt + l.tendMax + cycPer ≤ l.now) : l.tend key = l.tendFault 3 key :=
  (Lane.tend_notEarly hw hk hlong).trans (if_pos hn)

theorem Lane.tend_accepted (hn : l.now < l.fc.tendAt + l.tendMax) :
    l.tend key = Lane.wr { l with fc := { l.fc with tendAt := l.now, tended := true } } FC_LANTSTAT_LASTKEY key := by
  have hnot : l.inExpiry (l.fc.tendAt + l.tendMax) cycPer = false := by
    simp [Lane.inExpiry, Nat.not_le.mpr hn]
  rw [Lane.tend_notEarly hw hk hlong, if_neg (by omega), hnot]
  rfl

/-- A tend in the CLK_PER cycle in which TMAX passes is accepted, with LATE (R13). -/
theorem Lane.tend_acceptedLate (hn : l.fc.tendAt + l.tendMax ≤ l.now) (hc : l.now < l.fc.tendAt + l.tendMax + cycPer) :
    l.tend key =
      (Lane.wr { l with fc := { l.fc with tendAt := l.now, tended := true } } FC_LANTSTAT_LASTKEY key).set FC_LANTSTAT_LATE := by
  have hin : l.inExpiry (l.fc.tendAt + l.tendMax) cycPer = true := by
    simp [Lane.inExpiry, hn, hc]
  rw [Lane.tend_notEarly hw hk hlong, if_neg (Nat.not_le.mpr hc), hin]
  rfl

end

theorem Lane.tendExpiry_due (hw : l.fc.tendWatch = true) (hd : l.fc.tendAt + l.tendMax ≤ l.now) : l.tendExpiry = l.tendFault 3 0 :=
  if_pos (by simp [hw, l.due_of_le hd])

theorem Lane.tendExpiry_ignored (h : l.fc.tendWatch = false ∨ l.now < l.fc.tendAt + l.tendMax) : l.tendExpiry = l := by
  refine if_neg fun hc => ?_
  obtain ⟨hw, hd⟩ := Bool.and_eq_true_iff.mp hc
  exact h.elim (fun h => ne_true_of_eq_false h hw) (fun h => ne_true_of_eq_false (l.not_due_of_lt h) hd)

/-! ### The watch of a neighbour (R332, R333) -/

section
variable {p : Port}

/-- Whether a spacing between two edges is valid: P/4 at least, and no more than 3P/4, with the CLK_PER cycle in which it passes. -/
def Lane.spacingValid (l : Lane) (gap : Nat) : Bool := decide (l.lantPer ≤ 4 * gap) && decide (4 * gap < 3 * l.lantPer + 4 * cycPer)

/-- Whether an edge of a neighbour ends a valid spacing. -/
def Lane.edgeValid (l : Lane) (p : Port) : Bool := (l.fc.watch p).edgeAt.any (fun t => l.spacingValid (l.now - t))

/-- An edge noted, with the count of valid spacings. -/
def Lane.edgeNoted (l : Lane) (p : Port) : Lane :=
  l.setWatch p { edgeAt := some l.now, valid := if l.edgeValid p then Nat.min 4 ((l.fc.watch p).valid + 1) else 0 }

theorem Lane.edgeValid_first (h : (l.fc.watch p).edgeAt = none) : l.edgeValid p = false := by
  simp only [Lane.edgeValid, h, Option.any_none]

theorem Lane.edgeValid_again {t : Nat} (h : (l.fc.watch p).edgeAt = some t) : l.edgeValid p = l.spacingValid (l.now - t) := by
  simp only [Lane.edgeValid, h, Option.any_some]

theorem Lane.watchEdge_ignored (h : l.rd (watchFld p) = wOff ∨ l.part.hasLane (l.neighbour p) = false) : l.watchEdge p = l := if_pos h

/-- An edge is measured: it stops a watch that is TOGGLING where its spacing is not valid, and the fourth valid spacing makes another one
TOGGLING (Table 9.7). -/
theorem Lane.watchEdge_measured (hoff : l.rd (watchFld p) ≠ wOff) (hlane : l.part.hasLane (l.neighbour p) = true) :
    l.watchEdge p =
      if l.rd (watchFld p) = wToggling then (if l.edgeValid p then l.edgeNoted p else (l.edgeNoted p).watchStop p)
      else if l.edgeValid p ∧ 4 ≤ (l.fc.watch p).valid + 1 then (l.edgeNoted p).watchGo p
      else l.edgeNoted p := by
  have hruns : ¬ (l.rd (watchFld p) = wOff ∨ l.part.hasLane (l.neighbour p) = false) := by
    simp [hoff, hlane]
  rw [Lane.watchEdge, if_neg hruns]
  extract_lets w per gap short ok noted
  have hok : ok = l.edgeValid p := by
    cases he : (l.fc.watch p).edgeAt with
    | none => simp [ok, gap, w, he, Lane.edgeValid_first he]
    | some t => simp [ok, gap, w, per, he, Lane.edgeValid_again he, Lane.spacingValid]
  have hshort : (short || !l.edgeValid p) = !l.edgeValid p := by
    cases he : (l.fc.watch p).edgeAt with
    | none => simp [Lane.edgeValid_first he]
    | some t =>
      rcases Nat.lt_or_ge (4 * (l.now - t)) l.lantPer with hlt | hge
      · simp [Lane.edgeValid_again he, Lane.spacingValid, hlt]
      · have hnot : short = false := by
          simp only [short, gap, w, he, per]
          exact decide_eq_false (Nat.not_lt.mpr hge)
        rw [hnot, Bool.false_or]
  have hnoted : noted = l.edgeNoted p := by
    simp only [noted, hok, w, Lane.edgeNoted]
  simp only [hok, hshort, hnoted]
  cases l.edgeValid p with
  | false => simp
  | true => simp [w]

theorem Lane.watchTimeout_due {t : Nat} (ht : (l.fc.watch p).edgeAt = some t) (hs : l.rd (watchFld p) = wToggling)
    (hd : t + 3 * l.lantPer / 4 ≤ l.now) : l.watchTimeout p = l.watchStop p := by
  simp only [Lane.watchTimeout, ht, hs, l.due_of_le hd, and_self, if_true]

theorem Lane.watchTimeout_ignored
    (h : ∀ t, (l.fc.watch p).edgeAt = some t → l.rd (watchFld p) ≠ wToggling ∨ l.now < t + 3 * l.lantPer / 4) :
    l.watchTimeout p = l := by
  cases ht : (l.fc.watch p).edgeAt with
  | none => simp only [Lane.watchTimeout, ht]
  | some t =>
    have hnot : ¬ (l.rd (watchFld p) = wToggling ∧ l.due (t + 3 * l.lantPer / 4) = true) :=
      fun ⟨hs, hd⟩ => (h t ht).elim (· hs) (Nat.not_lt.mpr (of_decide_eq_true hd))
    simp only [Lane.watchTimeout, ht, if_neg hnot]

end

/-- Settles O30: the own Lantern and its tends go by their instants, an edge of a neighbour by the spacing that it ends. -/
theorem lanternCommandsComplete : Obligations.LanternCommandsComplete := by
  unfold Obligations.LanternCommandsComplete
  intro s i l
  refine ⟨fun hr t ht hd => ⟨fun hrun => State.act_to hr (Lane.lantToggle_run ht hd hrun),
      fun hrun => State.act_to hr (Lane.lantToggle_stopped ht hd hrun)⟩,
    fun hr h => State.act_ignored hr (Lane.lantToggle_early h),
    fun hr => ⟨fun hw key => State.actD_ignored hr (Lane.tend_unwatched hw),
      fun h => State.actD_ignored hr (Lane.tendExpiry_ignored h)⟩,
    fun hr hw => ⟨fun key => ⟨fun hk => State.actD_to hr (Lane.tend_wrongKey hw hk),
        fun hk => ⟨fun ht hn => State.actD_to hr (Lane.tend_early hw hk ht hn),
          fun hlong => ⟨fun hn => State.actD_to hr (Lane.tend_late hw hk hlong hn),
            fun hn => State.actD_to hr (Lane.tend_accepted hw hk hlong hn),
            fun hn hc => State.actD_to hr (Lane.tend_acceptedLate hw hk hlong hn hc)⟩⟩⟩,
      fun hd => State.actD_to hr (Lane.tendExpiry_due hw hd)⟩,
    fun hr p => ⟨fun h => State.actD_ignored hr (Lane.watchEdge_ignored h),
      fun h => State.actD_ignored hr (Lane.watchTimeout_ignored h)⟩,
    fun hr p hoff hlane => ⟨fun t ht => ?_, fun hnone => ?_⟩⟩
  · have hnoted : l.edgeNoted p = l.setWatch p
        { edgeAt := some l.now, valid := if l.spacingValid (l.now - t) then Nat.min 4 ((l.fc.watch p).valid + 1) else 0 } := by
      rw [Lane.edgeNoted, Lane.edgeValid_again ht]
    have hedge := Lane.watchEdge_measured hoff hlane
    rw [Lane.edgeValid_again ht, hnoted] at hedge
    refine ⟨fun hg hs => State.actD_to hr (hedge.trans ((if_pos hs).trans (if_pos hg))),
      fun hg hs hv => State.actD_to hr (hedge.trans ((if_neg hs).trans (if_pos ⟨hg, Nat.succ_le_succ hv⟩))),
      fun hg hs hv => State.actD_to hr (hedge.trans ((if_neg hs).trans (if_neg fun h => ?_))),
      fun hg hs => State.actD_to hr (hedge.trans ((if_neg hs).trans (if_neg fun h => ne_true_of_eq_false hg h.1))),
      fun hg hs => State.actD_to hr (hedge.trans ((if_pos hs).trans (if_neg (ne_true_of_eq_false hg)))),
      fun hs hd => State.actD_to hr (Lane.watchTimeout_due ht hs hd)⟩
    omega
  · have hnoted : l.edgeNoted p = l.setWatch p { edgeAt := some l.now, valid := 0 } := by
      rw [Lane.edgeNoted, Lane.edgeValid_first hnone]
      rfl
    have hedge := Lane.watchEdge_measured hoff hlane
    rw [Lane.edgeValid_first hnone, hnoted] at hedge
    exact ⟨fun hs => State.actD_to hr (hedge.trans ((if_neg hs).trans (if_neg fun h => Bool.false_ne_true h.1))),
      fun hs => State.actD_to hr (hedge.trans ((if_pos hs).trans (if_neg Bool.false_ne_true)))⟩

end Sys2Proof.Machine
end

section
/-!
SUPPORT. The dump context and the sending side of the dump engine: what each command does, case by case (spec/09_fault_collection.md R338 to
R343, Tables 9.11 and 9.12).
-/

namespace Sys2Proof.Machine

variable {l : Lane} {p : Port}

/-! ### The dump context (R338 to R340) -/

/-- A dump context that is due starts, with a split pair joined first. -/
theorem Lane.dcxStart_due (h : l.fc.dcxDue = true) :
    l.dcxStart =
      Lane.set { l.dcxJoin with
        fc := { l.dcxJoin.fc with dcxDue := false, dcxAt := l.dcxJoin.now }
        pc := { l.dcxJoin.pc with core := .dump } } FC_STAT_DCX := if_pos h

theorem Lane.dcxStart_ignored (h : l.fc.dcxDue = false) : l.dcxStart = l := if_neg (ne_true_of_eq_false h)

/-- DUMPDONE stores result 1 with path 1, and lets a waiting restart happen (R339). -/
theorem Lane.dumpDone_dump (h : l.pc.core = .dump) :
    l.dumpDone =
      let a := (Lane.clr { l with pc := { l.pc with core := .stopped } } FC_STAT_DCX).when (l.inExpiry l.dcxEnd cycBus)
        (fun l => l.set FC_STAT_LATE)
      (a.dumpResult 1 0 1 false).dumpOver := if_pos h

theorem Lane.dumpDone_ignored (h : l.pc.core ≠ .dump) : l.dumpDone = l := if_neg h

theorem Lane.dcxTimeout_due (hx : l.on FC_STAT_DCX = true) (hd : l.dcxEnd ≤ l.now) : l.dcxTimeout = l.dcxHand 4 :=
  if_pos ⟨hx, l.due_of_le hd⟩

theorem Lane.dcxTimeout_ignored (h : l.on FC_STAT_DCX = false ∨ l.now < l.dcxEnd) : l.dcxTimeout = l :=
  if_neg fun ⟨hx, hd⟩ => h.elim (fun h => ne_true_of_eq_false h hx) (fun h => ne_true_of_eq_false (l.not_due_of_lt h) hd)

/-! ### Offers and their limits (R343) -/

theorem Lane.dumpStart_due (h : l.fc.deDue = true) :
    l.dumpStart =
      Lane.dumpOffer { l with fc := { l.fc with deDue := false, tried := [], txSent := 0, txLast := none, txLate := false } } := if_pos h

theorem Lane.dumpStart_ignored (h : l.fc.deDue = false) : l.dumpStart = l := if_neg (ne_true_of_eq_false h)

theorem Lane.dumpTimeout_offered (hd : l.fc.txAt + dumpLimit ≤ l.now) (ht : l.fc.tx = .offered p) : l.dumpTimeout = l.dumpOffer := by
  simp only [Lane.dumpTimeout, l.due_of_le hd, ht, if_true]

theorem Lane.dumpTimeout_ended (hd : l.fc.txAt + dumpLimit ≤ l.now) (ht : l.fc.tx = .ended p) : l.dumpTimeout = l.dumpEnd 5 := by
  simp only [Lane.dumpTimeout, l.due_of_le hd, ht, if_true]

theorem Lane.dumpTimeout_ignored (h : l.now < l.fc.txAt + dumpLimit ∨ l.fc.tx = .idle ∨ ∃ p, l.fc.tx = .sending p) :
    l.dumpTimeout = l := by
  rcases h with h | h | ⟨p, h⟩
  · exact if_neg (ne_true_of_eq_false (l.not_due_of_lt h))
  · simp only [Lane.dumpTimeout, h, ite_self]
  · simp only [Lane.dumpTimeout, h, ite_self]

/-! ### Chunks and END (R342) -/

/-- Both links of the lane are down. -/
abbrev Lane.linksDown (l : Lane) : Prop := l.rd (GL_LINK_UP 0) = 0 ∧ l.rd (GL_LINK_UP 1) = 0

/-- The next chunk of the record leaves. -/
def Lane.chunkSent (l : Lane) (p : Port) : Lane :=
  let k := l.fc.txSent
  let a := (l.recordTouch k).glTo p tDump (l.rd GL_CYCLE) k 0 (l.recordBytes (256 * k) 256)
  { a with fc := { a.fc with txSent := k + 1, txLast := some a.now } }

/-- END leaves, with the CRC of the record. -/
def Lane.endSent (l : Lane) (p : Port) : Lane :=
  let a := l.glTo p tDump (l.rd GL_CYCLE) 0 0 (leBytes 1 4 ++ leBytes 3 0 ++ leBytes 4 (crc32c (l.recordBytes 0 l.recordLen)))
  { a with fc := { a.fc with tx := .ended p, txAt := a.now } }

theorem Lane.dumpSend_waits (h : ∀ p, l.fc.tx = .sending p → ∃ t, l.fc.txLast = some t ∧ l.now < t + dumpStep) : l.dumpSend = l := by
  cases hx : l.fc.tx with
  | sending p =>
    obtain ⟨t, ht, hn⟩ := h p hx
    simp only [Lane.dumpSend, hx, ht, l.not_due_of_lt hn, Bool.not_false, if_true]
  | idle => simp only [Lane.dumpSend, hx]
  | offered => simp only [Lane.dumpSend, hx]
  | ended => simp only [Lane.dumpSend, hx]

/-- A message that is due leaves, unless both links are down (R342). -/
theorem Lane.dumpSend_due (hx : l.fc.tx = .sending p) (hs : ∀ t, l.fc.txLast = some t → t + dumpStep ≤ l.now) :
    l.dumpSend =
      if l.linksDown then l.dumpEnd 5
      else if l.fc.txSent < l.recordLen / 256 then l.chunkSent p
      else l.endSent p := by
  cases ht : l.fc.txLast with
  | none =>
    simp only [Lane.dumpSend, hx, ht, Bool.not_true, Bool.false_eq_true, if_false, Lane.linksDown, Lane.chunkSent, Lane.endSent]
  | some t =>
    simp only [Lane.dumpSend, hx, ht, l.due_of_le (hs t ht), Bool.not_true, Bool.false_eq_true, if_false, Lane.linksDown,
      Lane.chunkSent, Lane.endSent]

/-! ### Answers (R343, Table 9.11) -/

section
variable {m : GlMsg} {j : LaneId} {form : Nat} {phase : Port → DumpPhase} {f : Lane → Port → Lane}

/-- What an answer does, where the transfer stands in the phase that awaits it from its sender. -/
def Lane.ifAwaited (phase : Port → DumpPhase) (f : Lane → Port → Lane) (l : Lane) (p : Port) : Lane :=
  if l.fc.tx = phase p then f l p else l

theorem Lane.dumpIn_awaited (h : l.glAccept m 8 = some j) (hf : byteAt m.payload 0 = form)
    (ht : (l.seeEpoch m).fc.tx = phase (l.senderPort m j)) :
    l.dumpIn m form (Lane.ifAwaited phase f) = f (l.seeEpoch m) (l.senderPort m j) := (Lane.dumpIn_form h hf).trans (if_pos ht)

theorem Lane.dumpIn_unawaited (h : l.glAccept m 8 = some j)
    (hno : byteAt m.payload 0 ≠ form ∨ (l.seeEpoch m).fc.tx ≠ phase (l.senderPort m j)) :
    l.dumpIn m form (Lane.ifAwaited phase f) = l.seeEpoch m := by
  by_cases hf : byteAt m.payload 0 = form
  · exact (Lane.dumpIn_form h hf).trans (if_neg (hno.resolve_left (not_not_intro hf)))
  · exact Lane.dumpIn_otherForm h hf

/-- The sending of the record starts. -/
def Lane.sendStart (l : Lane) (p : Port) : Lane := { l.dumpLate with fc := { l.dumpLate.fc with tx := .sending p } }

theorem Lane.dumpAccept_eq : l.dumpAccept m = l.dumpIn m 2 (Lane.ifAwaited .offered Lane.sendStart) := rfl

theorem Lane.dumpRefuse_eq : l.dumpRefuse m = l.dumpIn m 3 (Lane.ifAwaited .offered fun l _ => l.dumpLate.dumpOffer) := rfl

theorem Lane.dumpDoneIn_eq :
    l.dumpDoneIn m = l.dumpIn m 5 (Lane.ifAwaited .ended fun l p => l.dumpLate.dumpEnd (doneResult (byteAt m.payload 4) p)) := rfl

end

/-- Settles O31: each command acts in its own state of the context or the transfer, and an answer where it is awaited. -/
theorem dumpSendCommandsComplete : Obligations.DumpSendCommandsComplete := by
  unfold Obligations.DumpSendCommandsComplete
  intro s i hr l
  refine ⟨fun h => State.actD_to hr (Lane.dcxStart_due h), fun h => State.actD_ignored hr (Lane.dcxStart_ignored h),
    fun h => State.actD_ignored hr (Lane.dumpDone_ignored h), fun h => State.actD_ignored hr (Lane.dcxTimeout_ignored h),
    fun h => State.actD_ignored hr (Lane.dumpStart_ignored h), fun h => State.actD_ignored hr (Lane.dumpTimeout_ignored h),
    fun h => State.actD_ignored hr (Lane.dumpSend_waits h),
    fun p hx hs h0 h1 => State.actD_to hr ((Lane.dumpSend_due hx hs).trans (if_pos ⟨h0, h1⟩)),
    fun h => State.actD_to hr (Lane.dumpDone_dump h), fun hx hd => State.actD_to hr (Lane.dcxTimeout_due hx hd),
    fun h => State.actD_to hr (Lane.dumpStart_due h),
    fun hd p => ⟨fun ht => State.actD_to hr (Lane.dumpTimeout_offered hd ht), fun ht => State.actD_to hr (Lane.dumpTimeout_ended hd ht)⟩,
    fun p hx hs hup => ?_, fun m j h => ?_, fun m h => ?_⟩
  · have hsend := (Lane.dumpSend_due hx hs).trans (if_neg hup)
    exact ⟨fun hk => State.actD_to hr (hsend.trans (if_pos hk)), fun hk => State.actD_to hr (hsend.trans (if_neg (Nat.not_lt.mpr hk)))⟩
  · exact ⟨fun hf ht => State.actD_to hr (Lane.dumpAccept_eq.trans (Lane.dumpIn_awaited h hf ht)),
      fun hno => State.actD_to hr (Lane.dumpAccept_eq.trans (Lane.dumpIn_unawaited h hno)),
      fun hf ht => State.actD_to hr (Lane.dumpRefuse_eq.trans (Lane.dumpIn_awaited h hf ht)),
      fun hno => State.actD_to hr (Lane.dumpRefuse_eq.trans (Lane.dumpIn_unawaited h hno)),
      fun hf ht => State.actD_to hr (Lane.dumpDoneIn_eq.trans (Lane.dumpIn_awaited h hf ht)),
      fun hno => State.actD_to hr (Lane.dumpDoneIn_eq.trans (Lane.dumpIn_unawaited h hno))⟩
  · exact ⟨State.actD_to hr (Lane.dumpIn_discarded h), State.actD_to hr (Lane.dumpIn_discarded h),
      State.actD_to hr (Lane.dumpIn_discarded h)⟩

end Sys2Proof.Machine
end

section
/-!
SUPPORT. The flow scheduler: which item is the best and what a take of it does, and the commands, case by case (spec/10_flow_scheduler.md
R350 to R367, R372).
-/

namespace Sys2Proof.Machine

/-! ### Arrival stamps within half of their range (R351) -/

/-- How far a stamp lies past another, modulo 2^32. -/
def stampPast (b n : Nat) : Nat := (n + 2 ^ 32 - b % 2 ^ 32) % 2 ^ 32

/-- A stamp of 32 bits that lies less than half of the range past another. -/
def stampNear (b n : Nat) : Prop := n < 2 ^ 32 ∧ stampPast b n < 2 ^ 31

/-- Among the stamps near one of them, earlier means less far past it. -/
theorem stampBefore_iff {b m n : Nat} (hm : stampNear b m) (hn : stampNear b n) :
    stampBefore m n = true ↔ stampPast b m < stampPast b n := by
  obtain ⟨hm32, hmb⟩ := hm
  obtain ⟨hn32, hnb⟩ := hn
  unfold stampPast at hmb hnb ⊢
  simp only [stampBefore, Bool.and_eq_true, decide_eq_true_eq]
  omega

/-! ### The best item (R359) -/

section
variable (l : Lane) (b : Nat)

/-- The place of an item in the order of dispatch: its priority number, then its arrival. -/
def Lane.rank (j : Item) : Nat := l.itemPrio j * 2 ^ 32 + stampPast b j.stamp

/-- One step of the choice of the best item. -/
def Lane.choose (o : Option Item) (i : Item) : Option Item := o.elim (some i) fun c => if l.better i c then some i else some c

theorem Lane.best_eq_foldl : l.best = (l.sc.items.filter l.eligible).foldl l.choose none := by
  refine congrArg (fun f => (l.sc.items.filter l.eligible).foldl f none) (funext fun o => funext fun i => ?_)
  cases o <;> rfl

variable {l b}

section
variable {i j : Item} (hi : stampNear b i.stamp) (hj : stampNear b j.stamp)
include hi hj

theorem Lane.rank_le_iff :
    l.rank b i ≤ l.rank b j ↔
      l.itemPrio i < l.itemPrio j ∨ (l.itemPrio i = l.itemPrio j ∧ stampBefore j.stamp i.stamp = false) := by
  have hpast : stampPast b i.stamp < 2 ^ 31 ∧ stampPast b j.stamp < 2 ^ 31 := ⟨hi.2, hj.2⟩
  rw [← Bool.not_eq_true, stampBefore_iff hj hi, Lane.rank, Lane.rank]
  omega

theorem Lane.better_iff : l.better i j = true ↔ l.rank b i < l.rank b j := by
  have hpast : stampPast b i.stamp < 2 ^ 31 ∧ stampPast b j.stamp < 2 ^ 31 := ⟨hi.2, hj.2⟩
  simp only [Lane.better, Bool.or_eq_true, Bool.and_eq_true, decide_eq_true_eq, stampBefore_iff hi hj, Lane.rank]
  omega

/-- Of two items, the one of the lower rank is chosen, and among equals the one that stood first. -/
theorem Lane.choose_some : l.choose (some j) i = some (minOn (l.rank b) j i) := by
  by_cases h : l.rank b j ≤ l.rank b i
  · rw [minOn_eq_left h]
    exact if_neg fun hlt => Nat.not_lt.mpr h ((Lane.better_iff hi hj).mp hlt)
  · rw [minOn_eq_right h]
    exact if_pos ((Lane.better_iff hi hj).mpr (Nat.not_le.mp h))

end

theorem Lane.foldl_choose {xs : List Item} {c : Item} (hx : ∀ j ∈ xs, stampNear b j.stamp) (hc : stampNear b c.stamp) :
    xs.foldl l.choose (some c) = some (xs.foldl (minOn (l.rank b)) c) := by
  induction xs generalizing c with
  | nil => rfl
  | cons i xs ih =>
    have hi := hx i List.mem_cons_self
    have hmin : stampNear b (minOn (l.rank b) c i).stamp := by
      rcases minOn_eq_or (f := l.rank b) (x := c) (y := i) with h | h
      · rw [h]; exact hc
      · rw [h]; exact hi
    rw [List.foldl_cons, List.foldl_cons, Lane.choose_some hi hc]
    exact ih (fun j hj => hx j (List.mem_cons_of_mem i hj)) hmin

/-- Where the stamps that wait are near one of them, the best item is the eligible one of the lowest rank. -/
theorem Lane.best_eq_minOn (hb : ∀ j ∈ l.sc.items, stampNear b j.stamp) :
    l.best = (l.sc.items.filter l.eligible).minOn? (l.rank b) := by
  have hx : ∀ j ∈ l.sc.items.filter l.eligible, stampNear b j.stamp := fun j hj => hb j (List.mem_filter.mp hj).1
  rw [Lane.best_eq_foldl]
  cases hl : l.sc.items.filter l.eligible with
  | nil => rfl
  | cons i xs =>
    rw [hl] at hx
    exact Lane.foldl_choose (fun j hj => hx j (List.mem_cons_of_mem i hj)) (hx i List.mem_cons_self)

end

section
variable {l : Lane} {b : Nat} (hb : ∀ j ∈ l.sc.items, stampNear b j.stamp)
include hb

theorem Lane.best_none_iff : l.best = none ↔ ∀ j ∈ l.sc.items, l.eligible j = false := by
  rw [Lane.best_eq_minOn hb, ← Option.not_isSome_iff_eq_none, List.isSome_minOn?_iff, Decidable.not_not, List.filter_eq_nil_iff]
  simp only [Bool.not_eq_true]

theorem Lane.best_spec {it : Item} (h : l.best = some it) :
    it ∈ l.sc.items ∧ l.eligible it = true ∧ ∀ j ∈ l.sc.items, l.eligible j = true →
      l.itemPrio it < l.itemPrio j ∨ (l.itemPrio it = l.itemPrio j ∧ stampBefore j.stamp it.stamp = false) := by
  have hmin := (Lane.best_eq_minOn hb).symm.trans h
  obtain ⟨hmem, hel⟩ := List.mem_filter.mp (List.minOn?_mem hmin)
  refine ⟨hmem, hel, fun j hj he => (Lane.rank_le_iff (hb it hmem) (hb j hj)).mp ?_⟩
  have hle := List.apply_get_minOn?_le_of_mem (f := l.rank b) (List.mem_filter.mpr ⟨hj, he⟩)
  simpa only [hmin, Option.get_some] using hle

end

/-! ### A take (R352, R361) -/

section
variable (l : Lane) (it : Item)

@[simp] theorem Lane.arise_stack (k : ItemKind) (src flow prio : Nat) : (l.arise k src flow prio).sc.stack = l.sc.stack := by
  unfold Lane.arise
  by_cases h : k ≠ .post ∧ l.sc.items.any (fun i => i.kind = k ∧ i.src = src)
  · by_cases hk : k = .hamper
    · simp only [if_pos h, if_pos hk]
    · simp only [if_pos h, if_neg hk]
  · simp only [if_neg h]

@[simp] theorem Lane.take_stack : (l.take it).sc.stack = it :: l.sc.stack := by
  unfold Lane.take
  dsimp only
  split
  · exact Lane.arise_stack _ _ _ _ _
  · rfl

@[simp] theorem Lane.take_regs : (l.take it).regs = l.regs := by
  unfold Lane.take
  dsimp only
  split
  · exact Lane.arise_regs _ _ _ _ _
  · rfl

/-- The priority of an item depends on the settings of the flows alone, and these lie above 0xF00080100. -/
theorem Lane.itemPrio_congr {l m : Lane} (h : ∀ a, 0xF00080100 ≤ a → m.reg a = l.reg a) (j : Item) : m.itemPrio j = l.itemPrio j := by
  have hr : ∀ f : Fld, 0xF00080100 ≤ f.addr → m.rd f = l.rd f := fun f hf => by rw [Lane.rd, Lane.rd, h f.addr hf]
  simp only [Lane.itemPrio, hr (SC_FLOWCFG_FIXED j.flow) (Nat.le_add_right _ _), hr (SC_FLOWCFG_PRIO j.flow) (Nat.le_add_right _ _)]

@[simp] theorem Lane.itemPrio_take (j : Item) : (l.take it).itemPrio j = l.itemPrio j :=
  Lane.itemPrio_congr (fun a _ => by rw [Lane.reg, Lane.reg, l.take_regs]) j

/-- The pre-emption is counted where one takes place. -/
def Lane.preempting : Lane := l.when (l.sc.stack ≠ [] && l.hasSlot it) (fun l => l.bump SC_CNT_PREEMPT)

@[simp] theorem Lane.preempting_sc : (l.preempting it).sc = l.sc := by
  unfold Lane.preempting Lane.when
  split
  · exact Lane.bump_sc _ _
  · rfl

@[simp] theorem Lane.itemPrio_preempting (j : Item) : (l.preempting it).itemPrio j = l.itemPrio j := by
  unfold Lane.preempting Lane.when
  split
  · refine Lane.itemPrio_congr (fun a ha => Lane.reg_bump_ne _ _ _ fun h => ?_) j
    subst h
    exact absurd ha (by decide)
  · rfl

variable {l it}

/-- A take with a slot puts the item on top and returns its descriptor. -/
theorem Lane.takeOnto_slot (h : l.hasSlot it = true) :
    l.takeOnto it = (l.take it).poolView.returns (l.descriptor it (l.sc.stack.length + 1)) := by
  unfold Lane.takeOnto
  rw [if_neg (fun hn => ne_true_of_eq_false hn h)]
  simp only [Lane.descriptor, Lane.itemPrio_take, Lane.take_stack, List.length_cons]

theorem Lane.hasSlot_of_free (h : l.sc.free ≠ 0) : l.hasSlot it = true := by
  simp only [Lane.hasSlot, decide_eq_true h, Bool.or_true]

end

/-! ### SC_ENTER (R361) -/

section
variable {l : Lane}

theorem Lane.scEnter_shut (h : 8 ≤ l.bistCharge.sc.stack.length ∨ l.bistCharge.on SC_STAT_POOLSTALL = true) :
    l.scEnter = l.bistCharge.returns 0#64 := if_pos h

section
variable (hn : l.bistCharge.sc.stack.length < 8) (hs : l.bistCharge.on SC_STAT_POOLSTALL = false)
include hn hs

theorem Lane.scEnter_none (h : l.bistCharge.best = none) : l.scEnter = l.bistCharge.returns 0#64 := by
  simp only [Lane.scEnter, Nat.not_le.mpr hn, hs, h, Bool.false_eq_true, or_self, if_false]

theorem Lane.scEnter_best {it : Item} (h : l.bistCharge.best = some it) :
    l.scEnter = (l.bistCharge.preempting it).takeOnto it := by
  simp only [Lane.scEnter, Nat.not_le.mpr hn, hs, h, Bool.false_eq_true, or_self, if_false, Lane.preempting]

/-- With a slot free, the best item goes on top of the stack and its descriptor is returned. -/
theorem Lane.scEnter_takes {it : Item} (h : l.bistCharge.best = some it) (hf : l.bistCharge.sc.free ≠ 0) :
    l.scEnter.sc.stack = it :: l.bistCharge.sc.stack ∧
      l.scEnter.rdata = l.bistCharge.descriptor it (l.bistCharge.sc.stack.length + 1) := by
  have hslot : (l.bistCharge.preempting it).hasSlot it = true := Lane.hasSlot_of_free (by rw [Lane.preempting_sc]; exact hf)
  rw [Lane.scEnter_best hn hs h, Lane.takeOnto_slot hslot]
  constructor
  · exact (Lane.take_stack _ _).trans (by rw [Lane.preempting_sc])
  · simp only [Lane.returns, Lane.descriptor, Lane.itemPrio_preempting, Lane.preempting_sc]

end

end

/-- Settles O48: the best item has the lowest rank, of priority number and arrival, among the eligible ones. -/
theorem dispatchFollowsPriority : Obligations.DispatchFollowsPriority := by
  unfold Obligations.DispatchFollowsPriority
  intro s i hr l p ⟨b, hb⟩ hn hs hf
  refine ⟨(s.lane i).scEnter, State.actD_to hr rfl, fun hno => ?_, fun ⟨j, hj, hej⟩ => ?_⟩
  · rw [Lane.scEnter_none hn hs ((Lane.best_none_iff hb).mpr hno)]
    exact ⟨rfl, rfl, rfl⟩
  · obtain ⟨it, hit⟩ : ∃ it, l.best = some it := Option.ne_none_iff_exists'.mp fun hnone =>
      ne_true_of_eq_false ((Lane.best_none_iff hb).mp hnone j hj) hej
    obtain ⟨hmem, hel, hmin⟩ := Lane.best_spec hb hit
    obtain ⟨hstack, hdata⟩ := Lane.scEnter_takes hn hs hit hf
    exact ⟨it, hmem, hel, hstack, hdata, hmin⟩

end Sys2Proof.Machine
end

section
/-!
SUPPORT. The commands of the flow scheduler: what each does, case by case (spec/10_flow_scheduler.md R350 to R367, R372).
-/

namespace Sys2Proof.Machine

section
variable {l : Lane}

/-! ### Posts (R353) -/

theorem Lane.scPost_room (v : Word) (h : l.rd SC_CFG_RESV < l.sc.free) :
    l.scPost v = (l.arise .post (getBits v 0 32) (getBits v 40 8) (getBits v 32 4)).poolView :=
  if_neg (Nat.not_lt.mpr h)

theorem Lane.scPost_full (v : Word) (h : l.sc.free ≤ l.rd SC_CFG_RESV) :
    l.scPost v =
      let a := (l.set SC_STAT_POSTREJ).bump SC_CNT_POSTREJ
      (a.raiseOnce srcSC 2 clsCE none (a.reg SC_CNT_POSTREJ.addr).toNat).event 129 := if_pos (Nat.lt_succ_of_le h)

/-! ### SC_NEXT (R361) -/

/-- The item in service completes, and the levels below it stand. -/
def Lane.completed (l : Lane) (rest : List Item) : Lane :=
  Lane.poolView { l with sc := { l.sc with stack := rest, done := l.sc.done + 1 } }

theorem Lane.scNext_empty (h : l.bistCharge.sc.stack = []) : l.scNext = (l.bistCharge.set SC_STAT_TAKEERR).returns 0#64 := by
  simp only [Lane.scNext, h]

/-- What is taken onto the level of a completed item, above those that stand: the best item, where there is no stall and it could have
pre-empted the level below. -/
def Lane.takeNext (l : Lane) (rest : List Item) : Lane :=
  if l.on SC_STAT_POOLSTALL then l.returns 0#64
  else
    match l.best, rest with
    | none, _ => l.returns 0#64
    | some it, [] => l.takeOnto it
    | some it, low :: _ => if l.canPreempt it low then l.takeOnto it else l.returns 0#64

theorem Lane.scNext_serving {top : Item} {rest : List Item} (ht : l.bistCharge.sc.stack = top :: rest) :
    l.scNext = (l.bistCharge.completed rest).takeNext rest := by
  simp only [Lane.scNext, ht]
  rfl

theorem Lane.takeNext_stalled (rest : List Item) (hs : l.on SC_STAT_POOLSTALL = true) : l.takeNext rest = l.returns 0#64 := if_pos hs

section
variable (hs : l.on SC_STAT_POOLSTALL = false)
include hs

theorem Lane.takeNext_none (rest : List Item) (hb : l.best = none) : l.takeNext rest = l.returns 0#64 := by
  simp only [Lane.takeNext, hs, hb, Bool.false_eq_true, if_false]

variable {it : Item} (hb : l.best = some it)
include hb

theorem Lane.takeNext_alone : l.takeNext [] = l.takeOnto it := by
  simp only [Lane.takeNext, hs, hb, Bool.false_eq_true, if_false]

theorem Lane.takeNext_above (low : Item) (more : List Item) :
    l.takeNext (low :: more) = if l.canPreempt it low = true then l.takeOnto it else l.returns 0#64 := by
  simp only [Lane.takeNext, hs, hb, Bool.false_eq_true, if_false]

end

/-! ### Timers (R364 to R366) -/

/-- The lane after a write of SC_TMRCFG_t: the timer is in no list and on no walk. -/
def Lane.timerSet (l : Lane) (t : Nat) (v : Word) : Lane :=
  { (l.setReg (SC_TMRCFG_ARM t).addr (v &&& 0xFF0000FF#64)) with sc := l.sc.disarm t }

section
variable {t : Nat} {v : Word}

theorem Lane.timerArm_off (h : (l.timerSet t v).rd (SC_TMRCFG_ARM t) = 0) : l.timerArm t v = l.timerSet t v := if_pos h

theorem Lane.timerArm_on (h : (l.timerSet t v).rd (SC_TMRCFG_ARM t) ≠ 0) :
    l.timerArm t v =
      let a := l.timerSet t v
      let n := a.rd (SC_TMRCFG_LIST t)
      if a.rd (SC_TLCFG_CAP n) ≤ a.sc.occupancy n then a.bump SC_CNT_TFULL
      else a.startWalk t (a.reg (SC_TMREXP t).addr).toNat n := if_neg h

theorem Lane.timerInsert_early (h : ∀ w : Insertion, l.sc.walks.find? (fun w => w.timer = t) = some w → l.now < w.due) :
    l.timerInsert t = l := by
  cases hw : l.sc.walks.find? (fun w => w.timer = t) with
  | none => simp only [Lane.timerInsert, hw]
  | some w => simp only [Lane.timerInsert, hw, l.not_due_of_lt (h w hw), Bool.not_false, if_true]

theorem Lane.timerInsert_due {w : Insertion} (hw : l.sc.walks.find? (fun w => w.timer = t) = some w) (hd : w.due ≤ l.now) :
    l.timerInsert t =
      let past := decide (w.expiry ≤ l.scTick)
      let q := { l.sc with walks := l.sc.walks.filter (fun a => a.timer ≠ t) }
      let e : Armed := { timer := t, expiry := w.expiry, notBefore := if past then l.scTick + 1 else 0 }
      Lane.when { l with sc := q.setList w.list (insertArmed e (q.list w.list)) } past (fun l => l.bump SC_TMRSTAT_PAST) := by
  simp only [Lane.timerInsert, hw, l.due_of_le hd, Bool.not_true, Bool.false_eq_true, if_false]

end

/-- The timer leaves its list, and its item arises. -/
def Lane.timerFired (l : Lane) (n : Nat) (a : Armed) : Lane :=
  let b : Lane := { l with sc := l.sc.setList n ((l.sc.list n).filter (fun b => b.timer ≠ a.timer)) }
  b.arise .timer a.timer (b.rd (SC_TMRCFG_FLOW a.timer)) (b.rd (SC_TMRCFG_PRIO a.timer))

/-- A periodic timer is inserted again at its previous expiry plus its period. -/
def Lane.timerAgain (l : Lane) (n : Nat) (a : Armed) : Lane :=
  let again : Armed := { timer := a.timer, expiry := a.expiry + l.rd (SC_TMRPER_US a.timer), notBefore := 0 }
  if l.on (SC_TMRCFG_PERIODIC a.timer) then { l with sc := l.sc.setList n (insertArmed again (l.sc.list n)) } else l

theorem Lane.timerExpire_none (h : l.dueTimer = none) : l.timerExpire = l := by
  simp only [Lane.timerExpire, h]

theorem Lane.timerExpire_due {n : Nat} {a : Armed} (h : l.dueTimer = some (n, a)) :
    l.timerExpire = ((l.timerFired n a).timerAgain n a).when (decide ((a.expiry + 1) * usec < l.scTime))
      (fun l => ((l.bump SC_CNT_SLIP).raiseOnce srcSC 3 clsCE none a.timer).event 130) := by
  simp only [Lane.timerExpire, h]
  rfl

/-! ### Headroom and deferral (R356, R367) -/

theorem Lane.headroomUpdate_early (h : l.scTick / 1000 ≤ l.sc.lastMs) : l.headroomUpdate = l := if_neg (Nat.not_lt.mpr h)

theorem Lane.headroomUpdate_due (h : l.sc.lastMs < l.scTick / 1000) :
    l.headroomUpdate =
      let a := { l with sc := { l.sc with lastMs := l.scTick / 1000 } }
      (((a.closeBin.stepH).stepHot).stepProposal).updateSel.stepDomains := if_pos h

/-- Whether an item of a flow has been deferred for more than DAGE. -/
def Lane.deferredLong (l : Lane) (n : Nat) : Bool :=
  l.sc.items.any (fun it => it.flow = n && !l.headroomOk it && decide (it.since + l.rd SC_HCFG_DAGE * msec < l.now))

theorem Lane.deferralAge_old {n : Nat} (h : l.bistCharge.deferredLong n = true) (ha : l.bistCharge.on (SC_FLOWSTAT_AGED n) = false) :
    l.deferralAge n = ((l.bistCharge.set (SC_FLOWSTAT_AGED n)).raise srcSC 4 clsCE none n).event 133 :=
  if_pos (by rw [ha]; exact (Bool.and_true _).trans h)

theorem Lane.deferralAge_kept {n : Nat} (h : l.bistCharge.deferredLong n = false ∨ l.bistCharge.on (SC_FLOWSTAT_AGED n) = true) :
    l.deferralAge n = l.bistCharge := by
  refine if_neg fun hc => ?_
  obtain ⟨hold, hnot⟩ := Bool.and_eq_true_iff.mp hc
  rcases h with h | h
  · exact ne_true_of_eq_false h hold
  · rw [h] at hnot
    cases hnot

end

/-! ### The commands -/

/-- A command after which the domain requests follow, where its operation gives a lane. -/
theorem State.actD_follows {s : State} {i : LaneId} {f : Lane → Lane} {t : Lane} (h : s.ready i (.domain .cp))
    (hf : f (s.lane i) = t) : s.actD i .cp (fun l => (f l).domainsFollow) = .next (s.setLane i t.domainsFollow) :=
  State.actD_to h (congrArg Lane.domainsFollow hf)

/-- Settles O33: each command is the operation of the scheduler, case by case. -/
theorem schedulerCommandsComplete : Obligations.SchedulerCommandsComplete := by
  unfold Obligations.SchedulerCommandsComplete
  intro s i hr l
  refine ⟨fun v => ⟨fun h => State.actD_follows hr (Lane.scPost_room v h), fun h => State.actD_follows hr (Lane.scPost_full v h)⟩,
    fun h => State.actD_to hr (Lane.scEnter_shut h),
    fun hn hs => ⟨fun hb => State.actD_to hr (Lane.scEnter_none hn hs hb), fun it hb => State.actD_to hr (Lane.scEnter_best hn hs hb)⟩,
    ⟨fun h => State.actD_follows hr (Lane.scNext_empty h), fun top rest ht => ?_⟩,
    State.actD_to hr rfl, fun k v => State.actD_to hr rfl, fun t v => ⟨fun h => State.actD_follows hr (Lane.timerArm_off h),
      fun h hfull => State.actD_follows hr ((Lane.timerArm_on h).trans (if_pos hfull)),
      fun h hroom => State.actD_follows hr ((Lane.timerArm_on h).trans (if_neg (Nat.not_le.mpr hroom))),
      fun h => State.actD_follows hr (Lane.timerInsert_early h),
      fun w hw hd => State.actD_follows hr (Lane.timerInsert_due hw hd)⟩,
    fun h => State.actD_follows hr (Lane.timerExpire_none h), fun n a h => State.actD_follows hr (Lane.timerExpire_due h),
    fun h => State.actD_to hr (congrArg Lane.domScheduler (Lane.headroomUpdate_early h)),
    fun h => State.actD_to hr (congrArg Lane.domScheduler (Lane.headroomUpdate_due h)),
    fun n h ha => State.actD_to hr (Lane.deferralAge_old h ha), fun n h => State.actD_to hr (Lane.deferralAge_kept h)⟩
  have hserve := Lane.scNext_serving ht
  refine ⟨fun hs => State.actD_follows hr (hserve.trans (Lane.takeNext_stalled rest hs)),
    fun hs => ⟨fun hb => State.actD_follows hr (hserve.trans (Lane.takeNext_none hs rest hb)), fun it hb hrest => ?_,
      fun it low more hb hrest => ?_⟩⟩
  · subst hrest
    exact State.actD_follows hr (hserve.trans (Lane.takeNext_alone hs hb))
  · subst hrest
    exact State.actD_follows hr (hserve.trans (Lane.takeNext_above hs hb low more))

end Sys2Proof.Machine
end

section
/-!
SUPPORT. The Hamper queues: what a push, a take, a mark and a rewind do, case by case, and what each leaves unchanged
(spec/11_hamper_host.md R380 to R391).
-/

namespace Sys2Proof.Machine

/-! ### The Hampers of a lane -/

@[simp] theorem HqSt.get_set (q : HqSt) (i : Fin 8) (h : Hamper) : (q.set i h).get i = h := by fin_cases i <;> rfl

theorem HqSt.get_set_ne (q : HqSt) {i k : Fin 8} (h : Hamper) (hk : k ≠ i) : (q.set i h).get k = q.get k := by
  fin_cases i <;> fin_cases k <;> first | rfl | exact absurd rfl hk

@[simp] theorem HqSt.get_evalDue (q : HqSt) (b : Bool) (k : Nat) : HqSt.get { q with evalDue := b } k = q.get k := by
  unfold HqSt.get
  split <;> rfl

@[simp] theorem HqSt.get_late (q : HqSt) (ps : List LatePush) (k : Nat) : HqSt.get { q with late := ps } k = q.get k := by
  unfold HqSt.get
  split <;> rfl

section
variable (l : Lane)

@[simp] theorem Lane.hamperEval_get (i k : Nat) : (l.hamperEval i).hq.get k = l.hq.get k := HqSt.get_evalDue l.hq true k

theorem Lane.hamperEval_setHamper_get (i : Fin 8) (x : Hamper) : ((l.setHamper i x).hamperEval i).hq.get i = x :=
  (Lane.hamperEval_get _ i i).trans (HqSt.get_set l.hq i x)

/-- A Hamper that becomes non-empty concerns the flow scheduler alone. -/
theorem Lane.hamperRose_form (i before : Nat) : ∃ c, l.hamperRose i before = { l with sc := c } := by
  unfold Lane.hamperRose
  split
  · exact l.arise_form _ _ _ _
  · exact ⟨l.sc, rfl⟩

end

/-! ### Staging writes and pushes (R380 to R386) -/

section
variable {l : Lane} {h : Nat}

theorem Lane.hqPutWrite_producer (n : Nat) (v : Word) (hp : l.rd (HQ_CFG_PROD h) = 0) :
    l.hqPutWrite h n v = l.setReg (HQ_PUT h n).addr v := if_neg (not_not_intro hp)

theorem Lane.hqPutWrite_refused (n : Nat) (v : Word) (hp : l.rd (HQ_CFG_PROD h) ≠ 0) : l.hqPutWrite h n v = l.prodReject := if_pos hp

theorem Lane.hqPush_refused {v : Word} (hp : l.rd (HQ_CFG_PROD h) ≠ 0 ∨ 56 < getBits v 0 6) : l.hqPush h v = l.prodReject := if_pos hp

theorem Lane.hqPush_producer {v : Word} (hp : l.rd (HQ_CFG_PROD h) = 0) (hl : getBits v 0 6 ≤ 56) :
    l.hqPush h v = l.hamperPush h (getBits v 8 3) [(l.staging h).take (getBits v 0 6)] .none :=
  if_neg (not_or.mpr ⟨not_not_intro hp, Nat.not_lt.mpr hl⟩)

section
variable (prio : Nat) {ps : List (List Byte)} (f : PushFor)

theorem Lane.hamperPush_noCapacity (hc : l.rd (HQ_CFG_CAP h) = 0) : l.hamperPush h prio ps f = (l.hamperOvr h).pushTold f true :=
  if_pos hc

variable (hc : l.rd (HQ_CFG_CAP h) ≠ 0)
include hc

/-- A push that finds no room, or stands behind one that has found none, waits for the releases of its cycle. -/
theorem Lane.hamperPush_waits (hw : l.hamperFull h ps.length = true ∨ l.hq.late.any (fun q => q.hamper = h) = true) :
    l.hamperPush h prio ps f = { l with hq := { l.hq with late := l.hq.late ++ [⟨h, prio, ps, f⟩] } } := by
  rw [Lane.hamperPush, if_neg hc, if_pos (Bool.or_eq_true_iff.mpr hw)]

theorem Lane.hamperPush_room (hr : l.hamperFull h ps.length = false) (hw : l.hq.late.any (fun q => q.hamper = h) = false) :
    l.hamperPush h prio ps f = (l.hamperAdds h prio ps).pushTold f false := by
  rw [Lane.hamperPush, if_neg hc, hr, hw, Bool.or_false, if_neg Bool.false_ne_true]

end

end

/-! ### Takes (R383, R388) -/

/-- Whether an entry was pushed before the CLK_BUS cycle that runs now (R383). -/
def Lane.ripe (l : Lane) (e : Entry) : Bool := decide (e.at_ / cycBus ≠ l.now / cycBus)

section
variable {l : Lane} {h : Nat}

theorem Lane.hqTake_replay {e : Entry} {r : List Entry} (hr : (l.hq.get h).replay = e :: r) :
    l.hqTake h =
      ((l.setHamper h { l.hq.get h with replay := r, log := (l.hq.get h).log ++ [e] }).hamperEval h).returns e.descriptor := by
  simp only [Lane.hqTake, hr]

variable (hr : (l.hq.get h).replay = [])
include hr

theorem Lane.hqTake_queue {e : Entry} (he : bestEntry ((l.hq.get h).queue.filter l.ripe) = some e) :
    l.hqTake h =
      ((l.setHamper h { l.hq.get h with queue := dropSlot e.slot (l.hq.get h).queue, log := (l.hq.get h).log ++ [e] }).hamperEval
        h).returns e.descriptor := by
  have he' : bestEntry ((l.hq.get h).queue.filter fun e => decide (e.at_ / cycBus ≠ l.now / cycBus)) = some e := he
  simp only [Lane.hqTake, hr, he']

theorem Lane.hqTake_none (he : (l.hq.get h).queue.filter l.ripe = []) : l.hqTake h = l.returns 0#64 := by
  have he' : ((l.hq.get h).queue.filter fun e => decide (e.at_ / cycBus ≠ l.now / cycBus)) = [] := he
  simp only [Lane.hqTake, hr, he', bestEntry]

end

/-- A queue that holds an entry has a best one. -/
theorem bestEntry_of_ne_nil {xs : List Entry} (h : xs ≠ []) : ∃ e, bestEntry xs = some e := by
  cases xs with
  | nil => exact absurd rfl h
  | cons x xs =>
    simp only [bestEntry]
    split
    · exact ⟨x, rfl⟩
    · split
      · exact ⟨_, rfl⟩
      · exact ⟨x, rfl⟩

/-- The entry of the lowest PRIO number and the earliest push splits a queue: each one before it has a higher number, none after it a lower
one. -/
theorem bestEntry_splits {xs : List Entry} {e : Entry} (h : bestEntry xs = some e) :
    ∃ before after, xs = before ++ e :: after ∧ (∀ b ∈ before, e.prio < b.prio) ∧ ∀ a ∈ after, e.prio ≤ a.prio := by
  induction xs generalizing e with
  | nil => cases h
  | cons x xs ih =>
    cases hb : bestEntry xs with
    | none =>
      have hx : x = e := by simpa [bestEntry, hb] using h
      have hnil : xs = [] := by
        by_contra hne
        obtain ⟨y, hy⟩ := bestEntry_of_ne_nil hne
        rw [hb] at hy
        cases hy
      subst hx hnil
      exact ⟨[], [], rfl, nofun, nofun⟩
    | some b =>
      obtain ⟨before, after, rfl, hbefore, hafter⟩ := ih hb
      simp only [bestEntry, hb] at h
      split at h
      next hlt =>
        cases h
        exact ⟨x :: before, after, rfl, List.forall_mem_cons.mpr ⟨hlt, hbefore⟩, hafter⟩
      next hge =>
        cases h
        have hxb : x.prio ≤ b.prio := Nat.le_of_not_lt hge
        refine ⟨[], before ++ b :: after, rfl, nofun, fun a ha => ?_⟩
        rcases List.mem_append.mp ha with ha | ha
        · exact hxb.trans (hbefore a ha).le
        · rcases List.mem_cons.mp ha with rfl | ha
          · exact hxb
          · exact hxb.trans (hafter a ha)

/-- The best of the entries that may be taken splits the whole queue. -/
theorem bestEntry_filter_splits {xs : List Entry} {p : Entry → Bool} {e : Entry} (h : bestEntry (xs.filter p) = some e) :
    ∃ before after, xs = before ++ e :: after ∧ p e = true ∧ (∀ b ∈ before, p b = true → e.prio < b.prio) ∧
      ∀ a ∈ after, p a = true → e.prio ≤ a.prio := by
  obtain ⟨front, back, hsplit, hfront, hback⟩ := bestEntry_splits h
  obtain ⟨xs₁, xs₂, rfl, rfl, h₂⟩ := List.filter_eq_append_iff.mp hsplit
  obtain ⟨skipped, after, rfl, hskipped, he, rfl⟩ := List.filter_eq_cons_iff.mp h₂
  refine ⟨xs₁ ++ skipped, after, (List.append_assoc _ _ _).symm, he, fun b hb hp => ?_, fun a ha hp =>
    hback a (List.mem_filter.mpr ⟨ha, hp⟩)⟩
  rcases List.mem_append.mp hb with hb | hb
  · exact hfront b (List.mem_filter.mpr ⟨hb, hp⟩)
  · exact absurd hp (hskipped b hb)

/-- Where no earlier entry has the slot, the entries that remain are the others in their order. -/
theorem dropSlot_append {before after : List Entry} {e : Entry} (h : ∀ b ∈ before, b.slot ≠ e.slot) :
    dropSlot e.slot (before ++ e :: after) = before ++ after := by
  induction before with
  | nil => exact if_pos rfl
  | cons b before ih =>
    obtain ⟨hb, hrest⟩ := List.forall_mem_cons.mp h
    rw [List.cons_append, dropSlot, if_neg hb, ih hrest, List.cons_append]

/-- Settles O35: the best of the entries that may be taken splits the queue into what stands before it and after it. -/
theorem takesFollowPriority : Obligations.TakesFollowPriority := by
  unfold Obligations.TakesFollowPriority
  intro s i h hr hreplay ripe hany
  obtain ⟨x, hx, hripe⟩ := List.any_eq_true.mp hany
  obtain ⟨e, he⟩ := bestEntry_of_ne_nil (List.ne_nil_of_mem (List.mem_filter.mpr ⟨hx, hripe⟩))
  obtain ⟨before, after, hsplit, hpe, hbefore, hafter⟩ := bestEntry_filter_splits he
  have hget := (s.lane i).hamperEval_setHamper_get h
    { (s.lane i).hq.get h with queue := dropSlot e.slot ((s.lane i).hq.get h).queue, log := ((s.lane i).hq.get h).log ++ [e] }
  refine ⟨before, after, e, _, hsplit, State.actD_to hr (Lane.hqTake_queue hreplay he), rfl, rfl, hpe, hbefore, hafter, fun hslots => ?_,
    (congrArg Hamper.log hget :)⟩
  calc _ = dropSlot e.slot ((s.lane i).hq.get h).queue := (congrArg Hamper.queue hget :)
    _ = before ++ after := by rw [hsplit, dropSlot_append hslots]

/-! ### Rewinds (R391) -/

/-- A rewind changes one Hamper, the counts and the flow scheduler. -/
theorem Lane.rewindTo_form (l : Lane) (i p : Nat) :
    ∃ r c, l.rewindTo i p = { l with
      regs := r, sc := c
      hq := { l.hq.set i { l.hq.get i with
        log := (l.hq.get i).log.take p, replay := (l.hq.get i).log.drop p ++ (l.hq.get i).replay
        soft := Nat.min (l.hq.get i).soft p } with evalDue := true } } := by
  obtain ⟨c, h⟩ := Lane.hamperRose_form (Lane.hamperEval (l.setHamper i { l.hq.get i with
    log := (l.hq.get i).log.take p, replay := (l.hq.get i).log.drop p ++ (l.hq.get i).replay, soft := Nat.min (l.hq.get i).soft p }) i) i
    (l.hq.get i).queued
  exact ⟨_, c, h⟩

/-- Settles O50: a rewind is a change of one Hamper, whose log it cuts at the soft mark. -/
theorem rewindReplaysInOrder : Obligations.RewindReplaysInOrder := by
  unfold Obligations.RewindReplaysInOrder
  intro s i h hr l q moved
  obtain ⟨r, c, hform⟩ := l.rewindTo_form h q.soft
  have hget : (l.rewindTo h q.soft).hq.get h =
      { q with log := q.log.take q.soft, replay := moved ++ q.replay, soft := Nat.min q.soft q.soft } := by
    rw [hform]
    exact (HqSt.get_evalDue _ true h).trans (HqSt.get_set _ h _)
  have hcount : BitVec.ofNat 64 (q.log.length - q.soft) = BitVec.ofNat 64 moved.length := by rw [List.length_drop]
  refine ⟨_, State.actD_to hr rfl, hcount, rfl, congrArg Hamper.log hget, congrArg Hamper.replay hget, (congrArg Hamper.queue hget :),
    (congrArg Hamper.queued hget).trans ?_, fun k hk => ?_, fun a => ?_⟩
  · simp only [Hamper.queued, List.length_append]
    omega
  · show (l.rewindTo h q.soft).hq.get k = l.hq.get k
    rw [hform]
    exact (HqSt.get_evalDue _ true k).trans (HqSt.get_set_ne _ _ hk)
  · show (l.rewindTo h q.soft).byte a = l.byte a
    rw [hform]
    rfl

/-- Settles O34: each command is the operation of the Hampers, case by case. -/
theorem hamperCommandsComplete : Obligations.HamperCommandsComplete := by
  unfold Obligations.HamperCommandsComplete
  intro s i hr l
  refine ⟨fun h => ⟨fun n v => ⟨fun hp => State.actD_to hr (Lane.hqPutWrite_producer n v hp),
      fun hp => State.actD_to hr (Lane.hqPutWrite_refused n v hp)⟩,
    fun v => ⟨fun hp => State.actD_to hr (Lane.hqPush_refused hp), fun hp hl => ?_⟩,
    fun e r hq => State.actD_to hr (Lane.hqTake_replay hq), fun e hq he => State.actD_to hr (Lane.hqTake_queue hq he),
    fun hq he => State.actD_to hr (Lane.hqTake_none hq he), State.actD_to hr rfl, State.actD_to hr rfl⟩, State.actD_to hr rfl⟩
  have hpush := Lane.hqPush_producer hp hl
  exact ⟨fun hc => State.actD_to hr (hpush.trans (Lane.hamperPush_noCapacity _ _ hc)),
    fun hc hw => State.actD_to hr (hpush.trans (Lane.hamperPush_waits _ _ hc hw)),
    fun hc hroom hw => State.actD_to hr (hpush.trans (Lane.hamperPush_room _ _ hc hroom hw))⟩

end Sys2Proof.Machine
end

section
/-!
SUPPORT. What the stop of a self-test slice leaves alone: the memory, the Hampers, the fault messages and the registers of the HQ block
(spec/14_self_test_lifecycle.md R489).
-/

namespace Sys2Proof.Machine

/-- Whether an address lies in the HQ block. -/
abbrev inHq (a : Nat) : Prop := 0xF00090000 ≤ a ∧ a < 0xF000A0000

/-- One lane comes from another by operations that concern neither the Hampers nor the fault collector nor the memory. -/
structure Lane.HqAside (l t : Lane) : Prop where
  hq : t.hq = l.hq
  fc : t.fc = l.fc
  mem : t.mem = l.mem
  reg : ∀ a, inHq a → t.reg a = l.reg a

section
variable {l m t : Lane}

namespace Lane.HqAside

theorem refl (l : Lane) : l.HqAside l := ⟨rfl, rfl, rfl, fun _ _ => rfl⟩

theorem trans (h : l.HqAside m) (k : m.HqAside t) : l.HqAside t :=
  ⟨k.hq.trans h.hq, k.fc.trans h.fc, k.mem.trans h.mem, fun a ha => (k.reg a ha).trans (h.reg a ha)⟩

/-- A change of none of the four. -/
theorem of (hq : t.hq = l.hq) (fc : t.fc = l.fc) (mem : t.mem = l.mem) (regs : t.regs = l.regs) : l.HqAside t :=
  ⟨hq, fc, mem, fun a _ => by rw [Lane.reg, Lane.reg, regs]⟩

theorem wr (h : l.HqAside t) (f : Fld) (v : Nat) (hf : ¬ inHq f.addr) : l.HqAside (t.wr f v) :=
  h.trans ⟨rfl, rfl, rfl, fun _ ha => t.reg_wr_ne f v _ fun e => hf (e ▸ ha)⟩

theorem bump (h : l.HqAside t) (f : Fld) (hf : ¬ inHq f.addr) : l.HqAside (t.bump f) :=
  h.trans ⟨t.bump_hq f, t.bump_fc f, t.bump_mem f, fun _ ha => t.reg_bump_ne f _ fun e => hf (e ▸ ha)⟩

theorem event (h : l.HqAside t) (n : Nat) (hn : ¬ inHq (SY_EVSTAT_EV (n / 32)).addr) : l.HqAside (t.event n) :=
  h.trans ⟨t.event_hq n, t.event_fc n, t.event_mem n, fun _ ha => t.reg_event_ne n _ fun e => hn (e ▸ ha)⟩

theorem ite {c : Prop} [Decidable c] (h : l.HqAside m) (k : l.HqAside t) : l.HqAside (if c then m else t) := by
  split
  · exact h
  · exact k

theorem st (h : l.HqAside t) (x : StSt) : l.HqAside { t with st := x } := h.trans (.of rfl rfl rfl rfl)
theorem gl (h : l.HqAside t) (x : GlSt) : l.HqAside { t with gl := x } := h.trans (.of rfl rfl rfl rfl)
theorem sc (h : l.HqAside t) (x : ScSt) : l.HqAside { t with sc := x } := h.trans (.of rfl rfl rfl rfl)
theorem pc (h : l.HqAside t) (x : PcSt) : l.HqAside { t with pc := x } := h.trans (.of rfl rfl rfl rfl)

end Lane.HqAside

end

section
variable (l : Lane)

/-! ### The pass of the memory token (R495) -/

theorem Lane.setBusy_hqAside (p : Port) (t : Nat) : l.HqAside (l.setBusy p t) := by cases p <;> exact .of rfl rfl rfl rfl

theorem Lane.glStart_hqAside (p : Port) (w : GlWait) (t : Nat) : l.HqAside (l.glStart p w t) :=
  (l.setBusy_hqAside p _).trans (.of rfl rfl rfl rfl)

theorem Lane.portStep_hqAside (p : Port) : l.HqAside (l.portStep p) := by
  unfold Lane.portStep
  split
  · exact .refl l
  · split
    · exact .refl l
    · rename_i w r _
      have hqueue := (Lane.HqAside.refl l).gl { l.gl with txq := r }
      dsimp only
      split
      · exact hqueue.trans (Lane.glStart_hqAside _ p w _)
      · exact hqueue

theorem Lane.glReady_hqAside (w : GlWait) : l.HqAside (l.glReady w) :=
  ((Lane.HqAside.refl l).gl _).trans (Lane.portStep_hqAside _ _)

theorem Lane.glTo_hqAside (p : Port) (type cycle chunk chunks : Nat) (payload : List Byte) :
    l.HqAside (l.glTo p type cycle chunk chunks payload) := by
  exact .ite (l.glReady_hqAside _) (.refl l)

theorem Lane.tokSend_hqAside (form : Nat) (holder : LaneId) (seq : Nat) : l.HqAside (l.tokSend form holder seq) :=
  (l.glTo_hqAside _ _ _ _ _ _).trans (Lane.glTo_hqAside _ _ _ _ _ _ _)

theorem Lane.tokTake_hqAside (seq : Nat) : l.HqAside (l.tokTake seq) :=
  ((((Lane.HqAside.refl l).st _).wr ST_TOK_SEQ seq (by decide)).wr ST_STAT_TOKEN 1 (by decide)).event 173 (by decide)

theorem Lane.tokPass_hqAside : l.HqAside l.tokPass := by
  have hsent := l.tokSend_hqAside 1 l.nextHolder ((l.rd ST_TOK_SEQ + 1) % 2 ^ 32)
  exact .ite (hsent.trans (Lane.tokTake_hqAside _ _)) (((hsent.st _).wr ST_TOK_SEQ _ (by decide)).wr ST_STAT_TOKEN 0 (by decide))

/-! ### The end of a slice that is stopped (R488 to R492) -/

theorem Lane.stResult_hqAside (res u cov dur : Nat) : l.HqAside (l.stResult res u cov dur) :=
  ((((Lane.HqAside.refl l).wr ST_RESULT_RES res (by decide)).wr ST_RESULT_UNIT u (by decide)).wr ST_RESULT_COV cov (by decide)).wr
    ST_RESULT_DUR _ (by decide)

theorem Lane.bistCharge_hqAside : l.HqAside l.bistCharge :=
  ((Lane.HqAside.refl l).sc _).wr SC_BISTUSE_US _ (by decide)

theorem Lane.sliceCharge_hqAside (t : Nat) : l.HqAside (l.sliceCharge t) :=
  (l.bistCharge_hqAside.sc _).trans (Lane.bistCharge_hqAside _)

/-- The count of a result, by its code. -/
theorem Lane.resultCount_hqAside (res : Nat) :
    l.HqAside (if res = 1 then l.bump ST_CNT_PASS else if res = 3 then l.bump ST_CNT_SKIP else if res = 4 then l.bump ST_CNT_ABORT else l) := by
  have hstart := Lane.HqAside.refl l
  exact .ite (hstart.bump ST_CNT_PASS (by decide)) (.ite (hstart.bump ST_CNT_SKIP (by decide))
    (.ite (hstart.bump ST_CNT_ABORT (by decide)) hstart))

theorem Lane.partDone_hqAside (u res cov time : Nat) : l.HqAside (l.partDone u res cov time) := by
  have hcounted := (l.stResult_hqAside res u cov (time / usec)).trans (Lane.resultCount_hqAside _ res)
  exact (hcounted.trans (.ite ((Lane.HqAside.refl _).pc _) (.refl _))).event 170 (by decide)

theorem Lane.runDone_hqAside (p : ProgAt) (u res cov time : Nat) : l.HqAside (l.runDone p u res cov time) :=
  .ite (((Lane.HqAside.refl l).st _).trans (Lane.partDone_hqAside _ _ _ _ _)) ((Lane.HqAside.refl l).st _)

/-- A slice that is stopped has no failure to report. -/
theorem Lane.sliceDone_stopped_hqAside (r : SliceRun) (hu : r.unit ≠ 2) : l.HqAside (l.sliceDone r 4 0) := by
  have hpass : ∀ (k : Lane) (b : Bool), l.HqAside k → l.HqAside (if b then k.tokPass else k) := fun k _ hk =>
    .ite (hk.trans k.tokPass_hqAside) hk
  have hended := ((Lane.HqAside.refl l).st { l.st with run := none }).wr ST_STAT_BUSY 0 (by decide)
  have hcharged := fun t => (hended.trans (Lane.partDone_hqAside _ r.unit 4 0 t)).trans (Lane.sliceCharge_hqAside _ t)
  simp only [Lane.sliceDone, if_neg hu, show ¬ (4 = 2) by decide, if_false]
  refine hpass _ _ ?_
  split
  · exact .ite (hended.trans (Lane.runDone_hqAside _ _ r.unit 4 0 _)) (hcharged _)
  · exact hcharged _

theorem Lane.sliceAbort_hqAside (cause : Nat) {r : SliceRun} (hr : l.st.run = some r) (hu : r.unit ≠ 2) :
    l.HqAside (l.sliceAbort cause) := by
  simp only [Lane.sliceAbort, hr]
  exact (l.sliceDone_stopped_hqAside r hu).wr ST_STAT_ACAUSE cause (by decide)

/-! ### The program after it (R491) -/

theorem Lane.sliceStart_hqAside (u index : Nat) (prog : Bool) : l.HqAside (l.sliceStart u index prog) := by
  have hrun := (Lane.HqAside.refl l).st
    { l.st with run := some { unit := u, index := index, start := l.now, prog := prog }, sliced := l.st.sliced || highCurrent u }
  exact Lane.HqAside.wr (.ite (hrun.wr PC_STAT_SHBIST 1 (by decide)) hrun) ST_STAT_BUSY 1 (by decide)

theorem Lane.runStart_hqAside (p : ProgAt) : l.HqAside (l.runStart p) := .ite (.refl l) (l.sliceStart_hqAside _ _ _)

theorem Lane.progEnd_hqAside : l.HqAside l.progEnd :=
  (((Lane.HqAside.refl l).st _).wr ST_STAT_PROG 0 (by decide)).event 172 (by decide)

theorem Lane.progRun_hqAside (k : Nat) : l.HqAside (l.progRun k) := by
  induction k generalizing l with
  | zero => exact l.progEnd_hqAside
  | succ k ih =>
    have hrefused := ((l.stResult_hqAside 5 (l.stepUnit (63 - k)) 0 0).event 170 (by decide)).trans (ih _)
    have hstarts := ((Lane.HqAside.refl l).st { l.st with prog := some { step := 63 - k } }).trans (Lane.runStart_hqAside _ { step := 63 - k })
    exact .ite l.progEnd_hqAside (.ite hrefused hstarts)

theorem Lane.progNext_hqAside : l.HqAside l.progNext := by
  unfold Lane.progNext
  split
  · exact .ite (.refl l) (.ite (l.progRun_hqAside _) (l.runStart_hqAside _))
  · exact .refl l

theorem Lane.sliceAccess_hqAside : l.HqAside l.sliceAccess := by
  unfold Lane.sliceAccess
  split
  next r hr =>
    split
    next hu => exact (l.sliceAbort_hqAside 2 hr (by omega)).trans (Lane.progNext_hqAside _)
    next => exact .refl l
  next => exact .refl l

/-- An access to memory stops a slice at most. -/
theorem Lane.accessed_hqAside (a n : Nat) : l.HqAside (l.accessed a n) := .ite l.sliceAccess_hqAside (.refl l)

end

end Sys2Proof.Machine
end

section
/-!
SUPPORT. What the Hampers refuse: pushes that find no room, and writes that the core may not make (spec/11_hamper_host.md R382, R383, R386).
-/

namespace Sys2Proof.Machine

/-! ### A kind that is raised at most once per outer cycle (R51) -/

/-- What the fault collector holds after a block has raised a kind at most once per outer cycle. -/
structure FcSt.Once (c d : FcSt) (key : Nat × Nat × Nat) : Prop where
  again : c.ceDone.contains key = true → d = c
  first : c.ceDone.contains key = false → d.ceDone.contains key = true
  wait : d.wait.length ≤ c.wait.length + 1

theorem FcSt.Once.raised {c d : FcSt} {key : Nat × Nat × Nat} (h : c.Once d key) :
    if c.ceDone.contains key then d.wait = c.wait else d.ceDone.contains key = true ∧ d.wait.length ≤ c.wait.length + 1 := by
  split
  next hc => rw [h.again hc]
  next hc => exact ⟨h.first (Bool.not_eq_true _ ▸ hc), h.wait⟩

theorem FcSt.Once.refl {c : FcSt} {key : Nat × Nat × Nat} (h : c.ceDone.contains key = true) : c.Once c key :=
  ⟨fun _ => rfl, fun _ => h, Nat.le_succ _⟩

theorem FcSt.Once.mark {c d : FcSt} {key : Nat × Nat × Nat} (h : ¬ c.ceDone.contains key = true)
    (hw : d.wait.length ≤ c.wait.length + 1) : c.Once { d with ceDone := key :: d.ceDone } key :=
  ⟨fun hc => absurd hc h, fun _ => List.contains_iff_mem.mpr List.mem_cons_self, hw⟩

section
variable (l : Lane)

theorem Lane.wait_present_le (m : Msg) : (l.present m).fc.wait.length ≤ l.fc.wait.length + 1 := by
  unfold Lane.present
  split
  · simp
  · simp

theorem Lane.wait_raise_le (src kind cls : Nat) (x : Option Ax) (data : Nat) :
    (l.raise src kind cls x data).fc.wait.length ≤ l.fc.wait.length + 1 := l.wait_present_le _

section
variable {l} {src kind : Nat} {x : Option Ax} (cls data : Nat)

theorem Lane.raiseOnce_again (h : l.fc.ceDone.contains (ceKey src kind x) = true) : l.raiseOnce src kind cls x data = l := if_pos h

theorem Lane.fc_raiseOnce_first (h : ¬ l.fc.ceDone.contains (ceKey src kind x) = true) :
    (l.raiseOnce src kind cls x data).fc =
      { (l.raise src kind cls x data).fc with ceDone := ceKey src kind x :: (l.raise src kind cls x data).fc.ceDone } := by
  rw [Lane.raiseOnce, if_neg h]

end

theorem Lane.raiseOnce_once (src kind cls : Nat) (x : Option Ax) (data : Nat) :
    l.fc.Once (l.raiseOnce src kind cls x data).fc (ceKey src kind x) := by
  by_cases h : l.fc.ceDone.contains (ceKey src kind x) = true
  · rw [Lane.raiseOnce_again cls data h]
    exact .refl h
  · rw [Lane.fc_raiseOnce_first cls data h]
    exact .mark h (l.wait_raise_le src kind cls x data)

end

/-! ### A push that is ignored (R382) -/

section
variable (l : Lane) (i : Nat)

theorem Lane.hamperOvr_eq :
    l.hamperOvr i = (((l.set (HQ_STAT_OVR i)).bump (ovrCnt i)).raiseOnce srcHQ 1 clsCE none
      ((l.set (HQ_STAT_OVR i)).bump (ovrCnt i)).ovrBits).event 144 := rfl

@[simp] theorem Lane.hamperOvr_hq : (l.hamperOvr i).hq = l.hq := by simp [Lane.hamperOvr_eq]

theorem Lane.hamperOvr_once : l.fc.Once (l.hamperOvr i).fc (srcHQ, 1, 2) := by
  have h := ((l.set (HQ_STAT_OVR i)).bump (ovrCnt i)).raiseOnce_once srcHQ 1 clsCE none
    ((l.set (HQ_STAT_OVR i)).bump (ovrCnt i)).ovrBits
  rw [Lane.bump_fc] at h
  rw [Lane.hamperOvr_eq, Lane.event_fc]
  exact h

/-- The message and the event of a refused push touch no register of the HQ block. -/
theorem Lane.reg_hamperOvr {a : Nat} (hd : a ≠ FC_DROP_CE.addr) (he : a ≠ (SY_EVSTAT_EV 4).addr) :
    (l.hamperOvr i).reg a = ((l.set (HQ_STAT_OVR i)).bump (ovrCnt i)).reg a := by
  rw [Lane.hamperOvr_eq, Lane.reg_event_ne _ 144 a he, Lane.reg_raiseOnce_ne _ _ _ _ _ _ a hd]

theorem Lane.reg_hamperOvr_ne {a : Nat} (hs : a ≠ (HQ_STAT_OVR i).addr) (hc : a ≠ HQ_OVRCNT_CNT0.addr) (hd : a ≠ FC_DROP_CE.addr)
    (he : a ≠ (SY_EVSTAT_EV 4).addr) : (l.hamperOvr i).reg a = l.reg a := by
  rw [l.reg_hamperOvr i hd he, Lane.reg_bump_ne _ (ovrCnt i) a hc]
  exact l.reg_wr_ne _ 1 a hs

/-- The status registers of the Hampers lie apart from their overrun counts, the dropped messages and the events. -/
theorem hqStat_addr_ne : (HQ_STAT_OVR i).addr ≠ HQ_OVRCNT_CNT0.addr ∧ (HQ_STAT_OVR i).addr ≠ FC_DROP_CE.addr ∧
    (HQ_STAT_OVR i).addr ≠ (SY_EVSTAT_EV 4).addr := by
  simp only [HQ_STAT_OVR, HQ_OVRCNT_CNT0, FC_DROP_CE, SY_EVSTAT_EV]
  omega

theorem ovrCnt_addr_ne : (ovrCnt i).addr ≠ FC_DROP_CE.addr ∧ (ovrCnt i).addr ≠ (SY_EVSTAT_EV 4).addr := by
  simp only [ovrCnt, HQ_OVRCNT_CNT0, FC_DROP_CE, SY_EVSTAT_EV]
  omega

theorem Lane.rd_ovr_hamperOvr : (l.hamperOvr i).rd (HQ_STAT_OVR i) = 1 := by
  obtain ⟨hc, hd, he⟩ := hqStat_addr_ne i
  rw [Lane.rd, l.reg_hamperOvr i hd he, Lane.reg_bump_ne _ (ovrCnt i) _ hc]
  exact l.rd_wr (HQ_STAT_OVR i) 1 (Nat.le_of_ble_eq_true rfl)

theorem Lane.rd_ovrCnt_hamperOvr (hi : i < 8) : (l.hamperOvr i).rd (ovrCnt i) = Nat.min (l.rd (ovrCnt i) + 1) 15 := by
  have hw : (ovrCnt i).lo + (ovrCnt i).w ≤ 64 := by
    simp only [ovrCnt]
    omega
  calc (l.hamperOvr i).rd (ovrCnt i)
      = ((l.set (HQ_STAT_OVR i)).bump (ovrCnt i)).rd (ovrCnt i) := by
        rw [Lane.rd, l.reg_hamperOvr i (ovrCnt_addr_ne i).1 (ovrCnt_addr_ne i).2, Lane.rd]
    _ = Nat.min ((l.set (HQ_STAT_OVR i)).rd (ovrCnt i) + 1) 15 := Lane.rd_bump _ hw
    _ = Nat.min (l.rd (ovrCnt i) + 1) 15 := by rw [Lane.set, Lane.rd_wr_ne _ _ (ovrCnt i) _ (hqStat_addr_ne i).1.symm]

end

/-- The pushes that wait take no room. -/
theorem Lane.hamperFull_late (l : Lane) (ps : List LatePush) (i n : Nat) :
    ({ l with hq := { l.hq with late := ps } } : Lane).hamperFull i n = l.hamperFull i n := by
  unfold Lane.hamperFull
  rw [HqSt.get_late]
  rfl

/-- A push that has waited and still finds no room is ignored. -/
theorem Lane.lateJudge_full {l : Lane} {p : LatePush} (h : l.hamperFull p.hamper p.payloads.length = true) :
    l.lateJudge p = (l.hamperOvr p.hamper).pushTold p.for_ true := if_pos h

/-! ### The end of a CLK_BUS cycle (R383, R394) -/

/-- What each operation of a list leaves as it is, they leave together. -/
theorem Lane.each_same {α β : Type} (l : Lane) (xs : List α) {f : Lane → α → Lane} (p : Lane → β)
    (h : ∀ k, ∀ x ∈ xs, p (f k x) = p k) : p (l.each xs f) = p l := by
  unfold Lane.each
  induction xs generalizing l with
  | nil => rfl
  | cons x xs ih => exact (ih (f l x) fun k y hy => h k y (.tail _ hy)).trans (h l x (.head _))

section
variable (l : Lane)

theorem Lane.hamperJudge_hq (i : Nat) : (l.hamperJudge i).hq = l.hq := by
  unfold Lane.hamperJudge
  dsimp only
  split
  · rfl
  · split
    · exact Lane.event_hq _ _
    · split
      · exact Lane.event_hq _ _
      · rfl

/-- An evaluation touches FULL and FLOW of its own Hamper, and the events. -/
theorem Lane.rd_hamperJudge {i : Nat} (hi : i < 8) {f : Fld} (hfull : f.apart (HQ_STAT_FULL i)) (hflow : f.apart (HQ_STAT_FLOW i))
    (he : f.addr ≠ (SY_EVSTAT_EV 4).addr) : (l.hamperJudge i).rd f = l.rd f := by
  have hput : ∀ b, (l.put (HQ_STAT_FULL i) b).rd f = l.rd f := fun b => l.rd_wr_apart _ hfull
  have hbank : (136 + i) / 32 = 4 := by omega
  have hevent : ∀ k : Lane, (k.event (136 + i)).rd f = k.rd f := fun k => k.rd_event_ne _ f (hbank ▸ he)
  have hwr : ∀ (k : Lane) v, (k.wr (HQ_STAT_FLOW i) v).rd f = k.rd f := fun k v => k.rd_wr_apart v hflow
  unfold Lane.hamperJudge
  dsimp only
  split
  · exact hput _
  · split
    · exact (hevent _).trans ((hwr _ 1).trans (hput _))
    · split
      · exact (hevent _).trans ((hwr _ 0).trans (hput _))
      · exact hput _

/-- FULL and the watermark states of all Hampers evaluated. -/
def Lane.judged (l : Lane) : Lane :=
  let l := l.each (List.range 8) (fun l h => l.hamperJudge h)
  { l with hq := { l.hq with evalDue := false } }

theorem Lane.judged_hq : l.judged.hq = { l.hq with evalDue := false } := by
  have h := l.each_same (List.range 8) (f := fun l h => l.hamperJudge h) Lane.hq fun k i _ => k.hamperJudge_hq i
  unfold Lane.judged
  dsimp only
  rw [h]

theorem Lane.rd_judged {f : Fld} (hfull : ∀ i, f.apart (HQ_STAT_FULL i)) (hflow : ∀ i, f.apart (HQ_STAT_FLOW i))
    (he : f.addr ≠ (SY_EVSTAT_EV 4).addr) : l.judged.rd f = l.rd f :=
  l.each_same (List.range 8) (f := fun l h => l.hamperJudge h) (fun k => k.rd f) fun k i hi =>
    k.rd_hamperJudge (List.mem_range.mp hi) (hfull i) (hflow i) he

/-- OVR stands above FULL and FLOW. -/
theorem Lane.rd_ovr_judged (i : Nat) : l.judged.rd (HQ_STAT_OVR i) = l.rd (HQ_STAT_OVR i) := by
  obtain ⟨-, -, he⟩ := hqStat_addr_ne i
  exact l.rd_judged (fun _ => .inr (.inr (Nat.le_refl 31))) (fun _ => .inr (.inr (Nat.le_succ 30))) he

theorem Lane.rd_ovrCnt_judged (i : Nat) : l.judged.rd (ovrCnt i) = l.rd (ovrCnt i) :=
  l.rd_judged (fun k => .inl (hqStat_addr_ne k).1.symm) (fun k => .inl (hqStat_addr_ne k).1.symm) (ovrCnt_addr_ne i).2

end

/-- A cycle that ends with one push that still finds no room, of a producer that is not told. -/
theorem Lane.hqEnd_full {l : Lane} {p : LatePush} (hp : l.hq.late = [p]) (hf : p.for_ = .none)
    (hfull : l.hamperFull p.hamper p.payloads.length = true) :
    l.hqEnd = (({ l with hq := { l.hq with late := [] } } : Lane).hamperOvr p.hamper).judged := by
  have hjudge : ({ l with hq := { l.hq with late := [] } } : Lane).lateJudge p =
      ({ l with hq := { l.hq with late := [] } } : Lane).hamperOvr p.hamper := by
    rw [Lane.lateJudge_full ((l.hamperFull_late [] _ _).trans hfull), hf]
    rfl
  unfold Lane.hqEnd
  dsimp only
  rw [hp]
  exact congrArg Lane.judged hjudge

/-! ### Writes that are refused (R386) -/

section
variable (l : Lane)

theorem hqPut_inHq (h : Fin 8) (n : Fin 7) : inHq (HQ_PUT h n).addr := by
  simp only [inHq, HQ_PUT]
  omega

/-- A refused write sets a mark and raises its kind. -/
def Lane.writeReject (l : Lane) (f : Fld) : Lane := (l.set f).raiseOnce srcHQ 4 clsCE none ((l.set f).reg HQ_GSTAT_FREE.addr).toNat

theorem Lane.prodReject_eq : l.prodReject = l.writeReject HQ_GSTAT_PRODREJ := rfl

theorem Lane.storageReject_eq : l.storageReject = l.writeReject HQ_GSTAT_STWR := rfl

/-- The marks of HQ_GSTAT. -/
def rejectFlds : List Fld := [HQ_GSTAT_PRODREJ, HQ_GSTAT_STWR]

theorem rejectFlds_place : ∀ f ∈ rejectFlds, f.addr = HQ_GSTAT_FREE.addr ∧ f.lo + f.w ≤ 64 ∧ f.w = 1 := by decide

variable (f : Fld)

theorem Lane.writeReject_hq : (l.writeReject f).hq = l.hq := Lane.raiseOnce_hq _ _ _ _ _ _

theorem Lane.writeReject_once : l.fc.Once (l.writeReject f).fc (srcHQ, 4, 2) := (l.set f).raiseOnce_once srcHQ 4 clsCE none _

variable {f} (hf : f ∈ rejectFlds)
include hf

theorem Lane.rd_writeReject : (l.writeReject f).rd f = 1 := by
  obtain ⟨ha, hw, h1⟩ := rejectFlds_place f hf
  have hd : f.addr ≠ FC_DROP_CE.addr := by rw [ha]; decide
  rw [Lane.writeReject, Lane.rd_raiseOnce_ne _ _ _ _ _ _ f hd, Lane.set, l.rd_wr f 1 hw, h1]
  rfl

theorem Lane.reg_writeReject_put (h : Fin 8) (n : Fin 7) : (l.writeReject f).reg (HQ_PUT h n).addr = l.reg (HQ_PUT h n).addr := by
  have hput : (HQ_PUT h n).addr ≠ f.addr ∧ (HQ_PUT h n).addr ≠ FC_DROP_CE.addr := by
    rw [(rejectFlds_place f hf).1]
    simp only [HQ_PUT, HQ_GSTAT_FREE, FC_DROP_CE]
    omega
  rw [Lane.writeReject, Lane.reg_raiseOnce_ne _ _ _ _ _ _ _ hput.2]
  exact l.reg_wr_ne f 1 _ hput.1

end

/-- A write to Hamper storage by a command that goes straight to the bus (R386). -/
theorem Lane.devWrite_storage (l : Lane) {a n : Nat} (v : Word) (hn : n ∈ [1, 2, 4, 8]) (ha : a % n = 0) (hlo : 0x10000000 ≤ a)
    (hhi : a < 0x10040000) : l.devWrite a n v = (({ l with busErr := false } : Lane).accessed a n).writeReject HQ_GSTAT_STWR := by
  have hn' : n = 1 ∨ n = 2 ∨ n = 4 ∨ n = 8 := by simpa using hn
  have htcm : ¬ a < 0x400000 := by omega
  have hst : inRange a 0x10000000 0x40000 = true := by simp [inRange]; omega
  have hplace : l.place a n = some .storage := by simp [Lane.place, hn', ha, htcm, hst]
  have hblock : blockOf a = none := by
    cases hb : blockOf a with
    | none => rfl
    | some e => exact absurd (blockOf_some_ge hb) (by omega)
  have hdown : l.downAt a .storage = none := by simp [Lane.downAt, domAt, hblock]
  exact l.devWrite_place v hplace hdown

/-- Settles O49: a push that finds no room waits or is ignored, and a write that is refused leaves its mark alone. -/
theorem refusedHamperPushesAreIgnored : Obligations.RefusedHamperPushesAreIgnored := by
  unfold Obligations.RefusedHamperPushesAreIgnored
  intro s i hr l once ovr rej
  have hovr : ∀ h : Fin 8, ovr h (l.hamperOvr h) := fun h =>
    ⟨l.hamperOvr_hq h, l.rd_ovr_hamperOvr h, l.rd_ovrCnt_hamperOvr h h.isLt, (l.hamperOvr_once h).raised⟩
  have hprod : rej HQ_GSTAT_PRODREJ l.prodReject :=
    ⟨l.writeReject_hq _, l.rd_writeReject (by decide), l.reg_writeReject_put (by decide), (l.writeReject_once _).raised⟩
  have hlate : ∀ (h : Fin 8) prio ps, l.hamperFull h ps.length = true → ovr h (l.lateJudge ⟨h.val, prio, ps, .none⟩) :=
    fun h prio ps hfull => (Lane.lateJudge_full (p := ⟨h.val, prio, ps, .none⟩) hfull).symm ▸ hovr h
  refine ⟨fun h => ⟨fun prio ps hc => Lane.hamperPush_noCapacity prio .none hc ▸ hovr h,
    fun prio ps hfull => ⟨hlate h prio ps hfull, fun hc => Lane.hamperPush_waits prio .none hc (.inl hfull)⟩, fun v hp hl => ?_,
    fun p hp hh hf hfull => ?_⟩,
    fun h hp n v => ⟨_, State.actD_to hr (Lane.hqPutWrite_refused n v hp), hprod⟩,
    fun h v hv => ⟨_, State.actD_to hr (Lane.hqPush_refused hv), hprod⟩, fun a n v hn ha hlo hhi => ?_⟩
  · have hpush := Lane.hqPush_producer hp hl
    exact ⟨fun hc => ⟨_, State.actD_to hr (hpush.trans (Lane.hamperPush_noCapacity _ _ hc)), hovr h⟩,
      fun hc hfull => ⟨_, _, State.actD_to hr (hpush.trans (Lane.hamperPush_waits _ _ hc (.inl hfull))), rfl, rfl⟩⟩
  · obtain ⟨n, prio, ps, f⟩ := p
    subst hh
    rw [Lane.hqEnd_full hp hf hfull]
    refine ⟨fun k => ?_, ?_, ?_, ?_⟩
    · rw [Lane.judged_hq, HqSt.get_evalDue, Lane.hamperOvr_hq, HqSt.get_late]
    · rw [Lane.judged_hq, Lane.hamperOvr_hq]
    · exact (Lane.rd_ovr_judged _ h).trans (Lane.rd_ovr_hamperOvr _ h)
    · exact (Lane.rd_ovrCnt_judged _ h).trans (Lane.rd_ovrCnt_hamperOvr _ h h.isLt)
  · have hstop := Lane.accessed_hqAside { l with busErr := false } a n
    have hrej : HQ_GSTAT_STWR ∈ rejectFlds := by decide
    refine ⟨_, exec_registerWrite_bus s i a n v hr, ?_⟩
    rw [Lane.devWrite_storage _ v hn ha hlo hhi]
    refine ⟨(Lane.writeReject_hq _ _).trans hstop.hq, Lane.rd_writeReject _ hrej, fun k m => ?_, ?_⟩
    · exact (Lane.reg_writeReject_put _ hrej k m).trans (hstop.reg _ (hqPut_inHq k m))
    · have honce := (Lane.writeReject_once (({ l with busErr := false } : Lane).accessed a n) HQ_GSTAT_STWR).raised
      rw [hstop.fc] at honce
      exact honce

end Sys2Proof.Machine
end

section
/-!
SUPPORT. The host port: what a frame does, by its result, and what a frame that fails leaves unchanged (spec/11_hamper_host.md R399 to R406).
-/

namespace Sys2Proof.Machine

/-! ### A frame, by its result (R399 to R404) -/

/-- The response is sent, and the mode of the frame noted. -/
def Lane.answered (l : Lane) (b : List Byte) (mode3 : Bool) : Lane :=
  (l.send (.host (l.response (byteAt b 0) b.length))).put HP_STAT_MODE3 mode3

section
variable {l : Lane} {b : List Byte} {whole : Bool} (mode3 : Bool)

theorem Lane.hostFrame_none (h : l.frameResult b whole = none) : l.hostFrame b whole mode3 = l.answered b mode3 := by
  simp only [Lane.hostFrame, h]
  rfl

theorem Lane.hostFrame_service (h : l.frameResult b whole = some 0) (hb : byteAt b 0 = 0x30) :
    l.hostFrame b whole mode3 = (l.answered b mode3).service b := by
  simp only [Lane.hostFrame, h, if_pos hb]
  rfl

theorem Lane.hostFrame_put (h : l.frameResult b whole = some 0) (hb : byteAt b 0 ≠ 0x30) :
    l.hostFrame b whole mode3 = (l.answered b mode3).hostPut b := by
  simp only [Lane.hostFrame, h, if_neg hb]
  rfl

theorem Lane.hostFrame_failed {r : Nat} (h : l.frameResult b whole = some r) (hr : r ≠ 0) :
    l.hostFrame b whole mode3 = (l.answered b mode3).recordResult r (byteAt b 0) := by
  obtain ⟨n, rfl⟩ := Nat.exists_eq_succ_of_ne_zero hr
  simp only [Lane.hostFrame, h]
  rfl

end

/-- NOP and STATUS have no result. -/
theorem Lane.frameResult_unanswering (l : Lane) (c : Byte) (rest : List Byte) (hc : c.toNat = 0x00 ∨ c.toNat = 0x20) :
    l.frameResult (c :: rest) true = none := by
  have hb : byteAt (c :: rest) 0 = c.toNat := rfl
  rcases hc with hc | hc <;> simp [Lane.frameResult, hb, hc]

/-- The command byte of a PUT names its Hamper. -/
theorem byteAt_put (h : Fin 8) (rest : List Byte) : byteAt (BitVec.ofNat 8 (0x10 + h) :: rest) 0 = 0x10 + h := by
  have : byteAt (BitVec.ofNat 8 (0x10 + h) :: rest) 0 = (BitVec.ofNat 8 (0x10 + h)).toNat := rfl
  rw [this, BitVec.toNat_ofNat]
  omega

/-- The commands that bring a whole SERVICE frame, by its code (Table 11.8). -/
theorem exec_service_frame {s : State} {i : LaneId} {rest : List Byte} {mode3 : Bool} {c : Instr} {code : Byte}
    (hc : (c = .enterService i rest mode3 ∧ code = 1#8) ∨ (c = .restart i rest mode3 ∧ code = 2#8) ∨
      (c = .handover i rest mode3 ∧ code = 3#8) ∨ (c = .ceiling i rest mode3 ∧ code = 4#8) ∨
      (∃ k : Fin 128, c = .integratorCode i k rest mode3 ∧ code = BitVec.ofNat 8 (0x80 + k))) :
    exec c s = s.act i (fun l => l.hostFrame (0x30#8 :: code :: rest) true mode3) := by
  rcases hc with ⟨rfl, rfl⟩ | ⟨rfl, rfl⟩ | ⟨rfl, rfl⟩ | ⟨rfl, rfl⟩ | ⟨k, rfl, rfl⟩ <;> rfl

/-- Settles O36: each command is a frame, which acts by its result, or a change of one register. -/
theorem hostCommandsComplete : Obligations.HostCommandsComplete := by
  unfold Obligations.HostCommandsComplete
  intro s i hr l
  refine ⟨fun rest mode3 => ⟨State.act_to hr (Lane.hostFrame_none mode3 (l.frameResult_unanswering _ rest (.inl rfl))),
      State.act_to hr (Lane.hostFrame_none mode3 (l.frameResult_unanswering _ rest (.inr rfl))), fun h => ⟨fun h0 => ?_, fun r hres hne =>
        State.act_to hr (Lane.hostFrame_failed mode3 hres hne)⟩, fun code c hc => ⟨fun h0 => ?_, fun r hres hne => ?_⟩,
      fun b whole => ⟨fun hn => State.act_to hr (Lane.hostFrame_none mode3 hn),
        fun h0 hb => State.act_to hr (Lane.hostFrame_service mode3 h0 hb), fun h0 hb => State.act_to hr (Lane.hostFrame_put mode3 h0 hb)⟩,
      fun b whole r hres hne => State.act_to hr (Lane.hostFrame_failed mode3 hres hne)⟩,
    State.act_to hr rfl, fun hc => State.act_to hr (if_neg hc), fun hc => State.act_ignored hr (if_pos hc), State.act_to hr rfl⟩
  · exact State.act_to hr (Lane.hostFrame_put mode3 h0 (by rw [byteAt_put]; omega))
  · exact (exec_service_frame hc).trans (State.act_to hr (Lane.hostFrame_service mode3 h0 rfl))
  · exact (exec_service_frame hc).trans (State.act_to hr (Lane.hostFrame_failed mode3 hres hne))

/-! ### A result other than OK (R401, R406) -/

section
variable (l : Lane)

/-- Where HP_CFG.IRQERR asks for it, the request is set by the hardware. -/
def Lane.errIrq (l : Lane) : Lane :=
  if l.on HP_CFG_IRQERR then { l.set HP_STAT_IRQ with hq := { l.hq with irqCyc := some (l.now / cycBus) } } else l

/-- A failed frame counts and sets ERR. -/
def Lane.errMarked (l : Lane) (r : Nat) : Lane := ((l.wr HP_STAT_LAST r).bump HP_CNT_ERR).set HP_STAT_ERR

theorem Lane.recordResult_failed {r : Nat} (byte0 : Nat) (hr : r ≠ 0) :
    l.recordResult r byte0 = ((l.errMarked r).errIrq.raiseOnce srcHP 1 clsCE none (r + 256 * byte0)).event 148 := if_neg hr

/-- The registers that a failed frame writes. -/
def errRegs : List Nat := [HP_STAT_ERR.addr, HP_CNT_ERR.addr, FC_DROP_CE.addr, (SY_EVSTAT_EV 4).addr]

/-- All that a failed frame changes: these registers, what is sent, the messages that wait, the flow scheduler, and the cycle of the last
request by the hardware. -/
structure Lane.Failed (l t : Lane) : Prop where
  form : ∃ r o c d q, t = { l with regs := r, out := o, fc := c, sc := d, hq := { l.hq with irqCyc := q } }
  reg : ∀ a, a ∉ errRegs → t.reg a = l.reg a

end

namespace Lane.Failed

section
variable {l m t : Lane}

theorem refl (l : Lane) : l.Failed l := ⟨⟨_, _, _, _, _, rfl⟩, fun _ _ => rfl⟩

theorem trans (h : l.Failed m) (k : m.Failed t) : l.Failed t := by
  refine ⟨?_, fun a ha => (k.reg a ha).trans (h.reg a ha)⟩
  obtain ⟨_, _, _, _, _, rfl⟩ := h.form
  obtain ⟨r, o, c, d, q, rfl⟩ := k.form
  exact ⟨r, o, c, d, q, rfl⟩

theorem wr (h : l.Failed t) (f : Fld) (v : Nat) (hf : f.addr ∈ errRegs) : l.Failed (t.wr f v) :=
  h.trans ⟨⟨_, _, _, _, _, rfl⟩, fun a ha => t.reg_wr_ne f v a fun e => ha (e ▸ hf)⟩

theorem bump (h : l.Failed t) (f : Fld) (hf : f.addr ∈ errRegs) : l.Failed (t.bump f) := by
  obtain ⟨r, hform, _⟩ := t.bump_form f
  exact h.trans ⟨⟨r, _, _, _, _, hform⟩, fun a ha => t.reg_bump_ne f a fun e => ha (e ▸ hf)⟩

theorem send (h : l.Failed t) (o : Sent) : l.Failed (t.send o) := h.trans ⟨⟨_, _, _, _, _, rfl⟩, fun _ _ => rfl⟩

theorem irqCyc (h : l.Failed t) (q : Option Nat) : l.Failed { t with hq := { t.hq with irqCyc := q } } :=
  h.trans ⟨⟨_, _, _, _, _, rfl⟩, fun _ _ => rfl⟩

theorem raiseOnce (h : l.Failed t) (src kind cls : Nat) (x : Option Ax) (data : Nat) : l.Failed (t.raiseOnce src kind cls x data) := by
  obtain ⟨r, c, hform, _⟩ := t.raiseOnce_form src kind cls x data
  have hd : FC_DROP_CE.addr ∈ errRegs := by decide
  exact h.trans ⟨⟨r, _, c, _, _, hform⟩, fun a ha => t.reg_raiseOnce_ne src kind cls x data a fun e => ha (e ▸ hd)⟩

theorem event (h : l.Failed t) (n : Nat) (hn : (SY_EVSTAT_EV (n / 32)).addr ∈ errRegs) : l.Failed (t.event n) := by
  obtain ⟨r, c, hform, _⟩ := t.event_form n
  exact h.trans ⟨⟨r, _, _, c, _, hform⟩, fun a ha => t.reg_event_ne n a fun e => ha (e ▸ hn)⟩

/-- Beside the registers and the parts named, the lane is as it was. -/
theorem others (h : l.Failed t) : { t with regs := l.regs, out := l.out, fc := l.fc, sc := l.sc, hq := l.hq } = l := by
  obtain ⟨_, _, _, _, _, rfl⟩ := h.form
  rfl

theorem hampers (h : l.Failed t) : t.hq = { l.hq with irqCyc := t.hq.irqCyc } := by
  obtain ⟨_, _, _, _, _, rfl⟩ := h.form
  rfl

end

end Lane.Failed

section
variable (l : Lane)

theorem Lane.answered_failed (b : List Byte) (mode3 : Bool) : l.Failed (l.answered b mode3) :=
  ((Lane.Failed.refl l).send _).wr HP_STAT_MODE3 _ (by decide)

theorem Lane.errMarked_failed (r : Nat) : l.Failed (l.errMarked r) :=
  (((Lane.Failed.refl l).wr HP_STAT_LAST r (by decide)).bump HP_CNT_ERR (by decide)).wr HP_STAT_ERR 1 (by decide)

theorem Lane.errIrq_failed : l.Failed l.errIrq := by
  unfold Lane.errIrq
  split
  · exact ((Lane.Failed.refl l).wr HP_STAT_IRQ 1 (by decide)).irqCyc _
  · exact .refl l

/-- What a failed frame has counted and marked, and the other two counts. -/
structure Lane.ErrCounted (l t : Lane) : Prop where
  err : t.rd HP_CNT_ERR = Nat.min (l.rd HP_CNT_ERR + 1) 255
  mark : t.rd HP_STAT_ERR = 1
  put : t.rd HP_CNT_PUT = l.rd HP_CNT_PUT
  svc : t.rd HP_CNT_SVC = l.rd HP_CNT_SVC

/-- The counts are those of HP_CNT, whatever else has changed before. -/
theorem Lane.ErrCounted.of_cnt {l k t : Lane} (h : k.ErrCounted t) (hk : k.reg HP_CNT_ERR.addr = l.reg HP_CNT_ERR.addr) :
    l.ErrCounted t :=
  ⟨h.err.trans (congrArg (fun w => Nat.min (getBits w 16 8 + 1) 255) hk), h.mark, h.put.trans (congrArg (fun w => getBits w 0 16) hk),
    h.svc.trans (congrArg (fun w => getBits w 24 8) hk)⟩

theorem Lane.errMarked_counted (r : Nat) : l.ErrCounted (l.errMarked r) := by
  have hset : ∀ f : Fld, f.addr = HP_CNT_ERR.addr → (l.errMarked r).rd f = ((l.wr HP_STAT_LAST r).bump HP_CNT_ERR).rd f := fun f hf =>
    Lane.rd_wr_ne _ _ _ _ (by rw [hf]; decide)
  have hlast : ∀ f : Fld, f.addr = HP_CNT_ERR.addr → (l.wr HP_STAT_LAST r).rd f = l.rd f := fun f hf =>
    Lane.rd_wr_ne _ _ _ _ (by rw [hf]; decide)
  refine ⟨?_, Lane.rd_wr _ HP_STAT_ERR 1 (by decide), ?_, ?_⟩
  · rw [hset HP_CNT_ERR rfl, Lane.rd_bump _ (by decide), hlast HP_CNT_ERR rfl]
    rfl
  · exact (hset HP_CNT_PUT rfl).trans ((Lane.rd_bump_apart _ (by decide)).trans (hlast HP_CNT_PUT rfl))
  · exact (hset HP_CNT_SVC rfl).trans ((Lane.rd_bump_apart _ (by decide)).trans (hlast HP_CNT_SVC rfl))

variable {r : Nat} (byte0 : Nat) (hr : r ≠ 0)
include hr

theorem Lane.recordResult_isFailed : l.Failed (l.recordResult r byte0) := by
  rw [l.recordResult_failed byte0 hr]
  exact (((l.errMarked_failed r).trans (Lane.errIrq_failed _)).raiseOnce _ _ _ _ _).event 148 (by decide)

theorem Lane.recordResult_once : l.fc.Once (l.recordResult r byte0).fc (srcHP, 1, 2) := by
  have hfc : (l.errMarked r).errIrq.fc = l.fc := by
    have hirq : (l.errMarked r).errIrq.fc = (l.errMarked r).fc := by
      unfold Lane.errIrq
      split <;> rfl
    exact hirq.trans (Lane.bump_fc _ _)
  rw [l.recordResult_failed byte0 hr, Lane.event_fc, ← hfc]
  exact Lane.raiseOnce_once _ srcHP 1 clsCE none _

/-- The request, the message and the event come after the count and the mark. -/
theorem Lane.rd_recordResult {f : Fld} (hd : f.addr ≠ FC_DROP_CE.addr) (he : f.addr ≠ (SY_EVSTAT_EV 4).addr) (hi : f.apart HP_STAT_IRQ) :
    (l.recordResult r byte0).rd f = (l.errMarked r).rd f := by
  rw [l.recordResult_failed byte0 hr, Lane.rd_event_ne _ 148 f he, Lane.rd_raiseOnce_ne _ _ _ _ _ _ f hd]
  unfold Lane.errIrq
  split
  · exact Lane.rd_wr_apart _ 1 hi
  · rfl

theorem Lane.recordResult_counted : l.ErrCounted (l.recordResult r byte0) := by
  obtain ⟨herr, hmark, hput, hsvc⟩ := l.errMarked_counted r
  exact ⟨(l.rd_recordResult byte0 hr (by decide) (by decide) (by decide)).trans herr,
    (l.rd_recordResult byte0 hr (by decide) (by decide) (by decide)).trans hmark,
    (l.rd_recordResult byte0 hr (by decide) (by decide) (by decide)).trans hput,
    (l.rd_recordResult byte0 hr (by decide) (by decide) (by decide)).trans hsvc⟩

end

/-! ### A PUT whose push is refused (R383, R401) -/

/-- A refused push keeps the counts of the host port. -/
theorem Lane.hamperOvr_cnt (l : Lane) (i : Fin 8) : (l.hamperOvr i).reg HP_CNT_ERR.addr = l.reg HP_CNT_ERR.addr := by
  refine l.reg_hamperOvr_ne i ?_ (by decide) (by decide) (by decide)
  simp only [HP_CNT_ERR, HQ_STAT_OVR]
  omega

/-- The port records that its push was refused. -/
theorem Lane.putRefused_counted (l : Lane) (i : Fin 8) (b : Nat) : l.ErrCounted ((l.hamperOvr i).pushTold (.put b) true) :=
  (Lane.recordResult_counted _ b (by decide : 9 ≠ 0)).of_cnt (l.hamperOvr_cnt i)

theorem Lane.putRefused_hampers (l : Lane) (i : Nat) (b : Nat) :
    ((l.hamperOvr i).pushTold (.put b) true).hq = { l.hq with irqCyc := ((l.hamperOvr i).pushTold (.put b) true).hq.irqCyc } := by
  have h := (Lane.recordResult_isFailed (l.hamperOvr i) b (by decide : 9 ≠ 0)).hampers
  rw [Lane.hamperOvr_hq] at h
  exact h

/-- The commands that bring a frame that may fail. -/
theorem exec_host_frame {s : State} {i : LaneId} {c : Instr} {b rest : List Byte} {whole mode3 : Bool}
    (hc : c = .hostBadCommand i b whole mode3 ∨
       (whole = true ∧ ((∃ h : Fin 8, b = BitVec.ofNat 8 (0x10 + h) :: rest ∧ c = .hostPut i h rest mode3) ∨
        (b = 0x30#8 :: 1#8 :: rest ∧ c = .enterService i rest mode3) ∨ (b = 0x30#8 :: 2#8 :: rest ∧ c = .restart i rest mode3) ∨
        (b = 0x30#8 :: 3#8 :: rest ∧ c = .handover i rest mode3) ∨ (b = 0x30#8 :: 4#8 :: rest ∧ c = .ceiling i rest mode3) ∨
        (∃ k : Fin 128, b = 0x30#8 :: BitVec.ofNat 8 (0x80 + k) :: rest ∧ c = .integratorCode i k rest mode3)))) :
    exec c s = s.act i (fun l => l.hostFrame b whole mode3) := by
  rcases hc with rfl | ⟨rfl, ⟨h, rfl, rfl⟩ | ⟨rfl, rfl⟩ | ⟨rfl, rfl⟩ | ⟨rfl, rfl⟩ | ⟨rfl, rfl⟩ | ⟨k, rfl, rfl⟩⟩ <;> rfl

/-- A PUT that passes the checks is a push into the Hamper that its command byte names. -/
theorem Lane.hostPut_push (l : Lane) {b : List Byte} {h : Fin 8} (hb : byteAt b 0 = 0x10 + h) :
    l.hostPut b = l.hamperPush h (byteAt b 1 % 8) [(b.drop 3).take (byteAt b 2)] (.put (0x10 + h)) := by
  rw [Lane.hostPut, hb, Nat.add_sub_cancel_left]

/-- The answer to a frame leaves the Hampers' settings and their room. -/
theorem Lane.reg_answered_ne (l : Lane) (b : List Byte) (mode3 : Bool) {a : Nat} (ha : a ≠ HP_STAT_MODE3.addr) :
    (l.answered b mode3).reg a = l.reg a := (l.send _).reg_wr_ne HP_STAT_MODE3 _ a ha

theorem Lane.rd_cap_answered (l : Lane) (b : List Byte) (mode3 : Bool) (h : Fin 8) :
    (l.answered b mode3).rd (HQ_CFG_CAP h) = l.rd (HQ_CFG_CAP h) := by
  have ha : (HQ_CFG_CAP h).addr ≠ HP_STAT_MODE3.addr := by
    simp only [HQ_CFG_CAP, HP_STAT_MODE3]
    omega
  rw [Lane.rd, l.reg_answered_ne b mode3 ha, Lane.rd]

theorem Lane.hamperFull_answered (l : Lane) (b : List Byte) (mode3 : Bool) (h : Fin 8) (n : Nat) :
    (l.answered b mode3).hamperFull h n = l.hamperFull h n := by
  rw [Lane.hamperFull, l.rd_cap_answered b mode3 h]
  rfl

/-- Settles O51: a failed frame is an answer and a record, which touch no Hamper and no other count; a refused push is recorded alike. -/
theorem failedHostFrameHasNoEffect : Obligations.FailedHostFrameHasNoEffect := by
  unfold Obligations.FailedHostFrameHasNoEffect
  intro s i hr l counted
  have hcnt : ∀ b mode3, (l.answered b mode3).reg HP_CNT_ERR.addr = l.reg HP_CNT_ERR.addr := fun b mode3 =>
    l.reg_answered_ne b mode3 (by decide)
  refine ⟨fun c b rest whole mode3 r hc hres hne => ?_, fun h rest mode3 h0 => ?_, fun h prio b ps hfull => ?_⟩
  · have hfail := (l.answered_failed b mode3).trans (Lane.recordResult_isFailed _ (byteAt b 0) hne)
    obtain ⟨herr, hmark, hput, hsvc⟩ := (Lane.recordResult_counted _ (byteAt b 0) hne).of_cnt (hcnt b mode3)
    have honce := Lane.recordResult_once (l.answered b mode3) (byteAt b 0) hne
    exact ⟨_, (exec_host_frame hc).trans (State.act_to hr (Lane.hostFrame_failed mode3 hres hne)), ⟨herr, hmark⟩, hfail.others, hfail.hampers,
      hfail.reg, hput, hsvc, honce.again, honce.wait⟩
  · have hb := byteAt_put h rest
    have hframe := (Lane.hostFrame_put mode3 h0 (by omega)).trans (Lane.hostPut_push _ hb)
    have hcap := l.rd_cap_answered (BitVec.ofNat 8 (0x10 + h) :: rest) mode3 h
    have hcounts := hcnt (BitVec.ofNat 8 (0x10 + h) :: rest) mode3
    refine ⟨fun hc => ?_, fun hc hfull => ?_⟩
    · obtain ⟨herr, hmark, hput, -⟩ := (Lane.putRefused_counted _ h (0x10 + h)).of_cnt hcounts
      exact ⟨_, State.act_to hr (hframe.trans (Lane.hamperPush_noCapacity _ _ (hcap.trans hc))), ⟨herr, hmark⟩,
        Lane.putRefused_hampers _ h _, hput⟩
    · have hfull' := (l.hamperFull_answered (BitVec.ofNat 8 (0x10 + h) :: rest) mode3 h 1).trans hfull
      exact ⟨_, _, State.act_to hr (hframe.trans (Lane.hamperPush_waits _ _ (hcap.trans_ne hc) (.inl hfull'))), rfl, rfl, rfl, rfl,
        congrArg (fun w => getBits w 0 16) hcounts⟩
  · have hjudge := Lane.lateJudge_full (p := ⟨h.val, prio, ps, .put b⟩) hfull
    obtain ⟨herr, hmark, hput, -⟩ := l.putRefused_counted h b
    dsimp only
    rw [hjudge]
    exact ⟨⟨herr, hmark⟩, l.putRefused_hampers h b, hput⟩

end Sys2Proof.Machine
end

section
/-!
SUPPORT. The model's own representation: what the canonical forms of a register file and of a memory leave open, and the state after reset.
-/

namespace Sys2Proof.Machine

/-! ### Lists in order of address -/

theorem rising_pairwise {α : Type} {r : List (Nat × α)} (h : rising r = true) : r.Pairwise (fun p q => p.1 < q.1) := by
  induction r with
  | nil => exact .nil
  | cons p t ih =>
    obtain ⟨ht, hp⟩ := rising_cons p t h
    exact .cons hp (ih ht)

/-- Two lists in order of address with the same entries are the same list. -/
theorem rising_ext {α : Type} {r r' : List (Nat × α)} (h : rising r = true) (h' : rising r' = true) (hmem : ∀ p, p ∈ r ↔ p ∈ r') :
    r = r' :=
  have : Std.Irrefl (fun p q : Nat × α => p.1 < q.1) := ⟨fun p => Nat.lt_irrefl p.1⟩
  (rising_pairwise h).eq_of_mem_iff (rising_pairwise h') hmem

/-! ### Entries and reads -/

/-- The entries of a canonical register file are the registers that do not hold their reset value. -/
theorem mem_iff_regGet {r : List (Nat × Word)} (h : regsWf r = true) (a : Nat) (v : Word) :
    (a, v) ∈ r ↔ regGet r a = v ∧ v ≠ resetReg a := by
  induction r with
  | nil => simp [regGet, eq_comm]
  | cons p t ih =>
    obtain ⟨b, w⟩ := p
    simp only [regsWf, Bool.and_eq_true, List.all_cons, decide_eq_true_eq] at h ih
    obtain ⟨hrise, hw, hall⟩ := h
    obtain ⟨ht, hlt⟩ := rising_cons (b, w) t hrise
    have habove : ∀ q ∈ t, b < q.1 := hlt
    rw [List.mem_cons, ih ⟨ht, hall⟩, regGet, Prod.mk.injEq]
    by_cases hab : a = b
    · subst hab
      have hnone : ¬ (regGet t a = v ∧ v ≠ resetReg a) := fun hv =>
        Nat.lt_irrefl a (habove (a, v) ((ih ⟨ht, hall⟩).mpr hv))
      simp only [if_true, hnone, or_false, true_and]
      exact ⟨fun e => ⟨e.symm, e ▸ hw⟩, fun e => e.1.symm⟩
    · simp [hab]

/-- The entries of a canonical memory are the bytes that do not hold what an unlisted byte reads as. -/
theorem mem_iff_memFind {m : List Host.Cell} (h : Memory.wf m = true) (a : Nat) (v : Byte) :
    (a, v) ∈ m ↔ (memFind m a).or (memDefault a) = some v ∧ some v ≠ memDefault a := by
  induction m with
  | nil => simp [memFind, eq_comm]
  | cons p t ih =>
    obtain ⟨b, w⟩ := p
    simp only [Memory.wf, Bool.and_eq_true, List.all_cons, decide_eq_true_eq] at h ih
    obtain ⟨hrise, hw, hall⟩ := h
    obtain ⟨ht, hlt⟩ := rising_cons (b, w) t hrise
    have habove : ∀ q ∈ t, b < q.1 := hlt
    rw [List.mem_cons, ih ⟨ht, hall⟩, memFind, Prod.mk.injEq]
    by_cases hab : a = b
    · subst hab
      have hnone : ¬ ((memFind t a).or (memDefault a) = some v ∧ some v ≠ memDefault a) := fun hv =>
        Nat.lt_irrefl a (habove (a, v) ((ih ⟨ht, hall⟩).mpr hv))
      simp only [if_true, hnone, or_false, true_and, Option.some_or, Option.some.injEq]
      exact ⟨fun e => ⟨e.symm, e ▸ hw⟩, fun e => e.1.symm⟩
    · simp [hab]

/-- Settles O7: the entries of a canonical list are fixed by what it reads as, and their order by the addresses. -/
theorem equalReadsAreEqualFiles : Obligations.EqualReadsAreEqualFiles := by
  unfold Obligations.EqualReadsAreEqualFiles
  refine ⟨fun r r' hr hr' hread => ?_, fun m m' hm hm' hread => ?_⟩
  · refine rising_ext (Bool.and_eq_true _ _ ▸ hr).1 (Bool.and_eq_true _ _ ▸ hr').1 fun ⟨a, v⟩ => ?_
    rw [mem_iff_regGet hr, mem_iff_regGet hr', hread]
  · refine rising_ext (Bool.and_eq_true _ _ ▸ hm).1 (Bool.and_eq_true _ _ ▸ hm').1 fun ⟨a, v⟩ => ?_
    rw [mem_iff_memFind hm, mem_iff_memFind hm', hread]

/-! ### The state after reset -/

@[simp] theorem State.lane_reset (i : LaneId) : State.reset.lane i = Lane.reset .apx9603 i := by cases i <;> rfl

/-- Settles O6: every lane of State.reset is the lane right after power-up. -/
theorem resetIsSound : Obligations.ResetIsSound := by
  unfold Obligations.ResetIsSound
  refine ⟨rfl, rfl, fun i _ => State.lane_reset i, fun i => ?_, fun i => ?_⟩
  · rw [State.lane_reset]; rfl
  · rw [State.lane_reset]
    exact ⟨rfl, rfl, rfl, rfl, rfl, rfl⟩

/-! ### A step -/

theorem State.lane_onLane (s : State) (i j : LaneId) (f : Lane → Lane) :
    (s.onLane i f).lane j = if j = i ∧ s.part.hasLane i = true then f (s.lane j) else s.lane j := by
  by_cases hji : j = i
  · subst hji
    cases h : s.part.hasLane j with
    | true => simp [State.onLane_here s j f h]
    | false => simp [State.onLane_absent s j f h]
  · simp [hji, State.lane_onLane_ne s i j f hji]

@[simp] theorem State.part_tick (s : State) : s.tick.part = s.part := by simp [State.tick]

@[simp] theorem State.pending_tick (s : State) : s.tick.pending = s.pending := by simp [State.tick]

/-- A tick takes each lane of the module by itself. -/
theorem State.lane_tick (s : State) (i : LaneId) :
    s.tick.lane i = if s.part.hasLane i = true then (s.lane i).tick else s.lane i := by
  cases i <;> simp [State.tick, State.lane_onLane]

/-- A lane held in reset only ages. -/
theorem Lane.tick_held {l : Lane} (h : l.sy.held = true) : l.tick = { l with now := l.now + 1 } := if_pos h

theorem step_front {s : State} {c : Instr} {r : List Instr} (h : s.pending = c :: r) : step s = exec c { s with pending := r } := by
  rw [step, h]

theorem step_idle {s : State} (h : s.pending = []) : step s = .next s.tick := by
  rw [step, h]

/-- Settles O1: a step is the command at the front, or the tick, which each lane of the module makes by itself. -/
theorem frontCommandRuns : Obligations.FrontCommandRuns := by
  unfold Obligations.FrontCommandRuns
  refine ⟨fun s c r h => step_front h, fun s h => ⟨s.tick, step_idle h, by simp [h], s.part_tick, ?_, ?_, ?_⟩⟩
  · exact fun i hi => (s.lane_tick i).trans (if_pos hi)
  · exact fun i hi => (s.lane_tick i).trans (if_neg (by simp [hi]))
  · exact fun i hi hheld => (s.lane_tick i).trans ((if_pos hi).trans (Lane.tick_held hheld))

/-- Settles O2: every command is an operation on the lane it names. -/
theorem everyCommandAnswers : Obligations.EveryCommandAnswers := by
  unfold Obligations.EveryCommandAnswers
  intro c s
  obtain ⟨f, hf⟩ := exec_gate c s
  exact ⟨_, hf, s.part_onLane _ _, s.pending_onLane _ _, fun j hj => s.lane_onLane_ne _ _ _ hj⟩

/-! ### A lane that has not what the command needs -/

/-- A lane without what the command's gate asks for takes no command. -/
theorem exec_shut {c : Instr} {s : State} (h : (gateOf c).holds (s.lane c.lane) = false) : exec c s = .next s := by
  obtain ⟨f, hf⟩ := exec_gate c s
  rw [hf, State.onLane_same]
  simp [h]

theorem exec_absent {c : Instr} {s : State} (h : s.part.hasLane c.lane = false) : exec c s = .next s := by
  obtain ⟨f, hf⟩ := exec_gate c s
  rw [hf, State.onLane_absent _ _ _ h]

/-- In reset only what acts always takes effect. -/
theorem Gate.shut_of_held {g : Gate} {l : Lane} (hg : g ≠ .always) (h : l.sy.held = true) : g.holds l = false := by
  cases g with
  | always => exact absurd rfl hg
  | wake | collector | clocked | domain | axis | table | present | engine => simp [Gate.holds, Lane.clocked, h]

/-- Without clocks, only that, what needs none, and the collector. -/
theorem Gate.shut_of_stopped {g : Gate} {l : Lane} (ha : g ≠ .always) (hw : g ≠ .wake) (hc : g ≠ .collector) (h : l.pw.stopped = true) :
    g.holds l = false := by
  cases g with
  | always => exact absurd rfl ha
  | wake => exact absurd rfl hw
  | collector => exact absurd rfl hc
  | clocked | domain | axis | table | present | engine => simp [Gate.holds, Lane.clocked, h]

/-- Settles O3: a shut gate leaves the state, and a core access to a domain that is down is `Lane.downAccess`. -/
theorem notReadyChangesNothing : Obligations.NotReadyChangesNothing := by
  unfold Obligations.NotReadyChangesNothing
  intro c s
  refine ⟨exec_absent, fun hg hheld => exec_shut (Gate.shut_of_held hg hheld),
    fun ha hw hc hstop => exec_shut (Gate.shut_of_stopped ha hw hc hstop), fun d hg hd => exec_shut ?_, fun x d hg h => exec_shut ?_,
    fun x hg h => exec_shut ?_, fun x hg h => exec_shut ?_, fun x hg h => exec_shut ?_, fun d r hacc hr hd => ?_⟩
  · simp [hg, Gate.holds, hd]
  · rcases h with h | h <;> simp [hg, Gate.holds, h]
  · rcases h with h | h <;> simp [hg, Gate.holds, h]
  · simp [hg, Gate.holds, h]
  · rcases h with h | h <;> simp [hg, Gate.holds, h]
  · have hdown := exec_down c s d r hacc hr hd
    refine ⟨fun hcome => ?_, fun hcome hval => ?_, fun hcome hval => ?_⟩
    · rw [hdown, State.inLane, Lane.downAccess, if_pos hcome]
    · rw [hdown, State.inLane, Lane.downAccess, if_neg (by simp [hcome]), if_pos hval, Lane.offAccess]
    · rw [hdown, State.inLane, Lane.downAccess, if_neg (by simp [hcome]), if_neg (by simp [hval]), Lane.offAccess, Lane.returns]

end Sys2Proof.Machine
end

section
/-!
SUPPORT. Resets and their release: what a reset leaves of a lane, whoever asks for it (spec/16_start_up.md R530, R533;
spec/17_package_electrical.md R568, R569; spec/18_address_map.md R579).
-/

namespace Sys2Proof.Machine

/-- What the registers of the driver die, of a result or of the time quality have no part in. -/
structure Lane.ResetPart (l t : Lane) : Prop where
  sy : t.sy = l.sy
  pc : t.pc = l.pc
  fc : t.fc = l.fc
  im : t.im = l.im
  mem : t.mem = l.mem
  mode : t.mode = l.mode

theorem Lane.ResetPart.refl (l : Lane) : l.ResetPart l := ⟨rfl, rfl, rfl, rfl, rfl, rfl⟩

theorem Lane.ResetPart.trans {l m t : Lane} (h : l.ResetPart m) (k : m.ResetPart t) : l.ResetPart t :=
  ⟨k.sy.trans h.sy, k.pc.trans h.pc, k.fc.trans h.fc, k.im.trans h.im, k.mem.trans h.mem, k.mode.trans h.mode⟩

theorem Lane.ResetPart.each {α : Type} (l : Lane) (xs : List α) (f : Lane → α → Lane) (h : ∀ (k : Lane), ∀ x ∈ xs, k.ResetPart (f k x)) :
    l.ResetPart (l.each xs f) := by
  unfold Lane.each
  induction xs generalizing l with
  | nil => exact .refl l
  | cons x r ih => exact (h l x (.head _)).trans (ih (f l x) (fun k y hy => h k y (.tail _ hy)))

theorem Lane.ResetPart.setReg (l : Lane) (a : Nat) (v : Word) (h : SY_MODE_OWN.addr ≠ a) : l.ResetPart (l.setReg a v) :=
  ⟨rfl, rfl, rfl, rfl, rfl, (l.calm_setReg a v h).mode⟩

theorem Lane.ResetPart.wr (l : Lane) (f : Fld) (v : Nat)
    (h : SY_MODE_OWN.addr ≠ f.addr ∨ f.lo + f.w ≤ SY_MODE_OWN.lo ∨ SY_MODE_OWN.lo + SY_MODE_OWN.w ≤ f.lo) : l.ResetPart (l.wr f v) :=
  ⟨rfl, rfl, rfl, rfl, rfl, (l.calm_wr f v h).mode⟩

theorem Lane.mode_congr {l t : Lane} (h : t.regs = l.regs) : t.mode = l.mode := by
  rw [Lane.mode, Lane.mode, Lane.rd, Lane.rd, Lane.reg, Lane.reg, h]

/-- A change of neither SY, PC, FC, the image, the memory nor the registers. -/
theorem Lane.ResetPart.of {l t : Lane} (sy : t.sy = l.sy) (pc : t.pc = l.pc) (fc : t.fc = l.fc) (im : t.im = l.im) (mem : t.mem = l.mem)
    (regs : t.regs = l.regs) : l.ResetPart t :=
  ⟨sy, pc, fc, im, mem, Lane.mode_congr regs⟩

theorem Lane.ResetPart.dieOnly (l : Lane) (f : Lane → Lane) : l.ResetPart (l.dieOnly f) := by
  unfold Lane.dieOnly
  dsimp only
  refine .trans (.each l _ _ fun k g hg => .setReg k _ _ ?_)
    (.trans (.of (t := { Lane.each l _ _ with dl := (f l).dl, trip := _ }) rfl rfl rfl rfl rfl rfl) (.each _ _ _ fun k x _ => ?_))
  · revert g
    decide
  · cases x <;> exact .of rfl rfl rfl rfl rfl rfl

theorem Lane.ResetPart.ttQuality (l : Lane) : l.ResetPart l.ttQuality :=
  (Lane.ResetPart.wr _ _ _ (by decide)).trans (Lane.ResetPart.wr _ _ _ (by decide))

theorem Lane.ResetPart.stResult (l : Lane) (res u cov dur : Nat) : l.ResetPart (l.stResult res u cov dur) :=
  (((Lane.ResetPart.wr _ _ _ (by decide)).trans (Lane.ResetPart.wr _ _ _ (by decide))).trans (Lane.ResetPart.wr _ _ _ (by decide))).trans
    (Lane.ResetPart.wr _ _ _ (by decide))

theorem Lane.ResetPart.showMode (l : Lane) : l.ResetPart l.showMode := by
  refine ((Lane.ResetPart.wr _ _ _ ?_).trans (Lane.ResetPart.wr _ _ _ ?_)).trans (Lane.ResetPart.wr _ _ _ ?_) <;>
    cases l.me <;> decide

/-- A register that is not listed holds its reset value. -/
theorem regGet_unlisted {r : List (Nat × Word)} {a : Nat} (h : ∀ p ∈ r, p.1 ≠ a) : regGet r a = resetReg a := by
  induction r with
  | nil => rfl
  | cons p t ih =>
    rw [regGet, if_neg (h p (.head t)).symm, ih fun q hq => h q (.tail p hq)]

/-- The mode is BOOT where SY_MODE is not among the registers left. -/
theorem Lane.mode_unlisted {l : Lane} (h : ∀ p ∈ l.regs, p.1 ≠ SY_MODE_OWN.addr) : l.mode = mBoot := by
  have hreset : getBits (resetReg SY_MODE_OWN.addr) SY_MODE_OWN.lo SY_MODE_OWN.w = mBoot := by decide +kernel
  rw [Lane.mode, Lane.rd, Lane.reg, regGet_unlisted h, hreset]

/-- The lane that a reset of every domain but AO starts from, before the fields and the latches of the die that stay are put back. -/
def Lane.resetBase (l : Lane) : Lane :=
  { me := l.me, part := l.part, now := l.now, regs := l.regs.filter (fun p => keptReg p.1)
    mem := l.mem.filter (fun p => inMram l.part p.1), tcmGen := l.tcmGen + 1, fresh := l.fresh, out := l.out
    sy := { boots := l.sy.boots, dead := l.sy.dead }, st := { swNext := l.st.swNext, born := l.st.born }, ao := l.ao
    im := { straps := l.im.straps }, pw := { alarm := l.pw.alarm }, dl := { l.dl with kaLost := false, cfg := l.dieCopy }
    trip := { pins := l.trip.pins, raw := l.trip.raw }, saf := l.saf.afterReset
    sc := { tickAt := l.now }, tt := { ntAt := l.now }, ax0 := l.afterReset .x0, ax1 := l.afterReset .x1 }

theorem Lane.coreReset_eq (l : Lane) :
    l.coreReset = (l.resetBase.each keptFields (fun r f => r.wr f (l.rd f))).ttQuality.dieOnly
      (fun d => d.each d.axes (fun d x => (d.ov2Check x).gateNote x)) := rfl

theorem Lane.mode_resetBase (l : Lane) : l.resetBase.mode = mBoot := by
  refine Lane.mode_unlisted fun p hp hsy => ?_
  have hkept := (List.mem_filter.mp hp).2
  rw [hsy] at hkept
  exact absurd hkept (by decide)

theorem keptFields_mode : ∀ f ∈ keptFields,
    SY_MODE_OWN.addr ≠ f.addr ∨ f.lo + f.w ≤ SY_MODE_OWN.lo ∨ SY_MODE_OWN.lo + SY_MODE_OWN.w ≤ f.lo := by
  decide +kernel

theorem Lane.ResetPart.coreReset (l : Lane) : l.resetBase.ResetPart l.coreReset := by
  have hfields := Lane.ResetPart.each l.resetBase keptFields (fun r f => r.wr f (l.rd f))
    fun k f hf => Lane.ResetPart.wr k f (l.rd f) (keptFields_mode f hf)
  rw [l.coreReset_eq]
  exact (hfields.trans (Lane.ResetPart.ttQuality _)).trans (Lane.ResetPart.dieOnly _ _)

theorem Lane.RegsOnly.each {α : Type} (l : Lane) (xs : List α) (f : Lane → α → Lane) (h : ∀ k x, Lane.RegsOnly k (f k x)) :
    l.RegsOnly (l.each xs f) := by
  unfold Lane.each
  induction xs generalizing l with
  | nil => exact .refl l
  | cons x r ih => exact (h l x).trans (ih (f l x))

/-- An OTP write touches registers alone. -/
theorem Lane.otpBurn_regsOnly (l : Lane) (w : OtpWrite) : l.RegsOnly (l.otpBurn w) := by
  cases w with
  | state c => exact (Lane.RegsOnly.refl l).wr _ _
  | program k img rtn hash =>
    exact ((((Lane.RegsOnly.refl l).wr _ _).wr _ _).wr _ _).trans
      (Lane.RegsOnly.each _ _ _ fun k _ => (Lane.RegsOnly.refl k).wr _ _)
  | revoke k => exact (Lane.RegsOnly.refl l).wr _ _

theorem Lane.otpResolve_form (l : Lane) : ∃ r c n, l.otpResolve = { l with lc := {}, regs := r, sc := c, fresh := n } := by
  unfold Lane.otpResolve
  split
  case h_1 w _ =>
    dsimp only
    split
    · obtain ⟨r, c, h⟩ := Lane.otpBurn_regsOnly { l with lc := {}, fresh := l.fresh + 1 } w
      exact ⟨r, c, l.fresh + 1, h⟩
    · exact ⟨l.regs, l.sc, l.fresh + 1, rfl⟩
  case h_2 => exact ⟨l.regs, l.sc, l.fresh, rfl⟩

/-- What each of the four resets leaves of a lane. -/
structure Lane.HeldAfter (l t : Lane) : Prop where
  held : t.sy.held = true
  boots : t.sy.boots = l.sy.boots
  core : t.pc.core = .held
  store : t.pc.store = []
  wait : t.fc.wait = []
  mem : t.mem = l.mem.filter (fun p => inMram l.part p.1)

theorem Lane.HeldAfter.clr {l t : Lane} (h : l.HeldAfter t) (f : Fld) : l.HeldAfter (t.clr f) :=
  ⟨h.held, h.boots, h.core, h.store, h.wait, h.mem⟩

theorem Lane.hold_held (l : Lane) : l.HeldAfter l.hold := by
  obtain ⟨r, c, n, hr⟩ := l.otpResolve_form
  have h := Lane.ResetPart.coreReset l.otpResolve
  have hb : l.HeldAfter l.otpResolve.resetBase := by
    rw [hr]
    exact ⟨rfl, rfl, rfl, rfl, rfl, rfl⟩
  exact ⟨h.sy ▸ hb.held, h.sy ▸ hb.boots, h.pc ▸ hb.core, h.pc ▸ hb.store, h.fc ▸ hb.wait, h.mem ▸ hb.mem⟩

theorem Lane.powerUp_held (l : Lane) : l.HeldAfter l.powerUp := by
  obtain ⟨r, c, n, hr⟩ := l.otpResolve_form
  unfold Lane.powerUp
  rw [hr]
  exact ⟨rfl, rfl, rfl, rfl, rfl, rfl⟩

/-- A BOOT entry leaves the lane out of reset, with one entry more, the code sampled, and every component but those that a reset leaves. -/
structure Lane.BootAt (l t : Lane) (straps : Nat) : Prop where
  held : t.sy.held = false
  boots : t.sy.boots = l.sy.boots + 1
  mode : t.mode = mBoot
  phase : t.im.phase = .lock
  straps : t.im.straps = straps

theorem Lane.BootAt.trans {l m t : Lane} {n : Nat} (h : l.BootAt m n) (k : m.ResetPart t) : l.BootAt t n :=
  ⟨k.sy ▸ h.held, k.sy ▸ h.boots, k.mode.trans h.mode, k.im ▸ h.phase, k.im ▸ h.straps⟩

/-- A BOOT entry before the lane shows its mode and the result of a slice that ran. -/
def Lane.bootBase (l : Lane) (straps : Nat) : Lane :=
  let r := l.otpResolve.coreReset
  { r with sy := { r.sy with held := false, boots := r.sy.boots + 1 }, dl := { r.dl with kaEnd := none }
           pw := { r.pw with freqAt := r.now }, im := { r.im with straps := straps } }

theorem Lane.bootBase_bootAt (l : Lane) (straps : Nat) : l.BootAt (l.bootBase straps) straps := by
  obtain ⟨r, c, n, hr⟩ := l.otpResolve_form
  have h := Lane.ResetPart.coreReset l.otpResolve
  have hregs : (l.bootBase straps).regs = l.otpResolve.coreReset.regs := rfl
  have hmode := ((Lane.mode_congr hregs).trans h.mode).trans (Lane.mode_resetBase _)
  have hboots : l.otpResolve.coreReset.sy.boots = l.sy.boots := by
    rw [h.sy, hr]
    rfl
  have hphase : l.otpResolve.coreReset.im.phase = .lock := by
    rw [h.im, hr]
    rfl
  exact ⟨rfl, congrArg (· + 1) hboots, hmode, hphase, rfl⟩

theorem Lane.enterBootAt_bootAt (l : Lane) (straps : Nat) : l.BootAt (l.enterBootAt straps) straps := by
  have h : l.BootAt ((l.bootBase straps).showMode.put SY_IMGSTAT_SRC (l.bootBase straps).fromQspi) straps :=
    ((l.bootBase_bootAt straps).trans (Lane.ResetPart.showMode _)).trans (Lane.ResetPart.wr _ _ _ (by decide))
  unfold Lane.enterBootAt
  dsimp only
  split
  · exact (h.trans (Lane.ResetPart.stResult _ _ _ _ _)).trans (Lane.ResetPart.wr _ _ _ (by decide))
  · exact h

theorem Lane.resetRelease_released {l : Lane} (straps : Nat) (hh : l.sy.held = true) (hd : l.sy.dead = false) :
    l.resetRelease straps = (l.enterBootAt straps).set PM_STAT_PGOOD := if_pos ⟨hh, hd⟩

theorem Lane.resetRelease_ignored {l : Lane} (straps : Nat) (h : l.sy.held = false ∨ l.sy.dead = true) :
    l.resetRelease straps = l := by
  refine if_neg fun ⟨hh, hd⟩ => ?_
  simp [hh, hd] at h

/-- Settles O20: each reset leaves what `Lane.HeldAfter` says, and its release is a BOOT entry. -/
theorem resetCommandsComplete : Obligations.ResetCommandsComplete := by
  unfold Obligations.ResetCommandsComplete
  intro s i hr l
  have act : ∀ f : Lane → Lane, s.actAo i f = .next (s.setLane i (f l)) := fun f => State.actAo_ready s i f hr
  refine ⟨fun c hc => ?_, fun straps hh hd => ?_, fun straps h => ?_⟩
  · simp only [List.mem_cons, List.not_mem_nil, or_false] at hc
    rcases hc with rfl | rfl | rfl | rfl
    · obtain ⟨hheld, hboots, hcore, hstore, hwait, hmem⟩ := l.powerUp_held
      exact ⟨_, act _, fun _ => ⟨rfl, rfl⟩, nofun, nofun, nofun, hheld, hboots, hcore, hstore, hwait, hmem⟩
    · obtain ⟨hheld, hboots, hcore, hstore, hwait, hmem⟩ := l.powerUp_held
      exact ⟨_, act _, nofun, fun _ => ⟨rfl, rfl⟩, nofun, nofun, hheld, hboots, hcore, hstore, hwait, hmem⟩
    · obtain ⟨hheld, hboots, hcore, hstore, hwait, hmem⟩ := l.hold_held
      exact ⟨_, act _, nofun, nofun, fun _ => rfl, nofun, hheld, hboots, hcore, hstore, hwait, hmem⟩
    · obtain ⟨hheld, hboots, hcore, hstore, hwait, hmem⟩ := l.hold_held.clr PM_STAT_PGOOD
      exact ⟨_, act _, nofun, nofun, nofun, fun _ => rfl, hheld, hboots, hcore, hstore, hwait, hmem⟩
  · have hboot : l.BootAt ((l.enterBootAt straps).set PM_STAT_PGOOD) straps :=
      (l.enterBootAt_bootAt straps).trans (Lane.ResetPart.wr _ _ _ (by decide))
    obtain ⟨hheld, hboots, hmode, hphase, hstraps⟩ := hboot
    exact ⟨(act _).trans (congrArg (fun t => Host.Outcome.next (s.setLane i t)) (Lane.resetRelease_released straps hh hd)),
      hheld, hboots, hmode, hphase, hstraps⟩
  · refine (act _).trans ?_
    rw [Lane.resetRelease_ignored straps h, State.setLane_lane]

end Sys2Proof.Machine
end

section
/-!
OBLIGATION O4. What a function of the model makes of a lane keeps its identity and its canonical form: one rule for each function, by the
rules of the functions it is made of.
-/

namespace Sys2Proof.Machine

section
variable {l t : Lane}

theorem Lane.Keeps.of {u : Lane} (h : l.Keeps t) (me : u.me = t.me) (regs : u.regs = t.regs) (mem : u.mem = t.mem) : l.Keeps u :=
  h.trans (Lane.Calm.of me regs mem).toKeeps

theorem Lane.Keeps.each {α : Type} {xs : List α} {f : Lane → α → Lane} (h : l.Keeps t) (step : ∀ k x, l.Keeps k → l.Keeps (f k x)) :
    l.Keeps (t.each xs f) := by
  unfold Lane.each
  induction xs generalizing t with
  | nil => exact h
  | cons x r ih => exact ih (step t x h)

theorem Lane.Keeps.when {c : Bool} {f : Lane → Lane} (h : l.Keeps t) (step : ∀ k, l.Keeps k → l.Keeps (f k)) : l.Keeps (t.when c f) := by
  unfold Lane.when
  split
  · exact step t h
  · exact h

theorem Lane.Keeps.ite {c : Prop} {_ : Decidable c} {a b : Lane} (ha : l.Keeps a) (hb : l.Keeps b) : l.Keeps (if c then a else b) := by
  split
  · exact ha
  · exact hb

theorem Lane.Keeps.now {v} (h : l.Keeps t) : l.Keeps { t with now := v } := h.of rfl rfl rfl
theorem Lane.Keeps.fresh {v} (h : l.Keeps t) : l.Keeps { t with fresh := v } := h.of rfl rfl rfl
theorem Lane.Keeps.busErr {v} (h : l.Keeps t) : l.Keeps { t with busErr := v } := h.of rfl rfl rfl
theorem Lane.Keeps.sy {v} (h : l.Keeps t) : l.Keeps { t with sy := v } := h.of rfl rfl rfl
theorem Lane.Keeps.pc {v} (h : l.Keeps t) : l.Keeps { t with pc := v } := h.of rfl rfl rfl
theorem Lane.Keeps.gl {v} (h : l.Keeps t) : l.Keeps { t with gl := v } := h.of rfl rfl rfl
theorem Lane.Keeps.fc {v} (h : l.Keeps t) : l.Keeps { t with fc := v } := h.of rfl rfl rfl
theorem Lane.Keeps.sc {v} (h : l.Keeps t) : l.Keeps { t with sc := v } := h.of rfl rfl rfl
theorem Lane.Keeps.hq {v} (h : l.Keeps t) : l.Keeps { t with hq := v } := h.of rfl rfl rfl
theorem Lane.Keeps.tt {v} (h : l.Keeps t) : l.Keeps { t with tt := v } := h.of rfl rfl rfl
theorem Lane.Keeps.cn {v} (h : l.Keeps t) : l.Keeps { t with cn := v } := h.of rfl rfl rfl
theorem Lane.Keeps.pm {v} (h : l.Keeps t) : l.Keeps { t with pm := v } := h.of rfl rfl rfl
theorem Lane.Keeps.pw {v} (h : l.Keeps t) : l.Keeps { t with pw := v } := h.of rfl rfl rfl
theorem Lane.Keeps.st {v} (h : l.Keeps t) : l.Keeps { t with st := v } := h.of rfl rfl rfl
theorem Lane.Keeps.lc {v} (h : l.Keeps t) : l.Keeps { t with lc := v } := h.of rfl rfl rfl
theorem Lane.Keeps.im {v} (h : l.Keeps t) : l.Keeps { t with im := v } := h.of rfl rfl rfl
theorem Lane.Keeps.saf {v} (h : l.Keeps t) : l.Keeps { t with saf := v } := h.of rfl rfl rfl
theorem Lane.Keeps.trip {v} (h : l.Keeps t) : l.Keeps { t with trip := v } := h.of rfl rfl rfl
theorem Lane.Keeps.dl {v} (h : l.Keeps t) : l.Keeps { t with dl := v } := h.of rfl rfl rfl
theorem Lane.Keeps.mon {v} (h : l.Keeps t) : l.Keeps { t with mon := v } := h.of rfl rfl rfl
theorem Lane.Keeps.sf {v} (h : l.Keeps t) : l.Keeps { t with sf := v } := h.of rfl rfl rfl

theorem Lane.Keeps.setReg {a : Nat} {v : Word} (h : l.Keeps t) : l.Keeps (t.setReg a v) := h.trans (t.keeps_setReg a v)
theorem Lane.Keeps.wr {f : Fld} {v : Nat} (h : l.Keeps t) : l.Keeps (t.wr f v) := h.setReg
theorem Lane.Keeps.wrS {f : Fld} {v : Int} (h : l.Keeps t) : l.Keeps (t.wrS f v) := h.wr
theorem Lane.Keeps.wq {f : Fld} {v : Q} (h : l.Keeps t) : l.Keeps (t.wq f v) := h.wrS
theorem Lane.Keeps.set {f : Fld} (h : l.Keeps t) : l.Keeps (t.set f) := h.wr
theorem Lane.Keeps.clr {f : Fld} (h : l.Keeps t) : l.Keeps (t.clr f) := h.wr
theorem Lane.Keeps.put {f : Fld} {b : Bool} (h : l.Keeps t) : l.Keeps (t.put f b) := h.wr
theorem Lane.Keeps.bump {f : Fld} (h : l.Keeps t) : l.Keeps (t.bump f) := .ite h.wr h
theorem Lane.Keeps.setByte {a : Nat} {v : Byte} (h : l.Keeps t) : l.Keeps (t.setByte a v) := h.trans (t.calm_setByte a v).toKeeps
theorem Lane.Keeps.setBytes {a : Nat} {v : List Byte} (h : l.Keeps t) : l.Keeps (t.setBytes a v) := h.trans (t.calm_setBytes a v).toKeeps
theorem Lane.Keeps.present {m : Msg} (h : l.Keeps t) : l.Keeps (t.present m) := h.trans (t.calm_present m).toKeeps
theorem Lane.Keeps.raise {src kind cls : Nat} {x : Option Ax} {d : Nat} (h : l.Keeps t) : l.Keeps (t.raise src kind cls x d) := h.present
theorem Lane.Keeps.raiseOnce {src kind cls : Nat} {x : Option Ax} {d : Nat} (h : l.Keeps t) : l.Keeps (t.raiseOnce src kind cls x d) :=
  h.trans (t.calm_raiseOnce src kind cls x d).toKeeps
theorem Lane.Keeps.arise {k : ItemKind} {src flow prio : Nat} (h : l.Keeps t) : l.Keeps (t.arise k src flow prio) :=
  h.trans (t.calm_arise k src flow prio).toKeeps
theorem Lane.Keeps.event {n : Nat} (h : l.Keeps t) : l.Keeps (t.event n) := h.trans (t.calm_event n).toKeeps
theorem Lane.Keeps.send {o : Sent} (h : l.Keeps t) : l.Keeps (t.send o) := h.of rfl rfl rfl
theorem Lane.Keeps.setAx {x : Ax} {a : AxSt} (h : l.Keeps t) : l.Keeps (t.setAx x a) := by
  cases x <;> exact h.of rfl rfl rfl

/-- An address that a filter keeps or drops takes its entry with it: the form stays canonical. -/
theorem regsWf_filter {r : List (Nat × Word)} (f : Nat × Word → Bool) (h : regsWf r = true) : regsWf (r.filter f) = true := by
  simp only [regsWf, Bool.and_eq_true, List.all_eq_true] at h ⊢
  exact ⟨rising_filter f r h.1, fun q hq => h.2 q (List.mem_filter.mp hq).1⟩

theorem Memory.wf_filter {m : List Host.Cell} (f : Host.Cell → Bool) (h : Memory.wf m = true) : Memory.wf (m.filter f) = true := by
  simp only [Memory.wf, Bool.and_eq_true, List.all_eq_true] at h ⊢
  exact ⟨rising_filter f m h.1, fun q hq => h.2 q (List.mem_filter.mp hq).1⟩

/-- A lane whose register file and memory are parts of those of another. -/
theorem Lane.Keeps.filtered {u : Lane} {f : Nat × Word → Bool} {g : Host.Cell → Bool} (h : l.Keeps t) (me : u.me = t.me)
    (regs : u.regs = t.regs.filter f) (mem : u.mem = t.mem.filter g) : l.Keeps u := by
  refine h.trans ⟨me, fun c => ?_⟩
  rw [Lane.canonical, Bool.and_eq_true] at c ⊢
  rw [regs, mem]
  exact ⟨regsWf_filter f c.1, Memory.wf_filter g c.2⟩

/-! #### Sys2Proof/Machine/Ops.lean -/

theorem Lane.Keeps.ntRebase (h : l.Keeps t) : l.Keeps t.ntRebase := .tt h

theorem Lane.Keeps.ntMove {d : Int} (h : l.Keeps t) : l.Keeps (t.ntMove d) := .tt (.ntRebase h)

theorem Lane.Keeps.energyAccount (h : l.Keeps t) : l.Keeps t.energyAccount := .ite (.sc h) h

theorem Lane.Keeps.eventAx {x : Ax} {off : Nat} (h : l.Keeps t) : l.Keeps (t.eventAx x off) := .event h

theorem Lane.Keeps.returns {v : Word} (h : l.Keeps t) : l.Keeps (t.returns v) := .of h rfl rfl rfl

theorem Lane.Keeps.offAccess {a : Nat} (h : l.Keeps t) : l.Keeps (t.offAccess a) := .event (.raiseOnce (.set h))

theorem Lane.Keeps.downAccess {d : Dom} {r : RegAcc} (h : l.Keeps t) : l.Keeps (t.downAccess d r) :=
  .ite (.pw h) (.ite (.offAccess h) (.returns (.offAccess h)))

/-! #### Sys2Proof/Machine/Share.lean -/

theorem Lane.Keeps.setPeer {i : LaneId} {p : Peer} (h : l.Keeps t) : l.Keeps (t.setPeer i p) := by
  unfold Lane.setPeer
  split
  · exact .gl h
  · exact .gl h
  · exact .gl h

theorem Lane.Keeps.glShares (h : l.Keeps t) : l.Keeps t.glShares := .each h (fun _ _ hk => .ite hk (.event (.wq hk)))

theorem Lane.Keeps.markHeld {x : Ax} (h : l.Keeps t) : l.Keeps (t.markHeld x) := by
  unfold Lane.markHeld
  split
  · exact .sy h
  · exact .sy h

theorem Lane.Keeps.axisLost {x : Ax} (h : l.Keeps t) : l.Keeps (t.axisLost x) := .glShares (.when h (fun _ => .markHeld))

/-! #### Sys2Proof/Machine/Gates.lean -/

theorem Lane.Keeps.gateMark {x : Ax} (h : l.Keeps t) : l.Keeps (t.gateMark x) := .setAx h

theorem Lane.Keeps.gateNote {x : Ax} (h : l.Keeps t) : l.Keeps (t.gateNote x) :=
  .ite h (.each (.setAx (.gateMark h)) (fun _ _ hk => .when hk (fun _ => .bump)))

/-! #### Sys2Proof/Machine/Gate.lean -/

theorem Lane.Keeps.setLe {x : Ax} {v : LeSt} (h : l.Keeps t) : l.Keeps (t.setLe x v) := .setAx h

theorem Lane.Keeps.setMd {x : Ax} {v : ModSt} (h : l.Keeps t) : l.Keeps (t.setMd x v) := .setAx h

theorem Lane.Keeps.setTq {x : Ax} {v : TqSt} (h : l.Keeps t) : l.Keeps (t.setTq x v) := .setAx h

theorem Lane.Keeps.setGd {x : Ax} {v : GdSt} (h : l.Keeps t) : l.Keeps (t.setGd x v) := .setAx h

theorem Lane.Keeps.setFb {x : Ax} {v : FbSt} (h : l.Keeps t) : l.Keeps (t.setFb x v) := .setAx h

theorem Lane.Keeps.setAd {x : Ax} {v : AdSt} (h : l.Keeps t) : l.Keeps (t.setAd x v) := .setAx h

theorem Lane.Keeps.setGrpCode {k c : Nat} (h : l.Keeps t) : l.Keeps (t.setGrpCode k c) := .wr h

theorem Lane.Keeps.openStop {x : Ax} (h : l.Keeps t) : l.Keeps (t.openStop x) := .setLe (.wr h)

theorem Lane.Keeps.openStart {x : Ax} (h : l.Keeps t) : l.Keeps (t.openStart x) := .setLe (.wr h)

theorem Lane.Keeps.slSet {x : Ax} {v : Nat} (h : l.Keeps t) : l.Keeps (t.slSet x v) := .ite h (.eventAx (.wr h))

theorem Lane.Keeps.slLeave {x : Ax} (h : l.Keeps t) : l.Keeps (t.slLeave x) := .ite (.slSet h) h

theorem Lane.Keeps.leForce {x : Ax} (h : l.Keeps t) : l.Keeps (t.leForce x) :=
  .ite (.slLeave (.eventAx (.wr (.set (.wr (.wr (.openStop h))))))) (.wr (.set (.wr (.wr (.openStop h)))))

theorem Lane.Keeps.leReturn {x : Ax} (h : l.Keeps t) : l.Keeps (t.leReturn x) := .ite (.openStart (.clr h)) h

theorem Lane.Keeps.leSettle {x : Ax} (h : l.Keeps t) : l.Keeps (t.leSettle x) :=
  .ite (.setLe (.gateNote h)) (.ite (.leForce (.setLe (.gateNote h))) (.ite (.leReturn (.setLe (.gateNote h))) (.setLe (.gateNote h))))

theorem Lane.Keeps.slFail {x : Ax} (h : l.Keeps t) : l.Keeps (t.slFail x) := .ite (.ite (.eventAx (.slSet h)) (.slSet h)) h

theorem Lane.Keeps.sideEval {x : Ax} (h : l.Keeps t) : l.Keeps (t.sideEval x) := .ite h (.ite (.raise (.put (.wr h))) (.put (.wr h)))

theorem Lane.Keeps.safeEnter {x : Ax} {cause : Nat} {asc : Bool} (h : l.Keeps t) : l.Keeps (t.safeEnter x cause asc) :=
  .slFail (.sideEval (.ite (.axisLost (.eventAx (.wr (.set (.setGd h))))) (.setGd h)))

theorem Lane.Keeps.ov2Check {x : Ax} (h : l.Keeps t) : l.Keeps (t.ov2Check x) := .ite (.safeEnter (.set h)) h

theorem Lane.Keeps.gateSettle {x : Ax} (h : l.Keeps t) : l.Keeps (t.gateSettle x) := .leSettle (.ov2Check h)

theorem Lane.Keeps.axisSafe {x : Ax} {cause : Nat} {asc : Bool} (h : l.Keeps t) : l.Keeps (t.axisSafe x cause asc) :=
  .gateSettle (.safeEnter h)

theorem Lane.Keeps.gateEnable {x : Ax} (h : l.Keeps t) : l.Keeps (t.gateEnable x) :=
  .ite h (.ite (.raiseOnce (.set h)) (.gateSettle (.set h)))

theorem Lane.Keeps.gateDrop {x : Ax} (h : l.Keeps t) : l.Keeps (t.gateDrop x) := .gateSettle (.clr h)

theorem Lane.Keeps.gateDropAll (h : l.Keeps t) : l.Keeps t.gateDropAll := .each h fun _ _ => .gateDrop

theorem Lane.Keeps.gdCntClr {x : Ax} (h : l.Keeps t) : l.Keeps (t.gdCntClr x) := .wr (.setGd (.wr (.wr h)))

theorem Lane.Keeps.interlock {x : Ax} {leg : Nat} (h : l.Keeps t) : l.Keeps (t.interlock x leg) := by
  unfold Lane.interlock
  extract_lets _ _ a b c
  have ha : l.Keeps a := .gateNote (.setGd h)
  have hb : l.Keeps b := .bump (.set ha)
  have hc : l.Keeps c := .eventAx (.raiseOnce hb)
  exact .ite (.axisSafe (.raise hc)) hc

theorem Lane.Keeps.interlockEnd {x : Ax} (h : l.Keeps t) : l.Keeps (t.interlockEnd x) := .clr (.gateNote (.setGd h))

theorem Lane.Keeps.hardShort {x : Ax} {gate : Nat} (h : l.Keeps t) : l.Keeps (t.hardShort x gate) :=
  .gateSettle (.ite (.safeEnter (.wr h)) (.eventAx (.raise (.safeEnter (.wr h)))))

theorem Lane.Keeps.cpuvEval {x : Ax} (h : l.Keeps t) : l.Keeps (t.cpuvEval x) :=
  .gateSettle (.sideEval (.ite (.eventAx (.raise (.put h))) (.put h)))

theorem Lane.Keeps.cpuvChange {x : Ax} {mv : Nat} (h : l.Keeps t) : l.Keeps (t.cpuvChange x mv) := .cpuvEval (.setGd (.wr h))

theorem Lane.Keeps.dieLoad (h : l.Keeps t) : l.Keeps t.dieLoad := .each (.dl h) fun _ _ hk => .ite (.cpuvEval hk) (.gateSettle hk)

theorem Lane.Keeps.keepAliveLoss (h : l.Keeps t) : l.Keeps t.keepAliveLoss := by
  unfold Lane.keepAliveLoss
  split
  · exact .ite (.each (.dl h) (fun _ _ hk => .eventAx (.axisSafe (.set hk)))) h
  · exact h

theorem Lane.Keeps.keepAlive (h : l.Keeps t) : l.Keeps t.keepAlive :=
  .ite (.raise (.ite (.each (.dl h) (fun _ _ => .set)) (.dl h))) (.ite (.each (.dl h) (fun _ _ => .set)) (.dl h))

theorem Lane.Keeps.commChange {f : Lane → Lane} {x : Ax} (h : l.Keeps t) (hf : ∀ k, l.Keeps k → l.Keeps (f k)) : l.Keeps (t.commChange x f) :=
  .ite (hf _ h) (.setGd (hf _ h))

theorem Lane.Keeps.commHall {x : Ax} {code : Nat} (h : l.Keeps t) : l.Keeps (t.commHall x code) := by
  unfold Lane.commHall
  split
  · exact h
  · split
    · exact .commChange h fun _ => .wr
    · exact .raiseOnce (.bump (.commChange h (fun _ => .wr)))

theorem Lane.Keeps.dieOnly {f : Lane → Lane} (h : l.Keeps t) : l.Keeps (t.dieOnly f) :=
  .each (.of (.each h (fun _ _ => .setReg)) rfl rfl rfl) fun _ _ => .setGd

theorem Lane.Keeps.inDie {f : Lane → Lane} (h : l.Keeps t) (hf : ∀ k, l.Keeps k → l.Keeps (f k)) : l.Keeps (t.inDie f) :=
  .ite (.ite h (.dieOnly h)) (hf _ h)

/-! #### Sys2Proof/Machine/Feedback.lean -/

theorem Lane.Keeps.adTake {x : Ax} {c : AdcCodes} (h : l.Keeps t) : l.Keeps (t.adTake x c) :=
  .ite (.raiseOnce (.bump (.set (.setAd (.wr (.wr (.wr (.wr h)))))))) (.setAd (.wr (.wr (.wr (.wr h)))))

theorem Lane.Keeps.adSample {x : Ax} {c : AdcCodes} (h : l.Keeps t) : l.Keeps (t.adSample x c) :=
  .wq (.wq (.wq (.wq (.setAd (.ite (.adTake h) (.ite (.bump (.adTake h)) (.bump (.set (.adTake h)))))))))

theorem Lane.Keeps.monitor {n v : Nat} (h : l.Keeps t) : l.Keeps (t.monitor n v) := by
  unfold Lane.monitor
  split
  · exact h
  · exact .sy (.ite (.mon (.wr (.energyAccount h))) (.ite (.wr (.mon (.wr (.energyAccount h)))) (.raiseOnce (.wr (.mon (.wr (.energyAccount h)))))))

theorem Lane.Keeps.holdFlag {x : Ax} (h : l.Keeps t) : l.Keeps (t.holdFlag x) := .put h

theorem Lane.Keeps.groupFault {x : Ax} {sinCos : Bool} (h : l.Keeps t) : l.Keeps (t.groupFault x sinCos) := .ite h (.eventAx (.set h))

theorem Lane.Keeps.posOvf {x : Ax} (h : l.Keeps t) : l.Keeps (t.posOvf x) := .raiseOnce (.set h)

theorem Lane.Keeps.posSettle {x : Ax} (h : l.Keeps t) : l.Keeps (t.posSettle x) := .ite (.posOvf (.setFb h)) h

theorem Lane.Keeps.illCount {x : Ax} {g : FbGroup} {before : List Nat} (h : l.Keeps t) : l.Keeps (t.illCount x g before) := by
  unfold Lane.illCount
  extract_lets a b
  have ha : l.Keeps a := .bump h
  have hb : l.Keeps b := .raiseOnce ha
  split
  · split
    · split
      · exact .raise (.set hb)
      · exact .raise (.set hb)
      · exact .raise (.groupFault hb)
    · exact hb
  · exact hb

theorem Lane.Keeps.hallTake {x : Ax} {g : FbGroup} {tb code : Nat} (h : l.Keeps t) : l.Keeps (t.hallTake x g tb code) := by
  unfold Lane.hallTake
  dsimp only
  split
  · exact .posSettle (.holdFlag (.setFb h))
  · exact .illCount (.holdFlag (.setFb h))

theorem Lane.Keeps.passThrough {x : Ax} (h : l.Keeps t) : l.Keeps (t.passThrough x) := by
  unfold Lane.passThrough
  dsimp only
  split
  · exact .wr h
  · exact .ite h (.wr h)
  · split
    · exact h
    · exact .wr h

theorem Lane.Keeps.hallEdge {x : Ax} {code raw : Nat} (h : l.Keeps t) : l.Keeps (t.hallEdge x code raw) :=
  .passThrough (by
    split
    · exact .setFb (.wr (.setFb h))
    · exact .ite (.setFb (.wr (.setFb h))) (.hallTake (.wr (.setFb h))))

theorem Lane.Keeps.hallsStanding {x : Ax} (h : l.Keeps t) : l.Keeps (t.hallsStanding x) := .hallEdge h

theorem Lane.Keeps.nbCode {x : Ax} {n : Port} {code : Nat} {valid : Bool} (h : l.Keeps t) : l.Keeps (t.nbCode x n code valid) := by
  unfold Lane.nbCode
  split
  · exact .ite (.hallTake (.put (.wr h))) (.put (.wr h))
  · exact .ite (.hallTake (.put (.wr h))) (.put (.wr h))

theorem Lane.Keeps.scSample {x : Ax} {cs cc : Int} (h : l.Keeps t) : l.Keeps (t.scSample x cs cc) := by
  unfold Lane.scSample
  split
  · extract_lets _ _ _ a _ b c d
    have ha : l.Keeps a := .setFb (.wq h)
    have hb : l.Keeps b := .bump ha
    have hc : l.Keeps c := .setFb hb
    have hd : l.Keeps d := .ite (.raise (.groupFault hc)) hc
    exact .ite ha (.ite (.passThrough hd) (.posSettle (.passThrough (.setFb ha))))

theorem Lane.Keeps.srcChange {x : Ax} {new t' : Nat} (h : l.Keeps t) : l.Keeps (t.srcChange x new t') :=
  .ite h (.eventAx (.raiseOnce (.bump (.wr (.setFb h)))))

theorem Lane.Keeps.srcSelect {x : Ax} {t' : Nat} (h : l.Keeps t) : l.Keeps (t.srcSelect x t') :=
  .ite (.axisSafe (.raise (.setFb (.put (.srcChange (.ite (.slSet h) h)))))) (.setFb (.put (.srcChange (.ite (.slSet h) h))))

theorem Lane.Keeps.cmpFire {x : Ax} {n : Nat} (h : l.Keeps t) : l.Keeps (t.cmpFire x n) := .eventAx (.ite (.clr (.wr h)) (.wr h))

theorem Lane.Keeps.putBit {f : Fld} {n : Nat} {b : Bool} (h : l.Keeps t) : l.Keeps (t.putBit f n b) := .put h

theorem Lane.Keeps.posTick {x : Ax} (h : l.Keeps t) : l.Keeps (t.posTick x) :=
  .each (.setFb (.wq (.wq (.wq (.wq (.posSettle h)))))) (fun _ _ hk => .ite (.cmpFire (.putBit hk)) (.putBit hk))

theorem Lane.Keeps.cmpJudge {x : Ax} {n : Nat} (h : l.Keeps t) : l.Keeps (t.cmpJudge x n) :=
  .ite (.cmpFire (.putBit (.putBit h))) (.putBit (.putBit h))

theorem Lane.Keeps.cmpWrite {x : Ax} {n : Nat} {r : CmpReg} {v : Word} (h : l.Keeps t) : l.Keeps (t.cmpWrite x n r v) :=
  .cmpJudge (by
    split
    · exact .setReg h
    · exact .setReg h)

theorem Lane.Keeps.owReject {x : Ax} (h : l.Keeps t) : l.Keeps (t.owReject x) := .eventAx (.raiseOnce (.bump h))

theorem Lane.Keeps.posAdj {x : Ax} {v : Word} (h : l.Keeps t) : l.Keeps (t.posAdj x v) :=
  .ite (.owReject h) (.each (.ite (.posOvf (.setFb h)) (.setFb h)) (fun _ _ => .cmpJudge))

theorem Lane.Keeps.fltClr {x : Ax} (h : l.Keeps t) : l.Keeps (t.fltClr x) := .setFb h

theorem Lane.Keeps.readmit {x : Ax} {g : FbGroup} (h : l.Keeps t) : l.Keeps (t.readmit x g) := by
  unfold Lane.readmit
  dsimp only
  split
  · exact .ite (.clr (.setFb h)) h
  · split
    · split
      · exact .clr (.setFb h)
      · exact .clr (.setFb h)
      · exact .passThrough (.clr (.setFb h))
    · exact h

/-! #### Sys2Proof/Machine/Sched.lean -/

theorem Lane.Keeps.bistCharge (h : l.Keeps t) : l.Keeps t.bistCharge := .wr (.sc h)

theorem Lane.Keeps.take {i : Item} (h : l.Keeps t) : l.Keeps (t.take i) := .ite (.arise (.sc h)) (.sc h)

theorem Lane.Keeps.stall (h : l.Keeps t) : l.Keeps t.stall := .event (.raiseOnce (.set h))

theorem Lane.Keeps.poolView (h : l.Keeps t) : l.Keeps t.poolView := .wr (.wr h)

theorem Lane.Keeps.takeOnto {i : Item} (h : l.Keeps t) : l.Keeps (t.takeOnto i) :=
  .ite (.returns (.stall (.poolView h))) (.returns (.poolView (.take h)))

theorem Lane.Keeps.scEnter (h : l.Keeps t) : l.Keeps t.scEnter := by
  unfold Lane.scEnter
  dsimp only
  split
  · exact .returns (.bistCharge h)
  · split
    · exact .returns (.bistCharge h)
    · exact .takeOnto (.when (.bistCharge h) (fun _ => .bump))

theorem Lane.Keeps.scNext (h : l.Keeps t) : l.Keeps t.scNext := by
  unfold Lane.scNext
  extract_lets a
  have ha : l.Keeps a := .bistCharge h
  split
  · exact .returns (.set ha)
  · extract_lets b
    have hb : l.Keeps b := .poolView (.sc ha)
    split
    · exact .returns hb
    · split
      · exact .returns hb
      · exact .takeOnto hb
      · exact .ite (.takeOnto hb) (.returns hb)

theorem Lane.Keeps.scPost {v : Word} (h : l.Keeps t) : l.Keeps (t.scPost v) :=
  .ite (.event (.raiseOnce (.bump (.set h)))) (.poolView (.arise h))

theorem Lane.Keeps.scCntClr (h : l.Keeps t) : l.Keeps t.scCntClr := .each (.setReg h) fun _ _ => .clr

theorem Lane.Keeps.flowEnWrite {k v : Nat} (h : l.Keeps t) : l.Keeps (t.flowEnWrite k v) := .wr h

theorem Lane.Keeps.deferralAge {n : Nat} (h : l.Keeps t) : l.Keeps (t.deferralAge n) :=
  .ite (.event (.raise (.set (.bistCharge h)))) (.bistCharge h)

theorem Lane.Keeps.scMark (h : l.Keeps t) : l.Keeps t.scMark := .sc h

theorem Lane.Keeps.scFree (h : l.Keeps t) : l.Keeps t.scFree := .poolView (.clr (.sc h))

theorem Lane.Keeps.scRollback (h : l.Keeps t) : l.Keeps t.scRollback := .poolView (.sc (.bistCharge h))

theorem Lane.Keeps.startWalk {t' expiry n : Nat} (h : l.Keeps t) : l.Keeps (t.startWalk t' expiry n) := .sc h

theorem Lane.Keeps.timerArm {t' : Nat} {v : Word} (h : l.Keeps t) : l.Keeps (t.timerArm t' v) :=
  .ite (.sc (.setReg h)) (.ite (.bump (.sc (.setReg h))) (.startWalk (.sc (.setReg h))))

theorem Lane.Keeps.timerExpWrite {t' : Nat} {v : Word} (h : l.Keeps t) : l.Keeps (t.timerExpWrite t' v) :=
  .ite (.startWalk (.sc (.setReg h))) (.setReg h)

theorem Lane.Keeps.timerInsert {t' : Nat} (h : l.Keeps t) : l.Keeps (t.timerInsert t') := by
  unfold Lane.timerInsert
  split
  · exact h
  · exact .ite h (.when (.sc h) (fun _ => .bump))

theorem Lane.Keeps.timerExpire (h : l.Keeps t) : l.Keeps t.timerExpire := by
  unfold Lane.timerExpire
  split
  · exact h
  · exact .when (.ite (.sc (.arise (.sc h))) (.arise (.sc h))) (fun _ hk => .event (.raiseOnce (.bump hk)))

theorem Lane.Keeps.closeBin (h : l.Keeps t) : l.Keeps t.closeBin := .sc (.energyAccount h)

theorem Lane.Keeps.stepH (h : l.Keeps t) : l.Keeps t.stepH :=
  .ite (.event (.wr (.sc (.wr (.wr h))))) (.ite (.sc (.wr (.wr h))) (.ite (.sc (.wr (.wr h))) (.event (.wr (.sc (.wr (.wr h)))))))

theorem Lane.Keeps.stepHot (h : l.Keeps t) : l.Keeps t.stepHot := .sc h

theorem Lane.Keeps.updateSel (h : l.Keeps t) : l.Keeps t.updateSel := .wr h

theorem Lane.Keeps.stepProposal (h : l.Keeps t) : l.Keeps t.stepProposal := .ite (.sc h) (.event (.wr (.sc h)))

theorem Lane.Keeps.stepDomains (h : l.Keeps t) : l.Keeps t.stepDomains := .ite h (.event (.wr h))

theorem Lane.Keeps.headroomUpdate (h : l.Keeps t) : l.Keeps t.headroomUpdate :=
  .ite (.stepDomains (.updateSel (.stepProposal (.stepHot (.stepH (.closeBin (.sc h))))))) h

/-! #### Sys2Proof/Machine/Voltage.lean -/

theorem Lane.Keeps.takeReading {f : Fld} {r : Int × Nat} (h : l.Keeps t) : l.Keeps (t.takeReading f r) := .fresh (.wr h)

theorem Lane.Keeps.pmSend {k : PmTask} (h : l.Keeps t) : l.Keeps (t.pmSend k) := .fresh (.send (.pm h))

theorem Lane.Keeps.pmStart {k : PmTask} (h : l.Keeps t) : l.Keeps (t.pmStart k) := .ite (.pmSend (.pm h)) (.pm h)

theorem Lane.Keeps.pmFree (h : l.Keeps t) : l.Keeps t.pmFree := by
  unfold Lane.pmFree
  dsimp only
  split
  · exact .pm h
  · exact .pmSend (.pm (.pm h))

theorem Lane.Keeps.proofPass {f : Lane → Lane} (h : l.Keeps t) (hf : ∀ k, l.Keeps k → l.Keeps (f k)) : l.Keeps (t.proofPass f) :=
  .when (hf _ h) fun _ => .set

theorem Lane.Keeps.provenBy {f : Fld} {c : Bool} (h : l.Keeps t) : l.Keeps (t.provenBy f c) :=
  .ite (.proofPass h (fun _ hk => .event (.set hk))) h

theorem Lane.Keeps.regFail {mv : Nat} {noAck refused : Bool} (h : l.Keeps t) : l.Keeps (t.regFail mv noAck refused) :=
  .event (.raise (.set h))

theorem Lane.Keeps.profRefused (h : l.Keeps t) : l.Keeps t.profRefused := .raise (.sc (.sy h))

theorem Lane.Keeps.pmNotAck {why : PmWhy} {refused : Bool} (h : l.Keeps t) : l.Keeps (t.pmNotAck why refused) :=
  .ite (.regFail (.ite (.profRefused h) h)) (.ite (.profRefused h) h)

theorem Lane.Keeps.pmRefuse {f : Fld} {why : PmWhy} (h : l.Keeps t) : l.Keeps (t.pmRefuse f why) := .pmNotAck (.event (.set h))

theorem Lane.Keeps.pmRequest {mv : Nat} {why : PmWhy} (h : l.Keeps t) : l.Keeps (t.pmRequest mv why) :=
  .ite h (.ite (.pmRefuse h) (.ite (.pmRefuse (.raiseOnce h)) (.pmStart (.set (.pm h)))))

theorem Lane.Keeps.pmBoot (h : l.Keeps t) : l.Keeps t.pmBoot := .pmRequest (.pm h)

theorem Lane.Keeps.bootLoad (h : l.Keeps t) : l.Keeps t.bootLoad := .im h

theorem Lane.Keeps.bootNext (h : l.Keeps t) : l.Keeps t.bootNext := .ite (.set (.of h rfl rfl rfl)) (.bootLoad (.set h))

theorem Lane.Keeps.pmLost {r : PmReq} (h : l.Keeps t) : l.Keeps (t.pmLost r) :=
  .ite (.pmBoot (.pmNotAck (.clr (.pm h)))) (.pmNotAck (.clr (.pm h)))

theorem Lane.Keeps.pmAck {r : PmReq} {late : Bool} (h : l.Keeps t) : l.Keeps (t.pmAck r late) := by
  unfold Lane.pmAck
  extract_lets _ a b c
  have ha : l.Keeps a := .pm h
  have hb : l.Keeps b := .when (.event (.wr (.clr ha))) fun _ => .set
  have hc : l.Keeps c := .ite (.bootNext hb) hb
  exact .ite (.pmStart hc) hc

theorem Lane.Keeps.voltageAck (h : l.Keeps t) : l.Keeps t.voltageAck := by
  unfold Lane.voltageAck
  split
  · exact h
  · split
    · exact .ite (.pmAck h) h
    · exact h

theorem Lane.Keeps.voltageTimeout (h : l.Keeps t) : l.Keeps t.voltageTimeout := by
  unfold Lane.voltageTimeout
  split
  · exact h
  · split
    · exact .ite (.pmLost (.event (.raise (.set h)))) h
    · exact h

theorem Lane.Keeps.regJudge {r : Int × Nat} {want : Nat} (h : l.Keeps t) : l.Keeps (t.regJudge r want) :=
  .ite (.proofPass h (fun _ hk => .event (.set hk))) (.regFail h)

theorem Lane.Keeps.statusAck {v : Nat} (h : l.Keeps t) : l.Keeps (t.statusAck v) := by
  unfold Lane.statusAck
  split
  · exact h
  · split
    · exact h
    · split
      · exact .pmAck h
      · exact h

theorem Lane.Keeps.alertRaise (h : l.Keeps t) : l.Keeps t.alertRaise := .raise h

theorem Lane.Keeps.pmEnd {v : Nat} (h : l.Keeps t) : l.Keeps (t.pmEnd v) := by
  unfold Lane.pmEnd
  split
  · exact h
  · split
    · exact h
    · extract_lets a b
      have ha : l.Keeps a := .pmFree h
      have hb : l.Keeps b := by
        dsimp only [b]
        split
        · exact .wr ha
        · exact .wr ha
        · exact .takeReading ha
        · exact .takeReading ha
        · exact ha
      split
      · split
        · exact .pm hb
        · exact hb
      · exact .statusAck hb
      · exact .alertRaise hb
      · exact .clr hb
      · exact hb
      · exact .regJudge hb

theorem Lane.Keeps.pmFail (h : l.Keeps t) : l.Keeps t.pmFail := by
  unfold Lane.pmFail
  split
  · exact h
  · split
    · exact h
    · split
      · exact .pm h
      · extract_lets a
        have ha : l.Keeps a := .pmFree (.event (.raise (.set h)))
        split
        · exact .pmLost ha
        · exact .clr ha
        · exact .regFail ha
        · exact .alertRaise ha
        · exact ha

theorem Lane.Keeps.pmRepeat (h : l.Keeps t) : l.Keeps t.pmRepeat := by
  unfold Lane.pmRepeat
  split
  · exact .ite (.pmSend h) h
  · exact h

theorem Lane.Keeps.pmTick (h : l.Keeps t) : l.Keeps t.pmTick := by
  unfold Lane.pmTick
  split
  · exact .ite (.pmStart (.pm h)) h
  · exact h

theorem Lane.Keeps.pmCommand (h : l.Keeps t) : l.Keeps t.pmCommand := by
  unfold Lane.pmCommand
  dsimp only
  split
  · exact h
  · split
    · exact .event (.set h)
    · split
      · exact .ite (.pmStart (.set h)) (.event (.raiseOnce (.set h)))
      · exact .pmStart (.set h)
      · exact .pmStart (.set h)
      · exact .pmStart (.set h)

theorem Lane.Keeps.pmPoll (h : l.Keeps t) : l.Keeps t.pmPoll := .ite (.pmStart (.pmStart h)) h

theorem Lane.Keeps.pmAlert {low : Bool} (h : l.Keeps t) : l.Keeps (t.pmAlert low) :=
  .ite (.ite h (.ite (.pmStart (.event (.set h))) (.alertRaise (.event (.set h))))) (.clr h)

/-! #### Sys2Proof/Machine/Guyline.lean -/

theorem Lane.Keeps.setBusy {p : Port} {t' : Nat} (h : l.Keeps t) : l.Keeps (t.setBusy p t') := by
  unfold Lane.setBusy
  split
  · exact .gl h
  · exact .gl h

theorem Lane.Keeps.glStart {p : Port} {w : GlWait} {t' : Nat} (h : l.Keeps t) : l.Keeps (t.glStart p w t') := .gl (.send (.setBusy h))

theorem Lane.Keeps.portStep {p : Port} (h : l.Keeps t) : l.Keeps (t.portStep p) := by
  unfold Lane.portStep
  split
  · exact h
  · split
    · exact h
    · exact .ite (.glStart (.gl h)) (.gl h)

theorem Lane.Keeps.glReady {w : GlWait} (h : l.Keeps t) : l.Keeps (t.glReady w) := .portStep (.gl h)

theorem Lane.Keeps.glTo {p : Port} {type cycle chunk chunks : Nat} {payload : List Byte} (h : l.Keeps t) :
    l.Keeps (t.glTo p type cycle chunk chunks payload) :=
  .ite (.glReady h) h

theorem Lane.Keeps.glSend {type : Nat} {payload : List Byte} (h : l.Keeps t) : l.Keeps (t.glSend type payload) := .glTo (.glTo h)

theorem Lane.Keeps.glSync {p : Port} {lane : LaneId} {dly : Nat} (h : l.Keeps t) : l.Keeps (t.glSync p lane dly) := .send (.setBusy h)

theorem Lane.Keeps.glWithdraw {f : Nat → Bool} (h : l.Keeps t) : l.Keeps (t.glWithdraw f) := .gl h

theorem Lane.Keeps.holdAxis {x : Ax} (h : l.Keeps t) : l.Keeps (t.holdAxis x) := .axisSafe (.markHeld h)

theorem Lane.Keeps.perAxis (h : l.Keeps t) : l.Keeps t.perAxis := .each h fun _ _ hk => .ite (.holdAxis hk) hk

theorem Lane.Keeps.setHolder {c : Nat} (h : l.Keeps t) : l.Keeps (t.setHolder c) := .ite h (.ite (.gl (.event (.wr h))) (.event (.wr h)))

theorem Lane.Keeps.copyBreak (h : l.Keeps t) : l.Keeps t.copyBreak := by
  unfold Lane.copyBreak
  split
  · exact .event (.bump (.gl h))
  · exact h

theorem Lane.Keeps.claim (h : l.Keeps t) : l.Keeps t.claim :=
  .setHolder (.event (.raise (.set (.set (.copyBreak (.gl (.glSend (.bump (.wr (.wr h))))))))))

theorem Lane.Keeps.sendAbdicate {cause : Nat} (h : l.Keeps t) : l.Keeps (t.sendAbdicate cause) := .glSend h

theorem Lane.Keeps.dropToken {cause next : Nat} {tell : Bool} {holder : Nat} (h : l.Keeps t) : l.Keeps (t.dropToken cause next tell holder) :=
  .setHolder (.event (.raise (.wr (.when (.glWithdraw (.gl h)) (fun _ => .sendAbdicate)))))

theorem Lane.Keeps.elect (h : l.Keeps t) : l.Keeps t.elect := .ite (.claim h) h

theorem Lane.Keeps.tokenCheck (h : l.Keeps t) : l.Keeps t.tokenCheck := .ite (.elect (.dropToken h)) (.elect h)

theorem Lane.Keeps.tokenLeave {tell : Bool} (h : l.Keeps t) : l.Keeps (t.tokenLeave tell) := .wr (.ite (.dropToken h) h)

theorem Lane.Keeps.abdicateNow (h : l.Keeps t) : l.Keeps t.abdicateNow := .ite (.portStep (.portStep (.gl (.tokenLeave h)))) h

theorem Lane.Keeps.showMode (h : l.Keeps t) : l.Keeps t.showMode := .put (.wr (.wr h))

theorem Lane.Keeps.seeEpoch {m : GlMsg} (h : l.Keeps t) : l.Keeps (t.seeEpoch m) := .ite (.wr h) h

theorem Lane.Keeps.hearHolder {i : LaneId} {epoch : Nat} (h : l.Keeps t) : l.Keeps (t.hearHolder i epoch) :=
  .ite (.ite (.dropToken (.wr h)) (.wr h)) (.ite (.ite (.gl (.wr (.setPeer (.setHolder (.wr h))))) (.setPeer (.setHolder (.wr h)))) (.wr h))

theorem Lane.Keeps.countLane {i : LaneId} {cause : Nat} (h : l.Keeps t) : l.Keeps (t.countLane i cause) := by
  unfold Lane.countLane
  extract_lets _ _ _ _ _ a b
  have ha : l.Keeps a := .setPeer (.put h)
  have hb : l.Keeps b := .ite (.event (.raise (.wr ha))) ha
  exact .ite (.setHolder hb) hb

theorem Lane.Keeps.recount {i : LaneId} {cause : Nat} (h : l.Keeps t) : l.Keeps (t.recount i cause) :=
  .tokenCheck (.glShares (.perAxis (.countLane h)))

theorem Lane.Keeps.glDiscard (h : l.Keeps t) : l.Keeps t.glDiscard := .raiseOnce (.bump h)

theorem Lane.Keeps.glHear {f : Lane → LaneId → Lane} {m : GlMsg} {len : Nat} (h : l.Keeps t) (hf : ∀ k y0, l.Keeps k → l.Keeps (f k y0)) :
    l.Keeps (t.glHear m len f) := by
  unfold Lane.glHear
  split
  · exact hf _ _ h
  · exact .glDiscard h

theorem Lane.Keeps.glIn {f : Lane → LaneId → Lane} {m : GlMsg} {len : Nat} (h : l.Keeps t) (hf : ∀ k y0, l.Keeps k → l.Keeps (f k y0)) :
    l.Keeps (t.glIn m len f) :=
  .glHear h fun _ _ hk => hf _ _ (.seeEpoch hk)

theorem Lane.Keeps.glEpochHear {f : Lane → LaneId → Lane} {m : GlMsg} {len : Nat} (h : l.Keeps t) (hf : ∀ k y0, l.Keeps k → l.Keeps (f k y0)) :
    l.Keeps (t.glEpochHear m len f) :=
  .glHear h fun _ _ hk => .ite hk (hf _ _ hk)

theorem Lane.Keeps.glEpochIn {f : Lane → LaneId → Lane} {m : GlMsg} {len : Nat} (h : l.Keeps t) (hf : ∀ k y0, l.Keeps k → l.Keeps (f k y0)) :
    l.Keeps (t.glEpochIn m len f) :=
  .glEpochHear h fun _ _ hk => hf _ _ (.seeEpoch hk)

theorem Lane.Keeps.rankCheck {i : LaneId} (h : l.Keeps t) : l.Keeps (t.rankCheck i) := .ite h (.raise (.set h))

theorem Lane.Keeps.copyEnd {c : Nat} (h : l.Keeps t) : l.Keeps (t.copyEnd c) := .ite (.copyBreak h) h

theorem Lane.Keeps.tickFollow (h : l.Keeps t) : l.Keeps t.tickFollow := .ite (.ntMove (.gl h)) (.gl (.gl h))

theorem Lane.Keeps.tickCount {tick : Nat} (h : l.Keeps t) : l.Keeps (t.tickCount tick) := .gl h

theorem Lane.Keeps.heartTake {i : LaneId} {m : GlMsg} (h : l.Keeps t) : l.Keeps (t.heartTake i m) := by
  unfold Lane.heartTake
  extract_lets _ _ _ _ a b c d e f _ g u
  have ha : l.Keeps a := .wr (.wr h)
  have hb : l.Keeps b := .wr (.put ha)
  have hc : l.Keeps c := .setPeer hb
  have hd : l.Keeps d := .when hc fun _ => .gl
  have he : l.Keeps e := .rankCheck (.copyEnd hd)
  have hf : l.Keeps f := .ite he (.seeEpoch he)
  have hg : l.Keeps g := .ite (.hearHolder hf) (.ite (.ite (.setPeer hf) (.setHolder (.setPeer hf))) hf)
  have hu : l.Keeps u := .ite (.tickCount (.wr hg)) hg
  exact .updateSel (.recount hu)

theorem Lane.Keeps.heartIn {m : GlMsg} (h : l.Keeps t) : l.Keeps (t.heartIn m) := by
  refine .glEpochHear h fun k i hk => ?_
  extract_lets _ _ a _ _ b
  have ha : l.Keeps a := .setPeer (.when hk fun _ => .set)
  have hb : l.Keeps b := ha.of rfl rfl rfl
  split
  · exact .ite hb (.heartTake hb)
  · exact .heartTake hb

theorem Lane.Keeps.heartMiss {i : LaneId} (h : l.Keeps t) : l.Keeps (t.heartMiss i) :=
  .ite (.setPeer (.set h)) (.ite (.recount (.setPeer (.when (.clr h) (fun _ => .bump)))) (.setPeer (.when (.clr h) (fun _ => .bump))))

theorem Lane.Keeps.heartDue (h : l.Keeps t) : l.Keeps t.heartDue := by
  unfold Lane.heartDue
  split
  · exact .ite (.each (.of h rfl rfl rfl) (fun _ _ => .heartMiss)) h
  · exact h

theorem Lane.Keeps.ftannIn {m : GlMsg} (h : l.Keeps t) : l.Keeps (t.ftannIn m) := .glIn h fun _ _ hk => .recount (.setPeer hk)

theorem Lane.Keeps.claimIn {m : GlMsg} (h : l.Keeps t) : l.Keeps (t.claimIn m) := by
  refine .glEpochHear h fun k i hk => ?_
  extract_lets _ a _ b
  have ha : l.Keeps a := .when (.bump hk) fun _ => .set
  have hb : l.Keeps b := .hearHolder (.setPeer ha)
  exact .tokenCheck (.ite (.wr hb) hb)

theorem Lane.Keeps.abdicateIn {m : GlMsg} (h : l.Keeps t) : l.Keeps (t.abdicateIn m) :=
  .glIn h (fun _ _ hk => .ite (.tokenCheck (.setHolder hk)) hk)

theorem Lane.Keeps.handTry (h : l.Keeps t) : l.Keeps t.handTry := by
  unfold Lane.handTry
  split
  · exact .ite (.claim h) h
  · exact h

theorem Lane.Keeps.handoverIn {m : GlMsg} (h : l.Keeps t) : l.Keeps (t.handoverIn m) :=
  .glEpochIn h (fun _ _ hk => .ite (.handTry (.gl hk)) hk)

theorem Lane.Keeps.handTimeout (h : l.Keeps t) : l.Keeps t.handTimeout := by
  unfold Lane.handTimeout
  split
  · exact .ite (.tokenCheck (.raise (.set (.wr (.gl h))))) h
  · exact h

theorem Lane.Keeps.glInelig (h : l.Keeps t) : l.Keeps t.glInelig := .tokenCheck (.set h)

theorem Lane.Keeps.glElig (h : l.Keeps t) : l.Keeps t.glElig := .tokenCheck (.clr h)

theorem Lane.Keeps.glCntClr (h : l.Keeps t) : l.Keeps t.glCntClr := .wr (.wr (.setReg h))

theorem Lane.Keeps.cmdProfile {pl : List Byte} (h : l.Keeps t) : l.Keeps (t.cmdProfile pl) :=
  .ite h (.ite (.ite h (.pmRequest (.sy h))) (.wr (.sy h)))

theorem Lane.Keeps.cmdTake {pl : List Byte} (h : l.Keeps t) : l.Keeps (t.cmdTake pl) :=
  .event (.glShares (.cmdProfile (.of (.wr (.setBytes h)) rfl rfl rfl)))

theorem Lane.Keeps.commandIn {m : GlMsg} (h : l.Keeps t) : l.Keeps (t.commandIn m) := .glEpochIn h fun _ _ hk => .cmdTake (.wr hk)

theorem Lane.Keeps.glForward (h : l.Keeps t) : l.Keeps t.glForward := .ite (.each h (fun _ _ hk => .setReg (.setReg hk))) h

theorem Lane.Keeps.copyOver (h : l.Keeps t) : l.Keeps t.copyOver := by
  unfold Lane.copyOver
  split
  · exact .ite (.gl h) h
  · exact h

theorem Lane.Keeps.copyVoid (h : l.Keeps t) : l.Keeps t.copyVoid := by
  unfold Lane.copyVoid
  dsimp only
  split
  · exact .copyOver h
  · exact .event (.raise (.set (.glWithdraw (.gl (.copyOver h)))))

theorem Lane.Keeps.copyStart (h : l.Keeps t) : l.Keeps t.copyStart :=
  .ite h (.each (.gl h) (fun _ _ hk => .each hk (fun _ _ hk1 => .ite (.glReady hk1) hk1)))

theorem Lane.Keeps.copyChunk {c : Nat} {m : GlMsg} (h : l.Keeps t) : l.Keeps (t.copyChunk c m) := by
  unfold Lane.copyChunk
  extract_lets a _ _ _ b _ _ c d
  have ha : l.Keeps a := by
    dsimp only [a]
    split
    · exact .ite h (.copyEnd h)
    · exact h
  have hb : l.Keeps b := .ite ha (.clr (.setBytes ha))
  have hc : l.Keeps c := .gl hb
  have hd : l.Keeps d := .wr (.wr (.set hc))
  exact .ite (.handTry (.event (.wr hd))) (.gl hb)

theorem Lane.Keeps.copyIn {m : GlMsg} (h : l.Keeps t) : l.Keeps (t.copyIn m) := .glEpochIn h fun _ _ hk => .ite hk (.copyChunk hk)

theorem Lane.Keeps.handStep (h : l.Keeps t) : l.Keeps t.handStep.1 := by
  unfold Lane.handStep
  split
  · exact h
  · extract_lets _ a
    have ha : l.Keeps a := .gl h
    split
    · exact ha
    · split
      · exact .wr (.gl ha)
      · exact .raise (.set ha)

theorem Lane.Keeps.cmdStarted (h : l.Keeps t) : l.Keeps t.cmdStarted := by
  unfold Lane.cmdStarted
  split
  · extract_lets _ a
    have ha : l.Keeps a := .cmdTake (.gl h)
    split
    · exact .glSend (.gl ha)
    · exact ha
  · exact h

theorem Lane.Keeps.glPorts (h : l.Keeps t) : l.Keeps t.glPorts := .copyOver (.cmdStarted (.portStep (.portStep h)))

theorem Lane.Keeps.commandSend {hand : Option Nat} (h : l.Keeps t) : l.Keeps (t.commandSend hand) :=
  .ite (.cmdStarted (.gl (.glSend (.gl h)))) (.glSend (.gl h))

theorem Lane.Keeps.glSignal (h : l.Keeps t) : l.Keeps t.glSignal := by
  unfold Lane.glSignal
  split
  · exact h
  · split
    · exact .elect (.sendAbdicate (.glSend (.dropToken (.set h))))
    · extract_lets _ a _ _
      have ha : l.Keeps a := .glSend (.gl h)
      exact .ite (.copyStart (.commandSend (.handStep ha))) (.gl ha)

theorem Lane.Keeps.hashIn {m : GlMsg} (h : l.Keeps t) : l.Keeps (t.hashIn m) := .glIn h fun _ _ => .setPeer

theorem Lane.Keeps.hashSend (h : l.Keeps t) : l.Keeps t.hashSend := .ite (.glSend (.gl h)) h

theorem Lane.Keeps.voteSet {pass : Bool} (h : l.Keeps t) : l.Keeps (t.voteSet pass) := .ite (.event (.wr h)) (.raise (.sy (.event (.wr h))))

theorem Lane.Keeps.windowEnd (h : l.Keeps t) : l.Keeps t.windowEnd :=
  .ite (.ite (.claim (.ite (.voteSet h) h)) (.wr (.ite (.voteSet h) h))) h

theorem Lane.Keeps.voteStep (h : l.Keeps t) : l.Keeps t.voteStep := by
  unfold Lane.voteStep
  split
  · split
    · exact .tokenCheck (.voteSet h)
    · exact h
  · exact h

theorem Lane.Keeps.voteTimeout (h : l.Keeps t) : l.Keeps t.voteTimeout := .ite (.voteSet h) h

theorem Lane.Keeps.glArming (h : l.Keeps t) : l.Keeps t.glArming := .ite (.wr (.gl h)) (.gl (.wr (.gl h)))

theorem Lane.Keeps.restorePort {p : Port} (h : l.Keeps t) : l.Keeps (t.restorePort p) :=
  .ite (.event (.raise (.clr ((by
    split
    · exact .gl h
    · exact .gl h))))) h

theorem Lane.Keeps.glBoundary {d0 d1 : Nat} (h : l.Keeps t) : l.Keeps (t.glBoundary d0 d1) := by
  unfold Lane.glBoundary
  extract_lets a b _ _ c d e f _ g u
  have ha : l.Keeps a := .tickFollow h
  have hb : l.Keeps b := .wr (.wr ha)
  have hc : l.Keeps c := .gl hb
  have hd : l.Keeps d := .restorePort (.restorePort hc)
  have he : l.Keeps e := .ite hd (.clr (.clr hd))
  have hf : l.Keeps f := .glForward he
  have hg : l.Keeps g := .gl hf
  have hu : l.Keeps u := .when hg fun _ => .glSync
  exact .ite (.when hu fun _ => .glSync) hg

theorem Lane.Keeps.tickMove {m : Int} (h : l.Keeps t) : l.Keeps (t.tickMove m) := .ite (.gl h) (.gl h)

theorem Lane.Keeps.syncIn {p : Port} {sender : LaneId} {dly own : Nat} (h : l.Keeps t) : l.Keeps (t.syncIn p sender dly own) := by
  unfold Lane.syncIn
  extract_lets _ _ a
  have ha : l.Keeps a := .ite (.glSync h) h
  split
  · exact ha
  · exact .ite ha (.put (.ite (.gl (.gl ha)) (.tickMove (.gl ha))))

theorem Lane.Keeps.linkLoss {p : Port} (h : l.Keeps t) : l.Keeps (t.linkLoss p) :=
  .ite h (.event (.raise (.set (by
    split
    · exact .gl (.bump (.clr (.clr h)))
    · exact .gl (.bump (.clr (.clr h)))))))

theorem Lane.Keeps.linkUp {p : Port} {ns : Nat} (h : l.Keeps t) : l.Keeps (t.linkUp p ns) := by
  unfold Lane.linkUp
  split
  · split
    · exact .gl (.wr (.set h))
    · exact .gl (.wr (.set h))
  · exact h

theorem Lane.Keeps.glPass {p : Port} {m : GlMsg} (h : l.Keeps t) : l.Keeps (t.glPass p m) :=
  .ite (.glDiscard h) (.ite h (.ite (.glReady (.set (.set (.gl h)))) (.set (.set (.gl h)))))

/-! #### Sys2Proof/Machine/Slice.lean -/

theorem Lane.Keeps.tokSend {form : Nat} {holder : LaneId} {seq : Nat} (h : l.Keeps t) : l.Keeps (t.tokSend form holder seq) := .glSend h

theorem Lane.Keeps.tokTake {seq : Nat} (h : l.Keeps t) : l.Keeps (t.tokTake seq) := .event (.set (.wr (.st h)))

theorem Lane.Keeps.tokPass (h : l.Keeps t) : l.Keeps t.tokPass := .ite (.tokTake (.tokSend h)) (.clr (.wr (.st (.tokSend h))))

theorem Lane.Keeps.tokBoundary (h : l.Keeps t) : l.Keeps t.tokBoundary := .ite (.ite (.st h) (.tokPass h)) h

theorem Lane.Keeps.tokIn {m : GlMsg} (h : l.Keeps t) : l.Keeps (t.tokIn m) :=
  .glIn h (fun _ _ hk => .ite (.ite (.tokTake (.st hk)) (.st hk)) (.ite (.clr (.wr (.st (.st hk)))) (.st hk)))

theorem Lane.Keeps.tokRegen (h : l.Keeps t) : l.Keeps t.tokRegen := .ite (.raise (.bump (.st (.tokTake (.tokSend h))))) h

theorem Lane.Keeps.tokArming (h : l.Keeps t) : l.Keeps t.tokArming := .ite (.st h) (.ite (.tokTake (.st (.st h))) (.st (.st h)))

theorem Lane.Keeps.latent {u index : Nat} (h : l.Keeps t) : l.Keeps (t.latent u index) := .event (.raise (.wr h))

theorem Lane.Keeps.coreTested {pass : Bool} (h : l.Keeps t) : l.Keeps (t.coreTested pass) := .pc h

theorem Lane.Keeps.stResult {res u cov dur : Nat} (h : l.Keeps t) : l.Keeps (t.stResult res u cov dur) := .wr (.wr (.wr (.wr h)))

theorem Lane.Keeps.sliceCharge {t' : Nat} (h : l.Keeps t) : l.Keeps (t.sliceCharge t') := .bistCharge (.sc (.bistCharge h))

theorem Lane.Keeps.partDone {u res cov time : Nat} (h : l.Keeps t) : l.Keeps (t.partDone u res cov time) := by
  unfold Lane.partDone
  extract_lets a b
  have ha : l.Keeps a := .stResult h
  have hb : l.Keeps b := .ite (.bump ha) (.ite (.bump ha) (.ite (.bump ha) ha))
  exact .event (.ite (.coreTested hb) hb)

theorem Lane.Keeps.runDone {p : ProgAt} {u res cov time : Nat} (h : l.Keeps t) : l.Keeps (t.runDone p u res cov time) :=
  .ite (.partDone (.st h)) (.st h)

theorem Lane.Keeps.sliceDone {r : SliceRun} {res cov : Nat} (h : l.Keeps t) : l.Keeps (t.sliceDone r res cov) := by
  unfold Lane.sliceDone
  extract_lets _ _ a b c d
  have ha : l.Keeps a := .clr (.st h)
  have hb : l.Keeps b := .ite (.clr ha) ha
  have hc : l.Keeps c := .ite (.latent hb) hb
  have hd : l.Keeps d := by
    dsimp only [d]
    split
    · exact .ite (.runDone hc) (.sliceCharge (.partDone hc))
    · exact .sliceCharge (.partDone hc)
  exact .ite (.tokPass hd) hd

theorem Lane.Keeps.sliceAbort {cause : Nat} (h : l.Keeps t) : l.Keeps (t.sliceAbort cause) := by
  unfold Lane.sliceAbort
  split
  · exact .wr (.sliceDone h)
  · exact h

theorem Lane.Keeps.sliceStart {u index : Nat} {prog : Bool} (h : l.Keeps t) : l.Keeps (t.sliceStart u index prog) :=
  .set (.ite (.set (.st h)) (.st h))

theorem Lane.Keeps.sliceRequest {u index : Nat} (h : l.Keeps t) : l.Keeps (t.sliceRequest u index) :=
  .ite h (.ite (.stResult h) (.sliceStart h))

theorem Lane.Keeps.progEnd (h : l.Keeps t) : l.Keeps t.progEnd := .event (.clr (.st h))

theorem Lane.Keeps.runStart {p : ProgAt} (h : l.Keeps t) : l.Keeps (t.runStart p) := .ite h (.sliceStart h)

theorem Lane.Keeps.progRun {n : Nat} (h : l.Keeps t) : l.Keeps (t.progRun n) := by
  induction n generalizing t with
  | zero => exact .progEnd h
  | succ k ih => exact .ite (.progEnd h) (.ite (ih (.event (.stResult h))) (.runStart (.st h)))

theorem Lane.Keeps.progNext (h : l.Keeps t) : l.Keeps t.progNext := by
  unfold Lane.progNext
  split
  · exact .ite h (.ite (.progRun h) (.runStart h))
  · exact h

theorem Lane.Keeps.progGo (h : l.Keeps t) : l.Keeps t.progGo := .ite (.progRun (.set h)) h

theorem Lane.Keeps.progAbort (h : l.Keeps t) : l.Keeps t.progAbort := by
  unfold Lane.progAbort
  split
  · exact .ite (.st h) (.progEnd (.ite h (.partDone h)))
  · exact h

theorem Lane.Keeps.sliceEnd {res : SliceResult} {cov : Nat} (h : l.Keeps t) : l.Keeps (t.sliceEnd res cov) := by
  unfold Lane.sliceEnd
  split
  · exact .ite h (.progNext (.sliceDone h))
  · exact h

theorem Lane.Keeps.sliceBudgetEnd (h : l.Keeps t) : l.Keeps t.sliceBudgetEnd := by
  unfold Lane.sliceBudgetEnd
  split
  · exact .ite h (.ite (.sliceDone h) (.sliceAbort h))
  · exact h

theorem Lane.Keeps.gdInject (h : l.Keeps t) : l.Keeps t.gdInject := by
  unfold Lane.gdInject
  split
  · exact .ite (.st h) h
  · exact h

theorem Lane.Keeps.sliceAccess (h : l.Keeps t) : l.Keeps t.sliceAccess := by
  unfold Lane.sliceAccess
  split
  · exact .ite (.progNext (.sliceAbort h)) h
  · exact h

theorem Lane.Keeps.accessed {a n : Nat} (h : l.Keeps t) : l.Keeps (t.accessed a n) := .ite (.sliceAccess h) h

theorem Lane.Keeps.copyReads (h : l.Keeps t) : l.Keeps t.copyReads := .ite h (.each (.gl h) (fun _ _ => .accessed))

theorem Lane.Keeps.stTick (h : l.Keeps t) : l.Keeps t.stTick := by
  unfold Lane.stTick
  split
  · exact .ite (.sliceAbort h) h
  · exact .progNext h

theorem Lane.Keeps.sweepResults {fails : Nat} (h : l.Keeps t) : l.Keeps (t.sweepResults fails) :=
  .event (.each (.coreTested (.wr (.wr (.set (.clr (.st h)))))) (fun _ _ hk => .ite (.latent hk) hk))

/-! #### Sys2Proof/Machine/Hamper.lean -/

theorem Lane.Keeps.setHamper {i : Nat} {h' : Hamper} (h : l.Keeps t) : l.Keeps (t.setHamper i h') := .hq h

theorem Lane.Keeps.hamperEval {i : Nat} (h : l.Keeps t) : l.Keeps (t.hamperEval i) := .hq (.wr (.wr (.wr h)))

theorem Lane.Keeps.hamperJudge {i : Nat} (h : l.Keeps t) : l.Keeps (t.hamperJudge i) :=
  .ite (.put h) (.ite (.event (.set (.put h))) (.ite (.event (.clr (.put h))) (.put h)))

theorem Lane.Keeps.hamperRose {i before : Nat} (h : l.Keeps t) : l.Keeps (t.hamperRose i before) := .ite (.arise h) h

theorem Lane.Keeps.hamperOvr {i : Nat} (h : l.Keeps t) : l.Keeps (t.hamperOvr i) := .event (.raiseOnce (.bump (.set h)))

theorem Lane.Keeps.hamperAdd {i prio : Nat} {payload : List Byte} (h : l.Keeps t) : l.Keeps (t.hamperAdd i prio payload) :=
  .hq (.setHamper (.accessed (.fresh h)))

theorem Lane.Keeps.hamperAdds {i prio : Nat} {ps : List (List Byte)} (h : l.Keeps t) : l.Keeps (t.hamperAdds i prio ps) :=
  .hamperRose (.hamperEval (.each h (fun _ _ => .hamperAdd)))

theorem Lane.Keeps.recordResult {r byte0 : Nat} (h : l.Keeps t) : l.Keeps (t.recordResult r byte0) :=
  .ite (.wr h) (.event (.raiseOnce (.ite (.hq (.set (.set (.bump (.wr h))))) (.set (.bump (.wr h))))))

theorem Lane.Keeps.pushTold {f : PushFor} {full : Bool} (h : l.Keeps t) : l.Keeps (t.pushTold f full) := by
  unfold Lane.pushTold
  split
  · exact h
  · exact .recordResult (.when h (fun _ => .bump))
  · exact .recordResult h

theorem Lane.Keeps.hamperPush {i prio : Nat} {ps : List (List Byte)} {f : PushFor} (h : l.Keeps t) : l.Keeps (t.hamperPush i prio ps f) :=
  .ite (.pushTold (.hamperOvr h)) (.ite (.hq h) (.pushTold (.hamperAdds h)))

theorem Lane.Keeps.lateJudge {p : LatePush} (h : l.Keeps t) : l.Keeps (t.lateJudge p) :=
  .ite (.pushTold (.hamperOvr h)) (.pushTold (.hamperAdds h))

theorem Lane.Keeps.lateFrom {n : Nat} (h : l.Keeps t) : l.Keeps (t.lateFrom n) := .ite h (.each (.hq h) (fun _ _ => .lateJudge))

theorem Lane.Keeps.hqJudge (h : l.Keeps t) : l.Keeps t.hqJudge := .when h fun _ hk => .each hk (fun _ _ => .hamperJudge)

theorem Lane.Keeps.hqEnd (h : l.Keeps t) : l.Keeps t.hqEnd := .hq (.each (.each (.hq h) (fun _ _ => .lateJudge)) (fun _ _ => .hamperJudge))

theorem Lane.Keeps.hqCycle (h : l.Keeps t) : l.Keeps t.hqCycle := .ite (.hqEnd h) h

theorem Lane.Keeps.prodReject (h : l.Keeps t) : l.Keeps t.prodReject := .raiseOnce (.set h)

theorem Lane.Keeps.storageReject (h : l.Keeps t) : l.Keeps t.storageReject := .raiseOnce (.set h)

theorem Lane.Keeps.hqPutWrite {h' n : Nat} {v : Word} (h : l.Keeps t) : l.Keeps (t.hqPutWrite h' n v) := .ite (.prodReject h) (.setReg h)

theorem Lane.Keeps.hqPush {h' : Nat} {v : Word} (h : l.Keeps t) : l.Keeps (t.hqPush h' v) := .ite (.prodReject h) (.hamperPush h)

theorem Lane.Keeps.hqTake {i : Nat} (h : l.Keeps t) : l.Keeps (t.hqTake i) := by
  unfold Lane.hqTake
  dsimp only
  split
  · exact .returns (.hamperEval (.setHamper h))
  · split
    · exact .returns h
    · exact .returns (.hamperEval (.setHamper h))

theorem Lane.Keeps.hqMark {i : Nat} (h : l.Keeps t) : l.Keeps (t.hqMark i) := .returns (.setHamper h)

theorem Lane.Keeps.rewindTo {i p : Nat} (h : l.Keeps t) : l.Keeps (t.rewindTo i p) := .hamperRose (.hamperEval (.setHamper h))

theorem Lane.Keeps.hqRewind {i : Nat} (h : l.Keeps t) : l.Keeps (t.hqRewind i) := .returns (.rewindTo h)

theorem Lane.Keeps.hqMarkAll (h : l.Keeps t) : l.Keeps t.hqMarkAll := .each h fun _ _ => .setHamper

theorem Lane.Keeps.hqReleaseAll (h : l.Keeps t) : l.Keeps t.hqReleaseAll := .each h fun _ _ hk => .hamperEval (.setHamper hk)

theorem Lane.Keeps.hqRollback (h : l.Keeps t) : l.Keeps t.hqRollback := .each h fun _ _ => .rewindTo

theorem Lane.Keeps.hqCntClr (h : l.Keeps t) : l.Keeps t.hqCntClr := .setReg h

/-! #### Sys2Proof/Machine/HostPort.lean -/

theorem Lane.Keeps.serviceAct {code : Nat} (h : l.Keeps t) : l.Keeps (t.serviceAct code) :=
  .ite (.sy h) (.ite (.ite (.fc (.set h)) (.sy h)) h)

theorem Lane.Keeps.service {b : List Byte} (h : l.Keeps t) : l.Keeps (t.service b) := .hamperPush (.event (.raise (.bump (.serviceAct h))))

theorem Lane.Keeps.hostPut {b : List Byte} (h : l.Keeps t) : l.Keeps (t.hostPut b) := .hamperPush h

theorem Lane.Keeps.hostFrame {b : List Byte} {whole mode3 : Bool} (h : l.Keeps t) : l.Keeps (t.hostFrame b whole mode3) := by
  unfold Lane.hostFrame
  extract_lets r a
  have ha : l.Keeps a := .put (.send h)
  clear_value a r
  split
  · exact ha
  · exact .ite (.service ha) (.hostPut ha)
  · exact .recordResult ha

theorem Lane.Keeps.irqClr (h : l.Keeps t) : l.Keeps t.irqClr := .ite h (.clr h)

/-! #### Sys2Proof/Machine/Lantern.lean -/

theorem Lane.Keeps.lantStart (h : l.Keeps t) : l.Keeps t.lantStart := .ite h (.set (.fc h))

theorem Lane.Keeps.lantStop {cause : Nat} (h : l.Keeps t) : l.Keeps (t.lantStop cause) := .ite (.wr (.clr (.fc h))) h

theorem Lane.Keeps.lantLow (h : l.Keeps t) : l.Keeps t.lantLow := .clr (.fc h)

theorem Lane.Keeps.lantToggle (h : l.Keeps t) : l.Keeps t.lantToggle := by
  unfold Lane.lantToggle
  split
  · exact .ite (.ite (.wr (.fc h)) (.lantLow h)) h
  · exact h

theorem Lane.Keeps.tendFault {cause key : Nat} (h : l.Keeps t) : l.Keeps (t.tendFault cause key) := .raise (.lantStop (.fc h))

theorem Lane.Keeps.tend {key : Nat} (h : l.Keeps t) : l.Keeps (t.tend key) :=
  .ite h (.ite (.tendFault h) (.ite (.tendFault h) (.ite (.tendFault h) (.when (.wr (.fc h)) (fun _ => .set)))))

theorem Lane.Keeps.tendExpiry (h : l.Keeps t) : l.Keeps t.tendExpiry := .ite (.tendFault h) h

theorem Lane.Keeps.setWatch {p : Port} {w : Watch} (h : l.Keeps t) : l.Keeps (t.setWatch p w) := by
  unfold Lane.setWatch
  split
  · exact .fc h
  · exact .fc h

theorem Lane.Keeps.watchStart (h : l.Keeps t) : l.Keeps t.watchStart := .wr (.wr h)

theorem Lane.Keeps.watchStop {p : Port} (h : l.Keeps t) : l.Keeps (t.watchStop p) := .recount (.event (.raise (.setWatch (.wr h))))

theorem Lane.Keeps.watchGo {p : Port} (h : l.Keeps t) : l.Keeps (t.watchGo p) := .recount (.event (.wr h))

theorem Lane.Keeps.watchEdge {p : Port} (h : l.Keeps t) : l.Keeps (t.watchEdge p) :=
  .ite h (.ite (.ite (.watchStop (.setWatch h)) (.setWatch h)) (.ite (.watchGo (.setWatch h)) (.setWatch h)))

theorem Lane.Keeps.watchTimeout {p : Port} (h : l.Keeps t) : l.Keeps (t.watchTimeout p) := by
  unfold Lane.watchTimeout
  split
  · exact .ite (.watchStop h) h
  · exact h

/-! #### Sys2Proof/Machine/Access.lean -/

theorem Lane.Keeps.fieldWrite {a v : Nat} (h : l.Keeps t) : l.Keeps (t.fieldWrite a v) := by
  unfold Lane.fieldWrite
  split
  · exact h
  · exact .ite (.setReg h) h

/-! #### Sys2Proof/Machine/Inputs.lean -/

theorem Lane.Keeps.safSsup (h : l.Keeps t) : l.Keeps t.safSsup := by
  unfold Lane.safSsup
  extract_lets _ a _ b
  have ha : l.Keeps a := .ite (.event (.saf h)) h
  have hb : l.Keeps b := .ite (.event (.saf ha)) ha
  exact .ite (.proofPass hb (fun _ => .set)) hb

theorem Lane.Keeps.armProofs (h : l.Keeps t) : l.Keeps t.armProofs := .ite (.provenBy (.each (.safSsup h) (fun _ _ => .provenBy))) h

theorem Lane.Keeps.setSaf {n : Nat} {v : SafIn} (h : l.Keeps t) : l.Keeps (t.setSaf n v) := by
  unfold Lane.setSaf
  split
  · exact .saf h
  · exact .saf h
  · exact .saf h
  · exact .saf h

theorem Lane.Keeps.safSeen {n : Nat} (h : l.Keeps t) : l.Keeps (t.safSeen n) := by
  unfold Lane.safSeen
  split
  · exact h
  · exact .ite (.armProofs (.set (.when (.when h (fun _ => .set)) (fun _ => .set)))) (.when (.when h (fun _ => .set)) (fun _ => .set))

theorem Lane.Keeps.safEval {n : Nat} (h : l.Keeps t) : l.Keeps (t.safEval n) :=
  .ite h (.safSeen (.ite (.setSaf h) (.event (.put (.setSaf h)))))

theorem Lane.Keeps.safLevels {n : Nat} (h : l.Keeps t) : l.Keeps (t.safLevels n) := .safEval (.put (.put h))

theorem Lane.Keeps.safPin {n : Nat} {chanB level : Bool} (h : l.Keeps t) : l.Keeps (t.safPin n chanB level) :=
  .ite (.ite h (.setSaf h)) (.ite h (.setSaf h))

theorem Lane.Keeps.safChange {n : Nat} {chanB level : Bool} (h : l.Keeps t) : l.Keeps (t.safChange n chanB level) :=
  .ite (.ite (.safPin h) (.safLevels (.safPin h))) h

theorem Lane.Keeps.safDiscrepancy {n : Nat} (h : l.Keeps t) : l.Keeps (t.safDiscrepancy n) := by
  unfold Lane.safDiscrepancy
  split
  · exact .ite (.event (.raise (.clr (.set h)))) h
  · exact h

theorem Lane.Keeps.discClr {m : Nat} (h : l.Keeps t) : l.Keeps (t.discClr m) := .each h (fun _ _ hk => .ite (.safEval (.clr hk)) hk)

theorem Lane.Keeps.injStart (h : l.Keeps t) : l.Keeps t.injStart := by
  unfold Lane.injStart
  split
  · exact h
  · exact .setSaf (.saf h)

theorem Lane.Keeps.injQueue {ns : List Nat} (h : l.Keeps t) : l.Keeps (t.injQueue ns) := .injStart (.saf h)

theorem Lane.Keeps.injectInputs {m : Nat} (h : l.Keeps t) : l.Keeps (t.injectInputs m) := .ite h (.injQueue h)

theorem Lane.Keeps.injFail {n : Nat} {chanB : Bool} (h : l.Keeps t) : l.Keeps (t.injFail n chanB) :=
  .event (.raise (.set (.set (.setSaf h))))

theorem Lane.Keeps.injDone {n : Nat} (h : l.Keeps t) : l.Keeps (t.injDone n) :=
  .injStart (.safLevels (.ite (.saf h) (.armProofs (.set (.saf h)))))

theorem Lane.Keeps.injEnd {ok : Bool} (h : l.Keeps t) : l.Keeps (t.injEnd ok) := by
  unfold Lane.injEnd
  split
  · exact h
  · split
    · exact h
    · extract_lets a
      have ha : l.Keeps a := .ite h (.injFail h)
      exact .ite (.saf ha) (.ite (.saf ha) (.injDone ha))

/-! #### Sys2Proof/Machine/Network.lean -/

theorem Lane.Keeps.ttQuality (h : l.Keeps t) : l.Keeps t.ttQuality := .wr (.wr h)

theorem Lane.Keeps.setSync {s : Nat} (h : l.Keeps t) : l.Keeps (t.setSync s) := .ttQuality (.wr (.ite h (.event (.tt h))))

theorem Lane.Keeps.ntStep {th : Int} (h : l.Keeps t) : l.Keeps (t.ntStep th) := .of (.wrS (.ntMove h)) rfl rfl rfl

theorem Lane.Keeps.ntCorrect {th : Int} (h : l.Keeps t) : l.Keeps (t.ntCorrect th) := .wrS (.wrS (.tt (.ntRebase h)))

theorem Lane.Keeps.reference {r trx : Nat} {th : Int} (h : l.Keeps t) : l.Keeps (t.reference r trx th) := by
  unfold Lane.reference
  extract_lets _ _ a _ _ b c _ d e _ _ f
  have ha : l.Keeps a := .when h fun _ => .set
  have hb : l.Keeps b := .of ha rfl rfl rfl
  have hc : l.Keeps c := .wr (.wr hb)
  have hd : l.Keeps d := .when hc fun _ => .raise
  have he : l.Keeps e := .ntCorrect hc
  have hf : l.Keeps f := .tt he
  split
  · exact .ttQuality hb
  · exact .ite (.setSync (.ntStep hc)) (.ite (.setSync (.ntStep hd)) (.ite (.ite (.setSync hf) (.ttQuality hf)) (.setSync he)))

theorem Lane.Keeps.syncLoss (h : l.Keeps t) : l.Keeps t.syncLoss := .ite (.raise (.setSync h)) h

theorem Lane.Keeps.masterTake (h : l.Keeps t) : l.Keeps t.masterTake := .ite (.setSync h) h

theorem Lane.Keeps.portJudge {p : Nat} (h : l.Keeps t) : l.Keeps (t.portJudge p) := .ite (.wr (.wr h)) (.wr h)

theorem Lane.Keeps.ageStep {k : Nat} (h : l.Keeps t) : l.Keeps (t.ageStep k) := .ite (.bump h) h

theorem Lane.Keeps.cycleStart (h : l.Keeps t) : l.Keeps t.cycleStart :=
  .ite h (.event (.wr (.wr (.wr (.tt (.each (.when h (fun _ hk => .each hk (fun _ _ => .portJudge))) (fun _ _ => .ageStep)))))))

theorem Lane.Keeps.portMute {p : Nat} (h : l.Keeps t) : l.Keeps (t.portMute p) := .ite (.event (.raise (.wr (.set h)))) h

theorem Lane.Keeps.portOpen {p : Nat} (h : l.Keeps t) : l.Keeps (t.portOpen p) := .ite (.event (.wr (.wr (.clr h)))) h

theorem Lane.Keeps.portUnmute {p : Nat} (h : l.Keeps t) : l.Keeps (t.portUnmute p) := .ite (.portOpen h) h

theorem Lane.Keeps.txReady {k len : Nat} (h : l.Keeps t) : l.Keeps (t.txReady k len) :=
  .ite (.raiseOnce (.bump (.set h))) (.ite h (.tt (.wr h)))

theorem Lane.Keeps.fetchSlot {k : Nat} (h : l.Keeps t) : l.Keeps (t.fetchSlot k) :=
  .ite (.event (.raiseOnce (.bump (.tt (.when (.when h (fun _ => .set)) (fun _ => .wr)))))) (.tt (.when (.when h (fun _ => .set)) (fun _ => .wr)))

theorem Lane.Keeps.fetch {k : Nat} (h : l.Keeps t) : l.Keeps (t.fetch k) := by
  unfold Lane.fetch
  split
  · exact h
  · split
    · exact .ite h (.fetchSlot (.tt h))
    · exact h

theorem Lane.Keeps.slotSend {k : Nat} (h : l.Keeps t) : l.Keeps (t.slotSend k) := by
  unfold Lane.slotSend
  dsimp only
  split
  · exact .ite (.ite h (.send h)) h
  · split
    · exact h
    · split
      · exact .ite h (.ite h (.send h))
      · split
        · exact .ite (.ite (.tt h) (.send (.tt h))) h
        · exact h

theorem Lane.Keeps.frameSend {k : Nat} (h : l.Keeps t) : l.Keeps (t.frameSend k) := by
  unfold Lane.frameSend
  split
  · exact h
  · split
    · exact .ite h (.slotSend (.tt h))
    · exact h

theorem Lane.Keeps.partnerSet {m st : Nat} (h : l.Keeps t) : l.Keeps (t.partnerSet m st) := .event (.raise (.wr h))

theorem Lane.Keeps.partnerSeen {m p cyc : Nat} (h : l.Keeps t) : l.Keeps (t.partnerSeen m p cyc) :=
  .ite (.partnerSet (.wr (.wr h))) (.wr (.wr h))

theorem Lane.Keeps.rollCall {id p cyc : Nat} (h : l.Keeps t) : l.Keeps (t.rollCall id p cyc) := by
  unfold Lane.rollCall
  split
  · exact .partnerSeen h
  · split
    · exact .bump h
    · exact .partnerSet (.partnerSeen (.wr (.setReg h)))

theorem Lane.Keeps.partnerAbsent {m : Nat} (h : l.Keeps t) : l.Keeps (t.partnerAbsent m) :=
  .ite h (.ite (.partnerSet h) (.ite (.setReg h) h))

theorem Lane.Keeps.partnersInit (h : l.Keeps t) : l.Keeps t.partnersInit := .each h fun _ _ hk => .wr (.wr hk)

theorem Lane.Keeps.rxError (h : l.Keeps t) : l.Keeps t.rxError := .event (.raiseOnce (.bump (.set h)))

theorem Lane.Keeps.violation {p : Nat} (h : l.Keeps t) : l.Keeps (t.violation p) := .ite (.wr (.tt (.bump h))) (.tt (.bump h))

theorem Lane.Keeps.hubSend {ports : Nat} {f : CrelasFrame} (h : l.Keeps t) : l.Keeps (t.hubSend ports f) := .ite h (.send h)

theorem Lane.Keeps.hubFree {p : Nat} {f : CrelasFrame} (h : l.Keeps t) : l.Keeps (t.hubFree p f) := .ite h (.hubSend (.tt h))

theorem Lane.Keeps.driftWarn {p k id : Nat} (h : l.Keeps t) : l.Keeps (t.driftWarn p k id) :=
  .event (.raiseOnce (by
    split
    · exact .set (.set h)
    · exact .set h))

theorem Lane.Keeps.rxAccept {p k trx : Nat} {f : CrelasFrame} (h : l.Keeps t) : l.Keeps (t.rxAccept p k trx f) := by
  unfold Lane.rxAccept
  extract_lets _ _ a b c d e
  have ha : l.Keeps a := .setBytes h
  have hb : l.Keeps b := .wr (.set (.wr ha))
  have hc : l.Keeps c := .wr (.wr hb)
  have hd : l.Keeps d := .ite (.hamperPush hc) hc
  have he : l.Keeps e := by
    dsimp only [e]
    split
    · exact .partnerSeen hd
    · exact hd
  exact .ite (.reference he) he

theorem Lane.Keeps.rxChecks {p k trx : Nat} {f : CrelasFrame} (h : l.Keeps t) : l.Keeps (t.rxChecks p k trx f) := by
  have he : ∀ {m : Lane} {c : Prop} {_ : Decidable c}, l.Keeps m → l.Keeps (if c then t.rxError else m) :=
    fun hm => .ite (.rxError h) hm
  exact he (.ite (.bump h) (he (he (he (he (.ite h (.ite (.rollCall h) (.ite (.rxAccept h) h))))))))

theorem Lane.Keeps.rxFrame {p : Nat} {f : CrelasFrame} {ago : Nat} (h : l.Keeps t) : l.Keeps (t.rxFrame p f ago) := by
  unfold Lane.rxFrame
  split
  · exact h
  · extract_lets _ _ _ _ _ _ _ _ _ _ _ _ a _ b c d _ e
    have ha : l.Keeps a := .wr (.wr h)
    have hb : l.Keeps b := .tt ha
    have hc : l.Keeps c := .when hb fun _ => .hubFree
    have hd : l.Keeps d := .when hc fun _ => .driftWarn
    have he : l.Keeps e := .when hd fun _ => .hubSend
    exact .ite (.ite hc (.violation hc)) (.ite (.ite he (.violation he)) (.rxChecks he))

theorem Lane.Keeps.linkChange {p : Nat} {up : Bool} (h : l.Keeps t) : l.Keeps (t.linkChange p up) := .ite h (.event (.raise (.put h)))

theorem Lane.Keeps.unmuteMask {m : Nat} (h : l.Keeps t) : l.Keeps (t.unmuteMask m) := .each h fun _ _ hk => .ite (.portOpen hk) hk

theorem Lane.Keeps.ttCntClr (h : l.Keeps t) : l.Keeps t.ttCntClr := .each (.setReg h) fun _ _ => .wr

/-! #### Sys2Proof/Machine/Trip.lean -/

theorem Lane.Keeps.ascLatch {k c : Nat} (h : l.Keeps t) : l.Keeps (t.ascLatch k c) := by
  unfold Lane.ascLatch
  split
  · exact .setGrpCode h
  · exact .ite (.trip (.setGrpCode h)) (.ite (.setGrpCode h) (.raise (.set (.setGrpCode h))))

theorem Lane.Keeps.actGroup {k : Nat} (h : l.Keeps t) : l.Keeps (t.actGroup k) := by
  unfold Lane.actGroup
  extract_lets a
  have ha : l.Keeps a := .ite (.clr h) h
  split
  · exact .ite (.setGrpCode ha) ha
  · exact .setGrpCode ha
  · exact .ascLatch ha
  · exact .ascLatch ha

theorem Lane.Keeps.settleAll (h : l.Keeps t) : l.Keeps t.settleAll := .each h fun _ _ => .leSettle

theorem Lane.Keeps.tripAct {n : Nat} (h : l.Keeps t) : l.Keeps (t.tripAct n) := by
  unfold Lane.tripAct
  extract_lets _ a _ _ b c d e
  have ha : l.Keeps a := .wr h
  have hb : l.Keeps b := .each ha fun _ _ => .actGroup
  have hc : l.Keeps c := .ite hb (.wr (.set hb))
  have hd : l.Keeps d := .event hc
  have he : l.Keeps e := .ite (.raise (.wr hd)) hd
  exact .ite ha (.settleAll he)

theorem Lane.Keeps.tripEnter {n : Nat} (h : l.Keeps t) : l.Keeps (t.tripEnter n) := .ite h (.ite (.trip (.trip h)) (.tripAct (.trip h)))

theorem Lane.Keeps.tripSource {n : Nat} {high : Bool} {cyc : Nat} (h : l.Keeps t) : l.Keeps (t.tripSource n high cyc) :=
  .ite (.trip h) (.trip h)

theorem Lane.Keeps.tripOnset {n : Nat} {high : Bool} {cyc : Nat} (h : l.Keeps t) : l.Keeps (t.tripOnset n high cyc) :=
  .when (.tripSource h) fun _ => .tripEnter

theorem Lane.Keeps.tripIdle {n : Nat} (h : l.Keeps t) : l.Keeps (t.tripIdle n) := .wr (.trip h)

theorem Lane.Keeps.tripsStanding (h : l.Keeps t) : l.Keeps t.tripsStanding := .each (.each h (fun _ _ => .tripIdle)) fun _ _ => .tripEnter

theorem Lane.Keeps.tripGone {n : Nat} (h : l.Keeps t) : l.Keeps (t.tripGone n) := .ite (.trip h) (.tripSource h)

theorem Lane.Keeps.tripOff {n : Nat} (h : l.Keeps t) : l.Keeps (t.tripOff n) := .tripIdle (.ite (.bump (.tripSource h)) (.tripSource h))

theorem Lane.Keeps.ocMark {n sw : Nat} (h : l.Keeps t) : l.Keeps (t.ocMark n sw) := .ite (.wr h) (.ite (.wr h) h)

theorem Lane.Keeps.tripAway {n : Nat} {p : TripPulse} (h : l.Keeps t) : l.Keeps (t.tripAway n p) := .tripSource (.ocMark h)

theorem Lane.Keeps.ocOnset {n sw : Nat} {high : Bool} {cyc : Nat} (h : l.Keeps t) : l.Keeps (t.ocOnset n sw high cyc) :=
  .tripOnset (.ocMark h)

theorem Lane.Keeps.auxStart {k : Nat} (h : l.Keeps t) : l.Keeps (t.auxStart k) := .ite (.trip h) h

theorem Lane.Keeps.auxEnd {k : Nat} (h : l.Keeps t) : l.Keeps (t.auxEnd k) := by
  unfold Lane.auxEnd
  split
  · exact .ite (.each (.trip h) (fun _ _ hk => .tripAct (.trip hk))) h
  · exact h

theorem Lane.Keeps.tripClr {m : Nat} (h : l.Keeps t) : l.Keeps (t.tripClr m) := .trip h

theorem Lane.Keeps.releaseTrips (h : l.Keeps t) : l.Keeps t.releaseTrips := .ite (.clr (.wr (.trip h))) (.wr (.trip h))

theorem Lane.Keeps.groupEnd {k : Nat} (h : l.Keeps t) : l.Keeps (t.groupEnd k) := by
  unfold Lane.groupEnd
  split
  · exact h
  · split
    · exact .ite (.trip (.setGrpCode h)) (.setGrpCode h)
    · exact .setGrpCode h

theorem Lane.Keeps.tripValley {x : Ax} (h : l.Keeps t) : l.Keeps (t.tripValley x) :=
  .leSettle (.each (.releaseTrips h) (fun _ _ => .groupEnd))

theorem Lane.Keeps.chopPulse (h : l.Keeps t) : l.Keeps t.chopPulse :=
  .ite (.ite (.event (.raiseOnce (.bump (.put (.set (.ite (.dl (.dl h)) (.dl h))))))) (.put (.set (.ite (.dl (.dl h)) (.dl h))))) (.dl h)

theorem Lane.Keeps.ov1Assert (h : l.Keeps t) : l.Keeps t.ov1Assert :=
  .ite h (.ite (.chopPulse (.dl (.event (.raiseOnce (.bump (.set h)))))) (.dl (.event (.raiseOnce (.bump (.set h))))))

theorem Lane.Keeps.ov1Release (h : l.Keeps t) : l.Keeps t.ov1Release := .clr (.clr h)

theorem Lane.Keeps.ov2Assert (h : l.Keeps t) : l.Keeps t.ov2Assert :=
  .ite h (.each (.tripOnset (.event (.raise (.bump (.set h))))) (fun _ _ => .gateSettle))

theorem Lane.Keeps.ov2Release (h : l.Keeps t) : l.Keeps t.ov2Release := .ite (.tripOff (.clr h)) h

theorem Lane.Keeps.chopPeriod (h : l.Keeps t) : l.Keeps t.chopPeriod := .ite (.chopPulse h) h

theorem Lane.Keeps.chopOnEnd (h : l.Keeps t) : l.Keeps t.chopOnEnd := .ite (.clr h) h

theorem Lane.Keeps.chopFault (h : l.Keeps t) : l.Keeps t.chopFault := .tripOnset (.event (.raise (.dl (.set (.clr h)))))

theorem Lane.Keeps.chopWatch {seen : Arrival} (h : l.Keeps t) : l.Keeps (t.chopWatch seen) := by
  unfold Lane.chopWatch
  split
  · split
    · split
      · exact .dl h
      · exact .set (.dl h)
      · exact .chopFault (.set (.dl h))
    · exact h
  · exact h

theorem Lane.Keeps.chopOver (h : l.Keeps t) : l.Keeps t.chopOver := .chopFault (.set h)

theorem Lane.Keeps.chopClr (h : l.Keeps t) : l.Keeps t.chopClr := .ite h (.tripOff (.clr h))

theorem Lane.Keeps.blankRead (h : l.Keeps t) : l.Keeps t.blankRead := .setReg (.of h rfl rfl rfl)

/-! #### Sys2Proof/Machine/Power.lean -/

theorem Lane.Keeps.setDom {d v : Nat} (h : l.Keeps t) : l.Keeps (t.setDom d v) := .wr h

theorem Lane.Keeps.portsDown (h : l.Keeps t) : l.Keeps t.portsDown := .each h fun _ _ => .linkChange

theorem Lane.Keeps.tickStop (h : l.Keeps t) : l.Keeps t.tickStop := .sc (.energyAccount h)

theorem Lane.Keeps.domStart {d target : Nat} (h : l.Keeps t) : l.Keeps (t.domStart d target) := by
  unfold Lane.domStart
  dsimp only
  split
  · exact .ite h (.setDom (.pw (.ite (.portsDown (.ite (.tickStop h) h)) (.ite (.tickStop h) h))))
  · exact .ite h (.setDom (.pw (.ite (.portsDown (.ite (.tickStop h) h)) (.ite (.tickStop h) h))))

theorem Lane.Keeps.lose {lo hi : Nat} (h : l.Keeps t) : l.Keeps (t.lose lo hi) := by
  unfold Lane.lose
  extract_lets kept lost a
  have ha : l.Keeps a := .filtered h rfl rfl rfl
  exact .each ha fun _ _ => .setReg

theorem Lane.Keeps.domLose {d : Nat} (h : l.Keeps t) : l.Keeps (t.domLose d) := by
  unfold Lane.domLose
  dsimp only
  split
  · exact .setAx (.lose (.lose (.lose h)))
  · exact .setAx (.lose (.lose (.lose h)))
  · exact .setAx (.ite (.trip (.lose h)) (.lose h))
  · exact .setAx (.ite (.trip (.lose h)) (.lose h))
  · exact .of (.each (.lose (.energyAccount h)) (fun _ _ hk => .setAx (.lose hk))) rfl rfl rfl
  · exact .ttQuality (.of (.lose h) rfl rfl rfl)
  · exact h

theorem Lane.Keeps.setWant {d v : Nat} (h : l.Keeps t) : l.Keeps (t.setWant d v) := .pw h

theorem Lane.Keeps.domFollow {d : Nat} (h : l.Keeps t) : l.Keeps (t.domFollow d) := .ite h (.domStart h)

theorem Lane.Keeps.domRequested {d w : Nat} (h : l.Keeps t) : l.Keeps (t.domRequested d w) :=
  .ite (.domFollow (.event (.raiseOnce (.set (.setWant h))))) (.domFollow (.setWant h))

theorem Lane.Keeps.domPermission (h : l.Keeps t) : l.Keeps t.domPermission :=
  .ite h (.each h (fun _ _ hk => .ite (.domFollow (.setWant hk)) hk))

theorem Lane.Keeps.domScheduler (h : l.Keeps t) : l.Keeps t.domScheduler := .each h (fun _ _ hk => .ite (.ite hk (.domRequested hk)) hk)

theorem Lane.Keeps.pdReqWrite {v : Nat} (h : l.Keeps t) : l.Keeps (t.pdReqWrite v) :=
  .each h (fun _ _ hk => .ite (.set hk) (.ite hk (.domRequested (.wr hk))))

theorem Lane.Keeps.sleepRejected (h : l.Keeps t) : l.Keeps t.sleepRejected := .raise (.set h)

theorem Lane.Keeps.sleepStep {p : SleepStep} (h : l.Keeps t) : l.Keeps (t.sleepStep p) := .pw h

theorem Lane.Keeps.sleepDomains (h : l.Keeps t) : l.Keeps t.sleepDomains := .ite (.sleepStep h) h

theorem Lane.Keeps.sleepDown (h : l.Keeps t) : l.Keeps t.sleepDown := .sleepDomains (.each (.pw (.wr (.wr h))) (fun _ _ => .domStart))

theorem Lane.Keeps.sleepBack (h : l.Keeps t) : l.Keeps t.sleepBack := .each (.pw h) fun _ _ => .domStart

theorem Lane.Keeps.sleepUndo (h : l.Keeps t) : l.Keeps t.sleepUndo :=
  .ite (.domStart (.sleepStep (.bump (.clr (.pw h))))) (.sleepBack (.bump (.clr (.pw h))))

theorem Lane.Keeps.sleepAbort {cause : Nat} (h : l.Keeps t) : l.Keeps (t.sleepAbort cause) := .event (.raise (.wr (.set (.sleepUndo h))))

theorem Lane.Keeps.wake {cause : Nat} (h : l.Keeps t) : l.Keeps (t.wake cause) := by
  unfold Lane.wake
  dsimp only
  split
  · exact .pw h
  · exact .ite (.sleepAbort h) (.clr (.wr (.pw h)))
  · exact .clr (.wr (.pw h))
  · exact h
  · exact h
  · exact .sleepAbort h

theorem Lane.Keeps.slowAlarm (h : l.Keeps t) : l.Keeps t.slowAlarm := .ite (.wake (.event (.pw h))) (.event (.pw h))

theorem Lane.Keeps.sleep (h : l.Keeps t) : l.Keeps t.sleep := by
  unfold Lane.sleep
  split
  · exact h
  · split
    · extract_lets _ a
      have ha : l.Keeps a := .set (.pw h)
      split
      · exact .ite (.sleepAbort ha) (.ite (.slowAlarm ha) ha)
      · exact .ite (.slowAlarm ha) ha
    · exact .sleepRejected h

theorem Lane.Keeps.domUp {d : Nat} (h : l.Keeps t) : l.Keeps (t.domUp d) := by
  unfold Lane.domUp
  split
  · exact .leSettle h
  · exact .leSettle h
  · exact .tripsStanding h
  · exact .each (.each h (fun _ _ => .hallsStanding)) fun _ _ => .safLevels
  · exact h

theorem Lane.Keeps.domDone {d : Nat} (h : l.Keeps t) : l.Keeps (t.domDone d) := by
  unfold Lane.domDone
  split
  · exact h
  · extract_lets _ a b c _ d
    have ha : l.Keeps a := .pw h
    have hb : l.Keeps b := .event (.setDom ha)
    have hc : l.Keeps c := .ite (.domLose hb) (.ite (.domUp hb) hb)
    have hd : l.Keeps d := .sc hc
    exact .ite (.ite (.ite (.sleepBack hd) hd) (.sleepStep hc)) (.ite (.sleepDomains hc) (.domFollow hc))

theorem Lane.Keeps.aoTick (h : l.Keeps t) : l.Keeps t.aoTick := .ite (.keepAlive h) h

theorem Lane.Keeps.pwTick (h : l.Keeps t) : l.Keeps t.pwTick := by
  unfold Lane.pwTick
  extract_lets a _ b
  have ha : l.Keeps a := .each h fun _ _ => .domDone
  have hb : l.Keeps b := .ntRebase ha
  split
  · exact .ite (.domStart (.pw ha)) ha
  · exact .ite (.clr (.clr (.of hb rfl rfl rfl))) ha
  · exact ha

theorem Lane.Keeps.wakeLock (h : l.Keeps t) : l.Keeps t.wakeLock :=
  .event (.raise (.domStart (.ttQuality (.setSync (.wr (.set (.of h rfl rfl rfl)))))))

theorem Lane.Keeps.whistleBad (h : l.Keeps t) : l.Keeps t.whistleBad := .raiseOnce (.bump (.set h))

theorem Lane.Keeps.whistleWhole {addr cmd : Nat} (h : l.Keeps t) : l.Keeps (t.whistleWhole addr cmd) :=
  .ite (.ite (.wake (.event (.bump (.wr h)))) (.event (.bump (.wr h)))) h

theorem Lane.Keeps.whistle {f : List WhistlePulse} (h : l.Keeps t) : l.Keeps (t.whistle f) := by
  unfold Lane.whistle
  split
  · exact h
  · split
    · exact .ite (.whistleWhole h) (.whistleBad h)
    · exact .whistleBad h

theorem Lane.Keeps.setDiv {d : Nat} (h : l.Keeps t) : l.Keeps (t.setDiv d) := .ite h (.ite (.event (.raise (.set h))) (.event (.wr h)))

theorem Lane.Keeps.divGo {d : Nat} (h : l.Keeps t) : l.Keeps (t.divGo d) := .ite (.setDiv h) h

theorem Lane.Keeps.divApply (h : l.Keeps t) : l.Keeps t.divApply := by
  unfold Lane.divApply
  split
  · exact .divGo (.pw h)
  · exact h

theorem Lane.Keeps.calGo (h : l.Keeps t) : l.Keeps t.calGo := .pw h

theorem Lane.Keeps.calPass {n : Nat} (h : l.Keeps t) : l.Keeps (t.calPass n) :=
  .ite (.sleepDown (.event (.set (.wr h)))) (.event (.set (.wr h)))

theorem Lane.Keeps.calFail {n : Nat} (h : l.Keeps t) : l.Keeps (t.calFail n) :=
  .ite (.event (.set (.sleepUndo (.event (.raise (.set h)))))) (.event (.raise (.set h)))

theorem Lane.Keeps.calEnd {n : Nat} (h : l.Keeps t) : l.Keeps (t.calEnd n) := .ite (.ite (.calPass (.pw h)) (.calFail (.pw h))) h

/-- The lane as a root loss leaves it, after its message and its stops. -/
theorem Lane.Keeps.lost (h : l.Keeps t) :
    l.Keeps { t with pw := { t.pw with rootLost := true, kaAo := false }, tt := { t.tt with ntRun := false } } := h.of rfl rfl rfl

theorem Lane.Keeps.rootLoss {det : Bool} (h : l.Keeps t) : l.Keeps (t.rootLoss det) := by
  have hb : l.Keeps ((t.raise srcCK 1 clsFT none (if det then 1 else 0)).ntRebase.tickStop.clr CK_STAT_LOCK) :=
    .clr (.tickStop (.ntRebase (.raise h)))
  exact .ite h (.lost hb)

theorem Lane.Keeps.freqCheck {n : Nat} (h : l.Keeps t) : l.Keeps (t.freqCheck n) := .ite h (.ite (.raise (.wr (.pw h))) (.wr (.pw h)))

theorem Lane.Keeps.inAo {f : Lane → Lane} (h : l.Keeps t) (hf : ∀ k, l.Keeps k → l.Keeps (f k)) : l.Keeps (t.inAo f) :=
  .ite (.ite h (.pw (.setReg (.setReg h)))) (hf _ h)

/-! #### Sys2Proof/Machine/Modes.lean -/

theorem Lane.Keeps.setMode {m : Nat} (h : l.Keeps t) : l.Keeps (t.setMode m) := .ite h (.event (.showMode (.wr h)))

theorem Lane.Keeps.modeFollow (h : l.Keeps t) : l.Keeps t.modeFollow := .tokenCheck (.glShares (.perAxis h))

theorem Lane.Keeps.axesSafe {cause : Nat} (h : l.Keeps t) : l.Keeps (t.axesSafe cause) := .each h fun _ _ => .axisSafe

theorem Lane.Keeps.safeHold {ft : Bool} (h : l.Keeps t) : l.Keeps (t.safeHold ft) :=
  .ite (.axesSafe h) (.glShares (.sy (.lantStop (.tokenLeave (.setMode (.gateDropAll (.axesSafe h)))))))

theorem Lane.Keeps.enterService (h : l.Keeps t) : l.Keeps t.enterService :=
  .glShares (.tokenLeave (.setMode (.sy (.ite h (.gateDropAll h)))))

theorem Lane.Keeps.postureWrite (h : l.Keeps t) : l.Keeps t.postureWrite := .each (.wr (.wr h)) fun _ _ hk => .wr (.wr hk)

theorem Lane.Keeps.establish (h : l.Keeps t) : l.Keeps t.establish := .ite (.event (.set h)) h

theorem Lane.Keeps.heldAxes (h : l.Keeps t) : l.Keeps t.heldAxes := .ite (.each h (fun _ _ hk => .ite (.holdAxis hk) hk)) h

theorem Lane.Keeps.postureStep (h : l.Keeps t) : l.Keeps t.postureStep :=
  .heldAxes (.ite (.postureWrite (.establish h)) (.when (.event (.postureWrite (.establish h))) (fun _ => .raise)))

theorem Lane.Keeps.newCycle (h : l.Keeps t) : l.Keeps t.newCycle := .fc h

theorem Lane.Keeps.coreReset (h : l.Keeps t) : l.Keeps t.coreReset := by
  have hb : l.Keeps t.resetBase := .filtered h rfl rfl rfl
  rw [Lane.coreReset_eq]
  exact .dieOnly (.ttQuality (.each hb fun _ _ => .wr))

theorem Lane.Keeps.otpBurn {x : OtpWrite} (h : l.Keeps t) : l.Keeps (t.otpBurn x) := by
  unfold Lane.otpBurn
  split
  · exact .wr h
  · exact .each (.put (.put (.set h))) fun _ _ => .wr
  · exact .set h

theorem Lane.Keeps.otpResolve (h : l.Keeps t) : l.Keeps t.otpResolve := by
  unfold Lane.otpResolve
  split
  · exact .ite (.otpBurn (.of h rfl rfl rfl)) (.of h rfl rfl rfl)
  · exact .lc h

theorem Lane.Keeps.hold (h : l.Keeps t) : l.Keeps t.hold := .coreReset (.otpResolve h)

theorem Lane.Keeps.powerUp (h : l.Keeps t) : l.Keeps t.powerUp := by
  unfold Lane.powerUp
  extract_lets a _ _
  have ha : l.Keeps a := .otpResolve h
  exact .wr (.filtered ha rfl rfl rfl)

theorem Lane.Keeps.brownOut (h : l.Keeps t) : l.Keeps t.brownOut := .sy (.powerUp h)

theorem Lane.Keeps.enterBootAt {straps : Nat} (h : l.Keeps t) : l.Keeps (t.enterBootAt straps) := by
  have hb : l.Keeps (t.bootBase straps) := by
    have hc : l.Keeps t.otpResolve.coreReset := .coreReset (.otpResolve h)
    unfold Lane.bootBase
    generalize t.otpResolve.coreReset = r at hc ⊢
    exact hc.of rfl rfl rfl
  have hm : l.Keeps ((t.bootBase straps).showMode.put SY_IMGSTAT_SRC (t.bootBase straps).fromQspi) := .put (.showMode hb)
  unfold Lane.enterBootAt
  dsimp only
  split
  · exact .wr (.stResult hm)
  · exact hm

theorem Lane.Keeps.enterBoot (h : l.Keeps t) : l.Keeps t.enterBoot := .enterBootAt h

theorem Lane.Keeps.restart (h : l.Keeps t) : l.Keeps t.restart := .ite (.set (.enterBoot h)) (.enterBoot h)

theorem Lane.Keeps.dumpOver (h : l.Keeps t) : l.Keeps t.dumpOver := .ite (.restart h) h

/-! #### Sys2Proof/Machine/Fault.lean -/

theorem Lane.Keeps.latchMsg {m : Word} (h : l.Keeps t) : l.Keeps (t.latchMsg m) := by
  unfold Lane.latchMsg
  extract_lets _ a b c d
  have ha : l.Keeps a := .fc h
  have hb : l.Keeps b := .ite (.set ha) ha
  have hc : l.Keeps c := .bump hb
  have hd : l.Keeps d := .ite (.event hc) hc
  exact .ite (.ite hd (.event (.set hd))) (.event (.set (.wr (.wr hd))))

theorem Lane.Keeps.capture {m : Word} (h : l.Keeps t) : l.Keeps (t.capture m) := .fc (.set (.wr (.wr h)))

theorem Lane.Keeps.dumpHand {why : Nat} (h : l.Keeps t) : l.Keeps (t.dumpHand why) := .clr (.fc h)

theorem Lane.Keeps.dumpChoose {m : Word} (h : l.Keeps t) : l.Keeps (t.dumpChoose m) := .ite (.dumpHand h) (.ite (.dumpHand h) (.fc h))

theorem Lane.Keeps.coresStop (h : l.Keeps t) : l.Keeps t.coresStop := .pc h

theorem Lane.Keeps.fatalStop {m : Word} (h : l.Keeps t) : l.Keeps (t.fatalStop m) := by
  unfold Lane.fatalStop
  extract_lets a b c
  have ha : l.Keeps a := .lantStop (.progNext (.sliceAbort (.progAbort h)))
  have hb : l.Keeps b := .ite (.lantLow ha) ha
  have hc : l.Keeps c := .glWithdraw hb
  exact hc.of rfl rfl rfl

theorem Lane.Keeps.fatalMode (h : l.Keeps t) : l.Keeps t.fatalMode := by
  unfold Lane.fatalMode
  extract_lets _ a b
  have ha : l.Keeps a := .ite (.watchStart (.im h)) h
  have hb : l.Keeps b := .ite (.axesSafe ha) (.safeHold ha)
  exact .ite hb (.tokenLeave hb)

theorem Lane.Keeps.fatalAgain {m : Word} (h : l.Keeps t) : l.Keeps (t.fatalAgain m) := .ite (.dumpHand h) h

theorem Lane.Keeps.fatalReact {m : Word} (h : l.Keeps t) : l.Keeps (t.fatalReact m) := .fatalMode (.coresStop (.glSend (.fatalStop h)))

theorem Lane.Keeps.fatal {m : Word} (h : l.Keeps t) : l.Keeps (t.fatal m) :=
  .ite (.fatalAgain (.fatalReact h)) (.dumpChoose (.fatalReact (.capture h)))

theorem Lane.Keeps.acceptMsg (h : l.Keeps t) : l.Keeps t.acceptMsg := by
  unfold Lane.acceptMsg
  split
  · exact h
  · split
    · exact h
    · exact .ite (.fatal (.latchMsg (.fc h))) (.latchMsg (.fc h))

theorem Lane.Keeps.acceptLpo (h : l.Keeps t) : l.Keeps t.acceptLpo := by
  unfold Lane.acceptLpo
  split
  · exact h
  · split
    · exact .ite (.latchMsg (.fc h)) (.fatal (.latchMsg (.fc h)))
    · exact h

theorem Lane.Keeps.rearm (h : l.Keeps t) : l.Keeps t.rearm := by
  unfold Lane.rearm
  split
  · exact .ite (.clr h) (.ite h (.event (.put (.set (.wr (.wr (.fc h)))))))
  · exact .clr h

theorem Lane.Keeps.fcCntClr (h : l.Keeps t) : l.Keeps t.fcCntClr := .setReg (.setReg h)

theorem Lane.Keeps.injectGo {supp : Bool} (h : l.Keeps t) : l.Keeps (t.injectGo supp) := .ite (.present h) h

theorem Lane.Keeps.busError (h : l.Keeps t) : l.Keeps t.busError := .of h rfl rfl rfl

theorem Lane.Keeps.eccError {m : EccMem} {corrected : Bool} {a : Nat} (h : l.Keeps t) : l.Keeps (t.eccError m corrected a) := by
  unfold Lane.eccError
  split
  · exact .ite (.raiseOnce h) (.raise h)
  · exact .ite (.raiseOnce h) (.busError (.raise h))
  · exact .ite (.event (.raiseOnce h)) (.busError (.event (.raise h)))

/-! #### Sys2Proof/Machine/LifeCycle.lean -/

theorem Lane.Keeps.lcEnd {r : Nat} (h : l.Keeps t) : l.Keeps (t.lcEnd r) := .clr (.wr h)

theorem Lane.Keeps.lcResult {r : Nat} (h : l.Keeps t) : l.Keeps (t.lcResult r) := .event (.lcEnd h)

theorem Lane.Keeps.lcRefuse {r : Nat} (h : l.Keeps t) : l.Keeps (t.lcRefuse r) := .raise (.lcResult h)

theorem Lane.Keeps.otpStart {w : OtpWrite} (h : l.Keeps t) : l.Keeps (t.otpStart w) := .set (.lc h)

theorem Lane.Keeps.returnRequest (h : l.Keeps t) : l.Keeps t.returnRequest := by
  unfold Lane.returnRequest
  split
  · exact .otpStart h
  · exact .raise (.lcResult h)

theorem Lane.Keeps.lcGo {target : Nat} (h : l.Keeps t) : l.Keeps (t.lcGo target) :=
  .ite h (.ite (.lcRefuse h) (.ite (.ite (.lcRefuse h) (.otpStart h)) (.ite (.returnRequest h) (.ite (.otpStart h) (.lcRefuse h)))))

theorem Lane.Keeps.lcAdv (h : l.Keeps t) : l.Keeps t.lcAdv := .ite h (.ite (.ite (.otpStart h) (.lcRefuse h)) (.lcRefuse h))

theorem Lane.Keeps.lcTerm (h : l.Keeps t) : l.Keeps t.lcTerm := .ite h (.otpStart h)

theorem Lane.Keeps.keyProg {k : Nat} {img rtn : Bool} {hash : List Byte} (h : l.Keeps t) : l.Keeps (t.keyProg k img rtn hash) :=
  .ite (.otpStart h) h

theorem Lane.Keeps.keyRev {k : Nat} (h : l.Keeps t) : l.Keeps (t.keyRev k) := .ite (.otpStart h) h

theorem Lane.Keeps.otpApply {x : OtpWrite} (h : l.Keeps t) : l.Keeps (t.otpApply x) := by
  unfold Lane.otpApply
  split
  · exact .enterBoot (.otpBurn (.abdicateNow (.lcResult h)))
  · exact .lcEnd (.otpBurn h)

theorem Lane.Keeps.otpFail {x : OtpWrite} (h : l.Keeps t) : l.Keeps (t.otpFail x) := by
  unfold Lane.otpFail
  split
  · exact .lcRefuse h
  · exact .raise (.lcEnd h)

theorem Lane.Keeps.otpEnd {ok : Bool} (h : l.Keeps t) : l.Keeps (t.otpEnd ok) := by
  unfold Lane.otpEnd
  split
  · exact h
  · exact .ite (.otpApply (.lc h)) (.otpFail (.lc h))

theorem Lane.Keeps.ftmOn (h : l.Keeps t) : l.Keeps t.ftmOn := .ite (.set h) h

theorem Lane.Keeps.sweepBoot (h : l.Keeps t) : l.Keeps t.sweepBoot := .enterBoot (.st h)

theorem Lane.Keeps.jtagSweep (h : l.Keeps t) : l.Keeps t.jtagSweep := .ite (.st (.enterBoot (.abdicateNow h))) h

theorem Lane.Keeps.stSweep (h : l.Keeps t) : l.Keeps t.stSweep := .ite (.sweepBoot h) h

/-! #### Sys2Proof/Machine/Modulator.lean -/

theorem Lane.Keeps.lateWrite {x : Ax} (h : l.Keeps t) : l.Keeps (t.lateWrite x) := by
  unfold Lane.lateWrite
  split
  · exact .ite (.eventAx (.set h)) h
  · exact h

theorem Lane.Keeps.markDirty {x : Ax} (h : l.Keeps t) : l.Keeps (t.markDirty x) := .setMd h

theorem Lane.Keeps.stageWrite {x : Ax} {r : StageReg} {v : Nat} (h : l.Keeps t) : l.Keeps (t.stageWrite x r v) := by
  unfold Lane.stageWrite
  split
  · exact .ite (.bump h) (.ite h (.lateWrite (.markDirty (.wr h))))
  · exact .ite (.lateWrite (.markDirty (.wr h))) (.bump h)
  · exact .ite (.lateWrite (.markDirty (.wr h))) (.bump h)

theorem Lane.Keeps.stageFlags {x : Ax} (h : l.Keeps t) : l.Keeps (t.stageFlags x) := by
  unfold Lane.stageFlags
  split
  · exact .put (.set h)
  · exact .clr (.clr h)

theorem Lane.Keeps.fillCommitted {x : Ax} {g : Grp} (h : l.Keeps t) : l.Keeps (t.fillCommitted x g) := .stageFlags (.setMd h)

theorem Lane.Keeps.modCommit {x : Ax} (h : l.Keeps t) : l.Keeps (t.modCommit x) := by
  unfold Lane.modCommit
  extract_lets a _ b
  have ha : l.Keeps a := .lateWrite h
  have hb : l.Keeps b := .setMd ha
  exact .ite (.fillCommitted hb) (.ite (.ite (.fillCommitted hb) (.eventAx (.raiseOnce (.set hb)))) (.fillCommitted hb))

theorem Lane.Keeps.modDuties {x : Ax} {a b c : Nat} (h : l.Keeps t) : l.Keeps (t.modDuties x a b c) :=
  .ite (.modCommit (.wr (.wr (.wr h)))) h

theorem Lane.Keeps.modDiscard {x : Ax} (h : l.Keeps t) : l.Keeps (t.modDiscard x) :=
  .stageFlags (.each (.each (.wr (.setMd h)) (fun _ _ hk => .wr (.wr hk))) (fun _ _ => .wr))

theorem Lane.Keeps.modProfile {x : Ax} (h : l.Keeps t) : l.Keeps (t.modProfile x) :=
  .ite (.lateWrite (.markDirty (.wr h))) (.ite (.lateWrite (.fillCommitted (.wr h))) h)

theorem Lane.Keeps.modCntClr {x : Ax} (h : l.Keeps t) : l.Keeps (t.modCntClr x) := .setReg (.setReg (.wr h))

theorem Lane.Keeps.passMasks {x : Ax} {v k : Nat} (h : l.Keeps t) : l.Keeps (t.passMasks x v k) :=
  .ite (.eventAx (.raiseOnce (.set (.wr (.wr (.setMd h)))))) (.wr (.wr (.setMd h)))

theorem Lane.Keeps.splitPeriod {x : Ax} {peak : Bool} (h : l.Keeps t) : l.Keeps (t.splitPeriod x peak) := .setMd (.gateMark h)

theorem Lane.Keeps.stateDemand {x : Ax} {v : Nat} (h : l.Keeps t) : l.Keeps (t.stateDemand x v) := .setMd (.gateMark h)

theorem Lane.Keeps.transfer {x : Ax} {g : Grp} {peak : Bool} (h : l.Keeps t) : l.Keeps (t.transfer x g peak) := by
  unfold Lane.transfer
  extract_lets _ _ _ a b c d e f p u
  have ha : l.Keeps a := .setMd h
  have hb : l.Keeps b := .wr ha
  have hc : l.Keeps c := .each hb fun _ _ hk => .wr (.wr hk)
  have hd : l.Keeps d := .wr (.wr hc)
  have he : l.Keeps e := .bump hd
  have hf : l.Keeps f := .raiseOnce he
  have hp : l.Keeps p := .ite (.ite hf (.eventAx hf)) hd
  have hu : l.Keeps u := .stageFlags hp
  exact .ite hu (.passMasks hu)

theorem Lane.Keeps.unpaired {x : Ax} (h : l.Keeps t) : l.Keeps (t.unpaired x) := .ite (.eventAx (.raiseOnce (.bump (.setMd h)))) (.setMd h)

theorem Lane.Keeps.passStep {x : Ax} (h : l.Keeps t) : l.Keeps (t.passStep x) := by
  unfold Lane.passStep
  split
  · exact h
  · exact .ite (.setMd h) (.leSettle (.eventAx (.commChange (.setMd h) (fun _ hk => .when (.put (.put hk)) (fun _ => .commHall)))))

theorem Lane.Keeps.valleyStep {x : Ax} (h : l.Keeps t) : l.Keeps (t.valleyStep x) := .setMd (.passStep (.tripValley (.interlockEnd h)))

theorem Lane.Keeps.modReload {x : Ax} {peak : Bool} (h : l.Keeps t) : l.Keeps (t.modReload x peak) := by
  unfold Lane.modReload
  extract_lets a _ _ b c d e f
  have ha : l.Keeps a := .splitPeriod h
  have hb : l.Keeps b := .setAd ha
  have hc : l.Keeps c := .setMd hb
  have hd : l.Keeps d := .ite hc (.valleyStep hc)
  have he : l.Keeps e := .unpaired hd
  have hf : l.Keeps f := by
    dsimp only [f]
    split
    · exact .ite he (.transfer he)
    · exact he
  exact .ite hf (.setMd hf)

theorem Lane.Keeps.carrierStart {x : Ax} (h : l.Keeps t) : l.Keeps (t.carrierStart x) :=
  .when (.setMd (.setAd (.wr (.gateMark h)))) fun _ => .stateDemand

theorem Lane.Keeps.hrcalNow {x : Ax} (h : l.Keeps t) : l.Keeps (t.hrcalNow x) := by
  unfold Lane.hrcalNow
  split
  · exact .wr h
  · exact .wr h

theorem Lane.Keeps.hrCal {x : Ax} {ok : Bool} {taps : Nat} (h : l.Keeps t) : l.Keeps (t.hrCal x ok taps) :=
  .ite (.clr (.setMd (.wr h))) (.eventAx (.raise (.hrcalNow (.set (.set (.wr h))))))

/-! #### Sys2Proof/Machine/Loop.lean -/

theorem Lane.Keeps.leOvf {x : Ax} {o : Bool} (h : l.Keeps t) : l.Keeps (t.leOvf x o) := .ite (.eventAx (.raiseOnce (.set h))) h

theorem Lane.Keeps.slAlignStart {x : Ax} (h : l.Keeps t) : l.Keeps (t.slAlignStart x) := .slSet (.setTq h)

theorem Lane.Keeps.lockLost {x : Ax} {ell : Q} {tried : Bool} (h : l.Keeps t) : l.Keeps (t.lockLost x ell tried) :=
  .axisSafe (.raise (.leOvf h))

theorem Lane.Keeps.catchOrAsc {x : Ax} {w vdc : Q} {again : Bool} (h : l.Keeps t) : l.Keeps (t.catchOrAsc x w vdc again) :=
  .ite (.leSettle (.slSet (.setTq (.leOvf h)))) (.lockLost h)

theorem Lane.Keeps.slBegin {x : Ax} {vdc : Q} {entering : Bool} (h : l.Keeps t) : l.Keeps (t.slBegin x vdc entering) :=
  .ite h (.ite (.slAlignStart h) (.ite (.ite (.slSet h) (.ite (.slAlignStart h) (.catchOrAsc h))) h))

theorem Lane.Keeps.rampStep {x : Ax} {dt : Q} (h : l.Keeps t) : l.Keeps (t.rampStep x dt) := .ite (.leOvf (.setTq h)) h

theorem Lane.Keeps.leRequest {x : Ax} (h : l.Keeps t) : l.Keeps (t.leRequest x).1 := by
  have hreq : ∀ s : LeSt, l.Keeps (t.setLe x s) := fun s => .setLe h
  unfold Lane.leRequest
  dsimp only
  split
  · exact h
  · split
    · exact .bump (hreq _)
    · exact .eventAx (.setLe (.wr (.openStop (hreq _))))
  · split
    · exact .slLeave (.eventAx (.openStart (.wr (.ite (.wrS (hreq _)) (.wrS (.wrS (hreq _)))))))
    · exact hreq _

theorem Lane.Keeps.leClamps {x : Ax} {r : LeRef} (h : l.Keeps t) : l.Keeps (t.leClamps x r) := by
  unfold Lane.leClamps
  extract_lets _ _ a b c d e f
  have ha : l.Keeps a := .when h fun _ => .bump
  have hb : l.Keeps b := .when ha fun _ => .bump
  have hc : l.Keeps c := .when hb fun _ => .bump
  have hd : l.Keeps d := .when hc fun _ => .bump
  have he : l.Keeps e := .when hd fun _ => .raiseOnce
  have hf : l.Keeps f := .when he fun _ => .eventAx
  exact .setLe hf

theorem Lane.Keeps.leObserve {x : Ax} (h : l.Keeps t) : l.Keeps (t.leObserve x) :=
  .wrS (.wrS (.wrS (.wrS (.wrS (.wrS (.wrS (.wrS (.wrS (.wrS h)))))))))

theorem Lane.Keeps.leRefStep {x : Ax} {p : Posn} (h : l.Keeps t) : l.Keeps (t.leRefStep x p) :=
  .leOvf (.leObserve (.leClamps (.wq (.when (.put (.put (.put (.put (.setLe h))))) (fun _ => .set)))))

theorem Lane.Keeps.leOutStep {x : Ax} {v : AdVals} {p : Posn} {entering : Bool} (h : l.Keeps t) :
    l.Keeps (t.leOutStep x v p entering).1 := by
  unfold Lane.leOutStep
  exact .leOvf (.put (.wq (.wq (.wq (.wq (.setLe h))))))

theorem Lane.Keeps.leRollback {x : Ax} {output : Bool} (h : l.Keeps t) : l.Keeps (t.leRollback x output) := by
  unfold Lane.leRollback
  extract_lets a _ _ b _ c d
  have ha : l.Keeps a := .when h fun _ => .set
  have hb : l.Keeps b := .bump ha
  have hc : l.Keeps c := .setLe hb
  have hd : l.Keeps d := .eventAx (.raise hc)
  exact .ite (.slFail (.eventAx (.wr (.openStop (.raise hd))))) hd

theorem Lane.Keeps.noteSensor {x : Ax} {p : Posn} (h : l.Keeps t) : l.Keeps (t.noteSensor x p) := .ite (.setTq h) h

theorem Lane.Keeps.leSnap {x : Ax} (h : l.Keeps t) : l.Keeps (t.leSnap x) := .setLe h

theorem Lane.Keeps.leRestore {x : Ax} (h : l.Keeps t) : l.Keeps (t.leRestore x) := by
  unfold Lane.leRestore
  dsimp only
  split
  · exact h
  · exact .leSettle (.each (.setLe h) (fun _ _ => .wr))

theorem Lane.Keeps.leLatch {x : Ax} {cmp : Compare} (h : l.Keeps t) : l.Keeps (t.leLatch x cmp) :=
  .ite h (.leSnap (.when h (fun _ hk => .leRollback (.leRestore hk))))

theorem Lane.Keeps.lePeriod {x : Ax} {c : AdcCodes} {cmp : Compare} (h : l.Keeps t) : l.Keeps (t.lePeriod x c cmp) := by
  unfold Lane.lePeriod
  split
  · exact h
  · extract_lets _ a _ b
    have hb : l.Keeps b := .leLatch (.noteSensor (.adSample (.srcSelect h)))
    split
    · exact hb
    · have hr : l.Keeps (b.leRequest x).1 := .leRequest hb
      dsimp only
      split
      · exact .rampStep (.leRollback hb)
      · exact .rampStep (.leRollback (.modDuties hb))
      · exact .rampStep (.leRollback (.modDuties hb))
      · exact .rampStep (.leRefStep (.modDuties (.leOutStep (.slBegin hr))))

theorem Lane.Keeps.leTick {x : Ax} {cmp : Compare} (h : l.Keeps t) : l.Keeps (t.leTick x cmp) := by
  unfold Lane.leTick
  extract_lets a _ b
  have hb : l.Keeps b := .leLatch (.noteSensor (.srcSelect h))
  split
  · exact hb
  · have hr : l.Keeps (b.leRequest x).1 := .leRequest hb
    dsimp only
    exact .ite (.setTq (.leRefStep (.slBegin hr))) (.leRollback hb)

theorem Lane.Keeps.reload {x : Ax} {peak : Bool} {cmp : Compare} (h : l.Keeps t) : l.Keeps (t.reload x peak cmp) :=
  .ite (.ite (.leTick (.modReload h)) (.modReload h)) h

theorem Lane.Keeps.leOpenReq {x : Ax} (h : l.Keeps t) : l.Keeps (t.leOpenReq x) := .ite (.setLe h) h

theorem Lane.Keeps.leCloseReq {x : Ax} (h : l.Keeps t) : l.Keeps (t.leCloseReq x) :=
  .ite h (.ite (.bump h) (.setLe (.when (.openStop h) (fun _ => .set))))

theorem Lane.Keeps.leIntClr {x : Ax} (h : l.Keeps t) : l.Keeps (t.leIntClr x) := .ite (.setLe h) (.owReject h)

theorem Lane.Keeps.leCntClr {x : Ax} (h : l.Keeps t) : l.Keeps (t.leCntClr x) := .setReg (.wr (.setReg h))

theorem Lane.Keeps.leOpenMax {x : Ax} (h : l.Keeps t) : l.Keeps (t.leOpenMax x) := by
  unfold Lane.leOpenMax
  split
  · exact .ite (.axisSafe (.eventAx (.raise (.wr (.openStop h))))) h
  · exact h

theorem Lane.Keeps.leRefuse {x : Ax} {f : Fld} (h : l.Keeps t) : l.Keeps (t.leRefuse x f) := .eventAx (.bump h)

theorem Lane.Keeps.leOwWrite {x : Ax} {a n : Nat} {v : Word} (h : l.Keeps t) : l.Keeps (t.leOwWrite x a n v) := by
  unfold Lane.leOwWrite
  split
  · exact .ite (.setBytes h) (.owReject h)
  · split
    · exact .ite h (.ite (.leRefuse h) (.ite (.ite h (.leRefuse h)) (.ite (.owReject h) (.ite (.setReg h) (.leRefuse h)))))
    · exact h

theorem Lane.Keeps.fwdReject {a : Nat} (h : l.Keeps t) : l.Keeps (t.fwdReject a) := .raiseOnce (.set h)

theorem Lane.Keeps.leLvWrite {x : Ax} {r : LvReg} {n : Nat} {v : Word} (h : l.Keeps t) : l.Keeps (t.leLvWrite x r n v) :=
  .ite (.fwdReject h) (.ite (.leRefuse h) (.setReg h))

/-! #### Sys2Proof/Machine/Loader.lean -/

theorem Lane.Keeps.copySlot {src : LoadSrc} {n : Nat} (h : l.Keeps t) : l.Keeps (t.copySlot src n) := .ite (.setBytes h) h

theorem Lane.Keeps.copyFirmware {src : LoadSrc} {rs : List Rec} (h : l.Keeps t) : l.Keeps (t.copyFirmware src rs) := by
  unfold Lane.copyFirmware
  split
  · exact .ite (.setBytes h) h
  · exact h

theorem Lane.Keeps.trySlot {src : LoadSrc} {n : Nat} (h : l.Keeps t) : l.Keeps (t.trySlot src n).1 := by
  have hcopy : l.Keeps (t.copySlot src n) := .copySlot h
  unfold Lane.trySlot
  dsimp only
  split
  · exact hcopy
  · split
    · exact hcopy
    · split
      · exact hcopy
      · exact .copyFirmware hcopy

theorem Lane.Keeps.imgReport {n : Nat} {r : Option Rej} (h : l.Keeps t) : l.Keeps (t.imgReport n r) := .setReg (.setReg h)

theorem Lane.Keeps.imgClear (h : l.Keeps t) : l.Keeps t.imgClear := .each h fun _ _ hk => .setReg (.setReg hk)

theorem Lane.Keeps.loadPosAdj {x : Ax} (h : l.Keeps t) : l.Keeps (t.loadPosAdj x) := .posAdj (.setReg h)

theorem Lane.Keeps.loadSettle (h : l.Keeps t) : l.Keeps t.loadSettle :=
  .tripsStanding (.hqEnd (.each h (fun _ _ hk => .hallsStanding (.loadPosAdj hk))))

theorem Lane.Keeps.loadRegs {rs : List Rec} (h : l.Keeps t) : l.Keeps (t.loadRegs rs) := by
  unfold Lane.loadRegs
  extract_lets a _ b c d e f g
  have hb : l.Keeps b := .each h fun _ _ => .setReg
  have hc : l.Keeps c := .each hb fun _ _ => .setByte
  have hd : l.Keeps d := .each hc fun _ _ => .put
  have he : l.Keeps e := .each hd fun _ _ => .put
  have hf : l.Keeps f := .each he fun _ _ => .timerArm
  have hg : l.Keeps g := .when hf fun _ => .pw
  exact .loadSettle hg

theorem Lane.Keeps.loadImage {n : Nat} {fallback : Bool} {rs : List Rec} {us : Nat} (h : l.Keeps t) :
    l.Keeps (t.loadImage n fallback rs us) := by
  unfold Lane.loadImage
  extract_lets _ _ a b c d e
  have ha : l.Keeps a := .partnersInit (.loadRegs h)
  have hb : l.Keeps b := .set (.wr (.put (.wr ha)))
  have hc : l.Keeps c := .wr (.wr hb)
  have hd : l.Keeps d := .each hc fun _ _ => .wr
  have he : l.Keeps e := .setBytes hd
  clear_value a b c d e
  exact he.of rfl rfl rfl

theorem Lane.Keeps.bootStay (h : l.Keeps t) : l.Keeps t.bootStay := .im h

/-- The slots tried in turn, one step of it. The functions it calls are made variables first: the equation holds whatever they
are, and Lean does not unfold them to see it. -/
theorem Lane.trySlots_cons (t : Lane) (src : LoadSrc) (n : Nat) (r : List Nat) (fallback : Bool) (cost : Nat) :
    t.trySlots src (n :: r) fallback cost =
      (let k := (t.trySlot src n).1.imgReport n (t.trySlot src n).2.rej
       match (t.trySlot src n).2.rej with
       | some _ => k.trySlots src r true (cost + (t.trySlot src n).2.cost)
       | none => (if src.qspi then { k with fresh := k.fresh + 1 } else k).loadImage n fallback (t.trySlot src n).2.recs
           (k.loadTime src (cost + (t.trySlot src n).2.cost) (wordsWritten (t.trySlot src n).2.recs))) := by
  delta Lane.trySlots Lane.trySlots._f
  generalize Lane.trySlot = attempt, Lane.imgReport = report, Lane.loadTime = time, Lane.loadImage = load, Lane.bootStay = stay
  rfl

theorem Lane.Keeps.trySlots {src : LoadSrc} {ns : List Nat} {fallback : Bool} {cost : Nat} (h : l.Keeps t) :
    l.Keeps (t.trySlots src ns fallback cost) := by
  induction ns generalizing t fallback cost with
  | nil => exact .bootStay h
  | cons n r ih =>
    have htry : l.Keeps ((t.trySlot src n).1.imgReport n (t.trySlot src n).2.rej) := .imgReport (.trySlot h)
    rw [Lane.trySlots_cons]
    dsimp only
    split
    · exact ih htry
    · exact .loadImage (.ite (.fresh htry) htry)

theorem Lane.Keeps.imageLoad {flash : List (Nat × List Byte)} (h : l.Keeps t) : l.Keeps (t.imageLoad flash) :=
  .ite h (.trySlots (.each (.imgClear h) (fun _ _ => .imgReport)))

/-! #### Sys2Proof/Machine/StartUp.lean -/

theorem Lane.Keeps.armBoundary (h : l.Keeps t) : l.Keeps t.armBoundary :=
  .ite (.put (.ite (.armProofs h) (.proofPass (.armProofs h) (fun _ hk => .event (.put hk))))) h

theorem Lane.Keeps.armTimeout (h : l.Keeps t) : l.Keeps t.armTimeout :=
  .ite (.ite (.armProofs h) (.ite (.armProofs h) (.raise (.sy (.armProofs h))))) h

theorem Lane.Keeps.resetRelease {straps : Nat} (h : l.Keeps t) : l.Keeps (t.resetRelease straps) := .ite (.set (.enterBootAt h)) h

theorem Lane.Keeps.bootLock (h : l.Keeps t) : l.Keeps t.bootLock :=
  .ite (.pmBoot (.im (.pw (.calGo (.wr (.set h)))))) (.bootNext (.pw (.calGo (.wr (.set h)))))

theorem Lane.Keeps.pllLock (h : l.Keeps t) : l.Keeps t.pllLock := .ite (.bootLock h) (.ite (.wakeLock h) h)

theorem Lane.Keeps.sweepEnd {fails : Nat} (h : l.Keeps t) : l.Keeps (t.sweepEnd fails) := .ite (.bootLoad (.sweepResults h)) h

theorem Lane.Keeps.dieClear {x : Ax} (h : l.Keeps t) : l.Keeps (t.dieClear x) :=
  .gateSettle (.setGd (.wr (.clr (.wr (.clr (.wr (.clr h)))))))

theorem Lane.Keeps.regCheck (h : l.Keeps t) : l.Keeps t.regCheck := .ite (.pmRequest h) h

theorem Lane.Keeps.gdCheckStart (h : l.Keeps t) : l.Keeps t.gdCheckStart := .im h

theorem Lane.Keeps.lockImage (h : l.Keeps t) : l.Keeps t.lockImage := .ite (.dieLoad (.set (.im h))) (.wr (.dieLoad (.set (.im h))))

theorem Lane.Keeps.armStart (h : l.Keeps t) : l.Keeps t.armStart :=
  .tokArming (.watchStart (.lantStart (.glArming (.each (.each (.setMode (.of h rfl rfl rfl)) (fun _ _ => .dieClear)) (fun _ _ => .carrierStart)))))

theorem Lane.Keeps.proofStart (h : l.Keeps t) : l.Keeps t.proofStart :=
  .armProofs (.injQueue (.each (.gdCheckStart (.regCheck h)) (fun _ _ => .safLevels)))

theorem Lane.Keeps.imageLock (h : l.Keeps t) : l.Keeps t.imageLock :=
  .ite (.hashSend (.newCycle (.postureStep (.modeFollow (.proofStart (.armStart (.lockImage (.glBoundary h)))))))) h

theorem Lane.Keeps.gdCheckEnd {x : Ax} {comp : Nat} {gate : Bool} (h : l.Keeps t) : l.Keeps (t.gdCheckEnd x comp gate) :=
  .ite (.ite (.provenBy (.im h)) (.event (.raise (.set (.wr (.im h)))))) h

theorem Lane.Keeps.vbatLow (h : l.Keeps t) : l.Keeps t.vbatLow := .ite (.sy h) h

/-! #### Sys2Proof/Machine/Table.lean -/

theorem Lane.Keeps.tqCount {x : Ax} {legs : Nat} (h : l.Keeps t) : l.Keeps (t.tqCount x legs) := .ite (.setTq h) (.setTq (.wr h))

theorem Lane.Keeps.tqSwitch {x : Ax} {o : TqOut} {first : Bool} (h : l.Keeps t) : l.Keeps (t.tqSwitch x o first) := by
  unfold Lane.tqSwitch
  extract_lets _ _ _ _ _ _ a b c _ _ _ _ _ _ _ d _ e f
  have ha : l.Keeps a := .leOvf h
  have hb : l.Keeps b := .wr (.wr ha)
  have hc : l.Keeps c := .setTq (.wr hb)
  have hd : l.Keeps d := .when (.put hc) fun _ => .raiseOnce
  have he : l.Keeps e := .leOvf (.setTq hd)
  have hf : l.Keeps f := .when he fun _ => .stateDemand
  exact .ite (.stateDemand (.tqCount (.setTq (.wr (.clr hc))))) (.tqCount (.wr hf))

theorem Lane.Keeps.tqLock {x : Ax} {clean : Bool} {vdc : Q} (h : l.Keeps t) : l.Keeps (t.tqLock x clean vdc) :=
  .ite (.set (.setTq h)) (.ite (.ite (.catchOrAsc (.eventAx (.bump (.clr (.setTq h))))) (.clr (.setTq h))) (.setTq h))

theorem Lane.Keeps.tqHandover {x : Ax} (h : l.Keeps t) : l.Keeps (t.tqHandover x) := by
  unfold Lane.tqHandover
  dsimp only
  split
  · exact .ite (.slSet (.setTq (.leOvf (.setLe (.when h (fun _ => .set)))))) h
  · exact h

theorem Lane.Keeps.tqPosition {x : Ax} {before : Int} (h : l.Keeps t) : l.Keeps (t.tqPosition x before) := .posSettle (.setFb h)

theorem Lane.Keeps.tqRollback {x : Ax} (h : l.Keeps t) : l.Keeps (t.tqRollback x) :=
  .when (.eventAx (.raise (.setTq (.bump (.set h))))) fun _ => .raise

theorem Lane.Keeps.tqDecision {x : Ax} {c : AdcCodes} {ext : Nat} {mm : Bool} (h : l.Keeps t) : l.Keeps (t.tqDecision x c ext mm) := by
  unfold Lane.tqDecision
  split
  · extract_lets _ _ a _ _ _ _ _ _ b c d e
    have ha : l.Keeps a := .adTake (.when h (fun _ => .gateMark))
    have hb : l.Keeps b := .setTq ha
    have hc : l.Keeps c := .when hb fun _ hk => .rampStep (.setAd hk)
    have hd : l.Keeps d := .ite (.tqSwitch hc) (.wr hc)
    have he : l.Keeps e := .tqLock (.tqPosition (.leOvf hd))
    exact .ite (.tqRollback ha) (.slBegin (.tqHandover he))
  · exact .setTq h

theorem Lane.Keeps.tqObserve {x : Ax} (h : l.Keeps t) : l.Keeps (t.tqObserve x) :=
  .wrS (.wrS (.wrS (.wrS (.wrS (.wrS (.wrS (.when h (fun _ hk => .wrS (.wrS (.wrS (.wrS hk)))))))))))

theorem Lane.Keeps.alignExpiry {x : Ax} (h : l.Keeps t) : l.Keeps (t.alignExpiry x) := .ite (.slSet (.setTq h)) h

theorem Lane.Keeps.holdExpiry {x : Ax} (h : l.Keeps t) : l.Keeps (t.holdExpiry x) := by
  unfold Lane.holdExpiry
  dsimp only
  split
  · exact .ite (.axisSafe (.raise (.setTq h))) h
  · exact h

theorem Lane.Keeps.lowExpiry {x : Ax} (h : l.Keeps t) : l.Keeps (t.lowExpiry x) := by
  unfold Lane.lowExpiry
  dsimp only
  split
  · exact .ite (.slAlignStart h) h
  · exact h

theorem Lane.Keeps.catchTimeout {x : Ax} (h : l.Keeps t) : l.Keeps (t.catchTimeout x) := .ite (.lockLost h) h

theorem Lane.Keeps.catchDone {x : Ax} {phi w al be : Q} {elapsed : Nat} (h : l.Keeps t) : l.Keeps (t.catchDone x phi w al be elapsed) :=
  .gateSettle (.slSet (.eventAx (.raise (.leOvf (.when (.bump (.set (.set (.setTq h)))) (fun _ => .set))))))

theorem Lane.Keeps.catchPulse {x : Ax} {c : AdcCodes} (h : l.Keeps t) : l.Keeps (t.catchPulse x c) :=
  .ite (.ite (.lockLost (.leOvf (.adTake h))) (.ite (.catchDone (.leOvf (.setTq (.leOvf (.adTake h))))) (.leOvf (.setTq (.leOvf (.adTake h)))))) h

theorem Lane.Keeps.tqOwWrite {x : Ax} {a n : Nat} {v : Word} (h : l.Keeps t) : l.Keeps (t.tqOwWrite x a n v) := by
  unfold Lane.tqOwWrite
  split
  · exact .ite h (.ite (.bump h) (.ite (.ite h (.bump h)) (.ite (.raiseOnce (.bump h)) (.ite (.setReg h) (.bump h)))))
  · exact h

theorem Lane.Keeps.tqCntClr {x : Ax} (h : l.Keeps t) : l.Keeps (t.tqCntClr x) := .wr (.wr (.setReg h))

/-! #### Sys2Proof/Machine/Boundary.lean -/

theorem Lane.Keeps.degCount (h : l.Keeps t) : l.Keeps t.degCount := .sy (.wr h)

theorem Lane.Keeps.setRise {x : Ax} {v : Int} (h : l.Keeps t) : l.Keeps (t.setRise x v) := by
  unfold Lane.setRise
  split
  · exact .sy h
  · exact .sy h

theorem Lane.Keeps.riseStep {x : Ax} (h : l.Keeps t) : l.Keeps (t.riseStep x) := .setRise h

theorem Lane.Keeps.thermal (h : l.Keeps t) : l.Keeps t.thermal := .wr (.sy (.each h (fun _ _ => .riseStep)))

theorem Lane.Keeps.degExpiry (h : l.Keeps t) : l.Keeps t.degExpiry := .ite h (.ite (.raise (.sy h)) (.ite (.raise (.sy h)) h))

theorem Lane.Keeps.dieHold (h : l.Keeps t) : l.Keeps t.dieHold := by
  unfold Lane.dieHold
  split
  · exact .ite (.sy h) h
  · exact h

theorem Lane.Keeps.cmdAge {fresh : Bool} (h : l.Keeps t) : l.Keeps (t.cmdAge fresh) := .ite (.sy h) h

theorem Lane.Keeps.partDecide (h : l.Keeps t) : l.Keeps t.partDecide := by
  unfold Lane.partDecide
  split
  · exact .ite h (.ite (.sy h) (.ite (.modeFollow (.safeHold (.raise (.sy h)))) (.sy h)))
  · exact h

theorem Lane.Keeps.quorumLost (h : l.Keeps t) : l.Keeps t.quorumLost := .ite (.raise (.sy h)) h

theorem Lane.Keeps.restartStep (h : l.Keeps t) : l.Keeps t.restartStep := .ite (.of h rfl rfl rfl) (.restart h)

theorem Lane.Keeps.modeTake (h : l.Keeps t) : l.Keeps t.modeTake :=
  .ite (.ite (.setMode h) h) (.ite (.ite (.setMode h) h) (.ite (.ite (.setMode h) h) h))

theorem Lane.Keeps.modeStep (h : l.Keeps t) : l.Keeps t.modeStep :=
  .ite (.safeHold h) (.ite (.restartStep h) (.ite (.sy h) (.ite (.enterService (.sy h)) (.modeTake (.sy (.sy h))))))

theorem Lane.Keeps.profStep (h : l.Keeps t) : l.Keeps t.profStep := by
  unfold Lane.profStep
  split
  · exact .ite (.ite (.sy h) (.each (.sy (.event (.wr (.sy h)))) (fun _ _ hk => .when hk (fun _ => .modProfile)))) h
  · exact h

theorem Lane.Keeps.profCommit (h : l.Keeps t) : l.Keeps t.profCommit := by
  unfold Lane.profCommit
  split
  · exact .ite (.pmRequest (.sy (.setDiv (.sy h)))) (.setDiv (.sy h))
  · exact h

theorem Lane.Keeps.boundaryHead {d0 d1 : Nat} (h : l.Keeps t) : l.Keeps (t.boundaryHead d0 d1) :=
  .quorumLost (.armBoundary (.thermal (.degCount (.glBoundary (.sy h)))))

theorem Lane.Keeps.boundaryTail {fresh : Bool} (h : l.Keeps t) : l.Keeps (t.boundaryTail fresh) := by
  unfold Lane.boundaryTail
  extract_lets a b _ c
  have ha : l.Keeps a := .when (.voteStep (.profStep (.postureStep (.modeFollow h)))) fun _ => .hashSend
  have hb : l.Keeps b := .each (.stTick (.tokBoundary ha)) fun _ _ hk => .ite (.tqObserve hk) hk
  have hc : l.Keeps c := .sy hb
  exact .domPermission hc

theorem Lane.Keeps.boundary {d0 d1 : Nat} {fresh : Bool} (h : l.Keeps t) : l.Keeps (t.boundary d0 d1 fresh) :=
  .ite (.newCycle (.postureStep (.modeStep (.boundaryHead h)))) (.newCycle (.boundaryTail (.wr (.sy (.modeStep (.boundaryHead h))))))

theorem Lane.Keeps.autoRestart (h : l.Keeps t) : l.Keeps t.autoRestart := .ite (.restart h) h

/-! #### Sys2Proof/Machine/Can.lean -/

theorem Lane.Keeps.cnState {tec rec : Nat} (h : l.Keeps t) : l.Keeps (t.cnState tec rec) := by
  unfold Lane.cnState
  extract_lets _ _ _ a b _ c d
  have ha : l.Keeps a := .put (.wr (.wr h))
  have hb : l.Keeps b := .put (.put ha)
  have hc : l.Keeps c := .when hb fun _ => .raise
  have hd : l.Keeps d := .when hc fun _ hk => .raise (.cn hk)
  exact .ite hd (.event hd)

theorem Lane.Keeps.cnUnpend {n : Nat} (h : l.Keeps t) : l.Keeps (t.cnUnpend n) := .wr h

theorem Lane.Keeps.cnReq {m : Nat} (h : l.Keeps t) : l.Keeps (t.cnReq m) := .wr (.wr h)

theorem Lane.Keeps.cnSent {ok : Bool} (h : l.Keeps t) : l.Keeps (t.cnSent ok) := by
  unfold Lane.cnSent
  split
  · exact h
  · exact .ite h (.ite (.cnState (.event (.send (.bump (.wr (.cnUnpend h)))))) (.ite (.cnUnpend h) h))

theorem Lane.Keeps.cnHeard (h : l.Keeps t) : l.Keeps t.cnHeard := .cnState (.fresh h)

theorem Lane.Keeps.cnReceive {f : CanFrame} (h : l.Keeps t) : l.Keeps (t.cnReceive f) := by
  unfold Lane.cnReceive
  split
  · exact h
  · extract_lets a
    have ha : l.Keeps a := .when h fun _ => .cnHeard
    split
    · exact .bump ha
    · exact .ite (.hamperPush ha) (.hamperPush ha)

theorem Lane.Keeps.cnError {lec : Nat} {tx heavy : Bool} (h : l.Keeps t) : l.Keeps (t.cnError lec tx heavy) := by
  unfold Lane.cnError
  split
  · exact h
  · extract_lets a b c
    have ha : l.Keeps a := .bump (.wr h)
    have hb : l.Keeps b := .event (.raiseOnce ha)
    have hc : l.Keeps c := by
      dsimp only [c]
      split
      · exact .ite (.cnUnpend hb) hb
      · exact hb
    exact .ite hc (.ite (.ite hc (.cnState hc)) (.cnState hc))

theorem Lane.Keeps.cnRecover (h : l.Keeps t) : l.Keeps t.cnRecover := .ite (.cn h) h

theorem Lane.Keeps.cnRecovered (h : l.Keeps t) : l.Keeps t.cnRecovered := .ite (.cnState (.cn h)) h

/-! #### Sys2Proof/Machine/Dump.lean -/

theorem Lane.Keeps.dcxJoin (h : l.Keeps t) : l.Keeps t.dcxJoin := .ite (.event (.raise (.clr (.clr h)))) h

theorem Lane.Keeps.dcxStart (h : l.Keeps t) : l.Keeps t.dcxStart := .ite (.set (.of (.dcxJoin h) rfl rfl rfl)) h

theorem Lane.Keeps.dcxHand {why : Nat} (h : l.Keeps t) : l.Keeps (t.dcxHand why) := .dumpHand (.pc h)

theorem Lane.Keeps.dcxTimeout (h : l.Keeps t) : l.Keeps t.dcxTimeout := .ite (.dcxHand h) h

theorem Lane.Keeps.dumpResult {result why path : Nat} {late : Bool} (h : l.Keeps t) : l.Keeps (t.dumpResult result why path late) :=
  .put (.wr (.wr (.wr (.set h))))

theorem Lane.Keeps.dumpDone (h : l.Keeps t) : l.Keeps t.dumpDone := .ite (.dumpOver (.dumpResult (.when (.clr (.pc h)) (fun _ => .set)))) h

theorem Lane.Keeps.dumpCtl {p : Port} {form cause v : Nat} (h : l.Keeps t) : l.Keeps (t.dumpCtl p form cause v) := .glTo h

theorem Lane.Keeps.dumpEnd {result : Nat} (h : l.Keeps t) : l.Keeps (t.dumpEnd result) := .dumpOver (.dumpResult (.fc h))

theorem Lane.Keeps.dumpOffer (h : l.Keeps t) : l.Keeps t.dumpOffer := by
  unfold Lane.dumpOffer
  split
  · exact .dumpCtl (.fc h)
  · exact .dumpEnd h

theorem Lane.Keeps.dumpStart (h : l.Keeps t) : l.Keeps t.dumpStart := .ite (.dumpOffer (.fc h)) h

theorem Lane.Keeps.dumpLate (h : l.Keeps t) : l.Keeps t.dumpLate := .ite (.fc h) h

theorem Lane.Keeps.dumpTimeout (h : l.Keeps t) : l.Keeps t.dumpTimeout := by
  unfold Lane.dumpTimeout
  split
  · split
    · exact .dumpOffer h
    · exact .dumpEnd h
    · exact h
  · exact h

theorem Lane.Keeps.recordTouch {k : Nat} (h : l.Keeps t) : l.Keeps (t.recordTouch k) := .ite h (.ite (.accessed h) (.ite (.accessed h) h))

theorem Lane.Keeps.dumpSend (h : l.Keeps t) : l.Keeps t.dumpSend := by
  unfold Lane.dumpSend
  split
  · exact .ite h (.ite (.dumpEnd h) (.ite (.fc (.glTo (.recordTouch h))) (.fc (.glTo h))))
  · exact h

theorem Lane.Keeps.dumpIn {f : Lane → Port → Lane} {m : GlMsg} {form : Nat} (h : l.Keeps t) (hf : ∀ k y0, l.Keeps k → l.Keeps (f k y0)) :
    l.Keeps (t.dumpIn m form f) :=
  .glIn h fun _ _ hk => .ite (hf _ _ hk) hk

theorem Lane.Keeps.dumpAccept {m : GlMsg} (h : l.Keeps t) : l.Keeps (t.dumpAccept m) :=
  .dumpIn h (fun _ _ hk => .ite (.fc (.dumpLate hk)) hk)

theorem Lane.Keeps.dumpRefuse {m : GlMsg} (h : l.Keeps t) : l.Keeps (t.dumpRefuse m) :=
  .dumpIn h (fun _ _ hk => .ite (.dumpOffer (.dumpLate hk)) hk)

theorem Lane.Keeps.dumpDoneIn {m : GlMsg} (h : l.Keeps t) : l.Keeps (t.dumpDoneIn m) :=
  .dumpIn h (fun _ _ hk => .ite (.dumpEnd (.dumpLate hk)) hk)

theorem Lane.Keeps.setRx {p : Port} {r : DumpRx} (h : l.Keeps t) : l.Keeps (t.setRx p r) :=
  .put (by
    split
    · exact .fc h
    · exact .fc h)

theorem Lane.Keeps.rxFail {p : Port} (h : l.Keeps t) : l.Keeps (t.rxFail p) := .event (.raise (.set (.setRx h)))

theorem Lane.Keeps.offerIn {m : GlMsg} (h : l.Keeps t) : l.Keeps (t.offerIn m) :=
  .dumpIn h (fun _ _ hk => .ite (.dumpCtl (.event (.set hk))) (.ite (.dumpCtl (.event hk)) (.ite (.dumpCtl (.event hk)) (.dumpCtl (.setRx hk)))))

theorem Lane.Keeps.rxLate {p : Port} (h : l.Keeps t) : l.Keeps (t.rxLate p) := .ite (.set h) h

theorem Lane.Keeps.dataIn {m : GlMsg} (h : l.Keeps t) : l.Keeps (t.dataIn m) :=
  .glIn h (fun _ _ hk => .ite (.setRx (.setBytes (.accessed (.rxLate hk)))) hk)

theorem Lane.Keeps.endIn {m : GlMsg} (h : l.Keeps t) : l.Keeps (t.endIn m) :=
  .dumpIn h (fun _ _ hk => .ite (.ite (.setRx (.accessed (.rxLate hk))) (.dumpCtl (.rxFail (.accessed (.rxLate hk))))) hk)

theorem Lane.Keeps.rxStored {p : Port} (h : l.Keeps t) : l.Keeps (t.rxStored p) :=
  .ite (.dumpCtl (.event (.raise (.wr (.set (.setRx h)))))) h

theorem Lane.Keeps.rxTimeout {p : Port} (h : l.Keeps t) : l.Keeps (t.rxTimeout p) := .ite (.rxFail h) h

theorem Lane.Keeps.nbFree {p : Port} (h : l.Keeps t) : l.Keeps (t.nbFree p) := .clr h

/-! #### Sys2Proof/Machine/Flow.lean -/

theorem Lane.Keeps.domainsFollow (h : l.Keeps t) : l.Keeps t.domainsFollow := .domScheduler (.stepDomains h)

/-! #### Sys2Proof/Machine/Supply.lean -/

theorem Lane.Keeps.setPulse {s : Nat} {p : Option Pulse} (h : l.Keeps t) : l.Keeps (t.setPulse s p) := .ite (.sf h) (.sf h)

theorem Lane.Keeps.groupsFault {gs : List Nat} (h : l.Keeps t) : l.Keeps (t.groupsFault gs) :=
  .each h fun _ _ hk => .passThrough (.groupFault hk)

theorem Lane.Keeps.supplyOc {s ma : Nat} (h : l.Keeps t) : l.Keeps (t.supplyOc s ma) := .event (.raise (.groupsFault (.clr (.set (.wr h)))))

theorem Lane.Keeps.supplyUv {s mv : Nat} (h : l.Keeps t) : l.Keeps (t.supplyUv s mv) := by
  unfold Lane.supplyUv
  split
  · exact h
  · exact .event (.raise (.groupsFault (.clr (.set (.wr h)))))

theorem Lane.Keeps.supplyClr {s : Nat} (h : l.Keeps t) : l.Keeps (t.supplyClr s) := .ite (.set (.clr (.clr h))) (.clr (.clr h))

theorem Lane.Keeps.maskOn {g : Nat} (h : l.Keeps t) : l.Keeps (t.maskOn g) := .set (.ite (.setFb h) (.setFb h))

theorem Lane.Keeps.maskOff {g : Nat} (h : l.Keeps t) : l.Keeps (t.maskOff g) :=
  .passThrough (.put (by
    split
    · exact .setFb h
    · split
      · exact h
      · exact .hallTake (.setFb h)))

theorem Lane.Keeps.pulseStart {k : Nat} (h : l.Keeps t) : l.Keeps (t.pulseStart k) :=
  .ite h (.ite (.ite (.each (.setPulse h) (fun _ _ => .maskOn)) h) (.ite (.sf h) h))

theorem Lane.Keeps.pulseFail {s : Nat} (h : l.Keeps t) : l.Keeps (t.pulseFail s) := .event (.raise (.groupsFault (.set h)))

theorem Lane.Keeps.pulseCheck {s : Nat} {recovery : Bool} {mv : Nat} (h : l.Keeps t) : l.Keeps (t.pulseCheck s recovery mv) := by
  unfold Lane.pulseCheck
  split
  · exact h
  · exact .ite (.ite (.ite (.ite (.set (.wr h)) (.wr h)) (.pulseFail (.wr h))) (.ite (.setPulse (.wr h)) (.pulseFail (.wr h)))) h

theorem Lane.Keeps.crossFail {k g : Nat} {mapped : Bool} (h : l.Keeps t) : l.Keeps (t.crossFail k g mapped) :=
  .event (.raise (.ite (.set (.groupsFault h)) (.wr (.wr (.put (.set (.set (.groupsFault h))))))))

theorem Lane.Keeps.crossCheck {k : Nat} (h : l.Keeps t) : l.Keeps (t.crossCheck k) := by
  unfold Lane.crossCheck
  dsimp only
  split
  · exact h
  · exact .ite (.each (.ite (.setPulse h) (.sf h)) (fun _ _ => .crossFail)) h

theorem Lane.Keeps.maskEnd {s : Nat} (h : l.Keeps t) : l.Keeps (t.maskEnd s) := by
  unfold Lane.maskEnd
  split
  · exact h
  · exact .ite (.each (.setPulse h) (fun _ _ => .maskOff)) h

/-! #### Sys2Proof/Machine/Registers.lean -/

theorem Lane.Keeps.leCtl {x : Ax} {v : Word} (h : l.Keeps t) : l.Keeps (t.leCtl x v) := by
  unfold Lane.leCtl
  extract_lets a b
  have ha : l.Keeps a := .when h fun _ => .leCntClr
  have hb : l.Keeps b := .when ha fun _ => .leIntClr
  exact .ite (.leOpenReq hb) (.when hb (fun _ => .leCloseReq))

theorem Lane.Keeps.leWrite {x : Ax} {o a n : Nat} {v : Word} (h : l.Keeps t) : l.Keeps (t.leWrite x o a n v) := by
  unfold Lane.leWrite
  split
  · exact .leLvWrite h
  · exact .ite (.leCtl h) (.ite (.fieldWrite h) (.leOwWrite h))

theorem Lane.Keeps.modCtl {x : Ax} {v : Word} (h : l.Keeps t) : l.Keeps (t.modCtl x v) := by
  unfold Lane.modCtl
  extract_lets a b
  have ha : l.Keeps a := .when h fun _ => .modCntClr
  have hb : l.Keeps b := .ite (.modDiscard ha) (.when ha (fun _ => .modCommit))
  exact .ite (.setMd hb) (.when hb (fun _ => .setMd))

theorem Lane.Keeps.modField {x : Ax} {a : Nat} {v : Word} (h : l.Keeps t) : l.Keeps (t.modField x a v) := by
  unfold Lane.modField
  split
  · exact .ite (.fieldWrite h) (.bump h)
  · exact h

theorem Lane.Keeps.modWrite {x : Ax} {o a : Nat} {v : Word} (h : l.Keeps t) : l.Keeps (t.modWrite x o a v) := by
  unfold Lane.modWrite
  split
  · exact .modCtl h
  · split
    · exact .stageWrite h
    · split
      · exact .tripClr h
      · split
        · exact .stageWrite h
        · exact .ite (.commChange h (fun _ => .modField)) (.modField h)

theorem Lane.Keeps.tqWrite {x : Ax} {o a n : Nat} {v : Word} (h : l.Keeps t) : l.Keeps (t.tqWrite x o a n v) :=
  .ite (.when h (fun _ => .tqCntClr)) (.ite (.fieldWrite h) (.tqOwWrite h))

theorem Lane.Keeps.gdCtl {x : Ax} {v : Word} (h : l.Keeps t) : l.Keeps (t.gdCtl x v) := by
  unfold Lane.gdCtl
  extract_lets a b
  have ha : l.Keeps a := .when h fun _ => .gdCntClr
  have hb : l.Keeps b := .when ha fun _ => .axisSafe
  exact .ite (.gateDrop hb) (.when hb (fun _ => .gateEnable))

theorem Lane.Keeps.fbWrite {x : Ax} {o a : Nat} {v : Word} (h : l.Keeps t) : l.Keeps (t.fbWrite x o a v) := by
  unfold Lane.fbWrite
  split
  · exact .when (.when h (fun _ => .setReg)) fun _ => .fltClr
  · exact .ite (.cmpWrite h) (.ite (.cmpWrite h) (.ite (.posAdj h) (.fieldWrite h)))

theorem Lane.Keeps.pcCntClr (h : l.Keeps t) : l.Keeps t.pcCntClr := .setReg (.wr (.wr (.setReg (.wr h))))

theorem Lane.Keeps.pcCtl {v : Word} (h : l.Keeps t) : l.Keeps (t.pcCtl v) := .pc (.when h (fun _ => .pcCntClr))

theorem Lane.Keeps.glCtl {v : Word} (h : l.Keeps t) : l.Keeps (t.glCtl v) := by
  unfold Lane.glCtl
  extract_lets a b c
  have ha : l.Keeps a := .when h fun _ => .glCntClr
  have hb : l.Keeps b := .ite (.glInelig ha) (.when ha (fun _ => .glElig))
  have hc : l.Keeps c := .when hb fun _ => .gl
  exact .when hc fun _ => .gl

theorem Lane.Keeps.fcCtl {v : Word} (h : l.Keeps t) : l.Keeps (t.fcCtl v) :=
  .when (.when (.when (.when (.when h (fun _ => .rearm)) (fun _ => .fcCntClr)) (fun _ => .nbFree)) (fun _ => .nbFree)) fun _ => .dumpDone

theorem Lane.Keeps.fcWrite {o a : Nat} {v : Word} (h : l.Keeps t) : l.Keeps (t.fcWrite o a v) := by
  unfold Lane.fcWrite
  split
  · exact .fcCtl h
  · exact .tend h
  · exact .when h fun _ => .injectGo
  · exact .when h fun _ => .setReg
  · exact .fieldWrite h

theorem Lane.Keeps.scWrite {o a : Nat} {v : Word} (h : l.Keeps t) : l.Keeps (t.scWrite o a v) := by
  unfold Lane.scWrite
  split
  · exact .when h fun _ => .scCntClr
  · split
    · exact .domainsFollow (.scPost h)
    · split
      · exact .flowEnWrite h
      · split
        · split
          · exact .domainsFollow (.timerExpWrite h)
          · exact .domainsFollow (.timerArm h)
          · exact .fieldWrite h
        · exact .fieldWrite h

theorem Lane.Keeps.hqWrite {o a : Nat} {v : Word} (h : l.Keeps t) : l.Keeps (t.hqWrite o a v) :=
  .ite (.when h (fun _ => .hqCntClr)) (.ite (.hqPush h) (.fieldWrite h))

theorem Lane.Keeps.hpCtl {v : Word} (h : l.Keeps t) : l.Keeps (t.hpCtl v) :=
  .ite (.irqClr (.when h (fun _ => .setReg))) (.when (.when h (fun _ => .setReg)) (fun _ => .set))

theorem Lane.Keeps.ttWrite {o a : Nat} {v : Word} (h : l.Keeps t) : l.Keeps (t.ttWrite o a v) := by
  unfold Lane.ttWrite
  split
  · exact .unmuteMask (.when h (fun _ => .ttCntClr))
  · exact .txReady h
  · exact .fieldWrite h

theorem Lane.Keeps.cnWrite {o a : Nat} {v : Word} (h : l.Keeps t) : l.Keeps (t.cnWrite o a v) := by
  unfold Lane.cnWrite
  split
  · exact .when (.when h (fun _ => .setReg)) fun _ => .cnRecover
  · exact .cnReq h
  · exact .fieldWrite h

theorem Lane.Keeps.pdWrite {o a : Nat} {v : Word} (h : l.Keeps t) : l.Keeps (t.pdWrite o a v) := by
  unfold Lane.pdWrite
  split
  · exact .when h fun _ => .sleep
  · exact .pdReqWrite h
  · exact .fieldWrite h

theorem Lane.Keeps.ckWrite {o a : Nat} {v : Word} (h : l.Keeps t) : l.Keeps (t.ckWrite o a v) :=
  .ite (.when (.when h (fun _ => .pw)) (fun _ => .calGo)) (.fieldWrite h)

theorem Lane.Keeps.pmWrite {o a : Nat} {v : Word} (h : l.Keeps t) : l.Keeps (t.pmWrite o a v) := by
  unfold Lane.pmWrite
  split
  · exact .when h fun _ => .pmCommand
  · exact .pmRequest (.wr h)
  · exact .fieldWrite h

theorem Lane.Keeps.wkWrite {o a : Nat} {v : Word} (h : l.Keeps t) : l.Keeps (t.wkWrite o a v) := by
  unfold Lane.wkWrite
  split
  · exact .when h fun _ => .setReg
  · exact .pw (.setReg h)
  · exact .fieldWrite h

theorem Lane.Keeps.stWrite {o a : Nat} {v : Word} (h : l.Keeps t) : l.Keeps (t.stWrite o a v) := by
  unfold Lane.stWrite
  split
  · exact .when (.when (.when (.when h (fun _ => .setReg)) (fun _ => .progAbort)) (fun _ => .progGo)) fun _ => .stSweep
  · exact .sliceRequest h
  · exact .fieldWrite h

theorem Lane.Keeps.lcWrite {o a : Nat} {v : Word} (h : l.Keeps t) : l.Keeps (t.lcWrite o a v) :=
  .ite (.when (.when h (fun _ => .ftmOn)) (fun _ => .lcGo)) (.fieldWrite h)

theorem Lane.Keeps.sfWrite {o a : Nat} {v : Word} (h : l.Keeps t) : l.Keeps (t.sfWrite o a v) :=
  .ite (.when (.when h (fun _ => .supplyClr)) (fun _ => .supplyClr)) (.ite (.injectInputs (.discClr h)) (.fieldWrite h))

theorem Lane.Keeps.regWrite {b : Blk} {x : Ax} {o a n : Nat} {v : Word} (h : l.Keeps t) : l.Keeps (t.regWrite b x o a n v) := by
  unfold Lane.regWrite
  split
  · exact .leWrite h
  · exact .modWrite h
  · exact .tqWrite h
  · exact .ite (.gdCtl h) (.fieldWrite h)
  · exact .fbWrite h
  · exact .ite (.when h (fun _ => .setReg)) (.fieldWrite h)
  · exact .ite (.when (.when h (fun _ => .chopClr)) (fun _ => .setReg)) (.fieldWrite h)
  · exact .ite (.pcCtl h) (.fieldWrite h)
  · exact .ite (.glCtl h) (.fieldWrite h)
  · exact .fcWrite h
  · exact .scWrite h
  · exact .hqWrite h
  · exact .ite (.hpCtl h) (.fieldWrite h)
  · exact .ttWrite h
  · exact .cnWrite h
  · exact .pdWrite h
  · exact .ckWrite h
  · exact .pmWrite h
  · exact .wkWrite h
  · exact .stWrite h
  · exact .lcWrite h
  · exact .sfWrite h
  · exact .fieldWrite h

theorem Lane.Keeps.halfWrite {b : Blk} {x : Ax} {a : Nat} {v : Word} (h : l.Keeps t) : l.Keeps (t.halfWrite b x a v) := by
  unfold Lane.halfWrite
  split
  · split
    · exact .leLvWrite h
    · exact .leRefuse h
  · exact .bump h
  · exact h

theorem Lane.Keeps.winWrite {w : Win} {a n : Nat} {v : Word} (h : l.Keeps t) : l.Keeps (t.winWrite w a n v) := by
  unfold Lane.winWrite
  dsimp only
  split
  · exact .setBytes h
  · exact .setBytes h
  · exact .setBytes h
  · exact .ite (.setBytes h) h
  · exact .ite (.hqPutWrite h) (.ite (.prodReject h) h)
  · exact h

theorem Lane.Keeps.mramWrite {a n : Nat} {v : Word} (h : l.Keeps t) : l.Keeps (t.mramWrite a n v) := .ite (.set h) (.ite h (.setBytes h))

theorem Lane.Keeps.devWrite {a n : Nat} {v : Word} (h : l.Keeps t) : l.Keeps (t.devWrite a n v) := by
  unfold Lane.devWrite
  split
  · exact .busError h
  · extract_lets a b
    have ha : l.Keeps a := .busErr h
    have hb : l.Keeps b := .accessed ha
    split
    · exact .downAccess ha
    · split
      · exact .setBytes hb
      · exact .storageReject hb
      · exact .mramWrite hb
      · exact .winWrite hb
      · exact .leOwWrite hb
      · exact .regWrite hb
      · exact .halfWrite hb
      · exact hb

theorem Lane.Keeps.dumpWrite {a n : Nat} {v : Word} (h : l.Keeps t) : l.Keeps (t.dumpWrite a n v) :=
  .ite (.busError h) (.ite (.devWrite h) (.set (.busErr h)))

theorem Lane.Keeps.regRead {b : Blk} {x : Ax} {a : Nat} {d : RegDesc} (h : l.Keeps t) : l.Keeps (t.regRead b x a d) :=
  .ite (.scEnter h) (.ite (.domainsFollow (.scNext h)) (.ite (.blankRead h) (.ite (.hqMark h) (.ite (.hqRewind h) (.ite (.hqTake h) (.returns h))))))

theorem Lane.Keeps.halfRead {b : Blk} {x : Ax} {at_ a : Nat} (h : l.Keeps t) : l.Keeps (t.halfRead b x at_ a) := by
  unfold Lane.halfRead
  split
  · exact .returns (.regRead h)
  · exact .returns h

theorem Lane.Keeps.devRead {a n : Nat} (h : l.Keeps t) : l.Keeps (t.devRead a n) := by
  unfold Lane.devRead
  split
  · exact .busError h
  · extract_lets a b
    have ha : l.Keeps a := .busErr h
    have hb : l.Keeps b := .accessed ha
    split
    · exact .downAccess ha
    · split
      · exact .returns hb
      · exact .returns hb
      · exact .regRead hb
      · exact .halfRead hb
      · exact .returns hb
      · exact .returns hb

theorem Lane.Keeps.waitRun (h : l.Keeps t) : l.Keeps t.waitRun :=
  .each (.pw h) (fun _ _ hk => (by
    split
    · exact .devWrite hk
    · exact .devRead hk))

/-! #### Sys2Proof/Machine/Pair.lean -/

theorem Lane.Keeps.usage (h : l.Keeps t) : l.Keeps t.usage := .wr h

theorem Lane.Keeps.storeIn {a n : Nat} {v : Word} (h : l.Keeps t) : l.Keeps (t.storeIn a n v) := .usage (.pc h)

theorem Lane.Keeps.release {x : Store} (h : l.Keeps t) : l.Keeps (t.release x) := by
  unfold Lane.release
  split
  · exact .each h fun _ _ => .devWrite
  · exact .devWrite h

theorem Lane.Keeps.drain {es : List (Nat × Store)} (h : l.Keeps t) : l.Keeps (t.drain es) :=
  .each h (fun _ _ hk => .ite (.hqJudge (.lateFrom (.release hk))) hk)

theorem Lane.Keeps.drainNote {es : List (Nat × Store)} {corrected : List Nat} (h : l.Keeps t) : l.Keeps (t.drainNote es corrected) :=
  .each h fun _ _ hk => .raiseOnce (.set hk)

theorem Lane.Keeps.pairIgnored {f : Fld} (h : l.Keeps t) : l.Keeps (t.pairIgnored f) := .event (.raise (.set h))

theorem Lane.Keeps.pairSet {split : Bool} (h : l.Keeps t) : l.Keeps (t.pairSet split) := .tokenCheck (.event (.raise (.put (.put h))))

theorem Lane.Keeps.pairSplit (h : l.Keeps t) : l.Keeps t.pairSplit := .ite (.pairSet h) (.pairIgnored h)

theorem Lane.Keeps.pairRejoin (h : l.Keeps t) : l.Keeps t.pairRejoin := .ite (.pairSet h) (.pairIgnored h)

theorem Lane.Keeps.pairApply (h : l.Keeps t) : l.Keeps t.pairApply := .ite (.pairRejoin (.pc h)) (.when (.pc h) (fun _ => .pairSplit))

theorem Lane.Keeps.commitCount {c : Commit} (h : l.Keeps t) : l.Keeps (t.commitCount c) := .pc (.wr (.wr (.wr (.wr h))))

theorem Lane.Keeps.commitCopy {boundary : Bool} (h : l.Keeps t) : l.Keeps (t.commitCopy boundary) := .ite (.copyVoid h) h

theorem Lane.Keeps.commitMark {boundary : Bool} (h : l.Keeps t) : l.Keeps (t.commitMark boundary) := .scMark (.hqMarkAll (.commitCopy h))

theorem Lane.Keeps.presentHeld (h : l.Keeps t) : l.Keeps t.presentHeld := .each (.pc h) fun _ _ => .present

theorem Lane.Keeps.commitFree {c : Commit} (h : l.Keeps t) : l.Keeps (t.commitFree c) :=
  .when (.pairApply (.scFree (.hqReleaseAll h))) fun _ => .clr

theorem Lane.Keeps.commitEnd {c : Commit} (h : l.Keeps t) : l.Keeps (t.commitEnd c) := by
  unfold Lane.commitEnd
  extract_lets _ a b
  have ha : l.Keeps a := .commitCount (.commitFree (.presentHeld (.pc h)))
  have hb : l.Keeps b := .bump (.set ha)
  exact .ite (.divApply (.profCommit (.hashSend (.copyReads (.glSignal (.wr ha)))))) (.divApply (.event (.raiseOnce hb)))

theorem Lane.Keeps.commitDrain {c : Commit} {e : DrainEcc} (h : l.Keeps t) : l.Keeps (t.commitDrain c e) := by
  unfold Lane.commitDrain
  extract_lets _ _ _ _ a
  have ha : l.Keeps a := .drain (.drainNote (.pc h))
  split
  · exact ha
  · split
    · exact .pc ha
    · split
      · exact .raise (.pc ha)
      · exact .commitEnd ha

theorem Lane.Keeps.commitRun {boundary : Bool} {e : DrainEcc} (h : l.Keeps t) : l.Keeps (t.commitRun boundary e) := by
  unfold Lane.commitRun
  split
  · exact .commitDrain h
  · exact .commitDrain (.commitMark h)

theorem Lane.Keeps.commitBoundary {e : DrainEcc} (h : l.Keeps t) : l.Keeps (t.commitBoundary e) := .ite (.commitRun h) h

theorem Lane.Keeps.coreStore {e : DrainEcc} {a n : Nat} {v : Word} (h : l.Keeps t) : l.Keeps (t.coreStore e a n v) :=
  .ite (.busError h) (.ite (.ite (.commitRun h) h) (.storeIn (.busErr (.ite (.commitRun h) h))))

theorem Lane.Keeps.coreWrite {a n : Nat} {v : Word} (h : l.Keeps t) : l.Keeps (t.coreWrite a n v) := by
  unfold Lane.coreWrite
  split
  · exact .coreStore h
  · exact .coreStore h
  · exact .dumpWrite h
  · exact h

theorem Lane.Keeps.mismatchNote {point : Nat} {slot : Bool} {reg : Nat} {addr : Word} (h : l.Keeps t) :
    l.Keeps (t.mismatchNote point slot reg addr) :=
  .ite h (.wr (.setReg (.wr (.put (.wr (.set h))))))

theorem Lane.Keeps.rollUndo (h : l.Keeps t) : l.Keeps t.rollUndo := .domainsFollow (.scRollback (.hqRollback (.pc h)))

theorem Lane.Keeps.rollNote {point : Nat} (h : l.Keeps t) : l.Keeps (t.rollNote point) := .event (.pc (.wr (.set (.bump h))))

theorem Lane.Keeps.midDone (h : l.Keeps t) : l.Keeps t.midDone := .ite (.commitRun h) h

theorem Lane.Keeps.rollback {point : Nat} {slot : Bool} {reg : Nat} {addr : Word} (h : l.Keeps t) : l.Keeps (t.rollback point slot reg addr) :=
  .ite (.raise (.pc (.rollNote (.rollUndo (.mismatchNote h))))) (.rollNote (.rollUndo (.mismatchNote h)))

theorem Lane.Keeps.mismatch {point : Nat} {slot : Bool} {reg : Nat} {addr : Word} (h : l.Keeps t) : l.Keeps (t.mismatch point slot reg addr) := by
  unfold Lane.mismatch
  split
  · exact h
  · split
    · exact .rollback (.midDone h)
    · exact .rollback (.midDone h)
    · exact .dcxHand h
    · exact h

theorem Lane.Keeps.coreLoad {a n : Nat} (h : l.Keeps t) : l.Keeps (t.coreLoad a n) := .ite (.returns (.accessed h)) (.devRead h)

theorem Lane.Keeps.debug {x : DebugOp} (h : l.Keeps t) : l.Keeps (t.debug x) := by
  unfold Lane.debug
  split
  · exact .ite (.pc h) h
  · exact h
  · exact .ite (.pc h) h
  · exact .ite (.devRead h) (.coreLoad h)
  · exact .ite (.divApply (.devWrite h)) (.ite (.dumpWrite h) (.coreStore h))

/-! #### Sys2Proof/Machine/Tick.lean -/

theorem Lane.Keeps.selfRun (h : l.Keeps t) : l.Keeps t.selfRun :=
  .ite (.pwTick (.pmTick h)) (.waitRun (.domPermission (.domainsFollow (.armProofs (.stTick (.copyReads (.glPorts (.pwTick (.pmTick h)))))))))

theorem Lane.Keeps.tick (h : l.Keeps t) : l.Keeps t.tick := .ite (.now h) (.ite (.aoTick (.now h)) (.aoTick (.selfRun (.now (.hqCycle h)))))

end

/-! ### Commands and steps -/

/-- An outcome of a command on lane i: no other lane changes, and lane i keeps its identity and its form. -/
def State.FormKept (s : State) (i : LaneId) (o : Host.Outcome State Fault Refusal) : Prop :=
  ∃ f : Lane → Lane, (∀ l : Lane, l.Keeps (f l)) ∧ o = .next (s.onLane i f)

section
variable {s : State} {i : LaneId} {f : Lane → Lane} (hf : ∀ {l t : Lane}, Lane.Keeps l t → Lane.Keeps l (f t))
include hf

theorem State.actAo_formKept : s.FormKept i (s.actAo i f) := ⟨_, fun l => .ite (hf (.refl l)) (.refl l), s.actAo_gate i f⟩
theorem State.actWake_formKept : s.FormKept i (s.actWake i f) := ⟨_, fun l => .ite (hf (.refl l)) (.refl l), s.actWake_gate i f⟩
theorem State.actDie_formKept : s.FormKept i (s.actDie i f) := State.actAo_formKept fun h => .inDie h fun _ hk => hf hk
theorem State.actPin_formKept {ok : Lane → Bool} {pin : Lane → Lane} (hp : ∀ {l t : Lane}, l.Keeps t → l.Keeps (pin t)) :
    s.FormKept i (s.actPin i ok pin f) := State.actAo_formKept fun h => .ite (hf h) (hp h)
theorem State.act_formKept : s.FormKept i (s.act i f) := ⟨_, fun l => .ite (hf (.refl l)) (.refl l), s.act_gate i f⟩
theorem State.actD_formKept {d : Dom} : s.FormKept i (s.actD i d f) := ⟨_, fun l => .ite (hf (.refl l)) (.refl l), s.actD_gate i d f⟩
theorem State.actX_formKept {x : Ax} {d : Dom} : s.FormKept i (s.actX i x d f) :=
  ⟨_, fun l => .ite (hf (.refl l)) (.refl l), s.actX_gate i x d f⟩
theorem State.actTq_formKept {x : Ax} : s.FormKept i (s.actTq i x f) := ⟨_, fun l => .ite (hf (.refl l)) (.refl l), s.actTq_gate i x f⟩
theorem State.accD_formKept {d : Dom} {r : RegAcc} : s.FormKept i (s.accD i d r f) :=
  ⟨_, fun l => .ite (.ite (hf (.refl l)) (.downAccess (.refl l))) (.refl l), s.accD_gate i d r f⟩
theorem State.accX_formKept {x : Ax} {d : Dom} {r : RegAcc} : s.FormKept i (s.accX i x d r f) :=
  ⟨_, fun l => .ite (.ite (hf (.refl l)) (.downAccess (.refl l))) (.refl l), s.accX_gate i x d r f⟩
theorem State.accTq_formKept {x : Ax} {r : RegAcc} : s.FormKept i (s.accTq i x r f) :=
  ⟨_, fun l => .ite (.ite (hf (.refl l)) (.downAccess (.refl l))) (.refl l), s.accTq_gate i x r f⟩
end

/-- Every command keeps the lane it names: the rule of what the command does, one command a line. -/
theorem exec_formKept (c : Instr) (s : State) : s.FormKept c.lane (exec c s) := by
  cases c with
  | powerUp => exact State.actAo_formKept .powerUp
  | resetRelease => exact State.actAo_formKept .resetRelease
  | nrstAssert => exact State.actAo_formKept .hold
  | supplyOutOfRange => exact State.actAo_formKept fun h => .clr (.hold h)
  | vbatLow => exact State.act_formKept .vbatLow
  | vbatBrownOut => exact State.actAo_formKept .brownOut
  | pllLock => exact State.actWake_formKept .pllLock
  | sweepEnd => exact State.act_formKept .sweepEnd
  | imageLoadEnd => exact State.act_formKept .imageLoad
  | imageLock => exact State.act_formKept .imageLock
  | gateDriverCheckEnd => exact State.act_formKept .gdCheckEnd
  | outerCycleBoundary => exact State.act_formKept fun h => .ite (.boundary h) h
  | armTimeout => exact State.act_formKept .armTimeout
  | degradedTimeExpiry => exact State.act_formKept .degExpiry
  | dieTemperatureHold => exact State.act_formKept .dieHold
  | commandAgeLimit => exact State.act_formKept .cmdAge
  | autoRestart => exact State.act_formKept .autoRestart
  | partitionDecision => exact State.act_formKept .partDecide
  | leInnerPeriod => exact State.actX_formKept .lePeriod
  | leOpen => exact State.accX_formKept .leOpenReq
  | leClose => exact State.accX_formKept .leCloseReq
  | leIntclr => exact State.accX_formKept .leIntClr
  | leCntclr => exact State.accX_formKept .leCntClr
  | leOwWrite => exact State.accX_formKept .leOwWrite
  | leLvWrite => exact State.accX_formKept .leLvWrite
  | leOpenmaxExpiry => exact State.actX_formKept .leOpenMax
  | modReload => exact State.actX_formKept .reload
  | modWriteStageWrite => exact State.accX_formKept .stageWrite
  | modCommit => exact State.accX_formKept .modCommit
  | modDiscard => exact State.accX_formKept .modDiscard
  | modPasson => exact State.accX_formKept .setMd
  | modPassoff => exact State.accX_formKept .setMd
  | modCntclr => exact State.accX_formKept .modCntClr
  | delayLineCalibration => exact State.actX_formKept .hrCal
  | tripOnset => exact State.actPin_formKept .ocOnset .tripAway
  | tripInputInactive => exact State.actPin_formKept .tripOff .tripGone
  | auxWindowStart => exact State.actD_formKept .auxStart
  | auxWindowEnd => exact State.actD_formKept .auxEnd
  | modTripclr => exact State.accD_formKept .tripClr
  | blankcntRead => exact State.accD_formKept .blankRead
  | tqDecision => exact State.actTq_formKept .tqDecision
  | alignTimerExpiry => exact State.actTq_formKept .alignExpiry
  | holdTimerExpiry => exact State.actTq_formKept .holdExpiry
  | lowSpeedTimerExpiry => exact State.actTq_formKept .lowExpiry
  | catchPulse => exact State.actTq_formKept .catchPulse
  | catchTimeout => exact State.actTq_formKept .catchTimeout
  | tqOwWrite => exact State.accTq_formKept .tqOwWrite
  | tqCntclr => exact State.accTq_formKept .tqCntClr
  | gateEnableRequest => exact State.accX_formKept .gateEnable
  | gateEnableDrop => exact State.accX_formKept .gateDrop
  | gdSafeRequest => exact State.accX_formKept .axisSafe
  | gdCntclr => exact State.accX_formKept .gdCntClr
  | interlockRefusal => exact State.actX_formKept .interlock
  | minimumGapDelay => exact State.actX_formKept .bump
  | hardShort => exact State.actDie_formKept fun h => .ite (.hardShort h) h
  | cpuvChange => exact State.actDie_formKept fun h => .ite (.cpuvChange h) h
  | keepAliveLoss => exact State.actDie_formKept .keepAliveLoss
  | keepAliveReceive => exact State.actDie_formKept fun h => .ite h (.keepAlive h)
  | ov1Assert => exact State.actDie_formKept .ov1Assert
  | ov1Release => exact State.actDie_formKept .ov1Release
  | ov2Assert => exact State.actDie_formKept .ov2Assert
  | ov2Release => exact State.actDie_formKept .ov2Release
  | chopperPeriod => exact State.actDie_formKept .chopPeriod
  | chopperOnEnd => exact State.actDie_formKept .chopOnEnd
  | chopperWatchExpiry => exact State.actDie_formKept .chopWatch
  | chopperOvercurrent => exact State.actDie_formKept .chopOver
  | dlChclr => exact State.act_formKept .chopClr
  | dlCntclr => exact State.act_formKept .setReg
  | commutatorHallChange => exact State.actX_formKept fun h => .ite (.commHall h) h
  | monitorConversion => exact State.actD_formKept .monitor
  | adCntclr => exact State.accX_formKept .setReg
  | hallEdge => exact State.actPin_formKept .hallEdge fun h => .ite (.setFb h) h
  | neighbourCode => exact State.actX_formKept fun h => .ite (.nbCode h) h
  | sincosSample => exact State.actX_formKept .scSample
  | positionCompareTick => exact State.actX_formKept .posTick
  | compareWrite => exact State.accX_formKept .cmpWrite
  | fbPosadjWrite => exact State.accX_formKept .posAdj
  | fbFltclr => exact State.accX_formKept .fltClr
  | readmission => exact State.actX_formKept .readmit
  | fbCntclr => exact State.accX_formKept .setReg
  | supplyOvercurrent => exact State.actD_formKept .supplyOc
  | supplyUndervoltage => exact State.actD_formKept .supplyUv
  | sfSupplyClr => exact State.accD_formKept .supplyClr
  | supplyPulseStart => exact State.actD_formKept .pulseStart
  | pulseCheck => exact State.actD_formKept .pulseCheck
  | crossShortCheck => exact State.actD_formKept .crossCheck
  | pulseMaskEnd => exact State.actD_formKept .maskEnd
  | boundaryCommit => exact State.act_formKept .commitBoundary
  | intermediateCommit => exact State.act_formKept fun h => .ite (.coreStore h) h
  | pairMismatch => exact State.actD_formKept .mismatch
  | pcSplit => exact State.actD_formKept fun h => .ite (.pairApply (.pc h)) h
  | pcRejoin => exact State.actD_formKept fun h => .ite (.pairApply (.pc h)) h
  | pcCntclr => exact State.actD_formKept .pcCntClr
  | linkLossOfLock => exact State.actD_formKept .linkLoss
  | blockLock => exact State.actD_formKept fun h => .ite (.set h) h
  | linkUp => exact State.actD_formKept fun h => .ite (.linkUp h) h
  | messageForward => exact State.actD_formKept .glPass
  | syncReceive => exact State.actD_formKept .syncIn
  | heartbeatReceive => exact State.actD_formKept .heartIn
  | heartbeatDue => exact State.actD_formKept .heartDue
  | ftannReceive => exact State.actD_formKept .ftannIn
  | claimReceive => exact State.actD_formKept .claimIn
  | abdicateReceive => exact State.actD_formKept .abdicateIn
  | handoverReceive => exact State.actD_formKept .handoverIn
  | commandReceive => exact State.actD_formKept .commandIn
  | cfghashReceive => exact State.actD_formKept .hashIn
  | statecopyReceive => exact State.actD_formKept .copyIn
  | electionWindowEnd => exact State.actD_formKept .windowEnd
  | voteTimeout => exact State.actD_formKept .voteTimeout
  | glAbdicate => exact State.actD_formKept fun h => .ite (.glSignal (.gl h)) h
  | glHandgo => exact State.actD_formKept fun h => .ite (.glSignal (.gl h)) h
  | handoverTimeout => exact State.actD_formKept .handTimeout
  | glElig => exact State.actD_formKept .glElig
  | glInelig => exact State.actD_formKept .glInelig
  | glCntclr => exact State.actD_formKept .glCntClr
  | faultMessageAccept => exact State.actWake_formKept fun h => .ite (.acceptLpo h) (.ite h (.acceptMsg h))
  | fcRearm => exact State.actD_formKept .rearm
  | fcCntclr => exact State.actD_formKept .fcCntClr
  | fcDumpdone => exact State.actD_formKept .dumpDone
  | fcNbfree => exact State.actD_formKept .nbFree
  | faultInjection => exact State.actD_formKept .injectGo
  | lanternToggle => exact State.act_formKept .lantToggle
  | lanternTend => exact State.actD_formKept .tend
  | tendTimeout => exact State.actD_formKept .tendExpiry
  | neighbourLanternEdge => exact State.actD_formKept .watchEdge
  | neighbourWatchTimeout => exact State.actD_formKept .watchTimeout
  | dumpContextStart => exact State.actD_formKept .dcxStart
  | dumpContextTimeout => exact State.actD_formKept .dcxTimeout
  | dumpEngineStart => exact State.actD_formKept .dumpStart
  | dumpAnswerTimeout => exact State.actD_formKept .dumpTimeout
  | dumpDataSend => exact State.actD_formKept .dumpSend
  | dumpOfferReceive => exact State.actD_formKept .offerIn
  | dumpAcceptReceive => exact State.actD_formKept .dumpAccept
  | dumpRefuseReceive => exact State.actD_formKept .dumpRefuse
  | dumpDataReceive => exact State.actD_formKept .dataIn
  | dumpEndReceive => exact State.actD_formKept .endIn
  | dumpStoreComplete => exact State.actD_formKept .rxStored
  | dumpReceiveTimeout => exact State.actD_formKept .rxTimeout
  | dumpDoneReceive => exact State.actD_formKept .dumpDoneIn
  | scPost => exact State.actD_formKept fun h => .domainsFollow (.scPost h)
  | scEnter => exact State.actD_formKept .scEnter
  | scNext => exact State.actD_formKept fun h => .domainsFollow (.scNext h)
  | scCntclr => exact State.actD_formKept .scCntClr
  | flowEnableWrite => exact State.actD_formKept .flowEnWrite
  | timerArm => exact State.actD_formKept fun h => .domainsFollow (.timerArm h)
  | timerInsertion => exact State.actD_formKept fun h => .domainsFollow (.timerInsert h)
  | timerExpiry => exact State.actD_formKept fun h => .domainsFollow (.timerExpire h)
  | headroomUpdate => exact State.actD_formKept fun h => .domScheduler (.headroomUpdate h)
  | deferralAge => exact State.actD_formKept .deferralAge
  | hqPutWrite => exact State.actD_formKept .hqPutWrite
  | hqPush => exact State.actD_formKept .hqPush
  | hqTake => exact State.actD_formKept .hqTake
  | hqMark => exact State.actD_formKept .hqMark
  | hqRewind => exact State.actD_formKept .hqRewind
  | hqCntclr => exact State.actD_formKept .hqCntClr
  | hostNop => exact State.act_formKept .hostFrame
  | hostPut => exact State.act_formKept .hostFrame
  | hostStatus => exact State.act_formKept .hostFrame
  | hostBadCommand => exact State.act_formKept .hostFrame
  | enterService => exact State.act_formKept .hostFrame
  | restart => exact State.act_formKept .hostFrame
  | handover => exact State.act_formKept .hostFrame
  | ceiling => exact State.act_formKept .hostFrame
  | integratorCode => exact State.act_formKept .hostFrame
  | hpIrqset => exact State.act_formKept .set
  | hpIrqclr => exact State.act_formKept .irqClr
  | hpCntclr => exact State.act_formKept .setReg
  | cycleStart => exact State.actD_formKept .cycleStart
  | syncLossExpiry => exact State.actD_formKept .syncLoss
  | masterTakeExpiry => exact State.actD_formKept .masterTake
  | portMute => exact State.actD_formKept .portMute
  | portUnmute => exact State.actD_formKept .portUnmute
  | partnerAbsence => exact State.actD_formKept .partnerAbsent
  | fetchPoint => exact State.actD_formKept .fetch
  | frameSend => exact State.actD_formKept .frameSend
  | ttTxrdy => exact State.accD_formKept .txReady
  | crelasFrameReceive => exact State.actD_formKept .rxFrame
  | ttUnmute => exact State.accD_formKept .unmuteMask
  | ttCntclr => exact State.accD_formKept .ttCntClr
  | portLinkChange => exact State.actD_formKept .linkChange
  | canFrameReceive => exact State.actD_formKept .cnReceive
  | canFrameSent => exact State.actD_formKept .cnSent
  | canProtocolError => exact State.actD_formKept .cnError
  | busOffRecovery => exact State.actD_formKept .cnRecovered
  | cnTxreq => exact State.accD_formKept .cnReq
  | cnRecover => exact State.accD_formKept .cnRecover
  | cnCntclr => exact State.accD_formKept .setReg
  | pdReqWrite => exact State.act_formKept .pdReqWrite
  | domainTransition => exact State.act_formKept .domDone
  | sleep => exact State.actD_formKept .sleep
  | lpoCalibrationEnd => exact State.act_formKept .calEnd
  | ckCalgo => exact State.act_formKept .calGo
  | ckDivgo => exact State.act_formKept .divGo
  | rootLoss => exact State.act_formKept .rootLoss
  | frequencyCheck => exact State.act_formKept .freqCheck
  | whistleFrame => exact State.actAo_formKept fun h => .inAo h (fun _ => .whistle)
  | slowAlarm => exact State.actAo_formKept fun h => .inAo h (fun _ hk => .ite (.slowAlarm hk) hk)
  | safetyInputWake => exact State.actAo_formKept fun h => .inAo h (fun _ hk => .ite (.wake hk) hk)
  | wkCntclr => exact State.act_formKept .setReg
  | voltageRequest => exact State.act_formKept fun h => .pmRequest (.wr h)
  | voltageAcknowledge => exact State.act_formKept .voltageAck
  | voltageAckTimeout => exact State.act_formKept .voltageTimeout
  | transactionFail => exact State.act_formKept .pmFail
  | transactionRetry => exact State.act_formKept .pmRepeat
  | operationWrite => exact State.act_formKept fun h => .pmCommand (.wr (.wr h))
  | clearFaults => exact State.act_formKept fun h => .pmCommand (.wr h)
  | statusWordRead => exact State.act_formKept fun h => .pmCommand (.wr h)
  | operationRead => exact State.act_formKept fun h => .pmCommand (.wr h)
  | pmPoll => exact State.act_formKept .pmPoll
  | pmAlert => exact State.actPin_formKept .pmAlert .put
  | stSlice => exact State.actD_formKept .sliceRequest
  | sliceEnd => exact State.actD_formKept .sliceEnd
  | sliceBudgetExpiry => exact State.actD_formKept .sliceBudgetEnd
  | sliceAccessAbort => exact State.actD_formKept .sliceAccess
  | stSweep => exact State.actD_formKept .stSweep
  | stProggo => exact State.actD_formKept .progGo
  | stAbort => exact State.actD_formKept .progAbort
  | stCntclr => exact State.actD_formKept .setReg
  | memtokReceive => exact State.actD_formKept .tokIn
  | memtokRegen => exact State.actD_formKept .tokRegen
  | lcadv => exact State.act_formKept .lcAdv
  | lcterm => exact State.act_formKept .lcTerm
  | keyprog => exact State.act_formKept .keyProg
  | keyrev => exact State.act_formKept .keyRev
  | ftmode => exact State.act_formKept .ftmOn
  | jtagSweep => exact State.act_formKept .jtagSweep
  | lcGo => exact State.actD_formKept .lcGo
  | lcFtmon => exact State.actD_formKept fun h => .ite (.ftmOn h) h
  | otpWriteComplete => exact State.act_formKept .otpEnd
  | safetyInputChange => exact State.actPin_formKept .safChange .safPin
  | safetyDiscrepancy => exact State.actD_formKept .safDiscrepancy
  | sfDiscclr => exact State.accD_formKept .discClr
  | sfInjgo => exact State.accD_formKept .injectInputs
  | injectionPhaseEnd => exact State.actD_formKept .injEnd
  | registerWrite => exact State.actD_formKept fun h => .ite (.coreWrite h) (.divApply (.devWrite h))
  | pmbusTransactionEnd => exact State.act_formKept .pmEnd
  | gdSliceInjection => exact State.actD_formKept .gdInject
  | eccError => exact State.actD_formKept .eccError
  | mramControllerFailure => exact State.actD_formKept .raise
  | busParityError => exact State.actD_formKept .raise
  | deviceAccessTimeout => exact State.actD_formKept fun h => .busError (.raise h)
  | coreDebug => exact State.actD_formKept fun h => .ite (.debug h) h

/-- A lane of a module keeps its identity and its form in every step, whether or not the step is about it. -/
theorem step_keeps {s t : State} (h : step s = .next t) (i : LaneId) : (s.lane i).Keeps (t.lane i) := by
  match hp : s.pending with
  | [] =>
    rw [step_idle hp] at h
    injection h with ht
    rw [← ht, State.lane_tick]
    exact .ite (.tick (.refl _)) (.refl _)
  | c :: r =>
    obtain ⟨f, hf, he⟩ := exec_formKept c { s with pending := r }
    rw [step_front hp, he] at h
    injection h with ht
    rw [← ht, State.lane_onLane]
    exact .ite (hf _) (.refl _)

/-- A lane that the module does not have takes no step. -/
theorem step_absent {s t : State} (h : step s = .next t) : t.part = s.part ∧ ∀ i, s.part.hasLane i = false → t.lane i = s.lane i := by
  match hp : s.pending with
  | [] =>
    rw [step_idle hp] at h
    injection h with ht
    rw [← ht]
    exact ⟨s.part_tick, fun i hi => (s.lane_tick i).trans (if_neg (by simp [hi]))⟩
  | c :: r =>
    obtain ⟨f, hf⟩ := exec_gate c { s with pending := r }
    rw [step_front hp, hf] at h
    injection h with ht
    rw [← ht]
    exact ⟨State.part_onLane _ _ _, fun i hi => (State.lane_onLane _ _ _ _).trans (if_neg fun ⟨he, hc⟩ => by simp [← he, hi] at hc)⟩

/-- Settles O4: every function a command or the tick is made of keeps a lane's identity and its form, and no step is about an absent lane. -/
theorem absentLaneStaysAsleep : Obligations.AbsentLaneStaysAsleep := by
  unfold Obligations.AbsentLaneStaysAsleep
  refine ⟨fun s t hn hc h => ⟨fun i => ((step_keeps h i).me).trans (hn i), fun i => (step_keeps h i).form (hc i)⟩, fun s t ha h => ?_⟩
  obtain ⟨hpart, hsame⟩ := step_absent h
  refine ⟨fun i hi => ?_, hpart⟩
  rw [hpart] at hi ⊢
  rw [hsame i hi, ha i hi]

end Sys2Proof.Machine
end

section
/-!
OBLIGATION O59. A counter clear writes its registers, and nothing else.
-/

namespace Sys2Proof.Machine

/-- Two lanes that differ in the registers of a list alone, as O59 names them. -/
def Lane.Only (l : Lane) (rs : List Nat) (t : Lane) : Prop :=
  { t with regs := l.regs } = l ∧ (∀ a, a ∉ rs → t.reg a = l.reg a) ∧ ∀ a, t.byte a = l.byte a

theorem Lane.only_setReg (l : Lane) (a : Nat) (v : Word) : l.Only [a] (l.setReg a v) :=
  ⟨rfl, fun b hb => l.reg_setReg_ne a b v (fun e => hb (List.mem_singleton.mpr e)), fun _ => rfl⟩

theorem Lane.only_wr (l : Lane) (f : Fld) (v : Nat) : l.Only [f.addr] (l.wr f v) := l.only_setReg _ _

theorem Lane.only_fcCntClr (l : Lane) : l.Only [FC_CNT_CE.addr, FC_DROP_CE.addr] l.fcCntClr := by
  refine ⟨rfl, fun a ha => ?_, fun _ => rfl⟩
  simp only [List.mem_cons, List.not_mem_nil, or_false, not_or] at ha
  exact (Lane.reg_setReg_ne _ _ a _ ha.2).trans (l.reg_setReg_ne _ a _ ha.1)

theorem Lane.irqClr_fresh {l : Lane} (h : l.hq.irqCyc = some (l.now / cycBus)) : l.irqClr = l := if_pos h

theorem Lane.irqClr_clears {l : Lane} (h : l.hq.irqCyc ≠ some (l.now / cycBus)) : l.irqClr = l.clr HP_STAT_IRQ := if_neg h

/-- A clear of one register. -/
theorem Lane.cleared (l : Lane) (a : Nat) : l.Only [a] (l.setReg a 0#64) ∧ ∀ b ∈ [a], (l.setReg a 0#64).reg b = 0#64 :=
  ⟨l.only_setReg a _, fun b hb => by rw [List.mem_singleton.mp hb, Lane.reg_setReg]⟩

theorem Lane.fcCntClr_cleared (l : Lane) : ∀ a ∈ [FC_CNT_CE.addr, FC_DROP_CE.addr], l.fcCntClr.reg a = 0#64 := by
  intro a ha
  simp only [List.mem_cons, List.not_mem_nil, or_false] at ha
  rcases ha with rfl | rfl
  · exact (Lane.reg_setReg_ne _ _ _ _ (by decide)).trans (Lane.reg_setReg _ _ _)
  · exact Lane.reg_setReg _ _ _

/-- Settles O59: each command writes the registers it names and leaves the rest. -/
theorem counterClearsTouchTheirRegisters : Obligations.CounterClearsTouchTheirRegisters := by
  unfold Obligations.CounterClearsTouchTheirRegisters
  intro s i hcp hnw l
  have hr : s.ready i .clocked := ⟨hcp.1, (Bool.and_eq_true_iff.mp hcp.2).1⟩
  refine ⟨⟨l.set HP_STAT_IRQ, ⟨State.act_to hr rfl, l.only_wr _ _⟩, l.rd_wr _ _ (by decide), l.rd_wr_disj _ _ _ (by decide)⟩,
    fun hirq => ⟨l.clr HP_STAT_IRQ, ⟨State.act_to hr (Lane.irqClr_clears hirq), l.only_wr _ _⟩, l.rd_wr _ _ (by decide),
      l.rd_wr_disj _ _ _ (by decide)⟩,
    fun hirq => State.act_ignored hr (Lane.irqClr_fresh hirq), fun p hp => ?_⟩
  simp only [List.mem_cons, List.not_mem_nil, or_false] at hp
  rcases hp with rfl | rfl | rfl | rfl | rfl | rfl
  · exact ⟨_, ⟨State.act_to hr rfl, (l.cleared _).1⟩, (l.cleared _).2⟩
  · exact ⟨_, ⟨State.act_to hr rfl, (l.cleared _).1⟩, (l.cleared _).2⟩
  · exact ⟨_, ⟨State.act_to hr rfl, (l.cleared _).1⟩, (l.cleared _).2⟩
  · exact ⟨_, ⟨State.actD_to hcp rfl, (l.cleared _).1⟩, (l.cleared _).2⟩
  · exact ⟨_, ⟨State.accD_ready s i _ _ _ hnw, (l.cleared _).1⟩, (l.cleared _).2⟩
  · exact ⟨_, ⟨State.actD_to hcp rfl, l.only_fcCntClr⟩, l.fcCntClr_cleared⟩

end Sys2Proof.Machine
end

section
/-!
SUPPORT. What the stop of a self-test slice leaves alone besides the memory: the image that the lane was loaded from, and the TCM
(spec/14_self_test_lifecycle.md R489, spec/15_configuration_image.md R504).
-/

namespace Sys2Proof.Machine

/-- One lane comes from another by operations that leave what tells the loaded slots, and what TCM holds where nothing was written. -/
structure Lane.SlotAside (l t : Lane) : Prop where
  part : t.part = l.part
  im : t.im = l.im
  tcmGen : t.tcmGen = l.tcmGen
  reg : t.reg SY_IMGSTAT_LOADED.addr = l.reg SY_IMGSTAT_LOADED.addr

section
variable {l t : Lane}

theorem Lane.SlotAside.refl (l : Lane) : l.SlotAside l := ⟨rfl, rfl, rfl, rfl⟩

theorem Lane.SlotAside.of {u : Lane} (h : l.SlotAside t) (part : u.part = t.part) (im : u.im = t.im) (tcmGen : u.tcmGen = t.tcmGen)
    (regs : u.regs = t.regs) : l.SlotAside u :=
  ⟨part.trans h.part, im.trans h.im, tcmGen.trans h.tcmGen, (by rw [Lane.reg, Lane.reg, regs] : u.reg _ = t.reg _).trans h.reg⟩

theorem Lane.SlotAside.ite {c : Prop} {_ : Decidable c} {a b : Lane} (ha : l.SlotAside a) (hb : l.SlotAside b) :
    l.SlotAside (if c then a else b) := by
  split
  · exact ha
  · exact hb

theorem Lane.SlotAside.gl {v} (h : l.SlotAside t) : l.SlotAside { t with gl := v } := h.of rfl rfl rfl rfl
theorem Lane.SlotAside.sc {v} (h : l.SlotAside t) : l.SlotAside { t with sc := v } := h.of rfl rfl rfl rfl
theorem Lane.SlotAside.st {v} (h : l.SlotAside t) : l.SlotAside { t with st := v } := h.of rfl rfl rfl rfl
theorem Lane.SlotAside.pc {v} (h : l.SlotAside t) : l.SlotAside { t with pc := v } := h.of rfl rfl rfl rfl
theorem Lane.SlotAside.send {o : Sent} (h : l.SlotAside t) : l.SlotAside (t.send o) := h.of rfl rfl rfl rfl

theorem Lane.SlotAside.wr {f : Fld} {v : Nat} (h : l.SlotAside t) (hf : f.addr ≠ SY_IMGSTAT_LOADED.addr := by decide) :
    l.SlotAside (t.wr f v) := ⟨h.part, h.im, h.tcmGen, (t.reg_wr_ne f v _ hf.symm).trans h.reg⟩

theorem Lane.SlotAside.set {f : Fld} (h : l.SlotAside t) (hf : f.addr ≠ SY_IMGSTAT_LOADED.addr := by decide) : l.SlotAside (t.set f) :=
  .wr h hf

theorem Lane.SlotAside.clr {f : Fld} (h : l.SlotAside t) (hf : f.addr ≠ SY_IMGSTAT_LOADED.addr := by decide) : l.SlotAside (t.clr f) :=
  .wr h hf

theorem Lane.SlotAside.bump {f : Fld} (h : l.SlotAside t) (hf : f.addr ≠ SY_IMGSTAT_LOADED.addr := by decide) : l.SlotAside (t.bump f) :=
  .ite (.wr h hf) h

theorem Lane.SlotAside.event {n : Nat} (h : l.SlotAside t) (hn : (SY_EVSTAT_EV (n / 32)).addr ≠ SY_IMGSTAT_LOADED.addr := by decide) :
    l.SlotAside (t.event n) :=
  ⟨(t.event_part n).trans h.part, (t.event_im n).trans h.im, (t.event_tcmGen n).trans h.tcmGen, (t.reg_event_ne n _ hn.symm).trans h.reg⟩

theorem Lane.SlotAside.raise {src kind cls : Nat} {x : Option Ax} {d : Nat} (h : l.SlotAside t) : l.SlotAside (t.raise src kind cls x d) :=
  ⟨(t.raise_part src kind cls x d).trans h.part, (t.raise_im src kind cls x d).trans h.im,
    (t.raise_tcmGen src kind cls x d).trans h.tcmGen, (t.reg_raise_ne src kind cls x d _ (by decide)).trans h.reg⟩

theorem Lane.SlotAside.progEnd (h : l.SlotAside t) : l.SlotAside t.progEnd := .event (.clr (.st h))

theorem Lane.SlotAside.stResult {res u cov dur : Nat} (h : l.SlotAside t) : l.SlotAside (t.stResult res u cov dur) := .wr (.wr (.wr (.wr h)))

theorem Lane.SlotAside.sliceStart {u index : Nat} {prog : Bool} (h : l.SlotAside t) : l.SlotAside (t.sliceStart u index prog) :=
  .set (.ite (.set (.st h)) (.st h))

theorem Lane.SlotAside.runStart {p : ProgAt} (h : l.SlotAside t) : l.SlotAside (t.runStart p) := .ite h (.sliceStart h)

theorem Lane.SlotAside.progRun {n : Nat} (h : l.SlotAside t) : l.SlotAside (t.progRun n) := by
  induction n generalizing t with
  | zero => exact .progEnd h
  | succ k ih => exact .ite (.progEnd h) (.ite (ih (.event (.stResult h))) (.runStart (.st h)))

theorem Lane.SlotAside.progNext (h : l.SlotAside t) : l.SlotAside t.progNext := by
  unfold Lane.progNext
  split
  · exact .ite h (.ite (.progRun h) (.runStart h))
  · exact h

theorem Lane.SlotAside.latent {u index : Nat} (h : l.SlotAside t) : l.SlotAside (t.latent u index) := .event (.raise (.wr h))

theorem Lane.SlotAside.coreTested {pass : Bool} (h : l.SlotAside t) : l.SlotAside (t.coreTested pass) := .pc h

theorem Lane.SlotAside.partDone {u res cov time : Nat} (h : l.SlotAside t) : l.SlotAside (t.partDone u res cov time) := by
  unfold Lane.partDone
  extract_lets a b
  have ha : l.SlotAside a := .stResult h
  have hb : l.SlotAside b := .ite (.bump ha) (.ite (.bump ha) (.ite (.bump ha) ha))
  exact .event (.ite (.coreTested hb) hb)

theorem Lane.SlotAside.runDone {p : ProgAt} {u res cov time : Nat} (h : l.SlotAside t) : l.SlotAside (t.runDone p u res cov time) :=
  .ite (.partDone (.st h)) (.st h)

theorem Lane.SlotAside.bistCharge (h : l.SlotAside t) : l.SlotAside t.bistCharge := .wr (.sc h)

theorem Lane.SlotAside.sliceCharge {t' : Nat} (h : l.SlotAside t) : l.SlotAside (t.sliceCharge t') := .bistCharge (.sc (.bistCharge h))

theorem Lane.SlotAside.setBusy {p : Port} {t' : Nat} (h : l.SlotAside t) : l.SlotAside (t.setBusy p t') := by
  unfold Lane.setBusy
  split
  · exact .gl h
  · exact .gl h

theorem Lane.SlotAside.glStart {p : Port} {w : GlWait} {t' : Nat} (h : l.SlotAside t) : l.SlotAside (t.glStart p w t') := .gl (.send (.setBusy h))

theorem Lane.SlotAside.portStep {p : Port} (h : l.SlotAside t) : l.SlotAside (t.portStep p) := by
  unfold Lane.portStep
  split
  · exact h
  · split
    · exact h
    · exact .ite (.glStart (.gl h)) (.gl h)

theorem Lane.SlotAside.glReady {w : GlWait} (h : l.SlotAside t) : l.SlotAside (t.glReady w) := .portStep (.gl h)

theorem Lane.SlotAside.glTo {p : Port} {type cycle chunk chunks : Nat} {payload : List Byte} (h : l.SlotAside t) : l.SlotAside (t.glTo p type cycle chunk chunks payload) :=
  .ite (.glReady h) h

theorem Lane.SlotAside.glSend {type : Nat} {payload : List Byte} (h : l.SlotAside t) : l.SlotAside (t.glSend type payload) := .glTo (.glTo h)

theorem Lane.SlotAside.tokSend {form : Nat} {holder : LaneId} {seq : Nat} (h : l.SlotAside t) : l.SlotAside (t.tokSend form holder seq) := .glSend h

theorem Lane.SlotAside.tokTake {seq : Nat} (h : l.SlotAside t) : l.SlotAside (t.tokTake seq) := .event (.set (.wr (.st h)))

theorem Lane.SlotAside.tokPass (h : l.SlotAside t) : l.SlotAside t.tokPass := .ite (.tokTake (.tokSend h)) (.clr (.wr (.st (.tokSend h))))

theorem Lane.SlotAside.sliceDone {r : SliceRun} {res cov : Nat} (h : l.SlotAside t) : l.SlotAside (t.sliceDone r res cov) := by
  unfold Lane.sliceDone
  extract_lets _ _ a b c d
  have ha : l.SlotAside a := .clr (.st h)
  have hb : l.SlotAside b := .ite (.clr ha) ha
  have hc : l.SlotAside c := .ite (.latent hb) hb
  have hd : l.SlotAside d := by
    dsimp only [d]
    split
    · exact .ite (.runDone hc) (.sliceCharge (.partDone hc))
    · exact .sliceCharge (.partDone hc)
  exact .ite (.tokPass hd) hd

theorem Lane.SlotAside.sliceAbort {cause : Nat} (h : l.SlotAside t) : l.SlotAside (t.sliceAbort cause) := by
  unfold Lane.sliceAbort
  split
  · exact .wr (.sliceDone h)
  · exact h

theorem Lane.SlotAside.sliceAccess (h : l.SlotAside t) : l.SlotAside t.sliceAccess := by
  unfold Lane.sliceAccess
  split
  · exact .ite (.progNext (.sliceAbort h)) h
  · exact h

end

theorem Lane.accessed_slotAside (l : Lane) (a n : Nat) : l.SlotAside (l.accessed a n) := .ite (.sliceAccess (.refl l)) (.refl l)

end Sys2Proof.Machine
end

section
/-!
OBLIGATIONS O53, O54, O60. Accesses to memory and to the windows, and the widths that an access may have.
-/

namespace Sys2Proof.Machine

/-! ### Where an address lies -/

theorem inRange_iff {a base size : Nat} : inRange a base size = true ↔ base ≤ a ∧ a < base + size := by simp [inRange]

theorem inRange_out {a base size : Nat} (h : a < base ∨ base + size ≤ a) : inRange a base size = false :=
  Bool.eq_false_iff.mpr fun hin => by
    have := inRange_iff.mp hin
    omega

theorem blockOf_below {a : Nat} (h : a < 0xF00000000) : blockOf a = none := by simp [blockOf, h]

theorem Lane.downAt_below (l : Lane) {a : Nat} (p : Place) (h : a < 0xF00000000) : l.downAt a p = none := by
  simp [Lane.downAt, domAt, blockOf_below h]

/-- An access to a block whose domain is ON meets none that is down. -/
theorem Lane.downAt_on {l : Lane} {a o : Nat} {b : Blk} {x : Ax} {d : Dom} (p : Place) (hb : blockOf a = some (b, x, o))
    (hd : blkDom b x = some d) (hon : l.domOn d = true) : l.downAt a p = none := by
  simp [Lane.downAt, domAt, hb, hd, hon]

section
variable {l : Lane} {a n : Nat}

/-- An access of a width that no memory takes, or off its own grid, meets nothing. -/
theorem Lane.place_misfit (h : n ∉ [1, 2, 4, 8] ∨ a % n ≠ 0) : l.place a n = none := by
  have hbad : (!([1, 2, 4, 8].contains n) || decide (a % n ≠ 0)) = true := by
    rw [Bool.or_eq_true]
    refine h.imp (fun hn => ?_) (fun ha => decide_eq_true ha)
    rw [Bool.not_eq_true', List.contains_eq_mem]
    exact decide_eq_false hn
  rw [Lane.place, if_pos hbad]

theorem fits_width (hn : n ∈ [1, 2, 4, 8]) (ha : a % n = 0) : ¬ (!([1, 2, 4, 8].contains n) || decide (a % n ≠ 0)) = true := by
  rw [Bool.or_eq_true, List.contains_eq_mem, decide_eq_true hn]
  simp [ha]

theorem Lane.place_tcm (hn : n ∈ [1, 2, 4, 8]) (ha : a % n = 0) (h : a < 0x400000) : l.place a n = some .tcm := by
  rw [Lane.place, if_neg (fits_width hn ha), if_pos h]

theorem inMram_bounds {p : Part} (h : inMram p a = true) : 0x100000000 ≤ a ∧ a < 0xF00000000 := by
  cases p <;> simp [inMram] at h <;> omega

theorem Lane.place_mram (hn : n ∈ [1, 2, 4, 8]) (ha : a % n = 0) (h : inMram l.part a = true) : l.place a n = some .mram := by
  have hb := inMram_bounds h
  have hst : inRange a 0x10000000 0x40000 = false := inRange_above (by omega)
  rw [Lane.place, if_neg (fits_width hn ha), if_neg (by omega), if_neg (by simp [hst]), if_pos h]

theorem Lane.place_window {b : Blk} {x : Ax} {o : Nat} {w : Win} (hn : n ∈ [1, 2, 4, 8]) (ha : a % n = 0)
    (hb : blockOf a = some (b, x, o)) (hh : l.hasBlock b x = true) (hw : winOf a = some w) : l.place a n = some (.window w) := by
  have hge := blockOf_some_ge hb
  have hst : inRange a 0x10000000 0x40000 = false := inRange_above (by omega)
  rw [Lane.place, if_neg (fits_width hn ha), if_neg (by omega), if_neg (by simp [hst]), if_neg (by simp [inMram_register _ hge])]
  simp [hb, hh, hw]

/-- Which slots are loaded depends on the part, the image and its status alone. -/
theorem Lane.SlotAside.loadedSlot {t : Lane} (h : l.SlotAside t) (a : Nat) : t.loadedSlot a = l.loadedSlot a := by
  have hslot : t.rd SY_IMGSTAT_SLOT = l.rd SY_IMGSTAT_SLOT := congrArg (fun w => getBits w _ _) h.reg
  have hon : t.on SY_IMGSTAT_LOADED = l.on SY_IMGSTAT_LOADED := congrArg (fun w => decide (getBits w _ _ ≠ 0)) h.reg
  rw [Lane.loadedSlot, Lane.loadedSlot, hslot, hon, h.part, h.im]

theorem Lane.loadedSlot_iff : l.loadedSlot a = true ↔ l.rd SY_IMGSTAT_LOADED = 1 ∧
    ((cfgSlot (l.rd SY_IMGSTAT_SLOT) ≤ a ∧ a < cfgSlot (l.rd SY_IMGSTAT_SLOT) + 0x200000) ∨
      (fwSlot l.part l.im.fwSlot ≤ a ∧ a < fwSlot l.part l.im.fwSlot + fwSize l.part)) := by
  have hlt : l.rd SY_IMGSTAT_LOADED < 2 := l.rd_lt _
  have hon : l.on SY_IMGSTAT_LOADED = true ↔ l.rd SY_IMGSTAT_LOADED = 1 := by
    rw [Lane.on, decide_eq_true_iff]
    omega
  rw [Lane.loadedSlot, Bool.and_eq_true, Bool.or_eq_true, inRange_iff, inRange_iff, hon]

/-! ### Writes to MRAM -/

theorem Lane.devWrite_mram (v : Word) (hn : n ∈ [1, 2, 4, 8]) (ha : a % n = 0) (h : inMram l.part a = true) :
    l.devWrite a n v = ({ l with busErr := false }.accessed a n).mramWrite a n v :=
  l.devWrite_place v (Lane.place_mram hn ha h) (l.downAt_below _ (inMram_bounds h).2)

theorem Lane.devWrite_loaded (v : Word) (hn : n ∈ [1, 2, 4, 8]) (ha : a % n = 0) (h : inMram l.part a = true)
    (hl : l.loadedSlot a = true) : l.devWrite a n v = ({ l with busErr := false }.accessed a n).set SY_IMGSTAT_SLOTWR := by
  have hload : ({ l with busErr := false }.accessed a n).loadedSlot a = true := ((Lane.accessed_slotAside _ a n).loadedSlot a).trans hl
  rw [Lane.devWrite_mram v hn ha h, Lane.mramWrite, if_pos hload]

theorem Lane.devWrite_unloaded (v : Word) (hn : n ∈ [1, 2, 4, 8]) (ha : a % n = 0) (h : inMram l.part a = true)
    (hl : l.loadedSlot a = false) (hd : inRange a (nbSlot l.part 0) 0x400000 = false) :
    l.devWrite a n v = ({ l with busErr := false }.accessed a n).setBytes a (leBytes n v.toNat) := by
  have haside := Lane.accessed_slotAside { l with busErr := false } a n
  have hload : ¬ ({ l with busErr := false }.accessed a n).loadedSlot a = true := by
    rw [haside.loadedSlot a]
    exact (Bool.eq_false_iff.mp hl)
  rw [Lane.devWrite_mram v hn ha h, Lane.mramWrite, if_neg hload, if_neg (by rw [haside.part]; exact Bool.eq_false_iff.mp hd)]

/-- The configuration slots and the firmware slots lie in MRAM, away from the dump slots. -/
theorem slot_in_mram (p : Part) (k : Fin 2)
    (h : (cfgSlot k ≤ a ∧ a < cfgSlot k + 0x200000) ∨ (fwSlot p k ≤ a ∧ a < fwSlot p k + fwSize p)) :
    inMram p a = true ∧ inRange a (nbSlot p 0) 0x400000 = false := by
  have hk : (k : Nat) < 2 := k.isLt
  have hbounds : 0x100000000 ≤ a ∧ a < 0x100400000 + 2 * fwSize p := by
    cases p <;> simp only [cfgSlot, fwSlot, fwSize, reduceCtorEq, if_false, if_true] at h ⊢ <;> omega
  cases p <;> simp [inMram, inRange, nbSlot, fwSize] at hbounds ⊢ <;> omega

end

/-- Settles O53: a write to MRAM is `Lane.mramWrite`, which asks for the loaded slots. -/
theorem loadedSlotIsWriteProtected : Obligations.LoadedSlotIsWriteProtected := by
  unfold Obligations.LoadedSlotIsWriteProtected
  intro s i a n v hr l inCfg inFw k hn ha ⟨j, hj⟩
  obtain ⟨hmram, hdump⟩ := slot_in_mram l.part j hj
  refine ⟨fun hload hin => ?_, fun hnot => ?_⟩
  · have hw := Lane.devWrite_loaded v hn ha hmram (Lane.loadedSlot_iff.mpr ⟨hload, hin⟩)
    exact ⟨by rw [exec_registerWrite_bus s i a n v hr, hw], hw⟩
  · have hl : l.loadedSlot a = false := Bool.eq_false_iff.mpr fun hon => by
      obtain ⟨hload, hin⟩ := Lane.loadedSlot_iff.mp hon
      rcases hnot with h0 | ⟨hc, hf⟩
      · exact absurd (hload.symm.trans h0) (by decide)
      · exact hin.elim hc hf
    have hw := Lane.devWrite_unloaded v hn ha hmram hl hdump
    exact ⟨by rw [exec_registerWrite_bus s i a n v hr, hw], hw⟩

/-! ### Writes to TCM and to the windows -/

section
variable {l : Lane} {a n : Nat}

theorem Lane.devWrite_tcm (v : Word) (hn : n ∈ [1, 2, 4, 8]) (ha : a % n = 0) (h : a < 0x400000) :
    l.devWrite a n v = ({ l with busErr := false }.accessed a n).setBytes a (leBytes n v.toNat) :=
  l.devWrite_place v (Lane.place_tcm hn ha h) (l.downAt_below _ (by omega))

/-- The windows that firmware fills. -/
def Win.filled (w : Win) : Bool := decide (w = .txCmd ∨ w = .ttTx ∨ w = .canTx)

theorem Lane.devWrite_filled {b : Blk} {x : Ax} {o : Nat} {w : Win} (v : Word) (hn : n ∈ [1, 2, 4, 8]) (ha : a % n = 0)
    (hb : blockOf a = some (b, x, o)) (hh : l.hasBlock b x = true) (hw : winOf a = some w) (hf : w.filled = true)
    (hd : l.downAt a (.window w) = none) :
    l.devWrite a n v = ({ l with busErr := false }.accessed a n).setBytes a (leBytes n v.toNat) := by
  have hput : ∀ k : Lane, k.winWrite w a n v = k.setBytes a (leBytes n v.toNat) := fun k => by
    rcases of_decide_eq_true hf with rfl | rfl | rfl <;> rfl
  rw [l.devWrite_place v (Lane.place_window hn ha hb hh hw) hd, Lane.writeAt, hput]

/-- The blocks of axis 0 that every part has. -/
theorem Lane.hasBlock_x0 {b : Blk} (h : b ≠ .tq) : l.hasBlock b .x0 = true := by
  cases hp : l.part <;> simp [Lane.hasBlock, Part.hasAxis, h, hp]

theorem blockOf_lane {b : Blk} {k : Nat} (hlo : 0xF00000000 + 0x10000 * k ≤ a) (hhi : a < 0xF00000000 + 0x10000 * k + 0x10000)
    (hk : (k, b) ∈ [(7, Blk.gl), (11, .tt), (12, .cn)]) : blockOf a = some (b, .x0, a % 0x10000) := by
  have hq : (a - 0xF00000000) / 0x10000 = k := by omega
  simp only [List.mem_cons, Prod.mk.injEq, List.not_mem_nil, or_false] at hk
  rcases hk with ⟨rfl, rfl⟩ | ⟨rfl, rfl⟩ | ⟨rfl, rfl⟩ <;>
    simp only [blockOf, if_neg (show ¬ a < 0xF00000000 by omega), if_pos (show a < 0xF00110000 by omega), hq]

theorem winOf_txCmd (h : inRange a txCmd 112 = true) : winOf a = some .txCmd := by
  have hb := inRange_iff.mp h
  simp only [txCmd] at hb
  rw [winOf, if_neg (by rw [inRange_out (by omega)]; decide), if_pos h]

/-- The windows below the network's do not reach it. -/
theorem winOf_above (h : 0xF000B4000 ≤ a) : winOf a =
    if inRange a 0xF000B4000 0x2000 then some .ttTx else if inRange a 0xF000B8000 0x4000 then some .ttRx
    else if inRange a 0xF000C1000 0x200 then some .canTx else if inRange a rtokWin 192 then some .token else none := by
  have out : ∀ {base size : Nat}, base + size ≤ 0xF000B4000 → inRange a base size = false := fun hs => inRange_out (.inr (hs.trans h))
  rw [winOf, out (by decide), out (by decide), out (by decide), out (by decide), out (by decide), out (by decide)]
  rfl

theorem winOf_ttTx (h : inRange a 0xF000B4000 0x2000 = true) : winOf a = some .ttTx := by
  rw [winOf_above (inRange_iff.mp h).1, if_pos h]

theorem winOf_canTx (h : inRange a 0xF000C1000 0x200 = true) : winOf a = some .canTx := by
  have hb := inRange_iff.mp h
  rw [winOf_above (by omega), inRange_out (.inr (by omega)), inRange_out (.inr (by omega)), if_pos h]
  rfl

/-- A store to memory that firmware may fill writes its bytes, after it has stopped a slice of the block. -/
theorem Lane.devWrite_stores (v : Word) (hn : n ∈ [1, 2, 4, 8]) (ha : a % n = 0)
    (h : a < 0x400000 ∨ (inMram l.part a = true ∧ l.loadedSlot a = false ∧ inRange a (nbSlot l.part 0) 0x400000 = false) ∨
      inRange a txCmd 112 = true ∨
      (l.domOn .nw = true ∧ (inRange a 0xF000B4000 0x2000 = true ∨ inRange a 0xF000C1000 0x200 = true))) :
    l.devWrite a n v = ({ l with busErr := false }.accessed a n).setBytes a (leBytes n v.toNat) := by
  rcases h with htcm | ⟨hm, hl, hd⟩ | htx | ⟨hnw, htt | hcan⟩
  · exact Lane.devWrite_tcm v hn ha htcm
  · exact Lane.devWrite_unloaded v hn ha hm hl hd
  · have hb := inRange_iff.mp htx
    simp only [txCmd] at hb
    have hblk := blockOf_lane (a := a) (b := .gl) (k := 7) (by omega) (by omega) (by simp)
    exact Lane.devWrite_filled v hn ha hblk (Lane.hasBlock_x0 (by decide))
      (winOf_txCmd htx) rfl (l.downAt_of_cp _ hblk rfl)
  · have hb := inRange_iff.mp htt
    have hblk := blockOf_lane (a := a) (b := .tt) (k := 11) (by omega) (by omega) (by simp)
    exact Lane.devWrite_filled v hn ha hblk (Lane.hasBlock_x0 (by decide)) (winOf_ttTx htt) rfl (Lane.downAt_on _ hblk rfl hnw)
  · have hb := inRange_iff.mp hcan
    have hblk := blockOf_lane (a := a) (b := .cn) (k := 12) (by omega) (by omega) (by simp)
    exact Lane.devWrite_filled v hn ha hblk (Lane.hasBlock_x0 (by decide)) (winOf_canTx hcan) rfl (Lane.downAt_on _ hblk rfl hnw)

theorem length_leBytes (n v : Nat) : (leBytes n v).length = n := by
  induction n generalizing v with
  | zero => rfl
  | succ k ih => rw [leBytes, List.length_cons, ih]

/-- The bytes of a value, least significant first. -/
theorem getElem_leBytes (n v k : Nat) (h : k < (leBytes n v).length) : (leBytes n v)[k] = BitVec.ofNat 8 (v / 256 ^ k) := by
  induction n generalizing v k with
  | zero => exact absurd h (Nat.not_lt_zero k)
  | succ n ih =>
    cases k with
    | zero => simp [leBytes]
    | succ k =>
      simp only [leBytes, List.getElem_cons_succ, ih, Nat.pow_succ', Nat.div_div_eq_div_mul]

end

/-- Settles O60: the store is one write of bytes at the place. -/
theorem storesStayInTheirBytes : Obligations.StoresStayInTheirBytes := by
  unfold Obligations.StoresStayInTheirBytes
  intro s i a n v hr l hn ha hplace k
  have hmem : k.mem = l.mem := (Lane.accessed_hqAside { l with busErr := false } a n).mem
  have hme : k.me = l.me := (Lane.Keeps.accessed (.refl { l with busErr := false })).me
  have hgen : k.tcmGen = l.tcmGen := (Lane.accessed_slotAside { l with busErr := false } a n).tcmGen
  have hbyte : ∀ b, k.byte b = l.byte b := fun b => by rw [Lane.byte, Lane.byte, hmem, hme, hgen]
  obtain ⟨m, hm⟩ := k.setBytes_form a (leBytes n v.toNat)
  refine ⟨k.setBytes a (leBytes n v.toNat), ?_, by rw [hm], hmem, fun b hb => ?_, fun j hj => ?_⟩
  · rw [exec_registerWrite_bus s i a n v hr, Lane.devWrite_stores v hn ha hplace]
  · rw [k.byte_setBytes_out a b _ (by rwa [length_leBytes]), hbyte]
  · rw [k.byte_setBytes a j _ (by rwa [length_leBytes]), getElem_leBytes]

/-! ### The widths of an access -/

section
variable {l : Lane} {a n : Nat}

theorem Lane.devRead_no_place (h : l.place a n = none) : l.devRead a n = l.busError := by
  simp [Lane.devRead, h]

theorem Lane.devRead_nothing (hp : l.place a n = some .nothing) :
    l.devRead a n = ({ l with busErr := false }.accessed a n).returns 0#64 := by
  have hd : { l with busErr := false }.downAt a .nothing = none := by
    unfold Lane.downAt
    cases domAt a <;> simp
  simp [Lane.devRead, hp, hd]

theorem Lane.devRead_tcm (hn : n ∈ [1, 2, 4, 8]) (ha : a % n = 0) (h : a < 0x400000) :
    l.devRead a n = ({ l with busErr := false }.accessed a n).returns (gather ({ l with busErr := false }.accessed a n).byte a n) := by
  have hd : { l with busErr := false }.downAt a .tcm = none := Lane.downAt_below _ _ (by omega)
  simp only [Lane.devRead, Lane.place_tcm hn ha h, hd]

/-- A register takes its own width, and one of 64 bits its halves. -/
theorem regPlace_misfit (b : Blk) (x : Ax) {d : RegDesc} (hd : descOf a = some d) (hw : 8 * n ≠ d.wide) (hh : ¬ (d.wide = 64 ∧ n = 4)) :
    regPlace b x a n = none := by
  simp only [regPlace, hd, if_neg hw, if_neg hh]

theorem regPlace_empty (b : Blk) (x : Ax) (h : descOf a = none) (h4 : descOf (a - 4) = none) (ht : touchesReg a n = false) :
    regPlace b x a n = some .nothing := by
  simp [regPlace, h, h4, ht]

end

/-- Settles O54: what an access meets is `Lane.place`, which asks for its width first. -/
theorem accessesFollowTheirWidths : Obligations.AccessesFollowTheirWidths := by
  unfold Obligations.AccessesFollowTheirWidths
  intro s i hr l bad ok hst hcore a n v
  have hwrite : ∀ t, l.devWrite a n v = t → exec (.registerWrite i false a n v) s = .next (s.setLane i t.divApply) := fun t ht => by
    rw [exec_registerWrite_bus s i a n v hr, ← ht]
  have hread : ∀ t, l.devRead a n = t → exec (.coreDebug i (.read a n)) s = .next (s.setLane i t) := fun t ht => by
    rw [exec_coreDebug_read_held s i a n hr hst hcore, ← ht]
  have hbad : l.place a n = none → exec (.registerWrite i false a n v) s = .next (s.setLane i bad.divApply) ∧
      exec (.coreDebug i (.read a n)) s = .next (s.setLane i bad) := fun hp =>
    ⟨hwrite _ (l.devWrite_no_place v hp), hread _ (Lane.devRead_no_place hp)⟩
  refine ⟨fun hmis => hbad (Lane.place_misfit hmis), fun hn ha => ⟨fun htcm => ⟨hwrite _ (Lane.devWrite_tcm v hn ha htcm),
    _, hread _ (Lane.devRead_tcm hn ha htcm)⟩, fun b x o hb hh hw ht => ?_⟩⟩
  have hplace := l.place_of_block hn ha hb hh hw ht
  refine ⟨fun d hd hwide hhalf => hbad (hplace.trans (regPlace_misfit b x hd hwide hhalf)), fun hd hd4 htouch => ?_⟩
  have hnothing := hplace.trans (regPlace_empty b x hd hd4 htouch)
  have hsame : ok.accessed a n = ok := ok.accessed_register n (blockOf_some_ge hb)
  exact ⟨hwrite _ ((l.devWrite_nothing v hnothing).trans hsame),
    hread _ ((Lane.devRead_nothing hnothing).trans (congrArg (·.returns 0#64) hsame))⟩

end Sys2Proof.Machine
end

section
/-!
OBLIGATIONS O39, O52. The CAN FD controller: what each of its commands does, and which buffer goes first.
-/

namespace Sys2Proof.Machine

section
variable {l : Lane}

/-! ### Reception (R441) -/

/-- The lane after the counters have noted a good frame. -/
def Lane.cnNoted (l : Lane) : Lane := l.when (!l.on CN_CFG_LISTEN) Lane.cnHeard

theorem Lane.cnReceive_unheard {f : CanFrame} (h : l.cnOn = false ∨ l.cnFormat f.header = false) : l.cnReceive f = l := if_pos h

theorem Lane.cnReceive_heard {f : CanFrame} (hon : l.cnOn = true) (hf : l.cnFormat f.header = true) :
    l.cnReceive f = match l.cnNoted.cnFilter (f.header % 2 ^ 30) with
      | none => l.cnNoted.bump CN_CNT_NOMATCH
      | some n => if f.data.length ≤ 48 then l.cnNoted.hamperPush (l.cnNoted.rd (CN_FMAP_HQ n)) (l.cnNoted.rd (CN_FMAP_PRIO n))
            [cnEntry f n false f.data] .none
          else l.cnNoted.hamperPush (l.cnNoted.rd (CN_FMAP_HQ n)) (l.cnNoted.rd (CN_FMAP_PRIO n))
            [cnEntry f n true (f.data.take 48), cnEntry f n false (f.data.drop 48)] .none := by
  rw [Lane.cnReceive, if_neg (by simp [hon, hf])]
  rfl

theorem Lane.cnReceive_unmatched {f : CanFrame} (hon : l.cnOn = true) (hf : l.cnFormat f.header = true)
    (hm : l.cnNoted.cnFilter (f.header % 2 ^ 30) = none) : l.cnReceive f = l.cnNoted.bump CN_CNT_NOMATCH := by
  rw [Lane.cnReceive_heard hon hf, hm]

theorem Lane.cnReceive_short {f : CanFrame} {n : Nat} (hon : l.cnOn = true) (hf : l.cnFormat f.header = true)
    (hm : l.cnNoted.cnFilter (f.header % 2 ^ 30) = some n) (hlen : f.data.length ≤ 48) :
    l.cnReceive f = l.cnNoted.hamperPush (l.cnNoted.rd (CN_FMAP_HQ n)) (l.cnNoted.rd (CN_FMAP_PRIO n)) [cnEntry f n false f.data] .none := by
  rw [Lane.cnReceive_heard hon hf, hm]
  exact if_pos hlen

theorem Lane.cnReceive_long {f : CanFrame} {n : Nat} (hon : l.cnOn = true) (hf : l.cnFormat f.header = true)
    (hm : l.cnNoted.cnFilter (f.header % 2 ^ 30) = some n) (hlen : 48 < f.data.length) :
    l.cnReceive f = l.cnNoted.hamperPush (l.cnNoted.rd (CN_FMAP_HQ n)) (l.cnNoted.rd (CN_FMAP_PRIO n))
      [cnEntry f n true (f.data.take 48), cnEntry f n false (f.data.drop 48)] .none := by
  rw [Lane.cnReceive_heard hon hf, hm]
  exact if_neg (Nat.not_le.mpr hlen)

/-! ### Transmission (R442) -/

/-- Buffer n ends its pending with its frame sent. -/
def Lane.cnDone (l : Lane) (n : Nat) : Lane := (l.cnUnpend n).wr CN_TXSTAT_DONE (l.rd CN_TXSTAT_DONE ||| 2 ^ n)

/-- The lane when the frame of buffer n has gone out, before the error counters follow. -/
def Lane.cnGone (l : Lane) (n : Nat) : Lane :=
  (((l.cnDone n).bump CN_CNT_TXDONE).send (.can n ((l.cnDone n).cnFrame n))).event 113

theorem Lane.cnSent_none (h : l.cnNext = none ∨ l.cnOn = false ∨ l.on CN_CFG_LISTEN = true) (ok : Bool) : l.cnSent ok = l := by
  unfold Lane.cnSent
  split
  · rfl
  · next hn => exact if_pos (h.resolve_left (by simp [hn]))

theorem Lane.cnSent_some {n : Nat} (hn : l.cnNext = some n) (hon : l.cnOn = true) (hl : l.on CN_CFG_LISTEN = false) (ok : Bool) :
    l.cnSent ok = if ok then (l.cnGone n).cnState ((l.cnGone n).rd CN_STAT_TEC - 1) ((l.cnGone n).rd CN_STAT_REC)
      else if l.on CN_CFG_ONESHOT then l.cnUnpend n else l := by
  simp only [Lane.cnSent, hn, hon, hl, Bool.true_eq_false, Bool.false_eq_true, or_self, if_false]
  rfl

theorem Lane.cnSent_lost {n : Nat} (hn : l.cnNext = some n) (hon : l.cnOn = true) (hl : l.on CN_CFG_LISTEN = false) :
    l.cnSent false = if l.on CN_CFG_ONESHOT then l.cnUnpend n else l := Lane.cnSent_some hn hon hl false

/-! ### Errors and recovery (R439) -/

/-- A protocol error is noted and reported. -/
def Lane.cnFault (l : Lane) (lec : Nat) : Lane :=
  (((l.wr CN_STAT_LEC lec).bump CN_CNT_PROTO).raiseOnce srcCN 3 clsCE none (((l.wr CN_STAT_LEC lec).bump CN_CNT_PROTO).dataOf
    CN_STAT_TEC.addr)).event 114

/-- In one-shot mode the transmitter gives its frame up. -/
def Lane.cnGiveUp (l : Lane) : Lane :=
  match l.cnNext with
  | some n => if l.on CN_CFG_ONESHOT then l.cnUnpend n else l
  | none => l

theorem Lane.cnError_off (h : l.cnOn = false) (lec : Nat) (tx heavy : Bool) : l.cnError lec tx heavy = l := if_pos h

/-- What follows the report, by the side on which the controller is. -/
def Lane.cnErrorTail (b : Lane) (lec : Nat) (tx heavy : Bool) : Lane :=
  let l := match b.cnNext with
    | some n => if tx && b.on CN_CFG_ONESHOT then b.cnUnpend n else b
    | none => b
  if l.on CN_CFG_LISTEN then l
  else if tx then
    if !heavy && (lec = 1 || (lec = 3 && l.on CN_STAT_PASSIVE)) then l else l.cnState (l.rd CN_STAT_TEC + 8) (l.rd CN_STAT_REC)
  else l.cnState (l.rd CN_STAT_TEC) (l.rd CN_STAT_REC + (if heavy then 8 else 1))

theorem Lane.cnError_on (h : l.cnOn = true) (lec : Nat) (tx heavy : Bool) :
    l.cnError lec tx heavy = (l.cnFault lec).cnErrorTail lec tx heavy := if_neg (by simp [h])

theorem Lane.cnErrorTail_tx (b : Lane) (lec : Nat) (heavy : Bool) :
    b.cnErrorTail lec true heavy = if b.cnGiveUp.on CN_CFG_LISTEN then b.cnGiveUp
      else if !heavy && (lec = 1 || (lec = 3 && b.cnGiveUp.on CN_STAT_PASSIVE)) then b.cnGiveUp
      else b.cnGiveUp.cnState (b.cnGiveUp.rd CN_STAT_TEC + 8) (b.cnGiveUp.rd CN_STAT_REC) := by
  simp only [Lane.cnErrorTail, Bool.true_and, if_true]
  rfl

theorem Lane.cnErrorTail_rx (b : Lane) (lec : Nat) (heavy : Bool) :
    b.cnErrorTail lec false heavy = if b.on CN_CFG_LISTEN then b
      else b.cnState (b.rd CN_STAT_TEC) (b.rd CN_STAT_REC + (if heavy then 8 else 1)) := by
  have hkept : (match b.cnNext with
      | some n => if (false && b.on CN_CFG_ONESHOT) = true then b.cnUnpend n else b
      | none => b) = b := by
    split
    · rfl
    · rfl
  unfold Lane.cnErrorTail
  rw [hkept]
  rfl

theorem Lane.cnRecover_on (h : l.on CN_STAT_BUSOFF = true) : l.cnRecover = { l with cn := { l.cn with recovering := true } } := if_pos h

theorem Lane.cnRecover_off (h : l.on CN_STAT_BUSOFF = false) : l.cnRecover = l := if_neg (Bool.eq_false_iff.mp h)

theorem Lane.cnRecovered_on (h : l.on CN_STAT_BUSOFF = true) (hr : l.cn.recovering = true) :
    l.cnRecovered = Lane.cnState { l with cn := { l.cn with recovering := false } } 0 0 := if_pos ⟨h, hr⟩

theorem Lane.cnRecovered_off (h : l.on CN_STAT_BUSOFF = false ∨ l.cn.recovering = false) : l.cnRecovered = l :=
  if_neg fun ⟨hb, hr⟩ => h.elim (fun h => by simp [h] at hb) (fun h => by simp [h] at hr)

end

/-- Settles O39: each command by the case of its function that the state selects. -/
theorem canCommandsComplete : Obligations.CanCommandsComplete := by
  unfold Obligations.CanCommandsComplete
  intro s i hr l
  refine ⟨fun f h => State.actD_ignored hr (Lane.cnReceive_unheard h), fun f hon hf => ⟨fun hm => State.actD_to hr
      (Lane.cnReceive_unmatched hon hf hm), fun n hm => ⟨fun hlen => State.actD_to hr (Lane.cnReceive_short hon hf hm hlen),
      fun hlen => State.actD_to hr (Lane.cnReceive_long hon hf hm hlen)⟩⟩,
    fun n hn hon hlis => State.actD_to hr (Lane.cnSent_some hn hon hlis true),
    fun n hn hon hlis => ⟨fun hos => State.actD_to hr ((Lane.cnSent_lost hn hon hlis).trans (if_pos hos)),
      fun hos => State.actD_ignored hr ((Lane.cnSent_lost hn hon hlis).trans (if_neg (Bool.eq_false_iff.mp hos)))⟩,
    fun h ok => State.actD_ignored hr (Lane.cnSent_none h ok),
    fun h lec tx heavy => State.actD_ignored hr (Lane.cnError_off h lec tx heavy), fun lec heavy hon => ?_,
    fun h => State.actD_ignored hr (Lane.cnRecovered_off h),
    fun h => ?_, fun h hrec => State.actD_to hr (Lane.cnRecovered_on h hrec), fun m => State.accD_ready s i _ _ _ hr, fun h => ?_,
    State.accD_ready s i _ _ _ hr⟩
  · have hlight : ∀ c : Lane, (!heavy && (lec.val = 1 || (lec.val = 3 && c.on CN_STAT_PASSIVE))) = true ↔
        heavy = false ∧ (lec.val = 1 ∨ (lec.val = 3 ∧ c.on CN_STAT_PASSIVE = true)) := fun c => by simp
    refine ⟨fun hlis hl => State.actD_to hr ((Lane.cnError_on hon lec true heavy).trans (Lane.cnErrorTail_tx _ lec heavy) |>.trans ?_),
      fun hl => State.actD_to hr ((Lane.cnError_on hon lec true heavy).trans (Lane.cnErrorTail_tx _ lec heavy) |>.trans ?_),
      fun hlis => State.actD_to hr ((Lane.cnError_on hon lec true heavy).trans (Lane.cnErrorTail_tx _ lec heavy) |>.trans (if_pos hlis)),
      fun hlis => State.actD_to hr ((Lane.cnError_on hon lec false heavy).trans (Lane.cnErrorTail_rx _ lec heavy)
        |>.trans (if_neg (Bool.eq_false_iff.mp hlis))),
      fun hlis => State.actD_to hr ((Lane.cnError_on hon lec false heavy).trans (Lane.cnErrorTail_rx _ lec heavy) |>.trans (if_pos hlis))⟩
    · exact (if_neg (Bool.eq_false_iff.mp hlis)).trans (if_neg fun h => hl ((hlight _).mp h))
    · exact ite_eq_left_iff.mpr fun _ => if_pos ((hlight _).mpr hl)
  · exact (State.accD_ready s i _ _ _ hr).trans (by rw [State.inLane, Lane.cnRecover_off h, State.setLane_lane])
  · exact (State.accD_ready s i _ _ _ hr).trans (by rw [State.inLane, Lane.cnRecover_on h])

/-! ### The buffer that goes first (R442) -/

/-- The choice between the buffer found so far and the next one: a lower key takes its place. -/
def lowerOf (key : Nat → Nat) (a : Option Nat) (n : Nat) : Option Nat :=
  match a with
  | none => some n
  | some b => if key n < key b then some n else some b

/-- Of rising numbers, the one that stays has the lowest key, and of equal keys the lowest number. -/
theorem foldl_lowerOf (key : Nat → Nat) {xs : List Nat} {b : Nat} (hs : (b :: xs).Pairwise (· < ·)) :
    ∃ r ∈ b :: xs, xs.foldl (lowerOf key) (some b) = some r ∧ ∀ x ∈ b :: xs, key r < key x ∨ (key r = key x ∧ r ≤ x) := by
  induction xs generalizing b with
  | nil => exact ⟨b, .head _, rfl, fun x hx => .inr (by simp [List.mem_singleton.mp hx])⟩
  | cons n r ih =>
    obtain ⟨hb, hn, hr⟩ := (List.pairwise_cons.trans (and_congr_right fun _ => List.pairwise_cons)).mp hs
    have hbn : b < n := hb n (.head _)
    by_cases hlt : key n < key b
    · obtain ⟨y, hy, hf, hmin⟩ := ih (List.pairwise_cons.mpr ⟨hn, hr⟩)
      refine ⟨y, .tail _ hy, by rw [List.foldl_cons, lowerOf, if_pos hlt, hf], fun x hx => ?_⟩
      rcases List.mem_cons.mp hx with rfl | hx
      · have := hmin n (.head _)
        omega
      · exact hmin x hx
    · obtain ⟨y, hy, hf, hmin⟩ := ih (List.pairwise_cons.mpr ⟨fun z hz => hb z (.tail _ hz), hr⟩)
      refine ⟨y, ?_, by rw [List.foldl_cons, lowerOf, if_neg hlt, hf], fun x hx => ?_⟩
      · rcases List.mem_cons.mp hy with rfl | hy
        · exact .head _
        · exact .tail _ (.tail _ hy)
      · rcases List.mem_cons.mp hx with rfl | hx
        · exact hmin _ (.head _)
        · rcases List.mem_cons.mp hx with rfl | hx
          · have := hmin b (.head _)
            omega
          · exact hmin x (.tail _ hx)

section
variable {l : Lane}

/-- Whether a buffer can go: pending, in a format that the controller sends. -/
def Lane.cnRipe (l : Lane) (n : Nat) : Bool := (l.rd CN_TXSTAT_PEND).testBit n && l.cnFormat (l.rd (CN_TXHDR n))

theorem Lane.cnNext_eq : l.cnNext = ((List.range 8).filter l.cnRipe).foldl (lowerOf fun n => l.rd (CN_TXHDR n) % 2 ^ 29) none := rfl

/-- Where some buffer can go, the one that goes first has the lowest ID, and of equal IDs the lowest number. -/
theorem Lane.cnNext_lowest (h : ∃ k : Fin 8, l.cnRipe k = true) :
    ∃ n : Fin 8, l.cnNext = some n.val ∧ l.cnRipe n = true ∧ ∀ k : Fin 8, l.cnRipe k = true →
      l.rd (CN_TXHDR n) % 2 ^ 29 < l.rd (CN_TXHDR k) % 2 ^ 29 ∨ (l.rd (CN_TXHDR n) % 2 ^ 29 = l.rd (CN_TXHDR k) % 2 ^ 29 ∧ n ≤ k) := by
  obtain ⟨k0, hk0⟩ := h
  have hin : ∀ k, k ∈ (List.range 8).filter l.cnRipe ↔ k < 8 ∧ l.cnRipe k = true := fun k => by simp [List.mem_filter]
  have hrise : ((List.range 8).filter l.cnRipe).Pairwise (· < ·) := List.pairwise_lt_range.filter _
  rw [Lane.cnNext_eq]
  match hl : (List.range 8).filter l.cnRipe with
  | [] => exact absurd ((hin k0).mpr ⟨k0.isLt, hk0⟩) (by simp [hl])
  | b :: r =>
    rw [hl] at hin hrise
    obtain ⟨n, hn, hf, hmin⟩ := foldl_lowerOf (fun n => l.rd (CN_TXHDR n) % 2 ^ 29) hrise
    obtain ⟨hn8, hripe⟩ := (hin n).mp hn
    exact ⟨⟨n, hn8⟩, hf, hripe, fun k hk => hmin k ((hin k).mpr ⟨k.isLt, hk⟩)⟩

/-! ### The marks of the buffers -/

theorem testBit_keep (n k : Fin 8) : (255 - 2 ^ n.val).testBit k.val = decide (k ≠ n) := by decide +revert

theorem testBit_low (x : Nat) (k : Fin 8) : (x % 2 ^ 8).testBit k = x.testBit k := by
  rw [Nat.testBit_mod_two_pow, decide_eq_true k.isLt, Bool.true_and]

theorem Lane.pend_cnUnpend (n k : Fin 8) :
    ((l.cnUnpend n).rd CN_TXSTAT_PEND).testBit k = ((l.rd CN_TXSTAT_PEND).testBit k && decide (k ≠ n)) := by
  rw [Lane.cnUnpend, l.rd_wr _ _ (by decide)]
  exact (testBit_low _ k).trans ((Nat.testBit_and _ _ _).trans (by rw [testBit_keep]))

theorem Lane.pend_cnDone (n k : Fin 8) :
    ((l.cnDone n).rd CN_TXSTAT_PEND).testBit k = ((l.rd CN_TXSTAT_PEND).testBit k && decide (k ≠ n)) := by
  rw [Lane.cnDone, Lane.rd_wr_disj _ _ _ _ (by decide), Lane.pend_cnUnpend]

theorem Lane.done_cnDone (n : Fin 8) : ((l.cnDone n).rd CN_TXSTAT_DONE).testBit n = true := by
  rw [Lane.cnDone, Lane.rd_wr _ _ _ (by decide)]
  exact (testBit_low _ n).trans ((Nat.testBit_or _ _ _).trans (by rw [Nat.testBit_two_pow_self, Bool.or_true]))

theorem Lane.pend_cnReq (m : Byte) (k : Fin 8) :
    ((l.cnReq m.toNat).rd CN_TXSTAT_PEND).testBit k = ((l.rd CN_TXSTAT_PEND).testBit k || m.getLsbD k) := by
  rw [Lane.cnReq, Lane.rd_wr_disj _ _ _ _ (by decide), Lane.rd_wr _ _ _ (by decide)]
  exact (testBit_low _ k).trans ((Nat.testBit_or _ _ _).trans (by rw [BitVec.testBit_toNat]))

theorem Lane.bytes_congr {t : Lane} (h : ∀ a, t.byte a = l.byte a) (a n : Nat) : t.bytes a n = l.bytes a n := by
  induction n generalizing a with
  | zero => rfl
  | succ n ih => rw [Lane.bytes, Lane.bytes, h, ih]

/-- The frame of a buffer is what its registers and its window hold. -/
theorem Lane.cnFrame_cnDone (n : Fin 8) : (l.cnDone n).cnFrame n = l.cnFrame n := by
  have hreg : ∀ a, a ≠ CN_TXSTAT_PEND.addr → (l.cnDone n).reg a = l.reg a := fun a ha =>
    (Lane.reg_wr_ne _ CN_TXSTAT_DONE _ a ha).trans (l.reg_wr_ne CN_TXSTAT_PEND _ a ha)
  have hfld : ∀ f : Fld, f.addr ≠ CN_TXSTAT_PEND.addr → (l.cnDone n).rd f = l.rd f := fun f hf => by
    rw [Lane.rd, Lane.rd, hreg _ hf]
  have hhdr := hfld (CN_TXHDR n) (by simp only [CN_TXHDR, CN_TXSTAT_PEND]; omega)
  have hdlc := hfld (CN_TXDLC_DLC n) (by simp only [CN_TXDLC_DLC, CN_TXSTAT_PEND]; omega)
  have hrtr := hfld (CN_TXDLC_RTR n) (by simp only [CN_TXDLC_RTR, CN_TXSTAT_PEND]; omega)
  have hbytes : ∀ a k, (l.cnDone n).bytes a k = l.bytes a k := Lane.bytes_congr fun _ => rfl
  rw [Lane.cnFrame, Lane.cnFrame, Lane.on, Lane.on, hhdr, hdlc, hrtr, hbytes]

/-- One lane comes from another by operations that send nothing and leave the marks of the buffers. -/
structure Lane.CnQuiet (l t : Lane) : Prop where
  out : t.out = l.out
  reg : t.reg CN_TXSTAT_PEND.addr = l.reg CN_TXSTAT_PEND.addr

theorem Lane.CnQuiet.refl (l : Lane) : l.CnQuiet l := ⟨rfl, rfl⟩

section
variable {t : Lane} (h : l.CnQuiet t)
include h

theorem Lane.CnQuiet.wr {f : Fld} {v : Nat} (hf : f.addr ≠ CN_TXSTAT_PEND.addr) : l.CnQuiet (t.wr f v) :=
  ⟨h.out, (t.reg_wr_ne f v _ hf.symm).trans h.reg⟩

theorem Lane.CnQuiet.raise {src kind cls : Nat} {x : Option Ax} {d : Nat} : l.CnQuiet (t.raise src kind cls x d) :=
  ⟨(t.raise_out src kind cls x d).trans h.out, (t.reg_raise_ne src kind cls x d _ (by decide)).trans h.reg⟩

theorem Lane.CnQuiet.event {n : Nat} (hn : (SY_EVSTAT_EV (n / 32)).addr ≠ CN_TXSTAT_PEND.addr) : l.CnQuiet (t.event n) :=
  ⟨(t.event_out n).trans h.out, (t.reg_event_ne n _ hn.symm).trans h.reg⟩

theorem Lane.CnQuiet.when {c : Bool} {f : Lane → Lane} (hf : ∀ k, l.CnQuiet k → l.CnQuiet (f k)) : l.CnQuiet (t.when c f) := by
  unfold Lane.when
  split
  · exact hf t h
  · exact h

/-- The error counters send nothing, and have a register of their own. -/
theorem Lane.CnQuiet.cnState {tec rec : Nat} : l.CnQuiet (t.cnState tec rec) := by
  have hstates : ∀ a b c d e, l.CnQuiet (((((t.wr CN_STAT_TEC a).wr CN_STAT_REC b).put CN_STAT_WARN c).put CN_STAT_PASSIVE d).put
      CN_STAT_BUSOFF e) := fun _ _ _ _ _ =>
    ((((h.wr (by decide)).wr (by decide)).wr (by decide)).wr (by decide)).wr (by decide)
  have hcn : ∀ {k : Lane} {v}, l.CnQuiet k → l.CnQuiet { k with cn := v } := fun hk => ⟨hk.out, hk.reg⟩
  have hraised := fun {a b c d e} {p q : Bool} {x y : Nat} => ((hstates a b c d e).when (c := p) fun _ hk => hk.raise (src := srcCN) (kind := 2)
    (cls := clsCE) (x := none) (d := x)).when (c := q) fun k hk => (hcn hk (v := { k.cn with recovering := k.on CN_CFG_AUTOREC })).raise
    (src := srcCN) (kind := 1) (cls := clsUC) (x := none) (d := y)
  unfold Lane.cnState
  dsimp only
  split
  · exact hraised
  · exact hraised.event (by decide)

end

theorem Lane.cnGone_out (n : Fin 8) : (l.cnGone n).out = l.out ++ [.can n (l.cnFrame n)] := by
  rw [Lane.cnGone, Lane.event_out, Lane.cnFrame_cnDone, Lane.send, Lane.bump_out]
  rfl

theorem Lane.cnGone_reg (n : Nat) : (l.cnGone n).reg CN_TXSTAT_PEND.addr = (l.cnDone n).reg CN_TXSTAT_PEND.addr :=
  (Lane.reg_event_ne _ 113 _ (by decide)).trans ((l.cnDone n).reg_bump_ne CN_CNT_TXDONE _ (by decide))

end

/-- Settles O52: the fold of `Lane.cnNext` finds the lowest key, and the marks change for that buffer alone. -/
theorem lowestCanIdGoesFirst : Obligations.LowestCanIdGoesFirst := by
  unfold Obligations.LowestCanIdGoesFirst
  intro s i hr l pend ripe id
  refine ⟨fun hon hlis hripe => ?_, fun m => ⟨l.cnReq m.toNat, State.accD_ready s i _ _ _ hr, fun k => l.pend_cnReq m k⟩⟩
  obtain ⟨n, hn, hnripe, hmin⟩ := Lane.cnNext_lowest hripe
  have hpend : pend l n = true := (Bool.and_eq_true_iff.mp hnripe).1
  refine ⟨n, hnripe, hmin, ?_, ?_⟩
  · have hquiet := (Lane.CnQuiet.refl (l.cnGone n)).cnState (tec := (l.cnGone n).rd CN_STAT_TEC - 1) (rec := (l.cnGone n).rd CN_STAT_REC)
    have hreg := hquiet.reg.trans (l.cnGone_reg n)
    have hmark : ∀ f : Fld, f.addr = CN_TXSTAT_PEND.addr → Lane.rd (Lane.cnState _ _ _) f = (l.cnDone n).rd f := fun f hf => by
      rw [Lane.rd, Lane.rd, hf, hreg]
    refine ⟨_, State.actD_to hr (Lane.cnSent_some hn hon hlis true), hquiet.out.trans (l.cnGone_out n), ?_, ?_, fun k hk => ?_⟩
    · simp only [pend, if_true, hmark CN_TXSTAT_PEND rfl, Lane.pend_cnDone]
      simp
    · simp only [if_true, hmark CN_TXSTAT_DONE rfl, Lane.done_cnDone]
    · simp only [pend, if_true, hmark CN_TXSTAT_PEND rfl, Lane.pend_cnDone]
      simp [hk]
  · refine ⟨_, State.actD_to hr (Lane.cnSent_lost hn hon hlis), ?_, ?_, fun k hk => ?_⟩
    · split
      · rfl
      · rfl
    · cases hos : l.on CN_CFG_ONESHOT with
      | true => simp [pend, Lane.pend_cnUnpend]
      | false => simpa [pend] using hpend
    · split
      · exact (l.pend_cnUnpend n k).trans (by simp [pend, hk])
      · rfl

end Sys2Proof.Machine
end

section
/-!
OBLIGATION O37. The network block: cycles, synchronisation, ports, partners and sending (spec/12_tt_network.md).
-/

namespace Sys2Proof.Machine

/-- A core access to a register of a domain that is ON, where its operation gives a lane. -/
theorem State.accD_to {s : State} {i : LaneId} {d : Dom} {r : RegAcc} {f : Lane → Lane} {t : Lane} (h : s.ready i (.domain d))
    (hf : f (s.lane i) = t) : s.accD i d r f = .next (s.setLane i t) := by
  rw [State.accD_ready s i d r f h, State.inLane, hf]

theorem State.accD_ignored {s : State} {i : LaneId} {d : Dom} {r : RegAcc} {f : Lane → Lane} (h : s.ready i (.domain d))
    (hf : f (s.lane i) = s.lane i) : s.accD i d r f = .next s := by
  rw [State.accD_to h hf, State.setLane_lane]

section
variable {l : Lane}

/-! ### Cycles and synchronisation (R410, R425, R429, R434; Table 12.4) -/

theorem Lane.cycleStart_at (hon : l.ttOn = true) (hm : l.ntMark 0 ttCycle = true) (hc : l.tt.cyc ≠ some (l.ntime / ttCycle)) :
    l.cycleStart =
      let a := l.when (decide (ssSync ≤ l.rd TT_STAT_SSTATE)) (fun l => l.each (List.range 4) Lane.portJudge)
      let b := a.each (List.range 32) Lane.ageStep
      let c := { b with tt := { b.tt with cyc := some (l.ntime / ttCycle), noRef := if b.tt.refSeen then 0 else b.tt.noRef + 1
                                          refSeen := false, viol := 0 } }
      (((c.wr TT_STAT_MSRC 3).wr TT_CYCLE_SLOT 0).wr TT_CYCLE_CYCLE (l.ntime / ttCycle % 65536)).event 96 :=
  if_neg (by simp [hon, hm, hc])

theorem Lane.cycleStart_off (h : l.ttOn = false ∨ l.ntMark 0 ttCycle = false ∨ l.tt.cyc = some (l.ntime / ttCycle)) : l.cycleStart = l :=
  if_pos h

theorem Lane.syncLoss_due (hon : l.ttOn = true) (hs : l.rd TT_STAT_SSTATE = ssSync) (hn : l.rd TT_MCFG_LOSS ≤ l.tt.noRef) :
    l.syncLoss = (l.setSync ssHold).raise srcTT 5 clsUC none ((l.setSync ssHold).dataOf TT_STAT_SSTATE.addr) := if_pos ⟨hon, hs, hn⟩

theorem Lane.syncLoss_not (h : l.ttOn = false ∨ l.rd TT_STAT_SSTATE ≠ ssSync ∨ l.tt.noRef < l.rd TT_MCFG_LOSS) : l.syncLoss = l :=
  if_neg fun ⟨hon, hs, hn⟩ => h.elim (fun h => by simp [h] at hon) fun h => h.elim (· hs) fun h => absurd h (Nat.not_lt.mpr hn)

theorem Lane.masterTake_due (hon : l.ttOn = true) (hs : l.rd TT_STAT_SSTATE = ssUnsync ∨ l.rd TT_STAT_SSTATE = ssHold)
    (hr : l.rd TT_MCFG_RANK ≠ 0) (hn : l.rd TT_MCFG_TAKE ≤ l.tt.noRef) : l.masterTake = l.setSync ssMaster := if_pos ⟨hon, hs, hr, hn⟩

theorem Lane.masterTake_not (h : l.ttOn = false ∨ (l.rd TT_STAT_SSTATE ≠ ssUnsync ∧ l.rd TT_STAT_SSTATE ≠ ssHold) ∨
    l.rd TT_MCFG_RANK = 0 ∨ l.tt.noRef < l.rd TT_MCFG_TAKE) : l.masterTake = l := by
  refine if_neg fun ⟨hon, hs, hr, hn⟩ => ?_
  rcases h with h | ⟨hu, hh⟩ | h | h
  · simp [h] at hon
  · exact hs.elim hu hh
  · exact hr h
  · exact absurd h (Nat.not_lt.mpr hn)

/-! ### Ports and partners (R434, R437, R438) -/

variable {p : Nat}

theorem Lane.portMute_due (hv : l.rd (TT_PORTSTAT_VIOL p) = 4) (hm : l.rd (TT_PORTSTAT_MUTED p) = 0) :
    l.portMute p = (((l.set (TT_PORTSTAT_MUTED p)).wr (TT_PORTSTAT_CLEAN p) 0).raise srcTT 3 clsUC none p).event 98 := if_pos ⟨hv, hm⟩

theorem Lane.portMute_not (h : l.rd (TT_PORTSTAT_VIOL p) ≠ 4 ∨ l.rd (TT_PORTSTAT_MUTED p) ≠ 0) : l.portMute p = l :=
  if_neg fun ⟨hv, hm⟩ => h.elim (· hv) (· hm)

theorem Lane.portUnmute_due (hc : l.rd (TT_PORTSTAT_CLEAN p) = 16) (hm : l.on (TT_PORTSTAT_MUTED p) = true) :
    l.portUnmute p = (((l.clr (TT_PORTSTAT_MUTED p)).wr (TT_PORTSTAT_CLEAN p) 0).wr (TT_PORTSTAT_VIOL p) 0).event 98 :=
  (if_pos hc).trans (if_pos hm)

theorem Lane.portUnmute_not (h : l.rd (TT_PORTSTAT_CLEAN p) ≠ 16 ∨ l.on (TT_PORTSTAT_MUTED p) = false) : l.portUnmute p = l :=
  ite_eq_right_iff.mpr fun hc => if_neg fun hm => h.elim (· hc) fun h => by simp [h] at hm

theorem Lane.linkChange_new {up : Bool} (h : l.on (TT_PORTSTAT_LINK p) ≠ up) :
    l.linkChange p up = ((l.put (TT_PORTSTAT_LINK p) up).raise srcTT 9 clsCE none (p + flagBit up 4)).event 101 := if_neg h

theorem Lane.linkChange_same : l.linkChange p (l.on (TT_PORTSTAT_LINK p)) = l := if_pos rfl

variable {m : Nat}

theorem Lane.partnerAbsent_present (ha : l.rd TT_ROLL_ABS ≤ (l.ttCount + 65536 - l.rd (TT_PTAB_LASTCYC m)) % 65536)
    (hs : l.rd (TT_PTAB_STATE m) = ptPresent) : l.partnerAbsent m = l.partnerSet m ptAbsent :=
  (if_neg (Nat.not_lt.mpr ha)).trans (if_pos hs)

theorem Lane.partnerAbsent_guest (ha : l.rd TT_ROLL_ABS ≤ (l.ttCount + 65536 - l.rd (TT_PTAB_LASTCYC m)) % 65536)
    (hs : l.rd (TT_PTAB_STATE m) = ptGuest) : l.partnerAbsent m = l.setReg (TT_PTAB_STATE m).addr 0#64 :=
  (if_neg (Nat.not_lt.mpr ha)).trans ((if_neg (by rw [hs]; decide)).trans (if_pos hs))

theorem Lane.partnerAbsent_not (h : (l.ttCount + 65536 - l.rd (TT_PTAB_LASTCYC m)) % 65536 < l.rd TT_ROLL_ABS ∨
    (l.rd (TT_PTAB_STATE m) ≠ ptPresent ∧ l.rd (TT_PTAB_STATE m) ≠ ptGuest)) : l.partnerAbsent m = l := by
  rcases h with h | ⟨hp, hg⟩
  · exact if_pos h
  · exact ite_eq_left_iff.mpr fun _ => (if_neg hp).trans (if_neg hg)

/-! ### The fetch point and the action point (R414, R419 to R421) -/

variable {k : Nat}

/-- An own slot that carries data, and not the reference. -/
def Lane.ownData (l : Lane) (k : Nat) : Prop := l.ttOn = true ∧ l.rd (TT_SLOTA_KIND k) = kOwn ∧ k ≠ 31 ∧ l.ownReference k = false

/-- What a fetch leaves: the state of the slot, and the frame that waits for the action point. -/
def Lane.fetchPut (l : Lane) (k : Nat) (q : TxSlot) : Lane :=
  { l with tt := { l.tt with tx := keyPut l.tt.tx k q, fetched := some ⟨k, q.age, !q.sent, l.bytes (ttTxBuf k) q.len⟩ } }

theorem Lane.fetchSlot_ready (h : (l.rd TT_TXPEND_RDY).testBit k = true) :
    l.fetchSlot k =
      let late := match (l.tt.slot k).rdyAt with
        | some t => decide (l.now < t + cycBus)
        | none => false
      let c := l.when late (fun l => l.set TT_STAT_TXLATE)
      (c.wr TT_TXPEND_RDY (c.rd TT_TXPEND_RDY &&& (2 ^ 32 - 1 - 2 ^ k))).fetchPut k
        { l.tt.slot k with age := 0, len := (l.tt.slot k).rdylen, sent := true } := by
  unfold Lane.fetchSlot
  rw [h]
  rfl

theorem Lane.fetchSlot_repeat (h : (l.rd TT_TXPEND_RDY).testBit k = false) (hs : (l.tt.slot k).sent = true) :
    l.fetchSlot k =
      (((l.fetchPut k { l.tt.slot k with age := Nat.min ((l.tt.slot k).age + 1) 15 }).bump TT_CNT_TXREP).raiseOnce srcTT 7 clsCE none
        (k + 256 * Nat.min ((l.tt.slot k).age + 1) 15)).event 102 := by
  unfold Lane.fetchSlot
  rw [h]
  generalize l.tt.slot k = q at hs ⊢
  obtain ⟨rdylen, len, age, sent, rdyAt⟩ := q
  obtain rfl : sent = _ := hs
  cases rdyAt with
  | none => exact if_pos rfl
  | some t => exact if_pos rfl

theorem Lane.fetchSlot_empty (h : (l.rd TT_TXPEND_RDY).testBit k = false) (hs : (l.tt.slot k).sent = false) :
    l.fetchSlot k = l.fetchPut k { l.tt.slot k with age := 15, len := 0 } := by
  unfold Lane.fetchSlot
  rw [h]
  generalize l.tt.slot k = q at hs ⊢
  obtain ⟨rdylen, len, age, sent, rdyAt⟩ := q
  obtain rfl : sent = _ := hs
  cases rdyAt with
  | none => rfl
  | some t => rfl

theorem Lane.fetch_at {n : Nat} (ho : l.ownData k) (hn : l.atSlot k 2000 = some n) (hf : l.tt.fetchAt ≠ some n) :
    l.fetch k = ({ l with tt := { l.tt with fetchAt := some n } } : Lane).fetchSlot k := by
  obtain ⟨hon, hkind, h31, href⟩ := ho
  rw [Lane.fetch, if_neg (by simp [hon, hkind, h31, href]), hn]
  exact if_neg hf

theorem Lane.fetch_not (h : ¬ l.ownData k ∨ ∀ n, l.atSlot k 2000 = some n → l.tt.fetchAt = some n) : l.fetch k = l := by
  unfold Lane.fetch
  split
  · rfl
  · next hown =>
    simp only [not_or, Bool.not_eq_false, Decidable.not_not, Bool.not_eq_true] at hown
    have hall := h.resolve_left (not_not_intro hown)
    split
    · next n hn => exact if_pos (hall n hn)
    · rfl

theorem Lane.slotSend_fetched {f : TxFrame} (ho : l.ownData k) (hf : l.tt.fetched = some f) (hk : f.slot = k)
    (hp : l.rd (TT_SLOTB_PORTS k) &&& l.portsUp ≠ 0) :
    l.slotSend k = ({ l with tt := { l.tt with fetched := none } } : Lane).send
      (.crelas (l.rd (TT_SLOTB_PORTS k) &&& l.portsUp) (l.frame k f.age f.nodata false f.data)) := by
  obtain ⟨-, hkind, h31, href⟩ := ho
  unfold Lane.slotSend
  rw [if_neg h31, if_neg (not_not_intro hkind), if_neg (Bool.eq_false_iff.mp href), hf]
  dsimp only
  rw [if_pos hk, if_neg hp]

theorem Lane.frameSend_at {n : Nat} (hon : l.ttOn = true) (hs : ssSync ≤ l.rd TT_STAT_SSTATE) (hn : l.atSlot k 0 = some n)
    (hf : l.tt.sentAt ≠ some n) : l.frameSend k = ({ l with tt := { l.tt with sentAt := some n } } : Lane).slotSend k := by
  rw [Lane.frameSend, if_neg (by simp [hon, hs]), hn]
  exact if_neg hf

theorem Lane.frameSend_not (h : l.ttOn = false ∨ l.rd TT_STAT_SSTATE < ssSync ∨ ∀ n, l.atSlot k 0 = some n → l.tt.sentAt = some n) :
    l.frameSend k = l := by
  unfold Lane.frameSend
  split
  · rfl
  · next hon =>
    have hall := (or_assoc.mpr h).resolve_left hon
    split
    · next n hn => exact if_pos (hall n hn)
    · rfl

/-! ### TXRDY (R419, R420) -/

variable {len : Nat}

theorem Lane.txReady_refused (h : l.rd (TT_SLOTA_KIND k) ≠ kOwn ∨ k = 31) :
    l.txReady k len = ((l.set TT_STAT_TXREJ).bump TT_TXREJCNT_TXREJ).raiseOnce srcTT 6 clsCE none k := if_pos h

theorem Lane.txReady_long (hk : l.rd (TT_SLOTA_KIND k) = kOwn) (h31 : k ≠ 31) (hl : l.rd (TT_SLOTA_MAXLEN k) < len) : l.txReady k len = l :=
  (if_neg (by simp [hk, h31])).trans (if_pos hl)

theorem Lane.txReady_marks (hk : l.rd (TT_SLOTA_KIND k) = kOwn) (h31 : k ≠ 31) (hl : len ≤ l.rd (TT_SLOTA_MAXLEN k)) :
    l.txReady k len =
      let a := l.wr TT_TXPEND_RDY (l.rd TT_TXPEND_RDY ||| 2 ^ k)
      { a with tt := { a.tt with tx := keyPut a.tt.tx k { a.tt.slot k with rdylen := len, rdyAt := some a.now } } } :=
  (if_neg (by simp [hk, h31])).trans (if_neg (Nat.not_lt.mpr hl))

end

/-- Settles O37: each command by the case of its function that the state selects. -/
theorem networkCommandsComplete : Obligations.NetworkCommandsComplete := by
  unfold Obligations.NetworkCommandsComplete
  intro s i hr l
  refine ⟨fun hon hm hc => State.actD_to hr (Lane.cycleStart_at hon hm hc), fun hon hs hn => State.actD_to hr (Lane.syncLoss_due hon hs hn),
    fun hon hs hrank hn => State.actD_to hr (Lane.masterTake_due hon hs hrank hn),
    fun p => ⟨fun hv hm => State.actD_to hr (Lane.portMute_due hv hm), fun hc hm => State.actD_to hr (Lane.portUnmute_due hc hm),
      fun up hup => State.actD_to hr (Lane.linkChange_new hup)⟩,
    fun m ha => ⟨fun hs => State.actD_to hr (Lane.partnerAbsent_present ha hs), fun hs => State.actD_to hr (Lane.partnerAbsent_guest ha hs)⟩,
    fun h => State.actD_ignored hr (Lane.cycleStart_off h), fun h => State.actD_ignored hr (Lane.syncLoss_not h),
    fun h => State.actD_ignored hr (Lane.masterTake_not h),
    fun p => ⟨fun h => State.actD_ignored hr (Lane.portMute_not h), fun h => State.actD_ignored hr (Lane.portUnmute_not h),
      State.actD_ignored hr Lane.linkChange_same⟩,
    fun m h => State.actD_ignored hr (Lane.partnerAbsent_not h), fun k => ?_,
    fun k len => ⟨fun h => State.accD_to hr (Lane.txReady_refused h),
      fun hk h31 hl => State.accD_ignored hr (Lane.txReady_long hk h31 hl),
      fun hk h31 hl => State.accD_to hr (Lane.txReady_marks hk h31 hl)⟩,
    fun m => State.accD_to hr rfl, State.accD_to hr rfl⟩
  intro own
  refine ⟨fun n ho hn hf => ⟨fun hrdy => ?_, fun hrdy hs => ?_, fun hrdy hs => ?_⟩, fun h => State.actD_ignored hr (Lane.fetch_not h),
    fun n hon hs hn hf => ⟨State.actD_to hr (Lane.frameSend_at hon hs hn hf), fun f ho hfet hk hp => ?_⟩,
    fun h => State.actD_ignored hr (Lane.frameSend_not h)⟩
  · exact State.actD_to hr ((Lane.fetch_at ho hn hf).trans (Lane.fetchSlot_ready hrdy))
  · exact State.actD_to hr ((Lane.fetch_at ho hn hf).trans (Lane.fetchSlot_repeat hrdy hs))
  · exact State.actD_to hr ((Lane.fetch_at ho hn hf).trans (Lane.fetchSlot_empty hrdy hs))
  · exact State.actD_to hr ((Lane.frameSend_at hon hs hn hf).trans (Lane.slotSend_fetched ho hfet hk hp))

/-! ### Reception (R422, R432, R433, R435) -/

/-- Whether a port is named for the window that a frame starts in. -/
def Lane.winNamed (l : Lane) (p k : Nat) : Bool :=
  decide (k = 31) || ((l.rd (TT_SLOTB_PORTS k)).testBit p && (decide (l.rd (TT_SLOTA_KIND k) = kRx) || decide (l.rd (TT_SLOTA_KIND k) = kFwd)))

/-- The lane with the edge of a frame shown, and its window taken. -/
def Lane.edgeNote (l : Lane) (p k e win : Nat) : Lane :=
  let a := (l.wr (TT_EDGE_SLOT p) k).wr (TT_EDGE_E_NS p) (Nat.min e 32767)
  { a with tt := { a.tt with wins := keyPut a.tt.wins p win } }

/-- The drift warning of a late start on a port that is not muted. -/
def Lane.driftCheck (b : Lane) (p k e id : Nat) : Lane :=
  b.when (decide (b.guardNs < 2 * e) && !b.on (TT_PORTSTAT_MUTED p)) (fun l => l.driftWarn p k id)

/-- The rest of a reception, in a given sync state, start and end of the frame. -/
def Lane.rxJudge (b : Lane) (p k trx e room : Nat) (f : CrelasFrame) (free start late : Bool) : Lane :=
  let l := b.when free (fun l => l.hubFree p f)
  if start = false then (if free then l else l.violation p)
  else
    let l := l.driftCheck p k e f.sender
    let l := l.when (!free && l.on TT_CFG_HUB && !l.on (TT_PORTSTAT_MUTED p))
      (fun l => l.hubSend (l.rd (TT_SLOTB_FWD k)) (if late then cutFrame f room else f))
    if late then (if free then l else l.violation p) else l.rxChecks p k trx f

section
variable {l : Lane} {p : Nat}

theorem Lane.rxFrame_deaf (f : CrelasFrame) (ago : Nat) (h : l.ttOn = false ∨ l.portsUp.testBit p = false) : l.rxFrame p f ago = l := if_pos h

theorem Lane.rxFrame_heard (f : CrelasFrame) (ago : Nat) (hon : l.ttOn = true) (hup : l.portsUp.testBit p = true) :
    l.rxFrame p f ago =
      let trx := l.ntime - ago
      let pos := trx + 100 - l.rd (TT_PDLY_NS p)
      let k := l.slotAt (pos % ttCycle)
      let e := pos % ttCycle - l.slotStart k
      let winEnd := if k = 31 then ttCycle else l.slotStart (k + 1)
      let win := 32 * (pos / ttCycle) + k
      (l.edgeNote p k e win).rxJudge p k trx e (winEnd - pos % ttCycle) f (decide (l.rd TT_STAT_SSTATE < ssSync))
        (l.winNamed p k && decide (e ≤ l.guardNs) && !decide (keyGet l.tt.wins p = some win)) (decide (winEnd < pos % ttCycle + f.span)) :=
  if_neg (by simp [hon, hup])

theorem Lane.winNamed_iff {k : Nat} : l.winNamed p k = true ↔ k = 31 ∨ ((l.rd (TT_SLOTB_PORTS k)).testBit p = true ∧
    (l.rd (TT_SLOTA_KIND k) = kRx ∨ l.rd (TT_SLOTA_KIND k) = kFwd)) := by
  simp [Lane.winNamed]

/-- A start out of its window, in a lane that is synchronised. -/
theorem Lane.rxJudge_stray (b : Lane) (k trx e room : Nat) (f : CrelasFrame) (late : Bool) :
    b.rxJudge p k trx e room f false false late = b.violation p := rfl

/-- A start in its window, in a lane that is synchronised and no hub. -/
theorem Lane.rxJudge_start (b : Lane) (k trx e room : Nat) (f : CrelasFrame) (late : Bool)
    (hub : (b.driftCheck p k e f.sender).on TT_CFG_HUB = false) :
    b.rxJudge p k trx e room f false true late =
      if late then (b.driftCheck p k e f.sender).violation p else (b.driftCheck p k e f.sender).rxChecks p k trx f := by
  have hwhen : b.when false (fun l => l.hubFree p f) = b := rfl
  unfold Lane.rxJudge
  rw [hwhen]
  dsimp only
  generalize b.driftCheck p k e f.sender = c at hub ⊢
  rw [hub]
  rfl

end

/-- Settles O38: a frame that is heard is judged by where it starts and ends. -/
theorem crelasReceptionCompletes : Obligations.CrelasReceptionCompletes := by
  unfold Obligations.CrelasReceptionCompletes
  intro s i p f ago hr l trx pos k e winEnd win named a b c
  refine ⟨fun h => State.actD_ignored hr (Lane.rxFrame_deaf f _ h), fun hon hup hs hub => ?_, State.actD_to hr rfl⟩
  have hsync : decide (l.rd TT_STAT_SSTATE < ssSync) = false := decide_eq_false (Nat.not_lt.mpr hs)
  have hheard := Lane.rxFrame_heard (p := p) f ago.toNat hon hup
  refine ⟨fun hn he hw => ?_, fun h => ?_⟩
  · have hstart : (l.winNamed p k && decide (e ≤ l.guardNs) && !decide (keyGet l.tt.wins p = some win)) = true := by
      simp [Lane.winNamed_iff.mpr hn, he, hw]
    have hjudge : ∀ late, _ = _ := fun late => Lane.rxJudge_start b k trx e (winEnd - pos % ttCycle) f late hub
    refine ⟨fun hend => State.actD_to hr (hheard.trans ?_), fun hend => State.actD_to hr (hheard.trans ?_)⟩
    · dsimp only
      rw [hsync, hstart, decide_eq_false (Nat.not_lt.mpr hend)]
      exact hjudge false
    · dsimp only
      rw [hsync, hstart, decide_eq_true hend]
      exact hjudge true
  · have hstart : (l.winNamed p k && decide (e ≤ l.guardNs) && !decide (keyGet l.tt.wins p = some win)) = false := by
      rcases h with h | h | h
      · simp [Bool.eq_false_iff.mpr fun hw => h (Lane.winNamed_iff.mp hw)]
      · simp [Nat.not_le.mpr h]
      · simp [h]
    refine State.actD_to hr (hheard.trans ?_)
    dsimp only
    rw [hsync, hstart]
    exact Lane.rxJudge_stray b k trx e _ f _

end Sys2Proof.Machine
end

section
/-!
OBLIGATIONS O40, O41. Power domains, sleep, wake and clocks (spec/13_power_clocks_wake.md).
-/

namespace Sys2Proof.Machine

/-! ### Events in the always-on domain (R567, R569) -/

/-- What a lane held in reset keeps of an event in AO. -/
def Lane.aoKept (l d : Lane) : Lane :=
  let a := (l.setReg WK_STAT_TQ.addr (d.reg WK_STAT_TQ.addr)).setReg WK_CNT_MATCH.addr (d.reg WK_CNT_MATCH.addr)
  { a with pw := { a.pw with alarm := d.pw.alarm } }

section
variable {s : State} {i : LaneId} {f : Lane → Lane} {t : Lane}

theorem State.inAo_to (h : s.ready i .wake) (hf : f (s.lane i) = t) : s.actAo i (fun l => l.inAo f) = .next (s.setLane i t) := by
  rw [State.actAo_awake s i f h.1 (by simpa [Gate.holds] using h.2), State.inLane, hf]

theorem State.inAo_ignored (h : s.ready i .wake) (hf : f (s.lane i) = s.lane i) : s.actAo i (fun l => l.inAo f) = .next s := by
  rw [State.inAo_to h hf, State.setLane_lane]

theorem State.inAo_held (hl : s.part.hasLane i = true) (hh : (s.lane i).sy.held = true) (hd : (s.lane i).sy.dead = false)
    (hf : f (s.lane i) = t) : s.actAo i (fun l => l.inAo f) = .next (s.setLane i ((s.lane i).aoKept t)) := by
  rw [State.actAo_ready s i _ ⟨hl, rfl⟩, State.inLane, Lane.inAo, if_pos hh, if_neg (Bool.eq_false_iff.mp hd), ← hf]
  rfl

theorem State.inAo_dead (hl : s.part.hasLane i = true) (hh : (s.lane i).sy.held = true) (hd : (s.lane i).sy.dead = true) :
    s.actAo i (fun l => l.inAo f) = .next s := by
  rw [State.actAo_ready s i _ ⟨hl, rfl⟩, State.inLane, Lane.inAo, if_pos hh, if_pos hd, State.setLane_lane]

end

section
variable {l : Lane}

/-! ### Domains (R447 to R449, R454, R456) -/

/-- A domain at the end of its move, with what it loses or finds. -/
def Lane.domArrived (l : Lane) (d : Nat) (m : DomMove) : Lane :=
  let a := { l with pw := { l.pw with moves := l.pw.moves.filter (fun k => k.dom ≠ d) } }
  let b := (a.setDom d m.target).event 160
  if m.target = 2 then b.domLose d else if m.target = 0 then b.domUp d else b

/-- CP back with its clocks: SC_TICK runs again. -/
def Lane.tickRestart (c : Lane) : Lane := { c with sc := { c.sc with tickAt := c.now, binAt := c.now, tickRun := true } }

/-- What follows for the sleep entry, the wake exit, or the request of the domain. -/
def Lane.domNext (c : Lane) (d target : Nat) : Lane :=
  if d = 0 then
    if target = 0 then (if c.tickRestart.pw.step = .cpUp then c.tickRestart.sleepBack else c.tickRestart)
    else c.sleepStep (.stop (c.now + usec))
  else if c.pw.step = .domains then c.sleepDomains
  else c.domFollow d

theorem Lane.domDone_none {d : Nat} (h : l.moveOf d = none) : l.domDone d = l := by rw [Lane.domDone, h]

theorem Lane.domDone_some {d : Nat} {m : DomMove} (h : l.moveOf d = some m) : l.domDone d = (l.domArrived d m).domNext d m.target := by
  rw [Lane.domDone, h]
  rfl

section
variable (c : Lane) {d target : Nat}

theorem Lane.domNext_exit (hd : d = 0) (ht : target = 0) (hs : c.pw.step = .cpUp) : c.domNext d target = c.tickRestart.sleepBack := by
  rw [Lane.domNext, if_pos hd, if_pos ht]
  exact if_pos hs

theorem Lane.domNext_up (hd : d = 0) (ht : target = 0) (hs : c.pw.step ≠ .cpUp) : c.domNext d target = c.tickRestart := by
  rw [Lane.domNext, if_pos hd, if_pos ht]
  exact if_neg hs

theorem Lane.domNext_down (hd : d = 0) (ht : target ≠ 0) : c.domNext d target = c.sleepStep (.stop (c.now + usec)) := by
  rw [Lane.domNext, if_pos hd, if_neg ht]

theorem Lane.domNext_entry (hd : d ≠ 0) (hs : c.pw.step = .domains) : c.domNext d target = c.sleepDomains := by
  rw [Lane.domNext, if_neg hd, if_pos hs]

theorem Lane.domNext_follow (hd : d ≠ 0) (hs : c.pw.step ≠ .domains) : c.domNext d target = c.domFollow d := by
  rw [Lane.domNext, if_neg hd, if_neg hs]

end

/-! ### Sleep (R451 to R453) -/

/-- The lane at the start of an entry. -/
def Lane.sleepEntry (l : Lane) : Lane :=
  Lane.set { l with pw := { l.pw with step := .calib, cal := true, back := l.domHeld } } PD_STAT_ENTRY

theorem Lane.sleep_busy (h : l.pw.step ≠ .awake) : l.sleep = l := if_pos h

theorem Lane.sleep_refused (h : l.pw.step = .awake) (hm : l.maySleep = false) : l.sleep = l.sleepRejected :=
  (if_neg (not_not_intro h)).trans (if_neg (Bool.eq_false_iff.mp hm))

/-- A wake event of the same cycle, or an alarm in the past, ends an entry at once. -/
def Lane.sleepFirst (a : Lane) : Lane :=
  match a.pw.wakeAt with
  | some (t, c) =>
    if a.now / cycPer = t / cycPer then a.sleepAbort c
    else if a.on WK_CFG_ALW ∧ a.rd WK_ALARM ≤ a.slow then a.slowAlarm else a
  | none => if a.on WK_CFG_ALW ∧ a.rd WK_ALARM ≤ a.slow then a.slowAlarm else a

theorem Lane.sleep_enters (h : l.pw.step = .awake) (hm : l.maySleep = true) : l.sleep = l.sleepEntry.sleepFirst :=
  (if_neg (not_not_intro h)).trans (if_pos hm)

theorem Lane.sleepFirst_woken {a : Lane} {t c : Nat} (h : a.pw.wakeAt = some (t, c)) (ht : a.now / cycPer = t / cycPer) :
    a.sleepFirst = a.sleepAbort c := by
  rw [Lane.sleepFirst, h]
  exact if_pos ht

theorem Lane.sleepFirst_calm {a : Lane} (h : ∀ t c, a.pw.wakeAt = some (t, c) → a.now / cycPer ≠ t / cycPer) :
    a.sleepFirst = if a.on WK_CFG_ALW = true ∧ a.rd WK_ALARM ≤ a.slow then a.slowAlarm else a := by
  unfold Lane.sleepFirst
  split
  · next t c hw => exact if_neg (h t c hw)
  · rfl

/-! ### The Whistle, the slow alarm and the safety inputs (R455, R457, R458) -/

theorem Lane.whistle_bad {f : List WhistlePulse} (hf : f ≠ []) (h : ∀ b, whistleBits f = some b → b.length ≠ 24) :
    l.whistle f = l.whistleBad := by
  rw [Lane.whistle, if_neg hf]
  split
  · next b hb => exact if_neg (h b hb)
  · rfl

theorem Lane.whistle_whole {f : List WhistlePulse} {b : List Bool} (hf : f ≠ []) (hb : whistleBits f = some b) (hlen : b.length = 24) :
    l.whistle f = l.whistleWhole (bitsNat (b.take 16)) (bitsNat (b.drop 16)) := by
  rw [Lane.whistle, if_neg hf, hb]
  exact if_pos hlen

/-- Whether a frame names this lane, with a command that is enabled. -/
def Lane.whistleNamed (l : Lane) (addr cmd : Nat) : Prop :=
  addr = l.rd WK_CFG_WADDR ∧ ∃ k < 4, (l.rd WK_CFG_CMDEN).testBit k = true ∧ l.whistleCmd k = cmd

theorem Lane.whistleNamed_iff {addr cmd : Nat} : l.whistleNamed addr cmd ↔
    addr = l.rd WK_CFG_WADDR ∧ [0, 1, 2, 3].any (fun k => (l.rd WK_CFG_CMDEN).testBit k && decide (l.whistleCmd k = cmd)) = true := by
  refine and_congr_right fun _ => ⟨fun ⟨k, hk, hb, hc⟩ => List.any_eq_true.mpr ⟨k, by simp; omega, by simp [hb, hc]⟩, fun h => ?_⟩
  obtain ⟨k, hk, hb⟩ := List.any_eq_true.mp h
  obtain ⟨hbit, hcmd⟩ := Bool.and_eq_true_iff.mp hb
  exact ⟨k, by simp at hk; omega, hbit, of_decide_eq_true hcmd⟩

/-- A match is counted. -/
def Lane.whistleNoted (l : Lane) (cmd : Nat) : Lane := ((l.wr WK_STAT_LASTCMD cmd).bump WK_CNT_MATCH).event 167

theorem Lane.whistleWhole_named {addr cmd : Nat} (h : l.whistleNamed addr cmd) :
    l.whistleWhole addr cmd = if (l.whistleNoted cmd).on WK_CFG_WHW = true then (l.whistleNoted cmd).wake 1 else l.whistleNoted cmd :=
  if_pos (Lane.whistleNamed_iff.mp h)

theorem Lane.whistleWhole_other {addr cmd : Nat} (h : ¬ l.whistleNamed addr cmd) : l.whistleWhole addr cmd = l :=
  if_neg fun hn => h (Lane.whistleNamed_iff.mpr hn)

/-- The slow alarm, where it is armed and reached. -/
theorem Lane.alarm_due (ha : l.pw.alarm = true) (hr : l.rd WK_ALARM ≤ l.slow) :
    (if l.pw.alarm ∧ l.rd WK_ALARM ≤ l.slow then l.slowAlarm else l) = l.slowAlarm := if_pos ⟨ha, hr⟩

theorem Lane.alarm_not (h : l.pw.alarm = false ∨ l.slow < l.rd WK_ALARM) :
    (if l.pw.alarm ∧ l.rd WK_ALARM ≤ l.slow then l.slowAlarm else l) = l :=
  if_neg fun ⟨ha, hr⟩ => h.elim (fun h => by simp [h] at ha) fun h => absurd hr (Nat.not_le.mpr h)

/-- The wake by a safety input, where it is enabled. -/
theorem Lane.safWake_on {k : Nat} (h : l.on WK_CFG_SAFW = true) (hk : (l.rd WK_CFG_SAFEN).testBit k = true) :
    (if l.on WK_CFG_SAFW ∧ (l.rd WK_CFG_SAFEN).testBit k then l.wake 3 else l) = l.wake 3 := if_pos ⟨h, hk⟩

theorem Lane.safWake_off {k : Nat} (h : l.on WK_CFG_SAFW = false ∨ (l.rd WK_CFG_SAFEN).testBit k = false) :
    (if l.on WK_CFG_SAFW ∧ (l.rd WK_CFG_SAFEN).testBit k then l.wake 3 else l) = l :=
  if_neg fun ⟨ho, hk⟩ => h.elim (fun h => by simp [h] at ho) fun h => by simp [h] at hk

end

/-- Settles O40: each command by the case of its function that the state selects. -/
theorem powerCommandsComplete : Obligations.PowerCommandsComplete := by
  unfold Obligations.PowerCommandsComplete
  intro s i l
  refine ⟨fun hr => ⟨fun v => State.act_to hr rfl, fun d => ⟨fun h => State.act_ignored hr (Lane.domDone_none h), fun m h => ?_⟩,
      State.act_to hr rfl⟩,
    fun hr => ⟨fun h => State.actD_ignored hr (Lane.sleep_busy h), fun h hm => State.actD_to hr (Lane.sleep_refused h hm), fun h hm => ?_⟩,
    fun hr => ⟨State.inAo_ignored hr rfl, fun f hf => ⟨fun hb => State.inAo_to hr (Lane.whistle_bad hf hb), fun b hb hlen => ?_⟩,
      fun ha hal => State.inAo_to hr (Lane.alarm_due ha hal), fun h => State.inAo_ignored hr (Lane.alarm_not h),
      fun n rail => ⟨fun ho hk => State.inAo_to hr (Lane.safWake_on ho hk), fun h => State.inAo_ignored hr (Lane.safWake_off h)⟩⟩,
    fun hl hheld => ⟨fun hd f n r => ⟨State.inAo_dead hl hheld hd, State.inAo_dead hl hheld hd, State.inAo_dead hl hheld hd⟩,
      fun hd => ⟨fun f => State.inAo_held hl hheld hd rfl, fun ha hal => State.inAo_held hl hheld hd (Lane.alarm_due ha hal),
        fun h => State.inAo_held hl hheld hd (Lane.alarm_not h), fun n r ho hk => State.inAo_held hl hheld hd (Lane.safWake_on ho hk),
        fun n r h => State.inAo_held hl hheld hd (Lane.safWake_off h)⟩⟩⟩
  · have hdone := Lane.domDone_some h
    exact ⟨fun hd ht => ⟨fun hs => State.act_to hr (hdone.trans (Lane.domNext_exit _ hd ht hs)),
        fun hs => State.act_to hr (hdone.trans (Lane.domNext_up _ hd ht hs))⟩,
      fun hd ht => State.act_to hr (hdone.trans (Lane.domNext_down _ hd ht)),
      fun hd hs => State.act_to hr (hdone.trans (Lane.domNext_entry _ hd hs)),
      fun hd hs => State.act_to hr (hdone.trans (Lane.domNext_follow _ hd hs))⟩
  · have hent := Lane.sleep_enters h hm
    exact ⟨fun t c hw ht => State.actD_to hr (hent.trans (Lane.sleepFirst_woken hw ht)), fun hcalm =>
      ⟨fun hpast => State.actD_to hr (hent.trans ((Lane.sleepFirst_calm hcalm).trans (if_pos hpast))),
        fun hpast => State.actD_to hr (hent.trans ((Lane.sleepFirst_calm hcalm).trans (if_neg hpast)))⟩⟩
  · have hwhole := Lane.whistle_whole (l := l) hf hb hlen
    exact ⟨fun hn hw => State.inAo_to hr (hwhole.trans ((Lane.whistleWhole_named hn).trans (if_pos hw))),
      fun hn hw => State.inAo_to hr (hwhole.trans ((Lane.whistleWhole_named hn).trans (if_neg (Bool.eq_false_iff.mp hw)))),
      fun hn => State.inAo_ignored hr (hwhole.trans (Lane.whistleWhole_other hn))⟩

/-! ### Clocks (R459, R464 to R466) -/

section
variable {l : Lane}

theorem calOk_iff {n : Nat} : calOk n = true ↔ 792000 ≤ n ∧ n ≤ 808000 := by
  rw [calOk, Bool.and_eq_true, Nat.ble_eq, Nat.ble_eq]

/-- The lane with its calibration ended. -/
def Lane.calStop (l : Lane) : Lane := { l with pw := { l.pw with cal := false } }

theorem Lane.calEnd_idle (h : l.pw.cal = false) (n : Nat) : l.calEnd n = l := if_neg (Bool.eq_false_iff.mp h)

theorem Lane.calEnd_passed {n : Nat} (h : l.pw.cal = true) (hlo : 792000 ≤ n) (hhi : n ≤ 808000) : l.calEnd n = l.calStop.calPass n :=
  (if_pos h).trans (if_pos (calOk_iff.mpr ⟨hlo, hhi⟩))

theorem Lane.calEnd_failed {n : Nat} (h : l.pw.cal = true) (hn : n < 792000 ∨ 808000 < n) : l.calEnd n = l.calStop.calFail n :=
  (if_pos h).trans (if_neg fun hok => by have := calOk_iff.mp hok; omega)

theorem Lane.calPass_entry {a : Lane} {n : Nat} (h : (((a.wr CK_LPOCAL_CNT n).set CK_STAT_CALV).event 163).pw.step = .calib) :
    a.calPass n = (((a.wr CK_LPOCAL_CNT n).set CK_STAT_CALV).event 163).sleepDown := if_pos h

theorem Lane.calPass_awake {a : Lane} {n : Nat} (h : (((a.wr CK_LPOCAL_CNT n).set CK_STAT_CALV).event 163).pw.step ≠ .calib) :
    a.calPass n = ((a.wr CK_LPOCAL_CNT n).set CK_STAT_CALV).event 163 := if_neg h

theorem Lane.calFail_entry {a : Lane} {n : Nat} (h : (((a.set CK_STAT_CALFAIL).raise srcCK 4 clsUC none n).event 163).pw.step = .calib) :
    a.calFail n = (((((a.set CK_STAT_CALFAIL).raise srcCK 4 clsUC none n).event 163).sleepUndo).set PD_STAT_SLPREJ).event 169 := if_pos h

theorem Lane.calFail_awake {a : Lane} {n : Nat} (h : (((a.set CK_STAT_CALFAIL).raise srcCK 4 clsUC none n).event 163).pw.step ≠ .calib) :
    a.calFail n = ((a.set CK_STAT_CALFAIL).raise srcCK 4 clsUC none n).event 163 := if_neg h

theorem divMv_eq {d : BitVec 2} (h : d ≠ 0#2) : divMv d.toNat = if d = 1#2 then 750 else if d = 2#2 then 710 else 660 := by
  decide +revert

theorem Lane.divGo_not {d : BitVec 2} (h : l.mode ≠ mService ∨ d = 0#2 ∨ l.rd CK_STAT_DIV = d.toNat) : l.divGo d.toNat = l := by
  rcases h with h | rfl | h
  · exact if_neg fun hc => h hc.1
  · exact if_neg fun hc => hc.2 rfl
  · exact ite_eq_right_iff.mpr fun _ => if_pos h

theorem Lane.divGo_sets {d : BitVec 2} (hm : l.mode = mService) (h0 : d ≠ 0#2) (hd : l.rd CK_STAT_DIV ≠ d.toNat) :
    l.divGo d.toNat = if l.rd PM_VACK_MV < divMv d.toNat then ((l.set CK_STAT_DIVREJ).raise srcCK 3 clsCE none (l.rd PM_VACK_MV)).event 162
      else (l.wr CK_STAT_DIV d.toNat).event 162 :=
  (if_pos ⟨hm, fun he => h0 (BitVec.eq_of_toNat_eq he)⟩).trans (if_neg hd)

/-- The clocks stand still. -/
def Lane.clocksLost (b : Lane) : Lane :=
  { b with pw := { b.pw with rootLost := true, kaAo := false }, tt := { b.tt with ntRun := false } }

theorem Lane.rootLoss_known {det : Bool} (h : l.pw.rootLost = true ∨ l.rd CK_STAT_LOCK = 0) : l.rootLoss det = l := if_pos h

theorem Lane.rootLoss_new {det : Bool} (h : l.pw.rootLost = false) (hl : l.rd CK_STAT_LOCK ≠ 0) :
    l.rootLoss det = ((l.raise srcCK 1 clsFT none (if det then 1 else 0)).ntRebase.tickStop.clr CK_STAT_LOCK).clocksLost :=
  if_neg (by simp [h, hl])

/-- A frequency check is noted, and the next one is due. -/
def Lane.freqNoted (l : Lane) (n : Nat) : Lane := Lane.wr { l with pw := { l.pw with freqAt := l.pw.freqAt + freqStep } } CK_FCNT_CNT n

theorem Lane.freqCheck_not {n : Nat} (h : l.rd CK_STAT_LOCK = 0 ∨ l.now < l.pw.freqAt + freqStep) : l.freqCheck n = l :=
  if_pos (h.imp_right fun h => by simp [Lane.not_due_of_lt _ h])

theorem Lane.freqCheck_due {n : Nat} (hl : l.rd CK_STAT_LOCK ≠ 0) (hd : l.pw.freqAt + freqStep ≤ l.now) :
    l.freqCheck n = if (l.freqNoted n).rd CK_LPOCAL_CNT < 50 * (8 * n - (l.freqNoted n).rd CK_LPOCAL_CNT) ∨
        (l.freqNoted n).rd CK_LPOCAL_CNT < 50 * ((l.freqNoted n).rd CK_LPOCAL_CNT - 8 * n) then
      (l.freqNoted n).raise srcCK 2 clsFT none n else l.freqNoted n :=
  if_neg (by simp [hl, Lane.due_of_le _ hd])

end

/-- Settles O41: each command by the case of its function that the state selects. -/
theorem clockCommandsComplete : Obligations.ClockCommandsComplete := by
  unfold Obligations.ClockCommandsComplete
  intro s i hr l
  refine ⟨State.act_to hr rfl, fun n => ⟨fun h => State.act_ignored hr (Lane.calEnd_idle h _), fun h => ⟨fun hlo hhi => ?_, fun hn => ?_⟩⟩,
    fun d => ⟨fun h => State.act_ignored hr (Lane.divGo_not h), fun hm h0 hd => ?_⟩,
    fun det => ⟨fun h => State.act_ignored hr (Lane.rootLoss_known h), fun h hl => State.act_to hr (Lane.rootLoss_new h hl)⟩,
    fun n => ⟨fun h => State.act_ignored hr (Lane.freqCheck_not h), fun hl hd =>
      ⟨fun hfar => State.act_to hr ((Lane.freqCheck_due hl hd).trans (if_pos hfar)),
        fun hnear => State.act_to hr ((Lane.freqCheck_due hl hd).trans (if_neg hnear))⟩⟩⟩
  · have hpass := Lane.calEnd_passed h hlo hhi
    exact ⟨fun hs => State.act_to hr (hpass.trans (Lane.calPass_entry hs)), fun hs => State.act_to hr (hpass.trans (Lane.calPass_awake hs))⟩
  · have hfail := Lane.calEnd_failed h hn
    exact ⟨fun hs => State.act_to hr (hfail.trans (Lane.calFail_entry hs)), fun hs => State.act_to hr (hfail.trans (Lane.calFail_awake hs))⟩
  · have hgo := Lane.divGo_sets hm h0 hd
    rw [divMv_eq h0] at hgo
    exact ⟨fun hv => State.act_to hr (hgo.trans (if_neg (Nat.not_lt.mpr hv))), fun hv => State.act_to hr (hgo.trans (if_pos hv))⟩

end Sys2Proof.Machine
end

section
/-!
OBLIGATION O42. Regulator control: voltage requests, transactions, commands, polls and alerts (spec/13_power_clocks_wake.md R468 to R471).
-/

namespace Sys2Proof.Machine

section
variable {l : Lane}

/-! ### Requests (R468, R472) -/

theorem Lane.pmRequest_off (mv : Nat) (why : PmWhy) (h : l.pmOn = false) : l.pmRequest mv why = l := if_pos h

theorem Lane.pmRequest_busy (mv : Nat) (why : PmWhy) (h : l.pmOn = true) (hb : l.on PM_STAT_BUSY = true) :
    l.pmRequest mv why = ((l.set PM_STAT_BUSYREJ).event 165).pmNotAck why true :=
  (if_neg (by simp [h])).trans (if_pos hb)

theorem Lane.pmRequest_outside (mv : Nat) (why : PmWhy) (h : l.pmOn = true) (hb : l.on PM_STAT_BUSY = false)
    (hw : mv < l.pmCfg PM_VWIN_MIN ∨ l.pmCfg PM_VWIN_MAX < mv) :
    l.pmRequest mv why = (((l.raiseOnce srcPM 1 clsCE none mv).set PM_STAT_VREJ).event 165).pmNotAck why true :=
  (if_neg (by simp [h])).trans ((if_neg (Bool.eq_false_iff.mp hb)).trans (if_pos hw))

theorem Lane.pmRequest_starts (mv : Nat) (why : PmWhy) (h : l.pmOn = true) (hb : l.on PM_STAT_BUSY = false)
    (hlo : l.pmCfg PM_VWIN_MIN ≤ mv) (hhi : mv ≤ l.pmCfg PM_VWIN_MAX) :
    l.pmRequest mv why =
      (Lane.set { l with pm := { l.pm with req := some { mv := mv, why := why } } } PM_STAT_BUSY).pmStart ⟨.voutCommand mv, .request⟩ :=
  (if_neg (by simp [h])).trans ((if_neg (Bool.eq_false_iff.mp hb)).trans (if_neg (by omega)))

/-! ### Acknowledgement and time-out (R468, Table 13.8) -/

theorem Lane.voltageAck_idle (h : ∀ r t, l.pm.req = some r → r.stopAt ≠ some t) : l.voltageAck = l := by
  unfold Lane.voltageAck
  split
  · rfl
  · next r hr =>
    split
    · next t _ ht _ => exact absurd ht (h r t hr)
    · rfl

theorem Lane.voltageTimeout_idle (h : ∀ r t, l.pm.req = some r → r.stopAt ≠ some t) : l.voltageTimeout = l := by
  unfold Lane.voltageTimeout
  split
  · rfl
  · next r hr =>
    split
    · next t ht => exact absurd ht (h r t hr)
    · rfl

/-- Whether A_PGOOD acknowledges, for a request whose transaction has ended at t. -/
def Lane.pgoodAcks (l : Lane) (t : Nat) : Prop :=
  l.pmCfg PM_CFG_ACKSRC = 0 ∧ l.on PM_STAT_PGOOD = true ∧ t + l.pmCfg PM_CFG_SETTLE * usec ≤ l.now

section
variable {r : PmReq} {t : Nat} (hr : l.pm.req = some r) (ht : r.stopAt = some t)
include ht

theorem Lane.pmInTime_early (hn : l.now < t + pmTimeout) : l.pmInTime r = some false := by
  rw [Lane.pmInTime, ht]
  exact if_pos hn

theorem Lane.pmInTime_expiring (hd : t + pmTimeout ≤ l.now) (hn : l.now < t + pmTimeout + cycPer) : l.pmInTime r = some true := by
  rw [Lane.pmInTime, ht]
  exact (if_neg (Nat.not_lt.mpr hd)).trans (if_pos (by simp [Lane.inExpiry, hd, hn]))

theorem Lane.pmInTime_late (hn : t + pmTimeout + cycPer ≤ l.now) : l.pmInTime r = none := by
  rw [Lane.pmInTime, ht]
  exact (if_neg (by omega)).trans (if_neg (by simp [Lane.inExpiry, Nat.not_lt.mpr hn]))

include hr

theorem Lane.voltageAck_good {late : Bool} (hg : l.pgoodAcks t) (hl : l.pmInTime r = some late) : l.voltageAck = l.pmAck r late := by
  rw [Lane.voltageAck, hr]
  dsimp only
  rw [ht, hl]
  exact if_pos hg

theorem Lane.voltageAck_not (h : ¬ l.pgoodAcks t ∨ t + pmTimeout + cycPer ≤ l.now) : l.voltageAck = l := by
  rw [Lane.voltageAck, hr]
  dsimp only
  rw [ht]
  rcases h with h | h
  · cases l.pmInTime r with
    | none => rfl
    | some late => exact if_neg h
  · rw [Lane.pmInTime_late ht h]

theorem Lane.voltageTimeout_due (hd : t + pmTimeout ≤ l.now) :
    l.voltageTimeout = (((l.set PM_STAT_NOACK).raise srcPM 2 clsUC none r.mv).event 165).pmLost r := by
  rw [Lane.voltageTimeout, hr]
  dsimp only
  rw [ht]
  exact if_pos (l.due_of_le hd)

theorem Lane.voltageTimeout_early (hn : l.now < t + pmTimeout) : l.voltageTimeout = l := by
  rw [Lane.voltageTimeout, hr]
  dsimp only
  rw [ht]
  exact if_neg (by simp [Lane.not_due_of_lt _ hn])

end

/-! ### Transactions (R470) -/

theorem Lane.pmFail_idle (h : l.pm.cur = none ∨ l.pm.retryAt.isSome = true) : l.pmFail = l := by
  unfold Lane.pmFail
  split
  · rfl
  · next k hk => exact if_pos (h.resolve_left (by simp [hk]))

theorem Lane.pmEnd_idle (h : l.pm.cur = none ∨ l.pm.retryAt.isSome = true) (v : Nat) : l.pmEnd v = l := by
  unfold Lane.pmEnd
  split
  · rfl
  · next k hk => exact if_pos (h.resolve_left (by simp [hk]))

theorem Lane.pmRepeat_not (h : ∀ t, l.pm.cur = none ∨ l.pm.retryAt ≠ some t ∨ l.now < t) : l.pmRepeat = l := by
  unfold Lane.pmRepeat
  split
  · next k t hk ht =>
    rcases h t with h | h | h
    · simp [hk] at h
    · exact absurd ht h
    · exact if_neg (by simp [Lane.not_due_of_lt _ h])
  · rfl

/-- What the second failure of a transaction does to its use. -/
def Lane.pmGivenUp (b : Lane) (u : PmUse) : Lane :=
  match u, b.pm.req with
  | .request, some r => b.pmLost r
  | .command, _ => b.clr PM_STAT_BUSY
  | .check _, _ => b.regFail 0 true false
  | .alert, _ => b.alertRaise
  | _, _ => b

theorem Lane.pmGivenUp_eq (b : Lane) (u : PmUse) : b.pmGivenUp u = match u, b.pm.req with
    | .request, some r => b.pmLost r
    | .command, _ => b.clr PM_STAT_BUSY
    | .check _, _ => b.regFail 0 true false
    | .alert, _ => b.alertRaise
    | _, _ => b := rfl

/-- The register that a transaction reads into. -/
def Lane.pmStored (b : Lane) (t : PmTrans) (v : Nat) : Lane :=
  match t with
  | .statusWord => b.wr PM_SW_SW v
  | .operationRead => b.wr PM_SW_OP v
  | .readVout => b.takeReading PM_VOUT_MV (linear16Mv (b.rd PM_CFG_EXP) v)
  | .readIout => b.takeReading PM_IOUT_I10MA (linear11Ma v)
  | _ => b

/-- What the end of a transaction does to its use. -/
def Lane.pmUsed (c : Lane) (u : PmUse) (v : Nat) : Lane :=
  match u with
  | .request =>
    match c.pm.req with
    | some r => { c with pm := { c.pm with req := some { r with stopAt := some c.now, readAt := c.now + c.pmCfg PM_CFG_SETTLE * usec } } }
    | none => c
  | .ack => c.statusAck v
  | .alert => c.alertRaise
  | .command => c.clr PM_STAT_BUSY
  | .poll => c
  | .check want => c.regJudge (linear16Mv (c.rd PM_CFG_EXP) v) want

theorem Lane.pmGivenUp_request {b : Lane} {r : PmReq} (h : b.pm.req = some r) : b.pmGivenUp .request = b.pmLost r := by
  unfold Lane.pmGivenUp
  rw [h]

theorem Lane.pmGivenUp_none {b : Lane} {u : PmUse} (h : (u = .request ∧ b.pm.req = none) ∨ u = .ack ∨ u = .poll) : b.pmGivenUp u = b := by
  rcases h with ⟨rfl, h⟩ | rfl | rfl
  · unfold Lane.pmGivenUp
    rw [h]
  · rfl
  · rfl

theorem Lane.pmUsed_request {c : Lane} {r : PmReq} (h : c.pm.req = some r) (v : Nat) : c.pmUsed .request v =
    { c with pm := { c.pm with req := some { r with stopAt := some c.now, readAt := c.now + c.pmCfg PM_CFG_SETTLE * usec } } } := by
  rw [Lane.pmUsed, h]

theorem Lane.pmUsed_none {c : Lane} {u : PmUse} (h : (u = .request ∧ c.pm.req = none) ∨ u = .poll) (v : Nat) : c.pmUsed u v = c := by
  rcases h with ⟨rfl, h⟩ | rfl
  · rw [Lane.pmUsed, h]
  · rfl

section
variable {k : PmTask} (hk : l.pm.cur = some k)
include hk

theorem Lane.pmRepeat_due {t : Nat} (ht : l.pm.retryAt = some t) (hd : t ≤ l.now) : l.pmRepeat = l.pmSend k := by
  rw [Lane.pmRepeat, hk, ht]
  exact if_pos (l.due_of_le hd)

variable (hr : l.pm.retryAt = none)
include hr

theorem Lane.pmFail_first (ha : l.pm.again = false) :
    l.pmFail = { l with pm := { l.pm with retryAt := some (l.now + pmRetry), again := true } } := by
  rw [Lane.pmFail, hk]
  exact (if_neg (by simp [hr])).trans (if_pos ha)

theorem Lane.pmFail_second (ha : l.pm.again = true) :
    l.pmFail = ((((l.set PM_STAT_BUSERR).raise srcPM 3 clsUC none (pmCode k.t)).event 165).pmFree).pmGivenUp k.use := by
  rw [Lane.pmFail, hk]
  dsimp only
  rw [if_neg (by simp [hr]), if_neg (by simp [ha])]
  generalize (((l.set PM_STAT_BUSERR).raise srcPM 3 clsUC none (pmCode k.t)).event 165).pmFree = b
  refine Eq.trans ?_ (b.pmGivenUp_eq k.use).symm
  cases k.use
  case request => cases b.pm.req <;> rfl
  all_goals rfl

theorem Lane.pmEnd_ends (v : Nat) : l.pmEnd v = (l.pmFree.pmStored k.t v).pmUsed k.use v := by
  rw [Lane.pmEnd, hk]
  exact if_neg (by simp [hr])

end

/-! ### Commands, polls and alerts (R470, R471) -/

theorem Lane.pmCommand_off (h : l.pmOn = false) : l.pmCommand = l := if_pos h

theorem Lane.pmCommand_busy (h : l.pmOn = true) (hb : l.on PM_STAT_BUSY = true) : l.pmCommand = (l.set PM_STAT_BUSYREJ).event 165 :=
  (if_neg (by simp [h])).trans (if_pos hb)

/-- A command that the master takes, by its code. -/
def Lane.pmCoded (l : Lane) (code data : Nat) : Lane :=
  match code with
  | 0 =>
    if data / 64 = 2 then (l.set PM_STAT_BUSY).pmStart ⟨.operationWrite data, .command⟩
    else ((l.set PM_STAT_VREJ).raiseOnce srcPM 1 clsCE none data).event 165
  | 1 => (l.set PM_STAT_BUSY).pmStart ⟨.clearFaults, .command⟩
  | 2 => (l.set PM_STAT_BUSY).pmStart ⟨.statusWord, .command⟩
  | _ => (l.set PM_STAT_BUSY).pmStart ⟨.operationRead, .command⟩

theorem Lane.pmCommand_free (h : l.pmOn = true) (hb : l.on PM_STAT_BUSY = false) :
    l.pmCommand = l.pmCoded (l.rd PM_CMD_CODE) (l.rd PM_CMD_DATA) :=
  (if_neg (by simp [h])).trans (if_neg (Bool.eq_false_iff.mp hb))

theorem Lane.pmPoll_due (h : l.pmOn = true) (hp : l.rd PM_CFG_POLL = 1) (hb : l.rd PM_STAT_BUSY = 0) (hm : l.mode ≠ mBoot) :
    l.pmPoll = (l.pmStart ⟨.readVout, .poll⟩).pmStart ⟨.readIout, .poll⟩ := if_pos ⟨h, hp, hb, hm⟩

theorem Lane.pmPoll_not (h : l.pmOn = false ∨ l.rd PM_CFG_POLL ≠ 1 ∨ l.rd PM_STAT_BUSY ≠ 0 ∨ l.mode = mBoot) : l.pmPoll = l := by
  refine if_neg fun ⟨ho, hp, hb, hm⟩ => ?_
  rcases h with h | h | h | h
  · simp [h] at ho
  · exact h hp
  · exact h hb
  · exact hm h

theorem Lane.pmAlert_same (h : l.on PM_STAT_ALERT = true) : l.pmAlert true = l := if_pos h

theorem Lane.pmAlert_falls (h : l.on PM_STAT_ALERT = false) : l.pmAlert true =
    if ((l.set PM_STAT_ALERT).event 166).pmOn = true then ((l.set PM_STAT_ALERT).event 166).pmStart ⟨.statusWord, .alert⟩
    else ((l.set PM_STAT_ALERT).event 166).alertRaise := if_neg (Bool.eq_false_iff.mp h)

end

theorem State.actPin_to {s : State} {i : LaneId} {ok : Lane → Bool} {pin f : Lane → Lane} {t : Lane} (h : s.part.hasLane i = true)
    (hk : ok (s.lane i) = true) (hf : f (s.lane i) = t) : s.actPin i ok pin f = .next (s.setLane i t) := by
  rw [State.actPin_ready s i ok pin f h hk, State.inLane, hf]

/-- The four commands, by the code that they write: each runs `Lane.pmCommand` on a lane with its code and its data in PM_CMD. -/
theorem exec_pmCommand {s : State} {i : LaneId} (hr : s.ready i .clocked) {c : Instr} {code data : Nat} {t : PmTrans}
    (hc : (∃ d : Byte, c = .operationWrite i d ∧ code = 0 ∧ data = d.toNat ∧ t = .operationWrite data) ∨
      (c = .clearFaults i ∧ code = 1 ∧ data = (s.lane i).rd PM_CMD_DATA ∧ t = .clearFaults) ∨
      (c = .statusWordRead i ∧ code = 2 ∧ data = (s.lane i).rd PM_CMD_DATA ∧ t = .statusWord) ∨
      (c = .operationRead i ∧ code = 3 ∧ data = (s.lane i).rd PM_CMD_DATA ∧ t = .operationRead)) :
    let a := if code = 0 then ((s.lane i).wr PM_CMD_CODE 0).wr PM_CMD_DATA data else (s.lane i).wr PM_CMD_CODE code
    exec c s = .next (s.setLane i a.pmCommand) ∧ a.rd PM_CMD_CODE = code ∧ a.rd PM_CMD_DATA = data := by
  rcases hc with ⟨d, rfl, rfl, rfl, -⟩ | ⟨rfl, rfl, rfl, -⟩ | ⟨rfl, rfl, rfl, -⟩ | ⟨rfl, rfl, rfl, -⟩
  · exact ⟨State.act_to hr rfl, (Lane.rd_wr_disj _ _ _ _ (by decide)).trans (Lane.rd_wr _ _ _ (by decide)),
      (Lane.rd_wr _ _ _ (by decide)).trans (Nat.mod_eq_of_lt d.isLt)⟩
  · exact ⟨State.act_to hr rfl, Lane.rd_wr _ _ _ (by decide), Lane.rd_wr_disj _ _ _ _ (by decide)⟩
  · exact ⟨State.act_to hr rfl, Lane.rd_wr _ _ _ (by decide), Lane.rd_wr_disj _ _ _ _ (by decide)⟩
  · exact ⟨State.act_to hr rfl, Lane.rd_wr _ _ _ (by decide), Lane.rd_wr_disj _ _ _ _ (by decide)⟩

/-- Settles O42: each command by the case of its function that the state selects. -/
theorem regulatorCommandsComplete : Obligations.RegulatorCommandsComplete := by
  unfold Obligations.RegulatorCommandsComplete
  intro s i hr l
  have hclk : l.clocks = true := hr.2
  refine ⟨fun mv => ⟨fun ho => State.act_to hr (Lane.pmRequest_off _ _ ho), fun ho hb => State.act_to hr (Lane.pmRequest_busy _ _ ho hb),
      fun ho hb => ⟨fun hlo hhi => State.act_to hr (Lane.pmRequest_starts _ _ ho hb hlo hhi),
        fun hw => State.act_to hr (Lane.pmRequest_outside _ _ ho hb hw)⟩⟩,
    fun h => ⟨State.act_ignored hr (Lane.voltageAck_idle h), State.act_ignored hr (Lane.voltageTimeout_idle h)⟩,
    fun r t hreq ht => ⟨fun hg hn => State.act_to hr (Lane.voltageAck_good hreq ht hg (Lane.pmInTime_early ht hn)),
      fun hg hd hn => State.act_to hr (Lane.voltageAck_good hreq ht hg (Lane.pmInTime_expiring ht hd hn)),
      fun h => State.act_ignored hr (Lane.voltageAck_not hreq ht h), fun hd => State.act_to hr (Lane.voltageTimeout_due hreq ht hd),
      fun hn => State.act_ignored hr (Lane.voltageTimeout_early hreq ht hn)⟩,
    fun h => ⟨State.act_ignored hr (Lane.pmFail_idle h), fun v => State.act_ignored hr (Lane.pmEnd_idle h _)⟩,
    fun h => State.act_ignored hr (Lane.pmRepeat_not h),
    fun k hk => ⟨fun t ht hd => State.act_to hr (Lane.pmRepeat_due hk ht hd),
      fun hn ha => State.act_to hr (Lane.pmFail_first hk hn ha), fun hn ha => ?_, fun v hn => ?_⟩,
    fun c code data t hc => ?_, fun ho hp hb hm => State.act_to hr (Lane.pmPoll_due ho hp hb hm),
    fun h => State.act_ignored hr (Lane.pmPoll_not h), fun h => ?_, fun h => State.actPin_to hr.1 hclk (Lane.pmAlert_falls h),
    State.actPin_to hr.1 hclk rfl⟩
  · have hfail := Lane.pmFail_second hk hn ha
    exact ⟨fun r hu hreq => State.act_to hr (hfail.trans (by rw [hu]; exact Lane.pmGivenUp_request hreq)),
      fun hu => State.act_to hr (hfail.trans (by rw [hu]; rfl)), fun mv hu => State.act_to hr (hfail.trans (by rw [hu]; rfl)),
      fun hu => State.act_to hr (hfail.trans (by rw [hu]; rfl)), fun hu => State.act_to hr (hfail.trans (Lane.pmGivenUp_none hu))⟩
  · have hend := Lane.pmEnd_ends hk hn v.toNat
    exact ⟨fun r hu hreq => State.act_to hr (hend.trans (by rw [hu]; exact Lane.pmUsed_request hreq _)),
      fun hu => State.act_to hr (hend.trans (Lane.pmUsed_none hu _)), fun hu => State.act_to hr (hend.trans (by rw [hu]; rfl)),
      fun hu => State.act_to hr (hend.trans (by rw [hu]; rfl)), fun hu => State.act_to hr (hend.trans (by rw [hu]; rfl)),
      fun mv hu => State.act_to hr (hend.trans (by rw [hu]; rfl))⟩
  · intro a
    obtain ⟨hexec, hcode, hdata⟩ := exec_pmCommand hr hc
    have hto : ∀ {t}, a.pmCommand = t → exec c s = .next (s.setLane i t) := fun ht => hexec.trans (by rw [← ht])
    refine ⟨fun ho => hto (Lane.pmCommand_off ho), fun ho hb => hto (Lane.pmCommand_busy ho hb), fun ho hb => ?_⟩
    have hgo := Lane.pmCommand_free ho hb
    rw [hcode, hdata] at hgo
    refine ⟨fun h0 hd => hto (hgo.trans ?_), fun h => hto (hgo.trans ?_)⟩
    · rw [h0]
      exact if_neg hd
    · rcases hc with ⟨d, -, rfl, -, rfl⟩ | ⟨-, rfl, -, rfl⟩ | ⟨-, rfl, -, rfl⟩ | ⟨-, rfl, -, rfl⟩
      · exact if_pos (h.resolve_left (by decide))
      · rfl
      · rfl
      · rfl
  · exact (State.actPin_to hr.1 hclk (Lane.pmAlert_same h)).trans (by rw [State.setLane_lane])

end Sys2Proof.Machine
end

section
/-!
OBLIGATION O43. The self-test engine: slices, custom programs and the memory token (spec/14_self_test_lifecycle.md R486 to R496).
-/

namespace Sys2Proof.Machine

section
variable {l : Lane}

/-! ### Requests (R487) -/

section
variable {u index : Nat}

theorem Lane.sliceRequest_elsewhere (h : l.rd LC_STAT_STATE ≠ 2) : l.sliceRequest u index = l := if_pos h

theorem Lane.sliceRequest_starts (h : l.rd LC_STAT_STATE = 2) (hr : l.sliceRefused u index = false) :
    l.sliceRequest u index = l.sliceStart u index false :=
  (if_neg (not_not_intro h)).trans (if_neg (Bool.eq_false_iff.mp hr))

theorem Lane.sliceRequest_refused (h : l.rd LC_STAT_STATE = 2) (hr : l.sliceRefused u index = true) :
    l.sliceRequest u index = l.stResult 5 u 0 0 :=
  (if_neg (not_not_intro h)).trans (if_pos hr)

end

/-! ### Ends of a slice (R487 to R489, R492) -/

section
variable (h : l.st.run = none)
include h

theorem Lane.sliceEnd_idle (res : SliceResult) (cov : Nat) : l.sliceEnd res cov = l := by rw [Lane.sliceEnd, h]

theorem Lane.sliceBudgetEnd_idle : l.sliceBudgetEnd = l := by rw [Lane.sliceBudgetEnd, h]

theorem Lane.sliceAccess_idle : l.sliceAccess = l := by rw [Lane.sliceAccess, h]

theorem Lane.gdInject_idle : l.gdInject = l := by rw [Lane.gdInject, h]

end

section
variable {r : SliceRun} (h : l.st.run = some r)
include h

theorem Lane.sliceAbort_runs (cause : Nat) : l.sliceAbort cause = (l.sliceDone r 4 0).wr ST_STAT_ACAUSE cause := by rw [Lane.sliceAbort, h]

theorem Lane.sliceEnd_stores {res : SliceResult} (cov : Nat) (hs : res ≠ .skip ∨ gdUnit r.unit = true) :
    l.sliceEnd res cov = (l.sliceDone r (resCode res) (Nat.min 1000 cov)).progNext := by
  rw [Lane.sliceEnd, h]
  refine if_neg fun ⟨hskip, hgd⟩ => ?_
  exact hs.elim (fun hn => hn hskip) fun hg => by simp [hg] at hgd

theorem Lane.sliceEnd_noSkip {res : SliceResult} (cov : Nat) (hs : res = .skip) (hg : gdUnit r.unit = false) : l.sliceEnd res cov = l := by
  rw [Lane.sliceEnd, h]
  exact if_pos ⟨hs, by simp [hg]⟩

theorem Lane.sliceBudgetEnd_notDue (hn : r.prog = true ∨ l.now < r.start + l.sliceBudget r.unit * usec) : l.sliceBudgetEnd = l := by
  rw [Lane.sliceBudgetEnd, h]
  exact if_pos (hn.imp_right fun hlt => by simp [l.not_due_of_lt hlt])

section
variable (hp : r.prog = false) (hd : r.start + l.sliceBudget r.unit * usec ≤ l.now)
include hp hd

theorem Lane.sliceBudgetEnd_due : l.sliceBudgetEnd = if gdUnit r.unit = true ∧ r.began = false then l.sliceDone r 3 0 else l.sliceAbort 1 := by
  rw [Lane.sliceBudgetEnd, h]
  exact if_neg (by simp [hp, l.due_of_le hd])

theorem Lane.sliceBudgetEnd_skips (hg : gdUnit r.unit = true) (hb : r.began = false) : l.sliceBudgetEnd = l.sliceDone r 3 0 :=
  (Lane.sliceBudgetEnd_due h hp hd).trans (if_pos ⟨hg, hb⟩)

theorem Lane.sliceBudgetEnd_aborts (hg : gdUnit r.unit = false ∨ r.began = true) :
    l.sliceBudgetEnd = (l.sliceDone r 4 0).wr ST_STAT_ACAUSE 1 :=
  (Lane.sliceBudgetEnd_due h hp hd).trans ((if_neg (by rcases hg with hg | hg <;> simp [hg])).trans (Lane.sliceAbort_runs h 1))

end

theorem Lane.sliceAccess_aborts (hu : r.unit = 6 ∨ r.unit = 7 ∨ r.unit = 9) :
    l.sliceAccess = ((l.sliceDone r 4 0).wr ST_STAT_ACAUSE 2).progNext := by
  rw [← Lane.sliceAbort_runs h 2, Lane.sliceAccess, h]
  exact if_pos hu

theorem Lane.sliceAccess_other (hu : ¬ (r.unit = 6 ∨ r.unit = 7 ∨ r.unit = 9)) : l.sliceAccess = l := by
  rw [Lane.sliceAccess, h]
  exact if_neg hu

theorem Lane.gdInject_gd (hg : gdUnit r.unit = true) : l.gdInject = { l with st := { l.st with run := some { r with began := true } } } := by
  rw [Lane.gdInject, h]
  exact if_pos hg

theorem Lane.gdInject_other (hg : gdUnit r.unit = false) : l.gdInject = l := by
  rw [Lane.gdInject, h]
  exact if_neg (Bool.eq_false_iff.mp hg)

end

/-! ### Custom programs (R491) -/

theorem Lane.progGo_starts (hm : l.mode = mService) (hs : l.rd LC_STAT_STATE = 1 ∨ l.rd LC_STAT_STATE = 3) (hr : l.st.run = none)
    (hp : l.st.prog = none) : l.progGo = (l.set ST_STAT_PROG).progRun 64 :=
  if_pos ⟨hm, hs, by rw [hr]; rfl, by rw [hp]; rfl⟩

theorem Lane.progGo_ignored
    (h : l.mode ≠ mService ∨ (l.rd LC_STAT_STATE ≠ 1 ∧ l.rd LC_STAT_STATE ≠ 3) ∨ l.st.run ≠ none ∨ l.st.prog ≠ none) : l.progGo = l := by
  refine if_neg fun ⟨hm, hs, hr, hp⟩ => ?_
  rcases h with h | ⟨h1, h3⟩ | h | h
  · exact h hm
  · exact hs.elim h1 h3
  · exact h (Option.isNone_iff_eq_none.mp hr)
  · exact h (Option.isNone_iff_eq_none.mp hp)

theorem Lane.progAbort_idle (h : l.st.prog = none) : l.progAbort = l := by rw [Lane.progAbort, h]

section
variable {n : ProgAt} (hp : l.st.prog = some n)
include hp

theorem Lane.progAbort_running {r : SliceRun} (hr : l.st.run = some r) : l.progAbort = { l with st := { l.st with progStop := true } } := by
  rw [Lane.progAbort, hp]
  exact if_pos (by rw [hr]; rfl)

theorem Lane.progAbort_waiting (hr : l.st.run = none) :
    l.progAbort = (if n.done = 0 then l else l.partDone (l.stepUnit n.step) n.res n.cov n.time).progEnd := by
  rw [Lane.progAbort, hp]
  exact if_neg (by rw [hr]; exact Bool.false_ne_true)

end

/-! ### The memory token (R494 to R496) -/

theorem Lane.seeEpoch_me (m : GlMsg) : (l.seeEpoch m).me = l.me := by
  unfold Lane.seeEpoch
  split <;> rfl

/-- The time of the last token message, and the holder that it names unless it is an old one. -/
def Lane.tokNoted (e : Lane) (holder seq : Nat) : Lane :=
  { e with st := { e.st with tokAt := e.now, holder := if e.rd ST_TOK_SEQ ≤ seq then holder else e.st.holder } }

/-- A lane takes up a token message that names a holder. -/
def Lane.tokHeard (e : Lane) (holder seq : Nat) : Lane :=
  let a := e.tokNoted holder seq
  if holder = e.me.code then (if e.rd ST_TOK_SEQ ≤ seq then a.tokTake seq else a)
  else if e.rd ST_TOK_SEQ < seq then ((Lane.wr { a with st := { a.st with passDue := false } } ST_TOK_SEQ seq).clr ST_STAT_TOKEN)
  else a

theorem Lane.tokIn_discarded {m : GlMsg} (h : l.glAccept m 8 = none) : l.tokIn m = l.glDiscard := Lane.glIn_discarded h

theorem Lane.tokIn_taken {m : GlMsg} {j : LaneId} (h : l.glAccept m 8 = some j) :
    l.tokIn m = (l.seeEpoch m).tokHeard (byteAt m.payload 1) (leField m.payload 4 4) := Lane.glIn_taken h

section
variable {holder seq : Nat}

theorem Lane.tokHeard_taken (hme : holder = l.me.code) (hseq : l.rd ST_TOK_SEQ ≤ seq) :
    l.tokHeard holder seq = (l.tokNoted holder seq).tokTake seq :=
  (if_pos hme).trans (if_pos hseq)

theorem Lane.tokHeard_lost (hme : holder ≠ l.me.code) (hseq : l.rd ST_TOK_SEQ < seq) : l.tokHeard holder seq =
    (Lane.wr { l.tokNoted holder seq with st := { (l.tokNoted holder seq).st with passDue := false } } ST_TOK_SEQ seq).clr ST_STAT_TOKEN :=
  (if_neg hme).trans (if_pos hseq)

theorem Lane.tokHeard_noted (h : seq < l.rd ST_TOK_SEQ ∨ (holder ≠ l.me.code ∧ seq = l.rd ST_TOK_SEQ)) :
    l.tokHeard holder seq = l.tokNoted holder seq := by
  by_cases hme : holder = l.me.code
  · have hold : seq < l.rd ST_TOK_SEQ := h.resolve_right fun ⟨hne, _⟩ => hne hme
    exact (if_pos hme).trans (if_neg (Nat.not_le.mpr hold))
  · have hold : seq ≤ l.rd ST_TOK_SEQ := h.elim Nat.le_of_lt fun ⟨_, he⟩ => he.le
    exact (if_neg hme).trans (if_neg (Nat.not_lt.mpr hold))

end

/-- Whether this lane regenerates the token: the earliest participant, four outer cycles after the last message or without a holder. -/
def Lane.tokLost (l : Lane) : Prop :=
  l.firstPartaker = some l.me ∧ l.rd ST_STAT_TOKEN = 0 ∧ (l.st.tokAt + 4 * outerCycle l.prof ≤ l.now ∨ l.holderGone = true)

/-- The lane with the token made anew. -/
def Lane.tokMade (l : Lane) (seq : Nat) : Lane :=
  let a := (l.tokSend 2 l.me seq).tokTake seq
  (Lane.bump { a with st := { a.st with waitUntil := a.now + outerCycle a.prof, tokAt := a.now } } ST_CNT_REGEN).raise srcST 2 clsCE none seq

theorem Lane.tokRegen_eq : l.tokRegen =
    if l.firstPartaker = some l.me ∧ l.rd ST_STAT_TOKEN = 0 ∧ (l.due (l.st.tokAt + 4 * outerCycle l.prof) ∨ l.holderGone)
    then l.tokMade ((l.rd ST_TOK_SEQ + 1) % 2 ^ 32) else l := rfl

theorem Lane.tokLost_iff : l.tokLost ↔
    l.firstPartaker = some l.me ∧ l.rd ST_STAT_TOKEN = 0 ∧ (l.due (l.st.tokAt + 4 * outerCycle l.prof) = true ∨ l.holderGone = true) := by
  rw [Lane.tokLost, Lane.due, decide_eq_true_iff]

theorem Lane.tokRegen_lost (h : l.tokLost) : l.tokRegen = l.tokMade ((l.rd ST_TOK_SEQ + 1) % 2 ^ 32) :=
  Lane.tokRegen_eq.trans (if_pos (Lane.tokLost_iff.mp h))

theorem Lane.tokRegen_held (h : ¬ l.tokLost) : l.tokRegen = l := Lane.tokRegen_eq.trans (if_neg (mt Lane.tokLost_iff.mpr h))

/-! ### ST_CTL.SWEEP (R485) -/

theorem Lane.stSweep_restarts (hm : l.mode = mService) (hl : l.life = lcManufacture ∨ l.life = lcReturn) : l.stSweep = l.sweepBoot :=
  if_pos (by rcases hl with hl | hl <;> simp [hm, hl])

theorem Lane.stSweep_ignored (h : l.mode ≠ mService ∨ (l.life ≠ lcManufacture ∧ l.life ≠ lcReturn)) : l.stSweep = l :=
  if_neg (by rcases h with h | ⟨h1, h2⟩ <;> simp [*])

end

/-- Settles O43: the case of each function that the state of the lane selects, carried through the gate of CP. -/
theorem selfTestCommandsComplete : Obligations.SelfTestCommandsComplete := by
  unfold Obligations.SelfTestCommandsComplete
  intro s i hr l
  refine ⟨fun u ix => ⟨fun h => State.actD_ignored hr (Lane.sliceRequest_elsewhere h), fun h =>
      ⟨fun hf => State.actD_to hr (Lane.sliceRequest_starts h hf), fun hf => State.actD_to hr (Lane.sliceRequest_refused h hf)⟩⟩,
    fun h => ⟨fun res cov => State.actD_ignored hr (Lane.sliceEnd_idle h res cov), State.actD_ignored hr (Lane.sliceBudgetEnd_idle h),
      State.actD_ignored hr (Lane.sliceAccess_idle h), State.actD_ignored hr (Lane.gdInject_idle h)⟩,
    fun r h => ⟨fun res cov => ⟨fun hs => State.actD_to hr (Lane.sliceEnd_stores h cov hs),
        fun hs hg => State.actD_ignored hr (Lane.sliceEnd_noSkip h cov hs hg)⟩,
      fun hn => State.actD_ignored hr (Lane.sliceBudgetEnd_notDue h hn),
      fun hp hd => ⟨fun hg hb => State.actD_to hr (Lane.sliceBudgetEnd_skips h hp hd hg hb),
        fun hg => State.actD_to hr (Lane.sliceBudgetEnd_aborts h hp hd hg)⟩,
      fun hu => State.actD_to hr (Lane.sliceAccess_aborts h hu),
      fun h6 h7 h9 => State.actD_ignored hr (Lane.sliceAccess_other h fun hu => hu.elim h6 fun hu => hu.elim h7 h9),
      fun hg => State.actD_to hr (Lane.gdInject_gd h hg), fun hg => State.actD_ignored hr (Lane.gdInject_other h hg),
      fun n hp => State.actD_to hr (Lane.progAbort_running hp h)⟩,
    fun hm hs hrun hp => State.actD_to hr (Lane.progGo_starts hm hs hrun hp),
    fun h => State.actD_ignored hr (Lane.progGo_ignored h),
    fun n hp hrun => State.actD_to hr (Lane.progAbort_waiting hp hrun),
    fun hp => State.actD_ignored hr (Lane.progAbort_idle hp),
    State.actD_to hr rfl,
    fun m h => State.actD_to hr (Lane.tokIn_discarded h),
    fun m j h => ?_,
    ⟨fun h => State.actD_to hr (Lane.tokRegen_lost h), fun h => State.actD_ignored hr (Lane.tokRegen_held h)⟩,
    fun hm hl => State.actD_to hr (Lane.stSweep_restarts hm hl),
    fun h => State.actD_ignored hr (Lane.stSweep_ignored h)⟩
  have htaken := Lane.tokIn_taken h
  have hme : (l.seeEpoch m).me = l.me := Lane.seeEpoch_me m
  exact ⟨fun hh hseq => State.actD_to hr (htaken.trans (Lane.tokHeard_taken (by rw [hme]; exact hh) hseq)),
    fun hh hseq => State.actD_to hr (htaken.trans (Lane.tokHeard_lost (by rw [hme]; exact hh) hseq)),
    fun ho => State.actD_to hr (htaken.trans (Lane.tokHeard_noted (by rw [hme]; exact ho)))⟩

end Sys2Proof.Machine
end

section
/-!
OBLIGATION O5. Runs of commands: what a run does in the lanes its commands name, and that it neither sees nor changes the others
(spec/00_scope.md; spec/08_leadership_guyline.md).
-/

namespace Sys2Proof.Machine

/-- A command answers a next state in which the queue, the part and every lane but the one it names are as before. -/
theorem exec_elsewhere (c : Instr) (s : State) :
    ∃ t, exec c s = .next t ∧ t.part = s.part ∧ t.pending = s.pending ∧ ∀ j, j ≠ c.lane → t.lane j = s.lane j :=
  everyCommandAnswers c s

/-- Two states agree on everything but one lane. -/
structure State.AgreeBut (i : LaneId) (s t : State) : Prop where
  part : t.part = s.part
  pending : t.pending = s.pending
  lane : ∀ j, j ≠ i → t.lane j = s.lane j

/-- The queue is no part of what two states agree on in their lanes. -/
theorem State.AgreeBut.withPending {i : LaneId} {s t : State} (h : s.AgreeBut i t) (r : List Instr) :
    State.AgreeBut i { s with pending := r } { t with pending := r } :=
  ⟨h.part, rfl, fun j hj => by simpa using h.lane j hj⟩

/-- The same change of a lane on which two states agree leaves them in agreement. -/
theorem State.AgreeBut.onLane {i j : LaneId} {s t : State} (h : s.AgreeBut i t) (f : Lane → Lane) :
    (s.onLane j f).AgreeBut i (t.onLane j f) := by
  refine ⟨by simpa using h.part, by simpa using h.pending, fun k hk => ?_⟩
  rw [State.lane_onLane, State.lane_onLane, h.lane k hk, h.part]

/-- A command that reads no other lane, in two states that agree but for a lane: the outcomes agree but for that lane too. -/
theorem exec_agree {i : LaneId} {c : Instr} {s t s' : State} (hr : readsLanes c = false) (h : s.AgreeBut i t)
    (he : exec c s = .next s') : ∃ t', exec c t = .next t' ∧ s'.AgreeBut i t' := by
  obtain ⟨f, hf⟩ := exec_gate_own c hr
  rw [hf s] at he
  injection he with hs
  exact ⟨_, hf t, hs ▸ h.onLane _⟩

/-- A run that does one step more. -/
theorem core_run_succ {M : Host.Core} {k : Nat} {s t : M.State} (h : M.step s = .next t) : M.run (k + 1) s = M.run k t := by
  rw [Host.Core.run, h]

theorem run_succ {k : Nat} {s t : State} (h : step s = .next t) : Host.Core.run core (k + 1) s = Host.Core.run core k t :=
  core_run_succ (M := core) h

/-- A run over commands none of which names a lane answers a state in which that lane, the part and the rest of the queue are as before. -/
theorem run_elsewhere {i : LaneId} {k : Nat} {s : State} (hk : k ≤ s.pending.length) (hl : ∀ c ∈ s.pending.take k, c.lane ≠ i) :
    ∃ t, Host.Core.run core k s = .next t ∧ t.lane i = s.lane i ∧ t.pending = s.pending.drop k ∧ t.part = s.part := by
  induction k generalizing s with
  | zero => exact ⟨s, rfl, rfl, rfl, rfl⟩
  | succ k ih =>
    match hp : s.pending with
    | [] => simp [hp] at hk
    | c :: r =>
      rw [hp] at hk hl
      obtain ⟨u, hu, hpart, hpend, hlane⟩ := exec_elsewhere c { s with pending := r }
      have hpend : u.pending = r := hpend
      obtain ⟨t, ht, hti, htp, htpart⟩ := ih (s := u) (by simpa [hpend] using hk)
        (fun d hd => hl d (List.mem_cons_of_mem _ (by simpa [hpend] using hd)))
      refine ⟨t, (run_succ ((step_front hp).trans hu)).trans ht, ?_, by simpa [hpend] using htp, htpart.trans hpart⟩
      rw [hti, hlane i (hl c (.head _)).symm, State.lane_withPending]

/-- Two runs over commands none of which reads other lanes, from states that agree but for a lane, agree but for it. -/
theorem run_agree {i : LaneId} {k : Nat} {s s' t : State} (hk : k ≤ s.pending.length)
    (hr : ∀ c ∈ s.pending.take k, readsLanes c = false) (h : s.AgreeBut i s') (ht : Host.Core.run core k s = .next t) :
    ∃ t', Host.Core.run core k s' = .next t' ∧ t.AgreeBut i t' := by
  induction k generalizing s s' with
  | zero =>
    injection ht with ht
    exact ⟨s', rfl, ht ▸ h⟩
  | succ k ih =>
    match hp : s.pending with
    | [] => simp [hp] at hk
    | c :: r =>
      rw [hp] at hk hr
      obtain ⟨u, hu, -, hpend, -⟩ := exec_elsewhere c { s with pending := r }
      have hpend : u.pending = r := hpend
      obtain ⟨u', hu', hagree⟩ := exec_agree (hr c (.head _)) (h.withPending r) hu
      rw [run_succ ((step_front hp).trans hu)] at ht
      obtain ⟨t', ht', htt⟩ := ih (s := u) (by simpa [hpend] using hk)
        (fun d hd => hr d (List.mem_cons_of_mem _ (by simpa [hpend] using hd))) hagree ht
      exact ⟨t', (run_succ ((step_front (h.pending.trans hp)).trans hu')).trans ht', htt⟩

/-- Settles O5: each run by itself leaves the lane, and two runs from states that agree but for it stay in agreement. -/
theorem runLeavesOtherLanes : Obligations.RunLeavesOtherLanes := by
  unfold Obligations.RunLeavesOtherLanes
  intro k i s hk hl
  obtain ⟨t, ht, hti, htp, htpart⟩ := run_elsewhere hk hl
  refine ⟨t, ht, hti, htp, htpart, fun s' hpend hpart hlane hr => ?_⟩
  obtain ⟨t', ht', hagree⟩ := run_agree hk hr ⟨hpart, hpend, hlane⟩ ht
  obtain ⟨u, hu, hui, -, -⟩ := run_elsewhere (s := s') (k := k) (hpend ▸ hk) (hpend ▸ hl)
  obtain rfl : u = t' := by rw [hu] at ht'; injection ht'
  exact ⟨u, hu, hui, hagree.lane, hagree.pending, hagree.part.trans htpart⟩

end Sys2Proof.Machine
end

section
/-!
OBLIGATION O58. Messages that the memory and the interconnect raise, as they reach the collector (spec/01_lanes_modes_faults.md R51;
spec/09_fault_collection.md R320, R323).
-/

namespace Sys2Proof.Machine

/-- A message carries the source it was raised by. -/
theorem Lane.msgSrc_mkMsg (l : Lane) {src kind cls : Nat} (data : Nat) (hs : src < 1024) (hk : kind < 64) (hc : cls < 4) :
    msgSrc (l.mkMsg src kind cls none data) = src := by
  have hcode : l.me.code < 4 := by cases l.me <;> decide
  unfold msgSrc Lane.mkMsg
  rw [getBits_eq, BitVec.toNat_ofNat]
  dsimp only
  omega

/-- A message of another class than CE joins those that wait, and nothing else changes (R320). -/
theorem Lane.raise_joins (l : Lane) (src kind : Nat) {cls : Nat} (x : Option Ax) (data : Nat) (h : cls < 4) (hce : cls ≠ clsCE) :
    l.raise src kind cls x data = { l with fc := { l.fc with wait := l.fc.wait ++ [⟨l.mkMsg src kind cls x data, false⟩] } } :=
  l.present_waits _ ((l.msgClass_mkMsg src kind x data h).trans_ne hce)

/-- A CE message joins those that wait where its source has room (R320). -/
theorem Lane.raise_ce_joins (l : Lane) {src kind : Nat} (data : Nat) (hs : src < 1024) (hk : kind < 64) (hw : l.waiting src < 2) :
    l.raise src kind clsCE none data = { l with fc := { l.fc with wait := l.fc.wait ++ [⟨l.mkMsg src kind clsCE none data, false⟩] } } := by
  rw [Lane.raise, Lane.present, if_neg]
  rw [l.msgSrc_mkMsg data hs hk (by decide)]
  exact fun c => Nat.not_le.mpr hw c.2

/-- It is dropped and counted where two of its source wait (R320). -/
theorem Lane.raise_ce_drops (l : Lane) {src kind : Nat} (data : Nat) (hs : src < 1024) (hk : kind < 64) (hw : 2 ≤ l.waiting src) :
    l.raise src kind clsCE none data = l.bump FC_DROP_CE := by
  rw [Lane.raise, Lane.present, if_pos]
  rw [l.msgSrc_mkMsg data hs hk (by decide), l.msgClass_mkMsg src kind none data (by decide)]
  exact ⟨rfl, hw⟩

/-- The first of the outer cycle is raised and noted (R51). -/
theorem Lane.raiseOnce_first {l : Lane} {src kind cls : Nat} {x : Option Ax} {data : Nat}
    (h : ¬ l.fc.ceDone.contains (ceKey src kind x) = true) :
    l.raiseOnce src kind cls x data = { l.raise src kind cls x data with
      fc := { (l.raise src kind cls x data).fc with ceDone := ceKey src kind x :: (l.raise src kind cls x data).fc.ceDone } } :=
  if_neg h

/-- What a message of another class than CE changes, beside what a read returns. -/
theorem Lane.raise_joined (l : Lane) (src kind : Nat) {cls : Nat} (x : Option Ax) (data : Nat) (h : cls < 4) (hce : cls ≠ clsCE) :
    (l.raise src kind cls x data).fc = { l.fc with wait := l.fc.wait ++ [⟨l.mkMsg src kind cls x data, false⟩] } ∧
      { l.raise src kind cls x data with fc := l.fc, rdata := l.rdata, busErr := l.busErr } = l := by
  rw [l.raise_joins src kind x data h hce]
  exact ⟨rfl, rfl⟩

/-- The same where the access that failed ends with a bus error (R323). -/
theorem Lane.raise_error_joined (l : Lane) (src kind : Nat) {cls : Nat} (x : Option Ax) (data : Nat) (h : cls < 4) (hce : cls ≠ clsCE) :
    (l.raise src kind cls x data).busError.fc = { l.fc with wait := l.fc.wait ++ [⟨l.mkMsg src kind cls x data, false⟩] } ∧
      { (l.raise src kind cls x data).busError with fc := l.fc, rdata := l.rdata, busErr := l.busErr } = l := by
  rw [l.raise_joins src kind x data h hce]
  exact ⟨rfl, rfl⟩

/-- What the first corrected TCM error of an outer cycle does: its message joins those that wait, or is dropped and counted. -/
theorem Lane.tcmCorrected_first (l : Lane) (a : Nat) (h : l.fc.ceDone.contains (srcTM, 1, 2) = false) :
    let t := l.raiseOnce srcTM 1 clsCE none a
    t.fc.ceDone.contains (srcTM, 1, 2) = true ∧ { t with fc := l.fc, regs := l.regs } = l ∧ (∀ b, b ≠ FC_DROP_CE.addr → t.reg b = l.reg b) ∧
      (l.waiting srcTM < 2 → t.regs = l.regs ∧ t.fc.wait = l.fc.wait ++ [⟨l.mkMsg srcTM 1 clsCE none a, false⟩]) ∧
      (2 ≤ l.waiting srcTM → t.fc.wait = l.fc.wait ∧ t.rd FC_DROP_CE = Nat.min (l.rd FC_DROP_CE + 1) 65535) := by
  intro t
  have hn : ¬ l.fc.ceDone.contains (ceKey srcTM 1 none) = true := Bool.eq_false_iff.mp h
  have ht : t = _ := Lane.raiseOnce_first hn
  have hform : { t with fc := l.fc, regs := l.regs } = l := by
    obtain ⟨r, c, e, -⟩ := l.raiseOnce_form srcTM 1 clsCE none a
    rw [show t = _ from e]
  refine ⟨by rw [ht]; simp [ceKey], hform, l.reg_raiseOnce_ne srcTM 1 clsCE none a, fun hw => ?_, fun hw => ?_⟩
  · rw [ht, Lane.raise_ce_joins l a (by decide) (by decide) hw]
    exact ⟨rfl, rfl⟩
  · rw [ht, Lane.raise_ce_drops l a (by decide) (by decide) hw]
    exact ⟨by simp, (Lane.rd_bump (l := l) (f := FC_DROP_CE) (by decide) :)⟩

/-- Settles O58: a UC or FT message joins those that wait by its class alone, and a CE message by the room of its source. -/
theorem faultMessagesReachTheCollector : Obligations.FaultMessagesReachTheCollector := by
  unfold Obligations.FaultMessagesReachTheCollector
  intro s i hr l joins
  refine ⟨fun c => ?_, fun a => ⟨?_, ?_, ?_, ?_, fun h => ?_, fun h => ?_⟩⟩
  · obtain ⟨hfc, hrest⟩ := l.raise_joined srcMC 3 (cls := clsFT) none c.toNat (by decide) (by decide)
    exact ⟨_, ⟨State.actD_to hr rfl, hfc, hrest⟩, Lane.raise_busErr _ _ _ _ _ _⟩
  · obtain ⟨hfc, hrest⟩ := l.raise_joined srcBI 2 (cls := clsFT) none a.toNat (by decide) (by decide)
    exact ⟨_, ⟨State.actD_to hr rfl, hfc, hrest⟩, Lane.raise_busErr _ _ _ _ _ _⟩
  · obtain ⟨hfc, hrest⟩ := l.raise_error_joined srcBI 1 (cls := clsUC) none a.toNat (by decide) (by decide)
    exact ⟨_, ⟨State.actD_to hr rfl, hfc, hrest⟩, rfl⟩
  · obtain ⟨hfc, hrest⟩ := l.raise_joined srcTM 2 (cls := clsFT) none a.toNat (by decide) (by decide)
    exact ⟨_, ⟨State.actD_to hr (l.eccError_tcm_uncorrected _), hfc, hrest⟩, Lane.raise_busErr _ _ _ _ _ _⟩
  · obtain ⟨hfc, hrest⟩ := l.raise_error_joined srcMC 2 (cls := clsUC) none a.toNat (by decide) (by decide)
    exact ⟨_, ⟨State.actD_to hr (l.eccError_mram_uncorrected _), hfc, hrest⟩, rfl⟩
  · exact State.actD_ignored hr ((l.eccError_tcm_corrected _).trans (Lane.raiseOnce_again clsCE a.toNat h))
  · exact ⟨_, State.actD_to hr (l.eccError_tcm_corrected _), l.tcmCorrected_first a.toNat h⟩

end Sys2Proof.Machine
end

section
/-!
OBLIGATION O22. Safety inputs and their tests, the ARMING time and a low VBAT (spec/16_start_up.md R540 to R545; spec/01_lanes_modes_faults.md
R13, R49).
-/

namespace Sys2Proof.Machine

section
variable {l : Lane} {n : Nat}

/-! ### Accepted levels -/

/-- A level that cannot have been accepted changes nothing (R540). -/
theorem Lane.safChange_unaccepted {chanB level : Bool} (h : l.safAccepts n chanB level = false) : l.safChange n chanB level = l :=
  if_neg (by simp [h])

/-- An accepted level of an input that is not under test is kept and evaluated (R540). -/
theorem Lane.safChange_evaluated {chanB level : Bool} (h : l.safAccepts n chanB level = true)
    (hi : (l.safPin n chanB level).injecting n = false) : l.safChange n chanB level = (l.safPin n chanB level).safLevels n :=
  (if_pos h).trans (if_neg (by simp [hi]))

/-- An accepted level of an input under test is kept alone (R542). -/
theorem Lane.safChange_kept {chanB level : Bool} (h : l.safAccepts n chanB level = true)
    (hi : (l.safPin n chanB level).injecting n = true) : l.safChange n chanB level = l.safPin n chanB level :=
  (if_pos h).trans (if_pos hi)

/-- The level of either channel, kept with its time where it is a new one. -/
theorem Lane.safPin_eq (l : Lane) (n : Nat) (chanB level : Bool) : l.safPin n chanB level =
    if level = (if chanB then (l.saf.get n).b else (l.saf.get n).a) then l
    else l.setSaf n (if chanB then { l.saf.get n with b := level, atB := some l.now } else { l.saf.get n with a := level, atA := some l.now }) := by
  cases chanB <;> rfl

/-! ### Discrepancies -/

/-- A disagreement that has lasted DISC ms is latched and raised (R541). -/
theorem Lane.safDiscrepancy_latched {t : Nat} (hd : (l.saf.get n).disc = some t) (he : l.on (SF_SAFCFG_EN n) = true)
    (hi : l.injecting n = false) (hl : l.on (safStat n 5) = false) (ht : t + l.rd (SF_SAFCFG_DISC n) * msec ≤ l.now) :
    l.safDiscrepancy n = (((l.set (safStat n 5)).clr (safStat n 0)).raise srcSF 5 clsUC none (2 ^ n)).event 190 := by
  rw [Lane.safDiscrepancy, hd]
  exact if_pos ⟨he, hi, hl, decide_eq_true ht⟩

/-- One that has not, or of an input that is not enabled, under test or latched, is not. -/
theorem Lane.safDiscrepancy_ignored (h : ∀ t, (l.saf.get n).disc = some t → l.on (SF_SAFCFG_EN n) = false ∨ l.injecting n = true ∨
    l.on (safStat n 5) = true ∨ l.now < t + l.rd (SF_SAFCFG_DISC n) * msec) : l.safDiscrepancy n = l := by
  unfold Lane.safDiscrepancy
  split
  next t hd =>
    refine if_neg fun ⟨he, hi, hl, ht⟩ => ?_
    rcases h t hd with h | h | h | h
    · simp [h] at he
    · simp [h] at hi
    · simp [h] at hl
    · exact Nat.not_le.mpr h (of_decide_eq_true ht)
  next => rfl

/-! ### Injections -/

/-- An injection is queued outside BOOT while none runs (R542). -/
theorem Lane.injectInputs_queued {m : Nat} (hm : l.mode ≠ mBoot) (hi : l.saf.inj = none) :
    l.injectInputs m = l.injQueue ((List.range 4).filter m.testBit) := if_neg (by simp [hm, hi])

/-- In BOOT, or while one runs, it is not. -/
theorem Lane.injectInputs_ignored {m : Nat} (h : l.mode = mBoot ∨ l.saf.inj.isSome = true) : l.injectInputs m = l := if_pos h

/-- No half of a test ends before its due instant (R542). -/
theorem Lane.injEnd_early {ok : Bool} (h : ∀ j, l.saf.inj = some j → l.now < j.due) : l.injEnd ok = l := by
  unfold Lane.injEnd
  split
  next => rfl
  next j hj => exact if_pos (by simp [Lane.due, h j hj])

/-- A half of a test that ends at its due instant: the failure of its channel is noted, then the test goes on or ends (R542). -/
theorem Lane.injEnd_due {ok : Bool} {j : Inject} (hj : l.saf.inj = some j) (hd : j.due ≤ l.now) : l.injEnd ok =
    let a := if ok || j.failed then l else l.injFail j.input j.chanB
    let k := { j with due := j.due + injPhase, failed := j.failed || !ok }
    if j.release = false then { a with saf := { a.saf with inj := some { k with release := true } } }
    else if j.chanB = false then { a with saf := { a.saf with inj := some { k with chanB := true, release := false, failed := false } } }
    else a.injDone j.input := by
  rw [Lane.injEnd, hj]
  exact if_neg (by simp [Lane.due, hd])

/-! ### The ARMING time -/

/-- SY_ARMTIME does nothing before it has expired, or outside ARMING. -/
theorem Lane.armTimeout_ignored (h : l.mode ≠ mArming ∨ l.now < l.armEnd) : l.armTimeout = l :=
  if_neg fun ⟨hm, hd⟩ => h.elim (fun k => k hm) fun k => Nat.not_le.mpr k (of_decide_eq_true hd)

/-- Expired in ARMING, it judges the proofs; where one is open, and it has not asked before, it asks for SAFE-HOLD and raises kind 3. -/
theorem Lane.armTimeout_expired (hm : l.mode = mArming) (hd : l.armEnd ≤ l.now) : l.armTimeout =
    if l.armProofs.armComplete then l.armProofs
    else if l.armProofs.sy.reqHold = some .armTimeout then l.armProofs
    else ({ l.armProofs with sy := { l.armProofs.sy with reqHold := some .armTimeout } }).raise srcSY 3 clsUC none 0 :=
  if_pos ⟨hm, decide_eq_true hd⟩

end

/-! ### The commands -/

section
variable {s : State} {i : LaneId} (hr : s.ready i (.domain .fb))
include hr

/-- A change of a level where the function of the safety inputs runs. -/
theorem exec_safetyInputChange_to {n : Fin 4} {chanB level : Bool} {t : Lane} (h : (s.lane i).safChange n chanB level = t) :
    exec (.safetyInputChange i n chanB level) s = .next (s.setLane i t) :=
  State.actPin_to hr.1 hr.2 h

theorem exec_safetyInputChange_ignored {n : Fin 4} {chanB level : Bool} (h : (s.lane i).safChange n chanB level = s.lane i) :
    exec (.safetyInputChange i n chanB level) s = .next s := by
  rw [exec_safetyInputChange_to hr h, State.setLane_lane]

/-- The end of a half of a test, at its due instant. -/
theorem exec_injectionPhaseEnd_due {ok : Bool} {j : Inject} (hj : (s.lane i).saf.inj = some j) (hd : j.due ≤ (s.lane i).now) :
    let l := s.lane i
    let a := if ok || j.failed then l else l.injFail j.input j.chanB
    let k := { j with due := j.due + injPhase, failed := j.failed || !ok }
    (j.release = false → exec (.injectionPhaseEnd i ok) s = .next (s.setLane i
      { a with saf := { a.saf with inj := some { k with release := true } } })) ∧
    (j.release = true → j.chanB = false → exec (.injectionPhaseEnd i ok) s = .next (s.setLane i
      { a with saf := { a.saf with inj := some { k with chanB := true, release := false, failed := false } } })) ∧
    (j.release = true → j.chanB = true → exec (.injectionPhaseEnd i ok) s = .next (s.setLane i (a.injDone j.input))) := by
  have hend := Lane.injEnd_due (ok := ok) hj hd
  refine ⟨fun h => State.actD_to hr (hend.trans (if_pos h)), fun h hb => State.actD_to hr (hend.trans ?_),
    fun h hb => State.actD_to hr (hend.trans ?_)⟩
  · exact (if_neg (by simp [h])).trans (if_pos hb)
  · exact (if_neg (by simp [h])).trans (if_neg (by simp [hb]))

end

/-- Settles O22: each command is the operation of its input, its test or its timer, in the form that the state gives it. -/
theorem safetyInputCommandsComplete : Obligations.SafetyInputCommandsComplete := by
  unfold Obligations.SafetyInputCommandsComplete
  intro s i
  refine ⟨fun hr => ⟨fun n chanB level => ?_, fun n t hd he hi hl ht => State.actD_to hr (Lane.safDiscrepancy_latched hd he hi hl ht),
    fun n h => State.actD_ignored hr (Lane.safDiscrepancy_ignored h), fun m => State.accD_to hr rfl,
    fun m hm hi => State.accD_to hr (Lane.injectInputs_queued hm hi), fun m h => State.accD_ignored hr (Lane.injectInputs_ignored h),
    fun ok h => State.actD_ignored hr (Lane.injEnd_early h), fun j ok hj hd => exec_injectionPhaseEnd_due hr hj hd⟩,
    fun n chanB level hp h => ?_, fun hr => ⟨fun hm hd hq hc => State.act_to hr ?_, fun hm hd h => State.act_to hr ?_,
      fun h => State.act_ignored hr (Lane.armTimeout_ignored h), fun h => State.act_ignored hr (if_neg (by simp [h])),
      fun h => State.act_to hr (if_pos h)⟩⟩
  · dsimp only
    rw [← Lane.safPin_eq]
    exact ⟨fun h => exec_safetyInputChange_ignored hr (Lane.safChange_unaccepted h),
      fun h hi => exec_safetyInputChange_to hr (Lane.safChange_evaluated h hi),
      fun h hi => exec_safetyInputChange_to hr (Lane.safChange_kept h hi)⟩
  · exact State.actPin_kept s i _ _ _ hp (by rcases h with h | h <;> simp [h])
  · rw [Lane.armTimeout_expired hm hd, if_neg (by simp [hc]), if_neg hq]
  · rw [Lane.armTimeout_expired hm hd]
    split
    · rfl
    next hc => exact if_pos (h.resolve_right hc)

end Sys2Proof.Machine
end

section
/-!
OBLIGATION O23. Boundary ticks, the degraded time, the die temperature, aged commands, auto-restart and partitions
(spec/01_lanes_modes_faults.md R18 to R29, R40, R49).
-/

namespace Sys2Proof.Machine

section
variable {l : Lane}

/-! ### The boundary -/

/-- A boundary that leaves the lane in BOOT, or finds it there, evaluates the postures (R27). -/
theorem Lane.boundary_boot {d0 d1 : Nat} {fresh : Bool} (h : (l.boundaryHead d0 d1).modeStep.mode = mBoot) :
    l.boundary d0 d1 fresh = (l.boundaryHead d0 d1).modeStep.postureStep.newCycle := if_pos h

/-- Any other notes the end of an outer cycle, shows the own causes and goes on to what follows the transition (R23). -/
theorem Lane.boundary_run {d0 d1 : Nat} {fresh : Bool} (h : (l.boundaryHead d0 d1).modeStep.mode ≠ mBoot) : l.boundary d0 d1 fresh =
    let a := (l.boundaryHead d0 d1).modeStep
    ((Lane.wr { a with sy := { a.sy with cycled := true } } SY_MODE_LOCAL a.localCauses).boundaryTail fresh).newCycle := if_neg h

/-! ### The degraded time -/

theorem Lane.degExpiry_ignored (h : l.mode ≠ mDegraded ∨ l.sy.reqHold.isSome = true) : l.degExpiry = l := if_pos h

/-- In DEGRADED with no hold asked for, the budget is judged first, then the windings (R40). -/
theorem Lane.degExpiry_judged (hm : l.mode = mDegraded) (hq : l.sy.reqHold = none) : l.degExpiry =
    if l.rd SY_DEGBUD_S * 1000 ≤ l.rd SY_DEGUSED_MS + l.degLoose / msec then
      ({ l with sy := { l.sy with reqHold := some .degBudget } }).raise srcSY 1 clsUC none 0
    else if l.sy.thermRem = some 0 then
      ({ l with sy := { l.sy with reqHold := some .windTherm } }).raise srcSY 2 clsUC none 0
    else l := if_neg (by simp [hm, hq])

/-! ### The die temperature -/

theorem Lane.dieHold_ignored (h : ∀ t, l.sy.hotSince = some t → modeLive l.mode = false ∨ l.now < t + 10 * msec) : l.dieHold = l := by
  unfold Lane.dieHold
  split
  next t ht =>
    refine if_neg fun ⟨hm, hd⟩ => ?_
    rcases h t ht with h | h
    · simp [h] at hm
    · exact Nat.not_le.mpr h (of_decide_eq_true hd)
  next => rfl

theorem Lane.dieHold_due {t : Nat} (ht : l.sy.hotSince = some t) (hm : modeLive l.mode = true) (hd : t + 10 * msec ≤ l.now) :
    l.dieHold = { l with sy := { l.sy with reqHold := some .temperature } } := by
  rw [Lane.dieHold, ht]
  exact if_pos ⟨hm, decide_eq_true hd⟩

/-! ### Auto-restart -/

/-- An auto-restart that stands takes the place of the host's (R20). -/
theorem Lane.restart_auto (h : l.autoStands = true) : l.restart = l.enterBoot.set SY_MODE_ARUSED := if_pos h

theorem Lane.dumpOver_auto (h : l.autoStands = true) : l.dumpOver = l.enterBoot.set SY_MODE_ARUSED :=
  (if_pos (by simp [h])).trans (Lane.restart_auto h)

theorem Lane.autoRestart_due (h : l.autoStands = true) (ht : l.atTick = true) (hd : l.dumping = false) :
    l.autoRestart = l.enterBoot.set SY_MODE_ARUSED := (if_pos (by simp [h, ht, hd])).trans (Lane.restart_auto h)

theorem Lane.autoRestart_dumping (hd : l.dumping = true) : l.autoRestart = l := if_neg (by simp [hd])

theorem Lane.autoRestart_ignored (h : l.sy.autoDue = false ∨ l.sy.autoTick = false ∨ l.atTick = false ∨ l.mode ≠ mSafeHold) :
    l.autoRestart = l := by
  refine if_neg fun c => ?_
  simp only [Lane.autoStands, Bool.and_eq_true, decide_eq_true_eq] at c
  obtain ⟨⟨⟨⟨hdue, htick⟩, hmode⟩, hat⟩, -⟩ := c
  rcases h with h | h | h | h
  · simp [h] at hdue
  · simp [h] at htick
  · simp [h] at hat
  · exact h hmode

/-! ### Partitions -/

theorem Lane.partDecide_early (h : ∀ t, l.sy.partAt = some t → l.now < t + l.partWait ∨ l.atTick = false) : l.partDecide = l := by
  unfold Lane.partDecide
  split
  next t ht => exact if_pos (by rcases h t ht with h | h <;> simp [Lane.due, h])
  next => rfl

/-- A partitioned lane whose time has come at a tick goes on, or leaves the live modes (R29). -/
theorem Lane.partDecide_due {t : Nat} (ht : l.sy.partAt = some t) (hd : t + l.partWait ≤ l.now) (hat : l.atTick = true) : l.partDecide =
    if l.partContinues then { l with sy := { l.sy with partAt := none, partGone := true } }
    else if modeLive l.mode then ((Lane.raise { l with sy := { l.sy with partAt := none } } srcSY 4 clsUC none 0).safeHold false).modeFollow
    else { l with sy := { l.sy with partAt := none } } := by
  rw [Lane.partDecide, ht]
  exact if_neg (by simp [Lane.due, hd, hat])

end

/-! ### The commands -/

section
variable {s : State} {i : LaneId} (hr : s.ready i .clocked)
include hr

theorem exec_outerCycleBoundary {d0 d1 : Fin 23} (h : (s.lane i).tickHere = true) :
    exec (.outerCycleBoundary i d0 d1) s = .next (s.setLane i ((s.lane i).boundary d0 d1 (s.cmdFresh i))) :=
  State.act_to hr (if_pos h)

theorem exec_outerCycleBoundary_ignored {d0 d1 : Fin 23} (h : (s.lane i).tickHere = false) :
    exec (.outerCycleBoundary i d0 d1) s = .next s :=
  State.act_ignored hr (if_neg (by simp [h]))

end

/-- Settles O23: each command is the operation of its timer or its tick, in the form that the state gives it. -/
theorem modeCommandsComplete : Obligations.ModeCommandsComplete := by
  unfold Obligations.ModeCommandsComplete
  intro s i hr
  refine ⟨fun d0 d1 => ⟨fun ht hm => ?_, fun ht hm => ?_, exec_outerCycleBoundary_ignored hr⟩,
    fun hm hq hb => State.act_to hr ((Lane.degExpiry_judged hm hq).trans (if_pos hb)),
    fun hm hq hb => ⟨fun hw => State.act_to hr ?_, fun hw => State.act_ignored hr ?_⟩,
    fun h => State.act_ignored hr (Lane.degExpiry_ignored h), fun h => State.act_ignored hr (Lane.dieHold_ignored h),
    fun t ht hm hd => State.act_to hr (Lane.dieHold_due ht hm hd),
    fun h => State.act_ignored hr (if_neg ?_), fun ht hf => State.act_to hr (if_pos ⟨ht, hf⟩),
    fun hdue htick hat hm => ?_, fun h => State.act_ignored hr (Lane.autoRestart_ignored h),
    fun h => State.act_ignored hr (Lane.partDecide_early h), fun t ht hd hat => ?_⟩
  · rw [exec_outerCycleBoundary hr ht, Lane.boundary_boot hm]
  · rw [exec_outerCycleBoundary hr ht, Lane.boundary_run hm]
  · rw [Lane.degExpiry_judged hm hq, if_neg (Nat.not_le.mpr hb), if_pos hw]
  · rw [Lane.degExpiry_judged hm hq, if_neg (Nat.not_le.mpr hb), if_neg hw]
  · rintro ⟨ht, hf⟩
    rcases h with h | h
    · simp [h] at ht
    · simp [h] at hf
  · have hs : (s.lane i).autoStands = true := by simp [Lane.autoStands, hdue, htick, hm]
    exact ⟨fun hd => ⟨State.act_ignored hr (Lane.autoRestart_dumping hd), Lane.dumpOver_auto hs⟩,
      fun hd => State.act_to hr (Lane.autoRestart_due hs hat hd)⟩
  · have hpart := Lane.partDecide_due ht hd hat
    refine ⟨fun hc => State.act_to hr (hpart.trans (if_pos hc)), fun hc hm => State.act_to hr ?_, fun hc hm => State.act_to hr ?_⟩
    · rw [hpart, if_neg (by simp [hc]), if_pos hm]
    · rw [hpart, if_neg (by simp [hc]), if_neg (by simp [hm])]

end Sys2Proof.Machine
end

section
/-!
OBLIGATION O26. What a function of the model makes of a lane keeps the field SY_MODE.OWN, and asks for no restart that waits for the end of a
dump but in SAFE-HOLD and SERVICE; where it may restart the lane, the lane may have entered BOOT. One rule for each function, by the rules of
the functions it is made of; the few functions that change the mode have theirs after them.
-/

namespace Sys2Proof.Machine

-- The side conditions of the rules are many small proofs: one after the other, so that they need no thread each.
set_option Elab.async false

/-- A restart that waits for the end of a dump waits in SAFE-HOLD or SERVICE. -/
def Lane.waitsRight (l : Lane) : Prop := l.fc.restartWait = true → l.mayRestart = true

/-- One lane comes from another by operations that keep its mode, or, where `may` says so, restart it. -/
structure Lane.Stays (may : Bool) (l t : Lane) : Prop where
  mode : t.mode = l.mode ∨ (may = true ∧ l.mayRestart = true ∧ t.mode = mBoot)
  waits : l.waitsRight → t.waitsRight

theorem Lane.mayRestart_congr {l t : Lane} (h : t.mode = l.mode) : t.mayRestart = l.mayRestart := by
  rw [Lane.mayRestart, Lane.mayRestart, h]

theorem Lane.waitsRight_congr {l t : Lane} (h : t.mode = l.mode) (w : t.fc.restartWait = l.fc.restartWait) (hl : l.waitsRight) :
    t.waitsRight := by
  rw [Lane.waitsRight, w, Lane.mayRestart_congr h]
  exact hl

theorem Lane.mayRestart_iff {l : Lane} : l.mayRestart = true ↔ l.mode = mSafeHold ∨ l.mode = mService := by simp [Lane.mayRestart]

/-- A lane that may restart is not in BOOT. -/
theorem Lane.not_mayRestart_of_boot {l : Lane} (h : l.mode = mBoot) : l.mayRestart = false := by
  rw [Lane.mayRestart, h]
  rfl

theorem Lane.Stays.refl {may : Bool} (l : Lane) : l.Stays may l := ⟨.inl rfl, id⟩

section
variable {may : Bool} {l t : Lane}

/-- A change that keeps the mode and the restart that waits. -/
theorem Lane.Stays.keep {u : Lane} (h : l.Stays may t) (m : u.mode = t.mode) (w : u.fc.restartWait = t.fc.restartWait) : l.Stays may u :=
  ⟨by rw [m]; exact h.mode, fun hl => Lane.waitsRight_congr m w (h.waits hl)⟩

/-- A change of no register. -/
theorem Lane.Stays.of {u : Lane} (h : l.Stays may t) (regs : u.regs = t.regs) (w : u.fc.restartWait = t.fc.restartWait) : l.Stays may u :=
  h.keep (Lane.mode_congr regs) w

/-- The mode of a lane that may restart is the one it started from. -/
theorem Lane.Stays.mayRestart (h : l.Stays may t) (ht : t.mayRestart = true) : l.mayRestart = true := by
  rcases h.mode with hm | ⟨-, hl, -⟩
  · rwa [← Lane.mayRestart_congr hm]
  · exact hl

/-- A restart. -/
theorem Lane.Stays.boots {u : Lane} (h : l.Stays true t) (ht : t.mayRestart = true) (m : u.mode = mBoot) (w : u.fc.restartWait = false) :
    l.Stays true u :=
  ⟨.inr ⟨rfl, h.mayRestart ht, m⟩, fun _ hu => absurd hu (by rw [w]; decide)⟩

/-- A restart that is to wait, of a lane that may restart. -/
theorem Lane.Stays.restartWaits {v} (h : l.Stays may t) (ht : t.mayRestart = true) : l.Stays may { t with fc := v } :=
  ⟨h.mode, fun _ _ => ht⟩

theorem Lane.Stays.each {α : Type} {xs : List α} {f : Lane → α → Lane} (h : l.Stays may t)
    (step : ∀ k x, l.Stays may k → l.Stays may (f k x)) : l.Stays may (t.each xs f) := by
  unfold Lane.each
  induction xs generalizing t with
  | nil => exact h
  | cons x r ih => exact ih (step t x h)

theorem Lane.Stays.eachOf {α : Type} {xs : List α} {f : Lane → α → Lane} (h : l.Stays may t)
    (step : ∀ k x, x ∈ xs → l.Stays may k → l.Stays may (f k x)) : l.Stays may (t.each xs f) := by
  unfold Lane.each
  induction xs generalizing t with
  | nil => exact h
  | cons x r ih => exact ih (step t x (.head _) h) fun k y hy => step k y (.tail _ hy)

theorem Lane.Stays.when {c : Bool} {f : Lane → Lane} (h : l.Stays may t) (step : ∀ k, l.Stays may k → l.Stays may (f k)) :
    l.Stays may (t.when c f) := by
  unfold Lane.when
  split
  · exact step t h
  · exact h

theorem Lane.Stays.ite {c : Prop} {_ : Decidable c} {p q : Lane} (hp : l.Stays may p) (hq : l.Stays may q) :
    l.Stays may (if c then p else q) := by
  split
  · exact hp
  · exact hq

theorem Lane.Stays.now {v} (h : l.Stays may t) : l.Stays may { t with now := v } := h.of rfl rfl
theorem Lane.Stays.fresh {v} (h : l.Stays may t) : l.Stays may { t with fresh := v } := h.of rfl rfl
theorem Lane.Stays.busErr {v} (h : l.Stays may t) : l.Stays may { t with busErr := v } := h.of rfl rfl
theorem Lane.Stays.sy {v} (h : l.Stays may t) : l.Stays may { t with sy := v } := h.of rfl rfl
theorem Lane.Stays.pc {v} (h : l.Stays may t) : l.Stays may { t with pc := v } := h.of rfl rfl
theorem Lane.Stays.gl {v} (h : l.Stays may t) : l.Stays may { t with gl := v } := h.of rfl rfl
theorem Lane.Stays.fc {v} (h : l.Stays may t) (hv : v.restartWait = t.fc.restartWait := by rfl) : l.Stays may { t with fc := v } :=
  h.of rfl hv
theorem Lane.Stays.sc {v} (h : l.Stays may t) : l.Stays may { t with sc := v } := h.of rfl rfl
theorem Lane.Stays.hq {v} (h : l.Stays may t) : l.Stays may { t with hq := v } := h.of rfl rfl
theorem Lane.Stays.tt {v} (h : l.Stays may t) : l.Stays may { t with tt := v } := h.of rfl rfl
theorem Lane.Stays.cn {v} (h : l.Stays may t) : l.Stays may { t with cn := v } := h.of rfl rfl
theorem Lane.Stays.pm {v} (h : l.Stays may t) : l.Stays may { t with pm := v } := h.of rfl rfl
theorem Lane.Stays.pw {v} (h : l.Stays may t) : l.Stays may { t with pw := v } := h.of rfl rfl
theorem Lane.Stays.st {v} (h : l.Stays may t) : l.Stays may { t with st := v } := h.of rfl rfl
theorem Lane.Stays.lc {v} (h : l.Stays may t) : l.Stays may { t with lc := v } := h.of rfl rfl
theorem Lane.Stays.im {v} (h : l.Stays may t) : l.Stays may { t with im := v } := h.of rfl rfl
theorem Lane.Stays.saf {v} (h : l.Stays may t) : l.Stays may { t with saf := v } := h.of rfl rfl
theorem Lane.Stays.trip {v} (h : l.Stays may t) : l.Stays may { t with trip := v } := h.of rfl rfl
theorem Lane.Stays.dl {v} (h : l.Stays may t) : l.Stays may { t with dl := v } := h.of rfl rfl
theorem Lane.Stays.mon {v} (h : l.Stays may t) : l.Stays may { t with mon := v } := h.of rfl rfl
theorem Lane.Stays.sf {v} (h : l.Stays may t) : l.Stays may { t with sf := v } := h.of rfl rfl

theorem Lane.Stays.setReg {a : Nat} {v : Word} (h : l.Stays may t) (ha : SY_MODE_OWN.addr ≠ a := by simp only [SY_MODE_OWN]; omega) :
    l.Stays may (t.setReg a v) :=
  h.keep (t.calm_setReg a v ha).mode rfl

/-- A register that a field names. -/
theorem Lane.Stays.setFld {a lo w : Nat} {v : Word} (h : l.Stays may t) (ha : SY_MODE_OWN.addr ≠ a := by simp only [SY_MODE_OWN]; omega) :
    l.Stays may (t.setReg (Fld.addr ⟨a, lo, w⟩) v) :=
  h.setReg ha

/-- A field of another register. The rules of the writes take a field by its parts, so that its address is at hand for the side condition. -/
theorem Lane.Stays.wr {a lo w v : Nat} (h : l.Stays may t) (ha : SY_MODE_OWN.addr ≠ a := by simp only [SY_MODE_OWN]; omega) :
    l.Stays may (t.wr ⟨a, lo, w⟩ v) :=
  h.setReg ha
theorem Lane.Stays.wrS {a lo w : Nat} {v : Int} (h : l.Stays may t) (ha : SY_MODE_OWN.addr ≠ a := by simp only [SY_MODE_OWN]; omega) :
    l.Stays may (t.wrS ⟨a, lo, w⟩ v) :=
  h.wr ha
theorem Lane.Stays.wq {a lo w : Nat} {v : Q} (h : l.Stays may t) (ha : SY_MODE_OWN.addr ≠ a := by simp only [SY_MODE_OWN]; omega) :
    l.Stays may (t.wq ⟨a, lo, w⟩ v) :=
  h.wrS ha
theorem Lane.Stays.set {a lo w : Nat} (h : l.Stays may t) (ha : SY_MODE_OWN.addr ≠ a := by simp only [SY_MODE_OWN]; omega) :
    l.Stays may (t.set ⟨a, lo, w⟩) :=
  h.wr ha
theorem Lane.Stays.clr {a lo w : Nat} (h : l.Stays may t) (ha : SY_MODE_OWN.addr ≠ a := by simp only [SY_MODE_OWN]; omega) :
    l.Stays may (t.clr ⟨a, lo, w⟩) :=
  h.wr ha
theorem Lane.Stays.put {a lo w : Nat} {b : Bool} (h : l.Stays may t)
    (ha : SY_MODE_OWN.addr ≠ a := by simp only [SY_MODE_OWN]; omega) : l.Stays may (t.put ⟨a, lo, w⟩ b) :=
  h.wr ha
theorem Lane.Stays.bump {a lo w : Nat} (h : l.Stays may t) (ha : SY_MODE_OWN.addr ≠ a := by simp only [SY_MODE_OWN]; omega) :
    l.Stays may (t.bump ⟨a, lo, w⟩) :=
  .ite (h.wr ha) h

/-- A field above SY_MODE.OWN. -/
theorem Lane.Stays.wrAbove {f : Fld} {v : Nat} (h : l.Stays may t) (ha : SY_MODE_OWN.lo + SY_MODE_OWN.w ≤ f.lo) : l.Stays may (t.wr f v) :=
  h.keep (t.calm_wr f v (.inr (.inr ha))).mode rfl

theorem Lane.Stays.setByte {a : Nat} {v : Byte} (h : l.Stays may t) : l.Stays may (t.setByte a v) := h.of rfl rfl
theorem Lane.Stays.setBytes {a : Nat} {v : List Byte} (h : l.Stays may t) : l.Stays may (t.setBytes a v) := by
  induction v generalizing t a with
  | nil => exact h
  | cons x r ih => exact ih h.setByte

theorem Lane.Stays.present {m : Msg} (h : l.Stays may t) : l.Stays may (t.present m) := by
  unfold Lane.present
  split
  · exact .bump h
  · exact .fc h
theorem Lane.Stays.raise {src kind cls : Nat} {x : Option Ax} {d : Nat} (h : l.Stays may t) : l.Stays may (t.raise src kind cls x d) := h.present
theorem Lane.Stays.raiseOnce {src kind cls : Nat} {x : Option Ax} {d : Nat} (h : l.Stays may t) :
    l.Stays may (t.raiseOnce src kind cls x d) := by
  have done : ∀ (k : Lane) c, l.Stays may k → l.Stays may { k with fc := { k.fc with ceDone := c } } := fun _ _ hk => .fc hk
  unfold Lane.raiseOnce
  split
  · exact h
  · exact done _ _ h.raise
theorem Lane.Stays.arise {k : ItemKind} {src flow prio : Nat} (h : l.Stays may t) : l.Stays may (t.arise k src flow prio) := by
  unfold Lane.arise
  exact .ite (.ite h (.sc h)) (.sc h)
theorem Lane.Stays.event {n : Nat} (h : l.Stays may t) : l.Stays may (t.event n) := by
  unfold Lane.event
  exact .ite (.arise (.sc (.wr h))) (.sc (.wr h))
theorem Lane.Stays.send {o : Sent} (h : l.Stays may t) : l.Stays may (t.send o) := h.of rfl rfl
theorem Lane.Stays.setAx {x : Ax} {a : AxSt} (h : l.Stays may t) : l.Stays may (t.setAx x a) := by
  cases x <;> exact h.of rfl rfl

/-! Fields that are one of several. -/

theorem propOf_addr (i : LaneId) : SY_MODE_OWN.addr ≠ (propOf i).addr := by cases i <;> decide
theorem watchFld_addr (p : Port) : SY_MODE_OWN.addr ≠ (watchFld p).addr := by cases p <;> decide
theorem gdProof_addr (x : Ax) : SY_MODE_OWN.addr ≠ (gdProof x).addr := by cases x <;> decide
theorem gdFail_addr (x : Ax) : SY_MODE_OWN.addr ≠ (gdFail x).addr := by cases x <;> decide
theorem postureOf_addr (x : Ax) : SY_MODE_OWN.addr ≠ (postureOf x).addr := by cases x <;> decide
theorem deliverOf_addr (x : Ax) : SY_MODE_OWN.addr ≠ (deliverOf x).addr := by cases x <;> decide
theorem cmpR_addr (x : Ax) (n : Nat) : SY_MODE_OWN.addr ≠ (cmpR x n).addr := by simp only [SY_MODE_OWN, cmpR, MOD_CMPR_TAP]; omega
theorem cmpF_addr (x : Ax) (n : Nat) : SY_MODE_OWN.addr ≠ (cmpF x n).addr := by simp only [SY_MODE_OWN, cmpF, MOD_CMPF_TAP]; omega
theorem actR_addr (x : Ax) (n : Nat) : SY_MODE_OWN.addr ≠ (actR x n).addr := by simp only [SY_MODE_OWN, actR, MOD_ACMPR_TAP]; omega
theorem actF_addr (x : Ax) (n : Nat) : SY_MODE_OWN.addr ≠ (actF x n).addr := by simp only [SY_MODE_OWN, actF, MOD_ACMPF_TAP]; omega
theorem lvAddr_ne (r : LvReg) (x : Ax) : SY_MODE_OWN.addr ≠ lvAddr r x := by
  cases r <;> simp only [SY_MODE_OWN, lvAddr, LE_SETP, LE_SHARE, LE_FFS, LE_IQTRIM] <;> omega
theorem leSnapFlds_addr (x : Ax) : ∀ f ∈ leSnapFlds x, SY_MODE_OWN.addr ≠ f.addr := by cases x <;> decide
theorem classCnt_addr (c : Nat) : SY_MODE_OWN.addr ≠ (classCnt c).addr := by
  unfold classCnt
  split
  · decide
  · split <;> decide

/-- A register of another block. -/
theorem syMode_ne_of_block {a o : Nat} {b : Blk} {x : Ax} (h : blockOf a = some (b, x, o)) (hb : b ≠ .sy) : SY_MODE_OWN.addr ≠ a := by
  rintro rfl
  have hsy : blockOf SY_MODE_OWN.addr = some (.sy, .x0, 8) := by decide
  rw [hsy] at h
  injection h with h
  injection h with h
  exact hb h.symm

/-- SY_MODE is no register that an image writes. -/
theorem syMode_ne_of_load {a : Nat} (h : (loadReg a 4 || loadReg a 8) = true) : SY_MODE_OWN.addr ≠ a := by
  rintro rfl
  revert h
  decide

/-- The code of a lane's own mode, and of another's, stands above SY_MODE.OWN. -/
theorem syModeOf_lo (i : LaneId) : SY_MODE_OWN.lo + SY_MODE_OWN.w ≤ (syModeOf i).lo := by cases i <;> decide

/-- A register that a filter does not drop keeps its value. -/
theorem regGet_filter_of {r : List (Nat × Word)} {f : Nat × Word → Bool} {a : Nat} (h : ∀ v, f (a, v) = true) :
    regGet (r.filter f) a = regGet r a := by
  induction r with
  | nil => rfl
  | cons p r ih =>
    obtain ⟨c, w⟩ := p
    by_cases hc : c = a
    · rw [List.filter_cons_of_pos (by rw [hc]; exact h w), regGet, regGet, ih]
    · cases hf : f (c, w) with
      | true => rw [List.filter_cons_of_pos hf, regGet, regGet, ih]
      | false => rw [List.filter_cons_of_neg (by simp [hf]), regGet, if_neg (Ne.symm hc), ih]

/-! #### Sys2Proof/Machine/Ops.lean -/

theorem Lane.Stays.ntRebase (h : l.Stays may t) : l.Stays may t.ntRebase := .tt h

theorem Lane.Stays.ntMove {d : Int} (h : l.Stays may t) : l.Stays may (t.ntMove d) := .tt (.ntRebase h)

theorem Lane.Stays.energyAccount (h : l.Stays may t) : l.Stays may t.energyAccount := .ite (.sc h) h

theorem Lane.Stays.eventAx {x : Ax} {off : Nat} (h : l.Stays may t) : l.Stays may (t.eventAx x off) := .event h

theorem Lane.Stays.returns {v : Word} (h : l.Stays may t) : l.Stays may (t.returns v) := .of h rfl rfl

theorem Lane.Stays.offAccess {a : Nat} (h : l.Stays may t) : l.Stays may (t.offAccess a) := .event (.raiseOnce (.set h))

theorem Lane.Stays.downAccess {d : Dom} {r : RegAcc} (h : l.Stays may t) : l.Stays may (t.downAccess d r) :=
  .ite (.pw h) (.ite (.offAccess h) (.returns (.offAccess h)))

/-! #### Sys2Proof/Machine/Share.lean -/

theorem Lane.Stays.setPeer {i : LaneId} {p : Peer} (h : l.Stays may t) : l.Stays may (t.setPeer i p) := by
  unfold Lane.setPeer
  split
  · exact .gl h
  · exact .gl h
  · exact .gl h

theorem Lane.Stays.glShares (h : l.Stays may t) : l.Stays may t.glShares := .each h (fun _ _ hk => .ite hk (.event (.wq hk)))

theorem Lane.Stays.markHeld {x : Ax} (h : l.Stays may t) : l.Stays may (t.markHeld x) := by
  unfold Lane.markHeld
  split
  · exact .sy h
  · exact .sy h

theorem Lane.Stays.axisLost {x : Ax} (h : l.Stays may t) : l.Stays may (t.axisLost x) := .glShares (.when h (fun _ hk => .markHeld hk))

/-! #### Sys2Proof/Machine/Gates.lean -/

theorem Lane.Stays.gateMark {x : Ax} (h : l.Stays may t) : l.Stays may (t.gateMark x) := .setAx h

theorem Lane.Stays.gateNote {x : Ax} (h : l.Stays may t) : l.Stays may (t.gateNote x) :=
  .ite h (.each (.setAx (.gateMark h)) (fun _ _ hk => .when hk (fun _ hk => .bump hk)))

/-! #### Sys2Proof/Machine/Gate.lean -/

theorem Lane.Stays.setLe {x : Ax} {v : LeSt} (h : l.Stays may t) : l.Stays may (t.setLe x v) := .setAx h

theorem Lane.Stays.setMd {x : Ax} {v : ModSt} (h : l.Stays may t) : l.Stays may (t.setMd x v) := .setAx h

theorem Lane.Stays.setTq {x : Ax} {v : TqSt} (h : l.Stays may t) : l.Stays may (t.setTq x v) := .setAx h

theorem Lane.Stays.setGd {x : Ax} {v : GdSt} (h : l.Stays may t) : l.Stays may (t.setGd x v) := .setAx h

theorem Lane.Stays.setFb {x : Ax} {v : FbSt} (h : l.Stays may t) : l.Stays may (t.setFb x v) := .setAx h

theorem Lane.Stays.setAd {x : Ax} {v : AdSt} (h : l.Stays may t) : l.Stays may (t.setAd x v) := .setAx h

theorem Lane.Stays.setGrpCode {k c : Nat} (h : l.Stays may t) : l.Stays may (t.setGrpCode k c) := .wr h

theorem Lane.Stays.openStop {x : Ax} (h : l.Stays may t) : l.Stays may (t.openStop x) := .setLe (.wr h)

theorem Lane.Stays.openStart {x : Ax} (h : l.Stays may t) : l.Stays may (t.openStart x) := .setLe (.wr h)

theorem Lane.Stays.slSet {x : Ax} {v : Nat} (h : l.Stays may t) : l.Stays may (t.slSet x v) := .ite h (.eventAx (.wr h))

theorem Lane.Stays.slLeave {x : Ax} (h : l.Stays may t) : l.Stays may (t.slLeave x) := .ite (.slSet h) h

theorem Lane.Stays.leForce {x : Ax} (h : l.Stays may t) : l.Stays may (t.leForce x) :=
  .ite (.slLeave (.eventAx (.wr (.set (.wr (.wr (.openStop h))))))) (.wr (.set (.wr (.wr (.openStop h)))))

theorem Lane.Stays.leReturn {x : Ax} (h : l.Stays may t) : l.Stays may (t.leReturn x) := .ite (.openStart (.clr h)) h

theorem Lane.Stays.leSettle {x : Ax} (h : l.Stays may t) : l.Stays may (t.leSettle x) :=
  .ite (.setLe (.gateNote h)) (.ite (.leForce (.setLe (.gateNote h))) (.ite (.leReturn (.setLe (.gateNote h))) (.setLe (.gateNote h))))

theorem Lane.Stays.slFail {x : Ax} (h : l.Stays may t) : l.Stays may (t.slFail x) := .ite (.ite (.eventAx (.slSet h)) (.slSet h)) h

theorem Lane.Stays.sideEval {x : Ax} (h : l.Stays may t) : l.Stays may (t.sideEval x) := .ite h (.ite (.raise (.put (.wr h))) (.put (.wr h)))

theorem Lane.Stays.safeEnter {x : Ax} {cause : Nat} {asc : Bool} (h : l.Stays may t) : l.Stays may (t.safeEnter x cause asc) :=
  .slFail (.sideEval (.ite (.axisLost (.eventAx (.wr (.set (.setGd h))))) (.setGd h)))

theorem Lane.Stays.ov2Check {x : Ax} (h : l.Stays may t) : l.Stays may (t.ov2Check x) := .ite (.safeEnter (.set h)) h

theorem Lane.Stays.gateSettle {x : Ax} (h : l.Stays may t) : l.Stays may (t.gateSettle x) := .leSettle (.ov2Check h)

theorem Lane.Stays.axisSafe {x : Ax} {cause : Nat} {asc : Bool} (h : l.Stays may t) : l.Stays may (t.axisSafe x cause asc) :=
  .gateSettle (.safeEnter h)

theorem Lane.Stays.gateEnable {x : Ax} (h : l.Stays may t) : l.Stays may (t.gateEnable x) :=
  .ite h (.ite (.raiseOnce (.set h)) (.gateSettle (.set h)))

theorem Lane.Stays.gateDrop {x : Ax} (h : l.Stays may t) : l.Stays may (t.gateDrop x) := .gateSettle (.clr h)

theorem Lane.Stays.gdCntClr {x : Ax} (h : l.Stays may t) : l.Stays may (t.gdCntClr x) := .wr (.setGd (.wr (.wr h)))

theorem Lane.Stays.interlock {x : Ax} {leg : Nat} (h : l.Stays may t) : l.Stays may (t.interlock x leg) := by
  unfold Lane.interlock
  extract_lets _ _ a b c
  have ha : l.Stays may a := .gateNote (.setGd h)
  have hb : l.Stays may b := .bump (.set ha)
  have hc : l.Stays may c := .eventAx (.raiseOnce hb)
  exact .ite (.axisSafe (.raise hc)) hc

theorem Lane.Stays.interlockEnd {x : Ax} (h : l.Stays may t) : l.Stays may (t.interlockEnd x) := .clr (.gateNote (.setGd h))

theorem Lane.Stays.hardShort {x : Ax} {gate : Nat} (h : l.Stays may t) : l.Stays may (t.hardShort x gate) :=
  .gateSettle (.ite (.safeEnter (.wr h)) (.eventAx (.raise (.safeEnter (.wr h)))))

theorem Lane.Stays.cpuvEval {x : Ax} (h : l.Stays may t) : l.Stays may (t.cpuvEval x) :=
  .gateSettle (.sideEval (.ite (.eventAx (.raise (.put h))) (.put h)))

theorem Lane.Stays.cpuvChange {x : Ax} {mv : Nat} (h : l.Stays may t) : l.Stays may (t.cpuvChange x mv) := .cpuvEval (.setGd (.wr h))

theorem Lane.Stays.dieLoad (h : l.Stays may t) : l.Stays may t.dieLoad := .each (.dl h) fun _ _ hk => .ite (.cpuvEval hk) (.gateSettle hk)

theorem Lane.Stays.keepAliveLoss (h : l.Stays may t) : l.Stays may t.keepAliveLoss := by
  unfold Lane.keepAliveLoss
  split
  · exact .ite (.each (.dl h) (fun _ _ hk => .eventAx (.axisSafe (.set hk)))) h
  · exact h

theorem Lane.Stays.keepAlive (h : l.Stays may t) : l.Stays may t.keepAlive :=
  .ite (.raise (.ite (.each (.dl h) (fun _ _ hk => .set hk)) (.dl h))) (.ite (.each (.dl h) (fun _ _ hk => .set hk)) (.dl h))

theorem Lane.Stays.commChange {f : Lane → Lane} {x : Ax} (h : l.Stays may t) (hf : ∀ k, l.Stays may k → l.Stays may (f k)) :
    l.Stays may (t.commChange x f) :=
  .ite (hf _ h) (.setGd (hf _ h))

theorem Lane.Stays.commHall {x : Ax} {code : Nat} (h : l.Stays may t) : l.Stays may (t.commHall x code) := by
  unfold Lane.commHall
  split
  · exact h
  · split
    · exact .commChange h fun _ hk => .wr hk
    · exact .raiseOnce (.bump (.commChange h (fun _ hk => .wr hk)))

theorem Lane.Stays.dieOnly {f : Lane → Lane} (h : l.Stays may t) : l.Stays may (t.dieOnly f) := by
  refine .each (.of (.eachOf h fun k g hg hk => .setReg hk ?_) rfl rfl) fun _ _ hk => .setGd hk
  revert g
  decide

theorem Lane.Stays.inDie {f : Lane → Lane} (h : l.Stays may t) (hf : ∀ k, l.Stays may k → l.Stays may (f k)) : l.Stays may (t.inDie f) :=
  .ite (.ite h (.dieOnly h)) (hf _ h)

/-! #### Sys2Proof/Machine/Feedback.lean -/

theorem Lane.Stays.adTake {x : Ax} {c : AdcCodes} (h : l.Stays may t) : l.Stays may (t.adTake x c) :=
  .ite (.raiseOnce (.bump (.set (.setAd (.wr (.wr (.wr (.wr h)))))))) (.setAd (.wr (.wr (.wr (.wr h)))))

theorem Lane.Stays.adSample {x : Ax} {c : AdcCodes} (h : l.Stays may t) : l.Stays may (t.adSample x c) :=
  .wq (.wq (.wq (.wq (.setAd (.ite (.adTake h) (.ite (.bump (.adTake h)) (.bump (.set (.adTake h)))))))))

theorem Lane.Stays.monitor {n v : Nat} (h : l.Stays may t) : l.Stays may (t.monitor n v) := by
  unfold Lane.monitor
  split
  · exact h
  · exact .sy (.ite (.mon (.wr (.energyAccount h))) (.ite (.wr (.mon (.wr (.energyAccount h)))) (.raiseOnce (.wr (.mon (.wr (.energyAccount h)))))))

theorem Lane.Stays.holdFlag {x : Ax} (h : l.Stays may t) : l.Stays may (t.holdFlag x) := .put h

theorem Lane.Stays.groupFault {x : Ax} {sinCos : Bool} (h : l.Stays may t) : l.Stays may (t.groupFault x sinCos) := by
  cases sinCos
  · exact .ite h (.eventAx (.set h))
  · exact .ite h (.eventAx (.set h))

theorem Lane.Stays.posOvf {x : Ax} (h : l.Stays may t) : l.Stays may (t.posOvf x) := .raiseOnce (.set h)

theorem Lane.Stays.posSettle {x : Ax} (h : l.Stays may t) : l.Stays may (t.posSettle x) := .ite (.posOvf (.setFb h)) h

theorem Lane.Stays.illCount {x : Ax} {g : FbGroup} {before : List Nat} (h : l.Stays may t) : l.Stays may (t.illCount x g before) := by
  unfold Lane.illCount
  extract_lets a b
  have ha : l.Stays may a := .bump h
  have hb : l.Stays may b := .raiseOnce ha
  split
  · split
    · split
      · exact .raise (.set hb)
      · exact .raise (.set hb)
      · exact .raise (.groupFault hb)
    · exact hb
  · exact hb

theorem Lane.Stays.hallTake {x : Ax} {g : FbGroup} {tb code : Nat} (h : l.Stays may t) : l.Stays may (t.hallTake x g tb code) := by
  unfold Lane.hallTake
  dsimp only
  split
  · exact .posSettle (.holdFlag (.setFb h))
  · exact .illCount (.holdFlag (.setFb h))

theorem Lane.Stays.passThrough {x : Ax} (h : l.Stays may t) : l.Stays may (t.passThrough x) := by
  unfold Lane.passThrough
  dsimp only
  split
  · exact .wr h
  · exact .ite h (.wr h)
  · split
    · exact h
    · exact .wr h

theorem Lane.Stays.hallEdge {x : Ax} {code raw : Nat} (h : l.Stays may t) : l.Stays may (t.hallEdge x code raw) :=
  .passThrough (by
    split
    · exact .setFb (.wr (.setFb h))
    · exact .ite (.setFb (.wr (.setFb h))) (.hallTake (.wr (.setFb h))))

theorem Lane.Stays.hallsStanding {x : Ax} (h : l.Stays may t) : l.Stays may (t.hallsStanding x) := .hallEdge h

theorem Lane.Stays.nbCode {x : Ax} {n : Port} {code : Nat} {valid : Bool} (h : l.Stays may t) : l.Stays may (t.nbCode x n code valid) := by
  unfold Lane.nbCode
  split
  · exact .ite (.hallTake (.put (.wr h))) (.put (.wr h))
  · exact .ite (.hallTake (.put (.wr h))) (.put (.wr h))

theorem Lane.Stays.scSample {x : Ax} {cs cc : Int} (h : l.Stays may t) : l.Stays may (t.scSample x cs cc) := by
  unfold Lane.scSample
  split
  · extract_lets _ _ _ a _ b c d
    have ha : l.Stays may a := .setFb (.wq h)
    have hb : l.Stays may b := .bump ha
    have hc : l.Stays may c := .setFb hb
    have hd : l.Stays may d := .ite (.raise (.groupFault hc)) hc
    exact .ite ha (.ite (.passThrough hd) (.posSettle (.passThrough (.setFb ha))))

theorem Lane.Stays.srcChange {x : Ax} {new t' : Nat} (h : l.Stays may t) : l.Stays may (t.srcChange x new t') :=
  .ite h (.eventAx (.raiseOnce (.bump (.wr (.setFb h)))))

theorem Lane.Stays.srcSelect {x : Ax} {t' : Nat} (h : l.Stays may t) : l.Stays may (t.srcSelect x t') :=
  .ite (.axisSafe (.raise (.setFb (.put (.srcChange (.ite (.slSet h) h)))))) (.setFb (.put (.srcChange (.ite (.slSet h) h))))

theorem Lane.Stays.cmpFire {x : Ax} {n : Nat} (h : l.Stays may t) : l.Stays may (t.cmpFire x n) := .eventAx (.ite (.clr (.wr h)) (.wr h))

theorem Lane.Stays.putBit {a lo w n : Nat} {b : Bool} (h : l.Stays may t)
    (ha : SY_MODE_OWN.addr ≠ a := by simp only [SY_MODE_OWN]; omega) : l.Stays may (t.putBit ⟨a, lo, w⟩ n b) := .put h ha

theorem Lane.Stays.posTick {x : Ax} (h : l.Stays may t) : l.Stays may (t.posTick x) :=
  .each (.setFb (.wq (.wq (.wq (.wq (.posSettle h)))))) (fun _ _ hk => .ite (.cmpFire (.putBit hk)) (.putBit hk))

theorem Lane.Stays.cmpJudge {x : Ax} {n : Nat} (h : l.Stays may t) : l.Stays may (t.cmpJudge x n) :=
  .ite (.cmpFire (.putBit (.putBit h))) (.putBit (.putBit h))

theorem Lane.Stays.cmpWrite {x : Ax} {n : Nat} {r : CmpReg} {v : Word} (h : l.Stays may t) : l.Stays may (t.cmpWrite x n r v) :=
  .cmpJudge (by
    split
    · exact .setFld h
    · exact .setFld h)

theorem Lane.Stays.owReject {x : Ax} (h : l.Stays may t) : l.Stays may (t.owReject x) := .eventAx (.raiseOnce (.bump h))

theorem Lane.Stays.posAdj {x : Ax} {v : Word} (h : l.Stays may t) : l.Stays may (t.posAdj x v) :=
  .ite (.owReject h) (.each (.ite (.posOvf (.setFb h)) (.setFb h)) (fun _ _ hk => .cmpJudge hk))

theorem Lane.Stays.fltClr {x : Ax} (h : l.Stays may t) : l.Stays may (t.fltClr x) := .setFb h

theorem Lane.Stays.readmit {x : Ax} {g : FbGroup} (h : l.Stays may t) : l.Stays may (t.readmit x g) := by
  unfold Lane.readmit
  dsimp only
  split
  · exact .ite (.clr (.setFb h)) h
  · split
    · split
      · exact .clr (.setFb h)
      · exact .clr (.setFb h)
      · exact .passThrough (.clr (.setFb h))
    · exact h

/-! #### Sys2Proof/Machine/Sched.lean -/

theorem Lane.Stays.bistCharge (h : l.Stays may t) : l.Stays may t.bistCharge := .wr (.sc h)

theorem Lane.Stays.take {i : Item} (h : l.Stays may t) : l.Stays may (t.take i) := .ite (.arise (.sc h)) (.sc h)

theorem Lane.Stays.stall (h : l.Stays may t) : l.Stays may t.stall := .event (.raiseOnce (.set h))

theorem Lane.Stays.poolView (h : l.Stays may t) : l.Stays may t.poolView := .wr (.wr h)

theorem Lane.Stays.takeOnto {i : Item} (h : l.Stays may t) : l.Stays may (t.takeOnto i) :=
  .ite (.returns (.stall (.poolView h))) (.returns (.poolView (.take h)))

theorem Lane.Stays.scEnter (h : l.Stays may t) : l.Stays may t.scEnter := by
  unfold Lane.scEnter
  dsimp only
  split
  · exact .returns (.bistCharge h)
  · split
    · exact .returns (.bistCharge h)
    · exact .takeOnto (.when (.bistCharge h) (fun _ hk => .bump hk))

theorem Lane.Stays.scNext (h : l.Stays may t) : l.Stays may t.scNext := by
  unfold Lane.scNext
  extract_lets a
  have ha : l.Stays may a := .bistCharge h
  split
  · exact .returns (.set ha)
  · extract_lets b
    have hb : l.Stays may b := .poolView (.sc ha)
    split
    · exact .returns hb
    · split
      · exact .returns hb
      · exact .takeOnto hb
      · exact .ite (.takeOnto hb) (.returns hb)

theorem Lane.Stays.scPost {v : Word} (h : l.Stays may t) : l.Stays may (t.scPost v) :=
  .ite (.event (.raiseOnce (.bump (.set h)))) (.poolView (.arise h))

theorem Lane.Stays.scCntClr (h : l.Stays may t) : l.Stays may t.scCntClr := .each (.setFld h) fun _ _ hk => .clr hk

theorem Lane.Stays.flowEnWrite {k v : Nat} (h : l.Stays may t) : l.Stays may (t.flowEnWrite k v) := .wr h

theorem Lane.Stays.deferralAge {n : Nat} (h : l.Stays may t) : l.Stays may (t.deferralAge n) :=
  .ite (.event (.raise (.set (.bistCharge h)))) (.bistCharge h)

theorem Lane.Stays.scMark (h : l.Stays may t) : l.Stays may t.scMark := .sc h

theorem Lane.Stays.scFree (h : l.Stays may t) : l.Stays may t.scFree := .poolView (.clr (.sc h))

theorem Lane.Stays.scRollback (h : l.Stays may t) : l.Stays may t.scRollback := .poolView (.sc (.bistCharge h))

theorem Lane.Stays.startWalk {t' expiry n : Nat} (h : l.Stays may t) : l.Stays may (t.startWalk t' expiry n) := .sc h

theorem Lane.Stays.timerArm {t' : Nat} {v : Word} (h : l.Stays may t) : l.Stays may (t.timerArm t' v) :=
  .ite (.sc (.setFld h)) (.ite (.bump (.sc (.setFld h))) (.startWalk (.sc (.setFld h))))

theorem Lane.Stays.timerExpWrite {t' : Nat} {v : Word} (h : l.Stays may t) : l.Stays may (t.timerExpWrite t' v) :=
  .ite (.startWalk (.sc (.setFld h))) (.setFld h)

theorem Lane.Stays.timerInsert {t' : Nat} (h : l.Stays may t) : l.Stays may (t.timerInsert t') := by
  unfold Lane.timerInsert
  split
  · exact h
  · exact .ite h (.when (.sc h) (fun _ hk => .bump hk))

theorem Lane.Stays.timerExpire (h : l.Stays may t) : l.Stays may t.timerExpire := by
  unfold Lane.timerExpire
  split
  · exact h
  · exact .when (.ite (.sc (.arise (.sc h))) (.arise (.sc h))) (fun _ hk => .event (.raiseOnce (.bump hk)))

theorem Lane.Stays.closeBin (h : l.Stays may t) : l.Stays may t.closeBin := .sc (.energyAccount h)

theorem Lane.Stays.stepH (h : l.Stays may t) : l.Stays may t.stepH :=
  .ite (.event (.wr (.sc (.wr (.wr h))))) (.ite (.sc (.wr (.wr h))) (.ite (.sc (.wr (.wr h))) (.event (.wr (.sc (.wr (.wr h)))))))

theorem Lane.Stays.stepHot (h : l.Stays may t) : l.Stays may t.stepHot := .sc h

theorem Lane.Stays.updateSel (h : l.Stays may t) : l.Stays may t.updateSel := .wr h

theorem Lane.Stays.stepProposal (h : l.Stays may t) : l.Stays may t.stepProposal := .ite (.sc h) (.event (.wr (.sc h)))

theorem Lane.Stays.stepDomains (h : l.Stays may t) : l.Stays may t.stepDomains := .ite h (.event (.wr h))

theorem Lane.Stays.headroomUpdate (h : l.Stays may t) : l.Stays may t.headroomUpdate :=
  .ite (.stepDomains (.updateSel (.stepProposal (.stepHot (.stepH (.closeBin (.sc h))))))) h

/-! #### Sys2Proof/Machine/Voltage.lean -/

theorem Lane.Stays.takeReading {a lo w : Nat} {r : Int × Nat} (h : l.Stays may t)
    (ha : SY_MODE_OWN.addr ≠ a := by simp only [SY_MODE_OWN]; omega) : l.Stays may (t.takeReading ⟨a, lo, w⟩ r) := .fresh (.wr h ha)

theorem Lane.Stays.pmSend {k : PmTask} (h : l.Stays may t) : l.Stays may (t.pmSend k) := .fresh (.send (.pm h))

theorem Lane.Stays.pmStart {k : PmTask} (h : l.Stays may t) : l.Stays may (t.pmStart k) := .ite (.pmSend (.pm h)) (.pm h)

theorem Lane.Stays.pmFree (h : l.Stays may t) : l.Stays may t.pmFree := by
  unfold Lane.pmFree
  dsimp only
  split
  · exact .pm h
  · exact .pmSend (.pm (.pm h))

theorem Lane.Stays.proofPass {f : Lane → Lane} (h : l.Stays may t) (hf : ∀ k, l.Stays may k → l.Stays may (f k)) :
    l.Stays may (t.proofPass f) :=
  .when (hf _ h) fun _ hk => .set hk

theorem Lane.Stays.provenBy {a lo w : Nat} {c : Bool} (h : l.Stays may t)
    (ha : SY_MODE_OWN.addr ≠ a := by simp only [SY_MODE_OWN]; omega) : l.Stays may (t.provenBy ⟨a, lo, w⟩ c) :=
  .ite (.proofPass h (fun _ hk => .event (.set hk ha))) h

theorem Lane.Stays.regFail {mv : Nat} {noAck refused : Bool} (h : l.Stays may t) : l.Stays may (t.regFail mv noAck refused) :=
  .event (.raise (.set h))

theorem Lane.Stays.profRefused (h : l.Stays may t) : l.Stays may t.profRefused := .raise (.sc (.sy h))

theorem Lane.Stays.pmNotAck {why : PmWhy} {refused : Bool} (h : l.Stays may t) : l.Stays may (t.pmNotAck why refused) :=
  .ite (.regFail (.ite (.profRefused h) h)) (.ite (.profRefused h) h)

theorem Lane.Stays.pmRefuse {a lo w : Nat} {why : PmWhy} (h : l.Stays may t)
    (ha : SY_MODE_OWN.addr ≠ a := by simp only [SY_MODE_OWN]; omega) : l.Stays may (t.pmRefuse ⟨a, lo, w⟩ why) :=
  .pmNotAck (.event (.set h ha))

theorem Lane.Stays.pmRequest {mv : Nat} {why : PmWhy} (h : l.Stays may t) : l.Stays may (t.pmRequest mv why) :=
  .ite h (.ite (.pmRefuse h) (.ite (.pmRefuse (.raiseOnce h)) (.pmStart (.set (.pm h)))))

theorem Lane.Stays.pmBoot (h : l.Stays may t) : l.Stays may t.pmBoot := .pmRequest (.pm h)

theorem Lane.Stays.bootLoad (h : l.Stays may t) : l.Stays may t.bootLoad := .im h

theorem Lane.Stays.bootNext (h : l.Stays may t) : l.Stays may t.bootNext := .ite (.set (.of h rfl rfl)) (.bootLoad (.set h))

theorem Lane.Stays.pmLost {r : PmReq} (h : l.Stays may t) : l.Stays may (t.pmLost r) :=
  .ite (.pmBoot (.pmNotAck (.clr (.pm h)))) (.pmNotAck (.clr (.pm h)))

theorem Lane.Stays.pmAck {r : PmReq} {late : Bool} (h : l.Stays may t) : l.Stays may (t.pmAck r late) := by
  unfold Lane.pmAck
  extract_lets _ a b c
  have ha : l.Stays may a := .pm h
  have hb : l.Stays may b := .when (.event (.wr (.clr ha))) fun _ hk => .set hk
  have hc : l.Stays may c := .ite (.bootNext hb) hb
  exact .ite (.pmStart hc) hc

theorem Lane.Stays.voltageAck (h : l.Stays may t) : l.Stays may t.voltageAck := by
  unfold Lane.voltageAck
  split
  · exact h
  · split
    · exact .ite (.pmAck h) h
    · exact h

theorem Lane.Stays.voltageTimeout (h : l.Stays may t) : l.Stays may t.voltageTimeout := by
  unfold Lane.voltageTimeout
  split
  · exact h
  · split
    · exact .ite (.pmLost (.event (.raise (.set h)))) h
    · exact h

theorem Lane.Stays.regJudge {r : Int × Nat} {want : Nat} (h : l.Stays may t) : l.Stays may (t.regJudge r want) :=
  .ite (.proofPass h (fun _ hk => .event (.set hk))) (.regFail h)

theorem Lane.Stays.statusAck {v : Nat} (h : l.Stays may t) : l.Stays may (t.statusAck v) := by
  unfold Lane.statusAck
  split
  · exact h
  · split
    · exact h
    · split
      · exact .pmAck h
      · exact h

theorem Lane.Stays.alertRaise (h : l.Stays may t) : l.Stays may t.alertRaise := .raise h

theorem Lane.Stays.pmEnd {v : Nat} (h : l.Stays may t) : l.Stays may (t.pmEnd v) := by
  unfold Lane.pmEnd
  split
  · exact h
  · split
    · exact h
    · extract_lets a b
      have ha : l.Stays may a := .pmFree h
      have hb : l.Stays may b := by
        dsimp only [b]
        split
        · exact .wr ha
        · exact .wr ha
        · exact .takeReading ha
        · exact .takeReading ha
        · exact ha
      split
      · split
        · exact .pm hb
        · exact hb
      · exact .statusAck hb
      · exact .alertRaise hb
      · exact .clr hb
      · exact hb
      · exact .regJudge hb

theorem Lane.Stays.pmFail (h : l.Stays may t) : l.Stays may t.pmFail := by
  unfold Lane.pmFail
  split
  · exact h
  · split
    · exact h
    · split
      · exact .pm h
      · extract_lets a
        have ha : l.Stays may a := .pmFree (.event (.raise (.set h)))
        split
        · exact .pmLost ha
        · exact .clr ha
        · exact .regFail ha
        · exact .alertRaise ha
        · exact ha

theorem Lane.Stays.pmRepeat (h : l.Stays may t) : l.Stays may t.pmRepeat := by
  unfold Lane.pmRepeat
  split
  · exact .ite (.pmSend h) h
  · exact h

theorem Lane.Stays.pmTick (h : l.Stays may t) : l.Stays may t.pmTick := by
  unfold Lane.pmTick
  split
  · exact .ite (.pmStart (.pm h)) h
  · exact h

theorem Lane.Stays.pmCommand (h : l.Stays may t) : l.Stays may t.pmCommand := by
  unfold Lane.pmCommand
  dsimp only
  split
  · exact h
  · split
    · exact .event (.set h)
    · split
      · exact .ite (.pmStart (.set h)) (.event (.raiseOnce (.set h)))
      · exact .pmStart (.set h)
      · exact .pmStart (.set h)
      · exact .pmStart (.set h)

theorem Lane.Stays.pmPoll (h : l.Stays may t) : l.Stays may t.pmPoll := .ite (.pmStart (.pmStart h)) h

theorem Lane.Stays.pmAlert {low : Bool} (h : l.Stays may t) : l.Stays may (t.pmAlert low) :=
  .ite (.ite h (.ite (.pmStart (.event (.set h))) (.alertRaise (.event (.set h))))) (.clr h)

/-! #### Sys2Proof/Machine/Guyline.lean -/

theorem Lane.Stays.setBusy {p : Port} {t' : Nat} (h : l.Stays may t) : l.Stays may (t.setBusy p t') := by
  unfold Lane.setBusy
  split
  · exact .gl h
  · exact .gl h

theorem Lane.Stays.glStart {p : Port} {w : GlWait} {t' : Nat} (h : l.Stays may t) : l.Stays may (t.glStart p w t') := .gl (.send (.setBusy h))

theorem Lane.Stays.portStep {p : Port} (h : l.Stays may t) : l.Stays may (t.portStep p) := by
  unfold Lane.portStep
  split
  · exact h
  · split
    · exact h
    · exact .ite (.glStart (.gl h)) (.gl h)

theorem Lane.Stays.glReady {w : GlWait} (h : l.Stays may t) : l.Stays may (t.glReady w) := .portStep (.gl h)

theorem Lane.Stays.glTo {p : Port} {type cycle chunk chunks : Nat} {payload : List Byte} (h : l.Stays may t) :
    l.Stays may (t.glTo p type cycle chunk chunks payload) :=
  .ite (.glReady h) h

theorem Lane.Stays.glSend {type : Nat} {payload : List Byte} (h : l.Stays may t) : l.Stays may (t.glSend type payload) := .glTo (.glTo h)

theorem Lane.Stays.glSync {p : Port} {lane : LaneId} {dly : Nat} (h : l.Stays may t) : l.Stays may (t.glSync p lane dly) := .send (.setBusy h)

theorem Lane.Stays.glWithdraw {f : Nat → Bool} (h : l.Stays may t) : l.Stays may (t.glWithdraw f) := .gl h

theorem Lane.Stays.holdAxis {x : Ax} (h : l.Stays may t) : l.Stays may (t.holdAxis x) := .axisSafe (.markHeld h)

theorem Lane.Stays.perAxis (h : l.Stays may t) : l.Stays may t.perAxis := .each h fun _ _ hk => .ite (.holdAxis hk) hk

theorem Lane.Stays.setHolder {c : Nat} (h : l.Stays may t) : l.Stays may (t.setHolder c) := .ite h (.ite (.gl (.event (.wr h))) (.event (.wr h)))

theorem Lane.Stays.copyBreak (h : l.Stays may t) : l.Stays may t.copyBreak := by
  unfold Lane.copyBreak
  split
  · exact .event (.bump (.gl h))
  · exact h

theorem Lane.Stays.claim (h : l.Stays may t) : l.Stays may t.claim :=
  .setHolder (.event (.raise (.set (.set (.copyBreak (.gl (.glSend (.bump (.wr (.wr h))))))))))

theorem Lane.Stays.sendAbdicate {cause : Nat} (h : l.Stays may t) : l.Stays may (t.sendAbdicate cause) := .glSend h

theorem Lane.Stays.dropToken {cause next : Nat} {tell : Bool} {holder : Nat} (h : l.Stays may t) : l.Stays may (t.dropToken cause next tell holder) :=
  .setHolder (.event (.raise (.wr (.when (.glWithdraw (.gl h)) (fun _ hk => .sendAbdicate hk)))))

theorem Lane.Stays.elect (h : l.Stays may t) : l.Stays may t.elect := .ite (.claim h) h

theorem Lane.Stays.tokenCheck (h : l.Stays may t) : l.Stays may t.tokenCheck := .ite (.elect (.dropToken h)) (.elect h)

theorem Lane.Stays.tokenLeave {tell : Bool} (h : l.Stays may t) : l.Stays may (t.tokenLeave tell) := .wr (.ite (.dropToken h) h)

theorem Lane.Stays.abdicateNow (h : l.Stays may t) : l.Stays may t.abdicateNow := .ite (.portStep (.portStep (.gl (.tokenLeave h)))) h

theorem Lane.Stays.showMode (h : l.Stays may t) : l.Stays may t.showMode := .put (.wr (.wrAbove h (syModeOf_lo _)) (by decide)) (by decide)

theorem Lane.Stays.seeEpoch {m : GlMsg} (h : l.Stays may t) : l.Stays may (t.seeEpoch m) := .ite (.wr h) h

theorem Lane.Stays.hearHolder {i : LaneId} {epoch : Nat} (h : l.Stays may t) : l.Stays may (t.hearHolder i epoch) :=
  .ite (.ite (.dropToken (.wr h)) (.wr h)) (.ite (.ite (.gl (.wr (.setPeer (.setHolder (.wr h))))) (.setPeer (.setHolder (.wr h)))) (.wr h))

theorem Lane.Stays.countLane {i : LaneId} {cause : Nat} (h : l.Stays may t) : l.Stays may (t.countLane i cause) := by
  unfold Lane.countLane
  extract_lets _ _ _ _ _ a b
  have ha : l.Stays may a := .setPeer (.put h (by decide))
  have hb : l.Stays may b := .ite (.event (.raise (.wr ha (by decide)))) ha
  exact .ite (.setHolder hb) hb

theorem Lane.Stays.recount {i : LaneId} {cause : Nat} (h : l.Stays may t) : l.Stays may (t.recount i cause) :=
  .tokenCheck (.glShares (.perAxis (.countLane h)))

theorem Lane.Stays.glDiscard (h : l.Stays may t) : l.Stays may t.glDiscard := .raiseOnce (.bump h)

theorem Lane.Stays.glHear {f : Lane → LaneId → Lane} {m : GlMsg} {len : Nat} (h : l.Stays may t)
    (hf : ∀ k y0, l.Stays may k → l.Stays may (f k y0)) :
    l.Stays may (t.glHear m len f) := by
  unfold Lane.glHear
  split
  · exact hf _ _ h
  · exact .glDiscard h

theorem Lane.Stays.glIn {f : Lane → LaneId → Lane} {m : GlMsg} {len : Nat} (h : l.Stays may t)
    (hf : ∀ k y0, l.Stays may k → l.Stays may (f k y0)) :
    l.Stays may (t.glIn m len f) :=
  .glHear h fun _ _ hk => hf _ _ (.seeEpoch hk)

theorem Lane.Stays.glEpochHear {f : Lane → LaneId → Lane} {m : GlMsg} {len : Nat} (h : l.Stays may t)
    (hf : ∀ k y0, l.Stays may k → l.Stays may (f k y0)) :
    l.Stays may (t.glEpochHear m len f) :=
  .glHear h fun _ _ hk => .ite hk (hf _ _ hk)

theorem Lane.Stays.glEpochIn {f : Lane → LaneId → Lane} {m : GlMsg} {len : Nat} (h : l.Stays may t)
    (hf : ∀ k y0, l.Stays may k → l.Stays may (f k y0)) :
    l.Stays may (t.glEpochIn m len f) :=
  .glEpochHear h fun _ _ hk => hf _ _ (.seeEpoch hk)

theorem Lane.Stays.rankCheck {i : LaneId} (h : l.Stays may t) : l.Stays may (t.rankCheck i) := .ite h (.raise (.set h))

theorem Lane.Stays.copyEnd {c : Nat} (h : l.Stays may t) : l.Stays may (t.copyEnd c) := .ite (.copyBreak h) h

theorem Lane.Stays.tickFollow (h : l.Stays may t) : l.Stays may t.tickFollow := .ite (.ntMove (.gl h)) (.gl (.gl h))

theorem Lane.Stays.tickCount {tick : Nat} (h : l.Stays may t) : l.Stays may (t.tickCount tick) := .gl h

theorem Lane.Stays.heartTake {i : LaneId} {m : GlMsg} (h : l.Stays may t) : l.Stays may (t.heartTake i m) := by
  unfold Lane.heartTake
  extract_lets _ _ _ _ a b c d e f _ g u
  have ha : l.Stays may a := .wrAbove (.wr h (by decide)) (syModeOf_lo i)
  have hb : l.Stays may b := .wr (.put ha (by decide)) (propOf_addr i)
  have hc : l.Stays may c := .setPeer hb
  have hd : l.Stays may d := .when hc fun _ hk => .gl hk
  have he : l.Stays may e := .rankCheck (.copyEnd hd)
  have hf : l.Stays may f := .ite he (.seeEpoch he)
  have hg : l.Stays may g := .ite (.hearHolder hf) (.ite (.ite (.setPeer hf) (.setHolder (.setPeer hf))) hf)
  have hu : l.Stays may u := .ite (.tickCount (.wr hg)) hg
  exact .updateSel (.recount hu)

theorem Lane.Stays.heartIn {m : GlMsg} (h : l.Stays may t) : l.Stays may (t.heartIn m) := by
  refine .glEpochHear h fun k i hk => ?_
  extract_lets _ _ a _ _ b
  have ha : l.Stays may a := .setPeer (.when hk fun _ hk => .set hk)
  have hb : l.Stays may b := ha.of rfl rfl
  split
  · exact .ite hb (.heartTake hb)
  · exact .heartTake hb

theorem Lane.Stays.heartMiss {i : LaneId} (h : l.Stays may t) : l.Stays may (t.heartMiss i) :=
  have hlate := Lane.Stays.when (.clr h (by decide)) fun _ hk => .bump hk
  .ite (.setPeer (.set h (by decide))) (.ite (.recount (.setPeer hlate)) (.setPeer hlate))

theorem Lane.Stays.heartDue (h : l.Stays may t) : l.Stays may t.heartDue := by
  unfold Lane.heartDue
  split
  · exact .ite (.each (.of h rfl rfl) (fun _ _ hk => .heartMiss hk)) h
  · exact h

theorem Lane.Stays.ftannIn {m : GlMsg} (h : l.Stays may t) : l.Stays may (t.ftannIn m) := .glIn h fun _ _ hk => .recount (.setPeer hk)

theorem Lane.Stays.claimIn {m : GlMsg} (h : l.Stays may t) : l.Stays may (t.claimIn m) := by
  refine .glEpochHear h fun k i hk => ?_
  extract_lets _ a _ b
  have ha : l.Stays may a := .when (.bump hk) fun _ hk => .set hk
  have hb : l.Stays may b := .hearHolder (.setPeer ha)
  exact .tokenCheck (.ite (.wr hb) hb)

theorem Lane.Stays.abdicateIn {m : GlMsg} (h : l.Stays may t) : l.Stays may (t.abdicateIn m) :=
  .glIn h (fun _ _ hk => .ite (.tokenCheck (.setHolder hk)) hk)

theorem Lane.Stays.handTry (h : l.Stays may t) : l.Stays may t.handTry := by
  unfold Lane.handTry
  split
  · exact .ite (.claim h) h
  · exact h

theorem Lane.Stays.handoverIn {m : GlMsg} (h : l.Stays may t) : l.Stays may (t.handoverIn m) :=
  .glEpochIn h (fun _ _ hk => .ite (.handTry (.gl hk)) hk)

theorem Lane.Stays.handTimeout (h : l.Stays may t) : l.Stays may t.handTimeout := by
  unfold Lane.handTimeout
  split
  · exact .ite (.tokenCheck (.raise (.set (.wr (.gl h))))) h
  · exact h

theorem Lane.Stays.glInelig (h : l.Stays may t) : l.Stays may t.glInelig := .tokenCheck (.set h)

theorem Lane.Stays.glElig (h : l.Stays may t) : l.Stays may t.glElig := .tokenCheck (.clr h)

theorem Lane.Stays.glCntClr (h : l.Stays may t) : l.Stays may t.glCntClr := .wr (.wr (.setFld h))

theorem Lane.Stays.cmdProfile {pl : List Byte} (h : l.Stays may t) : l.Stays may (t.cmdProfile pl) :=
  .ite h (.ite (.ite h (.pmRequest (.sy h))) (.wr (.sy h)))

theorem Lane.Stays.cmdTake {pl : List Byte} (h : l.Stays may t) : l.Stays may (t.cmdTake pl) :=
  .event (.glShares (.cmdProfile (.of (.wrAbove (.setBytes h) (by decide)) rfl rfl)))

theorem Lane.Stays.commandIn {m : GlMsg} (h : l.Stays may t) : l.Stays may (t.commandIn m) := .glEpochIn h fun _ _ hk => .cmdTake (.wr hk)

theorem Lane.Stays.glForward (h : l.Stays may t) : l.Stays may t.glForward := .ite (.each h (fun _ _ hk => .setFld (.setFld hk))) h

theorem Lane.Stays.copyOver (h : l.Stays may t) : l.Stays may t.copyOver := by
  unfold Lane.copyOver
  split
  · exact .ite (.gl h) h
  · exact h

theorem Lane.Stays.copyVoid (h : l.Stays may t) : l.Stays may t.copyVoid := by
  unfold Lane.copyVoid
  dsimp only
  split
  · exact .copyOver h
  · exact .event (.raise (.set (.glWithdraw (.gl (.copyOver h)))))

theorem Lane.Stays.copyStart (h : l.Stays may t) : l.Stays may t.copyStart :=
  .ite h (.each (.gl h) (fun _ _ hk => .each hk (fun _ _ hk1 => .ite (.glReady hk1) hk1)))

theorem Lane.Stays.copyChunk {c : Nat} {m : GlMsg} (h : l.Stays may t) : l.Stays may (t.copyChunk c m) := by
  unfold Lane.copyChunk
  extract_lets a _ _ _ b _ _ c d
  have ha : l.Stays may a := by
    dsimp only [a]
    split
    · exact .ite h (.copyEnd h)
    · exact h
  have hb : l.Stays may b := .ite ha (.clr (.setBytes ha) (by decide))
  have hc : l.Stays may c := .gl hb
  have hd : l.Stays may d := .wr (.wr (.set hc (by decide)))
  exact .ite (.handTry (.event (.wr hd))) (.gl hb)

theorem Lane.Stays.copyIn {m : GlMsg} (h : l.Stays may t) : l.Stays may (t.copyIn m) := .glEpochIn h fun _ _ hk => .ite hk (.copyChunk hk)

theorem Lane.Stays.handStep (h : l.Stays may t) : l.Stays may t.handStep.1 := by
  unfold Lane.handStep
  split
  · exact h
  · extract_lets _ a
    have ha : l.Stays may a := .gl h
    split
    · exact ha
    · split
      · exact .wr (.gl ha)
      · exact .raise (.set ha)

theorem Lane.Stays.cmdStarted (h : l.Stays may t) : l.Stays may t.cmdStarted := by
  unfold Lane.cmdStarted
  split
  · extract_lets _ a
    have ha : l.Stays may a := .cmdTake (.gl h)
    split
    · exact .glSend (.gl ha)
    · exact ha
  · exact h

theorem Lane.Stays.glPorts (h : l.Stays may t) : l.Stays may t.glPorts := .copyOver (.cmdStarted (.portStep (.portStep h)))

theorem Lane.Stays.commandSend {hand : Option Nat} (h : l.Stays may t) : l.Stays may (t.commandSend hand) :=
  .ite (.cmdStarted (.gl (.glSend (.gl h)))) (.glSend (.gl h))

theorem Lane.Stays.glSignal (h : l.Stays may t) : l.Stays may t.glSignal := by
  unfold Lane.glSignal
  split
  · exact h
  · split
    · exact .elect (.sendAbdicate (.glSend (.dropToken (.set h))))
    · extract_lets _ a _ _
      have ha : l.Stays may a := .glSend (.gl h)
      exact .ite (.copyStart (.commandSend (.handStep ha))) (.gl ha)

theorem Lane.Stays.hashIn {m : GlMsg} (h : l.Stays may t) : l.Stays may (t.hashIn m) := .glIn h fun _ _ hk => .setPeer hk

theorem Lane.Stays.hashSend (h : l.Stays may t) : l.Stays may t.hashSend := .ite (.glSend (.gl h)) h

theorem Lane.Stays.voteSet {pass : Bool} (h : l.Stays may t) : l.Stays may (t.voteSet pass) := .ite (.event (.wr h)) (.raise (.sy (.event (.wr h))))

theorem Lane.Stays.windowEnd (h : l.Stays may t) : l.Stays may t.windowEnd :=
  .ite (.ite (.claim (.ite (.voteSet h) h)) (.wr (.ite (.voteSet h) h))) h

theorem Lane.Stays.voteStep (h : l.Stays may t) : l.Stays may t.voteStep := by
  unfold Lane.voteStep
  split
  · split
    · exact .tokenCheck (.voteSet h)
    · exact h
  · exact h

theorem Lane.Stays.voteTimeout (h : l.Stays may t) : l.Stays may t.voteTimeout := .ite (.voteSet h) h

theorem Lane.Stays.glArming (h : l.Stays may t) : l.Stays may t.glArming := .ite (.wr (.gl h)) (.gl (.wr (.gl h)))

theorem Lane.Stays.restorePort {p : Port} (h : l.Stays may t) : l.Stays may (t.restorePort p) :=
  .ite (.event (.raise (.clr ((by
    split
    · exact .gl h
    · exact .gl h))))) h

theorem Lane.Stays.glBoundary {d0 d1 : Nat} (h : l.Stays may t) : l.Stays may (t.glBoundary d0 d1) := by
  unfold Lane.glBoundary
  extract_lets a b _ _ c d e f _ g u
  have ha : l.Stays may a := .tickFollow h
  have hb : l.Stays may b := .wr (.wr ha)
  have hc : l.Stays may c := .gl hb
  have hd : l.Stays may d := .restorePort (.restorePort hc)
  have he : l.Stays may e := .ite hd (.clr (.clr hd))
  have hf : l.Stays may f := .glForward he
  have hg : l.Stays may g := .gl hf
  have hu : l.Stays may u := .when hg fun _ hk => .glSync hk
  exact .ite (.when hu fun _ hk => .glSync hk) hg

theorem Lane.Stays.tickMove {m : Int} (h : l.Stays may t) : l.Stays may (t.tickMove m) := .ite (.gl h) (.gl h)

theorem Lane.Stays.syncIn {p : Port} {sender : LaneId} {dly own : Nat} (h : l.Stays may t) : l.Stays may (t.syncIn p sender dly own) := by
  unfold Lane.syncIn
  extract_lets _ _ a
  have ha : l.Stays may a := .ite (.glSync h) h
  split
  · exact ha
  · exact .ite ha (.put (.ite (.gl (.gl ha)) (.tickMove (.gl ha))))

theorem Lane.Stays.linkLoss {p : Port} (h : l.Stays may t) : l.Stays may (t.linkLoss p) :=
  .ite h (.event (.raise (.set (by
    split
    · exact .gl (.bump (.clr (.clr h)))
    · exact .gl (.bump (.clr (.clr h)))))))

theorem Lane.Stays.linkUp {p : Port} {ns : Nat} (h : l.Stays may t) : l.Stays may (t.linkUp p ns) := by
  unfold Lane.linkUp
  split
  · split
    · exact .gl (.wr (.set h))
    · exact .gl (.wr (.set h))
  · exact h

theorem Lane.Stays.glPass {p : Port} {m : GlMsg} (h : l.Stays may t) : l.Stays may (t.glPass p m) :=
  .ite (.glDiscard h) (.ite h (.ite (.glReady (.set (.set (.gl h)))) (.set (.set (.gl h)))))

/-! #### Sys2Proof/Machine/Slice.lean -/

theorem Lane.Stays.tokSend {form : Nat} {holder : LaneId} {seq : Nat} (h : l.Stays may t) : l.Stays may (t.tokSend form holder seq) := .glSend h

theorem Lane.Stays.tokTake {seq : Nat} (h : l.Stays may t) : l.Stays may (t.tokTake seq) := .event (.set (.wr (.st h)))

theorem Lane.Stays.tokPass (h : l.Stays may t) : l.Stays may t.tokPass := .ite (.tokTake (.tokSend h)) (.clr (.wr (.st (.tokSend h))))

theorem Lane.Stays.tokBoundary (h : l.Stays may t) : l.Stays may t.tokBoundary := .ite (.ite (.st h) (.tokPass h)) h

theorem Lane.Stays.tokIn {m : GlMsg} (h : l.Stays may t) : l.Stays may (t.tokIn m) :=
  .glIn h (fun _ _ hk => .ite (.ite (.tokTake (.st hk)) (.st hk)) (.ite (.clr (.wr (.st (.st hk)))) (.st hk)))

theorem Lane.Stays.tokRegen (h : l.Stays may t) : l.Stays may t.tokRegen := .ite (.raise (.bump (.st (.tokTake (.tokSend h))))) h

theorem Lane.Stays.tokArming (h : l.Stays may t) : l.Stays may t.tokArming := .ite (.st h) (.ite (.tokTake (.st (.st h))) (.st (.st h)))

theorem Lane.Stays.latent {u index : Nat} (h : l.Stays may t) : l.Stays may (t.latent u index) := .event (.raise (.wr h))

theorem Lane.Stays.coreTested {pass : Bool} (h : l.Stays may t) : l.Stays may (t.coreTested pass) := .pc h

theorem Lane.Stays.stResult {res u cov dur : Nat} (h : l.Stays may t) : l.Stays may (t.stResult res u cov dur) := .wr (.wr (.wr (.wr h)))

theorem Lane.Stays.sliceCharge {t' : Nat} (h : l.Stays may t) : l.Stays may (t.sliceCharge t') := .bistCharge (.sc (.bistCharge h))

theorem Lane.Stays.partDone {u res cov time : Nat} (h : l.Stays may t) : l.Stays may (t.partDone u res cov time) := by
  unfold Lane.partDone
  extract_lets a b
  have ha : l.Stays may a := .stResult h
  have hb : l.Stays may b := .ite (.bump ha) (.ite (.bump ha) (.ite (.bump ha) ha))
  exact .event (.ite (.coreTested hb) hb)

theorem Lane.Stays.runDone {p : ProgAt} {u res cov time : Nat} (h : l.Stays may t) : l.Stays may (t.runDone p u res cov time) :=
  .ite (.partDone (.st h)) (.st h)

theorem Lane.Stays.sliceDone {r : SliceRun} {res cov : Nat} (h : l.Stays may t) : l.Stays may (t.sliceDone r res cov) := by
  unfold Lane.sliceDone
  extract_lets _ _ a b c d
  have ha : l.Stays may a := .clr (.st h)
  have hb : l.Stays may b := .ite (.clr ha) ha
  have hc : l.Stays may c := .ite (.latent hb) hb
  have hd : l.Stays may d := by
    dsimp only [d]
    split
    · exact .ite (.runDone hc) (.sliceCharge (.partDone hc))
    · exact .sliceCharge (.partDone hc)
  exact .ite (.tokPass hd) hd

theorem Lane.Stays.sliceAbort {cause : Nat} (h : l.Stays may t) : l.Stays may (t.sliceAbort cause) := by
  unfold Lane.sliceAbort
  split
  · exact .wr (.sliceDone h)
  · exact h

theorem Lane.Stays.sliceStart {u index : Nat} {prog : Bool} (h : l.Stays may t) : l.Stays may (t.sliceStart u index prog) :=
  .set (.ite (.set (.st h)) (.st h))

theorem Lane.Stays.sliceRequest {u index : Nat} (h : l.Stays may t) : l.Stays may (t.sliceRequest u index) :=
  .ite h (.ite (.stResult h) (.sliceStart h))

theorem Lane.Stays.progEnd (h : l.Stays may t) : l.Stays may t.progEnd := .event (.clr (.st h))

theorem Lane.Stays.runStart {p : ProgAt} (h : l.Stays may t) : l.Stays may (t.runStart p) := .ite h (.sliceStart h)

theorem Lane.Stays.progRun {n : Nat} (h : l.Stays may t) : l.Stays may (t.progRun n) := by
  induction n generalizing t with
  | zero => exact .progEnd h
  | succ k ih => exact .ite (.progEnd h) (.ite (ih (.event (.stResult h))) (.runStart (.st h)))

theorem Lane.Stays.progNext (h : l.Stays may t) : l.Stays may t.progNext := by
  unfold Lane.progNext
  split
  · exact .ite h (.ite (.progRun h) (.runStart h))
  · exact h

theorem Lane.Stays.progGo (h : l.Stays may t) : l.Stays may t.progGo := .ite (.progRun (.set h)) h

theorem Lane.Stays.progAbort (h : l.Stays may t) : l.Stays may t.progAbort := by
  unfold Lane.progAbort
  split
  · exact .ite (.st h) (.progEnd (.ite h (.partDone h)))
  · exact h

theorem Lane.Stays.sliceEnd {res : SliceResult} {cov : Nat} (h : l.Stays may t) : l.Stays may (t.sliceEnd res cov) := by
  unfold Lane.sliceEnd
  split
  · exact .ite h (.progNext (.sliceDone h))
  · exact h

theorem Lane.Stays.sliceBudgetEnd (h : l.Stays may t) : l.Stays may t.sliceBudgetEnd := by
  unfold Lane.sliceBudgetEnd
  split
  · exact .ite h (.ite (.sliceDone h) (.sliceAbort h))
  · exact h

theorem Lane.Stays.gdInject (h : l.Stays may t) : l.Stays may t.gdInject := by
  unfold Lane.gdInject
  split
  · exact .ite (.st h) h
  · exact h

theorem Lane.Stays.sliceAccess (h : l.Stays may t) : l.Stays may t.sliceAccess := by
  unfold Lane.sliceAccess
  split
  · exact .ite (.progNext (.sliceAbort h)) h
  · exact h

theorem Lane.Stays.accessed {a n : Nat} (h : l.Stays may t) : l.Stays may (t.accessed a n) := .ite (.sliceAccess h) h

theorem Lane.Stays.copyReads (h : l.Stays may t) : l.Stays may t.copyReads := .ite h (.each (.gl h) (fun _ _ hk => .accessed hk))

theorem Lane.Stays.stTick (h : l.Stays may t) : l.Stays may t.stTick := by
  unfold Lane.stTick
  split
  · exact .ite (.sliceAbort h) h
  · exact .progNext h

theorem Lane.Stays.sweepResults {fails : Nat} (h : l.Stays may t) : l.Stays may (t.sweepResults fails) :=
  .event (.each (.coreTested (.wr (.wr (.set (.clr (.st h)))))) (fun _ _ hk => .ite (.latent hk) hk))

/-! #### Sys2Proof/Machine/Hamper.lean -/

theorem Lane.Stays.setHamper {i : Nat} {h' : Hamper} (h : l.Stays may t) : l.Stays may (t.setHamper i h') := .hq h

theorem Lane.Stays.hamperEval {i : Nat} (h : l.Stays may t) : l.Stays may (t.hamperEval i) := .hq (.wr (.wr (.wr h)))

theorem Lane.Stays.hamperJudge {i : Nat} (h : l.Stays may t) : l.Stays may (t.hamperJudge i) :=
  .ite (.put h) (.ite (.event (.set (.put h))) (.ite (.event (.clr (.put h))) (.put h)))

theorem Lane.Stays.hamperRose {i before : Nat} (h : l.Stays may t) : l.Stays may (t.hamperRose i before) := .ite (.arise h) h

theorem Lane.Stays.hamperOvr {i : Nat} (h : l.Stays may t) : l.Stays may (t.hamperOvr i) := .event (.raiseOnce (.bump (.set h) (by decide)))

theorem Lane.Stays.hamperAdd {i prio : Nat} {payload : List Byte} (h : l.Stays may t) : l.Stays may (t.hamperAdd i prio payload) :=
  .hq (.setHamper (.accessed (.fresh h)))

theorem Lane.Stays.hamperAdds {i prio : Nat} {ps : List (List Byte)} (h : l.Stays may t) : l.Stays may (t.hamperAdds i prio ps) :=
  .hamperRose (.hamperEval (.each h (fun _ _ hk => .hamperAdd hk)))

theorem Lane.Stays.recordResult {r byte0 : Nat} (h : l.Stays may t) : l.Stays may (t.recordResult r byte0) :=
  .ite (.wr h) (.event (.raiseOnce (.ite (.hq (.set (.set (.bump (.wr h))))) (.set (.bump (.wr h))))))

theorem Lane.Stays.pushTold {f : PushFor} {full : Bool} (h : l.Stays may t) : l.Stays may (t.pushTold f full) := by
  unfold Lane.pushTold
  split
  · exact h
  · exact .recordResult (.when h (fun _ hk => .bump hk))
  · exact .recordResult h

theorem Lane.Stays.hamperPush {i prio : Nat} {ps : List (List Byte)} {f : PushFor} (h : l.Stays may t) : l.Stays may (t.hamperPush i prio ps f) :=
  .ite (.pushTold (.hamperOvr h)) (.ite (.hq h) (.pushTold (.hamperAdds h)))

theorem Lane.Stays.lateJudge {p : LatePush} (h : l.Stays may t) : l.Stays may (t.lateJudge p) :=
  .ite (.pushTold (.hamperOvr h)) (.pushTold (.hamperAdds h))

theorem Lane.Stays.lateFrom {n : Nat} (h : l.Stays may t) : l.Stays may (t.lateFrom n) := .ite h (.each (.hq h) (fun _ _ hk => .lateJudge hk))

theorem Lane.Stays.hqJudge (h : l.Stays may t) : l.Stays may t.hqJudge := .when h fun _ hk => .each hk (fun _ _ hk => .hamperJudge hk)

theorem Lane.Stays.hqEnd (h : l.Stays may t) : l.Stays may t.hqEnd :=
  .hq (.each (.each (.hq h) (fun _ _ hk => .lateJudge hk)) (fun _ _ hk => .hamperJudge hk))

theorem Lane.Stays.hqCycle (h : l.Stays may t) : l.Stays may t.hqCycle := .ite (.hqEnd h) h

theorem Lane.Stays.prodReject (h : l.Stays may t) : l.Stays may t.prodReject := .raiseOnce (.set h)

theorem Lane.Stays.storageReject (h : l.Stays may t) : l.Stays may t.storageReject := .raiseOnce (.set h)

theorem Lane.Stays.hqPutWrite {h' n : Nat} {v : Word} (h : l.Stays may t) : l.Stays may (t.hqPutWrite h' n v) := .ite (.prodReject h) (.setFld h)

theorem Lane.Stays.hqPush {h' : Nat} {v : Word} (h : l.Stays may t) : l.Stays may (t.hqPush h' v) := .ite (.prodReject h) (.hamperPush h)

theorem Lane.Stays.hqTake {i : Nat} (h : l.Stays may t) : l.Stays may (t.hqTake i) := by
  unfold Lane.hqTake
  dsimp only
  split
  · exact .returns (.hamperEval (.setHamper h))
  · split
    · exact .returns h
    · exact .returns (.hamperEval (.setHamper h))

theorem Lane.Stays.hqMark {i : Nat} (h : l.Stays may t) : l.Stays may (t.hqMark i) := .returns (.setHamper h)

theorem Lane.Stays.rewindTo {i p : Nat} (h : l.Stays may t) : l.Stays may (t.rewindTo i p) := .hamperRose (.hamperEval (.setHamper h))

theorem Lane.Stays.hqRewind {i : Nat} (h : l.Stays may t) : l.Stays may (t.hqRewind i) := .returns (.rewindTo h)

theorem Lane.Stays.hqMarkAll (h : l.Stays may t) : l.Stays may t.hqMarkAll := .each h fun _ _ hk => .setHamper hk

theorem Lane.Stays.hqReleaseAll (h : l.Stays may t) : l.Stays may t.hqReleaseAll := .each h fun _ _ hk => .hamperEval (.setHamper hk)

theorem Lane.Stays.hqRollback (h : l.Stays may t) : l.Stays may t.hqRollback := .each h fun _ _ hk => .rewindTo hk

theorem Lane.Stays.hqCntClr (h : l.Stays may t) : l.Stays may t.hqCntClr := .setFld h

/-! #### Sys2Proof/Machine/HostPort.lean -/

theorem Lane.Stays.serviceAct {code : Nat} (h : l.Stays may t) (hc : code = 2 → t.mayRestart = true) : l.Stays may (t.serviceAct code) := by
  unfold Lane.serviceAct
  split
  · exact .sy h
  · split
    case isTrue hcode =>
      split
      · refine .restartWaits (.set h) ?_
        rw [← hc hcode]
        exact Lane.mayRestart_congr (t.calm_wr _ _ (by decide)).mode
      · exact .sy h
    · exact h

theorem Lane.Stays.service {b : List Byte} (h : l.Stays may t) (hc : byteAt b 1 = 2 → t.mayRestart = true) : l.Stays may (t.service b) :=
  .hamperPush (.event (.raise (.bump (.serviceAct h hc))))

theorem Lane.Stays.hostPut {b : List Byte} (h : l.Stays may t) : l.Stays may (t.hostPut b) := .hamperPush h

/-- A SERVICE frame with the code of a restart passes its checks in SAFE-HOLD and SERVICE alone. -/
theorem Lane.mayRestart_of_frame {b : List Byte} {whole : Bool} (h : l.frameResult b whole = some 0) (hb : byteAt b 0 = 0x30)
    (hc : byteAt b 1 = 2) : l.mayRestart = true := by
  by_contra hm
  have hmode : ¬ (l.mode = mSafeHold ∨ l.mode = mService) := fun h => hm (Lane.mayRestart_iff.mpr h)
  simp only [Lane.frameResult] at h
  grind

theorem Lane.Stays.answered {b : List Byte} {mode3 : Bool} (h : l.Stays may t) : l.Stays may (t.answered b mode3) := .put (.send h)

theorem Lane.Stays.hostFrame {b : List Byte} {whole mode3 : Bool} (h : l.Stays may t) : l.Stays may (t.hostFrame b whole mode3) := by
  cases hr : t.frameResult b whole with
  | none => rw [Lane.hostFrame_none mode3 hr]; exact .answered h
  | some r =>
    by_cases h0 : r = 0
    · rw [h0] at hr
      by_cases hb : byteAt b 0 = 0x30
      · rw [Lane.hostFrame_service mode3 hr hb]
        refine .service (.answered h) fun hc => ?_
        rw [← Lane.mayRestart_of_frame hr hb hc]
        exact Lane.mayRestart_congr (Lane.calm_wr _ _ _ (by decide)).mode
      · rw [Lane.hostFrame_put mode3 hr hb]
        exact .hostPut (.answered h)
    · rw [Lane.hostFrame_failed mode3 hr h0]
      exact .recordResult (.answered h)

theorem Lane.Stays.irqClr (h : l.Stays may t) : l.Stays may t.irqClr := .ite h (.clr h)

/-! #### Sys2Proof/Machine/Lantern.lean -/

theorem Lane.Stays.lantStart (h : l.Stays may t) : l.Stays may t.lantStart := .ite h (.set (.fc h))

theorem Lane.Stays.lantStop {cause : Nat} (h : l.Stays may t) : l.Stays may (t.lantStop cause) := .ite (.wr (.clr (.fc h))) h

theorem Lane.Stays.lantLow (h : l.Stays may t) : l.Stays may t.lantLow := .clr (.fc h)

theorem Lane.Stays.lantToggle (h : l.Stays may t) : l.Stays may t.lantToggle := by
  unfold Lane.lantToggle
  split
  · exact .ite (.ite (.wr (.fc h)) (.lantLow h)) h
  · exact h

theorem Lane.Stays.tendFault {cause key : Nat} (h : l.Stays may t) : l.Stays may (t.tendFault cause key) := .raise (.lantStop (.fc h))

theorem Lane.Stays.tend {key : Nat} (h : l.Stays may t) : l.Stays may (t.tend key) :=
  .ite h (.ite (.tendFault h) (.ite (.tendFault h) (.ite (.tendFault h) (.when (.wr (.fc h)) (fun _ hk => .set hk)))))

theorem Lane.Stays.tendExpiry (h : l.Stays may t) : l.Stays may t.tendExpiry := .ite (.tendFault h) h

theorem Lane.Stays.setWatch {p : Port} {w : Watch} (h : l.Stays may t) : l.Stays may (t.setWatch p w) := by
  unfold Lane.setWatch
  split
  · exact .fc h
  · exact .fc h

theorem Lane.Stays.watchStart (h : l.Stays may t) : l.Stays may t.watchStart := .wr (.wr h)

theorem Lane.Stays.watchStop {p : Port} (h : l.Stays may t) : l.Stays may (t.watchStop p) :=
  .recount (.event (.raise (.setWatch (.wr h (watchFld_addr p)))))

theorem Lane.Stays.watchGo {p : Port} (h : l.Stays may t) : l.Stays may (t.watchGo p) := .recount (.event (.wr h (watchFld_addr p)))

theorem Lane.Stays.watchEdge {p : Port} (h : l.Stays may t) : l.Stays may (t.watchEdge p) :=
  .ite h (.ite (.ite (.watchStop (.setWatch h)) (.setWatch h)) (.ite (.watchGo (.setWatch h)) (.setWatch h)))

theorem Lane.Stays.watchTimeout {p : Port} (h : l.Stays may t) : l.Stays may (t.watchTimeout p) := by
  unfold Lane.watchTimeout
  split
  · exact .ite (.watchStop h) h
  · exact h

/-! #### Sys2Proof/Machine/Access.lean -/

/-- No field of SY_MODE can be written, and none is cleared by writing it. -/
theorem syMode_fixed : (descOf SY_MODE_OWN.addr).all (fun d => d.bits Acc.stores == 0 && d.bits Acc.clears == 0) = true := by decide

theorem RegDesc.afterWrite_fixed {d : RegDesc} (hs : d.bits Acc.stores = 0) (hc : d.bits Acc.clears = 0) (old : Word) (v : Nat) :
    d.afterWrite old v = old := by
  have hmask : ~~~(BitVec.ofNat 64 0) = BitVec.allOnes 64 := by decide
  simp only [RegDesc.afterWrite, mergeBits, hs, hc, Nat.zero_and, Nat.and_zero, hmask, BitVec.and_allOnes, BitVec.or_zero]

theorem Lane.mode_fieldWrite (l : Lane) (a v : Nat) : (l.fieldWrite a v).mode = l.mode := by
  by_cases ha : SY_MODE_OWN.addr = a
  · subst ha
    cases hd : descOf SY_MODE_OWN.addr with
    | none => simp [Lane.fieldWrite, hd]
    | some d =>
      have hfix := syMode_fixed
      simp only [hd, Option.all_some, Bool.and_eq_true, beq_iff_eq] at hfix
      cases hf : d.fits Acc.stores v with
      | false => rw [Lane.fieldWrite_refused l hd hf]
      | true =>
        rw [Lane.fieldWrite_fits l hd hf, RegDesc.afterWrite_fixed hfix.1 hfix.2, l.evFresh_below (by decide), Lane.mode, Lane.rd,
          Lane.reg_setReg]
        simp [Lane.mode, Lane.rd]
  · rw [Lane.mode, Lane.rd, Lane.reg_fieldWrite_ne l v ha, Lane.mode, Lane.rd]

theorem Lane.Stays.fieldWrite {a v : Nat} (h : l.Stays may t) : l.Stays may (t.fieldWrite a v) :=
  h.keep (t.mode_fieldWrite a v) (congrArg (fun m : Lane => m.fc.restartWait) (t.fieldWrite_frame a v []) :)

/-! #### Sys2Proof/Machine/Inputs.lean -/

theorem Lane.Stays.safSsup (h : l.Stays may t) : l.Stays may t.safSsup := by
  unfold Lane.safSsup
  extract_lets _ a _ b
  have ha : l.Stays may a := .ite (.event (.saf h)) h
  have hb : l.Stays may b := .ite (.event (.saf ha)) ha
  exact .ite (.proofPass hb (fun _ hk => .set hk)) hb

theorem Lane.Stays.armProofs (h : l.Stays may t) : l.Stays may t.armProofs :=
  .ite (.provenBy (.each (.safSsup h) (fun _ _ hk => .provenBy hk (gdProof_addr _)))) h

theorem Lane.Stays.setSaf {n : Nat} {v : SafIn} (h : l.Stays may t) : l.Stays may (t.setSaf n v) := by
  unfold Lane.setSaf
  split
  · exact .saf h
  · exact .saf h
  · exact .saf h
  · exact .saf h

theorem Lane.Stays.safSeen {n : Nat} (h : l.Stays may t) : l.Stays may (t.safSeen n) := by
  unfold Lane.safSeen
  split
  · exact h
  · extract_lets a b
    have ha : l.Stays may a := .when h fun _ hk => .set hk (by decide)
    have hb : l.Stays may b := .when ha fun _ hk => .set hk (by decide)
    exact .ite (.armProofs (.set hb (by decide))) hb

theorem Lane.Stays.safEval {n : Nat} (h : l.Stays may t) : l.Stays may (t.safEval n) :=
  .ite h (.safSeen (.ite (.setSaf h) (.event (.put (.setSaf h) (by decide)))))

theorem Lane.Stays.safLevels {n : Nat} (h : l.Stays may t) : l.Stays may (t.safLevels n) := .safEval (.put (.put h (by decide)) (by decide))

theorem Lane.Stays.safPin {n : Nat} {chanB level : Bool} (h : l.Stays may t) : l.Stays may (t.safPin n chanB level) :=
  .ite (.ite h (.setSaf h)) (.ite h (.setSaf h))

theorem Lane.Stays.safChange {n : Nat} {chanB level : Bool} (h : l.Stays may t) : l.Stays may (t.safChange n chanB level) :=
  .ite (.ite (.safPin h) (.safLevels (.safPin h))) h

theorem Lane.Stays.safDiscrepancy {n : Nat} (h : l.Stays may t) : l.Stays may (t.safDiscrepancy n) := by
  unfold Lane.safDiscrepancy
  split
  · exact .ite (.event (.raise (.clr (.set h (by decide)) (by decide)))) h
  · exact h

theorem Lane.Stays.discClr {m : Nat} (h : l.Stays may t) : l.Stays may (t.discClr m) :=
  .each h (fun _ _ hk => .ite (.safEval (.clr hk (by decide))) hk)

theorem Lane.Stays.injStart (h : l.Stays may t) : l.Stays may t.injStart := by
  unfold Lane.injStart
  split
  · exact h
  · exact .setSaf (.saf h)

theorem Lane.Stays.injQueue {ns : List Nat} (h : l.Stays may t) : l.Stays may (t.injQueue ns) := .injStart (.saf h)

theorem Lane.Stays.injectInputs {m : Nat} (h : l.Stays may t) : l.Stays may (t.injectInputs m) := .ite h (.injQueue h)

theorem Lane.Stays.injFail {n : Nat} {chanB : Bool} (h : l.Stays may t) : l.Stays may (t.injFail n chanB) :=
  .event (.raise (.set (.set (.setSaf h) (by decide))))

theorem Lane.Stays.injDone {n : Nat} (h : l.Stays may t) : l.Stays may (t.injDone n) :=
  .injStart (.safLevels (.ite (.saf h) (.armProofs (.set (.saf h) (by decide)))))

theorem Lane.Stays.injEnd {ok : Bool} (h : l.Stays may t) : l.Stays may (t.injEnd ok) := by
  unfold Lane.injEnd
  split
  · exact h
  · split
    · exact h
    · extract_lets a
      have ha : l.Stays may a := .ite h (.injFail h)
      exact .ite (.saf ha) (.ite (.saf ha) (.injDone ha))

/-! #### Sys2Proof/Machine/Network.lean -/

theorem Lane.Stays.ttQuality (h : l.Stays may t) : l.Stays may t.ttQuality := .wr (.wr h)

theorem Lane.Stays.setSync {s : Nat} (h : l.Stays may t) : l.Stays may (t.setSync s) := .ttQuality (.wr (.ite h (.event (.tt h))))

theorem Lane.Stays.ntStep {th : Int} (h : l.Stays may t) : l.Stays may (t.ntStep th) := .of (.wrS (.ntMove h)) rfl rfl

theorem Lane.Stays.ntCorrect {th : Int} (h : l.Stays may t) : l.Stays may (t.ntCorrect th) := .wrS (.wrS (.tt (.ntRebase h)))

theorem Lane.Stays.reference {r trx : Nat} {th : Int} (h : l.Stays may t) : l.Stays may (t.reference r trx th) := by
  unfold Lane.reference
  extract_lets _ _ a _ _ b c _ d e _ _ f
  have ha : l.Stays may a := .when h fun _ hk => .set hk
  have hb : l.Stays may b := .of ha rfl rfl
  have hc : l.Stays may c := .wr (.wr hb)
  have hd : l.Stays may d := .when hc fun _ hk => .raise hk
  have he : l.Stays may e := .ntCorrect hc
  have hf : l.Stays may f := .tt he
  split
  · exact .ttQuality hb
  · exact .ite (.setSync (.ntStep hc)) (.ite (.setSync (.ntStep hd)) (.ite (.ite (.setSync hf) (.ttQuality hf)) (.setSync he)))

theorem Lane.Stays.syncLoss (h : l.Stays may t) : l.Stays may t.syncLoss := .ite (.raise (.setSync h)) h

theorem Lane.Stays.masterTake (h : l.Stays may t) : l.Stays may t.masterTake := .ite (.setSync h) h

theorem Lane.Stays.portJudge {p : Nat} (h : l.Stays may t) : l.Stays may (t.portJudge p) := .ite (.wr (.wr h)) (.wr h)

theorem Lane.Stays.ageStep {k : Nat} (h : l.Stays may t) : l.Stays may (t.ageStep k) := .ite (.bump h) h

theorem Lane.Stays.cycleStart (h : l.Stays may t) : l.Stays may t.cycleStart :=
  .ite h (.event (.wr (.wr (.wr (.tt (.each (.when h (fun _ hk => .each hk (fun _ _ hk => .portJudge hk))) (fun _ _ hk => .ageStep hk)))))))

theorem Lane.Stays.portMute {p : Nat} (h : l.Stays may t) : l.Stays may (t.portMute p) := .ite (.event (.raise (.wr (.set h)))) h

theorem Lane.Stays.portOpen {p : Nat} (h : l.Stays may t) : l.Stays may (t.portOpen p) := .ite (.event (.wr (.wr (.clr h)))) h

theorem Lane.Stays.portUnmute {p : Nat} (h : l.Stays may t) : l.Stays may (t.portUnmute p) := .ite (.portOpen h) h

theorem Lane.Stays.txReady {k len : Nat} (h : l.Stays may t) : l.Stays may (t.txReady k len) :=
  .ite (.raiseOnce (.bump (.set h))) (.ite h (.tt (.wr h)))

theorem Lane.Stays.fetchSlot {k : Nat} (h : l.Stays may t) : l.Stays may (t.fetchSlot k) :=
  .ite (.event (.raiseOnce (.bump (.tt (.when (.when h (fun _ hk => .set hk)) (fun _ hk => .wr hk))))))
    (.tt (.when (.when h (fun _ hk => .set hk)) (fun _ hk => .wr hk)))

theorem Lane.Stays.fetch {k : Nat} (h : l.Stays may t) : l.Stays may (t.fetch k) := by
  unfold Lane.fetch
  split
  · exact h
  · split
    · exact .ite h (.fetchSlot (.tt h))
    · exact h

theorem Lane.Stays.slotSend {k : Nat} (h : l.Stays may t) : l.Stays may (t.slotSend k) := by
  unfold Lane.slotSend
  dsimp only
  split
  · exact .ite (.ite h (.send h)) h
  · split
    · exact h
    · split
      · exact .ite h (.ite h (.send h))
      · split
        · exact .ite (.ite (.tt h) (.send (.tt h))) h
        · exact h

theorem Lane.Stays.frameSend {k : Nat} (h : l.Stays may t) : l.Stays may (t.frameSend k) := by
  unfold Lane.frameSend
  split
  · exact h
  · split
    · exact .ite h (.slotSend (.tt h))
    · exact h

theorem Lane.Stays.partnerSet {m st : Nat} (h : l.Stays may t) : l.Stays may (t.partnerSet m st) := .event (.raise (.wr h))

theorem Lane.Stays.partnerSeen {m p cyc : Nat} (h : l.Stays may t) : l.Stays may (t.partnerSeen m p cyc) :=
  .ite (.partnerSet (.wr (.wr h))) (.wr (.wr h))

theorem Lane.Stays.rollCall {id p cyc : Nat} (h : l.Stays may t) : l.Stays may (t.rollCall id p cyc) := by
  unfold Lane.rollCall
  split
  · exact .partnerSeen h
  · split
    · exact .bump h
    · exact .partnerSet (.partnerSeen (.wr (.setFld h)))

theorem Lane.Stays.partnerAbsent {m : Nat} (h : l.Stays may t) : l.Stays may (t.partnerAbsent m) :=
  .ite h (.ite (.partnerSet h) (.ite (.setFld h) h))

theorem Lane.Stays.partnersInit (h : l.Stays may t) : l.Stays may t.partnersInit := .each h fun _ _ hk => .wr (.wr hk)

theorem Lane.Stays.rxError (h : l.Stays may t) : l.Stays may t.rxError := .event (.raiseOnce (.bump (.set h)))

theorem Lane.Stays.violation {p : Nat} (h : l.Stays may t) : l.Stays may (t.violation p) := .ite (.wr (.tt (.bump h))) (.tt (.bump h))

theorem Lane.Stays.hubSend {ports : Nat} {f : CrelasFrame} (h : l.Stays may t) : l.Stays may (t.hubSend ports f) := .ite h (.send h)

theorem Lane.Stays.hubFree {p : Nat} {f : CrelasFrame} (h : l.Stays may t) : l.Stays may (t.hubFree p f) := .ite h (.hubSend (.tt h))

theorem Lane.Stays.driftWarn {p k id : Nat} (h : l.Stays may t) : l.Stays may (t.driftWarn p k id) :=
  .event (.raiseOnce (by
    split
    · exact .set (.set h)
    · exact .set h))

theorem Lane.Stays.rxAccept {p k trx : Nat} {f : CrelasFrame} (h : l.Stays may t) : l.Stays may (t.rxAccept p k trx f) := by
  unfold Lane.rxAccept
  extract_lets _ _ a b c d e
  have ha : l.Stays may a := .setBytes h
  have hb : l.Stays may b := .wr (.set (.wr ha))
  have hc : l.Stays may c := .wr (.wr hb)
  have hd : l.Stays may d := .ite (.hamperPush hc) hc
  have he : l.Stays may e := by
    dsimp only [e]
    split
    · exact .partnerSeen hd
    · exact hd
  exact .ite (.reference he) he

theorem Lane.Stays.rxChecks {p k trx : Nat} {f : CrelasFrame} (h : l.Stays may t) : l.Stays may (t.rxChecks p k trx f) := by
  have he : ∀ {m : Lane} {c : Prop} {_ : Decidable c}, l.Stays may m → l.Stays may (if c then t.rxError else m) :=
    fun hm => .ite (.rxError h) hm
  exact he (.ite (.bump h) (he (he (he (he (.ite h (.ite (.rollCall h) (.ite (.rxAccept h) h))))))))

theorem Lane.Stays.rxFrame {p : Nat} {f : CrelasFrame} {ago : Nat} (h : l.Stays may t) : l.Stays may (t.rxFrame p f ago) := by
  unfold Lane.rxFrame
  split
  · exact h
  · extract_lets _ _ _ _ _ _ _ _ _ _ _ _ a _ b c d _ e
    have ha : l.Stays may a := .wr (.wr h)
    have hb : l.Stays may b := .tt ha
    have hc : l.Stays may c := .when hb fun _ hk => .hubFree hk
    have hd : l.Stays may d := .when hc fun _ hk => .driftWarn hk
    have he : l.Stays may e := .when hd fun _ hk => .hubSend hk
    exact .ite (.ite hc (.violation hc)) (.ite (.ite he (.violation he)) (.rxChecks he))

theorem Lane.Stays.linkChange {p : Nat} {up : Bool} (h : l.Stays may t) : l.Stays may (t.linkChange p up) := .ite h (.event (.raise (.put h)))

theorem Lane.Stays.unmuteMask {m : Nat} (h : l.Stays may t) : l.Stays may (t.unmuteMask m) := .each h fun _ _ hk => .ite (.portOpen hk) hk

theorem Lane.Stays.ttCntClr (h : l.Stays may t) : l.Stays may t.ttCntClr := .each (.setFld h) fun _ _ hk => .wr hk

/-! #### Sys2Proof/Machine/Trip.lean -/

theorem Lane.Stays.ascLatch {k c : Nat} (h : l.Stays may t) : l.Stays may (t.ascLatch k c) := by
  unfold Lane.ascLatch
  split
  · exact .setGrpCode h
  · exact .ite (.trip (.setGrpCode h)) (.ite (.setGrpCode h) (.raise (.set (.setGrpCode h))))

theorem Lane.Stays.actGroup {k : Nat} (h : l.Stays may t) : l.Stays may (t.actGroup k) := by
  unfold Lane.actGroup
  extract_lets a
  have ha : l.Stays may a := .ite (.clr h) h
  split
  · exact .ite (.setGrpCode ha) ha
  · exact .setGrpCode ha
  · exact .ascLatch ha
  · exact .ascLatch ha

theorem Lane.Stays.settleAll (h : l.Stays may t) : l.Stays may t.settleAll := .each h fun _ _ hk => .leSettle hk

theorem Lane.Stays.tripAct {n : Nat} (h : l.Stays may t) : l.Stays may (t.tripAct n) := by
  unfold Lane.tripAct
  extract_lets _ a _ _ b c d e
  have ha : l.Stays may a := .wr h
  have hb : l.Stays may b := .each ha fun _ _ hk => .actGroup hk
  have hc : l.Stays may c := .ite hb (.wr (.set hb))
  have hd : l.Stays may d := .event hc
  have he : l.Stays may e := .ite (.raise (.wr hd)) hd
  exact .ite ha (.settleAll he)

theorem Lane.Stays.tripEnter {n : Nat} (h : l.Stays may t) : l.Stays may (t.tripEnter n) := .ite h (.ite (.trip (.trip h)) (.tripAct (.trip h)))

theorem Lane.Stays.tripSource {n : Nat} {high : Bool} {cyc : Nat} (h : l.Stays may t) : l.Stays may (t.tripSource n high cyc) :=
  .ite (.trip h) (.trip h)

theorem Lane.Stays.tripOnset {n : Nat} {high : Bool} {cyc : Nat} (h : l.Stays may t) : l.Stays may (t.tripOnset n high cyc) :=
  .when (.tripSource h) fun _ hk => .tripEnter hk

theorem Lane.Stays.tripIdle {n : Nat} (h : l.Stays may t) : l.Stays may (t.tripIdle n) := .wr (.trip h)

theorem Lane.Stays.tripsStanding (h : l.Stays may t) : l.Stays may t.tripsStanding :=
  .each (.each h (fun _ _ hk => .tripIdle hk)) fun _ _ hk => .tripEnter hk

theorem Lane.Stays.tripGone {n : Nat} (h : l.Stays may t) : l.Stays may (t.tripGone n) := .ite (.trip h) (.tripSource h)

theorem Lane.Stays.tripOff {n : Nat} (h : l.Stays may t) : l.Stays may (t.tripOff n) :=
  .tripIdle (.ite (.bump (.tripSource h) (by decide)) (.tripSource h))

theorem Lane.Stays.ocMark {n sw : Nat} (h : l.Stays may t) : l.Stays may (t.ocMark n sw) := .ite (.wr h) (.ite (.wr h) h)

theorem Lane.Stays.tripAway {n : Nat} {p : TripPulse} (h : l.Stays may t) : l.Stays may (t.tripAway n p) := .tripSource (.ocMark h)

theorem Lane.Stays.ocOnset {n sw : Nat} {high : Bool} {cyc : Nat} (h : l.Stays may t) : l.Stays may (t.ocOnset n sw high cyc) :=
  .tripOnset (.ocMark h)

theorem Lane.Stays.auxStart {k : Nat} (h : l.Stays may t) : l.Stays may (t.auxStart k) := .ite (.trip h) h

theorem Lane.Stays.auxEnd {k : Nat} (h : l.Stays may t) : l.Stays may (t.auxEnd k) := by
  unfold Lane.auxEnd
  split
  · exact .ite (.each (.trip h) (fun _ _ hk => .tripAct (.trip hk))) h
  · exact h

theorem Lane.Stays.tripClr {m : Nat} (h : l.Stays may t) : l.Stays may (t.tripClr m) := .trip h

theorem Lane.Stays.releaseTrips (h : l.Stays may t) : l.Stays may t.releaseTrips := .ite (.clr (.wr (.trip h))) (.wr (.trip h))

theorem Lane.Stays.groupEnd {k : Nat} (h : l.Stays may t) : l.Stays may (t.groupEnd k) := by
  unfold Lane.groupEnd
  split
  · exact h
  · split
    · exact .ite (.trip (.setGrpCode h)) (.setGrpCode h)
    · exact .setGrpCode h

theorem Lane.Stays.tripValley {x : Ax} (h : l.Stays may t) : l.Stays may (t.tripValley x) :=
  .leSettle (.each (.releaseTrips h) (fun _ _ hk => .groupEnd hk))

theorem Lane.Stays.chopPulse (h : l.Stays may t) : l.Stays may t.chopPulse :=
  .ite (.ite (.event (.raiseOnce (.bump (.put (.set (.ite (.dl (.dl h)) (.dl h))))))) (.put (.set (.ite (.dl (.dl h)) (.dl h))))) (.dl h)

theorem Lane.Stays.ov1Assert (h : l.Stays may t) : l.Stays may t.ov1Assert :=
  .ite h (.ite (.chopPulse (.dl (.event (.raiseOnce (.bump (.set h)))))) (.dl (.event (.raiseOnce (.bump (.set h))))))

theorem Lane.Stays.ov1Release (h : l.Stays may t) : l.Stays may t.ov1Release := .clr (.clr h)

theorem Lane.Stays.ov2Assert (h : l.Stays may t) : l.Stays may t.ov2Assert :=
  .ite h (.each (.tripOnset (.event (.raise (.bump (.set h))))) (fun _ _ hk => .gateSettle hk))

theorem Lane.Stays.ov2Release (h : l.Stays may t) : l.Stays may t.ov2Release := .ite (.tripOff (.clr h)) h

theorem Lane.Stays.chopPeriod (h : l.Stays may t) : l.Stays may t.chopPeriod := .ite (.chopPulse h) h

theorem Lane.Stays.chopOnEnd (h : l.Stays may t) : l.Stays may t.chopOnEnd := .ite (.clr h) h

theorem Lane.Stays.chopFault (h : l.Stays may t) : l.Stays may t.chopFault := .tripOnset (.event (.raise (.dl (.set (.clr h)))))

theorem Lane.Stays.chopWatch {seen : Arrival} (h : l.Stays may t) : l.Stays may (t.chopWatch seen) := by
  unfold Lane.chopWatch
  split
  · split
    · split
      · exact .dl h
      · exact .set (.dl h)
      · exact .chopFault (.set (.dl h))
    · exact h
  · exact h

theorem Lane.Stays.chopOver (h : l.Stays may t) : l.Stays may t.chopOver := .chopFault (.set h)

theorem Lane.Stays.chopClr (h : l.Stays may t) : l.Stays may t.chopClr := .ite h (.tripOff (.clr h))

theorem Lane.Stays.blankRead (h : l.Stays may t) : l.Stays may t.blankRead := .setFld (.of h rfl rfl)

/-! #### Sys2Proof/Machine/Power.lean -/

theorem Lane.Stays.setDom {d v : Nat} (h : l.Stays may t) : l.Stays may (t.setDom d v) := .wr h

theorem Lane.Stays.portsDown (h : l.Stays may t) : l.Stays may t.portsDown := .each h fun _ _ hk => .linkChange hk

theorem Lane.Stays.tickStop (h : l.Stays may t) : l.Stays may t.tickStop := .sc (.energyAccount h)

theorem Lane.Stays.domStart {d target : Nat} (h : l.Stays may t) : l.Stays may (t.domStart d target) := by
  unfold Lane.domStart
  dsimp only
  split
  · exact .ite h (.setDom (.pw (.ite (.portsDown (.ite (.tickStop h) h)) (.ite (.tickStop h) h))))
  · exact .ite h (.setDom (.pw (.ite (.portsDown (.ite (.tickStop h) h)) (.ite (.tickStop h) h))))

theorem Lane.mode_filter {u : Lane} {f : Nat × Word → Bool} (h : u.regs = t.regs.filter f) (hf : ∀ v, f (SY_MODE_OWN.addr, v) = true) :
    u.mode = t.mode := by
  rw [Lane.mode, Lane.rd, Lane.reg, h, regGet_filter_of hf, Lane.mode, Lane.rd, Lane.reg]

theorem Lane.Stays.lose {lo hi : Nat} (h : l.Stays may t) (hlo : SY_MODE_OWN.addr < lo := by simp only [SY_MODE_OWN]; omega) :
    l.Stays may (t.lose lo hi) := by
  unfold Lane.lose
  extract_lets kept lost a
  have hkept : a.mode = t.mode := Lane.mode_filter rfl fun _ => by simp [hlo]
  have hlost : ∀ p ∈ lost, SY_MODE_OWN.addr ≠ p.1 := by
    intro p hp
    have hlow := (List.mem_filter.mp hp).2
    simp only [Bool.and_eq_true, decide_eq_true_eq] at hlow
    omega
  have ha : l.Stays may a := h.keep hkept rfl
  exact .eachOf ha fun _ p hp hk => .setReg hk (hlost p hp)

theorem Lane.Stays.domLose {d : Nat} (h : l.Stays may t) : l.Stays may (t.domLose d) := by
  unfold Lane.domLose
  dsimp only
  split
  · exact .setAx (.lose (.lose (.lose h)))
  · exact .setAx (.lose (.lose (.lose h)))
  · exact .setAx (.ite (.trip (.lose h)) (.lose h))
  · exact .setAx (.ite (.trip (.lose h)) (.lose h))
  · exact .of (.each (.lose (.energyAccount h)) (fun _ _ hk => .setAx (.lose hk))) rfl rfl
  · exact .ttQuality (.of (.lose h) rfl rfl)
  · exact h

theorem Lane.Stays.setWant {d v : Nat} (h : l.Stays may t) : l.Stays may (t.setWant d v) := .pw h

theorem Lane.Stays.domFollow {d : Nat} (h : l.Stays may t) : l.Stays may (t.domFollow d) := .ite h (.domStart h)

theorem Lane.Stays.domRequested {d w : Nat} (h : l.Stays may t) : l.Stays may (t.domRequested d w) :=
  .ite (.domFollow (.event (.raiseOnce (.set (.setWant h))))) (.domFollow (.setWant h))

theorem Lane.Stays.domPermission (h : l.Stays may t) : l.Stays may t.domPermission :=
  .ite h (.each h (fun _ _ hk => .ite (.domFollow (.setWant hk)) hk))

theorem Lane.Stays.domScheduler (h : l.Stays may t) : l.Stays may t.domScheduler := .each h (fun _ _ hk => .ite (.ite hk (.domRequested hk)) hk)

theorem Lane.Stays.pdReqWrite {v : Nat} (h : l.Stays may t) : l.Stays may (t.pdReqWrite v) :=
  .each h (fun _ _ hk => .ite (.set hk) (.ite hk (.domRequested (.wr hk))))

theorem Lane.Stays.sleepRejected (h : l.Stays may t) : l.Stays may t.sleepRejected := .raise (.set h)

theorem Lane.Stays.sleepStep {p : SleepStep} (h : l.Stays may t) : l.Stays may (t.sleepStep p) := .pw h

theorem Lane.Stays.sleepDomains (h : l.Stays may t) : l.Stays may t.sleepDomains := .ite (.sleepStep h) h

theorem Lane.Stays.sleepDown (h : l.Stays may t) : l.Stays may t.sleepDown := .sleepDomains (.each (.pw (.wr (.wr h))) (fun _ _ hk => .domStart hk))

theorem Lane.Stays.sleepBack (h : l.Stays may t) : l.Stays may t.sleepBack := .each (.pw h) fun _ _ hk => .domStart hk

theorem Lane.Stays.sleepUndo (h : l.Stays may t) : l.Stays may t.sleepUndo :=
  .ite (.domStart (.sleepStep (.bump (.clr (.pw h))))) (.sleepBack (.bump (.clr (.pw h))))

theorem Lane.Stays.sleepAbort {cause : Nat} (h : l.Stays may t) : l.Stays may (t.sleepAbort cause) := .event (.raise (.wr (.set (.sleepUndo h))))

theorem Lane.Stays.wake {cause : Nat} (h : l.Stays may t) : l.Stays may (t.wake cause) := by
  unfold Lane.wake
  dsimp only
  split
  · exact .pw h
  · exact .ite (.sleepAbort h) (.clr (.wr (.pw h)))
  · exact .clr (.wr (.pw h))
  · exact h
  · exact h
  · exact .sleepAbort h

theorem Lane.Stays.slowAlarm (h : l.Stays may t) : l.Stays may t.slowAlarm := .ite (.wake (.event (.pw h))) (.event (.pw h))

theorem Lane.Stays.sleep (h : l.Stays may t) : l.Stays may t.sleep := by
  unfold Lane.sleep
  split
  · exact h
  · split
    · extract_lets _ a
      have ha : l.Stays may a := .set (.pw h)
      split
      · exact .ite (.sleepAbort ha) (.ite (.slowAlarm ha) ha)
      · exact .ite (.slowAlarm ha) ha
    · exact .sleepRejected h

theorem Lane.Stays.domUp {d : Nat} (h : l.Stays may t) : l.Stays may (t.domUp d) := by
  unfold Lane.domUp
  split
  · exact .leSettle h
  · exact .leSettle h
  · exact .tripsStanding h
  · exact .each (.each h (fun _ _ hk => .hallsStanding hk)) fun _ _ hk => .safLevels hk
  · exact h

theorem Lane.Stays.domDone {d : Nat} (h : l.Stays may t) : l.Stays may (t.domDone d) := by
  unfold Lane.domDone
  split
  · exact h
  · extract_lets _ a b c _ d
    have ha : l.Stays may a := .pw h
    have hb : l.Stays may b := .event (.setDom ha)
    have hc : l.Stays may c := .ite (.domLose hb) (.ite (.domUp hb) hb)
    have hd : l.Stays may d := .sc hc
    exact .ite (.ite (.ite (.sleepBack hd) hd) (.sleepStep hc)) (.ite (.sleepDomains hc) (.domFollow hc))

theorem Lane.Stays.aoTick (h : l.Stays may t) : l.Stays may t.aoTick := .ite (.keepAlive h) h

theorem Lane.Stays.pwTick (h : l.Stays may t) : l.Stays may t.pwTick := by
  unfold Lane.pwTick
  extract_lets a _ b
  have ha : l.Stays may a := .each h fun _ _ hk => .domDone hk
  have hb : l.Stays may b := .ntRebase ha
  split
  · exact .ite (.domStart (.pw ha)) ha
  · exact .ite (.clr (.clr (.of hb rfl rfl))) ha
  · exact ha

theorem Lane.Stays.wakeLock (h : l.Stays may t) : l.Stays may t.wakeLock :=
  .event (.raise (.domStart (.ttQuality (.setSync (.wr (.set (.of h rfl rfl)))))))

theorem Lane.Stays.whistleBad (h : l.Stays may t) : l.Stays may t.whistleBad := .raiseOnce (.bump (.set h))

theorem Lane.Stays.whistleWhole {addr cmd : Nat} (h : l.Stays may t) : l.Stays may (t.whistleWhole addr cmd) :=
  .ite (.ite (.wake (.event (.bump (.wr h)))) (.event (.bump (.wr h)))) h

theorem Lane.Stays.whistle {f : List WhistlePulse} (h : l.Stays may t) : l.Stays may (t.whistle f) := by
  unfold Lane.whistle
  split
  · exact h
  · split
    · exact .ite (.whistleWhole h) (.whistleBad h)
    · exact .whistleBad h

theorem Lane.Stays.setDiv {d : Nat} (h : l.Stays may t) : l.Stays may (t.setDiv d) := .ite h (.ite (.event (.raise (.set h))) (.event (.wr h)))

theorem Lane.Stays.divGo {d : Nat} (h : l.Stays may t) : l.Stays may (t.divGo d) := .ite (.setDiv h) h

theorem Lane.Stays.divApply (h : l.Stays may t) : l.Stays may t.divApply := by
  unfold Lane.divApply
  split
  · exact .divGo (.pw h)
  · exact h

theorem Lane.Stays.calGo (h : l.Stays may t) : l.Stays may t.calGo := .pw h

theorem Lane.Stays.calPass {n : Nat} (h : l.Stays may t) : l.Stays may (t.calPass n) :=
  .ite (.sleepDown (.event (.set (.wr h)))) (.event (.set (.wr h)))

theorem Lane.Stays.calFail {n : Nat} (h : l.Stays may t) : l.Stays may (t.calFail n) :=
  .ite (.event (.set (.sleepUndo (.event (.raise (.set h)))))) (.event (.raise (.set h)))

theorem Lane.Stays.calEnd {n : Nat} (h : l.Stays may t) : l.Stays may (t.calEnd n) := .ite (.ite (.calPass (.pw h)) (.calFail (.pw h))) h

/-- The lane as a root loss leaves it, after its message and its stops. -/
theorem Lane.Stays.lost (h : l.Stays may t) :
    l.Stays may { t with pw := { t.pw with rootLost := true, kaAo := false }, tt := { t.tt with ntRun := false } } := h.of rfl rfl

theorem Lane.Stays.rootLoss {det : Bool} (h : l.Stays may t) : l.Stays may (t.rootLoss det) := by
  have hb : l.Stays may ((t.raise srcCK 1 clsFT none (if det then 1 else 0)).ntRebase.tickStop.clr CK_STAT_LOCK) :=
    .clr (.tickStop (.ntRebase (.raise h)))
  exact .ite h (.lost hb)

theorem Lane.Stays.freqCheck {n : Nat} (h : l.Stays may t) : l.Stays may (t.freqCheck n) := .ite h (.ite (.raise (.wr (.pw h))) (.wr (.pw h)))

theorem Lane.Stays.inAo {f : Lane → Lane} (h : l.Stays may t) (hf : ∀ k, l.Stays may k → l.Stays may (f k)) : l.Stays may (t.inAo f) :=
  .ite (.ite h (.pw (.setFld (.setFld h)))) (hf _ h)

/-! #### Sys2Proof/Machine/Modes.lean -/

theorem Lane.Stays.modeFollow (h : l.Stays may t) : l.Stays may t.modeFollow := .tokenCheck (.glShares (.perAxis h))

theorem Lane.Stays.axesSafe {cause : Nat} (h : l.Stays may t) : l.Stays may (t.axesSafe cause) := .each h fun _ _ hk => .axisSafe hk

theorem Lane.Stays.postureWrite (h : l.Stays may t) : l.Stays may t.postureWrite :=
  .each (.wr (.wr h)) fun _ _ hk => .wr (.wr hk (deliverOf_addr _)) (postureOf_addr _)

theorem Lane.Stays.establish (h : l.Stays may t) : l.Stays may t.establish := .ite (.event (.set h)) h

theorem Lane.Stays.heldAxes (h : l.Stays may t) : l.Stays may t.heldAxes := .ite (.each h (fun _ _ hk => .ite (.holdAxis hk) hk)) h

theorem Lane.Stays.postureStep (h : l.Stays may t) : l.Stays may t.postureStep :=
  .heldAxes (.ite (.postureWrite (.establish h)) (.when (.event (.postureWrite (.establish h))) (fun _ hk => .raise hk)))

theorem Lane.Stays.newCycle (h : l.Stays may t) : l.Stays may t.newCycle := .fc h

theorem Lane.Stays.otpBurn {x : OtpWrite} (h : l.Stays may t) : l.Stays may (t.otpBurn x) := by
  unfold Lane.otpBurn
  split
  · exact .wr h
  · exact .each (.put (.put (.set h (by decide)) (by decide)) (by decide)) fun _ _ hk => .wr hk
  · exact .set h (by decide)

/-! A BOOT entry. -/

theorem Lane.enterBootAt_fc (l : Lane) (straps : Nat) : (l.enterBootAt straps).fc = {} := by
  have hreset : l.otpResolve.resetBase.fc = {} := rfl
  have hcore : (l.bootBase straps).fc = l.otpResolve.coreReset.fc := by simp only [Lane.bootBase]
  have hbase : (l.bootBase straps).fc = {} := hcore.trans ((Lane.ResetPart.coreReset l.otpResolve).fc.trans hreset)
  have hshown : ((l.bootBase straps).showMode.put SY_IMGSTAT_SRC (l.bootBase straps).fromQspi).fc = {} :=
    ((Lane.ResetPart.showMode _).trans (Lane.ResetPart.wr _ _ _ (by decide))).fc.trans hbase
  unfold Lane.enterBootAt
  dsimp only
  split
  · exact ((Lane.ResetPart.stResult _ _ _ _ _).trans (Lane.ResetPart.wr _ _ _ (by decide))).fc.trans hshown
  · exact hshown

theorem Lane.Stays.enterBootAt {straps : Nat} (h : l.Stays true t) (ht : t.mayRestart = true) : l.Stays true (t.enterBootAt straps) :=
  h.boots ht (t.enterBootAt_bootAt straps).mode (by rw [Lane.enterBootAt_fc])

theorem Lane.Stays.enterBoot (h : l.Stays true t) (ht : t.mayRestart = true) : l.Stays true t.enterBoot := .enterBootAt h ht

theorem Lane.Stays.restart (h : l.Stays true t) (ht : t.mayRestart = true) : l.Stays true t.restart :=
  .ite (.wrAbove (.enterBoot h ht) (by decide)) (.enterBoot h ht)

/-- An auto-restart stands in SAFE-HOLD alone. -/
theorem Lane.mayRestart_of_autoStands (h : t.autoStands = true) : t.mayRestart = true := by
  simp only [Lane.autoStands, Bool.and_eq_true] at h
  exact Lane.mayRestart_iff.mpr (.inl (decide_eq_true_eq.mp h.2))

theorem Lane.Stays.dumpOver (h : l.Stays true t) : l.Stays true t.dumpOver := by
  unfold Lane.dumpOver
  split
  case isTrue hc =>
    rw [Bool.or_eq_true, Bool.and_eq_true] at hc
    exact .restart h (hc.elim Lane.mayRestart_of_autoStands (·.2))
  case isFalse => exact h

/-! #### Sys2Proof/Machine/Fault.lean -/

theorem Lane.Stays.latchMsg {m : Word} (h : l.Stays may t) : l.Stays may (t.latchMsg m) := by
  unfold Lane.latchMsg
  extract_lets _ a b c d
  have ha : l.Stays may a := .fc h
  have hb : l.Stays may b := .ite (.set ha) ha
  have hc : l.Stays may c := .bump hb (classCnt_addr _)
  have hd : l.Stays may d := .ite (.event hc) hc
  exact .ite (.ite hd (.event (.set hd))) (.event (.set (.wr (.wr hd))))

theorem Lane.Stays.capture {m : Word} (h : l.Stays may t) : l.Stays may (t.capture m) := .fc (.set (.wr (.wr h)))

theorem Lane.Stays.dumpHand {why : Nat} (h : l.Stays may t) : l.Stays may (t.dumpHand why) := .clr (.fc h)

theorem Lane.Stays.dumpChoose {m : Word} (h : l.Stays may t) : l.Stays may (t.dumpChoose m) := .ite (.dumpHand h) (.ite (.dumpHand h) (.fc h))

theorem Lane.Stays.coresStop (h : l.Stays may t) : l.Stays may t.coresStop := .pc h

theorem Lane.Stays.fatalStop {m : Word} (h : l.Stays may t) : l.Stays may (t.fatalStop m) := by
  unfold Lane.fatalStop
  extract_lets a b c
  have ha : l.Stays may a := .lantStop (.progNext (.sliceAbort (.progAbort h)))
  have hb : l.Stays may b := .ite (.lantLow ha) ha
  have hc : l.Stays may c := .glWithdraw hb
  exact hc.of rfl rfl

theorem Lane.Stays.fatalAgain {m : Word} (h : l.Stays may t) : l.Stays may (t.fatalAgain m) := .ite (.dumpHand h) h

theorem Lane.Stays.rearm (h : l.Stays may t) : l.Stays may t.rearm := by
  unfold Lane.rearm
  split
  · exact .ite (.clr h) (.ite h (.event (.put (.set (.wr (.wr (.fc h)))))))
  · exact .clr h

theorem Lane.Stays.fcCntClr (h : l.Stays may t) : l.Stays may t.fcCntClr := .setFld (.setFld h)

theorem Lane.Stays.injectGo {supp : Bool} (h : l.Stays may t) : l.Stays may (t.injectGo supp) := .ite (.present h) h

theorem Lane.Stays.busError (h : l.Stays may t) : l.Stays may t.busError := .of h rfl rfl

theorem Lane.Stays.eccError {m : EccMem} {corrected : Bool} {a : Nat} (h : l.Stays may t) : l.Stays may (t.eccError m corrected a) := by
  unfold Lane.eccError
  split
  · exact .ite (.raiseOnce h) (.raise h)
  · exact .ite (.raiseOnce h) (.busError (.raise h))
  · exact .ite (.event (.raiseOnce h)) (.busError (.event (.raise h)))

/-! #### Sys2Proof/Machine/LifeCycle.lean -/

theorem Lane.Stays.lcEnd {r : Nat} (h : l.Stays may t) : l.Stays may (t.lcEnd r) := .clr (.wr h)

theorem Lane.Stays.lcResult {r : Nat} (h : l.Stays may t) : l.Stays may (t.lcResult r) := .event (.lcEnd h)

theorem Lane.Stays.lcRefuse {r : Nat} (h : l.Stays may t) : l.Stays may (t.lcRefuse r) := .raise (.lcResult h)

theorem Lane.Stays.otpStart {w : OtpWrite} (h : l.Stays may t) : l.Stays may (t.otpStart w) := .set (.lc h)

theorem Lane.Stays.returnRequest (h : l.Stays may t) : l.Stays may t.returnRequest := by
  unfold Lane.returnRequest
  split
  · exact .otpStart h
  · exact .raise (.lcResult h)

theorem Lane.Stays.lcGo {target : Nat} (h : l.Stays may t) : l.Stays may (t.lcGo target) :=
  .ite h (.ite (.lcRefuse h) (.ite (.ite (.lcRefuse h) (.otpStart h)) (.ite (.returnRequest h) (.ite (.otpStart h) (.lcRefuse h)))))

theorem Lane.Stays.lcAdv (h : l.Stays may t) : l.Stays may t.lcAdv := .ite h (.ite (.ite (.otpStart h) (.lcRefuse h)) (.lcRefuse h))

theorem Lane.Stays.lcTerm (h : l.Stays may t) : l.Stays may t.lcTerm := .ite h (.otpStart h)

theorem Lane.Stays.keyProg {k : Nat} {img rtn : Bool} {hash : List Byte} (h : l.Stays may t) : l.Stays may (t.keyProg k img rtn hash) :=
  .ite (.otpStart h) h

theorem Lane.Stays.keyRev {k : Nat} (h : l.Stays may t) : l.Stays may (t.keyRev k) := .ite (.otpStart h) h

theorem Lane.Stays.otpFail {x : OtpWrite} (h : l.Stays may t) : l.Stays may (t.otpFail x) := by
  unfold Lane.otpFail
  split
  · exact .lcRefuse h
  · exact .raise (.lcEnd h)

theorem Lane.Stays.ftmOn (h : l.Stays may t) : l.Stays may t.ftmOn := .ite (.set h) h

theorem Lane.Stays.sweepBoot (h : l.Stays true t) (ht : t.mayRestart = true) : l.Stays true t.sweepBoot := .enterBoot (.st h) ht

theorem Lane.Stays.stSweep (h : l.Stays true t) : l.Stays true t.stSweep := by
  unfold Lane.stSweep
  split
  case isTrue hc =>
    simp only [Bool.and_eq_true] at hc
    exact .sweepBoot h (Lane.mayRestart_iff.mpr (.inr (decide_eq_true_eq.mp hc.1)))
  case isFalse => exact h

/-! #### Sys2Proof/Machine/Modulator.lean -/

theorem Lane.Stays.lateWrite {x : Ax} (h : l.Stays may t) : l.Stays may (t.lateWrite x) := by
  unfold Lane.lateWrite
  split
  · exact .ite (.eventAx (.set h)) h
  · exact h

theorem Lane.Stays.markDirty {x : Ax} (h : l.Stays may t) : l.Stays may (t.markDirty x) := .setMd h

theorem Lane.Stays.stageWrite {x : Ax} {r : StageReg} {v : Nat} (h : l.Stays may t) : l.Stays may (t.stageWrite x r v) := by
  unfold Lane.stageWrite
  split
  · exact .ite (.bump h) (.ite h (.lateWrite (.markDirty (.wr h))))
  · exact .ite (.lateWrite (.markDirty (.wr h (cmpR_addr x _)))) (.bump h)
  · exact .ite (.lateWrite (.markDirty (.wr h (cmpF_addr x _)))) (.bump h)

theorem Lane.Stays.stageFlags {x : Ax} (h : l.Stays may t) : l.Stays may (t.stageFlags x) := by
  unfold Lane.stageFlags
  split
  · exact .put (.set h)
  · exact .clr (.clr h)

theorem Lane.Stays.fillCommitted {x : Ax} {g : Grp} (h : l.Stays may t) : l.Stays may (t.fillCommitted x g) := .stageFlags (.setMd h)

theorem Lane.Stays.modCommit {x : Ax} (h : l.Stays may t) : l.Stays may (t.modCommit x) := by
  unfold Lane.modCommit
  extract_lets a _ b
  have ha : l.Stays may a := .lateWrite h
  have hb : l.Stays may b := .setMd ha
  exact .ite (.fillCommitted hb) (.ite (.ite (.fillCommitted hb) (.eventAx (.raiseOnce (.set hb)))) (.fillCommitted hb))

theorem Lane.Stays.modDuties {x : Ax} {a b c : Nat} (h : l.Stays may t) : l.Stays may (t.modDuties x a b c) :=
  .ite (.modCommit (.wr (.wr (.wr h)))) h

theorem Lane.Stays.modDiscard {x : Ax} (h : l.Stays may t) : l.Stays may (t.modDiscard x) :=
  .stageFlags (.each (.each (.wr (.setMd h)) (fun _ _ hk => .wr (.wr hk (cmpR_addr x _)) (cmpF_addr x _))) (fun _ _ hk => .wr hk))

theorem Lane.Stays.modProfile {x : Ax} (h : l.Stays may t) : l.Stays may (t.modProfile x) :=
  .ite (.lateWrite (.markDirty (.wr h))) (.ite (.lateWrite (.fillCommitted (.wr h))) h)

theorem Lane.Stays.modCntClr {x : Ax} (h : l.Stays may t) : l.Stays may (t.modCntClr x) := .setFld (.setFld (.wr h))

theorem Lane.Stays.passMasks {x : Ax} {v k : Nat} (h : l.Stays may t) : l.Stays may (t.passMasks x v k) :=
  .ite (.eventAx (.raiseOnce (.set (.wr (.wr (.setMd h)))))) (.wr (.wr (.setMd h)))

theorem Lane.Stays.splitPeriod {x : Ax} {peak : Bool} (h : l.Stays may t) : l.Stays may (t.splitPeriod x peak) := .setMd (.gateMark h)

theorem Lane.Stays.stateDemand {x : Ax} {v : Nat} (h : l.Stays may t) : l.Stays may (t.stateDemand x v) := .setMd (.gateMark h)

theorem Lane.Stays.transfer {x : Ax} {g : Grp} {peak : Bool} (h : l.Stays may t) : l.Stays may (t.transfer x g peak) := by
  unfold Lane.transfer
  extract_lets _ _ _ a b c d e f p u
  have ha : l.Stays may a := .setMd h
  have hb : l.Stays may b := .wr ha
  have hc : l.Stays may c := .each hb fun _ _ hk => .wr (.wr hk (actR_addr x _)) (actF_addr x _)
  have hd : l.Stays may d := .wr (.wr hc)
  have he : l.Stays may e := .bump hd
  have hf : l.Stays may f := .raiseOnce he
  have hp : l.Stays may p := .ite (.ite hf (.eventAx hf)) hd
  have hu : l.Stays may u := .stageFlags hp
  exact .ite hu (.passMasks hu)

theorem Lane.Stays.unpaired {x : Ax} (h : l.Stays may t) : l.Stays may (t.unpaired x) := .ite (.eventAx (.raiseOnce (.bump (.setMd h)))) (.setMd h)

theorem Lane.Stays.passStep {x : Ax} (h : l.Stays may t) : l.Stays may (t.passStep x) := by
  unfold Lane.passStep
  split
  · exact h
  · exact .ite (.setMd h) (.leSettle (.eventAx (.commChange (.setMd h) (fun _ hk => .when (.put (.put hk)) (fun _ hk => .commHall hk)))))

theorem Lane.Stays.valleyStep {x : Ax} (h : l.Stays may t) : l.Stays may (t.valleyStep x) := .setMd (.passStep (.tripValley (.interlockEnd h)))

theorem Lane.Stays.modReload {x : Ax} {peak : Bool} (h : l.Stays may t) : l.Stays may (t.modReload x peak) := by
  unfold Lane.modReload
  extract_lets a _ _ b c d e f
  have ha : l.Stays may a := .splitPeriod h
  have hb : l.Stays may b := .setAd ha
  have hc : l.Stays may c := .setMd hb
  have hd : l.Stays may d := .ite hc (.valleyStep hc)
  have he : l.Stays may e := .unpaired hd
  have hf : l.Stays may f := by
    dsimp only [f]
    split
    · exact .ite he (.transfer he)
    · exact he
  exact .ite hf (.setMd hf)

theorem Lane.Stays.carrierStart {x : Ax} (h : l.Stays may t) : l.Stays may (t.carrierStart x) :=
  .when (.setMd (.setAd (.wr (.gateMark h)))) fun _ hk => .stateDemand hk

theorem Lane.Stays.hrcalNow {x : Ax} (h : l.Stays may t) : l.Stays may (t.hrcalNow x) := by
  unfold Lane.hrcalNow
  split
  · exact .wr h
  · exact .wr h

theorem Lane.Stays.hrCal {x : Ax} {ok : Bool} {taps : Nat} (h : l.Stays may t) : l.Stays may (t.hrCal x ok taps) :=
  .ite (.clr (.setMd (.wr h))) (.eventAx (.raise (.hrcalNow (.set (.set (.wr h))))))

/-! #### Sys2Proof/Machine/Loop.lean -/

theorem Lane.Stays.leOvf {x : Ax} {o : Bool} (h : l.Stays may t) : l.Stays may (t.leOvf x o) := .ite (.eventAx (.raiseOnce (.set h))) h

theorem Lane.Stays.slAlignStart {x : Ax} (h : l.Stays may t) : l.Stays may (t.slAlignStart x) := .slSet (.setTq h)

theorem Lane.Stays.lockLost {x : Ax} {ell : Q} {tried : Bool} (h : l.Stays may t) : l.Stays may (t.lockLost x ell tried) :=
  .axisSafe (.raise (.leOvf h))

theorem Lane.Stays.catchOrAsc {x : Ax} {w vdc : Q} {again : Bool} (h : l.Stays may t) : l.Stays may (t.catchOrAsc x w vdc again) :=
  .ite (.leSettle (.slSet (.setTq (.leOvf h)))) (.lockLost h)

theorem Lane.Stays.slBegin {x : Ax} {vdc : Q} {entering : Bool} (h : l.Stays may t) : l.Stays may (t.slBegin x vdc entering) :=
  .ite h (.ite (.slAlignStart h) (.ite (.ite (.slSet h) (.ite (.slAlignStart h) (.catchOrAsc h))) h))

theorem Lane.Stays.rampStep {x : Ax} {dt : Q} (h : l.Stays may t) : l.Stays may (t.rampStep x dt) := .ite (.leOvf (.setTq h)) h

theorem Lane.Stays.leRequest {x : Ax} (h : l.Stays may t) : l.Stays may (t.leRequest x).1 := by
  have hreq : ∀ s : LeSt, l.Stays may (t.setLe x s) := fun s => .setLe h
  unfold Lane.leRequest
  dsimp only
  split
  · exact h
  · split
    · exact .bump (hreq _)
    · exact .eventAx (.setLe (.wr (.openStop (hreq _))))
  · split
    · exact .slLeave (.eventAx (.openStart (.wr (.ite (.wrS (hreq _)) (.wrS (.wrS (hreq _)))))))
    · exact hreq _

theorem Lane.Stays.leClamps {x : Ax} {r : LeRef} (h : l.Stays may t) : l.Stays may (t.leClamps x r) := by
  unfold Lane.leClamps
  extract_lets _ _ a b c d e f
  have ha : l.Stays may a := .when h fun _ hk => .bump hk
  have hb : l.Stays may b := .when ha fun _ hk => .bump hk
  have hc : l.Stays may c := .when hb fun _ hk => .bump hk
  have hd : l.Stays may d := .when hc fun _ hk => .bump hk
  have he : l.Stays may e := .when hd fun _ hk => .raiseOnce hk
  have hf : l.Stays may f := .when he fun _ hk => .eventAx hk
  exact .setLe hf

theorem Lane.Stays.leObserve {x : Ax} (h : l.Stays may t) : l.Stays may (t.leObserve x) :=
  .wrS (.wrS (.wrS (.wrS (.wrS (.wrS (.wrS (.wrS (.wrS (.wrS h)))))))))

theorem Lane.Stays.leRefStep {x : Ax} {p : Posn} (h : l.Stays may t) : l.Stays may (t.leRefStep x p) :=
  .leOvf (.leObserve (.leClamps (.wq (.when (.put (.put (.put (.put (.setLe h))))) (fun _ hk => .set hk)))))

theorem Lane.Stays.leOutStep {x : Ax} {v : AdVals} {p : Posn} {entering : Bool} (h : l.Stays may t) :
    l.Stays may (t.leOutStep x v p entering).1 := by
  unfold Lane.leOutStep
  exact .leOvf (.put (.wq (.wq (.wq (.wq (.setLe h))))))

theorem Lane.Stays.leRollback {x : Ax} {output : Bool} (h : l.Stays may t) : l.Stays may (t.leRollback x output) := by
  unfold Lane.leRollback
  extract_lets a _ _ b _ c d
  have ha : l.Stays may a := .when h fun _ hk => .set hk
  have hb : l.Stays may b := .bump ha
  have hc : l.Stays may c := .setLe hb
  have hd : l.Stays may d := .eventAx (.raise hc)
  exact .ite (.slFail (.eventAx (.wr (.openStop (.raise hd))))) hd

theorem Lane.Stays.noteSensor {x : Ax} {p : Posn} (h : l.Stays may t) : l.Stays may (t.noteSensor x p) := .ite (.setTq h) h

theorem Lane.Stays.leSnap {x : Ax} (h : l.Stays may t) : l.Stays may (t.leSnap x) := .setLe h

theorem Lane.Stays.leRestore {x : Ax} (h : l.Stays may t) : l.Stays may (t.leRestore x) := by
  unfold Lane.leRestore
  dsimp only
  split
  · exact h
  · exact .leSettle (.eachOf (.setLe h) fun _ e he hk => .setReg hk (leSnapFlds_addr x e.1 (List.of_mem_zip he).1))

theorem Lane.Stays.leLatch {x : Ax} {cmp : Compare} (h : l.Stays may t) : l.Stays may (t.leLatch x cmp) :=
  .ite h (.leSnap (.when h (fun _ hk => .leRollback (.leRestore hk))))

theorem Lane.Stays.lePeriod {x : Ax} {c : AdcCodes} {cmp : Compare} (h : l.Stays may t) : l.Stays may (t.lePeriod x c cmp) := by
  unfold Lane.lePeriod
  split
  · exact h
  · extract_lets _ a _ b
    have hb : l.Stays may b := .leLatch (.noteSensor (.adSample (.srcSelect h)))
    split
    · exact hb
    · have hr : l.Stays may (b.leRequest x).1 := .leRequest hb
      dsimp only
      split
      · exact .rampStep (.leRollback hb)
      · exact .rampStep (.leRollback (.modDuties hb))
      · exact .rampStep (.leRollback (.modDuties hb))
      · exact .rampStep (.leRefStep (.modDuties (.leOutStep (.slBegin hr))))

theorem Lane.Stays.leTick {x : Ax} {cmp : Compare} (h : l.Stays may t) : l.Stays may (t.leTick x cmp) := by
  unfold Lane.leTick
  extract_lets a _ b
  have hb : l.Stays may b := .leLatch (.noteSensor (.srcSelect h))
  split
  · exact hb
  · have hr : l.Stays may (b.leRequest x).1 := .leRequest hb
    dsimp only
    exact .ite (.setTq (.leRefStep (.slBegin hr))) (.leRollback hb)

theorem Lane.Stays.reload {x : Ax} {peak : Bool} {cmp : Compare} (h : l.Stays may t) : l.Stays may (t.reload x peak cmp) :=
  .ite (.ite (.leTick (.modReload h)) (.modReload h)) h

theorem Lane.Stays.leOpenReq {x : Ax} (h : l.Stays may t) : l.Stays may (t.leOpenReq x) := .ite (.setLe h) h

theorem Lane.Stays.leCloseReq {x : Ax} (h : l.Stays may t) : l.Stays may (t.leCloseReq x) :=
  .ite h (.ite (.bump h) (.setLe (.when (.openStop h) (fun _ hk => .set hk))))

theorem Lane.Stays.leIntClr {x : Ax} (h : l.Stays may t) : l.Stays may (t.leIntClr x) := .ite (.setLe h) (.owReject h)

theorem Lane.Stays.leCntClr {x : Ax} (h : l.Stays may t) : l.Stays may (t.leCntClr x) := .setFld (.wr (.setFld h))

theorem Lane.Stays.leOpenMax {x : Ax} (h : l.Stays may t) : l.Stays may (t.leOpenMax x) := by
  unfold Lane.leOpenMax
  split
  · exact .ite (.axisSafe (.eventAx (.raise (.wr (.openStop h))))) h
  · exact h

theorem Lane.Stays.leRefuse {x : Ax} {a lo w : Nat} (h : l.Stays may t)
    (ha : SY_MODE_OWN.addr ≠ a := by simp only [SY_MODE_OWN]; omega) : l.Stays may (t.leRefuse x ⟨a, lo, w⟩) := .eventAx (.bump h ha)

theorem Lane.Stays.leOwWrite {x : Ax} {a n : Nat} {v : Word} (h : l.Stays may t) : l.Stays may (t.leOwWrite x a n v) := by
  unfold Lane.leOwWrite
  split
  · exact .ite (.setBytes h) (.owReject h)
  · split
    case h_1 hb _ =>
      exact .ite h (.ite (.leRefuse h) (.ite (.ite h (.leRefuse h)) (.ite (.owReject h)
        (.ite (.setReg h (syMode_ne_of_block hb (by decide))) (.leRefuse h)))))
    case h_2 => exact h

theorem Lane.Stays.fwdReject {a : Nat} (h : l.Stays may t) : l.Stays may (t.fwdReject a) := .raiseOnce (.set h)

theorem Lane.Stays.leLvWrite {x : Ax} {r : LvReg} {n : Nat} {v : Word} (h : l.Stays may t) : l.Stays may (t.leLvWrite x r n v) :=
  .ite (.fwdReject h) (.ite (.leRefuse h) (.setReg h (lvAddr_ne r x)))

/-! #### Sys2Proof/Machine/Loader.lean -/

theorem Lane.Stays.copySlot {src : LoadSrc} {n : Nat} (h : l.Stays may t) : l.Stays may (t.copySlot src n) := .ite (.setBytes h) h

theorem Lane.Stays.copyFirmware {src : LoadSrc} {rs : List Rec} (h : l.Stays may t) : l.Stays may (t.copyFirmware src rs) := by
  unfold Lane.copyFirmware
  split
  · exact .ite (.setBytes h) h
  · exact h

theorem Lane.Stays.trySlot {src : LoadSrc} {n : Nat} (h : l.Stays may t) : l.Stays may (t.trySlot src n).1 := by
  have hcopy : l.Stays may (t.copySlot src n) := .copySlot h
  unfold Lane.trySlot
  dsimp only
  split
  · exact hcopy
  · split
    · exact hcopy
    · split
      · exact hcopy
      · exact .copyFirmware hcopy

theorem Lane.Stays.imgReport {n : Nat} {r : Option Rej} (h : l.Stays may t) : l.Stays may (t.imgReport n r) := .setFld (.setFld h)

theorem Lane.Stays.imgClear (h : l.Stays may t) : l.Stays may t.imgClear := .each h fun _ _ hk => .setFld (.setFld hk)

theorem Lane.Stays.loadPosAdj {x : Ax} (h : l.Stays may t) : l.Stays may (t.loadPosAdj x) := .posAdj (.setFld h)

theorem Lane.Stays.loadSettle (h : l.Stays may t) : l.Stays may t.loadSettle :=
  .tripsStanding (.hqEnd (.each h (fun _ _ hk => .hallsStanding (.loadPosAdj hk))))

theorem Lane.Stays.loadRegs {rs : List Rec} (h : l.Stays may t) : l.Stays may (t.loadRegs rs) := by
  unfold Lane.loadRegs
  extract_lets a _ b c d e f g
  have hb : l.Stays may b := .eachOf h fun _ a ha hk => .setReg hk (syMode_ne_of_load (List.mem_filter.mp ha).2)
  have hc : l.Stays may c := .each hb fun _ _ hk => .setByte hk
  have hd : l.Stays may d := .each hc fun _ _ hk => .put hk
  have he : l.Stays may e := .each hd fun _ _ hk => .put hk (by decide)
  have hf : l.Stays may f := .each he fun _ _ hk => .timerArm hk
  have hg : l.Stays may g := .when hf fun _ hk => .pw hk
  exact .loadSettle hg

theorem Lane.Stays.loadImage {n : Nat} {fallback : Bool} {rs : List Rec} {us : Nat} (h : l.Stays may t) :
    l.Stays may (t.loadImage n fallback rs us) := by
  unfold Lane.loadImage
  extract_lets _ _ a b c d e
  have ha : l.Stays may a := .partnersInit (.loadRegs h)
  have hb : l.Stays may b := .set (.wr (.put (.wr ha)))
  have hc : l.Stays may c := .wr (.wr hb)
  have hd : l.Stays may d := .each hc fun _ _ hk => .wr hk
  have he : l.Stays may e := .setBytes hd
  clear_value a b c d e
  exact he.of rfl rfl

theorem Lane.Stays.bootStay (h : l.Stays may t) : l.Stays may t.bootStay := .im h

theorem Lane.Stays.trySlots {src : LoadSrc} {ns : List Nat} {fallback : Bool} {cost : Nat} (h : l.Stays may t) :
    l.Stays may (t.trySlots src ns fallback cost) := by
  induction ns generalizing t fallback cost with
  | nil => exact .bootStay h
  | cons n r ih =>
    have htry : l.Stays may ((t.trySlot src n).1.imgReport n (t.trySlot src n).2.rej) := .imgReport (.trySlot h)
    rw [Lane.trySlots_cons]
    dsimp only
    split
    · exact ih htry
    · exact .loadImage (.ite (.fresh htry) htry)

theorem Lane.Stays.imageLoad {flash : List (Nat × List Byte)} (h : l.Stays may t) : l.Stays may (t.imageLoad flash) :=
  .ite h (.trySlots (.each (.imgClear h) (fun _ _ hk => .imgReport hk)))

/-! #### Sys2Proof/Machine/StartUp.lean -/

theorem Lane.Stays.armBoundary (h : l.Stays may t) : l.Stays may t.armBoundary :=
  .ite (.put (.ite (.armProofs h) (.proofPass (.armProofs h) (fun _ hk => .event (.put hk))))) h

theorem Lane.Stays.armTimeout (h : l.Stays may t) : l.Stays may t.armTimeout :=
  .ite (.ite (.armProofs h) (.ite (.armProofs h) (.raise (.sy (.armProofs h))))) h

theorem Lane.Stays.bootLock (h : l.Stays may t) : l.Stays may t.bootLock :=
  .ite (.pmBoot (.im (.pw (.calGo (.wr (.set h)))))) (.bootNext (.pw (.calGo (.wr (.set h)))))

theorem Lane.Stays.pllLock (h : l.Stays may t) : l.Stays may t.pllLock := .ite (.bootLock h) (.ite (.wakeLock h) h)

theorem Lane.Stays.sweepEnd {fails : Nat} (h : l.Stays may t) : l.Stays may (t.sweepEnd fails) := .ite (.bootLoad (.sweepResults h)) h

theorem Lane.Stays.dieClear {x : Ax} (h : l.Stays may t) : l.Stays may (t.dieClear x) :=
  .gateSettle (.setGd (.wr (.clr (.wr (.clr (.wr (.clr h)))))))

theorem Lane.Stays.regCheck (h : l.Stays may t) : l.Stays may t.regCheck := .ite (.pmRequest h) h

theorem Lane.Stays.gdCheckStart (h : l.Stays may t) : l.Stays may t.gdCheckStart := .im h

theorem Lane.Stays.lockImage (h : l.Stays may t) : l.Stays may t.lockImage := .ite (.dieLoad (.set (.im h))) (.wr (.dieLoad (.set (.im h))))

theorem Lane.Stays.proofStart (h : l.Stays may t) : l.Stays may t.proofStart :=
  .armProofs (.injQueue (.each (.gdCheckStart (.regCheck h)) (fun _ _ hk => .safLevels hk)))

theorem Lane.Stays.gdCheckEnd {x : Ax} {comp : Nat} {gate : Bool} (h : l.Stays may t) : l.Stays may (t.gdCheckEnd x comp gate) :=
  .ite (.ite (.provenBy (.im h) (gdProof_addr x)) (.event (.raise (.set (.wr (.im h) (by decide)) (gdFail_addr x))))) h

theorem Lane.Stays.vbatLow (h : l.Stays may t) : l.Stays may t.vbatLow := .ite (.sy h) h

/-! #### Sys2Proof/Machine/Table.lean -/

theorem Lane.Stays.tqCount {x : Ax} {legs : Nat} (h : l.Stays may t) : l.Stays may (t.tqCount x legs) := .ite (.setTq h) (.setTq (.wr h))

theorem Lane.Stays.tqSwitch {x : Ax} {o : TqOut} {first : Bool} (h : l.Stays may t) : l.Stays may (t.tqSwitch x o first) := by
  unfold Lane.tqSwitch
  extract_lets _ _ _ _ _ _ a b c _ _ _ _ _ _ _ d _ e f
  have ha : l.Stays may a := .leOvf h
  have hb : l.Stays may b := .wr (.wr ha)
  have hc : l.Stays may c := .setTq (.wr hb)
  have hd : l.Stays may d := .when (.put hc) fun _ hk => .raiseOnce hk
  have he : l.Stays may e := .leOvf (.setTq hd)
  have hf : l.Stays may f := .when he fun _ hk => .stateDemand hk
  exact .ite (.stateDemand (.tqCount (.setTq (.wr (.clr hc))))) (.tqCount (.wr hf))

theorem Lane.Stays.tqLock {x : Ax} {clean : Bool} {vdc : Q} (h : l.Stays may t) : l.Stays may (t.tqLock x clean vdc) :=
  .ite (.set (.setTq h)) (.ite (.ite (.catchOrAsc (.eventAx (.bump (.clr (.setTq h))))) (.clr (.setTq h))) (.setTq h))

theorem Lane.Stays.tqHandover {x : Ax} (h : l.Stays may t) : l.Stays may (t.tqHandover x) := by
  unfold Lane.tqHandover
  dsimp only
  split
  · exact .ite (.slSet (.setTq (.leOvf (.setLe (.when h (fun _ hk => .set hk)))))) h
  · exact h

theorem Lane.Stays.tqPosition {x : Ax} {before : Int} (h : l.Stays may t) : l.Stays may (t.tqPosition x before) := .posSettle (.setFb h)

theorem Lane.Stays.tqRollback {x : Ax} (h : l.Stays may t) : l.Stays may (t.tqRollback x) :=
  .when (.eventAx (.raise (.setTq (.bump (.set h))))) fun _ hk => .raise hk

theorem Lane.Stays.tqDecision {x : Ax} {c : AdcCodes} {ext : Nat} {mm : Bool} (h : l.Stays may t) : l.Stays may (t.tqDecision x c ext mm) := by
  unfold Lane.tqDecision
  split
  · extract_lets _ _ a _ _ _ _ _ _ b c d e
    have ha : l.Stays may a := .adTake (.when h (fun _ hk => .gateMark hk))
    have hb : l.Stays may b := .setTq ha
    have hc : l.Stays may c := .when hb fun _ hk => .rampStep (.setAd hk)
    have hd : l.Stays may d := .ite (.tqSwitch hc) (.wr hc)
    have he : l.Stays may e := .tqLock (.tqPosition (.leOvf hd))
    exact .ite (.tqRollback ha) (.slBegin (.tqHandover he))
  · exact .setTq h

theorem Lane.Stays.tqObserve {x : Ax} (h : l.Stays may t) : l.Stays may (t.tqObserve x) :=
  .wrS (.wrS (.wrS (.wrS (.wrS (.wrS (.wrS (.when h (fun _ hk => .wrS (.wrS (.wrS (.wrS hk)))))))))))

theorem Lane.Stays.alignExpiry {x : Ax} (h : l.Stays may t) : l.Stays may (t.alignExpiry x) := .ite (.slSet (.setTq h)) h

theorem Lane.Stays.holdExpiry {x : Ax} (h : l.Stays may t) : l.Stays may (t.holdExpiry x) := by
  unfold Lane.holdExpiry
  dsimp only
  split
  · exact .ite (.axisSafe (.raise (.setTq h))) h
  · exact h

theorem Lane.Stays.lowExpiry {x : Ax} (h : l.Stays may t) : l.Stays may (t.lowExpiry x) := by
  unfold Lane.lowExpiry
  dsimp only
  split
  · exact .ite (.slAlignStart h) h
  · exact h

theorem Lane.Stays.catchTimeout {x : Ax} (h : l.Stays may t) : l.Stays may (t.catchTimeout x) := .ite (.lockLost h) h

theorem Lane.Stays.catchDone {x : Ax} {phi w al be : Q} {elapsed : Nat} (h : l.Stays may t) : l.Stays may (t.catchDone x phi w al be elapsed) :=
  .gateSettle (.slSet (.eventAx (.raise (.leOvf (.when (.bump (.set (.set (.setTq h)))) (fun _ hk => .set hk))))))

theorem Lane.Stays.catchPulse {x : Ax} {c : AdcCodes} (h : l.Stays may t) : l.Stays may (t.catchPulse x c) :=
  .ite (.ite (.lockLost (.leOvf (.adTake h))) (.ite (.catchDone (.leOvf (.setTq (.leOvf (.adTake h))))) (.leOvf (.setTq (.leOvf (.adTake h)))))) h

theorem Lane.Stays.tqOwWrite {x : Ax} {a n : Nat} {v : Word} (h : l.Stays may t) : l.Stays may (t.tqOwWrite x a n v) := by
  unfold Lane.tqOwWrite
  split
  case h_1 hb _ =>
    exact .ite h (.ite (.bump h) (.ite (.ite h (.bump h)) (.ite (.raiseOnce (.bump h))
      (.ite (.setReg h (syMode_ne_of_block hb (by decide))) (.bump h)))))
  case h_2 => exact h

theorem Lane.Stays.tqCntClr {x : Ax} (h : l.Stays may t) : l.Stays may (t.tqCntClr x) := .wr (.wr (.setFld h))

/-! #### Sys2Proof/Machine/Boundary.lean -/

theorem Lane.Stays.degCount (h : l.Stays may t) : l.Stays may t.degCount := .sy (.wr h)

theorem Lane.Stays.setRise {x : Ax} {v : Int} (h : l.Stays may t) : l.Stays may (t.setRise x v) := by
  unfold Lane.setRise
  split
  · exact .sy h
  · exact .sy h

theorem Lane.Stays.riseStep {x : Ax} (h : l.Stays may t) : l.Stays may (t.riseStep x) := .setRise h

theorem Lane.Stays.thermal (h : l.Stays may t) : l.Stays may t.thermal := .wr (.sy (.each h (fun _ _ hk => .riseStep hk)))

theorem Lane.Stays.degExpiry (h : l.Stays may t) : l.Stays may t.degExpiry := .ite h (.ite (.raise (.sy h)) (.ite (.raise (.sy h)) h))

theorem Lane.Stays.dieHold (h : l.Stays may t) : l.Stays may t.dieHold := by
  unfold Lane.dieHold
  split
  · exact .ite (.sy h) h
  · exact h

theorem Lane.Stays.cmdAge {fresh : Bool} (h : l.Stays may t) : l.Stays may (t.cmdAge fresh) := .ite (.sy h) h

theorem Lane.Stays.quorumLost (h : l.Stays may t) : l.Stays may t.quorumLost := .ite (.raise (.sy h)) h

theorem Lane.Stays.profStep (h : l.Stays may t) : l.Stays may t.profStep := by
  unfold Lane.profStep
  split
  · exact .ite (.ite (.sy h) (.each (.sy (.event (.wr (.sy h)))) (fun _ _ hk => .when hk (fun _ hk => .modProfile hk)))) h
  · exact h

theorem Lane.Stays.profCommit (h : l.Stays may t) : l.Stays may t.profCommit := by
  unfold Lane.profCommit
  split
  · exact .ite (.pmRequest (.sy (.setDiv (.sy h)))) (.setDiv (.sy h))
  · exact h

theorem Lane.Stays.boundaryHead {d0 d1 : Nat} (h : l.Stays may t) : l.Stays may (t.boundaryHead d0 d1) :=
  .quorumLost (.armBoundary (.thermal (.degCount (.glBoundary (.sy h)))))

theorem Lane.Stays.boundaryTail {fresh : Bool} (h : l.Stays may t) : l.Stays may (t.boundaryTail fresh) := by
  unfold Lane.boundaryTail
  extract_lets a b _ c
  have ha : l.Stays may a := .when (.voteStep (.profStep (.postureStep (.modeFollow h)))) fun _ hk => .hashSend hk
  have hb : l.Stays may b := .each (.stTick (.tokBoundary ha)) fun _ _ hk => .ite (.tqObserve hk) hk
  have hc : l.Stays may c := .sy hb
  exact .domPermission hc

theorem Lane.Stays.autoRestart (h : l.Stays true t) : l.Stays true t.autoRestart := by
  unfold Lane.autoRestart
  split
  case isTrue hc =>
    simp only [Bool.and_eq_true] at hc
    exact .restart h (Lane.mayRestart_of_autoStands hc.1.1)
  case isFalse => exact h

/-! #### Sys2Proof/Machine/Can.lean -/

theorem Lane.Stays.cnState {tec rec : Nat} (h : l.Stays may t) : l.Stays may (t.cnState tec rec) := by
  unfold Lane.cnState
  extract_lets _ _ _ a b _ c d
  have ha : l.Stays may a := .put (.wr (.wr h))
  have hb : l.Stays may b := .put (.put ha)
  have hc : l.Stays may c := .when hb fun _ hk => .raise hk
  have hd : l.Stays may d := .when hc fun _ hk => .raise (.cn hk)
  exact .ite hd (.event hd)

theorem Lane.Stays.cnUnpend {n : Nat} (h : l.Stays may t) : l.Stays may (t.cnUnpend n) := .wr h

theorem Lane.Stays.cnReq {m : Nat} (h : l.Stays may t) : l.Stays may (t.cnReq m) := .wr (.wr h)

theorem Lane.Stays.cnSent {ok : Bool} (h : l.Stays may t) : l.Stays may (t.cnSent ok) := by
  unfold Lane.cnSent
  split
  · exact h
  · exact .ite h (.ite (.cnState (.event (.send (.bump (.wr (.cnUnpend h)))))) (.ite (.cnUnpend h) h))

theorem Lane.Stays.cnHeard (h : l.Stays may t) : l.Stays may t.cnHeard := .cnState (.fresh h)

theorem Lane.Stays.cnReceive {f : CanFrame} (h : l.Stays may t) : l.Stays may (t.cnReceive f) := by
  unfold Lane.cnReceive
  split
  · exact h
  · extract_lets a
    have ha : l.Stays may a := .when h fun _ hk => .cnHeard hk
    split
    · exact .bump ha
    · exact .ite (.hamperPush ha) (.hamperPush ha)

theorem Lane.Stays.cnError {lec : Nat} {tx heavy : Bool} (h : l.Stays may t) : l.Stays may (t.cnError lec tx heavy) := by
  unfold Lane.cnError
  split
  · exact h
  · extract_lets a b c
    have ha : l.Stays may a := .bump (.wr h)
    have hb : l.Stays may b := .event (.raiseOnce ha)
    have hc : l.Stays may c := by
      dsimp only [c]
      split
      · exact .ite (.cnUnpend hb) hb
      · exact hb
    exact .ite hc (.ite (.ite hc (.cnState hc)) (.cnState hc))

theorem Lane.Stays.cnRecover (h : l.Stays may t) : l.Stays may t.cnRecover := .ite (.cn h) h

theorem Lane.Stays.cnRecovered (h : l.Stays may t) : l.Stays may t.cnRecovered := .ite (.cnState (.cn h)) h

/-! #### Sys2Proof/Machine/Dump.lean -/

theorem Lane.Stays.dcxJoin (h : l.Stays may t) : l.Stays may t.dcxJoin := .ite (.event (.raise (.clr (.clr h)))) h

theorem Lane.Stays.dcxStart (h : l.Stays may t) : l.Stays may t.dcxStart := .ite (.set (.of (.dcxJoin h) rfl rfl)) h

theorem Lane.Stays.dcxHand {why : Nat} (h : l.Stays may t) : l.Stays may (t.dcxHand why) := .dumpHand (.pc h)

theorem Lane.Stays.dcxTimeout (h : l.Stays may t) : l.Stays may t.dcxTimeout := .ite (.dcxHand h) h

theorem Lane.Stays.dumpResult {result why path : Nat} {late : Bool} (h : l.Stays may t) : l.Stays may (t.dumpResult result why path late) :=
  .put (.wr (.wr (.wr (.set h))))

theorem Lane.Stays.dumpDone (h : l.Stays true t) : l.Stays true t.dumpDone :=
  .ite (.dumpOver (.dumpResult (.when (.clr (.pc h)) (fun _ hk => .set hk)))) h

theorem Lane.Stays.dumpCtl {p : Port} {form cause v : Nat} (h : l.Stays may t) : l.Stays may (t.dumpCtl p form cause v) := .glTo h

theorem Lane.Stays.dumpEnd {result : Nat} (h : l.Stays true t) : l.Stays true (t.dumpEnd result) := .dumpOver (.dumpResult (.fc h))

theorem Lane.Stays.dumpOffer (h : l.Stays true t) : l.Stays true t.dumpOffer := by
  unfold Lane.dumpOffer
  split
  · exact .dumpCtl (.fc h)
  · exact .dumpEnd h

theorem Lane.Stays.dumpStart (h : l.Stays true t) : l.Stays true t.dumpStart := .ite (.dumpOffer (.fc h)) h

theorem Lane.Stays.dumpLate (h : l.Stays may t) : l.Stays may t.dumpLate := .ite (.fc h) h

theorem Lane.Stays.dumpTimeout (h : l.Stays true t) : l.Stays true t.dumpTimeout := by
  unfold Lane.dumpTimeout
  split
  · split
    · exact .dumpOffer h
    · exact .dumpEnd h
    · exact h
  · exact h

theorem Lane.Stays.recordTouch {k : Nat} (h : l.Stays may t) : l.Stays may (t.recordTouch k) := .ite h (.ite (.accessed h) (.ite (.accessed h) h))

theorem Lane.Stays.dumpSend (h : l.Stays true t) : l.Stays true t.dumpSend := by
  unfold Lane.dumpSend
  split
  · exact .ite h (.ite (.dumpEnd h) (.ite (.fc (.glTo (.recordTouch h))) (.fc (.glTo h))))
  · exact h

theorem Lane.Stays.dumpIn {f : Lane → Port → Lane} {m : GlMsg} {form : Nat} (h : l.Stays may t)
    (hf : ∀ k y0, l.Stays may k → l.Stays may (f k y0)) :
    l.Stays may (t.dumpIn m form f) :=
  .glIn h fun _ _ hk => .ite (hf _ _ hk) hk

theorem Lane.Stays.dumpAccept {m : GlMsg} (h : l.Stays true t) : l.Stays true (t.dumpAccept m) :=
  .dumpIn h (fun _ _ hk => .ite (.fc (.dumpLate hk)) hk)

theorem Lane.Stays.dumpRefuse {m : GlMsg} (h : l.Stays true t) : l.Stays true (t.dumpRefuse m) :=
  .dumpIn h (fun _ _ hk => .ite (.dumpOffer (.dumpLate hk)) hk)

theorem Lane.Stays.dumpDoneIn {m : GlMsg} (h : l.Stays true t) : l.Stays true (t.dumpDoneIn m) :=
  .dumpIn h (fun _ _ hk => .ite (.dumpEnd (.dumpLate hk)) hk)

theorem Lane.Stays.setRx {p : Port} {r : DumpRx} (h : l.Stays may t) : l.Stays may (t.setRx p r) :=
  .put (by
    split
    · exact .fc h
    · exact .fc h)

theorem Lane.Stays.rxFail {p : Port} (h : l.Stays may t) : l.Stays may (t.rxFail p) := .event (.raise (.set (.setRx h)))

theorem Lane.Stays.offerIn {m : GlMsg} (h : l.Stays may t) : l.Stays may (t.offerIn m) :=
  .dumpIn h (fun _ _ hk => .ite (.dumpCtl (.event (.set hk))) (.ite (.dumpCtl (.event hk)) (.ite (.dumpCtl (.event hk)) (.dumpCtl (.setRx hk)))))

theorem Lane.Stays.rxLate {p : Port} (h : l.Stays may t) : l.Stays may (t.rxLate p) := .ite (.set h) h

theorem Lane.Stays.dataIn {m : GlMsg} (h : l.Stays may t) : l.Stays may (t.dataIn m) :=
  .glIn h (fun _ _ hk => .ite (.setRx (.setBytes (.accessed (.rxLate hk)))) hk)

theorem Lane.Stays.endIn {m : GlMsg} (h : l.Stays may t) : l.Stays may (t.endIn m) :=
  .dumpIn h (fun _ _ hk => .ite (.ite (.setRx (.accessed (.rxLate hk))) (.dumpCtl (.rxFail (.accessed (.rxLate hk))))) hk)

theorem Lane.Stays.rxStored {p : Port} (h : l.Stays may t) : l.Stays may (t.rxStored p) :=
  .ite (.dumpCtl (.event (.raise (.wr (.set (.setRx h)))))) h

theorem Lane.Stays.rxTimeout {p : Port} (h : l.Stays may t) : l.Stays may (t.rxTimeout p) := .ite (.rxFail h) h

theorem Lane.Stays.nbFree {p : Port} (h : l.Stays may t) : l.Stays may (t.nbFree p) := .clr h

/-! #### Sys2Proof/Machine/Flow.lean -/

theorem Lane.Stays.domainsFollow (h : l.Stays may t) : l.Stays may t.domainsFollow := .domScheduler (.stepDomains h)

/-! #### Sys2Proof/Machine/Supply.lean -/

theorem Lane.Stays.setPulse {s : Nat} {p : Option Pulse} (h : l.Stays may t) : l.Stays may (t.setPulse s p) := .ite (.sf h) (.sf h)

theorem Lane.Stays.groupsFault {gs : List Nat} (h : l.Stays may t) : l.Stays may (t.groupsFault gs) :=
  .each h fun _ _ hk => .passThrough (.groupFault hk)

theorem Lane.Stays.supplyOc {s ma : Nat} (h : l.Stays may t) : l.Stays may (t.supplyOc s ma) :=
  .event (.raise (.groupsFault (.clr (.set (.wr h) (by decide)) (by decide))))

theorem Lane.Stays.supplyUv {s mv : Nat} (h : l.Stays may t) : l.Stays may (t.supplyUv s mv) := by
  unfold Lane.supplyUv
  split
  · exact h
  · exact .event (.raise (.groupsFault (.clr (.set (.wr h) (by decide)) (by decide))))

theorem Lane.Stays.supplyClr {s : Nat} (h : l.Stays may t) : l.Stays may (t.supplyClr s) :=
  .ite (.set (.clr (.clr h (by decide)) (by decide)) (by decide)) (.clr (.clr h (by decide)) (by decide))

theorem Lane.Stays.maskOn {g : Nat} (h : l.Stays may t) : l.Stays may (t.maskOn g) := .set (.ite (.setFb h) (.setFb h))

theorem Lane.Stays.maskOff {g : Nat} (h : l.Stays may t) : l.Stays may (t.maskOff g) :=
  .passThrough (.put (by
    split
    · exact .setFb h
    · split
      · exact h
      · exact .hallTake (.setFb h)))

theorem Lane.Stays.pulseStart {k : Nat} (h : l.Stays may t) : l.Stays may (t.pulseStart k) :=
  .ite h (.ite (.ite (.each (.setPulse h) (fun _ _ hk => .maskOn hk)) h) (.ite (.sf h) h))

theorem Lane.Stays.pulseFail {s : Nat} (h : l.Stays may t) : l.Stays may (t.pulseFail s) := .event (.raise (.groupsFault (.set h (by decide))))

theorem Lane.Stays.pulseCheck {s : Nat} {recovery : Bool} {mv : Nat} (h : l.Stays may t) : l.Stays may (t.pulseCheck s recovery mv) := by
  unfold Lane.pulseCheck
  split
  · exact h
  · exact .ite (.ite (.ite (.ite (.set (.wr h) (by decide)) (.wr h)) (.pulseFail (.wr h))) (.ite (.setPulse (.wr h)) (.pulseFail (.wr h)))) h

theorem Lane.Stays.crossFail {k g : Nat} {mapped : Bool} (h : l.Stays may t) : l.Stays may (t.crossFail k g mapped) :=
  .event (.raise (.ite (.set (.groupsFault h) (by decide)) (.wr (.wr (.put (.set (.set (.groupsFault h) (by decide))))))))

theorem Lane.Stays.crossCheck {k : Nat} (h : l.Stays may t) : l.Stays may (t.crossCheck k) := by
  unfold Lane.crossCheck
  dsimp only
  split
  · exact h
  · exact .ite (.each (.ite (.setPulse h) (.sf h)) (fun _ _ hk => .crossFail hk)) h

theorem Lane.Stays.maskEnd {s : Nat} (h : l.Stays may t) : l.Stays may (t.maskEnd s) := by
  unfold Lane.maskEnd
  split
  · exact h
  · exact .ite (.each (.setPulse h) (fun _ _ hk => .maskOff hk)) h

/-! #### Sys2Proof/Machine/Registers.lean -/

theorem Lane.Stays.leCtl {x : Ax} {v : Word} (h : l.Stays may t) : l.Stays may (t.leCtl x v) := by
  unfold Lane.leCtl
  extract_lets a b
  have ha : l.Stays may a := .when h fun _ hk => .leCntClr hk
  have hb : l.Stays may b := .when ha fun _ hk => .leIntClr hk
  exact .ite (.leOpenReq hb) (.when hb (fun _ hk => .leCloseReq hk))

theorem Lane.Stays.leWrite {x : Ax} {o a n : Nat} {v : Word} (h : l.Stays may t) : l.Stays may (t.leWrite x o a n v) := by
  unfold Lane.leWrite
  split
  · exact .leLvWrite h
  · exact .ite (.leCtl h) (.ite (.fieldWrite h) (.leOwWrite h))

theorem Lane.Stays.modCtl {x : Ax} {v : Word} (h : l.Stays may t) : l.Stays may (t.modCtl x v) := by
  unfold Lane.modCtl
  extract_lets a b
  have ha : l.Stays may a := .when h fun _ hk => .modCntClr hk
  have hb : l.Stays may b := .ite (.modDiscard ha) (.when ha (fun _ hk => .modCommit hk))
  exact .ite (.setMd hb) (.when hb (fun _ hk => .setMd hk))

theorem Lane.Stays.modField {x : Ax} {a : Nat} {v : Word} (h : l.Stays may t) : l.Stays may (t.modField x a v) := by
  unfold Lane.modField
  split
  · exact .ite (.fieldWrite h) (.bump h)
  · exact h

theorem Lane.Stays.modWrite {x : Ax} {o a : Nat} {v : Word} (h : l.Stays may t) : l.Stays may (t.modWrite x o a v) := by
  unfold Lane.modWrite
  split
  · exact .modCtl h
  · split
    · exact .stageWrite h
    · split
      · exact .tripClr h
      · split
        · exact .stageWrite h
        · exact .ite (.commChange h (fun _ hk => .modField hk)) (.modField h)

theorem Lane.Stays.tqWrite {x : Ax} {o a n : Nat} {v : Word} (h : l.Stays may t) : l.Stays may (t.tqWrite x o a n v) :=
  .ite (.when h (fun _ hk => .tqCntClr hk)) (.ite (.fieldWrite h) (.tqOwWrite h))

theorem Lane.Stays.gdCtl {x : Ax} {v : Word} (h : l.Stays may t) : l.Stays may (t.gdCtl x v) := by
  unfold Lane.gdCtl
  extract_lets a b
  have ha : l.Stays may a := .when h fun _ hk => .gdCntClr hk
  have hb : l.Stays may b := .when ha fun _ hk => .axisSafe hk
  exact .ite (.gateDrop hb) (.when hb (fun _ hk => .gateEnable hk))

theorem Lane.Stays.fbWrite {x : Ax} {o a : Nat} {v : Word} (h : l.Stays may t) : l.Stays may (t.fbWrite x o a v) := by
  unfold Lane.fbWrite
  split
  · exact .when (.when h (fun _ hk => .setFld hk)) fun _ hk => .fltClr hk
  · exact .ite (.cmpWrite h) (.ite (.cmpWrite h) (.ite (.posAdj h) (.fieldWrite h)))

theorem Lane.Stays.pcCntClr (h : l.Stays may t) : l.Stays may t.pcCntClr := .setFld (.wr (.wr (.setFld (.wr h))))

theorem Lane.Stays.pcCtl {v : Word} (h : l.Stays may t) : l.Stays may (t.pcCtl v) := .pc (.when h (fun _ hk => .pcCntClr hk))

theorem Lane.Stays.glCtl {v : Word} (h : l.Stays may t) : l.Stays may (t.glCtl v) := by
  unfold Lane.glCtl
  extract_lets a b c
  have ha : l.Stays may a := .when h fun _ hk => .glCntClr hk
  have hb : l.Stays may b := .ite (.glInelig ha) (.when ha (fun _ hk => .glElig hk))
  have hc : l.Stays may c := .when hb fun _ hk => .gl hk
  exact .when hc fun _ hk => .gl hk

theorem Lane.Stays.fcCtl {v : Word} (h : l.Stays true t) : l.Stays true (t.fcCtl v) :=
  .when (.when (.when (.when (.when h (fun _ hk => .rearm hk)) (fun _ hk => .fcCntClr hk)) (fun _ hk => .nbFree hk)) (fun _ hk => .nbFree hk))
    fun _ hk => .dumpDone hk

theorem Lane.Stays.fcWrite {o a : Nat} {v : Word} (h : l.Stays true t) (ha : SY_MODE_OWN.addr ≠ a) : l.Stays true (t.fcWrite o a v) := by
  unfold Lane.fcWrite
  split
  · exact .fcCtl h
  · exact .tend h
  · exact .when h fun _ hk => .injectGo hk
  · exact .when h fun _ hk => .setReg hk ha
  · exact .fieldWrite h

theorem Lane.Stays.scWrite {o a : Nat} {v : Word} (h : l.Stays may t) : l.Stays may (t.scWrite o a v) := by
  unfold Lane.scWrite
  split
  · exact .when h fun _ hk => .scCntClr hk
  · split
    · exact .domainsFollow (.scPost h)
    · split
      · exact .flowEnWrite h
      · split
        · split
          · exact .domainsFollow (.timerExpWrite h)
          · exact .domainsFollow (.timerArm h)
          · exact .fieldWrite h
        · exact .fieldWrite h

theorem Lane.Stays.hqWrite {o a : Nat} {v : Word} (h : l.Stays may t) : l.Stays may (t.hqWrite o a v) :=
  .ite (.when h (fun _ hk => .hqCntClr hk)) (.ite (.hqPush h) (.fieldWrite h))

theorem Lane.Stays.hpCtl {v : Word} (h : l.Stays may t) : l.Stays may (t.hpCtl v) :=
  .ite (.irqClr (.when h (fun _ hk => .setFld hk))) (.when (.when h (fun _ hk => .setFld hk)) (fun _ hk => .set hk))

theorem Lane.Stays.ttWrite {o a : Nat} {v : Word} (h : l.Stays may t) : l.Stays may (t.ttWrite o a v) := by
  unfold Lane.ttWrite
  split
  · exact .unmuteMask (.when h (fun _ hk => .ttCntClr hk))
  · exact .txReady h
  · exact .fieldWrite h

theorem Lane.Stays.cnWrite {o a : Nat} {v : Word} (h : l.Stays may t) : l.Stays may (t.cnWrite o a v) := by
  unfold Lane.cnWrite
  split
  · exact .when (.when h (fun _ hk => .setFld hk)) fun _ hk => .cnRecover hk
  · exact .cnReq h
  · exact .fieldWrite h

theorem Lane.Stays.pdWrite {o a : Nat} {v : Word} (h : l.Stays may t) : l.Stays may (t.pdWrite o a v) := by
  unfold Lane.pdWrite
  split
  · exact .when h fun _ hk => .sleep hk
  · exact .pdReqWrite h
  · exact .fieldWrite h

theorem Lane.Stays.ckWrite {o a : Nat} {v : Word} (h : l.Stays may t) : l.Stays may (t.ckWrite o a v) :=
  .ite (.when (.when h (fun _ hk => .pw hk)) (fun _ hk => .calGo hk)) (.fieldWrite h)

theorem Lane.Stays.pmWrite {o a : Nat} {v : Word} (h : l.Stays may t) : l.Stays may (t.pmWrite o a v) := by
  unfold Lane.pmWrite
  split
  · exact .when h fun _ hk => .pmCommand hk
  · exact .pmRequest (.wr h)
  · exact .fieldWrite h

theorem Lane.Stays.wkWrite {o a : Nat} {v : Word} (h : l.Stays may t) (ha : SY_MODE_OWN.addr ≠ a) : l.Stays may (t.wkWrite o a v) := by
  unfold Lane.wkWrite
  split
  · exact .when h fun _ hk => .setFld hk
  · exact .pw (.setReg h ha)
  · exact .fieldWrite h

theorem Lane.Stays.stWrite {o a : Nat} {v : Word} (h : l.Stays true t) : l.Stays true (t.stWrite o a v) := by
  unfold Lane.stWrite
  split
  · exact .when (.when (.when (.when h (fun _ hk => .setFld hk)) (fun _ hk => .progAbort hk)) (fun _ hk => .progGo hk)) fun _ hk => .stSweep hk
  · exact .sliceRequest h
  · exact .fieldWrite h

theorem Lane.Stays.lcWrite {o a : Nat} {v : Word} (h : l.Stays may t) : l.Stays may (t.lcWrite o a v) :=
  .ite (.when (.when h (fun _ hk => .ftmOn hk)) (fun _ hk => .lcGo hk)) (.fieldWrite h)

theorem Lane.Stays.sfWrite {o a : Nat} {v : Word} (h : l.Stays may t) : l.Stays may (t.sfWrite o a v) :=
  .ite (.when (.when h (fun _ hk => .supplyClr hk)) (fun _ hk => .supplyClr hk)) (.ite (.injectInputs (.discClr h)) (.fieldWrite h))

theorem Lane.Stays.regWrite {b : Blk} {x : Ax} {o a n : Nat} {v : Word} (h : l.Stays true t)
    (ha : b ≠ .sy → SY_MODE_OWN.addr ≠ a) : l.Stays true (t.regWrite b x o a n v) := by
  unfold Lane.regWrite
  split
  · exact .leWrite h
  · exact .modWrite h
  · exact .tqWrite h
  · exact .ite (.gdCtl h) (.fieldWrite h)
  · exact .fbWrite h
  · exact .ite (.when h (fun _ hk => .setFld hk)) (.fieldWrite h)
  · exact .ite (.when (.when h (fun _ hk => .chopClr hk)) (fun _ hk => .setFld hk)) (.fieldWrite h)
  · exact .ite (.pcCtl h) (.fieldWrite h)
  · exact .ite (.glCtl h) (.fieldWrite h)
  · exact .fcWrite h (ha (by decide))
  · exact .scWrite h
  · exact .hqWrite h
  · exact .ite (.hpCtl h) (.fieldWrite h)
  · exact .ttWrite h
  · exact .cnWrite h
  · exact .pdWrite h
  · exact .ckWrite h
  · exact .pmWrite h
  · exact .wkWrite h (ha (by decide))
  · exact .stWrite h
  · exact .lcWrite h
  · exact .sfWrite h
  · exact .fieldWrite h

theorem Lane.Stays.halfWrite {b : Blk} {x : Ax} {a : Nat} {v : Word} (h : l.Stays may t) : l.Stays may (t.halfWrite b x a v) := by
  unfold Lane.halfWrite
  split
  · split
    · exact .leLvWrite h
    · exact .leRefuse h
  · exact .bump h
  · exact h

theorem Lane.Stays.winWrite {w : Win} {a n : Nat} {v : Word} (h : l.Stays may t) : l.Stays may (t.winWrite w a n v) := by
  unfold Lane.winWrite
  dsimp only
  split
  · exact .setBytes h
  · exact .setBytes h
  · exact .setBytes h
  · exact .ite (.setBytes h) h
  · exact .ite (.hqPutWrite h) (.ite (.prodReject h) h)
  · exact h

theorem Lane.Stays.mramWrite {a n : Nat} {v : Word} (h : l.Stays may t) : l.Stays may (t.mramWrite a n v) := .ite (.set h) (.ite h (.setBytes h))

theorem Lane.Stays.devWrite {a n : Nat} {v : Word} (h : l.Stays true t) : l.Stays true (t.devWrite a n v) := by
  unfold Lane.devWrite
  cases hp : t.place a n with
  | none => exact .busError h
  | some p =>
    dsimp only
    have hopen : l.Stays true { t with busErr := false } := .busErr h
    split
    · exact .downAccess hopen
    · have hacc : l.Stays true (Lane.accessed { t with busErr := false } a n) := .accessed hopen
      cases p with
      | tcm => exact .setBytes hacc
      | storage => exact .storageReject hacc
      | mram => exact .mramWrite hacc
      | window w => exact .winWrite hacc
      | table x => exact .leOwWrite hacc
      | reg b x d =>
        obtain ⟨⟨o, ho⟩, -, -⟩ := Lane.place_reg hp
        exact .regWrite hacc (syMode_ne_of_block ho)
      | half b x at_ => exact .halfWrite hacc
      | nothing => exact hacc

theorem Lane.Stays.dumpWrite {a n : Nat} {v : Word} (h : l.Stays true t) : l.Stays true (t.dumpWrite a n v) :=
  .ite (.busError h) (.ite (.devWrite h) (.set (.busErr h)))

theorem Lane.Stays.regRead {b : Blk} {x : Ax} {a : Nat} {d : RegDesc} (h : l.Stays may t) : l.Stays may (t.regRead b x a d) :=
  .ite (.scEnter h) (.ite (.domainsFollow (.scNext h)) (.ite (.blankRead h) (.ite (.hqMark h) (.ite (.hqRewind h) (.ite (.hqTake h) (.returns h))))))

theorem Lane.Stays.halfRead {b : Blk} {x : Ax} {at_ a : Nat} (h : l.Stays may t) : l.Stays may (t.halfRead b x at_ a) := by
  unfold Lane.halfRead
  split
  · exact .returns (.regRead h)
  · exact .returns h

theorem Lane.Stays.devRead {a n : Nat} (h : l.Stays may t) : l.Stays may (t.devRead a n) := by
  unfold Lane.devRead
  split
  · exact .busError h
  · extract_lets a b
    have ha : l.Stays may a := .busErr h
    have hb : l.Stays may b := .accessed ha
    split
    · exact .downAccess ha
    · split
      · exact .returns hb
      · exact .returns hb
      · exact .regRead hb
      · exact .halfRead hb
      · exact .returns hb
      · exact .returns hb

theorem Lane.Stays.waitRun (h : l.Stays true t) : l.Stays true t.waitRun :=
  .each (.pw h) (fun _ _ hk => (by
    split
    · exact .devWrite hk
    · exact .devRead hk))

/-! #### Sys2Proof/Machine/Pair.lean -/

theorem Lane.Stays.usage (h : l.Stays may t) : l.Stays may t.usage := .wr h

theorem Lane.Stays.storeIn {a n : Nat} {v : Word} (h : l.Stays may t) : l.Stays may (t.storeIn a n v) := .usage (.pc h)

theorem Lane.Stays.release {x : Store} (h : l.Stays true t) : l.Stays true (t.release x) := by
  unfold Lane.release
  split
  · exact .each h fun _ _ hk => .devWrite hk
  · exact .devWrite h

theorem Lane.Stays.drain {es : List (Nat × Store)} (h : l.Stays true t) : l.Stays true (t.drain es) :=
  .each h (fun _ _ hk => .ite (.hqJudge (.lateFrom (.release hk))) hk)

theorem Lane.Stays.drainNote {es : List (Nat × Store)} {corrected : List Nat} (h : l.Stays may t) : l.Stays may (t.drainNote es corrected) :=
  .each h fun _ _ hk => .raiseOnce (.set hk)

theorem Lane.Stays.pairIgnored {a lo w : Nat} (h : l.Stays may t)
    (ha : SY_MODE_OWN.addr ≠ a := by simp only [SY_MODE_OWN]; omega) : l.Stays may (t.pairIgnored ⟨a, lo, w⟩) := .event (.raise (.set h ha))

theorem Lane.Stays.pairSet {split : Bool} (h : l.Stays may t) : l.Stays may (t.pairSet split) := .tokenCheck (.event (.raise (.put (.put h))))

theorem Lane.Stays.pairSplit (h : l.Stays may t) : l.Stays may t.pairSplit := .ite (.pairSet h) (.pairIgnored h)

theorem Lane.Stays.pairRejoin (h : l.Stays may t) : l.Stays may t.pairRejoin := .ite (.pairSet h) (.pairIgnored h)

theorem Lane.Stays.pairApply (h : l.Stays may t) : l.Stays may t.pairApply := .ite (.pairRejoin (.pc h)) (.when (.pc h) (fun _ hk => .pairSplit hk))

theorem Lane.Stays.commitCount {c : Commit} (h : l.Stays may t) : l.Stays may (t.commitCount c) := .pc (.wr (.wr (.wr (.wr h))))

theorem Lane.Stays.commitCopy {boundary : Bool} (h : l.Stays may t) : l.Stays may (t.commitCopy boundary) := .ite (.copyVoid h) h

theorem Lane.Stays.commitMark {boundary : Bool} (h : l.Stays may t) : l.Stays may (t.commitMark boundary) := .scMark (.hqMarkAll (.commitCopy h))

theorem Lane.Stays.presentHeld (h : l.Stays may t) : l.Stays may t.presentHeld := .each (.pc h) fun _ _ hk => .present hk

theorem Lane.Stays.commitFree {c : Commit} (h : l.Stays may t) : l.Stays may (t.commitFree c) :=
  .when (.pairApply (.scFree (.hqReleaseAll h))) fun _ hk => .clr hk

theorem Lane.Stays.commitEnd {c : Commit} (h : l.Stays may t) : l.Stays may (t.commitEnd c) := by
  unfold Lane.commitEnd
  extract_lets _ a b
  have ha : l.Stays may a := .commitCount (.commitFree (.presentHeld (.pc h)))
  have hb : l.Stays may b := .bump (.set ha)
  exact .ite (.divApply (.profCommit (.hashSend (.copyReads (.glSignal (.wr ha)))))) (.divApply (.event (.raiseOnce hb)))

theorem Lane.Stays.commitDrain {c : Commit} {e : DrainEcc} (h : l.Stays true t) : l.Stays true (t.commitDrain c e) := by
  unfold Lane.commitDrain
  extract_lets _ _ _ _ a
  have ha : l.Stays true a := .drain (.drainNote (.pc h))
  split
  · exact ha
  · split
    · exact .pc ha
    · split
      · exact .raise (.pc ha)
      · exact .commitEnd ha

theorem Lane.Stays.commitRun {boundary : Bool} {e : DrainEcc} (h : l.Stays true t) : l.Stays true (t.commitRun boundary e) := by
  unfold Lane.commitRun
  split
  · exact .commitDrain h
  · exact .commitDrain (.commitMark h)

theorem Lane.Stays.commitBoundary {e : DrainEcc} (h : l.Stays true t) : l.Stays true (t.commitBoundary e) := .ite (.commitRun h) h

theorem Lane.Stays.coreStore {e : DrainEcc} {a n : Nat} {v : Word} (h : l.Stays true t) : l.Stays true (t.coreStore e a n v) :=
  .ite (.busError h) (.ite (.ite (.commitRun h) h) (.storeIn (.busErr (.ite (.commitRun h) h))))

theorem Lane.Stays.coreWrite {a n : Nat} {v : Word} (h : l.Stays true t) : l.Stays true (t.coreWrite a n v) := by
  unfold Lane.coreWrite
  split
  · exact .coreStore h
  · exact .coreStore h
  · exact .dumpWrite h
  · exact h

theorem Lane.Stays.mismatchNote {point : Nat} {slot : Bool} {reg : Nat} {addr : Word} (h : l.Stays may t) :
    l.Stays may (t.mismatchNote point slot reg addr) :=
  .ite h (.wr (.setFld (.wr (.put (.wr (.set h))))))

theorem Lane.Stays.rollUndo (h : l.Stays may t) : l.Stays may t.rollUndo := .domainsFollow (.scRollback (.hqRollback (.pc h)))

theorem Lane.Stays.rollNote {point : Nat} (h : l.Stays may t) : l.Stays may (t.rollNote point) := .event (.pc (.wr (.set (.bump h))))

theorem Lane.Stays.midDone (h : l.Stays true t) : l.Stays true t.midDone := .ite (.commitRun h) h

theorem Lane.Stays.rollback {point : Nat} {slot : Bool} {reg : Nat} {addr : Word} (h : l.Stays true t) :
    l.Stays true (t.rollback point slot reg addr) :=
  .ite (.raise (.pc (.rollNote (.rollUndo (.mismatchNote h))))) (.rollNote (.rollUndo (.mismatchNote h)))

theorem Lane.Stays.mismatch {point : Nat} {slot : Bool} {reg : Nat} {addr : Word} (h : l.Stays true t) :
    l.Stays true (t.mismatch point slot reg addr) := by
  unfold Lane.mismatch
  split
  · exact h
  · split
    · exact .rollback (.midDone h)
    · exact .rollback (.midDone h)
    · exact .dcxHand h
    · exact h

theorem Lane.Stays.coreLoad {a n : Nat} (h : l.Stays may t) : l.Stays may (t.coreLoad a n) := .ite (.returns (.accessed h)) (.devRead h)

theorem Lane.Stays.debug {x : DebugOp} (h : l.Stays true t) : l.Stays true (t.debug x) := by
  unfold Lane.debug
  split
  · exact .ite (.pc h) h
  · exact h
  · exact .ite (.pc h) h
  · exact .ite (.devRead h) (.coreLoad h)
  · exact .ite (.divApply (.devWrite h)) (.ite (.dumpWrite h) (.coreStore h))

/-! #### Sys2Proof/Machine/Tick.lean -/

theorem Lane.Stays.selfRun (h : l.Stays true t) : l.Stays true t.selfRun :=
  .ite (.pwTick (.pmTick h)) (.waitRun (.domPermission (.domainsFollow (.armProofs (.stTick (.copyReads (.glPorts (.pwTick (.pmTick h)))))))))

theorem Lane.Stays.tick (h : l.Stays true t) : l.Stays true t.tick := .ite (.now h) (.ite (.aoTick (.now h)) (.aoTick (.selfRun (.now (.hqCycle h)))))

end

/-! ### The functions that change the mode -/

section
variable {may : Bool} {m : Nat} {l t u : Lane}

theorem Lane.Stays.trans (h : l.Stays may t) (k : t.Stays may u) : l.Stays may u := by
  refine ⟨?_, fun hl => k.waits (h.waits hl)⟩
  rcases k.mode with hk | ⟨hm, ht, hb⟩
  · rw [hk]
    exact h.mode
  · exact .inr ⟨hm, h.mayRestart ht, hb⟩

theorem Lane.Stays.mode_eq (h : l.Stays false t) : t.mode = l.mode := h.mode.resolve_right fun c => absurd c.1 (by decide)

/-- One lane comes from another by operations that bring it to a mode. -/
structure Lane.Lands (m : Nat) (l t : Lane) : Prop where
  mode : t.mode = m
  waits : l.waitsRight → t.waitsRight

theorem Lane.Lands.stays (h : l.Lands m t) (k : t.Stays false u) : l.Lands m u := ⟨k.mode_eq.trans h.mode, fun hl => k.waits (h.waits hl)⟩
theorem Lane.Stays.lands (h : l.Stays false t) (k : t.Lands m u) : l.Lands m u := ⟨k.mode, fun hl => k.waits (h.waits hl)⟩
theorem Lane.Stays.there (h : l.Stays false t) : l.Lands l.mode t := ⟨h.mode_eq, h.waits⟩

/-- In a mode in which a lane may restart, no restart waits where it should not. -/
theorem Lane.Lands.ofMayRestart (hm : t.mode = m) (ht : t.mayRestart = true) : l.Lands m t := ⟨hm, fun _ _ => ht⟩

/-- A lane in which no restart waits. -/
theorem Lane.Lands.ofNone (hm : t.mode = m) (hw : t.fc.restartWait = false) : l.Lands m t := ⟨hm, fun _ hu => absurd hu (by rw [hw]; decide)⟩

/-- A lane that may not restart has no restart that waits. -/
theorem Lane.restartWait_false (hl : l.waitsRight) (h : l.mayRestart = false) : l.fc.restartWait = false := by
  cases hw : l.fc.restartWait with
  | false => rfl
  | true => rw [hl hw] at h; cases h

/-! #### SY_MODE.OWN -/

theorem Lane.setMode_stays (l : Lane) (m : Nat) : (l.wr SY_MODE_OWN m).Stays false ((l.wr SY_MODE_OWN m).showMode.event 8) :=
  .event (.showMode (.refl _))

theorem Lane.mode_setMode (l : Lane) (h : m < 8) : (l.setMode m).mode = m := by
  unfold Lane.setMode
  split
  case isTrue he => exact he
  case isFalse =>
    rw [(l.setMode_stays m).mode_eq, Lane.mode, Lane.rd_wr _ _ _ (by decide)]
    exact Nat.mod_eq_of_lt h

theorem Lane.restartWait_setMode (l : Lane) (m : Nat) : (l.setMode m).fc.restartWait = l.fc.restartWait := by
  unfold Lane.setMode
  split
  · rfl
  · rw [Lane.event_fc]
    rfl

/-- The mode that a lane takes which may not restart. -/
theorem Lane.setMode_lands (h : m < 8) (hl : l.mayRestart = false) : l.Lands m (l.setMode m) :=
  ⟨l.mode_setMode h, fun hw hu => absurd hu (by rw [l.restartWait_setMode, Lane.restartWait_false hw hl]; decide)⟩

theorem Lane.safeHold_lands (l : Lane) (ft : Bool) : l.Lands mSafeHold (l.safeHold ft) := by
  have hmode : (l.safeHold ft).mode = mSafeHold := by
    unfold Lane.safeHold
    extract_lets a b c auto _ d
    have ha : l.Stays false a := .axesSafe (.refl l)
    split
    case isTrue hm => exact hm
    case isFalse =>
      have hset : (b.setMode mSafeHold).mode = mSafeHold := Lane.mode_setMode _ (by decide)
      have hd : (b.setMode mSafeHold).Stays false d := .sy (.lantStop (.tokenLeave (.refl _)))
      exact (Lane.Stays.glShares hd).mode_eq.trans hset
  exact .ofMayRestart hmode (Lane.mayRestart_iff.mpr (.inl hmode))

theorem Lane.enterService_lands (l : Lane) : l.Lands mService l.enterService := by
  have hmode : l.enterService.mode = mService := by
    unfold Lane.enterService
    extract_lets a _ b
    exact (Lane.Stays.glShares (.tokenLeave (.refl (b.setMode mService)))).mode_eq.trans (Lane.mode_setMode _ (by decide))
  exact .ofMayRestart hmode (Lane.mayRestart_iff.mpr (.inr hmode))

/-! #### BOOT: resets, their release, OTP writes and sweeps -/

theorem Lane.enterBootAt_lands (l : Lane) (straps : Nat) : l.Lands mBoot (l.enterBootAt straps) :=
  .ofNone (l.enterBootAt_bootAt straps).mode (by rw [Lane.enterBootAt_fc])

theorem Lane.enterBoot_lands (l : Lane) : l.Lands mBoot l.enterBoot := l.enterBootAt_lands _

theorem Lane.restart_lands (l : Lane) : l.Lands mBoot l.restart := by
  unfold Lane.restart
  split
  · exact l.enterBoot_lands.stays (.wrAbove (.refl _) (by decide))
  · exact l.enterBoot_lands

theorem Lane.hold_lands (l : Lane) : l.Lands mBoot l.hold := by
  have hpart := Lane.ResetPart.coreReset l.otpResolve
  have hfc : l.otpResolve.resetBase.fc = {} := rfl
  exact .ofNone (hpart.mode.trans (Lane.mode_resetBase _)) (congrArg FcSt.restartWait (hpart.fc.trans hfc))

theorem Lane.powerUp_lands (l : Lane) : l.Lands mBoot l.powerUp := by
  unfold Lane.powerUp
  extract_lets a otp _ r
  have hr : r.mode = mBoot := by
    refine Lane.mode_unlisted fun p hp hsy => ?_
    have hotp := (List.mem_filter.mp hp).2
    rw [hsy] at hotp
    revert hotp
    decide
  have hlands : l.Lands mBoot r := .ofNone hr rfl
  exact hlands.stays (.wr (.refl r))

theorem Lane.brownOut_lands (l : Lane) : l.Lands mBoot l.brownOut := l.powerUp_lands.stays (.sy (.refl _))

theorem Lane.resetRelease_lands (l : Lane) (straps : Nat) : l.Stays false (l.resetRelease straps) ∨ l.Lands mBoot (l.resetRelease straps) := by
  unfold Lane.resetRelease
  split
  · exact .inr ((l.enterBootAt_lands straps).stays (.set (.refl _)))
  · exact .inl (.refl l)

theorem Lane.otpApply_lands (l : Lane) (w : OtpWrite) : l.Stays false (l.otpApply w) ∨ l.Lands mBoot (l.otpApply w) := by
  have hburn : l.Stays false ((l.otpBurn w).lcEnd 1) := .lcEnd (.otpBurn (.refl l))
  cases w with
  | state c =>
    have h : l.Stays false (((l.lcResult 1).abdicateNow).otpBurn (.state c)) := .otpBurn (.abdicateNow (.lcResult (.refl l)))
    exact .inr (h.lands (Lane.enterBoot_lands _))
  | program => exact .inl hburn
  | revoke => exact .inl hburn

theorem Lane.otpEnd_lands (l : Lane) (ok : Bool) : l.Stays false (l.otpEnd ok) ∨ l.Lands mBoot (l.otpEnd ok) := by
  unfold Lane.otpEnd
  split
  · exact .inl (.refl l)
  case h_2 w _ =>
    dsimp only
    have h : l.Stays false { l with lc := {} } := .lc (.refl l)
    split
    · exact (Lane.otpApply_lands _ w).imp h.trans h.lands
    · exact .inl (.otpFail h)

theorem Lane.jtagSweep_lands (l : Lane) : l.Stays false l.jtagSweep ∨ l.Lands mBoot l.jtagSweep := by
  unfold Lane.jtagSweep
  split
  · have h : l.Stays false l.abdicateNow := .abdicateNow (.refl l)
    exact .inr ((h.lands (Lane.enterBoot_lands _)).stays (.st (.refl _)))
  · exact .inl (.refl l)

/-! #### ARMING -/

theorem Lane.armStart_lands (h : l.mode = mBoot) : l.Lands mArming l.armStart := by
  unfold Lane.armStart
  extract_lets _ _ a b
  have ha : l.Stays false a := .of (.refl l) rfl rfl
  have hset : l.Lands mArming (a.setMode mArming) :=
    ha.lands (Lane.setMode_lands (by decide) (Lane.not_mayRestart_of_boot (ha.mode_eq.trans h)))
  have hb : l.Lands mArming b := hset.stays (.each (.refl _) fun _ _ hk => .dieClear hk)
  exact hb.stays (.tokArming (.watchStart (.lantStart (.glArming (.each (.refl _) fun _ _ hk => .carrierStart hk)))))

theorem Lane.imageLock_lands (l : Lane) : l.Stays false l.imageLock ∨ (l.mode = mBoot ∧ l.Lands mArming l.imageLock) := by
  unfold Lane.imageLock
  split
  case isTrue hc =>
    have h : l.Stays false (l.glBoundary 0 0).lockImage := .lockImage (.glBoundary (.refl l))
    have harm := h.lands (Lane.armStart_lands (h.mode_eq.trans hc.2.1))
    exact .inr ⟨hc.2.1, harm.stays (.hashSend (.newCycle (.postureStep (.modeFollow (.proofStart (.refl _))))))⟩
  case isFalse => exact .inl (.refl l)

/-! #### SAFE-HOLD at the acceptance of a fault message, and by the partition rule -/

/-- One lane comes from another by operations that keep its mode, or bring it to SAFE-HOLD. -/
def Lane.MayHold (l t : Lane) : Prop := l.Stays false t ∨ l.Lands mSafeHold t

theorem Lane.MayHold.stays (h : l.MayHold t) (k : t.Stays false u) : l.MayHold u := h.imp (·.trans k) (·.stays k)
theorem Lane.Stays.mayHold (h : l.Stays false t) (k : t.MayHold u) : l.MayHold u := k.imp h.trans h.lands

theorem Lane.fatalMode_mayHold (l : Lane) : l.MayHold l.fatalMode := by
  unfold Lane.fatalMode
  extract_lets _ a b
  have ha : l.Stays false a := .ite (.watchStart (.im (.refl l))) (.refl l)
  have hb : l.MayHold b := by
    dsimp only [b]
    split
    · exact .inl (.axesSafe ha)
    · exact ha.mayHold (.inr (a.safeHold_lands true))
  split
  · exact hb
  · exact hb.stays (.tokenLeave (.refl b))

theorem Lane.fatalReact_mayHold (l : Lane) (m : Word) : l.MayHold (l.fatalReact m) := by
  have h : l.Stays false ((l.fatalStop m).glSend tFtann (leBytes 8 m.toNat)).coresStop := .coresStop (.glSend (.fatalStop (.refl l)))
  exact h.mayHold (Lane.fatalMode_mayHold _)

theorem Lane.fatal_mayHold (l : Lane) (m : Word) : l.MayHold (l.fatal m) := by
  unfold Lane.fatal
  split
  · exact (l.fatalReact_mayHold m).stays (.fatalAgain (.refl _))
  · have h : l.Stays false (l.capture m) := .capture (.refl l)
    exact (h.mayHold (Lane.fatalReact_mayHold _ m)).stays (.dumpChoose (.refl _))

theorem Lane.acceptMsg_mayHold (l : Lane) : l.MayHold l.acceptMsg := by
  unfold Lane.acceptMsg
  split
  · exact .inl (.refl l)
  · split
    · exact .inl (.refl l)
    · dsimp only
      split
      · exact Lane.Stays.mayHold (.latchMsg (.fc (.refl l))) (Lane.fatal_mayHold _ _)
      · exact .inl (.latchMsg (.fc (.refl l)))

theorem Lane.acceptLpo_mayHold (l : Lane) : l.MayHold l.acceptLpo := by
  unfold Lane.acceptLpo
  split
  · exact .inl (.refl l)
  · split
    · dsimp only
      split
      · exact .inl (.latchMsg (.fc (.refl l)))
      · exact Lane.Stays.mayHold (.latchMsg (.fc (.refl l))) (Lane.fatal_mayHold _ _)
    · exact .inl (.refl l)

theorem Lane.partDecide_lands (l : Lane) : l.Stays false l.partDecide ∨ (modeLive l.mode = true ∧ l.Lands mSafeHold l.partDecide) := by
  unfold Lane.partDecide
  split
  case h_1 t _ =>
    split
    · exact .inl (.refl l)
    · split
      · exact .inl (.sy (.refl l))
      · dsimp only
        have h : l.Stays false { l with sy := { l.sy with partAt := none } } := .sy (.refl l)
        split
        case isTrue hc =>
          have hraise : l.Stays false (Lane.raise { l with sy := { l.sy with partAt := none } } srcSY 4 clsUC none 0) := .raise h
          exact .inr ⟨h.mode_eq ▸ hc, (hraise.lands (Lane.safeHold_lands _ false)).stays (.modeFollow (.refl _))⟩
        case isFalse => exact .inl h
  case h_2 => exact .inl (.refl l)

/-! #### The transition of a boundary -/

/-- The mode that ARMING, OPERATE and DEGRADED take at a boundary (R24, R538). -/
def Lane.takenMode (l : Lane) : Nat :=
  if l.mode = mArming then
    (if l.on SF_ARMSTAT_DONE = true ∧ l.rd GL_STAT_VOTE ≠ 0 ∧ (l.announced = mOperate ∨ l.announced = mDegraded) then
      (if l.localCauses ≠ 0 then mDegraded else l.announced)
    else l.mode)
  else if l.mode = mOperate then (if l.localCauses ≠ 0 ∨ l.announced = mDegraded then mDegraded else l.mode)
  else if l.mode = mDegraded then (if ¬ l.localCauses ≠ 0 ∧ l.announced = mOperate then mOperate else l.mode)
  else l.mode

/-- The mode that a lane takes at a boundary whose head has left it as it is. -/
def Lane.boundaryMode (l : Lane) : Nat :=
  if modeLive l.mode = true ∧ (l.sy.reqHold.isSome = true ∨ l.announced = mSafeHold) then mSafeHold
  else if l.sy.reqRestart = true ∧ l.mayRestart = true then (if l.dumping = false then mBoot else l.mode)
  else if l.autoStands = true then l.mode
  else if l.sy.reqService = true ∧ l.mayService = true then mService
  else l.takenMode

/-- A live mode is one in which a lane may not restart. -/
theorem Lane.not_mayRestart_of_live (h : modeLive l.mode = true) : l.mayRestart = false := by
  simp only [modeLive, Bool.and_eq_true, decide_eq_true_eq] at h
  refine Bool.eq_false_iff.mpr fun hm => ?_
  have hmode := Lane.mayRestart_iff.mp hm
  simp only [mSafeHold, mService] at hmode
  omega

theorem Lane.modeTake_lands (l : Lane) : l.Lands l.takenMode l.modeTake := by
  have take : ∀ m, m < 8 → modeLive l.mode = true → l.Lands m (l.setMode m) := fun m hm hl =>
    Lane.setMode_lands hm (Lane.not_mayRestart_of_live hl)
  have stay : l.Lands l.mode l := (Lane.Stays.refl l).there
  unfold Lane.modeTake Lane.takenMode
  dsimp only
  split
  case isTrue hm =>
    have hlive : modeLive l.mode = true := by rw [hm]; rfl
    split
    case isTrue hc =>
      have hann : l.announced < 8 := by rcases hc.2.2 with h | h <;> rw [h] <;> decide
      by_cases ho : l.localCauses = 0
      · simpa [ho] using take l.announced hann hlive
      · simpa [ho] using take mDegraded (by decide) hlive
    case isFalse => exact stay
  case isFalse =>
    split
    case isTrue hm =>
      have hlive : modeLive l.mode = true := by rw [hm]; rfl
      simp only [Bool.or_eq_true, decide_eq_true_eq]
      split
      · exact take mDegraded (by decide) hlive
      · exact stay
    case isFalse =>
      split
      case isTrue hm =>
        have hlive : modeLive l.mode = true := by rw [hm]; rfl
        simp only [Bool.and_eq_true, Bool.not_eq_true', decide_eq_true_eq, decide_eq_false_iff_not]
        split
        · exact take mOperate (by decide) hlive
        · exact stay
      case isFalse => exact stay

theorem Lane.restartStep_lands (h : l.mayRestart = true) : l.Lands (if l.dumping = false then mBoot else l.mode) l.restartStep := by
  unfold Lane.restartStep
  cases l.dumping with
  | false => exact l.restart_lands
  | true => exact .ofMayRestart rfl h

/-- The transition, with what a request leaves of the conditions that come after it. -/
theorem Lane.modeStep_eq (l : Lane) : l.modeStep =
    if modeLive l.mode = true ∧ (l.sy.reqHold.isSome = true ∨ l.announced = mSafeHold) then l.safeHold false
    else if l.sy.reqRestart && l.mayRestart then l.restartStep
    else if l.autoStands then { l with sy := { l.sy with reqRestart := false } }
    else if l.sy.reqService && l.mayService then Lane.enterService { l with sy := { l.sy with reqRestart := false } }
    else Lane.modeTake { l with sy := { l.sy with reqRestart := false, reqService := false } } := rfl

theorem Lane.modeStep_lands (l : Lane) : l.Lands l.boundaryMode l.modeStep := by
  have hasked : l.Stays false { l with sy := { l.sy with reqRestart := false } } := .sy (.refl l)
  have htaken : l.Stays false { l with sy := { l.sy with reqRestart := false, reqService := false } } := .sy (.refl l)
  rw [Lane.modeStep_eq, Lane.boundaryMode]
  simp only [Bool.and_eq_true]
  split
  · exact l.safeHold_lands false
  · split
    case isTrue hc => exact Lane.restartStep_lands hc.2
    case isFalse =>
      split
      · exact hasked.there
      · split
        · exact hasked.lands (Lane.enterService_lands _)
        · have hsame : Lane.takenMode { l with sy := { l.sy with reqRestart := false, reqService := false } } = l.takenMode := rfl
          exact hsame ▸ htaken.lands (Lane.modeTake_lands _)

theorem Lane.boundaryHead_stays (l : Lane) (d0 d1 : Nat) : l.Stays false (l.boundaryHead d0 d1) := .boundaryHead (.refl l)

theorem Lane.boundary_lands (l : Lane) (d0 d1 : Nat) (fresh : Bool) :
    l.Lands (l.boundaryHead d0 d1).boundaryMode (l.boundary d0 d1 fresh) := by
  have h : l.Lands (l.boundaryHead d0 d1).boundaryMode (l.boundaryHead d0 d1).modeStep :=
    (l.boundaryHead_stays d0 d1).lands (Lane.modeStep_lands _)
  by_cases hb : (l.boundaryHead d0 d1).modeStep.mode = mBoot
  · rw [Lane.boundary_boot hb]
    exact h.stays (.newCycle (.postureStep (.refl _)))
  · rw [Lane.boundary_run hb]
    exact h.stays (.newCycle (.boundaryTail (.wrAbove (.sy (.refl _)) (by decide))))

end

/-! ### Commands and steps -/

/-- What a step that is about a lane makes of it: the mode it had, or one that a row of Table 1.2 leads to. -/
structure Lane.Goes (c : Option Instr) (l t : Lane) : Prop where
  mode : t.mode = l.mode ∨ modeRow c l.mode t.mode = true
  waits : l.waitsRight → t.waitsRight

section
variable {c : Option Instr} {may : Bool} {m : Nat} {l t : Lane}

theorem Lane.Goes.refl (l : Lane) : l.Goes c l := ⟨.inl rfl, id⟩

theorem Lane.Goes.ite {p : Prop} {_ : Decidable p} {a b : Lane} (ha : l.Goes c a) (hb : l.Goes c b) : l.Goes c (if p then a else b) := by
  split
  · exact ha
  · exact hb

/-- A restart leads from SAFE-HOLD or SERVICE to BOOT, whatever the step. -/
theorem Lane.Stays.goes (h : l.Stays may t) : l.Goes c t := by
  refine ⟨h.mode.imp_right fun ⟨_, hl, hb⟩ => ?_, h.waits⟩
  rcases Lane.mayRestart_iff.mp hl with hm | hm <;> simp [modeRow, hb, hm]

theorem Lane.Lands.goes (h : l.Lands m t) (row : modeRow c l.mode m = true) : l.Goes c t := ⟨.inr (h.mode ▸ row), h.waits⟩

theorem Lane.MayHold.goes {i : LaneId} (h : l.MayHold t) : l.Goes (some (.faultMessageAccept i)) t :=
  h.elim (·.goes) fun hl => hl.goes (by simp [modeRow])

theorem Lane.imageLock_goes {i : LaneId} (l : Lane) : l.Goes (some (.imageLock i)) l.imageLock :=
  l.imageLock_lands.elim (·.goes) fun ⟨hm, hl⟩ => hl.goes (by rw [hm]; rfl)

theorem Lane.partDecide_goes {i : LaneId} (l : Lane) : l.Goes (some (.partitionDecision i)) l.partDecide :=
  l.partDecide_lands.elim (·.goes) fun ⟨hm, hl⟩ => hl.goes (by simp [modeRow, hm])

/-- The announced mode that ARMING, OPERATE and DEGRADED take is along a row of Table 1.2. -/
theorem Lane.takenMode_row (l : Lane) (i : LaneId) (d0 d1 : Fin 23) :
    l.takenMode = l.mode ∨ modeRow (some (.outerCycleBoundary i d0 d1)) l.mode l.takenMode = true := by
  unfold Lane.takenMode
  split
  case isTrue hm =>
    split
    case isTrue hc =>
      refine .inr ?_
      rw [hm]
      split
      · rfl
      · rcases hc.2.2 with ha | ha <;> rw [ha] <;> rfl
    case isFalse => exact .inl rfl
  case isFalse =>
    split
    case isTrue hm =>
      rw [hm]
      split
      · exact .inr rfl
      · exact .inl rfl
    case isFalse =>
      split
      case isTrue hm =>
        rw [hm]
        split
        · exact .inr rfl
        · exact .inl rfl
      case isFalse => exact .inl rfl

/-- The lane may enter SERVICE from a live mode and from SAFE-HOLD. -/
theorem Lane.mode_of_mayService (h : l.mayService = true) : (modeLive l.mode || decide (l.mode = mSafeHold)) = true := by
  simp only [Lane.mayService, Bool.and_eq_true, Bool.or_eq_true, decide_eq_true_eq] at h
  rcases h with ⟨-, ⟨hm, -⟩ | ⟨(hm | hm) | hm, -⟩⟩ <;> rw [hm] <;> rfl

theorem Lane.boundaryMode_row (l : Lane) (i : LaneId) (d0 d1 : Fin 23) :
    l.boundaryMode = l.mode ∨ modeRow (some (.outerCycleBoundary i d0 d1)) l.mode l.boundaryMode = true := by
  unfold Lane.boundaryMode
  split
  case isTrue hc => exact .inr (by simp [modeRow, hc.1])
  case isFalse =>
    split
    case isTrue hc =>
      split
      · refine .inr ?_
        rcases Lane.mayRestart_iff.mp hc.2 with hm | hm <;> simp [modeRow, hm]
      · exact .inl rfl
    case isFalse =>
      split
      · exact .inl rfl
      · split
        case isTrue hc => exact .inr (by simp [modeRow, Lane.mode_of_mayService hc.2])
        case isFalse => exact l.takenMode_row i d0 d1

theorem Lane.boundary_goes (l : Lane) (i : LaneId) (d0 d1 : Fin 23) (fresh : Bool) :
    l.Goes (some (.outerCycleBoundary i d0 d1)) (l.boundary d0 d1 fresh) := by
  obtain ⟨hmode, hwaits⟩ := l.boundary_lands d0 d1 fresh
  have hrow := (l.boundaryHead d0 d1).boundaryMode_row i d0 d1
  rw [(l.boundaryHead_stays d0 d1).mode_eq, ← hmode] at hrow
  exact ⟨hrow, hwaits⟩

end

/-- An outcome of a command on lane i: no other lane changes, and lane i goes along a row of Table 1.2 if its mode changes at all. -/
def State.Goes (s : State) (i : LaneId) (c : Instr) (o : Host.Outcome State Fault Refusal) : Prop :=
  ∃ f : Lane → Lane, (∀ l : Lane, l.Goes (some c) (f l)) ∧ o = .next (s.onLane i f)

section
variable {s : State} {i : LaneId} {c : Instr} {f : Lane → Lane}

theorem State.actAo_goes (hf : ∀ l : Lane, l.Goes (some c) (f l)) : s.Goes i c (s.actAo i f) :=
  ⟨_, fun l => .ite (hf l) (.refl l), s.actAo_gate i f⟩
theorem State.actWake_goes (hf : ∀ l : Lane, l.Goes (some c) (f l)) : s.Goes i c (s.actWake i f) :=
  ⟨_, fun l => .ite (hf l) (.refl l), s.actWake_gate i f⟩
theorem State.act_goes (hf : ∀ l : Lane, l.Goes (some c) (f l)) : s.Goes i c (s.act i f) :=
  ⟨_, fun l => .ite (hf l) (.refl l), s.act_gate i f⟩
end

section
variable {s : State} {i : LaneId} {c : Instr} {f : Lane → Lane} (hf : ∀ {l t : Lane}, l.Stays true t → l.Stays true (f t))
include hf

theorem State.actAo_stays : s.Goes i c (s.actAo i f) := State.actAo_goes fun l => (hf (.refl l)).goes
theorem State.actWake_stays : s.Goes i c (s.actWake i f) := State.actWake_goes fun l => (hf (.refl l)).goes
theorem State.actDie_stays : s.Goes i c (s.actDie i f) := State.actAo_stays fun h => .inDie h fun _ hk => hf hk
theorem State.actPin_stays {ok : Lane → Bool} {pin : Lane → Lane} (hp : ∀ {l t : Lane}, l.Stays true t → l.Stays true (pin t)) :
    s.Goes i c (s.actPin i ok pin f) := State.actAo_stays fun h => .ite (hf h) (hp h)
theorem State.act_stays : s.Goes i c (s.act i f) := State.act_goes fun l => (hf (.refl l)).goes
theorem State.actD_stays {d : Dom} : s.Goes i c (s.actD i d f) :=
  ⟨_, fun l => .ite (hf (.refl l)).goes (.refl l), s.actD_gate i d f⟩
theorem State.actX_stays {x : Ax} {d : Dom} : s.Goes i c (s.actX i x d f) :=
  ⟨_, fun l => .ite (hf (.refl l)).goes (.refl l), s.actX_gate i x d f⟩
theorem State.actTq_stays {x : Ax} : s.Goes i c (s.actTq i x f) :=
  ⟨_, fun l => .ite (hf (.refl l)).goes (.refl l), s.actTq_gate i x f⟩
theorem State.accD_stays {d : Dom} {r : RegAcc} : s.Goes i c (s.accD i d r f) :=
  ⟨_, fun l => .ite (.ite (hf (.refl l)).goes (Lane.Stays.goes (may := true) (.downAccess (.refl l)))) (.refl l), s.accD_gate i d r f⟩
theorem State.accX_stays {x : Ax} {d : Dom} {r : RegAcc} : s.Goes i c (s.accX i x d r f) :=
  ⟨_, fun l => .ite (.ite (hf (.refl l)).goes (Lane.Stays.goes (may := true) (.downAccess (.refl l)))) (.refl l), s.accX_gate i x d r f⟩
theorem State.accTq_stays {x : Ax} {r : RegAcc} : s.Goes i c (s.accTq i x r f) :=
  ⟨_, fun l => .ite (.ite (hf (.refl l)).goes (Lane.Stays.goes (may := true) (.downAccess (.refl l)))) (.refl l), s.accTq_gate i x r f⟩
end

/-- Every command leads its lane along a row of Table 1.2, if it changes the mode: the rule of what the command does, one command a line. -/
theorem exec_goes (c : Instr) (s : State) : s.Goes c.lane c (exec c s) := by
  cases c with
  | powerUp => exact State.actAo_goes fun l => l.powerUp_lands.goes rfl
  | resetRelease => exact State.actAo_goes fun l => (l.resetRelease_lands _).elim (·.goes) (·.goes rfl)
  | nrstAssert => exact State.actAo_goes fun l => l.hold_lands.goes rfl
  | supplyOutOfRange => exact State.actAo_goes fun l => (l.hold_lands.stays (.clr (.refl _))).goes rfl
  | vbatLow => exact State.act_stays fun h => .vbatLow h
  | vbatBrownOut => exact State.actAo_goes fun l => l.brownOut_lands.goes rfl
  | pllLock => exact State.actWake_stays fun h => .pllLock h
  | sweepEnd => exact State.act_stays fun h => .sweepEnd h
  | imageLoadEnd => exact State.act_stays fun h => .imageLoad h
  | imageLock => exact State.act_goes Lane.imageLock_goes
  | gateDriverCheckEnd => exact State.act_stays fun h => .gdCheckEnd h
  | outerCycleBoundary => exact State.act_goes fun l => .ite (l.boundary_goes _ _ _ _) (.refl l)
  | armTimeout => exact State.act_stays fun h => .armTimeout h
  | degradedTimeExpiry => exact State.act_stays fun h => .degExpiry h
  | dieTemperatureHold => exact State.act_stays fun h => .dieHold h
  | commandAgeLimit => exact State.act_stays fun h => .cmdAge h
  | autoRestart => exact State.act_stays fun h => .autoRestart h
  | partitionDecision => exact State.act_goes Lane.partDecide_goes
  | leInnerPeriod => exact State.actX_stays fun h => .lePeriod h
  | leOpen => exact State.accX_stays fun h => .leOpenReq h
  | leClose => exact State.accX_stays fun h => .leCloseReq h
  | leIntclr => exact State.accX_stays fun h => .leIntClr h
  | leCntclr => exact State.accX_stays fun h => .leCntClr h
  | leOwWrite => exact State.accX_stays fun h => .leOwWrite h
  | leLvWrite => exact State.accX_stays fun h => .leLvWrite h
  | leOpenmaxExpiry => exact State.actX_stays fun h => .leOpenMax h
  | modReload => exact State.actX_stays fun h => .reload h
  | modWriteStageWrite => exact State.accX_stays fun h => .stageWrite h
  | modCommit => exact State.accX_stays fun h => .modCommit h
  | modDiscard => exact State.accX_stays fun h => .modDiscard h
  | modPasson => exact State.accX_stays fun h => .setMd h
  | modPassoff => exact State.accX_stays fun h => .setMd h
  | modCntclr => exact State.accX_stays fun h => .modCntClr h
  | delayLineCalibration => exact State.actX_stays fun h => .hrCal h
  | tripOnset => exact State.actPin_stays (fun h => .ocOnset h) (fun h => .tripAway h)
  | tripInputInactive => exact State.actPin_stays (fun h => .tripOff h) (fun h => .tripGone h)
  | auxWindowStart => exact State.actD_stays fun h => .auxStart h
  | auxWindowEnd => exact State.actD_stays fun h => .auxEnd h
  | modTripclr => exact State.accD_stays fun h => .tripClr h
  | blankcntRead => exact State.accD_stays fun h => .blankRead h
  | tqDecision => exact State.actTq_stays fun h => .tqDecision h
  | alignTimerExpiry => exact State.actTq_stays fun h => .alignExpiry h
  | holdTimerExpiry => exact State.actTq_stays fun h => .holdExpiry h
  | lowSpeedTimerExpiry => exact State.actTq_stays fun h => .lowExpiry h
  | catchPulse => exact State.actTq_stays fun h => .catchPulse h
  | catchTimeout => exact State.actTq_stays fun h => .catchTimeout h
  | tqOwWrite => exact State.accTq_stays fun h => .tqOwWrite h
  | tqCntclr => exact State.accTq_stays fun h => .tqCntClr h
  | gateEnableRequest => exact State.accX_stays fun h => .gateEnable h
  | gateEnableDrop => exact State.accX_stays fun h => .gateDrop h
  | gdSafeRequest => exact State.accX_stays fun h => .axisSafe h
  | gdCntclr => exact State.accX_stays fun h => .gdCntClr h
  | interlockRefusal => exact State.actX_stays fun h => .interlock h
  | minimumGapDelay => exact State.actX_stays fun h => .bump h
  | hardShort => exact State.actDie_stays fun h => .ite (.hardShort h) h
  | cpuvChange => exact State.actDie_stays fun h => .ite (.cpuvChange h) h
  | keepAliveLoss => exact State.actDie_stays fun h => .keepAliveLoss h
  | keepAliveReceive => exact State.actDie_stays fun h => .ite h (.keepAlive h)
  | ov1Assert => exact State.actDie_stays fun h => .ov1Assert h
  | ov1Release => exact State.actDie_stays fun h => .ov1Release h
  | ov2Assert => exact State.actDie_stays fun h => .ov2Assert h
  | ov2Release => exact State.actDie_stays fun h => .ov2Release h
  | chopperPeriod => exact State.actDie_stays fun h => .chopPeriod h
  | chopperOnEnd => exact State.actDie_stays fun h => .chopOnEnd h
  | chopperWatchExpiry => exact State.actDie_stays fun h => .chopWatch h
  | chopperOvercurrent => exact State.actDie_stays fun h => .chopOver h
  | dlChclr => exact State.act_stays fun h => .chopClr h
  | dlCntclr => exact State.act_stays fun h => .setFld h
  | commutatorHallChange => exact State.actX_stays fun h => .ite (.commHall h) h
  | monitorConversion => exact State.actD_stays fun h => .monitor h
  | adCntclr => exact State.accX_stays fun h => .setFld h
  | hallEdge => exact State.actPin_stays (fun h => .hallEdge h) fun h => .ite (.setFb h) h
  | neighbourCode => exact State.actX_stays fun h => .ite (.nbCode h) h
  | sincosSample => exact State.actX_stays fun h => .scSample h
  | positionCompareTick => exact State.actX_stays fun h => .posTick h
  | compareWrite => exact State.accX_stays fun h => .cmpWrite h
  | fbPosadjWrite => exact State.accX_stays fun h => .posAdj h
  | fbFltclr => exact State.accX_stays fun h => .fltClr h
  | readmission => exact State.actX_stays fun h => .readmit h
  | fbCntclr => exact State.accX_stays fun h => .setFld h
  | supplyOvercurrent => exact State.actD_stays fun h => .supplyOc h
  | supplyUndervoltage => exact State.actD_stays fun h => .supplyUv h
  | sfSupplyClr => exact State.accD_stays fun h => .supplyClr h
  | supplyPulseStart => exact State.actD_stays fun h => .pulseStart h
  | pulseCheck => exact State.actD_stays fun h => .pulseCheck h
  | crossShortCheck => exact State.actD_stays fun h => .crossCheck h
  | pulseMaskEnd => exact State.actD_stays fun h => .maskEnd h
  | boundaryCommit => exact State.act_stays fun h => .commitBoundary h
  | intermediateCommit => exact State.act_stays fun h => .ite (.coreStore h) h
  | pairMismatch => exact State.actD_stays fun h => .mismatch h
  | pcSplit => exact State.actD_stays fun h => .ite (.pairApply (.pc h)) h
  | pcRejoin => exact State.actD_stays fun h => .ite (.pairApply (.pc h)) h
  | pcCntclr => exact State.actD_stays fun h => .pcCntClr h
  | linkLossOfLock => exact State.actD_stays fun h => .linkLoss h
  | blockLock => exact State.actD_stays fun h => .ite (.set h) h
  | linkUp => exact State.actD_stays fun h => .ite (.linkUp h) h
  | messageForward => exact State.actD_stays fun h => .glPass h
  | syncReceive => exact State.actD_stays fun h => .syncIn h
  | heartbeatReceive => exact State.actD_stays fun h => .heartIn h
  | heartbeatDue => exact State.actD_stays fun h => .heartDue h
  | ftannReceive => exact State.actD_stays fun h => .ftannIn h
  | claimReceive => exact State.actD_stays fun h => .claimIn h
  | abdicateReceive => exact State.actD_stays fun h => .abdicateIn h
  | handoverReceive => exact State.actD_stays fun h => .handoverIn h
  | commandReceive => exact State.actD_stays fun h => .commandIn h
  | cfghashReceive => exact State.actD_stays fun h => .hashIn h
  | statecopyReceive => exact State.actD_stays fun h => .copyIn h
  | electionWindowEnd => exact State.actD_stays fun h => .windowEnd h
  | voteTimeout => exact State.actD_stays fun h => .voteTimeout h
  | glAbdicate => exact State.actD_stays fun h => .ite (.glSignal (.gl h)) h
  | glHandgo => exact State.actD_stays fun h => .ite (.glSignal (.gl h)) h
  | handoverTimeout => exact State.actD_stays fun h => .handTimeout h
  | glElig => exact State.actD_stays fun h => .glElig h
  | glInelig => exact State.actD_stays fun h => .glInelig h
  | glCntclr => exact State.actD_stays fun h => .glCntClr h
  | faultMessageAccept => exact State.actWake_goes fun l => .ite (l.acceptLpo_mayHold.goes) (.ite (.refl l) l.acceptMsg_mayHold.goes)
  | fcRearm => exact State.actD_stays fun h => .rearm h
  | fcCntclr => exact State.actD_stays fun h => .fcCntClr h
  | fcDumpdone => exact State.actD_stays fun h => .dumpDone h
  | fcNbfree => exact State.actD_stays fun h => .nbFree h
  | faultInjection => exact State.actD_stays fun h => .injectGo h
  | lanternToggle => exact State.act_stays fun h => .lantToggle h
  | lanternTend => exact State.actD_stays fun h => .tend h
  | tendTimeout => exact State.actD_stays fun h => .tendExpiry h
  | neighbourLanternEdge => exact State.actD_stays fun h => .watchEdge h
  | neighbourWatchTimeout => exact State.actD_stays fun h => .watchTimeout h
  | dumpContextStart => exact State.actD_stays fun h => .dcxStart h
  | dumpContextTimeout => exact State.actD_stays fun h => .dcxTimeout h
  | dumpEngineStart => exact State.actD_stays fun h => .dumpStart h
  | dumpAnswerTimeout => exact State.actD_stays fun h => .dumpTimeout h
  | dumpDataSend => exact State.actD_stays fun h => .dumpSend h
  | dumpOfferReceive => exact State.actD_stays fun h => .offerIn h
  | dumpAcceptReceive => exact State.actD_stays fun h => .dumpAccept h
  | dumpRefuseReceive => exact State.actD_stays fun h => .dumpRefuse h
  | dumpDataReceive => exact State.actD_stays fun h => .dataIn h
  | dumpEndReceive => exact State.actD_stays fun h => .endIn h
  | dumpStoreComplete => exact State.actD_stays fun h => .rxStored h
  | dumpReceiveTimeout => exact State.actD_stays fun h => .rxTimeout h
  | dumpDoneReceive => exact State.actD_stays fun h => .dumpDoneIn h
  | scPost => exact State.actD_stays fun h => .domainsFollow (.scPost h)
  | scEnter => exact State.actD_stays fun h => .scEnter h
  | scNext => exact State.actD_stays fun h => .domainsFollow (.scNext h)
  | scCntclr => exact State.actD_stays fun h => .scCntClr h
  | flowEnableWrite => exact State.actD_stays fun h => .flowEnWrite h
  | timerArm => exact State.actD_stays fun h => .domainsFollow (.timerArm h)
  | timerInsertion => exact State.actD_stays fun h => .domainsFollow (.timerInsert h)
  | timerExpiry => exact State.actD_stays fun h => .domainsFollow (.timerExpire h)
  | headroomUpdate => exact State.actD_stays fun h => .domScheduler (.headroomUpdate h)
  | deferralAge => exact State.actD_stays fun h => .deferralAge h
  | hqPutWrite => exact State.actD_stays fun h => .hqPutWrite h
  | hqPush => exact State.actD_stays fun h => .hqPush h
  | hqTake => exact State.actD_stays fun h => .hqTake h
  | hqMark => exact State.actD_stays fun h => .hqMark h
  | hqRewind => exact State.actD_stays fun h => .hqRewind h
  | hqCntclr => exact State.actD_stays fun h => .hqCntClr h
  | hostNop => exact State.act_stays fun h => .hostFrame h
  | hostPut => exact State.act_stays fun h => .hostFrame h
  | hostStatus => exact State.act_stays fun h => .hostFrame h
  | hostBadCommand => exact State.act_stays fun h => .hostFrame h
  | enterService => exact State.act_stays fun h => .hostFrame h
  | restart => exact State.act_stays fun h => .hostFrame h
  | handover => exact State.act_stays fun h => .hostFrame h
  | ceiling => exact State.act_stays fun h => .hostFrame h
  | integratorCode => exact State.act_stays fun h => .hostFrame h
  | hpIrqset => exact State.act_stays fun h => .set h
  | hpIrqclr => exact State.act_stays fun h => .irqClr h
  | hpCntclr => exact State.act_stays fun h => .setFld h
  | cycleStart => exact State.actD_stays fun h => .cycleStart h
  | syncLossExpiry => exact State.actD_stays fun h => .syncLoss h
  | masterTakeExpiry => exact State.actD_stays fun h => .masterTake h
  | portMute => exact State.actD_stays fun h => .portMute h
  | portUnmute => exact State.actD_stays fun h => .portUnmute h
  | partnerAbsence => exact State.actD_stays fun h => .partnerAbsent h
  | fetchPoint => exact State.actD_stays fun h => .fetch h
  | frameSend => exact State.actD_stays fun h => .frameSend h
  | ttTxrdy => exact State.accD_stays fun h => .txReady h
  | crelasFrameReceive => exact State.actD_stays fun h => .rxFrame h
  | ttUnmute => exact State.accD_stays fun h => .unmuteMask h
  | ttCntclr => exact State.accD_stays fun h => .ttCntClr h
  | portLinkChange => exact State.actD_stays fun h => .linkChange h
  | canFrameReceive => exact State.actD_stays fun h => .cnReceive h
  | canFrameSent => exact State.actD_stays fun h => .cnSent h
  | canProtocolError => exact State.actD_stays fun h => .cnError h
  | busOffRecovery => exact State.actD_stays fun h => .cnRecovered h
  | cnTxreq => exact State.accD_stays fun h => .cnReq h
  | cnRecover => exact State.accD_stays fun h => .cnRecover h
  | cnCntclr => exact State.accD_stays fun h => .setFld h
  | pdReqWrite => exact State.act_stays fun h => .pdReqWrite h
  | domainTransition => exact State.act_stays fun h => .domDone h
  | sleep => exact State.actD_stays fun h => .sleep h
  | lpoCalibrationEnd => exact State.act_stays fun h => .calEnd h
  | ckCalgo => exact State.act_stays fun h => .calGo h
  | ckDivgo => exact State.act_stays fun h => .divGo h
  | rootLoss => exact State.act_stays fun h => .rootLoss h
  | frequencyCheck => exact State.act_stays fun h => .freqCheck h
  | whistleFrame => exact State.actAo_stays fun h => .inAo h (fun _ hk => .whistle hk)
  | slowAlarm => exact State.actAo_stays fun h => .inAo h (fun _ hk => .ite (.slowAlarm hk) hk)
  | safetyInputWake => exact State.actAo_stays fun h => .inAo h (fun _ hk => .ite (.wake hk) hk)
  | wkCntclr => exact State.act_stays fun h => .setFld h
  | voltageRequest => exact State.act_stays fun h => .pmRequest (.wr h)
  | voltageAcknowledge => exact State.act_stays fun h => .voltageAck h
  | voltageAckTimeout => exact State.act_stays fun h => .voltageTimeout h
  | transactionFail => exact State.act_stays fun h => .pmFail h
  | transactionRetry => exact State.act_stays fun h => .pmRepeat h
  | operationWrite => exact State.act_stays fun h => .pmCommand (.wr (.wr h))
  | clearFaults => exact State.act_stays fun h => .pmCommand (.wr h)
  | statusWordRead => exact State.act_stays fun h => .pmCommand (.wr h)
  | operationRead => exact State.act_stays fun h => .pmCommand (.wr h)
  | pmPoll => exact State.act_stays fun h => .pmPoll h
  | pmAlert => exact State.actPin_stays (fun h => .pmAlert h) (fun h => .put h)
  | stSlice => exact State.actD_stays fun h => .sliceRequest h
  | sliceEnd => exact State.actD_stays fun h => .sliceEnd h
  | sliceBudgetExpiry => exact State.actD_stays fun h => .sliceBudgetEnd h
  | sliceAccessAbort => exact State.actD_stays fun h => .sliceAccess h
  | stSweep => exact State.actD_stays fun h => .stSweep h
  | stProggo => exact State.actD_stays fun h => .progGo h
  | stAbort => exact State.actD_stays fun h => .progAbort h
  | stCntclr => exact State.actD_stays fun h => .setFld h
  | memtokReceive => exact State.actD_stays fun h => .tokIn h
  | memtokRegen => exact State.actD_stays fun h => .tokRegen h
  | lcadv => exact State.act_stays fun h => .lcAdv h
  | lcterm => exact State.act_stays fun h => .lcTerm h
  | keyprog => exact State.act_stays fun h => .keyProg h
  | keyrev => exact State.act_stays fun h => .keyRev h
  | ftmode => exact State.act_stays fun h => .ftmOn h
  | jtagSweep => exact State.act_goes fun l => l.jtagSweep_lands.elim (·.goes) (·.goes rfl)
  | lcGo => exact State.actD_stays fun h => .lcGo h
  | lcFtmon => exact State.actD_stays fun h => .ite (.ftmOn h) h
  | otpWriteComplete => exact State.act_goes fun l => (l.otpEnd_lands _).elim (·.goes) (·.goes rfl)
  | safetyInputChange => exact State.actPin_stays (fun h => .safChange h) (fun h => .safPin h)
  | safetyDiscrepancy => exact State.actD_stays fun h => .safDiscrepancy h
  | sfDiscclr => exact State.accD_stays fun h => .discClr h
  | sfInjgo => exact State.accD_stays fun h => .injectInputs h
  | injectionPhaseEnd => exact State.actD_stays fun h => .injEnd h
  | registerWrite => exact State.actD_stays fun h => .ite (.coreWrite h) (.divApply (.devWrite h))
  | pmbusTransactionEnd => exact State.act_stays fun h => .pmEnd h
  | gdSliceInjection => exact State.actD_stays fun h => .gdInject h
  | eccError => exact State.actD_stays fun h => .eccError h
  | mramControllerFailure => exact State.actD_stays fun h => .raise h
  | busParityError => exact State.actD_stays fun h => .raise h
  | deviceAccessTimeout => exact State.actD_stays fun h => .busError (.raise h)
  | coreDebug => exact State.actD_stays fun h => .ite (.debug h) h

/-- So does every step, with a command at the front or without. -/
theorem step_goes {s t : State} (h : step s = .next t) (i : LaneId) : (s.lane i).Goes s.pending.head? (t.lane i) := by
  match hp : s.pending with
  | [] =>
    rw [step_idle hp] at h
    injection h with ht
    rw [← ht, State.lane_tick]
    exact .ite (Lane.Stays.goes (.tick (.refl _))) (.refl _)
  | c :: r =>
    obtain ⟨f, hf, he⟩ := exec_goes c { s with pending := r }
    rw [step_front hp, he] at h
    injection h with ht
    rw [← ht, State.lane_onLane]
    exact .ite (hf _) (.refl _)

/-- Settles O26: every function a command or the tick is made of keeps the mode but for those of the rows, and at a boundary the mode is the one
that `Lane.boundaryMode` names. -/
theorem ownModeFollowsItsTable : Obligations.OwnModeFollowsItsTable := by
  unfold Obligations.OwnModeFollowsItsTable
  refine ⟨fun s t h => ⟨fun hw i hi => ?_, fun i => (step_goes h i).mode⟩, fun s i d0 d1 hr ht => ?_⟩
  · exact Lane.mayRestart_iff.mp ((step_goes h i).waits (fun hl => Lane.mayRestart_iff.mpr (hw i hl)) hi)
  · have hstay := (s.lane i).boundaryHead_stays d0 d1
    refine ⟨_, exec_outerCycleBoundary hr ht, hstay.mode_eq, ?_⟩
    rw [((s.lane i).boundary_lands d0 d1 (s.cmdFresh i)).mode]
    simp only [Lane.boundaryMode, Lane.takenMode, Lane.mayRestart_iff, hstay.mode_eq]
    rfl

end Sys2Proof.Machine
end
